-- ==== Sys2Proof/Word.lean ====
section
/-! DEFINITION. The word types of the block and their plainest arithmetic. -/

namespace Sys2Proof

abbrev Byte := BitVec 8

/-- A die number (01 R14, R16): three bits of every address; a part fits 2, 4 or 8 of them (00 R2). -/
abbrev DieId := Fin 8

/-- A head number within a die (00 R14). -/
abbrev HeadId := Fin 24

/-- The two actuators of a die (00 R14). -/
inductive Act where
  | A
  | B
deriving DecidableEq, Repr, Inhabited

/-- The three motor phases (03 R79). -/
inductive Phase where
  | u
  | v
  | w
deriving DecidableEq, Repr, Inhabited

/-- One logical block of 4,096 bytes (00 R15), the byte at offset 0 in the least significant bits (00 R9). -/
abbrev Block := BitVec 32768

def zeroBlock : Block := 0

/-- Little-endian bytes of a number (00 R9). -/
def leBytes : Nat → Nat → List Byte
  | 0, _ => []
  | n + 1, v => BitVec.ofNat 8 v :: leBytes n (v / 256)

/-- The number that little-endian bytes spell (00 R9). -/
def ofLeBytes : List Byte → Nat
  | [] => 0
  | b :: bs => b.toNat + 256 * ofLeBytes bs

/-- Bytes of a logical block, lowest address first. -/
def blockBytes (b : Block) : List Byte := leBytes 4096 b.toNat

def blockOfBytes (bs : List Byte) : Block := BitVec.ofNat 32768 (ofLeBytes (bs.take 4096))

/-- `count` bytes of `bs` from `off`, padded with zero bytes where `bs` ends. -/
def sliceBytes (bs : List Byte) (off count : Nat) : List Byte :=
  let x := (bs.drop off).take count
  x ++ List.replicate (count - x.length) 0

/-- Clamp to the symmetric range ±m. -/
def clampSym (m x : Int) : Int := max (-m) (min m x)

end Sys2Proof
end

