-- ==== Sys2Proof/Syntax.lean ====
section
/-! DEFINITION. The commands the block takes: one constructor per row of spec/opcode_table.json.
A command carries what comes from OUTSIDE the block (bus writes, fetched host memory, message bodies, sampled
signals, outcomes of the medium); what the block already holds it reads from its state (log 17). -/

namespace Sys2Proof

/-- The actuator that owns a head (00 R14). -/
def HeadId.act (h : HeadId) : Act := if h.val < 12 then .A else .B

/-- The regions the fill engine writes (15 R460). -/
inductive FillRegion where
  | sram | coreLocal | controlStore | dram | mapCache
deriving DecidableEq, Repr, Inhabited

/-- A segment of a scatter list as fetched from host memory (12 R388, R389). -/
structure DescList where
  addr : BitVec 64
  descs : List (BitVec 128)
deriving DecidableEq, Repr, Inhabited

/-- What an allowance message or a release frees (11 R340, R342). -/
inductive Allowance where
  | dispatchSlots | cacheBytes | dirtyBytes | journalBytes | ingressBytes | egressBytes
deriving DecidableEq, Repr, Inhabited

/-- The three sources of object accesses count as two holders (14 R443). -/
inductive Source where
  | host | manager
deriving DecidableEq, Repr, Inhabited

/-- Aligned 32-bit or 64-bit access (12 R377). -/
inductive AccessSize where
  | w32 | w64
deriving DecidableEq, Repr, Inhabited

/-- Result codes of a sector operation (06 R189). -/
inductive ChannelResult where
  | ok | recovered | unrecovered | addressMismatch | noSignal | written | abandoned
deriving DecidableEq, Repr, Inhabited

/-- What the medium and the memories on the way did with one block of a read (06 R189, 10 R320, 15 R468).
`step` is the highest ladder step the block entered (13 R405). -/
inductive BlockOutcome where
  | good (step : Nat)
  | channel (r : ChannelResult) (step : Nat)
  | huskHeaderBad
  | huskDataBad
  | memoryUncorrectable
  | hostTransferError
deriving DecidableEq, Repr, Inhabited

/-- Request classes of the fabric (01 R35). -/
inductive FabricClass where
  | request | response | urgent
deriving DecidableEq, Repr, Inhabited

/-- One timing head at one wedge (02 R56): whether its servo mark was found in its window, whether its index
field passed, and the skew-corrected accumulator value at its arrival in 2^-8 au. -/
structure WedgeArrival where
  head : HeadId
  samFound : Bool
  indexOk : Bool
  arrival : BitVec 56
deriving DecidableEq, Repr, Inhabited

/-- Classes of armed angle events (02 R64). -/
inductive AngleClass where
  | media | paced
deriving DecidableEq, Repr, Inhabited

/-- Who armed an angle event (02 R64, 07 R221). -/
inductive AngleOwner where
  | sectorStart (h : HeadId)
  | preheat (h : HeadId)
  | servoWindow (h : HeadId)
  | writeStart (h : HeadId)
  | scrubber
  | housekeeping
  | counters
  | sequencer (h : HeadId)
deriving DecidableEq, Repr, Inhabited

/-- The two forms of an angle event (02 R65). -/
inductive AngleForm where
  | absolute (stamp : BitVec 48)
  | relative (wedge : Nat) (offset : BitVec 24)
deriving DecidableEq, Repr, Inhabited

/-- The motor ADC at one PWM period (03 R86, R95, 21 R610): raw 12-bit codes. -/
structure PwmSample where
  iu : BitVec 12
  iv : BitVec 12
  iw : BitVec 12
  beu : BitVec 12
  bev : BitVec 12
  bew : BitVec 12
  bect : BitVec 12
deriving DecidableEq, Repr, Inhabited

/-- One Gray bit as its two cells show it (04 R125). -/
inductive GrayCell where
  | zero | one | ambiguous | equalSign
deriving DecidableEq, Repr, Inhabited

/-- One stripe pair of a chevron group (04 R118 to R120): arrivals from the group's start in 2^-8 au, and
whether both stripes qualified. -/
structure StripePair where
  ok : Bool
  a : Int
  b : Int
deriving DecidableEq, Repr, Inhabited

/-- What a head's demodulator saw of one wedge (04 R111, R112). -/
structure WedgeSignal where
  sam : Option (BitVec 56)
  index : BitVec 12
  gray : List GrayCell
  rro : BitVec 16
  p : List StripePair
  q : List StripePair
  late : Bool
deriving DecidableEq, Repr, Inhabited

/-- A place on a head's surface (06 R178). -/
structure SectorLoc where
  track : BitVec 22
  sector : BitVec 16
deriving DecidableEq, Repr, Inhabited

/-- A bit position at which a mark's Hamming distance was measured (06 R187). -/
structure MarkHit where
  offset : Int
  errors : Nat
deriving DecidableEq, Repr, Inhabited

/-- One read attempt of a sector as the channel saw it (06 R187 to R191). -/
structure ReadAttempt where
  signal : Bool
  split : Bool
  sync : List MarkHit
  resync : List MarkHit
  parityOk : Bool
  unsatisfied : Nat
  gainNominal : Bool
  iterations : Nat
  crcOk : Bool
  tagOk : Bool
deriving DecidableEq, Repr, Inhabited

/-- A calibration instance (08 R237). -/
inductive CalSel where
  | head (d : DieId) (h : HeadId)
  | act (d : DieId) (a : Act)
  | die (d : DieId)
deriving DecidableEq, Repr, Inhabited

/-- The settings that trained best in one region (08 R248): cutoff, boost, 32 equaliser taps. -/
structure ChannelFit where
  cutoff : Nat
  boost : Nat
  taps : List Int
deriving DecidableEq, Repr, Inhabited

/-- What a calibration measured on the HDA (08 R248 to R254). -/
inductive CalMeasure where
  /-- Servo preset, the fit of each region, and the mean sync-mark offsets read back in turn: region, 2^-8 bit -/
  | channelAdapt (preset : BitVec 32) (fits : List ChannelFit) (offsets : List (Nat × Int))
  /-- Contact code of each region; none where 1,023 was reached without contact -/
  | heater (contacts : List (Option Nat))
  /-- Lowest code that meets the target and smallest PREHEAT_FRAC, per region; mean PD code -/
  | assistOpt (codes preheat : List Nat) (pd : Nat)
  /-- 0.5th and 99.5th percentiles of groups P and Q of bands 0 to 15 in turn, Q16.16 au; INTERP_CORR -/
  | chevronGeom (percentiles : List (Int × Int)) (corr : List Int)
  /-- Magnitude of the Fourier component at the injected frequency, Q16.16 LSB -/
  | maGain (x : Nat)
  /-- Open-loop gain at the crossover frequency, Q16.16 -/
  | vcmTorque (gain : Nat)
  /-- Sums of 65,536 shunt samples of U, V, W -/
  | senseOffset (u v w : Nat)
  /-- BEMF_SYMMETRY and HOLDUP_CAP: what the run itself has gathered -/
  | gathered
deriving DecidableEq, Repr, Inhabited

/-- What a head's statistics gave over one quality window (08 R262). -/
structure HeadFigures where
  head : HeadId
  sectors : Nat
  trackingRevs : Nat
  wrongBits : Nat
  totalBits : Nat
  sumSquaredError : Nat
  dataBits : Nat
  pesVariance : Nat
  eye999 : Nat
deriving DecidableEq, Repr, Inhabited

/-- Outcome of a memory check (15 R457). -/
inductive EccOutcome where
  | correct | corrected | poisoned | uncorrectable
deriving DecidableEq, Repr, Inhabited

/-- One word the scrubber read (15 R464, R465). -/
structure ScrubWord where
  region : Fin 10
  addr : BitVec 64
  outcome : EccOutcome
  syndrome : BitVec 8
  rewrittenSince : Bool
deriving DecidableEq, Repr, Inhabited

/-- A word that a consumer found uncorrectable (15 R457, R467): region, address, whether it was poisoned, syndrome. -/
structure BadWord where
  region : Fin 10
  addr : BitVec 64
  poisoned : Bool
  syndrome : BitVec 8
deriving DecidableEq, Repr, Inhabited

/-- What the checks of a map request find (15 R480, R481): the entry's CRC good; bad, and good after the first refetch or
rebuild; bad until rebuilt as restore would; good from no source (zone of a frame index entry, none for a descriptor or
segment table entry); the tag parity of a way of the set bad. -/
inductive MapCheck where
  | good | bad | stillBad
  | lost (zone : Option Nat)
  | tagParity (way : Fin 8)
deriving DecidableEq, Repr, Inhabited

/-- Which data a halted DMA channel carried (15 R468). `block` is the die-local block number. -/
inductive DmaFault where
  | hostRead (asn lba : Nat)
  | fabricRead (asn lba : Nat)
  | cleanBlock (block : Nat)
  | dirtyDestage (block : Nat)
  | dirtyAcorn (block : Nat)
  | compression (lane : Fin 16)
  | decompression (lane : Fin 16)
deriving DecidableEq, Repr, Inhabited

/-- Why a core was restarted (16 R486). -/
inductive TrapCause where
  | illegal | misaligned | forbidden
  | uncorrectable (w : BadWord)
deriving DecidableEq, Repr, Inhabited

/-- Engine fault kinds other than a clause overrun (16 R493, R505). -/
inductive EngFault where
  | illegal | address
  | uncorrectable (w : BadWord)
deriving DecidableEq, Repr, Inhabited

/-- The commands of the block, in the table's order. -/
inductive Instr where
  /-- PORST_N_RISE (R599). -/
  | porstNRise (sa : BitVec 2) (boot : BitVec 2)
  /-- PORST_N_ASSERT (R600). -/
  | porstNAssert
  /-- SUPPLY_MONITOR_RESET (R601). -/
  | supplyMonitorReset (d : DieId)
  /-- MEMORY_FILL_DONE (R460). -/
  | memoryFillDone (d : DieId) (region : FillRegion)
  /-- PACKAGE_RESET (R570). -/
  | packageReset
  /-- PACKAGE_WARM_RESET (R369). -/
  | packageWarmReset
  /-- WARM_RESET_DESTAGE_LIMIT (R571). -/
  | warmResetDestageLimit (d : DieId)
  /-- DIE_RESET_REJOIN (R570). -/
  | dieResetRejoin (d : DieId)
  /-- DIE_RESET_ISOLATE (R583). -/
  | dieResetIsolate (d : DieId)
  /-- RECONCILIATION (R582). -/
  | reconciliation (d : DieId) (ringIntact mediaReadable : Bool)
  /-- BOOT_HEAD_LOAD (R573). -/
  | bootHeadLoad (d : DieId)
  /-- BOOT_MEDIA_REPLAY (R573). -/
  | bootMediaReplay (d : DieId) (mediaReadable : Bool)
  /-- BOOT_STALENESS_CHECK (R573). -/
  | bootStalenessCheck (d : DieId)
  /-- BOOT_READY (R574). -/
  | bootReady
  /-- READY_TIMEOUT (R575). -/
  | readyTimeout
  /-- DIE_START_LIMIT (R575). -/
  | dieStartLimit (d : DieId)
  /-- HDA_POWER_TARGET_WRITE (R577). -/
  | hdaPowerTargetWrite (d : DieId) (v : BitVec 8)
  /-- VERB_TIMEOUT (R587). -/
  | verbTimeout (asn : Nat)
  /-- SQ_TAIL_DOORBELL (R382). -/
  | sqTailDoorbell (q : Nat) (v : BitVec 32)
  /-- CQ_HEAD_DOORBELL (R385). -/
  | cqHeadDoorbell (q : Nat) (v : BitVec 32)
  /-- ADMIT_VERB (R339). -/
  | admitVerb (q : Nat) (entry : BitVec 512) (lists : List DescList) (src : List (BitVec 128))
  /-- SEGMENT_DRAW_REQUEST (R340). -/
  | segmentDrawRequest (q : Nat)
  /-- ALLOWANCE_UPDATE (R340). -/
  | allowanceUpdate (d : DieId) (kind : Allowance) (amount : Nat)
  /-- RESOURCE_RELEASE (R342). -/
  | resourceRelease (d : DieId) (kind : Allowance) (amount : Nat)
  /-- PCIE_PERST_ASSERT (R616). -/
  | pciePerstAssert
  /-- FUNCTION_LEVEL_RESET (R376). -/
  | functionLevelReset
  /-- D3HOT_ENTRY (R376). -/
  | d3hotEntry
  /-- PKG_ENABLE (R379). -/
  | pkgEnable
  /-- PKG_DISABLE (R378). -/
  | pkgDisable
  /-- SHUTDOWN_NORMAL (R378). -/
  | shutdownNormal
  /-- SHUTDOWN_ABRUPT (R378). -/
  | shutdownAbrupt
  /-- SHUTDOWN_COMPLETE (R378). -/
  | shutdownComplete
  /-- CQ_COALESCE_TIMEOUT (R395). -/
  | cqCoalesceTimeout (cq : Nat)
  /-- MSIX_VECTOR_UNMASK (R395). -/
  | msixVectorUnmask (v : Nat)
  /-- REGISTER_WRITE (R11). -/
  | registerWrite (addr : Nat) (size : AccessSize) (v : BitVec 64)
  /-- ANGLE_STAMP_READ (R77). -/
  | angleStampRead (d : DieId)
  /-- DIAG_WINDOW_ACCESS (R24). -/
  | diagWindowAccess (d : DieId) (off : Nat) (size : AccessSize) (wr : Option (BitVec 64))
  /-- DIAG_WINDOW_RESPONSE (R36). -/
  | diagWindowResponse (d : DieId)
  /-- OBJECT_WINDOW_GO (R446). -/
  | objectWindowGo (data : List Byte)
  /-- OBJECT_WINDOW_DONE (R446). -/
  | objectWindowDone
  /-- READ (R405). -/
  | read (asn : Nat) (d : DieId) (outs : List BlockOutcome)
  /-- WRITE (R406). -/
  | write (asn : Nat) (data : List Block)
  /-- ZONE_APPEND (R406). -/
  | zoneAppend (asn : Nat) (data : List Block)
  /-- FLUSH_DEVICE (R407). -/
  | flushDevice (asn : Nat)
  /-- FLUSH_ZONE (R407). -/
  | flushZone (asn : Nat)
  /-- VERIFY (R408). -/
  | verify (asn : Nat) (d : DieId) (outs : List BlockOutcome)
  /-- ZONE_OPEN (R275). -/
  | zoneOpen (asn : Nat)
  /-- ZONE_CLOSE (R275). -/
  | zoneClose (asn : Nat)
  /-- ZONE_FINISH (R279). -/
  | zoneFinish (asn : Nat)
  /-- ZONE_FINISH_EXECUTE (R279). -/
  | zoneFinishExecute (asn : Nat)
  /-- ZONE_RESET (R279). -/
  | zoneReset (asn : Nat)
  /-- ZONE_RESET_EXECUTE (R279). -/
  | zoneResetExecute (asn : Nat)
  /-- ZONE_SET_ATTRIBUTES (R272). -/
  | zoneSetAttributes (asn : Nat)
  /-- ZONE_OFFLINE (R281). -/
  | zoneOffline (asn : Nat)
  /-- ZONE_REPORT (R410). -/
  | zoneReport (asn : Nat)
  /-- COPY (R412). -/
  | copy (asn : Nat) (outs : List BlockOutcome)
  /-- IDENTIFY_DEVICE (R415). -/
  | identifyDevice (asn : Nat)
  /-- IDENTIFY_DIE (R416). -/
  | identifyDie (asn : Nat)
  /-- GET_LOG_ERROR (R418). -/
  | getLogError (asn : Nat)
  /-- GET_LOG_EVENT (R567). -/
  | getLogEvent (asn : Nat)
  /-- GET_LOG_TRACE (R562). -/
  | getLogTrace (asn : Nat)
  /-- GET_OBJECT (R419). -/
  | getObject (asn : Nat)
  /-- SET_OBJECT (R434). -/
  | setObject (asn : Nat) (data : List Byte)
  /-- DOMAIN_SESSION_TIMEOUT (R442). -/
  | domainSessionTimeout (d : DieId) (key : Nat)
  /-- RESTORE_DEFAULTS (R445). -/
  | restoreDefaults (v : BitVec 8)
  /-- CREATE_SQ (R380). -/
  | createSq (asn : Nat)
  /-- CREATE_CQ (R380). -/
  | createCq (asn : Nat)
  /-- DELETE_SQ (R380). -/
  | deleteSq (asn : Nat)
  /-- DELETE_CQ (R380). -/
  | deleteCq (asn : Nat)
  /-- ABORT (R423). -/
  | abort (asn : Nat)
  /-- QUEUE_RESUME_ENTRY (R394). -/
  | queueResumeEntry (asn : Nat)
  /-- QUEUE_RESUME_FLUSH (R394). -/
  | queueResumeFlush (asn : Nat)
  /-- QUEUE_RESUME_EXECUTE (R424). -/
  | queueResumeExecute (q : Nat) (entries : List (BitVec 512))
  /-- SANITIZE (R425). -/
  | sanitize (asn : Nat)
  /-- CRYPTO_ERASE (R328). -/
  | cryptoErase (d : DieId) (domain : Fin 64)
  /-- KEY_LOAD (R326). -/
  | keyLoad (asn : Nat) (blob : List Byte)
  /-- SNAPSHOT_COUNTERS_SNAPSHOT (R554). -/
  | snapshotCountersSnapshot (asn : Nat)
  /-- SNAPSHOT_COUNTERS_FREEZE (R556). -/
  | snapshotCountersFreeze (asn : Nat)
  /-- SNAPSHOT_COUNTERS_RELEASE (R556). -/
  | snapshotCountersRelease (asn : Nat)
  /-- SNAPSHOT_COMMAND_SNAPSHOT (R554). -/
  | snapshotCommandSnapshot
  /-- SNAPSHOT_COMMAND_FREEZE (R556). -/
  | snapshotCommandFreeze
  /-- SNAPSHOT_COMMAND_RELEASE (R556). -/
  | snapshotCommandRelease
  /-- SNAPSHOT_LATCH (R555). -/
  | snapshotLatch (d : DieId)
  /-- SNAPSHOT_BLOCK_RECEIVE (R555). -/
  | snapshotBlockReceive (d : DieId)
  /-- FW_DOWNLOAD (R509). -/
  | fwDownload (asn : Nat) (data : List Byte)
  /-- FW_BLOCK_WRITE (R513). -/
  | fwBlockWrite (src : Source) (data : List Byte)
  /-- FW_ACTIVATE (R517). -/
  | fwActivate (asn : Nat)
  /-- FW_REVERT (R523). -/
  | fwRevert (asn : Nat)
  /-- FW_COMMAND_ACTIVATE (R513). -/
  | fwCommandActivate (src : Source)
  /-- FW_COMMAND_REVERT (R513). -/
  | fwCommandRevert (src : Source)
  /-- FW_CLASS_CHANGEOVER (R519). -/
  | fwClassChangeover
  /-- FW_RESET_ACTIVATION_RESET (R518). -/
  | fwResetActivationReset
  /-- FW_CONFIRMED (R521). -/
  | fwConfirmed
  /-- FW_CONFIRM_WINDOW_EXPIRY (R522). -/
  | fwConfirmWindowExpiry
  /-- FW_LOCK_LAPSED (R514). -/
  | fwLockLapsed
  /-- ATTEST_NONCE_WRITE (R527). -/
  | attestNonceWrite (src : Source) (nonce : List Byte)
  /-- ATTEST_REPORT_READY (R527). -/
  | attestReportReady
  /-- MONITOR_RESTART (R528). -/
  | monitorRestart (d : DieId)
  /-- VERB_DISPATCH (R36). -/
  | verbDispatch (asn : Nat) (d : DieId)
  /-- WRITE_DATA_TO_OWNER (R23). -/
  | writeDataToOwner (asn : Nat) (d : DieId) (n : Nat) (block : Block)
  /-- READ_DATA_TO_ANCHOR (R23). -/
  | readDataToAnchor (asn : Nat) (d : DieId)
  /-- VERB_PART_COMPLETION (R22). -/
  | verbPartCompletion (asn : Nat) (d : DieId)
  /-- BOOT_IMAGE_BLOCK (R516). -/
  | bootImageBlock (d : DieId) (unit : Fin 7) (data : List Byte)
  /-- FABRIC_INVALID_MESSAGE (R36). -/
  | fabricInvalidMessage (d : DieId) (m : Fin 4) (hdr : BitVec 128)
  /-- FABRIC_CREDIT_RETURN (R343). -/
  | fabricCreditReturn (d : DieId) (m : Fin 4) (cls : FabricClass) (vc : Bool) (n : Nat)
  /-- FABRIC_LINK_DOWN (R40). -/
  | fabricLinkDown (d : DieId) (m : Fin 4)
  /-- FABRIC_LATENCY_MEASURE (R70). -/
  | fabricLatencyMeasure (d : DieId) (rtt : Nat)
  /-- PACKAGE_TIME_SEND (R69). -/
  | packageTimeSend
  /-- PACKAGE_TIME_DISTRIBUTION (R70). -/
  | packageTimeDistribution (d : DieId) (count : BitVec 64)
  /-- TIME_ALIGN_TIMEOUT (R71). -/
  | timeAlignTimeout (d : DieId)
  /-- POWER_FAIL_NOTICE (R361). -/
  | powerFailNotice (d : DieId)
  /-- EVENT_FORWARD (R500). -/
  | eventForward (d : DieId)
  /-- OBJECT_ACCESS_MESSAGE (R444). -/
  | objectAccessMessage (d : DieId)
  /-- SPINDLE_PHASE_REFERENCE_SEND (R73). -/
  | spindlePhaseReferenceSend
  /-- SPINDLE_PHASE_REFERENCE (R73). -/
  | spindlePhaseReference (d : DieId) (t0 : BitVec 64) (speed : BitVec 40)
  /-- ANGLE_WEDGE_SAMPLE (R57). -/
  | angleWedgeSample (d : DieId) (k : Nat) (samples : List WedgeArrival)
  /-- ANGLE_LOCKED (R59). -/
  | angleLocked (d : DieId)
  /-- ANGLE_LOCK_LOST (R59). -/
  | angleLockLost (d : DieId)
  /-- ANGLE_ACQUIRE_TIMEOUT (R59). -/
  | angleAcquireTimeout (d : DieId)
  /-- ANGLE_EVENT_ARM (R65). -/
  | angleEventArm (d : DieId) (cls : AngleClass) (owner : AngleOwner) (form : AngleForm)
  /-- ANGLE_EVENT_FIRE (R68). -/
  | angleEventFire (d : DieId) (id : Nat)
  /-- PWM_PERIOD (R84). -/
  | pwmPeriod (d : DieId) (x : PwmSample)
  /-- OBSERVER_VALID (R95). -/
  | observerValid (d : DieId)
  /-- OBSERVER_DIVERGED (R95). -/
  | observerDiverged (d : DieId)
  /-- PREDICT_CLAMP (R88). -/
  | predictClamp (d : DieId)
  /-- PREDICT_CLAMP_RELEASE (R88). -/
  | predictClampRelease (d : DieId)
  /-- SPIN_HANDOVER_MISMATCH (R97). -/
  | spinHandoverMismatch (d : DieId)
  /-- SPIN_START (R99). -/
  | spinStart (d : DieId)
  /-- SPIN_STOP (R99). -/
  | spinStop (d : DieId)
  /-- SPINUP_SLOT_GRANT (R104). -/
  | spinupSlotGrant
  /-- BEMF_ZERO_CROSSING (R101). -/
  | bemfZeroCrossing (d : DieId) (phase : Phase) (rising : Bool) (t : Nat)
  /-- SENSE_TIMEOUT (R101). -/
  | senseTimeout (d : DieId)
  /-- BRAKE_TIMEOUT (R99). -/
  | brakeTimeout (d : DieId)
  /-- ALIGN_TIMEOUT (R103). -/
  | alignTimeout (d : DieId)
  /-- OPEN_LOOP_TIMEOUT (R99). -/
  | openLoopTimeout (d : DieId)
  /-- SPIN_AT_SPEED (R99). -/
  | spinAtSpeed (d : DieId)
  /-- SPIN_REACQ_TIMEOUT (R106). -/
  | spinReacqTimeout (d : DieId)
  /-- SPIN_RETRACT_BRAKE (R107). -/
  | spinRetractBrake (d : DieId)
  /-- SPIN_RETRACT_BRAKE_TIMEOUT (R107). -/
  | spinRetractBrakeTimeout (d : DieId)
  /-- DEMOD_WEDGE (R128). -/
  | demodWedge (d : DieId) (h : HeadId) (x : WedgeSignal)
  /-- HEAD_MISS_WRITE_INHIBIT (R130). -/
  | headMissWriteInhibit (d : DieId) (h : HeadId)
  /-- HEAD_MISS_DROP (R130). -/
  | headMissDrop (d : DieId) (h : HeadId)
  /-- HEAD_SERVO_LOST (R130). -/
  | headServoLost (d : DieId) (h : HeadId)
  /-- HEAD_SERVO_REJOIN (R131). -/
  | headServoRejoin (d : DieId) (h : HeadId)
  /-- GRAY_MISMATCH_INVALID (R124). -/
  | grayMismatchInvalid (d : DieId) (h : HeadId)
  /-- SERVO_COLLECT (R142). -/
  | servoCollect (d : DieId)
  /-- SERVO_OVERRUN (R144). -/
  | servoOverrun (d : DieId)
  /-- COEFF_SWAP (R147). -/
  | coeffSwap (d : DieId) (a : Act)
  /-- COEFF_SWAP_APPLY (R148). -/
  | coeffSwapApply (d : DieId) (a : Act)
  /-- ACT_LOAD (R158). -/
  | actLoad (d : DieId) (a : Act)
  /-- ACT_UNLOAD (R159). -/
  | actUnload (d : DieId) (a : Act)
  /-- ACT_SEEK (R156). -/
  | actSeek (d : DieId) (a : Act) (targets : List Nat)
  /-- ACT_LOAD_TIMEOUT (R159). -/
  | actLoadTimeout (d : DieId) (a : Act)
  /-- ACT_SETTLED (R159). -/
  | actSettled (d : DieId) (a : Act)
  /-- ACT_SETTLE_FAIL (R159). -/
  | actSettleFail (d : DieId) (a : Act)
  /-- ACT_RECOVER_TIMEOUT (R159). -/
  | actRecoverTimeout (d : DieId) (a : Act)
  /-- ACT_RETRACT_DONE (R159). -/
  | actRetractDone (d : DieId) (a : Act)
  /-- SHOCK_TRIP (R163). -/
  | shockTrip (d : DieId)
  /-- SHOCK_CLEAR (R163). -/
  | shockClear (d : DieId)
  /-- SHOCK_HOLDOFF_END (R161). -/
  | shockHoldoffEnd (d : DieId)
  /-- SECTOR_READ (R189). -/
  | sectorRead (d : DieId) (h : HeadId) (loc : SectorLoc) (x : ReadAttempt)
  /-- LADDER_STEP (R190). -/
  | ladderStep (d : DieId) (h : HeadId) (xs : List ReadAttempt)
  /-- RECOVERY_DECODE_DONE (R200). -/
  | recoveryDecodeDone (d : DieId) (a : Act) (x : ReadAttempt)
  /-- SECTOR_WRITE_START (R197). -/
  | sectorWriteStart (d : DieId) (h : HeadId) (overshoot : BitVec 8)
  /-- ASSIST_PREHEAT_START (R221). -/
  | assistPreheatStart (d : DieId) (h : HeadId)
  /-- SECTOR_WRITE_END (R182). -/
  | sectorWriteEnd (d : DieId) (h : HeadId)
  /-- SECTOR_ABANDON (R164). -/
  | sectorAbandon (d : DieId) (h : HeadId)
  /-- HEAD_MODE_SEND (R198). -/
  | headModeSend (d : DieId) (a : Act) (write : Bool)
  /-- HEATER_SEND (R206). -/
  | heaterSend (d : DieId) (a : Act) (writing : BitVec 12)
  /-- ASSIST_FRAME_SEND (R218). -/
  | assistFrameSend (d : DieId) (a : Act)
  /-- WRITE_LEVEL_SEND (R206). -/
  | writeLevelSend (d : DieId) (a : Act)
  /-- PREAMP_REG_WRITE (R203). -/
  | preampRegWrite (d : DieId) (a : Act) (reg : BitVec 8) (words : List (BitVec 16))
  /-- PREAMP_REG_READ (R203). -/
  | preampRegRead (d : DieId) (a : Act) (reg : BitVec 8)
  /-- PREAMP_STATUS_REPORT (R208). -/
  | preampStatusReport (d : DieId) (a : Act) (param : BitVec 8) (w0 w1 : BitVec 16)
  /-- PREAMP_TEMP_REPORT (R204). -/
  | preampTempReport (d : DieId) (a : Act) (param : BitVec 8) (temps : List (BitVec 16))
  /-- PREAMP_PD_REPORT (R229). -/
  | preampPdReport (d : DieId) (a : Act) (param : BitVec 8) (words : List (BitVec 16))
  /-- PREAMP_REG_DATA_REPORT (R204). -/
  | preampRegDataReport (d : DieId) (a : Act) (param : BitVec 8) (v : BitVec 16)
  /-- PREAMP_REPORT_MISSING (R208). -/
  | preampReportMissing (d : DieId) (a : Act)
  /-- PCL_LINK_RESET (R207). -/
  | pclLinkReset (d : DieId) (a : Act)
  /-- PCL_ID_CHECK (R207). -/
  | pclIdCheck (d : DieId) (a : Act) (id : BitVec 16)
  /-- PCL_LINK_UP (R207). -/
  | pclLinkUp (d : DieId) (a : Act)
  /-- ASSIST_REQUEST (R225). -/
  | assistRequest (d : DieId) (h : HeadId) (sectors : List SectorLoc)
  /-- VERIFY_READ (R232). -/
  | verifyRead (d : DieId) (res : ChannelResult) (step : Nat) (iters : Nat)
  /-- CAL_CHANNEL_ADAPT (R248). -/
  | calChannelAdapt (sel : CalSel)
  /-- CAL_HEATER (R249). -/
  | calHeater (sel : CalSel)
  /-- CAL_ASSIST_OPT (R250). -/
  | calAssistOpt (sel : CalSel)
  /-- CAL_CHEVRON_GEOM (R251). -/
  | calChevronGeom (sel : CalSel)
  /-- CAL_MA_GAIN (R252). -/
  | calMaGain (sel : CalSel)
  /-- CAL_VCM_TORQUE (R253). -/
  | calVcmTorque (sel : CalSel)
  /-- CAL_SENSE_OFFSET (R254). -/
  | calSenseOffset (sel : CalSel)
  /-- CAL_BEMF_SYMMETRY (R255). -/
  | calBemfSymmetry (sel : CalSel)
  /-- CAL_HOLDUP_CAP (R256). -/
  | calHoldupCap (sel : CalSel)
  /-- CAL_ABORT (R238). -/
  | calAbort (sel : CalSel)
  /-- BEMF_FLOAT (R255). -/
  | bemfFloat (d : DieId) (crossings : List (Phase × BitVec 24))
  /-- HOLDUP_TEST_END (R256). -/
  | holdupTestEnd (d : DieId) (curve : List (Nat × Nat))
  /-- CAL_CONVERGE (R244). -/
  | calConverge (sel : CalSel) (m : CalMeasure)
  /-- CAL_TIMEOUT (R243). -/
  | calTimeout (sel : CalSel)
  /-- QUALITY_WINDOW_END (R262). -/
  | qualityWindowEnd (d : DieId) (figs : List HeadFigures)
  /-- POWER_ON_HOUR (R263). -/
  | powerOnHour (d : DieId)
  /-- FORMAT_COMMAND (R302). -/
  | formatCommand (d : DieId)
  /-- DESTAGE (R358). -/
  | destage (d : DieId) (zone : Nat)
  /-- COMPRESS_JOB (R306). -/
  | compressJob (d : DieId) (buffers : Option Nat)
  /-- COMPRESS_JOB_END (R317). -/
  | compressJobEnd (d : DieId) (lane : Fin 16)
  /-- DECOMPRESS_JOB (R309). -/
  | decompressJob (d : DieId)
  /-- DECOMPRESS_JOB_END (R319). -/
  | decompressJobEnd (d : DieId) (lane : Fin 16)
  /-- HUSK_PLACE (R310). -/
  | huskPlace (d : DieId) (zone : Nat)
  /-- JOURNAL_APPEND (R354). -/
  | journalAppend (d : DieId)
  /-- JOURNAL_FLUSH (R355). -/
  | journalFlush (d : DieId)
  /-- MAP_CHECKPOINT (R356). -/
  | mapCheckpoint (d : DieId)
  /-- FRAME_PAGE_WRITEBACK (R296). -/
  | framePageWriteback (d : DieId) (page : Nat)
  /-- PFAIL_N_ASSERT (R361). -/
  | pfailNAssert (d : DieId)
  /-- HOLDUP_PFAIL_TRIP (R361). -/
  | holdupPfailTrip (d : DieId)
  /-- DMA_DRAIN_END (R362). -/
  | dmaDrainEnd (d : DieId)
  /-- ACORN_SAVED (R363). -/
  | acornSaved (d : DieId) (durationUs : BitVec 32) (trailerMv : BitVec 16)
  /-- ACORN_SAVE_FAIL (R365). -/
  | acornSaveFail (d : DieId) (reservoirLow : Bool)
  /-- POWER_RETURN (R366). -/
  | powerReturn
  /-- ACORN_AREA_ERASE (R365). -/
  | acornAreaErase (d : DieId)
  /-- SCRUB_TICK (R463). -/
  | scrubTick (d : DieId) (onchip dram demand : List ScrubWord)
  /-- CE_LEAK_TICK (R466). -/
  | ceLeakTick (d : DieId)
  /-- DMA_UNCORRECTABLE (R468). -/
  | dmaUncorrectable (d : DieId) (w : BadWord) (x : DmaFault)
  /-- MAP_CACHE_REQUEST (R472). -/
  | mapCacheRequest (d : DieId) (off : Nat) (wr : Option (BitVec 128)) (chk : MapCheck)
  /-- MAP_EVICT_DONE (R474). -/
  | mapEvictDone (d : DieId) (way : Fin 8)
  /-- MAP_PREFETCH (R476). -/
  | mapPrefetch (d : DieId) (off : Nat)
  /-- MAP_LINE_LOCK (R477). -/
  | mapLineLock (d : DieId) (off : Nat)
  /-- MAP_LINE_UNLOCK (R477). -/
  | mapLineUnlock (d : DieId) (off : Nat)
  /-- MAP_RANGE_INVALIDATE (R478). -/
  | mapRangeInvalidate (d : DieId) (start len : Nat)
  /-- CORE_TRAP (R486). -/
  | coreTrap (d : DieId) (c : Fin 32) (cause : TrapCause)
  /-- CORE_WATCHDOG (R486). -/
  | coreWatchdog (d : DieId) (c : Fin 32)
  /-- SEQ_NOP (R490). -/
  | seqNop (d : DieId) (h : HeadId) (w : BitVec 64) (sig : BitVec 8)
  /-- SEQ_ALU (R490). -/
  | seqAlu (d : DieId) (h : HeadId) (w : BitVec 64) (sig : BitVec 8)
  /-- SEQ_ARM (R490). -/
  | seqArm (d : DieId) (h : HeadId) (w : BitVec 64) (sig : BitVec 8)
  /-- SEQ_LINES (R491). -/
  | seqLines (d : DieId) (h : HeadId) (w : BitVec 64) (sig : BitVec 8)
  /-- SEQ_STAGE (R490). -/
  | seqStage (d : DieId) (h : HeadId) (w : BitVec 64) (sig : BitVec 8)
  /-- SEQ_REPORT (R490). -/
  | seqReport (d : DieId) (h : HeadId) (w : BitVec 64) (sig : BitVec 8)
  /-- SEQ_WAIT (R490). -/
  | seqWait (d : DieId) (h : HeadId) (w : BitVec 64) (sig : BitVec 8)
  /-- MOTOR_NOP (R490). -/
  | motorNop (d : DieId) (w : BitVec 64) (sig : BitVec 8)
  /-- MOTOR_ALU (R490). -/
  | motorAlu (d : DieId) (w : BitVec 64) (sig : BitVec 8)
  /-- MOTOR_TABLE (R490). -/
  | motorTable (d : DieId) (w : BitVec 64) (sig : BitVec 8)
  /-- MOTOR_PWM (R490). -/
  | motorPwm (d : DieId) (w : BitVec 64) (sig : BitVec 8)
  /-- MOTOR_SAMPLE (R490). -/
  | motorSample (d : DieId) (w : BitVec 64) (sig : BitVec 8)
  /-- MOTOR_REPORT (R490). -/
  | motorReport (d : DieId) (w : BitVec 64) (sig : BitVec 8)
  /-- MOTOR_WAIT (R490). -/
  | motorWait (d : DieId) (w : BitVec 64) (sig : BitVec 8)
  /-- CLE_MICROWORD (R492). -/
  | cleMicroword (d : DieId) (w : BitVec 128) (sig : BitVec 8)
  /-- ENGINE_WAIT_RELEASE (R490). -/
  | engineWaitRelease (d : DieId) (e : Fin 26) (cond : Fin 32)
  /-- ENGINE_FAULT (R494). -/
  | engineFault (d : DieId) (e : Fin 26) (kind : EngFault)
  /-- CLAUSE_OVERRUN (R493). -/
  | clauseOverrun (d : DieId) (e : Fin 26)
  /-- ENGINE_RESET (R494). -/
  | engineReset (d : DieId) (e : Fin 26)
  /-- ENGINE_HALT (R493). -/
  | engineHalt (d : DieId) (e : Fin 26)
  /-- ENGINE_RELOAD (R495). -/
  | engineReload (d : DieId) (e : Fin 26)
  /-- CLE_BANK_SWAP (R495). -/
  | cleBankSwap (d : DieId)
  /-- EVT_ROUTE_WRITE (R502). -/
  | evtRouteWrite (n : Nat) (half : Option Bool) (v : BitVec 64)
  /-- EVENT_COALESCE_TIMEOUT (R502). -/
  | eventCoalesceTimeout (n : Nat)
  /-- BW_WINDOW_END (R553). -/
  | bwWindowEnd (d : DieId)
  /-- HK_SLOT (R531). -/
  | hkSlot (d : DieId) (code : BitVec 12)
  /-- HK_ROUND_END (R541). -/
  | hkRoundEnd (d : DieId)
  /-- MCTP_PACKET_RECEIVE (R448). -/
  | mctpPacketReceive (eid : BitVec 8) (pecOk som eom : Bool) (seq : BitVec 2) (tag : BitVec 3) (body : List Byte)
  /-- SET_ENDPOINT_ID (R448). -/
  | setEndpointId (src eid : BitVec 8)
  /-- GET_ENDPOINT_ID (R448). -/
  | getEndpointId (src : BitVec 8)
  /-- GET_ENDPOINT_UUID (R448). -/
  | getEndpointUuid (src : BitVec 8)
  /-- GET_MCTP_VERSION_SUPPORT (R448). -/
  | getMctpVersionSupport (src : BitVec 8)
  /-- GET_MESSAGE_TYPE_SUPPORT (R448). -/
  | getMessageTypeSupport (src : BitVec 8)
  /-- GET_VENDOR_DEFINED_MSG_SUPPORT (R448). -/
  | getVendorDefinedMsgSupport (src : BitVec 8)
  /-- MCTP_UNSUPPORTED_COMMAND (R448). -/
  | mctpUnsupportedCommand (src cmd : BitVec 8)
  /-- MCTP_GET_OBJECT (R449). -/
  | mctpGetObject (src : BitVec 8) (body : List Byte)
  /-- MCTP_SET_OBJECT (R449). -/
  | mctpSetObject (src : BitVec 8) (body : List Byte)
  /-- MCTP_RESPONSE_READ (R450). -/
  | mctpResponseRead
  /-- RESPONSE_HOLD_EXPIRY (R450). -/
  | responseHoldExpiry
  /-- IBI_RAISE (R451). -/
  | ibiRaise
  /-- IBI_FAILED (R451). -/
  | ibiFailed
  /-- IBI_RETRY_WAIT_END (R451). -/
  | ibiRetryWaitEnd
  /-- ENTDAA (R447). -/
  | entdaa (addr : BitVec 7)
  /-- SETDASA (R447). -/
  | setdasa (static addr : BitVec 7)
  /-- RSTDAA (R447). -/
  | rstdaa
  /-- ENEC (R447). -/
  | enec (events : BitVec 8)
  /-- DISEC (R447). -/
  | disec (events : BitVec 8)
  /-- GETPID (R447). -/
  | getpid
  /-- GETBCR (R447). -/
  | getbcr
  /-- GETDCR (R447). -/
  | getdcr
  /-- GETSTATUS (R447). -/
  | getstatus
  /-- GETMRL (R447). -/
  | getmrl
  /-- SETMRL (R447). -/
  | setmrl (v : BitVec 16)
  /-- GETMWL (R447). -/
  | getmwl
  /-- SETMWL (R447). -/
  | setmwl (v : BitVec 16)
  /-- I3C_OTHER_CCC (R447). -/
  | i3cOtherCcc (code : BitVec 8)
  /-- FABRIC_FLIT_FORWARD (R39). -/
  | fabricFlitForward (d : DieId) (m : Fin 4) (hdr : BitVec 128)
  /-- COUNTER_SNAPSHOT_MESSAGE (R555). -/
  | counterSnapshotMessage (d : DieId) (t : BitVec 64) (action : BitVec 8)
  /-- PCIE_LINK_STATE_CHANGE (R374). -/
  | pcieLinkStateChange (gts width : Nat) (ppm : BitVec 16)
deriving DecidableEq, Repr

end Sys2Proof
end

