-- ==== Sys2Proof/Machine/KMap.lean ====
section
/-! DEFINITION. Finite maps keyed by numbers, kept as one canonical list: keys strictly rising (log 20). -/

namespace Sys2Proof.Machine

/-- A finite map: (key, value) pairs, keys strictly rising. -/
structure KMap (α : Type) where
  entries : List (Nat × α) := []
deriving DecidableEq, Repr, Inhabited

/-- Insert into a list of pairs, keeping keys rising and replacing an equal key. -/
def KMap.insertList {α : Type} (k : Nat) (v : α) : List (Nat × α) → List (Nat × α)
  | [] => [(k, v)]
  | (j, w) :: rest =>
    if k < j then (k, v) :: (j, w) :: rest
    else if k = j then (k, v) :: rest
    else (j, w) :: KMap.insertList k v rest

def KMap.lookupList {α : Type} (k : Nat) : List (Nat × α) → Option α
  | [] => none
  | (j, w) :: rest => if k = j then some w else KMap.lookupList k rest

def KMap.empty {α : Type} : KMap α := ⟨[]⟩

def KMap.find? {α : Type} (m : KMap α) (k : Nat) : Option α := KMap.lookupList k m.entries

def KMap.getD {α : Type} (m : KMap α) (k : Nat) (dflt : α) : α := (m.find? k).getD dflt

def KMap.insert {α : Type} (m : KMap α) (k : Nat) (v : α) : KMap α := ⟨KMap.insertList k v m.entries⟩

def KMap.erase {α : Type} (m : KMap α) (k : Nat) : KMap α := ⟨m.entries.filter fun e => e.1 != k⟩

def KMap.contains {α : Type} (m : KMap α) (k : Nat) : Bool := (m.find? k).isSome

def KMap.keys {α : Type} (m : KMap α) : List Nat := m.entries.map Prod.fst

def KMap.size {α : Type} (m : KMap α) : Nat := m.entries.length

def KMap.mapVals {α β : Type} (m : KMap α) (f : Nat → α → β) : KMap β := ⟨m.entries.map fun e => (e.1, f e.1 e.2)⟩

def KMap.filter {α : Type} (m : KMap α) (p : Nat → α → Bool) : KMap α := ⟨m.entries.filter fun e => p e.1 e.2⟩

/-- Keys strictly rising: the canonical form. -/
def KMap.sortedList {α : Type} : List (Nat × α) → Bool
  | [] => true
  | [_] => true
  | (j, _) :: (k, w) :: rest => decide (j < k) && KMap.sortedList ((k, w) :: rest)

def KMap.wf {α : Type} (m : KMap α) : Bool := KMap.sortedList m.entries

end Sys2Proof.Machine
end

