-- ==== Sys2Proof/Machine/StateDie.lean ====
section
/-! DEFINITION. What one die holds. Each field's comment ends with [file rule; width; reset value]: 'DC n' is a
design choice of log entry n, 'P n' presumed there. -/

namespace Sys2Proof.Machine

/-- Two copies of an MRAM record with sequence numbers (08 R259). -/
structure Copy where
  seq : BitVec 32
  bytes : List Byte
deriving DecidableEq, Repr, Inhabited

structure TwoCopy where
  a : Option Copy := none
  b : Option Copy := none
deriving DecidableEq, Repr, Inhabited

/-- Clock states (02 R59). -/
inductive ClockState where
  | coasting | acquiring | locked
deriving DecidableEq, Repr, Inhabited

/-- An armed angle event (02 R65 to R68). -/
structure AngleEvent where
  id : Nat
  cls : AngleClass
  owner : AngleOwner
  stamp : BitVec 48
deriving DecidableEq, Repr, Inhabited

/-- A firing as its owner sees it (02 R64, R68). -/
structure AngleFiring where
  id : Nat
  owner : AngleOwner
  stamp : BitVec 48
  overshoot : BitVec 8
  coasting : Bool
deriving DecidableEq, Repr, Inhabited

/-- The angle clock, the local package time and the spindle phase lock of a die. -/
structure AngleClock where
  /-- Accumulator: stamp in the upper 48 bits, 32 fraction bits below [02 R50; 80 bits; 0] -/
  acc : BitVec 80 := 0
  /-- Increment per 800 MHz cycle in 2^-32 au [02 R50; 40 bits; COAST_RPM default 7,200 rpm] -/
  incr : BitVec 40 := 10808639105
  /-- Increment that the measured speed calls for [02 R51; 40 bits; as incr] -/
  nominal : BitVec 40 := 10808639105
  /-- Integral of the second-order loop, 2^-32 au [02 R57; internal; 0, DC 6] -/
  integ : Int := 0
  /-- ANGLE_STATUS.STATE [02 R59, R76; 2 bits; COASTING] -/
  state : ClockState := .coasting
  /-- ANGLE_STATUS.FLYWHEEL [02 R60, R76; 1 bit; 0] -/
  flywheel : Bool := false
  /-- ANGLE_STATUS.PHASE_LOCKED [02 R74, R76; 1 bit; 0] -/
  phaseLocked : Bool := false
  /-- ANGLE_STATUS.TIME_ALIGNED of a member die; die 0 reads 1 after its reset [02 R71, R76; 1 bit; 0] -/
  timeAligned : Bool := false
  /-- ANGLE_STATUS.LOCK_LOST, RW1C [02 R76; 1 bit; 0] -/
  lockLost : Bool := false
  /-- ANGLE_STATUS.STEP, RW1C [02 R76; 1 bit; 0] -/
  step : Bool := false
  /-- ANGLE_STATUS.DEFERRED, RW1C [02 R76; 1 bit; 0] -/
  deferred : Bool := false
  /-- ANGLE_STATUS.TIME_STEP, RW1C [02 R76; 1 bit; 0] -/
  timeStep : Bool := false
  /-- ANGLE_STATUS.PHASE_LOST, RW1C [02 R76; 1 bit; 0] -/
  phaseLost : Bool := false
  /-- ANGLE_PTIME latch [02 R77; 64 bits; 0] -/
  ptime : BitVec 64 := 0
  /-- Consecutive wedges inside LOCK_WINDOW_AU [02 R59; internal count; 0, DC 6] -/
  lockRun : Nat := 0
  /-- Consecutive wedges above UNLOCK_AU [02 R59; internal count; 0, DC 6] -/
  unlockRun : Nat := 0
  /-- Consecutive flywheeled wedges [02 R59, R60; internal count; 0, DC 6] -/
  flyRun : Nat := 0
  /-- Consecutive wedge periods without a valid wedge in ACQUIRING [02 R59; internal count; 0, DC 6] -/
  badRun : Nat := 0
  /-- Wedge index last sampled [02 R57; internal; 0, DC 6] -/
  wedge : Nat := 0
  /-- Armed events [02 R65, R68; list; none] -/
  events : List AngleEvent := []
  /-- Next event number [02 R65; internal; 0, DC 6] -/
  nextId : Nat := 0
  /-- Firings handed to their owners, newest first [02 R68; list; none] -/
  fired : List AngleFiring := []
  /-- Operations handed back by a cancelled event, newest first [02 R64; list; none] -/
  cancelled : List AngleOwner := []
  /-- Wedge-angle table in force, ENTRY[k] in au [02 R53; list; DC 10 uniform W = 600] -/
  table : List Nat := []
  /-- HDA_SERIAL_CRC of the table matches the fitted HDA [02 R55; 1 bit; 1, DC 12] -/
  tableMatch : Bool := true
  /-- Local package time in quarter nanoseconds [02 R69; 64-bit ns counter; 0] -/
  time4 : Nat := 0
  /-- Cycles since a quarter ns was last slewed out: one in 2,000 cycles is 100 ppm [02 R70; internal; 0, DC 6] -/
  slewTicks : Nat := 0
  /-- Quarter nanoseconds still to be slewed out [02 R70; internal; 0, DC 6] -/
  slewLeft : Int := 0
  /-- Quarter nanoseconds for which the local count is still held [02 R70; internal; 0, DC 6] -/
  hold4 : Nat := 0
  /-- TIME_OFFSET_NS [02 R71, R78; 32 bits; 0] -/
  offsetNs : Int := 0
  /-- Consecutive messages within ±5 ns [02 R71; internal count; 0, DC 6] -/
  alignRun : Nat := 0
  /-- One-way latency of the route from the anchor in quarter ns [02 R70; internal; 0, DC 6] -/
  latency4 : Nat := 0
  /-- PHASE_ERROR_AU [02 R73, R78; 32 bits; 0] -/
  phaseErr : Int := 0
  /-- Consecutive revolutions within 932 au [02 R74; internal count; 0, DC 6] -/
  phaseGood : Nat := 0
  /-- Consecutive revolutions beyond 1,864 au [02 R74; internal count; 0, DC 6] -/
  phaseBad : Nat := 0
  /-- Speed trim in ppm [02 R73, R74; internal; 0, DC 6] -/
  trimPpm : Rat := 0
  /-- Local package time (quarter ns) of the last crossing of angle 0 [02 R73; internal; 0, DC 6] -/
  zeroCross4 : Nat := 0
deriving DecidableEq, Repr, Inhabited

/-- Spindle states (03 R98). -/
inductive SpinState where
  | stopped | staggerWait | sensing | braking | aligning | openLoop | ramping | atSpeed
  | stopping | reacquiring | retractBrake | fault
deriving DecidableEq, Repr, Inhabited

inductive AngleSrc where
  | none | openLoop | observer | clock
deriving DecidableEq, Repr, Inhabited

inductive BrakeFor where
  | start | stop | restart
deriving DecidableEq, Repr, Inhabited

/-- What the six gates do (03 R80, R98). -/
inductive Gates where
  | floated | driven | shortBrake | opposing
deriving DecidableEq, Repr, Inhabited

/-- A back-EMF zero crossing (03 R101). `t4` in quarter ns. -/
structure Crossing where
  phase : Phase
  rising : Bool
  t4 : Nat
deriving DecidableEq, Repr, Inhabited

/-- The commutation table in force (03 R82). -/
structure CommTable where
  polePairs : Nat := 4
  elecOffset : BitVec 24 := 0
  rPhase : Nat := 0
  lPhase : Nat := 0
  ke : Int := 0
  serialCrc : BitVec 32 := 0
  entries : List Int := []
deriving DecidableEq, Repr, Inhabited

/-- The spindle of a die (03). -/
structure Spindle where
  /-- SPM_STATUS.STATE [03 R98, R109; 4 bits; STOPPED] -/
  state : SpinState := .stopped
  /-- SPM_STATUS.ANGLE_SRC [03 R96, R109; 2 bits; none] -/
  src : AngleSrc := .none
  /-- SPM_STATUS.REVERSE [03 R109; 1 bit; 0] -/
  reverse : Bool := false
  /-- SPM_STATUS.STAGGER_HOLD [03 R99 row 21, R109; 1 bit; 0] -/
  staggerHold : Bool := false
  /-- SPM_STATUS.BRAKE_FOR [03 R98, R109; 2 bits; start] -/
  brakeFor : BrakeFor := .start
  /-- SPM_STATUS.PREDICT, RW1C [03 R88, R109; 1 bit; 0] -/
  predict : Bool := false
  /-- SPM_STATUS.REVERSE_SEEN, RW1C [03 R99, R109; 1 bit; 0] -/
  reverseSeen : Bool := false
  /-- SPM_STATUS.OBS_LOSS, RW1C [03 R109; 1 bit; 0] -/
  obsLoss : Bool := false
  /-- SPM_STATUS.REACQ_FAIL, RW1C [03 R109; 1 bit; 0] -/
  reacqFail : Bool := false
  /-- SPM_STATUS.START_FAIL, RW1C [03 R109; 1 bit; 0] -/
  startFail : Bool := false
  /-- SPM_STATUS.HANDOVER_MISMATCH, RW1C [03 R97, R109; 1 bit; 0] -/
  handoverMismatch : Bool := false
  /-- Gate outputs SPM_xH, SPM_xL [03 R79, R80; six pins; floated] -/
  gates : Gates := .floated
  /-- SPM_SPEED, rpm, signed [03 R109; Q16.16; 0] -/
  speed : Rat := 0
  /-- Ramped speed set-point, rpm [03 R92; internal; 0, DC 6] -/
  ramp : Rat := 0
  /-- Set-point the ramp moves toward, rpm [03 R92, R94; internal; 0, DC 6] -/
  setPoint : Rat := 0
  /-- Current command, A [03 R90, R91; internal; 0, DC 6] -/
  iCmd : Rat := 0
  /-- Modulation m [03 R84, R89; Q1.15; 0, DC 6] -/
  m : Rat := 0
  /-- Current-loop integrator [03 R89; internal; 0, DC 6] -/
  curInt : Rat := 0
  /-- Speed-loop integrator [03 R90; internal; 0, DC 6] -/
  spdInt : Rat := 0
  /-- Last phase currents, A [03 R87; internal; 0, DC 6] -/
  iU : Rat := 0
  iV : Rat := 0
  iW : Rat := 0
  /-- Last phase amplitudes a_x [03 R84; internal; 0, DC 6] -/
  aU : Rat := 0
  aV : Rat := 0
  aW : Rat := 0
  /-- Duties of the three phases [03 R84; three PWM duties; 0, DC 6] -/
  dU : Rat := 0
  dV : Rat := 0
  dW : Rat := 0
  /-- Electrical drive angle last formed [03 R84; 24 bits; 0, DC 6] -/
  thetaE : BitVec 24 := 0
  /-- Consecutive predicted periods [03 R88; internal count; 0, DC 6] -/
  predictRun : Nat := 0
  /-- Consecutive periods with two valid phases [03 R88; internal count; 0, DC 6] -/
  twoValidRun : Nat := 0
  /-- Modulation clamp of 0.90 in force [03 R88; internal; off, DC 6] -/
  clamp : Bool := false
  /-- Observer angle [03 R95; 24 bits electrical au; 0, DC 6] -/
  obsTheta : BitVec 24 := 0
  /-- Observer speed, rpm [03 R95; internal; 0, DC 6] -/
  obsSpeed : Rat := 0
  /-- Observer valid [03 R95; 1 bit; 0, DC 6] -/
  obsValid : Bool := false
  /-- Consecutive periods with tracking error below 10° [03 R95; internal count; 0, DC 6] -/
  obsGoodRun : Nat := 0
  /-- Consecutive periods that meet a divergence condition [03 R95; internal count; 0, DC 6] -/
  obsBadRun : Nat := 0
  /-- Consecutive periods whose measured current departs from the model by more than 25 % of I_RUN_MAX [03 R95; internal count; 0, DC 6] -/
  obsCurRun : Nat := 0
  /-- PWM periods of hand-over slew left, and the difference at its start [03 R96; internal; 0, DC 6] -/
  slewLeft : Nat := 0
  slewFrom : Int := 0
  /-- PWM periods for which the hand-over difference has exceeded HANDOVER_AU [03 R97; internal; 0, DC 6] -/
  mismatchSince : Option Nat := none
  /-- ELEC_OFFSET slew: periods left and old value [08 R245; internal; 0, DC 6] -/
  elecSlewLeft : Nat := 0
  elecOld : BitVec 24 := 0
  /-- Crossings of the present sensing or re-acquisition window, newest first [03 R101; list; none] -/
  crossings : List Crossing := []
  /-- Consecutive consistent crossings of re-acquisition, six to a cycle [03 R105; internal count; 0, DC 6] -/
  cycles : Nat := 0
  /-- Start retries used [03 R99 row 16; internal count; 0, DC 6] -/
  retries : Nat := 0
  /-- Revolutions within AT_SPEED_PPM [03 R99 row 17; internal count; 0, DC 6] -/
  speedRun : Nat := 0
  /-- Revolution last counted there [03 R99 row 17; internal; 0, DC 6] -/
  speedRev : Nat := 0
  /-- A stop is in progress while RAMPING, REACQUIRING or STOPPING [03 R99 rows 25, 26, 34; 1 bit; 0, DC 6] -/
  stopping : Bool := false
  /-- A start waits for its outcome [03 R99; 1 bit; 0, DC 6] -/
  startPending : Bool := false
  /-- A stop waits for its outcome [03 R99; 1 bit; 0, DC 6] -/
  stopPending : Bool := false
  /-- Heads are to be loaded at the next AT_SPEED [03 R106, 18 R544; 1 bit; 0, DC 6] -/
  loadAtSpeed : Bool := false
  /-- Commutation table in force [03 R82; table; DC 10] -/
  table : CommTable := {}
  /-- HDA_SERIAL_CRC of the table matches [03 R83; 1 bit; 1, DC 12] -/
  tableMatch : Bool := true
  /-- Stamp before which no write sector starts after a BEMF_SYMMETRY float [08 R255; internal; none] -/
  holdStart : Option Nat := none
  /-- Local time of power-fail detection for the brake [03 R107; internal; none] -/
  failTime : Option Nat := none
deriving DecidableEq, Repr, Inhabited

/-- State of one control loop (05 R139). Biquad states z1, z2 in order. -/
structure LoopState where
  s : Rat := 0
  z : List (Rat × Rat) := []
  awHold : Bool := false
  uPrev : Rat := 0
  sat : Bool := false
deriving DecidableEq, Repr, Inhabited

/-- One loop's coefficients (05 R145). Biquads are B0, B1, B2, A1, A2 in Q2.30. -/
structure LoopCoeff where
  lutShift : Nat := 0
  nbiq : Nat := 0
  uLimit : Nat := 1
  pLimit : Nat := 0
  intLimit : Nat := 0
  ki : Nat := 0
  kff0 : Int := 0
  kff1 : Int := 0
  kaff : Int := 0
  biquads : List (List Int) := []
  lut : List Nat := []
deriving DecidableEq, Repr, Inhabited

structure CoeffSet where
  serialCrc : BitVec 32 := 0
  weights : List Nat := []
  loops : List LoopCoeff := []
deriving DecidableEq, Repr, Inhabited

/-- Write-pair line states (06 R195). -/
inductive Lines where
  | park | heat | data
deriving DecidableEq, Repr, Inhabited

/-- HEAD_SERVO_STATE (04 R134). -/
inductive HeadServo where
  | idle | tracking | lost
deriving DecidableEq, Repr, Inhabited

/-- A write run's sector in hand (06 R197, 01 R45). -/
structure WriteJob where
  loc : SectorLoc
  split : Bool
  fragment : Nat
  started : Bool
  gateOff : Bool
  marked : Bool
deriving DecidableEq, Repr, Inhabited

/-- A sector in the recovery ladder (06 R190). -/
structure Ladder where
  loc : SectorLoc
  step : Nat
  revs : Nat
  captures : List ReadAttempt
  syncSeen : Bool
  misframe : Bool
  reread : Bool
  /-- No signal in the first attempt and in every one since -/
  noSignal : Bool
  /-- Offset reads made in step 6 -/
  offsets : Nat
deriving DecidableEq, Repr, Inhabited

/-- A grant in the present slot (07 R225 to R227). -/
structure Grant where
  charge : Rat
  borrowed : Bool
  order : Nat
  precommitted : Bool
  sectors : List SectorLoc
deriving DecidableEq, Repr, Inhabited

/-- One head with its servo, channel, write path and assist. -/
structure Head where
  /-- Channel not gated: the head is live [01 R32, 04 R133; 1 bit; 0, DC 6] -/
  live : Bool := false
  /-- HEAD_SERVO_STATE [04 R134; 2 bits; idle] -/
  servo : HeadServo := .idle
  /-- Position record [04 R128; 64 bits; 0] -/
  record : BitVec 64 := 0
  /-- miss_run [04 R130; 8 bits; 0, DC 6] -/
  missRun : Nat := 0
  /-- Consecutive GRAY_MISMATCH wedges [04 R124; internal count; 0, DC 6] -/
  grayRun : Nat := 0
  /-- R124 has declared the head's wedges invalid for position [04 R124; 1 bit; 0, DC 6] -/
  grayInvalid : Bool := false
  /-- Consecutive valid wedges [04 R131, 05 R159; internal count; 0, DC 6] -/
  validRun : Nat := 0
  /-- The head joined the mean only after REJOIN_COUNT valid wedges [04 R133; 1 bit; 0, DC 6] -/
  joined : Bool := false
  /-- Valid wedges since the head went live, and consecutive valid wedges since entry to RECOVERING [04 R133, 05 R159 row 10; internal counts; 0, DC 6] -/
  liveValid : Nat := 0
  recRun : Nat := 0
  /-- Positions of the previous two records, LSB [04 R129; internal; 0, DC 6] -/
  x1 : Int := 0
  x2 : Int := 0
  /-- Unsaturated eye of the last wedge, au [04 R120, R128; internal; 0, DC 6] -/
  eye : Rat := 0
  /-- SAM arrival of the last wedge [04 R117; 2^-8 au; none] -/
  sam : Option (BitVec 56) := none
  /-- SAM found at the wedge being collected [04 R117, 05 R159 row 14; 1 bit; 0, DC 6] -/
  samFound : Bool := false
  /-- A record was delivered for the wedge being collected [04 R132; 1 bit; 0, DC 6] -/
  delivered : Bool := false
  /-- Microactuator command in force and computed for the next wedge, counts [05 R142, R153; 16 bits; 0] -/
  maCmd : Int := 0
  maNext : Int := 0
  /-- Its command is held by MISS_DROP [04 R130; 1 bit; 0, DC 6] -/
  maHeld : Bool := false
  /-- Microactuator loop [05 R139; loop state; cleared, DC 6] -/
  loop : LoopState := {}
  /-- Target track [05 R137; 22 bits; 0, DC 6] -/
  target : Nat := 0
  /-- servo_write_permit at the last C(k) or T(k) [05 R161, R168; 1 bit; 0] -/
  permit : Bool := false
  /-- Consecutive VALID wedges within WP_ENTRY_LIMIT, and whether the re-arm rule is met [05 R161; internal; 0, DC 6] -/
  rearmRun : Nat := 0
  rearmed : Bool := false
  /-- Microactuator offset of an offset read, LSB [06 R190, R194; internal; 0, DC 6] -/
  offset : Int := 0
  /-- Write pair [06 R195; three line states; PARK] -/
  lines : Lines := .park
  /-- Write sectors of the granted run not yet ended, first in front [06 R197, 07 R220; list; none] -/
  jobs : List WriteJob := []
  /-- Fine delay of the sector or fragment last started, 1/64 bit [06 R197; 11 bits; 0, DC 6] -/
  fineDelay : Int := 0
  /-- Write operations of the scheduler queue, oldest first [05 R164, 20 R586; list; none] -/
  requeue : List WriteJob := []
  /-- Sectors captured for the recovery decoder, at most two [06 R200; list; none] -/
  ladders : List Ladder := []
  /-- Sectors whose ladder waits for a capture buffer [06 R200; list; none] -/
  ladderWait : List SectorLoc := []
  /-- Results of read sectors, newest first, with ladder step [06 R189, 16 R490; list; none] -/
  results : List (SectorLoc × ChannelResult × Nat) := []
  /-- Running equaliser taps [06 R172, R213; 32 × 16 bits; 0, DC 6] -/
  taps : List Int := []
  /-- Taps at the present sector's start [06 R172; internal; 0, DC 6] -/
  tapsStart : List Int := []
  /-- RECORDING_REGION [06 R213; 8 bits; 0] -/
  region : Nat := 0
  /-- Iterations and sectors of the present revolution [06 R213; internal; 0, DC 6] -/
  iterSum : Nat := 0
  iterCount : Nat := 0
  iterRev : Nat := 0
  /-- Excluded from reads and writes by R175 [06 R175; 1 bit; 0, DC 12] -/
  excluded : Bool := false
  /-- Excluded from writing by a write open or short report [06 R208; 1 bit; 0, DC 6] -/
  noWrite : Bool := false
  /-- The head reported write open or short before the last die reset [09 R281; 1 bit; 0, DC 6] -/
  openShortSeen : Bool := false
  /-- Grant in the present slot and the charge of the slot before [07 R225; record; none] -/
  grant : Option Grant := none
  /-- Grant decided for the next slot [07 R225; record; none] -/
  grantNext : Option Grant := none
  prevCharge : Rat := 0
  /-- Run requested for the next slot [07 R225; list; none] -/
  request : Option (List SectorLoc) := none
  /-- Consecutive slots in which its request was refused [07 R226; internal count; 0, DC 6] -/
  refusedRun : Nat := 0
  /-- ASSIST_BUDGET_BLOCKED raised for this region [07 R226; internal; none] -/
  blockedRegion : Option Nat := none
  /-- Region of the codes below [07 R229; internal; 0, DC 6] -/
  pdRegion : Nat := 0
  /-- PD codes of the last undisturbed write windows of the region, newest first [07 R229; up to 16; none] -/
  pdHist : List Nat := []
  /-- Sectors written in the data window just ended [07 R229, R230; list; none] -/
  wrote : List WriteJob := []
  /-- Disturbed windows of reasons 1 and 2 in the present revolution, and that revolution [07 R230; internal; 0, DC 6] -/
  hops : Nat := 0
  hopRev : Nat := 0
  /-- Assist codes last sent: WRITE_CODE, PREHEAT_FRAC, IDLE_CODE, RAMP_UP [07 R218; frame words; 0, DC 6] -/
  assistSent : BitVec 32 := 0
  /-- Heater code last sent [06 R203; 10 bits; 0, DC 6] -/
  heaterSent : BitVec 10 := 0
  /-- Head temperature of the last TEMP report in 1/16 °C and the round it came in [06 R204, 18 R535; 16 bits; none] -/
  temp : Option Int := none
  tempRound : Nat := 0
  /-- Temperature latched at slot 63, 1/16 °C [18 R532; 16 bits; none] -/
  tempLatched : Option Int := none
deriving DecidableEq, Repr, Inhabited

/-- Actuator states (05 R157). -/
inductive ActState where
  | parked | loading | seeking | settling | tracking | recovering | unloading | retracting | fault
deriving DecidableEq, Repr, Inhabited

/-- Preamplifier link states (06 R207). -/
inductive PclState where
  | down | init | up | fault
deriving DecidableEq, Repr, Inhabited

/-- Why an actuator is retracting (05 R159 rows 3, 11, others). -/
inductive RetractFor where
  | loadFail | recoverFail | unload | powerFail | engineFault | reset
deriving DecidableEq, Repr, Inhabited

/-- One actuator: VCM loop, profile generator, state machine, preamplifier link. -/
structure Actuator where
  /-- ACT_STATE [05 R157; 4 bits; PARKED] -/
  state : ActState := .parked
  /-- VCM loop [05 R139; loop state; cleared, DC 6] -/
  loop : LoopState := {}
  /-- e_v of the last wedge, LSB [05 R137; internal; 0, DC 6] -/
  ev : Rat := 0
  /-- Profile generator r, v, a [05 R154; tracks, per wedge, per wedge²; 0, DC 6] -/
  r : Rat := 0
  v : Rat := 0
  a : Rat := 0
  /-- VCM feedback part u_fb of this and the last wedge [05 R140; counts; 0, DC 6] -/
  uFb : Rat := 0
  uFbPrev : Rat := 0
  /-- VCM_COMMAND in force and computed for the next wedge [05 R142, R169; 16 bits; 0] -/
  vcmCmd : Int := 0
  vcmNext : Int := 0
  /-- SEQ of the VCM link [05 R151; 2 bits; 0, DC 6] -/
  vcmSeq : BitVec 2 := 0
  /-- Coefficient banks 0 and 1 [05 R145, R147; two sets; DC 10] -/
  bank0 : CoeffSet := {}
  bank1 : CoeffSet := {}
  /-- COEFF_BANK_ACTIVE [05 R147, R167; 1 bit; From MRAM, DC 9: 0] -/
  bank : Bool := false
  /-- The pending bank was accepted since the last swap [05 R147; 1 bit; 0, DC 6] -/
  pendingOk : Bool := false
  /-- A swap waits for the next C(k) or T(k) [05 R147; 1 bit; 0] -/
  swapReq : Bool := false
  /-- Wedges in a row within WP_ENTRY_LIMIT in SETTLING, and wedges spent settling [05 R159; internal; 0, DC 6] -/
  settleRun : Nat := 0
  settleWedges : Nat := 0
  /-- Load and recover retries used [05 R159; internal counts; 0, DC 6] -/
  loadTries : Nat := 0
  recTries : Nat := 0
  /-- Revolution count at entry to LOADING or RECOVERING [05 R159; internal; 0, DC 6] -/
  sinceRev : Nat := 0
  /-- Consecutive wedges without SAM in UNLOADING [05 R159 row 14; internal; 0, DC 6] -/
  noSam : Nat := 0
  /-- Cause of the present or last retract [05 R159; internal; unload, DC 6] -/
  retractFor : RetractFor := .unload
  /-- Pending load, seek and unload results, and a load that waits for PARKED (row 23) [05 R159; bits; 0] -/
  loadPending : Bool := false
  seekPending : Bool := false
  unloadPending : Bool := false
  loadWaits : Bool := false
  /-- Result of the last seek as its owner sees it: 0 SUCCESS, 1 PENDING, 2 ABORTED [05 R159; internal; 0, DC 6] -/
  seekResult : Nat := 0
  /-- Target vector before RECOVERING [05 R159 rows 10, 25; list; none] -/
  savedTargets : List Nat := []
  /-- PCL_STATE [06 R207, R213; 2 bits; DOWN] -/
  pcl : PclState := .down
  /-- SEQ of the next downstream frame [06 R202; 4 bits; 0, DC 6] -/
  pclSeq : BitVec 4 := 0
  /-- Frames sent and not yet known to be received, newest first: SEQ, TYPE, PARAM, words [06 R204, R208; list; none] -/
  pclSent : List (BitVec 4 × Nat × Nat × List (BitVec 16)) := []
  /-- Identity checked since the last link reset [06 R207; 1 bit; 0] -/
  pclIdOk : Bool := false
  /-- Consecutive link errors and intact reports [06 R207, R208; internal counts; 0, DC 6] -/
  pclErrRun : Nat := 0
  pclOkRun : Nat := 0
  /-- Link resets in the present revolution, and that revolution [06 R208; internal; 0, DC 6] -/
  pclResets : Nat := 0
  pclResetRev : Nat := 0
  /-- Address of the last REG_READ while it awaits its answer [06 R203, R204; 8 bits; none] -/
  regRead : Option (BitVec 8) := none
  /-- Last register value returned [06 R204; 16 bits; 0, DC 6] -/
  regData : BitVec 16 := 0
  /-- FAULT bit of the last upstream PARAM [06 R204, 07 R228; 1 bit; 0, DC 6] -/
  upFault : Bool := false
  /-- Report the last MA_UPDATE selected [07 R228; 2 bits; STATUS, DC 6] -/
  selected : BitVec 2 := 0
  /-- STATUS and TEMP in turn [07 R228; 1 bit; 0, DC 6] -/
  tempTurn : Bool := false
  /-- Collection points left in which no data window of the actuator takes a write (lost frame) [06 R208; internal count; 0, DC 6] -/
  windowLost : Nat := 0
  /-- Every write on the actuator is stopped by over-temperature or supply low [06 R208; 1 bit; 0, DC 6] -/
  writeStop : Bool := false
  /-- PCL_STATUS.DIR [06 R198, R211; 1 bit; 0] -/
  dirWrite : Bool := false
  /-- HEAD_MODE masks in force [06 R203; 2 × 12 bits; 0] -/
  liveMask : BitVec 12 := 0
  wenMask : BitVec 12 := 0
  /-- The data window just ended was a write window [07 R228; 1 bit; 0, DC 6] -/
  wroteWindow : Bool := false
  /-- PCL_STATUS CRC_ERR, NAK, RESET, PREAMP_FAULT of this actuator, RW1C [06 R211; 4 bits; 0] -/
  crcErr : Bool := false
  nakSeen : Bool := false
  resetSeen : Bool := false
  preampFault : Bool := false
  /-- Preamplifier temperature, 1/16 °C [06 R204; 16 bits; 0, DC 6] -/
  preampTemp : Int := 0
  /-- Recovery decoder in use [06 R200, R212; 1 bit; 0] -/
  rdecBusy : Bool := false
  /-- Heads whose captures wait for the decoder, in order [06 R200; list; none] -/
  rdecQueue : List HeadId := []
deriving DecidableEq, Repr, Inhabited

/-- A running calibration at an instance (08 R238 to R247). -/
structure CalRun where
  kind : BitVec 8
  startRev : Nat
  paused : Bool
  heads : List HeadId
  outcomes : List (HeadId × BitVec 16)
  before : KMap (BitVec 64)
  floats : List (List (Phase × BitVec 24))
  fit : Option (Nat × Nat)
deriving DecidableEq, Repr, Inhabited

/-- Zone states (09 R274). -/
inductive ZState where
  | empty | implicitOpen | explicitOpen | closed | full | readOnly | offline
deriving DecidableEq, Repr, Inhabited

/-- The contents of a zone between two resets: attributes, segments and stream (09 R271, R279, R293). -/
structure Content where
  attrSet : Bool := false
  fixed : Bool := false
  width : Nat := 12
  huskKib : Nat := 0
  keyDomain : Nat := 0
  capacity : Nat := 524288
  actuator : Option Act := none
  /-- Written end in blocks -/
  wp : Nat := 0
  /-- Lead bands in draw order -/
  segs : List Nat := []
  /-- Next free stream unit of 16 bytes -/
  streamEnd : Nat := 0
  resetCount : Nat := 0
  huskSeq : Nat := 0
  /-- Reservations not yet settled, bytes -/
  reserved : Nat := 0
deriving DecidableEq, Repr, Inhabited

/-- A zone descriptor (09 R293). -/
structure ZDesc where
  state : ZState := .empty
  finishReason : Nat := 0
  epoch : Nat := 0
  content : Content := {}
deriving DecidableEq, Repr, Inhabited

/-- A zone: its descriptor as executed (09 R293) and its admission view (09 R279, 11 R340). -/
structure Zone where
  desc : ZDesc := {}
  /-- Contents of later-ASN writes, one for each admitted RESET not yet executed, oldest first -/
  newer : List Content := []
  /-- ASNs of those RESETs -/
  resets : List Nat := []
  /-- ASNs of admitted FINISH verbs not yet executed -/
  finishes : List Nat := []
  /-- State after every admitted verb -/
  astate : ZState := .empty
  /-- Admission write pointer -/
  awp : Nat := 0
  /-- ASN of the last admitted write -/
  lastWrite : Nat := 0
  /-- ASN of a COPY that holds the zone until its sources are read (13 R412) -/
  heldBy : Option Nat := none
  /-- The zone stores its partial husk short at the next destage (09 R288) -/
  short : Bool := false
deriving DecidableEq, Repr, Inhabited

/-- Segment table entry (09 R294). -/
inductive SegState where
  | free | inUse | reserved | retired
deriving DecidableEq, Repr, Inhabited

structure SegEntry where
  state : SegState := .free
  lead : Bool := false
  width : Nat := 0
  zone : Nat := 0
  drawSeq : Nat := 0
  /-- Next segment of the zone, or the lead band -/
  next : Nat := 2097151
  /-- Stream offset of the first slot, in slots -/
  streamStart : Nat := 0
deriving DecidableEq, Repr, Inhabited

/-- Frame index half-entry (09 R295). START in 16-byte units, LEN in 256-byte units. -/
structure Frame where
  start : Nat := 0
  len : Nat := 0
  husks : Nat := 0
deriving DecidableEq, Repr, Inhabited

/-- A husk in a stream: header fields (10 R311), its stored form as it lies on the medium, and the logical data that
decryption and decompression give back. -/
structure Husk where
  zone : Nat
  offset : Nat
  raw : Bool
  keyDomain : Nat
  short : Bool
  logicalLen : Nat
  storedLen : Nat
  dataCrc : BitVec 32
  seq : Nat
  /-- Stream unit of 16 bytes -/
  start : Nat
  stored : List Byte
  logical : List Byte
  /-- ASNs of the versions it holds, by block -/
  clean : List (Nat × Nat)
deriving DecidableEq, Repr, Inhabited

/-- A sector on the medium (06 R177, R178). -/
structure Sector where
  /-- Payload as it lies on the medium: ciphertext under a KEYED domain (10 R304, R321) -/
  stored : Block
  /-- The logical block that decryption gives back -/
  payload : Block
  kind : BitVec 8
  writeSeq : BitVec 32
deriving DecidableEq, Repr, Inhabited

/-- One write's version of a block in the write cache (11 R337, R357, R358). -/
structure CacheVer where
  asn : Nat
  data : Block
  dirty : Bool
  staging : Bool
  resetCount : Nat
  marked : Bool
deriving DecidableEq, Repr, Inhabited

/-- One journal item (11 R353) as the new value it states. -/
inductive JItem where
  | zone (z : Nat) (v : ZDesc)
  | seg (band : Nat) (v : SegEntry)
  | frame (k : Nat) (v : Frame)
  | bitmap (word : Nat) (v : BitVec 64)
deriving DecidableEq, Repr, Inhabited

/-- A journal record (11 R353). flags: [0] CHECKPOINT_BEGIN, [1] CHECKPOINT_END. -/
structure JRec where
  jseq : Nat
  asn : Nat
  flags : BitVec 8
  items : List JItem
deriving DecidableEq, Repr, Inhabited

/-- A record waiting to be appended: a write's blocks by zone (first and end offset), or placed data: items, and the
blocks it makes clean. -/
structure JPend where
  asn : Nat
  writes : List (Nat × Nat × Nat)
  items : List JItem
  clean : List (Nat × Nat)
deriving DecidableEq, Repr, Inhabited

/-- A copy of the map as a checkpoint holds it (11 R356). -/
structure MapImage where
  zones : KMap ZDesc := {}
  segs : KMap SegEntry := {}
  bitmap : KMap (BitVec 64) := {}
  frames : KMap Frame := {}
deriving DecidableEq, Repr, Inhabited

/-- An acorn (11 R363): directory with data, journal tail. -/
structure AcornBlock where
  key : Nat
  data : Block
  encrypted : Bool
  marked : Bool
  keyDomain : Nat
  resetCount : Nat
  asn : Nat
  crcGood : Bool
deriving DecidableEq, Repr, Inhabited

structure Acorn where
  saveSeq : Nat
  time : Nat
  blocks : List AcornBlock
  journal : List JRec
  headJseq : Nat
  tailJseq : Nat
deriving DecidableEq, Repr, Inhabited

inductive AreaState where
  | erased | saved | consumed
deriving DecidableEq, Repr, Inhabited

/-- ACORN_STATE (11 R373). -/
inductive AcornState where
  | none | saved | consumed | saveFail | saving
deriving DecidableEq, Repr, Inhabited

/-- Compression and decompression jobs (10 R306, R309, R317). `input` is logical data to compress; a decompression
names its husk's stream unit. -/
structure Job where
  decomp : Bool
  zone : Nat
  offset : Nat
  input : List Byte
  short : Bool
  /-- Chain capacity in bytes and whether it is short (10 R315) -/
  chain : Nat
  shortChain : Bool
  unit : Nat
  clean : List (Nat × Nat)
  /-- CHAIN_DEPTH, LAZY and NICE_LENGTH at the job's start (10 R306, R308) -/
  depth : Nat
  lzy : Bool
  nice : Nat
  /-- The blocks of a decompressed husk enter the read cache (10 R319, 13 R405, R408) -/
  fill : Bool := true
  /-- A compression started again after an uncorrectable word (15 R468) -/
  retried : Bool := false
deriving DecidableEq, Repr, Inhabited

/-- An entry of the verify list (07 R231). -/
structure VerifyEntry where
  head : HeadId
  loc : SectorLoc
  reason : Nat
deriving DecidableEq, Repr, Inhabited

/-- Key domain (10 R323). -/
inductive KeyState where
  | unkeyed | keyed | erased | erasePending
deriving DecidableEq, Repr, Inhabited

structure KeyDomain where
  state : KeyState := .unkeyed
  keyId : BitVec 32 := 0
  key : List Byte := []
  nonce : List Byte := []
deriving DecidableEq, Repr, Inhabited

/-- A die's data: map, caches, medium, journal, acorn, keys. -/
structure DieData where
  /-- Zone descriptors; an unlisted zone is EMPTY with unset attributes [09 R293; 2^19 × 64 B; EMPTY, DC 9] -/
  zones : KMap Zone := {}
  /-- Segment table; an unlisted band is FREE, or RESERVED by its role [09 R294; 24 × NB entries; DC 9] -/
  segs : KMap SegEntry := {}
  /-- Conventional bitmap by 64-bit word, zone × 8,192 + word; an unlisted word is 0 [09 R290, R296; 64 × 2^19 bits; 0, DC 9] -/
  bitmap : KMap (BitVec 64) := {}
  /-- Frame index, keyed zone × 8,192 + frame [09 R295; 8,192 half-entries per zone; LEN 0, DC 9] -/
  frames : KMap Frame := {}
  /-- Husks in the streams, keyed zone × 2^29 + start unit [10 R311; list; none] -/
  husks : KMap Husk := {}
  /-- Sectors on the medium, keyed (head × 2^22 + track) × 2^16 + sector [06 R177; medium; none written, DC 9] -/
  media : KMap Sector := {}
  /-- Blocks recorded unreadable [07 R232, 11 R367, 15 R468; list; none] with the status they read as -/
  unreadable : KMap (BitVec 16) := {}
  /-- DRAW_SEQ of the next draw [09 R285, R294; 24 bits; 0, DC 9] -/
  drawSeq : Nat := 0
  /-- FORMAT_SEQ and whether a valid format record for the HDA exists [09 R291, R302; 32 bits; 0, DC 9] -/
  formatSeq : Nat := 0
  formatted : Bool := false
  /-- Defective sectors (head, track, sector) in force since the last format [09 R301; list; none, DC 10] -/
  defects : List (Nat × Nat × Nat) := []
  /-- Values fixed by the last format: CONV_ZONES, BAND_TRACKS, BAND_GUARD_TRACKS, CONV_KEY_DOMAIN, NB, CONV_BANDS [09 R302, R303; DC 9 defaults] -/
  convZones : Nat := 16
  bandTracks : Nat := 32
  bandGuard : Nat := 1
  convKeyDomain : Nat := 0
  nb : Nat := 0
  convBands : Nat := 0
  /-- ZONE_POOL_LOW is armed [09 R285; 2 bits; armed, DC 6] -/
  poolArmedA : Bool := true
  poolArmedB : Bool := true
  /-- Frame index pages in the pool: page number and dirty bit, least recently used first [09 R296; list; none] -/
  pages : List (Nat × Bool) := []
  /-- Pages at their home in the hidden metadata area [09 R291; list; none] -/
  homePages : List Nat := []
  /-- Write cache: versions of each die-local block, newest first [11 R337; WRITE_CACHE_MIB; none] -/
  wc : KMap (List CacheVer) := {}
  /-- Read cache [11 R337; remainder of DRAM; none] -/
  rc : KMap Block := {}
  /-- Write data received for a verb and not yet whole: ASN → block index → data [11 R357; staging; none] -/
  arriving : KMap (KMap Block) := {}
  /-- Journal ring from JOURNAL_HEAD, oldest first [11 R353; JOURNAL_RING_MIB; none] -/
  ring : List JRec := []
  /-- JSEQ of the last appended record and JOURNAL_TAIL [11 R354, 15 R470; 64 bits; 0, DC 9] -/
  tail : Nat := 0
  /-- JOURNAL_HEAD: JSEQ of the oldest record not in the log [11 R354; two-copy record; 1, DC 9] -/
  head : Nat := 1
  /-- Journal checkpoint log on the medium, both copies [11 R355; 1 GiB; none] -/
  log : List JRec := []
  /-- Revolution at which the tail became non-empty [11 R355; internal; 0, DC 6] -/
  tailRev : Nat := 0
  /-- Checkpoint on the medium and its base JSEQ [11 R356; two copies; empty, DC 9] -/
  checkpoint : MapImage := {}
  cpBase : Nat := 0
  /-- Records waiting to be appended, oldest first [11 R354; queue; none] -/
  jq : List JPend := []
  /-- Dispatch log: ASNs of the parts the die holds [11 R359; log; none] -/
  dispatch : List Nat := []
  /-- Compression and decompression queues and the 16 lanes [10 R309, R334; queues; empty] -/
  compQ : List Job := []
  decompQ : List Job := []
  lanes : List (Option Job) := List.replicate 16 none
  /-- Finished husks waiting for placement [10 R310; compression staging; none] -/
  finished : List Husk := []
  /-- Completion record of the last job [10 R317; 128 bits; 0, DC 6] -/
  jobRecord : BitVec 128 := 0
  /-- Verify list [07 R231; 1,024 entries; empty] -/
  verify : List VerifyEntry := []
  /-- VERIFY_LIST_FULL condition holds [07 R231; 1 bit; 0] -/
  verifyFull : Bool := false
  /-- Key domains [10 R323; 64; UNKEYED, DC 9] -/
  keys : KMap KeyDomain := {}
  /-- CRYPT_STATUS HEADER_BAD, CRC_MISMATCH, KEY_LOADED, KEY_ERASED, UNWRAP_FAIL, RW1C [10 R335; 5 bits; 0] -/
  headerBad : Bool := false
  crcMismatch : Bool := false
  keyLoaded : Bool := false
  keyErased : Bool := false
  unwrapFail : Bool := false
  /-- Draw of the nonces that no KEY LOAD has been aimed at since the die's reset [10 R324; internal; 0, DC 21] -/
  nonceBase : Nat := 0
  /-- Domains under erase and the ASN from which admission is held [10 R328; list; none] -/
  erasing : List (Nat × Nat) := []
  /-- Acorn areas, next area, ACORN_STATE, SAVE_SEQ, and the acorn in each area [11 R363, R365; MRAM record; ERASED, area 0, NONE, DC 9] -/
  area0 : AreaState := .erased
  area1 : AreaState := .erased
  nextArea : Bool := false
  acornState : AcornState := .none
  saveSeq : Nat := 0
  acorn : Option Acorn := none
  /-- Acorn being written [11 R363; record; none] -/
  saving : Option Acorn := none
  /-- A power-fail is in progress on the die, its detection time in quarter ns, HOLDUP_SNS in mV at detection [11 R361, R372; record; none] -/
  pfail : Option (Nat × Nat) := none
  /-- Dirty set frozen [11 R362; 1 bit; 0] -/
  frozen : Bool := false
  /-- BUF_STATUS PFAIL_SEEN, SAVE_FAIL, RESTORED, OVER_BUDGET_SEEN, REPLAYED, RW1C [11 R372; 5 bits; 0] -/
  pfailSeen : Bool := false
  saveFailFlag : Bool := false
  restored : Bool := false
  overSeen : Bool := false
  replayed : Bool := false
  /-- The condition of R349 holds [11 R349, R372; 1 bit; 0] -/
  overBudget : Bool := false
  /-- Dirty budget in bytes and V_CALC in mV [11 R346, R373; 64, 16 bits; 0] -/
  budget : Nat := 0
  vCalc : Nat := 0
  /-- Lowest HOLDUP_SNS conversion in mV of each of the last two rounds [11 R346, R347; record; none] -/
  sns1 : Option Nat := none
  sns2 : Option Nat := none
  /-- V_end of a running HOLDUP_CAP [08 R256; mV; none] -/
  vEnd : Option Nat := none
  /-- NAND port up [11 R347; 1 bit; 1, DC 6] -/
  nandUp : Bool := true
deriving DecidableEq, Repr, Inhabited

/-- One way of the map cache (15 R471). -/
structure Way where
  tag : BitVec 15 := 0
  valid : Bool := false
  dirty : Bool := false
  lock : Bool := false
  dirtyJseq : BitVec 32 := 0
  entries : List (BitVec 128) := []
deriving DecidableEq, Repr, Inhabited

structure CacheSet where
  ways : List Way := List.replicate 8 {}
  plru : BitVec 7 := 0
deriving DecidableEq, Repr, Inhabited

/-- A line outside the cache: byte offset of the line in the map area and its four entries. -/
structure Line where
  off : Nat
  entries : List (BitVec 128)
  /-- Order of entry into the eviction buffer (15 R474: writes to one address stay in order) -/
  seq : Nat := 0
deriving DecidableEq, Repr, Inhabited

/-- Memories, scrubbers and the map cache of a die (15). -/
structure MemState where
  /-- Regions whose fill runs [15 R460, R482 FILL_BUSY; set; all regions] -/
  filling : List FillRegion := [.sram, .coreLocal, .controlStore, .dram, .mapCache]
  /-- MEM_STATUS CE_THRESHOLD, UE_FETCH, UE_DMA, UE_SCRUB, MAP_ENTRY_BAD, MAP_ENTRY_LOST, MAP_TAG_PARITY, RW1C [15 R482; 7 bits; 0] -/
  ceThreshold : Bool := false
  ueFetch : Bool := false
  ueDma : Bool := false
  ueScrub : Bool := false
  mapEntryBad : Bool := false
  mapEntryLost : Bool := false
  mapTagParity : Bool := false
  /-- Words of the present round already read [15 R462; internal; 0, DC 6] -/
  onchipPos : Nat := 0
  dramPos : Nat := 0
  /-- Correction queue: region and address, oldest first [15 R465; 16 entries; empty] -/
  corrQ : List (Nat × BitVec 64) := []
  /-- Words poisoned by the scrubber: region and address [15 R464; list; none] -/
  poisoned : List (Nat × BitVec 64) := []
  /-- Map cache sets; an unlisted set is empty [15 R471; 4,096 sets of 8 ways; VALID, DIRTY, LOCK 0] -/
  sets : KMap CacheSet := {}
  /-- Eviction buffer [15 R474; 8 lines; empty] -/
  evict : List (Option Line) := List.replicate 8 none
  /-- Side buffer, oldest first [15 R476; 32 lines; empty] -/
  side : List Line := []
  /-- Map area of DRAM by 16-byte entry number [15 R471, 09 R296; map area; 0 by the fill] -/
  area : KMap (BitVec 128) := {}
  /-- Range invalidations: ranges not yet passed (next byte, end) in order, and evictions (by seq) whose write-back
  they wait for [15 R478, R483; list; none] -/
  invRanges : List (Nat × Nat) := []
  invWait : List Nat := []
deriving DecidableEq, Repr, Inhabited

/-- One microcoded engine (16 R487 to R495). -/
structure Engine where
  run : Bool := false
  waiting : Option (BitVec 64) := none
  pc : Nat := 0
  /-- Words of the present clause executed -/
  count : Nat := 0
  /-- An ILLEGAL or ADDRESS fault and its word, taken at the clause's end -/
  faulting : Option (Bool × Nat) := none
  /-- Stopped by a fault -/
  stopped : Bool := false
  /-- Requests sampled at the next clause end -/
  haltReq : Bool := false
  resetReq : Bool := false
  alu : BitVec 3 := 0
  flags : BitVec 4 := 0
  halted : Bool := false
deriving DecidableEq, Repr, Inhabited

/-- ENG_VERSION entry (16 R497). -/
structure EngVersion where
  version : BitVec 32 := 0
  patch : BitVec 32 := 0
  digest32 : BitVec 32 := 0
  state : BitVec 8 := 0
deriving DecidableEq, Repr, Inhabited

/-- Cores and engines of a die (16). -/
structure EngState where
  /-- Engines 0 to 23 sequencers, 24 motor, 25 control-law [16 R487, R496; 26; stopped, pc 0] -/
  engines : Vector Engine 26 := Vector.replicate 26 {}
  /-- Engine registers by engine × 2^16 + number: contents the spec leaves to the code [16 R489, R492; files; 0, DC 6] -/
  regs : KMap (BitVec 64) := {}
  /-- ENG_STATUS.CLE_BANK and SWAP_PENDING [16 R496; 2 bits; 0] -/
  cleBank : Bool := false
  swapPending : Bool := false
  /-- ENG_FAULT, RW1C [16 R496; 28 bits; 0] -/
  faults : BitVec 28 := 0
  /-- CORE_RUN [16 R496; 32 bits; 0] -/
  coreRun : BitVec 32 := 0
  /-- Times of each core's last restarts, newest first, quarter ns [16 R486; internal; none] -/
  restarts : KMap (List Nat) := {}
  /-- Times of the security monitor's last restarts [17 R528; internal; none] -/
  monRestarts : List Nat := []
  /-- ENG_VERSION [16 R497; 28 × 128 bits; 0] -/
  versions : Vector EngVersion 28 := Vector.replicate 28 {}
  /-- Results posted by REPORT words, newest first [16 R490; list; none] -/
  reports : List (Nat × BitVec 64) := []
deriving DecidableEq, Repr, Inhabited

/-- Thermal states (18 R541). -/
inductive ThermState where
  | normal | warn | reduceAssist | reduceHeads | stopWrites | shutdown
deriving DecidableEq, Repr, Inhabited

/-- An asserted flag with its two dwell counts (18 R539). -/
structure DwellFlag where
  set : Bool := false
  up : Nat := 0
  down : Nat := 0
  /-- Rounds for which the flag has stayed set -/
  held : Nat := 0
deriving DecidableEq, Repr, Inhabited

/-- Housekeeping (18). -/
structure HkState where
  /-- Slot in progress and completed rounds [18 R546 HK_SLOT; 6, 26 bits; 0] -/
  slot : Nat := 0
  rounds : Nat := 0
  /-- Codes of the round in progress and of the last round [18 R531, R547; 64 × 12 bits; 0] -/
  codes : List (BitVec 12) := List.replicate 64 0
  last : List (BitVec 12) := List.replicate 64 0
  /-- Package-time stamp of the last round, ns [18 R531; 64 bits; 0] -/
  stamp : Nat := 0
  /-- THERMAL_STATE [18 R541, R546; 3 bits; NORMAL] -/
  state : ThermState := .normal
  /-- SUSPECT_MASK [18 R536, R546; 8 bits; 0] -/
  suspect : BitVec 8 := 0
  /-- Per-sensor runs over and within the deviation limits [18 R536; internal; 0, DC 6] -/
  devUp : List Nat := List.replicate 8 0
  devDown : List Nat := List.replicate 8 0
  /-- THERMALLY_BLIND [18 R537, R546; 1 bit; 0] -/
  blind : Bool := false
  /-- HK_STATUS STATE_UP, SHUTDOWN_SEEN, SENSOR, SUPPLY, RW1C [18 R546; 4 bits; 0] -/
  stateUp : Bool := false
  shutdownSeen : Bool := false
  sensor : Bool := false
  supply : Bool := false
  /-- Governing temperatures: die, remote 0, remote 1, HDA, head [18 R535; °C; 0] -/
  temps : List Rat := [0, 0, 0, 0, 0]
  /-- Absolute threshold flags: 5 classes × 4 levels [18 R539; 20 flags; clear] -/
  flags : List DwellFlag := List.replicate 20 {}
  /-- Rate flags: die warn, die throttle, HDA warn, HDA throttle [18 R540; 4 flags; clear] -/
  rates : List DwellFlag := List.replicate 4 {}
  /-- Round stamps (ns) with die and HDA temperatures, newest first [18 R540; window; none] -/
  history : List (Nat × Rat × Rat) := []
  /-- Supply out-of-range counts: out, in, raised, for seven rails [18 R534; internal; 0, DC 6] -/
  supplies : List (Nat × Nat × Bool) := List.replicate 7 (0, 0, false)
  /-- SENSOR_DISAGREE episode is open [18 R535; 1 bit; 0, DC 6] -/
  disagree : Bool := false
  /-- Heads left out for an old report [18 R535; 24 bits; 0, DC 6] -/
  stale : BitVec 24 := 0
deriving DecidableEq, Repr, Inhabited

/-- A programmable counter (19 R548, R568). -/
structure Cnt where
  event : BitVec 10 := 0
  ovfEvent : Bool := false
  value : BitVec 48 := 0
  ovf : Bool := false
deriving DecidableEq, Repr, Inhabited

/-- A bandwidth monitor (19 R552, R553). flags: [0] COASTING, [1] PARTIAL, [2] NO_WINDOW_YET. -/
structure Monitor where
  bytes : Nat := 0
  lastBytes : Nat := 0
  duration : Nat := 0
  endTime : Nat := 0
  flags : BitVec 3 := 4
deriving DecidableEq, Repr, Inhabited

/-- An event log record (19 R563). -/
structure EvRec where
  time : Nat
  stamp : BitVec 48
  source : Nat
  code : Nat
  severity : Nat
  coasting : Bool
  unaligned : Bool
  seq : Nat
  data : BitVec 64
deriving DecidableEq, Repr, Inhabited

/-- A latched counter block (19 R557). -/
structure SnapBlock where
  flags : BitVec 5
  time : Nat
  revs : Nat
  wedges : Nat
  stamp : BitVec 49
  cnts : List Cnt
  mons : List Monitor
deriving DecidableEq, Repr, Inhabited

/-- Counters, event log, snapshots of a die (19). -/
structure ObsState where
  /-- CNT[0] to CNT[15] with CNT_SEL and OVF [19 R548, R568; 16 × (10 + 1 + 48 + 1) bits; 0] -/
  cnts : List Cnt := List.replicate 16 {}
  /-- REVOLUTIONS and WEDGES fixed counters [19 R548; 64 bits; 0] -/
  revs : Nat := 0
  wedges : Nat := 0
  /-- CNT_STATUS.FROZEN [19 R556, R568; 1 bit; 0] -/
  frozen : Bool := false
  /-- Bandwidth monitors [19 R552; 37; 0, NO_WINDOW_YET] -/
  mons : List Monitor := List.replicate 37 {}
  /-- Start of the present window: package time ns, revolution count; whether it saw coasting [19 R553; internal; 0, DC 6] -/
  bwStart : Nat := 0
  bwRev : Nat := 0
  bwCoast : Bool := true
  /-- Event log, newest first [19 R563; 4,096 records; empty] -/
  log : List EvRec := []
  /-- EVENT_LOG_NEXT_SEQ [19 R563, R569; 32 bits; 0] -/
  nextSeq : Nat := 0
  /-- Occurrences not yet forwarded to the anchor router, oldest first [16 R500; queue; empty] -/
  evtOut : List Nat := []
  /-- Scheduled snapshots: T and action, oldest first [19 R554, R555; queue; empty] -/
  snaps : List (Nat × BitVec 8 × Bool) := []
  /-- Latched blocks on their way to the anchor, oldest first, by T; a release sends none [19 R555; list; empty] -/
  blocks : List (Nat × Option SnapBlock) := []
deriving DecidableEq, Repr, Inhabited

/-- DIE_STATE (20 R590). -/
inductive DieLife where
  | starting | active | isolated | unformatted | reconciling
deriving DecidableEq, Repr, Inhabited

/-- HDA power states (20 R576). -/
inductive PowerState where
  | active | reduced | unloaded | standby | dieSleep
deriving DecidableEq, Repr, Inhabited

/-- Fabric credits of one module direction: request, response, urgent on VC0 then VC1 (11 R343). -/
structure Credits where
  req0 : Nat := 128
  req1 : Nat := 128
  rsp0 : Nat := 96
  rsp1 : Nat := 96
  urg0 : Nat := 32
  urg1 : Nat := 32
deriving DecidableEq, Repr, Inhabited

/-- An object access on its way to a member die (14 R444). -/
structure ObjAccess where
  write : Bool
  src : Source
  index : BitVec 16
  sub : BitVec 8
  inst : BitVec 8
  segOff : Nat
  len : Nat
  last : Bool
  data : List Byte
  /-- Who waits for the answer: a verb (its ASN), the object window, or a link request -/
  asn : Option Nat
  window : Bool
  /-- Number of the link request -/
  req : Option Nat
deriving DecidableEq, Repr, Inhabited

/-- The anchor's admission mirror of a die (11 R340). -/
structure Mirror where
  slots : Nat := 0
  cacheBytes : Nat := 0
  dirtyBytes : Nat := 0
  journalBytes : Nat := 0
  ingress : Nat := 8388608
  egress : Nat := 8388608
deriving DecidableEq, Repr, Inhabited

/-- One die. -/
structure Die where
  /-- DIE_STATE [20 R589, R590; 3 bits; STARTING] -/
  life : DieLife := .starting
  /-- ISOLATION_CAUSE [20 R583, R589; 4 bits; 0] -/
  cause : Nat := 0
  /-- HDA_POWER_STATE and HDA_POWER_TARGET [20 R576, R590; 3 bits each; Active] -/
  power : PowerState := .active
  target : PowerState := .active
  /-- DIE_STATUS RECONCILED, GAP, WOKEN, RW1C [20 R589; 3 bits; 0] -/
  reconciled : Bool := false
  gap : Bool := false
  woken : Bool := false
  /-- Boot progress: images loaded, records read, heads loaded, NAND part, media part, step 7 done [20 R573; internal; none] -/
  imaged : Bool := false
  recordsRead : Bool := false
  bootLoaded : Bool := false
  replayDone : Bool := false
  bootDone : Bool := false
  /-- An isolated die that is rejoining [20 R580; 1 bit; 0] -/
  rejoining : Bool := false
  /-- Local time of the last reset of the die [20 R575; quarter ns; 0] -/
  resetTime : Nat := 0
  clock : AngleClock := {}
  spin : Spindle := {}
  heads : Vector Head 24 := Vector.replicate 24 {}
  actA : Actuator := {}
  actB : Actuator := {}
  /-- Servo format in force: W, TRACKS, SKEW, and its serial match [04 R115; table; DC 10] -/
  servoW : Nat := 600
  tracks : Nat := 1200000
  skew : List Int := List.replicate 24 0
  servoMatch : Bool := true
  /-- Shock comparators tripped; wedges left of the holdoff [05 R161, R163, R167; 1 bit, count; 0] -/
  shock : Bool := false
  holdoff : Nat := 0
  /-- SERVO_STATUS OVERRUN, SWAP_SAT_A, SWAP_SAT_B, SHOCK_TRIP, RECOVER_A, RECOVER_B, LOAD_FAIL, RW1C [05 R167; 7 bits; 0] -/
  overrun : Bool := false
  swapSatA : Bool := false
  swapSatB : Bool := false
  shockTrip : Bool := false
  recoverA : Bool := false
  recoverB : Bool := false
  loadFail : Bool := false
  /-- The wedge now collected overran, and the one before did [05 R144; 2 bits; 0] -/
  overrunNow : Bool := false
  overrunPrev : Bool := false
  /-- Total charge of each actuator in slot k − 1 [07 R226; mW; 0, DC 6] -/
  prevA : Rat := 0
  prevB : Rat := 0
  grantOrder : Nat := 0
  /-- ASSIST_STATUS MODE_HOP, REVOKE, BLOCKED, VERIFY_FULL, UNSTABLE, RW1C [07 R234; 5 bits; 0] -/
  modeHop : Bool := false
  revoke : Bool := false
  blocked : Bool := false
  verifyFullSeen : Bool := false
  unstable : Bool := false
  /-- Running calibrations by instance byte [08 R238, R267; table; none] -/
  calRuns : KMap CalRun := {}
  /-- Calibration records by kind × 256 + instance byte [08 R258, R259; MRAM; MISSING, DC 9] -/
  calRecords : KMap TwoCopy := {}
  /-- Records (kind × 256 + instance) whose evaluation waits for the first round since reset [08 R263; list; none] -/
  evalWait : List Nat := []
  /-- HOLDUP_TEST output [08 R256, R267; pin; 0] -/
  holdupTest : Bool := false
  /-- CAL_STATUS DONE, TIMEOUT, FAILED, STALE, REPAIRED, RW1C [08 R267; 5 bits; 0] -/
  calDone : Bool := false
  calTimeout : Bool := false
  calFailed : Bool := false
  calStale : Bool := false
  calRepaired : Bool := false
  /-- HDA serial CRC of the fitted HDA [02 R55, 08 R258; 32 bits; DC 12] -/
  hdaCrc : BitVec 32 := 0
  data : DieData := {}
  mem : MemState := {}
  eng : EngState := {}
  hk : HkState := {}
  obs : ObsState := {}
  /-- The anchor's mirror of this die [11 R340; counters; 0 until the die is in service] -/
  mirror : Mirror := {}
  /-- Credits held toward modules M0 to M3 [11 R343; 4 × 6 counters; full] -/
  credits : List Credits := List.replicate 4 {}
  /-- Link errors counted on M0 to M3 [01 R35, R36; counters; 0, DC 6] -/
  linkErrors : List Nat := List.replicate 4 0
  /-- Object accesses forwarded and not yet applied, oldest first [14 R444; queue; empty] -/
  accesses : List ObjAccess := []
deriving DecidableEq, Repr, Inhabited

end Sys2Proof.Machine
end

