-- ==== Sys2Proof/Machine/MapCache.lean ====
section
/-! DEFINITION. The map cache of a die: sets, pseudo-LRU, eviction buffer, side buffer (15 R471 to R479). Offsets are
byte offsets in the map area; a line is 64 bytes, four entries. -/

namespace Sys2Proof.Machine

/-- set := offset[17:6] xor offset[29:18] (15 R471). -/
def lineSet (off : Nat) : Nat := (off / 64 % 4096) ^^^ (off / 262144 % 4096)

/-- tag := offset[32:18] (15 R471). -/
def lineTag (off : Nat) : BitVec 15 := BitVec.ofNat 15 (off / 262144)

def lineStart (off : Nat) : Nat := off / 64 * 64

/-- The line a set and a tag spell. -/
def lineOf (set : Nat) (tag : BitVec 15) : Nat := tag.toNat * 262144 + (set ^^^ (tag.toNat % 4096)) * 64

/-- Bytes of the map area that go through the cache: descriptors, segment table, frame index page pool; the conventional
bitmap between them does not (15 R471, 09 R296; log 23). -/
def inPool (off : Nat) : Bool := decide (71303168 ≤ off)

def cacheable (off : Nat) : Bool := decide (off < 67108864) || inPool off

/-! ### Pseudo-LRU (15 R473) -/

def putBit (b : BitVec 7) (i : Nat) (v : Bool) : BitVec 7 :=
  if v then b ||| (1#7 <<< i) else b &&& ~~~(1#7 <<< i)

/-- Each bit on way w's path points away from w. -/
def plruTouch (b : BitVec 7) (w : Nat) : BitVec 7 :=
  let b := putBit b 0 (decide (w < 4))
  let b := if w < 4 then putBit b 1 (decide (w < 2)) else putBit b 2 (decide (w < 6))
  putBit b (3 + w / 2) (decide (w % 2 = 0))

/-- One node: the side its bit names, or the other where that side holds none. -/
def plruPick (b : BitVec 7) (i : Nat) (lo hi : Option Nat) : Option Nat :=
  if b.getLsbD i then hi.orElse fun _ => lo else lo.orElse fun _ => hi

/-- The evictable way that the bits lead to. -/
def plruVictim (b : BitVec 7) (ok : Nat → Bool) : Option Nat :=
  let leaf := fun (w : Nat) => if ok w then some w else none
  let pair := fun (p : Nat) => plruPick b (3 + p) (leaf (2 * p)) (leaf (2 * p + 1))
  plruPick b 0 (plruPick b 1 (pair 0) (pair 1)) (plruPick b 2 (pair 2) (pair 3))

def CacheSet.way (c : CacheSet) (w : Nat) : Way := c.ways.getD w {}

/-- Where a line of this tag goes: its reserved way, the lowest way neither VALID nor reserved, or a victim. -/
def CacheSet.choose (c : CacheSet) (tag : BitVec 15) : Option Nat :=
  let ws := List.range 8
  (ws.find? fun w => let x := c.way w; x.lock && !x.valid && x.tag == tag).orElse fun _ =>
    (ws.find? fun w => let x := c.way w; !x.valid && !x.lock).orElse fun _ =>
      plruVictim c.plru fun w => let x := c.way w; x.valid && !x.lock

def CacheSet.locked (c : CacheSet) : Nat := (c.ways.filter fun w => w.lock).length

/-! ### Lookup -/

def MemState.set (m : MemState) (i : Nat) : CacheSet := m.sets.getD i {}

def MemState.putSet (m : MemState) (i : Nat) (c : CacheSet) : MemState := { m with sets := m.sets.insert i c }

def MemState.setWay (m : MemState) (i w : Nat) (x : Way) : MemState :=
  let c := m.set i
  m.putSet i { c with ways := c.ways.set w x }

/-- The way that holds a line. -/
def MemState.look (m : MemState) (off : Nat) : Option Nat :=
  (List.range 8).find? fun w => let x := (m.set (lineSet off)).way w; x.valid && x.tag == lineTag off

/-- The newest eviction of a line. -/
def MemState.lookEvict (m : MemState) (off : Nat) : Option Line :=
  m.evict.foldl (fun best e =>
    match e with
    | none => best
    | some l =>
      if l.off = lineStart off ∧ (best.map fun b => decide (b.seq < l.seq)).getD true then some l else best) none

def MemState.lookSide (m : MemState) (off : Nat) : Option Line := m.side.find? fun l => l.off == lineStart off

/-- The line as DRAM holds it. -/
def MemState.fromDram (m : MemState) (off : Nat) : List (BitVec 128) :=
  (List.range 4).map fun i => m.area.getD (lineStart off / 16 + i) 0

/-- Write one entry of the map area in DRAM. -/
def MemState.putArea (m : MemState) (n : Nat) (v : BitVec 128) : MemState :=
  { m with area := if v = 0 then m.area.erase n else m.area.insert n v }

/-- Write a line to DRAM. -/
def MemState.toDram (m : MemState) (off : Nat) (es : List (BitVec 128)) : MemState :=
  (List.range 4).foldl (fun m i => m.putArea (lineStart off / 16 + i) (es.getD i 0)) m

/-- LOCKED_WAYS (15 R477). -/
def MemState.lockedWays (m : MemState) : Nat := (m.sets.entries.map fun e => e.2.locked).foldl (· + ·) 0

/-! ### Eviction (15 R474, R475) -/

def MemState.nextSeq (m : MemState) : Nat :=
  m.evict.foldl (fun n e => match e with | none => n | some l => max n (l.seq + 1)) 1

/-- Put a dirty line into the first free entry of the eviction buffer: the number it gets. -/
def MemState.pushEvict (m : MemState) (off : Nat) (es : List (BitVec 128)) : Option (MemState × Nat) :=
  match m.evict.findIdx? Option.isNone with
  | none => none
  | some i =>
    let l : Line := { off := off, entries := es, seq := m.nextSeq }
    some ({ m with evict := m.evict.set i (some l) }, l.seq)

/-- Bring a line into the cache; none while a dirty victim must wait for the eviction buffer (15 R473, R474). -/
def MemState.install (m : MemState) (off : Nat) (es : List (BitVec 128)) : Option MemState :=
  let i := lineSet off
  let c := m.set i
  match c.choose (lineTag off) with
  | none => none
  | some w =>
    let x := c.way w
    let m' := if x.valid && x.dirty then (m.pushEvict (lineOf i x.tag) x.entries).map Prod.fst else some m
    let y : Way := { tag := lineTag off, valid := true, lock := x.lock, entries := es }
    m'.map fun m => m.putSet i { ways := c.ways.set w y, plru := plruTouch c.plru w }

/-- A prefetched line enters the side buffer, the oldest making room (15 R476). -/
def MemState.prefetch (m : MemState) (off : Nat) : MemState :=
  if (m.look off).isSome || (m.lookEvict off).isSome || (m.lookSide off).isSome then m
  else
    let l : Line := { off := lineStart off, entries := m.fromDram off }
    { m with side := (if 32 ≤ m.side.length then m.side.drop 1 else m.side) ++ [l] }

/-! ### Range invalidation (15 R478) -/

/-- The first line at or above `a` and below `b` in the cache or the side buffer. -/
def MemState.firstIn (m : MemState) (a b : Nat) : Option Nat :=
  let inside := fun (o : Nat) => decide (a ≤ o ∧ o < b)
  let cached := m.sets.entries.flatMap fun e => (e.2.ways.filter fun w => w.valid).map fun w => lineOf e.1 w.tag
  (cached ++ m.side.map Line.off).foldl (fun best o =>
    if inside o && (best.map fun x => decide (o < x)).getD true then some o else best) none

/-- Invalidate one line; none while its write-back must wait for the eviction buffer. -/
def MemState.dropLine (m : MemState) (off : Nat) : Option MemState :=
  let m := { m with side := m.side.filter fun l => l.off != off }
  match m.look off with
  | none => some m
  | some w =>
    let i := lineSet off
    let x := (m.set i).way w
    let clear := fun (m : MemState) => m.setWay i w { x with valid := false, dirty := false, entries := [] }
    if x.dirty then
      (m.pushEvict off x.entries).map fun r => clear { r.1 with invWait := m.invWait ++ [r.2] }
    else some (clear m)

/-- Go on with the invalidations as far as the eviction buffer lets them. `fuel` bounds the lines held: 32,768 ways, 32
lines of the side buffer and the ranges themselves. -/
def MemState.invalidate : Nat → MemState → MemState
  | 0, m => m
  | fuel + 1, m =>
    match m.invRanges with
    | [] => m
    | (a, b) :: rest =>
      match m.firstIn a b with
      | none => MemState.invalidate fuel { m with invRanges := rest }
      | some o =>
        match m.dropLine o with
        | none => { m with invRanges := (o, b) :: rest }
        | some m => MemState.invalidate fuel { m with invRanges := (o + 64, b) :: rest }

def MemState.goOn (m : MemState) : MemState :=
  MemState.invalidate (m.sets.entries.length * 8 + m.side.length + m.invRanges.length) m

/-- An eviction buffer entry's write reaches DRAM, after those of the same line before it (15 R474). -/
def MemState.evictDone (m : MemState) (i : Nat) : MemState :=
  match m.evict.getD i none with
  | none => m
  | some l =>
    let older := m.evict.any fun e =>
      match e with
      | none => false
      | some k => k.off == l.off && decide (k.seq < l.seq)
    if older then m
    else
      ({ m.toDram l.off l.entries with
        evict := m.evict.set i none, invWait := m.invWait.filter fun n => n != l.seq }).goOn

/-- Every eviction in hand reaches DRAM, oldest first. -/
def MemState.drainEvict : Nat → MemState → MemState
  | 0, m => m
  | fuel + 1, m =>
    MemState.drainEvict fuel ((List.range 8).foldl (fun m i => m.evictDone i) m)

/-- The ways of a set that meet p are written to DRAM and become clean. -/
def MemState.cleanSet (m : MemState) (i : Nat) (p : Way → Bool) : MemState :=
  (List.range 8).foldl (fun m w =>
    let x := (m.set i).way w
    if x.valid && x.dirty && p x then
      (m.toDram (lineOf i x.tag) x.entries).setWay i w { x with dirty := false }
    else m) m

/-- a lies before b as a signed difference modulo 2^32 (15 R471). -/
def jseqBefore (a b : BitVec 32) : Bool := (a - b).slt 0

/-- Before JOURNAL_HEAD advances to h, every dirty line first dirtied before h is written back (15 R479). -/
def MemState.writeBackBefore (m : MemState) (h : Nat) : MemState :=
  let m := MemState.drainEvict 8 m
  m.sets.keys.foldl (fun m i => m.cleanSet i fun w => jseqBefore w.dirtyJseq (BitVec.ofNat 32 h)) m

end Sys2Proof.Machine
end

