-- ==== Sys2Proof/Config.lean ====
section
/-! DEFINITION. Free values: what the spec leaves open or takes from an outside standard that it does not restate.
No constant here has a body, so nothing can be proved of its value (log 14, 15, 19, 21). -/

namespace Sys2Proof

/-- Result number n of microcode whose operation the spec does not define (16 R490, R492; log 19). -/
opaque Config.microResult : Nat → BitVec 64 → BitVec 64

/-- The ALU condition bits after such a result (16 R489; log 19). -/
opaque Config.microFlags : Nat → BitVec 64 → BitVec 3

/-- A fresh value of the spec's "random" (10 R324, 17 R526; log 15). -/
opaque Config.random : Nat → Nat → List Byte

/-- Device-unique contents: certificates, keys, identities (14 R454, 17 R526; log 11). -/
opaque Config.deviceUnique : Nat → Nat → List Byte

/-- AES-256-XTS of one 16-byte-aligned run: key, sector tweak, data (10 R321, R322; log 15). -/
opaque Config.xtsEncrypt : List Byte → Nat → List Byte → List Byte
opaque Config.xtsDecrypt : List Byte → Nat → List Byte → List Byte

/-- What a field of a width shows for a count it cannot hold (13 R425; log 25). -/
opaque Config.narrow : Nat → Nat → Nat

/-- SHA-384 (17 R507; log 15). -/
opaque Config.sha384 : List Byte → List Byte

/-- ECDSA P-384 verification of an image signature (17 R507, R510; log 15). -/
opaque Config.ecdsaVerify : List Byte → List Byte → Bool

/-- Whether image-signing key k is revoked (17 R511; log 15). -/
opaque Config.keyRevoked : Nat → Bool

/-- ECDSA P-384 signature (17 R527; log 15). -/
opaque Config.ecdsaSign : Nat → List Byte → List Byte

/-- Key unwrapping of 10 R325 and R326: the die, the nonce, the blob. -/
opaque Config.unwrapKey : Nat → List Byte → List Byte → Option (List Byte)

/-- The DEFLATE stream the compressor makes under its settings (10 R305, R306; log 15): depth, lazy, nice, input. -/
opaque Config.deflate : Nat → Bool → Nat → List Byte → List Byte

/-- Inflation of a DEFLATE stream (10 R304, R319; log 15). -/
opaque Config.inflate : List Byte → Option (List Byte)

/-- log10, square root and cube root of a rational, as the firmware computes them (log 19). -/
opaque Config.log10 : Rat → Rat
opaque Config.sqrt : Rat → Rat
opaque Config.cbrt : Rat → Rat
opaque Config.ln : Rat → Rat

/-- Sine of an angle in turns (08 R252, R253; log 19). -/
opaque Config.sine : Rat → Rat

/-- Rounding of an exact control output to the counts a link carries (05 R151, R153; log 14). -/
opaque Config.round : Rat → Int

/-- Whether a value half way between two counts rounds up where the spec says only "nearest" (04 R127; log 14). -/
opaque Config.tieUp : Rat → Bool

/-- Correction of the angle clock's increment and integral from a phase error (02 R57, R58; log 19). -/
opaque Config.loopFilter : Int → Rat → Int → Int → Int × Int

/-- Back-EMF observer update: number, angle, speed (rpm) and the three back-EMF estimates give angle, speed and
tracking error in electrical au (03 R95; log 19). -/
opaque Config.observer : Nat → BitVec 24 → Rat → List Rat → BitVec 24 × Rat × Int

/-- A calibration's estimate of what the spec describes only in outline (08 R248 to R256; log 19). -/
opaque Config.estimate : Nat → List Int → Int

/-- Net voltage (applied less back-EMF estimate) of a phase whose current is predicted (03 R87; log 19). -/
opaque Config.netVoltage : Nat → Rat

/-- Modulation that matches the back-EMF at a speed in rpm (03 R103; log 19). -/
opaque Config.emfModulation : Int → Rat → Rat

/-- Model current of the observer, A (03 R95; log 19). -/
opaque Config.modelCurrent : Nat → Rat

/-- Divider between a supply rail and its housekeeping slot: volts at the ADC per volt of the rail (18 R534; log 27). -/
opaque Config.railDivider : Nat → Rat

/-- Code under which FW_FALLBACK names a cause: 0 a failed check, 1 the window's end, 2 FW REVERT (17 R522; log 27). -/
opaque Config.fallbackCode : Nat → BitVec 8

/-- The class that THERMAL_STATE_CHANGE names when none, or more than one, decided (18 R541; log 27). -/
opaque Config.decidingClass : Nat → List Nat → BitVec 8

/-- PHYSICAL_BYTES of a die whose servo and recording formats are given (13 R415, R416; log 28). -/
opaque Config.physicalBytes : Nat → List (List Byte) → Nat

/-- Which of the modules that a degraded routing table may take it does take: links down, source, destination, the die
that forwards (01 R40, R41; log 29). -/
opaque Config.routeChoice : List (Nat × Nat) → Nat → Nat → Nat → Nat

/-- DRAM installed on a die: 16, 24 or 32 GiB (11 R337, R373; log 11). -/
opaque Config.dramSize : Nat → Fin 3

end Sys2Proof
end

