-- ==== Sys2Proof/Machine/Codes.lean ====
section
/-! DEFINITION. Status codes (13 R428), refusal codes (14 R440) and events with source, position and severity
(16 R498, R499, 18 R545, 19 R564, R565). -/

namespace Sys2Proof.Machine

/-- Statuses (13 R428). -/
def St.success : BitVec 16 := 0x0000
def St.invalidOpcode : BitVec 16 := 0x0001
def St.invalidField : BitVec 16 := 0x0002
def St.invalidDescriptor : BitVec 16 := 0x0003
def St.dataTransferError : BitVec 16 := 0x0004
def St.notReady : BitVec 16 := 0x0005
def St.internalError : BitVec 16 := 0x0006
def St.pending : BitVec 16 := 0x0101
def St.objectNotFound : BitVec 16 := 0x0102
def St.instanceInvalid : BitVec 16 := 0x0103
def St.accessDenied : BitVec 16 := 0x0104
def St.valueInvalid : BitVec 16 := 0x0105
def St.tableInvalid : BitVec 16 := 0x0106
def St.objectStateConflict : BitVec 16 := 0x0107
def St.objectBusy : BitVec 16 := 0x0108
def St.untrustedSource : BitVec 16 := 0x0109
def St.invalidQueueId : BitVec 16 := 0x0110
def St.queueInUse : BitVec 16 := 0x0111
def St.queueExists : BitVec 16 := 0x0112
def St.fwBlockInvalid : BitVec 16 := 0x0120
def St.fwSignatureInvalid : BitVec 16 := 0x0121
def St.fwImageIncomplete : BitVec 16 := 0x0122
def St.busyOtherSource : BitVec 16 := 0x0123
def St.fwNoPrevious : BitVec 16 := 0x0124
def St.fwActivationInProgress : BitVec 16 := 0x0125
def St.unrecovered : BitVec 16 := 0x0201
def St.addressMismatch : BitVec 16 := 0x0202
def St.noSignal : BitVec 16 := 0x0203
def St.mapMismatch : BitVec 16 := 0x0204
def St.integrityError : BitVec 16 := 0x0205
def St.unwrittenBlock : BitVec 16 := 0x0206
def St.calibrationStale : BitVec 16 := 0x0207
def St.memoryUncorrectable : BitVec 16 := 0x0208
def St.writeFault : BitVec 16 := 0x0209
def St.zoneBoundaryError : BitVec 16 := 0x0301
def St.zoneInvalidWrite : BitVec 16 := 0x0302
def St.zoneIsFull : BitVec 16 := 0x0303
def St.zoneIsReadOnly : BitVec 16 := 0x0304
def St.zoneIsOffline : BitVec 16 := 0x0305
def St.zoneInvalidTransition : BitVec 16 := 0x0306
def St.zoneAttributesFixed : BitVec 16 := 0x0307
def St.tooManyOpenZones : BitVec 16 := 0x0308
def St.zoneFullByExhaustion : BitVec 16 := 0x0309
def St.dieIsolated : BitVec 16 := 0x0401
def St.verbTimeout : BitVec 16 := 0x0402
def St.keyNotLoaded : BitVec 16 := 0x0501
def St.keyNonceStale : BitVec 16 := 0x0502
def St.keyAlreadyLoaded : BitVec 16 := 0x0503
def St.keyDomainInUse : BitVec 16 := 0x0504
def St.keyUnwrapFailed : BitVec 16 := 0x0505
def St.aborted : BitVec 16 := 0x0601
def St.targetNotFound : BitVec 16 := 0x0602
def St.queueFlushed : BitVec 16 := 0x0603
def St.queueNotFrozen : BitVec 16 := 0x0604

/-- The statuses posted with DNR = 1 (13 R390, R428). -/
def statusDnr (x : BitVec 16) : Bool :=
  [St.invalidOpcode, St.invalidField, St.invalidDescriptor, St.objectNotFound, St.instanceInvalid, St.accessDenied, St.valueInvalid, St.tableInvalid, St.untrustedSource, St.invalidQueueId, St.queueInUse, St.queueExists, St.fwBlockInvalid, St.fwSignatureInvalid, St.fwImageIncomplete, St.fwNoPrevious, St.mapMismatch, St.integrityError, St.unwrittenBlock, St.zoneBoundaryError, St.zoneInvalidWrite, St.zoneIsFull, St.zoneIsReadOnly, St.zoneIsOffline, St.zoneInvalidTransition, St.zoneAttributesFixed, St.zoneFullByExhaustion, St.dieIsolated, St.keyNotLoaded, St.keyAlreadyLoaded, St.keyDomainInUse, St.keyUnwrapFailed, St.targetNotFound, St.queueNotFrozen].any (· == x)

def Refuse.domainSessionHeld : BitVec 16 := 0x8001
def Refuse.segmentOrder : BitVec 16 := 0x8002
def Refuse.noSession : BitVec 16 := 0x8003
def Refuse.storeFail : BitVec 16 := 0x8004
def Refuse.commandPending : BitVec 16 := 0x8005
def Refuse.sessionLimit : BitVec 16 := 0x8006

/-- An event: source number within the die (heads, actuators and modules add their own number), position in its
source's list, severity. -/
structure EventKind where
  src : Nat
  pos : Nat
  severity : Nat
deriving DecidableEq, Repr

/-- HEAD_SERVO_LOST -/
def Ev.headServoLost : EventKind := ⟨0, 1, 3⟩
/-- HEAD_SERVO_REJOIN -/
def Ev.headServoRejoin : EventKind := ⟨0, 2, 1⟩
/-- ASSIST_MODE_HOP -/
def Ev.assistModeHop : EventKind := ⟨0, 3, 2⟩
/-- ASSIST_UNSTABLE -/
def Ev.assistUnstable : EventKind := ⟨0, 4, 2⟩
/-- ASSIST_BUDGET_BLOCKED -/
def Ev.assistBudgetBlocked : EventKind := ⟨0, 5, 2⟩
/-- CHANNEL_RATE_LIMIT -/
def Ev.channelRateLimit : EventKind := ⟨0, 6, 2⟩
/-- ACT_LOAD_FAIL -/
def Ev.actLoadFail : EventKind := ⟨24, 1, 3⟩
/-- ACT_SETTLE_FAIL -/
def Ev.actSettleFail : EventKind := ⟨24, 2, 3⟩
/-- ACT_RECOVER -/
def Ev.actRecover : EventKind := ⟨24, 3, 2⟩
/-- ACT_PARKED -/
def Ev.actParked : EventKind := ⟨24, 4, 1⟩
/-- ACT_FAULT -/
def Ev.actFault : EventKind := ⟨24, 5, 3⟩
/-- SERVO_SWAP_SAT -/
def Ev.servoSwapSat : EventKind := ⟨24, 6, 2⟩
/-- PCL_LINK_FAULT -/
def Ev.pclLinkFault : EventKind := ⟨24, 7, 3⟩
/-- PREAMP_FAULT -/
def Ev.preampFault : EventKind := ⟨24, 8, 3⟩
/-- PREAMP_ID_MISMATCH -/
def Ev.preampIdMismatch : EventKind := ⟨24, 9, 3⟩
/-- SHOCK_DETECT -/
def Ev.shockDetect : EventKind := ⟨26, 1, 2⟩
/-- SERVO_OVERRUN -/
def Ev.servoOverrun : EventKind := ⟨27, 1, 2⟩
/-- SERVO_FORMAT_MISMATCH -/
def Ev.servoFormatMismatch : EventKind := ⟨27, 2, 3⟩
/-- CHANNEL_FORMAT_MISMATCH -/
def Ev.channelFormatMismatch : EventKind := ⟨27, 3, 3⟩
/-- ANGLE_LOCKED -/
def Ev.angleLocked : EventKind := ⟨28, 1, 1⟩
/-- ANGLE_LOCK_LOST -/
def Ev.angleLockLost : EventKind := ⟨28, 2, 3⟩
/-- ANGLE_STEP -/
def Ev.angleStep : EventKind := ⟨28, 3, 2⟩
/-- WEDGE_TABLE_MISMATCH -/
def Ev.wedgeTableMismatch : EventKind := ⟨28, 4, 3⟩
/-- SPIN_TABLE_MISMATCH -/
def Ev.spinTableMismatch : EventKind := ⟨29, 1, 3⟩
/-- SPIN_PREDICT -/
def Ev.spinPredict : EventKind := ⟨29, 2, 2⟩
/-- SPIN_HANDOVER_MISMATCH -/
def Ev.spinHandoverMismatch : EventKind := ⟨29, 3, 3⟩
/-- SPIN_REVERSE -/
def Ev.spinReverse : EventKind := ⟨29, 4, 2⟩
/-- SPIN_START_FAIL -/
def Ev.spinStartFail : EventKind := ⟨29, 5, 3⟩
/-- SPIN_AT_SPEED -/
def Ev.spinAtSpeed : EventKind := ⟨29, 6, 1⟩
/-- SPIN_OBSERVER_LOSS -/
def Ev.spinObserverLoss : EventKind := ⟨29, 7, 2⟩
/-- SPIN_REACQ_FAIL -/
def Ev.spinReacqFail : EventKind := ⟨29, 8, 3⟩
/-- CAL_DONE -/
def Ev.calDone : EventKind := ⟨30, 1, 1⟩
/-- CAL_TIMEOUT -/
def Ev.calTimeout : EventKind := ⟨30, 2, 2⟩
/-- CAL_STALE -/
def Ev.calStale : EventKind := ⟨30, 3, 2⟩
/-- CAL_RECORD_REPAIRED -/
def Ev.calRecordRepaired : EventKind := ⟨30, 4, 2⟩
/-- VERIFY_LIST_FULL -/
def Ev.verifyListFull : EventKind := ⟨31, 1, 2⟩
/-- VERIFY_LOST -/
def Ev.verifyLost : EventKind := ⟨31, 2, 4⟩
/-- ZONE_EXHAUSTED -/
def Ev.zoneExhausted : EventKind := ⟨32, 1, 2⟩
/-- ZONE_READ_ONLY -/
def Ev.zoneReadOnly : EventKind := ⟨32, 2, 2⟩
/-- ZONE_POOL_LOW -/
def Ev.zonePoolLow : EventKind := ⟨32, 3, 2⟩
/-- MAP_MISMATCH -/
def Ev.mapMismatch : EventKind := ⟨32, 4, 3⟩
/-- HUSK_HEADER_BAD -/
def Ev.huskHeaderBad : EventKind := ⟨33, 1, 3⟩
/-- HUSK_CRC_MISMATCH -/
def Ev.huskCrcMismatch : EventKind := ⟨33, 2, 3⟩
/-- KEY_ERASED -/
def Ev.keyErased : EventKind := ⟨33, 3, 1⟩
/-- DIRTY_OVER_BUDGET -/
def Ev.dirtyOverBudget : EventKind := ⟨34, 1, 2⟩
/-- ACORN_SAVED -/
def Ev.acornSaved : EventKind := ⟨34, 2, 1⟩
/-- ACORN_SAVE_FAIL -/
def Ev.acornSaveFail : EventKind := ⟨34, 3, 4⟩
/-- ACORN_BLOCK_LOST -/
def Ev.acornBlockLost : EventKind := ⟨34, 4, 4⟩
/-- JOURNAL_CORRUPT -/
def Ev.journalCorrupt : EventKind := ⟨34, 5, 4⟩
/-- MEM_CE_THRESHOLD -/
def Ev.memCeThreshold : EventKind := ⟨35, 1, 2⟩
/-- MEM_UE_FETCH -/
def Ev.memUeFetch : EventKind := ⟨36, 1, 3⟩
/-- MEM_UE_DMA -/
def Ev.memUeDma : EventKind := ⟨36, 2, 3⟩
/-- MEM_UE_DATA -/
def Ev.memUeData : EventKind := ⟨36, 3, 4⟩
/-- MEM_UE_SCRUB -/
def Ev.memUeScrub : EventKind := ⟨36, 4, 3⟩
/-- MAP_ENTRY_BAD -/
def Ev.mapEntryBad : EventKind := ⟨37, 1, 3⟩
/-- MAP_ENTRY_LOST -/
def Ev.mapEntryLost : EventKind := ⟨37, 2, 4⟩
/-- MAP_TAG_PARITY -/
def Ev.mapTagParity : EventKind := ⟨37, 3, 2⟩
/-- CORE_TRAP -/
def Ev.coreTrap : EventKind := ⟨38, 1, 2⟩
/-- CORE_WATCHDOG -/
def Ev.coreWatchdog : EventKind := ⟨38, 2, 2⟩
/-- ENGINE_FAULT -/
def Ev.engineFault : EventKind := ⟨38, 3, 3⟩
/-- DIE_FAILED -/
def Ev.dieFailed : EventKind := ⟨38, 4, 4⟩
/-- OBJECT_RECORD_LOST -/
def Ev.objectRecordLost : EventKind := ⟨39, 1, 3⟩
/-- THERMAL_STATE_CHANGE -/
def Ev.thermalStateChange : EventKind := ⟨40, 1, 2⟩
/-- THERMAL_SHUTDOWN -/
def Ev.thermalShutdown : EventKind := ⟨41, 1, 4⟩
/-- SENSOR_SUSPECT -/
def Ev.sensorSuspect : EventKind := ⟨42, 1, 2⟩
/-- SENSOR_RESTORED -/
def Ev.sensorRestored : EventKind := ⟨42, 2, 1⟩
/-- SENSOR_DISAGREE -/
def Ev.sensorDisagree : EventKind := ⟨42, 3, 2⟩
/-- THERMAL_BLIND -/
def Ev.thermalBlind : EventKind := ⟨43, 1, 2⟩
/-- SUPPLY_OUT_OF_RANGE -/
def Ev.supplyOutOfRange : EventKind := ⟨44, 1, 2⟩
/-- COUNTER_OVERFLOW -/
def Ev.counterOverflow : EventKind := ⟨48, 1, 2⟩
/-- TRACE_RING_FULL -/
def Ev.traceRingFull : EventKind := ⟨49, 1, 2⟩
/-- EVENT_LOG_RESTARTED -/
def Ev.eventLogRestarted : EventKind := ⟨50, 1, 1⟩
/-- FABRIC_LINK_DOWN -/
def Ev.fabricLinkDown : EventKind := ⟨112, 1, 3⟩
/-- FABRIC_RETRY_LIMIT -/
def Ev.fabricRetryLimit : EventKind := ⟨112, 2, 3⟩
/-- FABRIC_ROUTE_RELOAD -/
def Ev.fabricRouteReload : EventKind := ⟨112, 3, 2⟩
/-- TIME_STEP -/
def Ev.timeStep : EventKind := ⟨116, 1, 2⟩
/-- PHASE_LOST -/
def Ev.phaseLost : EventKind := ⟨117, 1, 3⟩
/-- POWER_FAIL_DETECTED -/
def Ev.powerFailDetected : EventKind := ⟨118, 1, 2⟩
/-- DIE_ISOLATED -/
def Ev.dieIsolated : EventKind := ⟨119, 1, 4⟩
/-- DOORBELL_INVALID -/
def Ev.doorbellInvalid : EventKind := ⟨120, 1, 2⟩
/-- MCTP_IBI_GIVEUP -/
def Ev.mctpIbiGiveup : EventKind := ⟨121, 1, 2⟩
/-- FW_DOWNLOAD_DISCARDED -/
def Ev.fwDownloadDiscarded : EventKind := ⟨122, 1, 2⟩
/-- FW_LOCK_LAPSED -/
def Ev.fwLockLapsed : EventKind := ⟨122, 2, 2⟩
/-- FW_ACTIVATED -/
def Ev.fwActivated : EventKind := ⟨122, 3, 1⟩
/-- FW_CONFIRMED -/
def Ev.fwConfirmed : EventKind := ⟨122, 4, 1⟩
/-- FW_FALLBACK -/
def Ev.fwFallback : EventKind := ⟨122, 5, 2⟩
/-- FW_BOOT_FALLBACK -/
def Ev.fwBootFallback : EventKind := ⟨122, 6, 2⟩

end Sys2Proof.Machine
end

