-- ==== Sys2Proof/Machine/ObjTable.lean ====
section
/-! DEFINITION. The object dictionary's entries (14 R431 to R434, R454 and the object table of each chapter):
index, first subindex and how many, type, access class, instances, default (Q16.16 values times 65,536) and the range
a write must keep to. A default of 0 stands where the entry's value is read from the state or from a log entry. -/

namespace Sys2Proof.Machine

/-- Value types (14 R433). -/
inductive ObjType where
  | bool | u8 | u16 | u32 | u64 | i16 | i32 | q16 | domain | str
deriving DecidableEq, Repr

/-- Access classes (14 R434). -/
inductive ObjAcc where
  | ro | rw | wo | rws | rwr | cmd
deriving DecidableEq, Repr

/-- Instances an entry accepts (00 R13, 14 R431). -/
inductive InstKind where
  | package | die | act | head | anyCal | perKind
deriving DecidableEq, Repr

structure ObjDef where
  index : Nat
  sub : Nat
  subs : Nat
  typ : ObjType
  acc : ObjAcc
  inst : InstKind
  dflt : Int
  lo : Int
  hi : Int
deriving DecidableEq, Repr

/-- OD 0x30a0.01 ANGLE_STATE (02 R78). -/
def Obj.angleState : ObjDef := ⟨0x30a0, 0x01, 1, .u8, .ro, .die, 0, 0, 255⟩

/-- OD 0x30a0.02 WEDGES_PER_REV (02 R78). -/
def Obj.wedgesPerRev : ObjDef := ⟨0x30a0, 0x02, 1, .u16, .ro, .die, 0, 0, 65535⟩

/-- OD 0x30a0.03 LOCK_WINDOW_AU (02 R78). -/
def Obj.lockWindowAu : ObjDef := ⟨0x30a0, 0x03, 1, .u16, .rw, .die, 8, 2, 64⟩

/-- OD 0x30a0.04 LOCK_COUNT (02 R78). -/
def Obj.lockCount : ObjDef := ⟨0x30a0, 0x04, 1, .u8, .rw, .die, 16, 4, 255⟩

/-- OD 0x30a0.05 UNLOCK_AU (02 R78). -/
def Obj.unlockAu : ObjDef := ⟨0x30a0, 0x05, 1, .u16, .rw, .die, 256, 64, 4096⟩

/-- OD 0x30a0.06 FLYWHEEL_LIMIT (02 R78). -/
def Obj.flywheelLimit : ObjDef := ⟨0x30a0, 0x06, 1, .u8, .rw, .die, 7, 1, 15⟩

/-- OD 0x30a0.07 COAST_RPM (02 R78). -/
def Obj.coastRpm : ObjDef := ⟨0x30a0, 0x07, 1, .u16, .rws, .die, 7200, 5400, 10000⟩

/-- OD 0x30a0.08 TIMING_HEADS (02 R78). -/
def Obj.timingHeads : ObjDef := ⟨0x30a0, 0x08, 1, .u32, .rws, .die, 8394753, 1, 16777215⟩

/-- OD 0x30a0.09 MIN_LEAD_AU (02 R78). -/
def Obj.minLeadAu : ObjDef := ⟨0x30a0, 0x09, 1, .u16, .ro, .die, 32, 0, 65535⟩

/-- OD 0x30a0.0A DEFERRAL_COUNT (02 R78). -/
def Obj.deferralCount : ObjDef := ⟨0x30a0, 0x0a, 1, .u32, .ro, .die, 0, 0, 4294967295⟩

/-- OD 0x30a0.0B PLL_BANDWIDTH (02 R78). -/
def Obj.pllBandwidth : ObjDef := ⟨0x30a0, 0x0b, 1, .q16, .rws, .die, 1311, 328, 3277⟩

/-- OD 0x30a1.01 PHASE_LOCK_ENABLE (02 R78). -/
def Obj.phaseLockEnable : ObjDef := ⟨0x30a1, 0x01, 1, .bool, .rw, .package, 0, 0, 1⟩

/-- OD 0x30a1.02 PHASE_OFFSET_AU (02 R78). -/
def Obj.phaseOffsetAu : ObjDef := ⟨0x30a1, 0x02, 1, .u32, .rw, .die, 0, 0, 16777215⟩

/-- OD 0x30a1.03 PHASE_ERROR_AU (02 R78). -/
def Obj.phaseErrorAu : ObjDef := ⟨0x30a1, 0x03, 1, .i32, .ro, .die, 0, (-2147483648), 2147483647⟩

/-- OD 0x30a1.04 PHASE_TRIM_MAX (02 R78). -/
def Obj.phaseTrimMax : ObjDef := ⟨0x30a1, 0x04, 1, .u16, .rws, .package, 200, 10, 500⟩

/-- OD 0x4210.01 PACKAGE_TIME (02 R78). -/
def Obj.packageTime : ObjDef := ⟨0x4210, 0x01, 1, .u64, .ro, .package, 0, 0, 18446744073709551615⟩

/-- OD 0x4210.02 TIME_OFFSET_NS (02 R78). -/
def Obj.timeOffsetNs : ObjDef := ⟨0x4210, 0x02, 1, .i32, .ro, .die, 0, (-2147483648), 2147483647⟩

/-- OD 0x4210.03 TIME_ALIGNED (02 R78). -/
def Obj.timeAligned : ObjDef := ⟨0x4210, 0x03, 1, .bool, .ro, .die, 0, 0, 1⟩

/-- OD 0x5010.00 WEDGE_ANGLE_TABLE (02 R78). -/
def Obj.wedgeAngleTable : ObjDef := ⟨0x5010, 0x00, 1, .domain, .rwr, .die, 0, 0, 0⟩

/-- OD 0x3000.01 SPIN_STATE (03 R110). -/
def Obj.spinState : ObjDef := ⟨0x3000, 0x01, 1, .u8, .ro, .die, 0, 0, 255⟩

/-- OD 0x3000.02 SPIN_COMMAND (03 R110). -/
def Obj.spinCommand : ObjDef := ⟨0x3000, 0x02, 1, .u8, .cmd, .die, 0, 1, 2⟩

/-- OD 0x3000.03 SPIN_RESULT (03 R110). -/
def Obj.spinResult : ObjDef := ⟨0x3000, 0x03, 1, .u16, .ro, .die, 0, 0, 65535⟩

/-- OD 0x3000.04 SET_RPM (03 R110). -/
def Obj.setRpm : ObjDef := ⟨0x3000, 0x04, 1, .u16, .rws, .die, 7200, 5400, 10000⟩

/-- OD 0x3000.05 MEASURED_RPM (03 R110). -/
def Obj.measuredRpm : ObjDef := ⟨0x3000, 0x05, 1, .i32, .ro, .die, 0, (-2147483648), 2147483647⟩

/-- OD 0x3000.06 SPEED_ERROR_PPM (03 R110). -/
def Obj.speedErrorPpm : ObjDef := ⟨0x3000, 0x06, 1, .i32, .ro, .die, 0, (-2147483648), 2147483647⟩

/-- OD 0x3000.07 ACCEL_RPM_S (03 R110). -/
def Obj.accelRpmS : ObjDef := ⟨0x3000, 0x07, 1, .u16, .rws, .die, 2400, 100, 6000⟩

/-- OD 0x3000.08 DECEL_RPM_S (03 R110). -/
def Obj.decelRpmS : ObjDef := ⟨0x3000, 0x08, 1, .u16, .rws, .die, 1200, 100, 6000⟩

/-- OD 0x3000.09 CATCH_RPM (03 R110). -/
def Obj.catchRpm : ObjDef := ⟨0x3000, 0x09, 1, .u16, .rws, .die, 300, 100, 1000⟩

/-- OD 0x3000.0A REVERSAL_RPM (03 R110). -/
def Obj.reversalRpm : ObjDef := ⟨0x3000, 0x0a, 1, .u16, .rws, .die, 30, 10, 100⟩

/-- OD 0x3000.0B SENSE_MS (03 R110). -/
def Obj.senseMs : ObjDef := ⟨0x3000, 0x0b, 1, .u16, .rws, .die, 400, 100, 2000⟩

/-- OD 0x3000.0C SPM_PWM_KHZ (03 R110). -/
def Obj.spmPwmKhz : ObjDef := ⟨0x3000, 0x0c, 1, .u8, .rwr, .die, 40, 20, 100⟩

/-- OD 0x3000.0D SPM_DEAD_NS (03 R110). -/
def Obj.spmDeadNs : ObjDef := ⟨0x3000, 0x0d, 1, .u16, .rwr, .die, 100, 20, 500⟩

/-- OD 0x3000.0E SAMPLE_MIN_NS (03 R110). -/
def Obj.sampleMinNs : ObjDef := ⟨0x3000, 0x0e, 1, .u16, .rws, .die, 800, 200, 2000⟩

/-- OD 0x3000.0F MOD_MAX (03 R110). -/
def Obj.modMax : ObjDef := ⟨0x3000, 0x0f, 1, .q16, .rws, .die, 64225, 32768, 65536⟩

/-- OD 0x3000.10 I_RUN_MAX (03 R110). -/
def Obj.iRunMax : ObjDef := ⟨0x3000, 0x10, 1, .q16, .rws, .die, 131072, 6554, 262144⟩

/-- OD 0x3000.11 I_SPINUP_MAX (03 R110). -/
def Obj.iSpinupMax : ObjDef := ⟨0x3000, 0x11, 1, .q16, .rws, .die, 163840, 6554, 262144⟩

/-- OD 0x3000.12 ALIGN_MS (03 R110). -/
def Obj.alignMs : ObjDef := ⟨0x3000, 0x12, 1, .u16, .rws, .die, 200, 20, 1000⟩

/-- OD 0x3000.13 ALIGN_CURRENT (03 R110). -/
def Obj.alignCurrent : ObjDef := ⟨0x3000, 0x13, 1, .q16, .rws, .die, 65536, 0, 262144⟩

/-- OD 0x3000.14 OBSERVER_MIN_RPM (03 R110). -/
def Obj.observerMinRpm : ObjDef := ⟨0x3000, 0x14, 1, .u16, .rws, .die, 150, 50, 600⟩

/-- OD 0x3000.15 HANDOVER_AU (03 R110). -/
def Obj.handoverAu : ObjDef := ⟨0x3000, 0x15, 1, .u32, .rws, .die, 65536, 4096, 1048576⟩

/-- OD 0x3000.16 REACQ_TIMEOUT_MS (03 R110). -/
def Obj.reacqTimeoutMs : ObjDef := ⟨0x3000, 0x16, 1, .u16, .rws, .die, 50, 10, 200⟩

/-- OD 0x3000.17 START_RETRIES (03 R110). -/
def Obj.startRetries : ObjDef := ⟨0x3000, 0x17, 1, .u8, .rws, .die, 3, 0, 10⟩

/-- OD 0x3000.18 BRAKE_TIMEOUT_S (03 R110). -/
def Obj.brakeTimeoutS : ObjDef := ⟨0x3000, 0x18, 1, .u16, .rws, .die, 20, 5, 120⟩

/-- OD 0x3000.19 AT_SPEED_PPM (03 R110). -/
def Obj.atSpeedPpm : ObjDef := ⟨0x3000, 0x19, 1, .u16, .rws, .die, 100, 10, 10000⟩

/-- OD 0x3000.1A SKIP_COUNT (03 R110). -/
def Obj.skipCount : ObjDef := ⟨0x3000, 0x1a, 1, .u32, .ro, .die, 0, 0, 4294967295⟩

/-- OD 0x3000.1B RECONSTRUCT_COUNT (03 R110). -/
def Obj.reconstructCount : ObjDef := ⟨0x3000, 0x1b, 1, .u32, .ro, .die, 0, 0, 4294967295⟩

/-- OD 0x3000.1C PREDICT_COUNT (03 R110). -/
def Obj.predictCount : ObjDef := ⟨0x3000, 0x1c, 1, .u32, .ro, .die, 0, 0, 4294967295⟩

/-- OD 0x3000.1D OBSERVER_LOSS_COUNT (03 R110). -/
def Obj.observerLossCount : ObjDef := ⟨0x3000, 0x1d, 1, .u32, .ro, .die, 0, 0, 4294967295⟩

/-- OD 0x3000.1E KP_SPEED (03 R110). -/
def Obj.kpSpeed : ObjDef := ⟨0x3000, 0x1e, 1, .q16, .rws, .die, 131, (-2147483648), 2147483647⟩

/-- OD 0x3000.1F KI_SPEED (03 R110). -/
def Obj.kiSpeed : ObjDef := ⟨0x3000, 0x1f, 1, .q16, .rws, .die, 3277, (-2147483648), 2147483647⟩

/-- OD 0x3000.20 KP_CUR (03 R110). -/
def Obj.kpCur : ObjDef := ⟨0x3000, 0x20, 1, .q16, .rws, .die, 6554, (-2147483648), 2147483647⟩

/-- OD 0x3000.21 KI_CUR (03 R110). -/
def Obj.kiCur : ObjDef := ⟨0x3000, 0x21, 1, .q16, .rws, .die, 26214400, (-2147483648), 2147483647⟩

/-- OD 0x3000.22 PHASE_ADVANCE (03 R110). -/
def Obj.phaseAdvance : ObjDef := ⟨0x3000, 0x22, 1, .i32, .rws, .die, 0, (-1398101), 1398101⟩

/-- OD 0x3000.23 ELEC_OFFSET (03 R110). -/
def Obj.elecOffset : ObjDef := ⟨0x3000, 0x23, 1, .u32, .rws, .die, 0, 0, 16777215⟩

/-- OD 0x3001.01 SPINUP_MAX_CONCURRENT (03 R110). -/
def Obj.spinupMaxConcurrent : ObjDef := ⟨0x3001, 0x01, 1, .u8, .rws, .package, 2, 1, 8⟩

/-- OD 0x5020.00 COMMUTATION_TABLE (03 R110). -/
def Obj.commutationTable : ObjDef := ⟨0x5020, 0x00, 1, .domain, .rwr, .die, 0, 0, 0⟩

/-- OD 0x3110.01 SAM_WINDOW_AU (04 R134). -/
def Obj.samWindowAu : ObjDef := ⟨0x3110, 0x01, 1, .u16, .rws, .die, 64, 16, 512⟩

/-- OD 0x3110.02 PULSE_QUAL (04 R134). -/
def Obj.pulseQual : ObjDef := ⟨0x3110, 0x02, 1, .q16, .rws, .die, 32768, 13107, 58982⟩

/-- OD 0x3110.03 EYE_LIMIT_AU (04 R134). -/
def Obj.eyeLimitAu : ObjDef := ⟨0x3110, 0x03, 1, .q16, .rws, .die, 131072, 32768, 524288⟩

/-- OD 0x3110.04 MISS_WI (04 R134). -/
def Obj.missWi : ObjDef := ⟨0x3110, 0x04, 1, .u8, .rws, .die, 1, 0, 3⟩

/-- OD 0x3110.05 MISS_DROP (04 R134). -/
def Obj.missDrop : ObjDef := ⟨0x3110, 0x05, 1, .u8, .rws, .die, 4, 2, 16⟩

/-- OD 0x3110.06 MISS_RECOVER (04 R134). -/
def Obj.missRecover : ObjDef := ⟨0x3110, 0x06, 1, .u8, .rws, .die, 8, 4, 32⟩

/-- OD 0x3110.07 RRO_ENABLE (04 R134). -/
def Obj.rroEnable : ObjDef := ⟨0x3110, 0x07, 1, .bool, .rws, .die, 1, 0, 1⟩

/-- OD 0x3110.08 REJOIN_COUNT (04 R134). -/
def Obj.rejoinCount : ObjDef := ⟨0x3110, 0x08, 1, .u8, .rws, .die, 16, 4, 255⟩

/-- OD 0x3110.10 POSITION_RECORD (04 R134). -/
def Obj.positionRecord : ObjDef := ⟨0x3110, 0x10, 1, .u64, .ro, .head, 0, 0, 18446744073709551615⟩

/-- OD 0x3110.11 HEAD_SERVO_STATE (04 R134). -/
def Obj.headServoState : ObjDef := ⟨0x3110, 0x11, 1, .u8, .ro, .head, 0, 0, 255⟩

/-- OD 0x3110.12 MISSED_WEDGES (04 R134). -/
def Obj.missedWedges : ObjDef := ⟨0x3110, 0x12, 1, .u32, .ro, .head, 0, 0, 4294967295⟩

/-- OD 0x3110.13 LATE_COUNT (04 R134). -/
def Obj.lateCount : ObjDef := ⟨0x3110, 0x13, 1, .u32, .ro, .head, 0, 0, 4294967295⟩

/-- OD 0x3110.14 RRO_MISS_COUNT (04 R134). -/
def Obj.rroMissCount : ObjDef := ⟨0x3110, 0x14, 1, .u32, .ro, .head, 0, 0, 4294967295⟩

/-- OD 0x3110.15 GRAY_MISMATCH_COUNT (04 R134). -/
def Obj.grayMismatchCount : ObjDef := ⟨0x3110, 0x15, 1, .u32, .ro, .head, 0, 0, 4294967295⟩

/-- OD 0x3110.16 INDEX_MISMATCH_COUNT (04 R134). -/
def Obj.indexMismatchCount : ObjDef := ⟨0x3110, 0x16, 1, .u32, .ro, .head, 0, 0, 4294967295⟩

/-- OD 0x5030.00 SERVO_FORMAT (04 R134). -/
def Obj.servoFormat : ObjDef := ⟨0x5030, 0x00, 1, .domain, .rwr, .die, 0, 0, 0⟩

/-- OD 0x5031.00 CHEVRON_GEOMETRY (04 R134). -/
def Obj.chevronGeometry : ObjDef := ⟨0x5031, 0x00, 1, .domain, .rws, .head, 0, 0, 0⟩

/-- OD 0x3100.01 ACT_STATE (05 R169). -/
def Obj.actState : ObjDef := ⟨0x3100, 0x01, 1, .u8, .ro, .act, 0, 0, 255⟩

/-- OD 0x3100.02 ACT_COMMAND (05 R169). -/
def Obj.actCommand : ObjDef := ⟨0x3100, 0x02, 1, .u8, .cmd, .act, 0, 1, 2⟩

/-- OD 0x3100.03 ACT_RESULT (05 R169). -/
def Obj.actResult : ObjDef := ⟨0x3100, 0x03, 1, .u16, .ro, .act, 0, 0, 65535⟩

/-- OD 0x3100.04 V_MAX (05 R169). -/
def Obj.vMax : ObjDef := ⟨0x3100, 0x04, 1, .q16, .rws, .act, 58982400, 655360, 262144000⟩

/-- OD 0x3100.05 A_MAX (05 R169). -/
def Obj.aMax : ObjDef := ⟨0x3100, 0x05, 1, .q16, .rws, .act, 262144, 6554, 2097152⟩

/-- OD 0x3100.06 J_MAX (05 R169). -/
def Obj.jMax : ObjDef := ⟨0x3100, 0x06, 1, .q16, .rws, .act, 32768, 655, 524288⟩

/-- OD 0x3100.07 V_UNLOAD (05 R169). -/
def Obj.vUnload : ObjDef := ⟨0x3100, 0x07, 1, .q16, .rws, .act, 13107200, 655360, 262144000⟩

/-- OD 0x3100.08 SETTLE_WEDGES (05 R169). -/
def Obj.settleWedges : ObjDef := ⟨0x3100, 0x08, 1, .u8, .rws, .act, 12, 2, 128⟩

/-- OD 0x3100.09 REARM_WEDGES (05 R169). -/
def Obj.rearmWedges : ObjDef := ⟨0x3100, 0x09, 1, .u8, .rws, .act, 4, 1, 64⟩

/-- OD 0x3100.0A LOAD_CURRENT (05 R169). -/
def Obj.loadCurrent : ObjDef := ⟨0x3100, 0x0a, 1, .q16, .rws, .act, 6554, 1311, 32768⟩

/-- OD 0x3100.0B LOAD_REVS (05 R169). -/
def Obj.loadRevs : ObjDef := ⟨0x3100, 0x0b, 1, .u8, .rws, .act, 12, 2, 100⟩

/-- OD 0x3100.0C RETRACT_CURRENT (05 R169). -/
def Obj.retractCurrent : ObjDef := ⟨0x3100, 0x0c, 1, .q16, .rws, .act, 9830, 1311, 32768⟩

/-- OD 0x3100.0D RETRACT_MS (05 R169). -/
def Obj.retractMs : ObjDef := ⟨0x3100, 0x0d, 1, .u16, .rws, .act, 40, 10, 500⟩

/-- OD 0x3100.0E LOAD_RETRIES (05 R169). -/
def Obj.loadRetries : ObjDef := ⟨0x3100, 0x0e, 1, .u8, .rws, .act, 3, 0, 10⟩

/-- OD 0x3100.0F RECOVER_REVS (05 R169). -/
def Obj.recoverRevs : ObjDef := ⟨0x3100, 0x0f, 1, .u8, .rws, .act, 2, 1, 16⟩

/-- OD 0x3100.10 RECOVER_RETRIES (05 R169). -/
def Obj.recoverRetries : ObjDef := ⟨0x3100, 0x10, 1, .u8, .rws, .act, 2, 0, 10⟩

/-- OD 0x3100.11 SEEK_COUNT (05 R169). -/
def Obj.seekCount : ObjDef := ⟨0x3100, 0x11, 1, .u32, .ro, .act, 0, 0, 4294967295⟩

/-- OD 0x3100.12 RECOVERY_COUNT (05 R169). -/
def Obj.recoveryCount : ObjDef := ⟨0x3100, 0x12, 1, .u32, .ro, .act, 0, 0, 4294967295⟩

/-- OD 0x3101.01 COEFF_BANK_ACTIVE (05 R169). -/
def Obj.coeffBankActive : ObjDef := ⟨0x3101, 0x01, 1, .u8, .ro, .act, 0, 0, 255⟩

/-- OD 0x3101.02 COEFF_SWAP (05 R169). -/
def Obj.coeffSwap : ObjDef := ⟨0x3101, 0x02, 1, .u8, .cmd, .act, 0, 1, 1⟩

/-- OD 0x3101.03 COEFF_SWAP_RESULT (05 R169). -/
def Obj.coeffSwapResult : ObjDef := ⟨0x3101, 0x03, 1, .u16, .ro, .act, 0, 0, 65535⟩

/-- OD 0x3101.04 SWAP_SAT_COUNT (05 R169). -/
def Obj.swapSatCount : ObjDef := ⟨0x3101, 0x04, 1, .u32, .ro, .act, 0, 0, 4294967295⟩

/-- OD 0x3101.05 OVERRUN_COUNT (05 R169). -/
def Obj.overrunCount : ObjDef := ⟨0x3101, 0x05, 1, .u32, .ro, .die, 0, 0, 4294967295⟩

/-- OD 0x3101.06 VCM_COMMAND (05 R169). -/
def Obj.vcmCommand : ObjDef := ⟨0x3101, 0x06, 1, .i16, .ro, .act, 0, (-32768), 32767⟩

/-- OD 0x3101.07 MA_COMMAND (05 R169). -/
def Obj.maCommand : ObjDef := ⟨0x3101, 0x07, 1, .i16, .ro, .head, 0, (-32768), 32767⟩

/-- OD 0x3101.08 VCM_FULL_SCALE_A (05 R169). -/
def Obj.vcmFullScaleA : ObjDef := ⟨0x3101, 0x08, 1, .q16, .rwr, .act, 131072, 32768, 262144⟩

/-- OD 0x3101.09 MA_GAIN (05 R169). -/
def Obj.maGain : ObjDef := ⟨0x3101, 0x09, 1, .q16, .rws, .head, 16384, 4096, 65536⟩

/-- OD 0x3101.0A VCM_GAIN_TRIM (05 R169). -/
def Obj.vcmGainTrim : ObjDef := ⟨0x3101, 0x0a, 1, .q16, .rws, .act, 65536, 32768, 131072⟩

/-- OD 0x3120.01 WI_LIMIT (05 R169). -/
def Obj.wiLimit : ObjDef := ⟨0x3120, 0x01, 1, .u16, .rws, .die, 164, 41, 819⟩

/-- OD 0x3120.02 WP_ENTRY_LIMIT (05 R169). -/
def Obj.wpEntryLimit : ObjDef := ⟨0x3120, 0x02, 1, .u16, .rws, .die, 82, 0, 819⟩

/-- OD 0x3120.03 MA_WP_LIMIT (05 R169). -/
def Obj.maWpLimit : ObjDef := ⟨0x3120, 0x03, 1, .q16, .rws, .die, 58982, 32768, 65536⟩

/-- OD 0x3120.04 SHOCK_LIMIT_MV (05 R169). -/
def Obj.shockLimitMv : ObjDef := ⟨0x3120, 0x04, 1, .u16, .rws, .die, 250, 50, 1000⟩

/-- OD 0x3120.05 SHOCK_HOLDOFF_WEDGES (05 R169). -/
def Obj.shockHoldoffWedges : ObjDef := ⟨0x3120, 0x05, 1, .u16, .rws, .die, 32, 4, 1024⟩

/-- OD 0x3120.06 ADJ_VERIFY_LIMIT (05 R169). -/
def Obj.adjVerifyLimit : ObjDef := ⟨0x3120, 0x06, 1, .u16, .rws, .die, 328, 41, 2048⟩

/-- OD 0x3120.07 WRITE_PERMIT (05 R169). -/
def Obj.writePermit : ObjDef := ⟨0x3120, 0x07, 1, .u32, .ro, .die, 0, 0, 4294967295⟩

/-- OD 0x3120.08 WI_PES_COUNT (05 R169). -/
def Obj.wiPesCount : ObjDef := ⟨0x3120, 0x08, 1, .u32, .ro, .head, 0, 0, 4294967295⟩

/-- OD 0x3120.09 WI_SHOCK_COUNT (05 R169). -/
def Obj.wiShockCount : ObjDef := ⟨0x3120, 0x09, 1, .u32, .ro, .die, 0, 0, 4294967295⟩

/-- OD 0x3120.0A ABANDON_COUNT (05 R169). -/
def Obj.abandonCount : ObjDef := ⟨0x3120, 0x0a, 1, .u32, .ro, .head, 0, 0, 4294967295⟩

/-- OD 0x5040.00 SERVO_COEFF_PENDING (05 R169). -/
def Obj.servoCoeffPending : ObjDef := ⟨0x5040, 0x00, 1, .domain, .rws, .act, 0, 0, 0⟩

/-- OD 0x5040.01 SERVO_COEFF_ACTIVE (05 R169). -/
def Obj.servoCoeffActive : ObjDef := ⟨0x5040, 0x01, 1, .domain, .ro, .act, 0, 0, 0⟩

/-- OD 0x3200.01 SYNC_TOLERANCE (06 R213). -/
def Obj.syncTolerance : ObjDef := ⟨0x3200, 0x01, 1, .u8, .rws, .die, 2, 0, 3⟩

/-- OD 0x3200.02 LDPC_ITER_NORMAL (06 R213). -/
def Obj.ldpcIterNormal : ObjDef := ⟨0x3200, 0x02, 1, .u8, .rws, .die, 12, 4, 12⟩

/-- OD 0x3200.03 LDPC_ITER_EXT (06 R213). -/
def Obj.ldpcIterExt : ObjDef := ⟨0x3200, 0x03, 1, .u8, .rws, .die, 60, 16, 120⟩

/-- OD 0x3200.04 RECOVERY_REV_LIMIT (06 R213). -/
def Obj.recoveryRevLimit : ObjDef := ⟨0x3200, 0x04, 1, .u8, .rws, .die, 7, 7, 64⟩

/-- OD 0x3200.05 MISFRAME_SYNDROME (06 R213). -/
def Obj.misframeSyndrome : ObjDef := ⟨0x3200, 0x05, 1, .q16, .rws, .die, 22938, 13107, 32768⟩

/-- OD 0x3200.06 DATA_GUARD_AU (06 R213). -/
def Obj.dataGuardAu : ObjDef := ⟨0x3200, 0x06, 1, .u16, .rwr, .die, 160, 136, 512⟩

/-- OD 0x3200.07 EQ_MU (06 R213). -/
def Obj.eqMu : ObjDef := ⟨0x3200, 0x07, 1, .q16, .rws, .die, 16, 1, 256⟩

/-- OD 0x3200.08 EQ_ADAPT_ENABLE (06 R213). -/
def Obj.eqAdaptEnable : ObjDef := ⟨0x3200, 0x08, 1, .bool, .rws, .die, 1, 0, 1⟩

/-- OD 0x3200.09 OFFSET_STEP (06 R213). -/
def Obj.offsetStep : ObjDef := ⟨0x3200, 0x09, 1, .u16, .rws, .die, 164, 41, 819⟩

/-- OD 0x3200.0A WRITE_DELAY_AU (06 R213). -/
def Obj.writeDelayAu : ObjDef := ⟨0x3200, 0x0a, 1, .q16, .rws, .head, 0, 0, 4194304⟩

/-- OD 0x3200.10 SECTORS_READ (06 R213). -/
def Obj.sectorsRead : ObjDef := ⟨0x3200, 0x10, 1, .u64, .ro, .head, 0, 0, 18446744073709551615⟩

/-- OD 0x3200.11 SECTORS_WRITTEN (06 R213). -/
def Obj.sectorsWritten : ObjDef := ⟨0x3200, 0x11, 1, .u64, .ro, .head, 0, 0, 18446744073709551615⟩

/-- OD 0x3200.12 SYNC_MISS_COUNT (06 R213). -/
def Obj.syncMissCount : ObjDef := ⟨0x3200, 0x12, 1, .u32, .ro, .head, 0, 0, 4294967295⟩

/-- OD 0x3200.13 RESYNC_MISS_COUNT (06 R213). -/
def Obj.resyncMissCount : ObjDef := ⟨0x3200, 0x13, 1, .u32, .ro, .head, 0, 0, 4294967295⟩

/-- OD 0x3200.14 REFRAME_COUNT (06 R213). -/
def Obj.reframeCount : ObjDef := ⟨0x3200, 0x14, 1, .u32, .ro, .head, 0, 0, 4294967295⟩

/-- OD 0x3200.15 RECOVERED_COUNT (06 R213). -/
def Obj.recoveredCount : ObjDef := ⟨0x3200, 0x15, 1, .u32, .ro, .head, 0, 0, 4294967295⟩

/-- OD 0x3200.16 UNRECOVERED_COUNT (06 R213). -/
def Obj.unrecoveredCount : ObjDef := ⟨0x3200, 0x16, 1, .u32, .ro, .head, 0, 0, 4294967295⟩

/-- OD 0x3200.17 MISCORRECT_COUNT (06 R213). -/
def Obj.miscorrectCount : ObjDef := ⟨0x3200, 0x17, 1, .u32, .ro, .head, 0, 0, 4294967295⟩

/-- OD 0x3200.18 ADDRESS_MISMATCH_COUNT (06 R213). -/
def Obj.addressMismatchCount : ObjDef := ⟨0x3200, 0x18, 1, .u32, .ro, .head, 0, 0, 4294967295⟩

/-- OD 0x3200.19 MEAN_ITERATIONS (06 R213). -/
def Obj.meanIterations : ObjDef := ⟨0x3200, 0x19, 1, .q16, .ro, .head, 0, (-2147483648), 2147483647⟩

/-- OD 0x3200.20 EQ_TAPS (06 R213). -/
def Obj.eqTaps : ObjDef := ⟨0x3200, 0x20, 1, .domain, .ro, .head, 0, 0, 0⟩

/-- OD 0x3200.21 RECORDING_REGION (06 R213). -/
def Obj.recordingRegion : ObjDef := ⟨0x3200, 0x21, 1, .u8, .ro, .head, 0, 0, 255⟩

/-- OD 0x3201.01 PCL_STATE (06 R213). -/
def Obj.pclState : ObjDef := ⟨0x3201, 0x01, 1, .u8, .ro, .act, 0, 0, 255⟩

/-- OD 0x3201.02 PCL_APPLY_NS (06 R213). -/
def Obj.pclApplyNs : ObjDef := ⟨0x3201, 0x02, 1, .u16, .rwr, .act, 40, 20, 200⟩

/-- OD 0x3201.03 PREAMP_ID (06 R213). -/
def Obj.preampId : ObjDef := ⟨0x3201, 0x03, 1, .u16, .ro, .act, 0, 0, 65535⟩

/-- OD 0x3201.04 PCL_CRC_ERRORS (06 R213). -/
def Obj.pclCrcErrors : ObjDef := ⟨0x3201, 0x04, 1, .u32, .ro, .act, 0, 0, 4294967295⟩

/-- OD 0x3201.05 PCL_NAK_COUNT (06 R213). -/
def Obj.pclNakCount : ObjDef := ⟨0x3201, 0x05, 1, .u32, .ro, .act, 0, 0, 4294967295⟩

/-- OD 0x3201.06 PCL_RESET_COUNT (06 R213). -/
def Obj.pclResetCount : ObjDef := ⟨0x3201, 0x06, 1, .u32, .ro, .act, 0, 0, 4294967295⟩

/-- OD 0x3201.07 PREAMP_STATUS (06 R213). -/
def Obj.preampStatus : ObjDef := ⟨0x3201, 0x07, 1, .u32, .ro, .act, 0, 0, 4294967295⟩

/-- OD 0x3201.08 HEATER_LEAD_WINDOWS (06 R213). -/
def Obj.heaterLeadWindows : ObjDef := ⟨0x3201, 0x08, 1, .u8, .rws, .die, 1, 0, 8⟩

/-- OD 0x3230.00 LDPC_BASE_MATRIX (06 R213). -/
def Obj.ldpcBaseMatrix : ObjDef := ⟨0x3230, 0x00, 1, .domain, .ro, .package, 0, 0, 0⟩

/-- OD 0x5050.00 RECORDING_FORMAT (06 R213). -/
def Obj.recordingFormat : ObjDef := ⟨0x5050, 0x00, 1, .domain, .rwr, .head, 0, 0, 0⟩

/-- OD 0x5051.00 PREAMP_INIT (06 R213). -/
def Obj.preampInit : ObjDef := ⟨0x5051, 0x00, 1, .domain, .rwr, .act, 0, 0, 0⟩

/-- OD 0x3300.01 ASSIST_MODE (07 R236). -/
def Obj.assistMode : ObjDef := ⟨0x3300, 0x01, 1, .u8, .rwr, .die, 0, 0, 2⟩

/-- OD 0x3300.02 ASSIST_BUDGET_MW (07 R236). -/
def Obj.assistBudgetMw : ObjDef := ⟨0x3300, 0x02, 1, .u16, .rws, .die, 2400, 0, 8000⟩

/-- OD 0x3300.03 ASSIST_SHARE_A (07 R236). -/
def Obj.assistShareA : ObjDef := ⟨0x3300, 0x03, 1, .q16, .rws, .die, 32768, 0, 65536⟩

/-- OD 0x3300.04 ASSIST_THROTTLE_SCALE (07 R236). -/
def Obj.assistThrottleScale : ObjDef := ⟨0x3300, 0x04, 1, .q16, .rws, .die, 39322, 0, 65536⟩

/-- OD 0x3300.05 MAX_WRITE_HEADS (07 R236). -/
def Obj.maxWriteHeads : ObjDef := ⟨0x3300, 0x05, 1, .u8, .rws, .die, 12, 1, 12⟩

/-- OD 0x3300.06 PREHEAT_LEAD_AU (07 R236). -/
def Obj.preheatLeadAu : ObjDef := ⟨0x3300, 0x06, 1, .u16, .rws, .die, 128, 0, 504⟩

/-- OD 0x3300.07 PD_TOLERANCE (07 R236). -/
def Obj.pdTolerance : ObjDef := ⟨0x3300, 0x07, 1, .q16, .rws, .die, 6554, 1311, 32768⟩

/-- OD 0x3300.08 MODEHOP_BURST (07 R236). -/
def Obj.modehopBurst : ObjDef := ⟨0x3300, 0x08, 1, .u8, .rws, .die, 8, 1, 64⟩

/-- OD 0x3300.09 VERIFY_ITER_LIMIT (07 R236). -/
def Obj.verifyIterLimit : ObjDef := ⟨0x3300, 0x09, 1, .u8, .rws, .die, 8, 1, 12⟩

/-- OD 0x3300.0A BUDGET_EFF_MW (07 R236). -/
def Obj.budgetEffMw : ObjDef := ⟨0x3300, 0x0a, 1, .u16, .ro, .die, 0, 0, 65535⟩

/-- OD 0x3300.0B VERIFY_PENDING (07 R236). -/
def Obj.verifyPending : ObjDef := ⟨0x3300, 0x0b, 1, .u16, .ro, .die, 0, 0, 65535⟩

/-- OD 0x3300.10 ASSIST_HEAD_ENABLE (07 R236). -/
def Obj.assistHeadEnable : ObjDef := ⟨0x3300, 0x10, 1, .bool, .rw, .head, 1, 0, 1⟩

/-- OD 0x3300.11 MODE_HOP_COUNT (07 R236). -/
def Obj.modeHopCount : ObjDef := ⟨0x3300, 0x11, 1, .u32, .ro, .head, 0, 0, 4294967295⟩

/-- OD 0x3300.12 UNMONITORED_COUNT (07 R236). -/
def Obj.unmonitoredCount : ObjDef := ⟨0x3300, 0x12, 1, .u32, .ro, .head, 0, 0, 4294967295⟩

/-- OD 0x3300.13 VERIFY_MARKED_COUNT (07 R236). -/
def Obj.verifyMarkedCount : ObjDef := ⟨0x3300, 0x13, 1, .u32, .ro, .head, 0, 0, 4294967295⟩

/-- OD 0x3300.14 VERIFY_REWRITE_COUNT (07 R236). -/
def Obj.verifyRewriteCount : ObjDef := ⟨0x3300, 0x14, 1, .u32, .ro, .head, 0, 0, 4294967295⟩

/-- OD 0x3300.15 GRANT_DEFER_COUNT (07 R236). -/
def Obj.grantDeferCount : ObjDef := ⟨0x3300, 0x15, 1, .u32, .ro, .head, 0, 0, 4294967295⟩

/-- OD 0x3300.16 REVOKE_COUNT (07 R236). -/
def Obj.revokeCount : ObjDef := ⟨0x3300, 0x16, 1, .u32, .ro, .head, 0, 0, 4294967295⟩

/-- OD 0x3300.17 PD_MEAN (07 R236). -/
def Obj.pdMean : ObjDef := ⟨0x3300, 0x17, 1, .u16, .ro, .head, 0, 0, 65535⟩

/-- OD 0x3300.18 ASSIST_POWER_MW (07 R236). -/
def Obj.assistPowerMw : ObjDef := ⟨0x3300, 0x18, 1, .u16, .ro, .head, 0, 0, 65535⟩

/-- OD 0x5060.00 ASSIST_TABLE (07 R236). -/
def Obj.assistTable : ObjDef := ⟨0x5060, 0x00, 1, .domain, .rws, .head, 0, 0, 0⟩

/-- OD 0x3400.01 CAL_COMMAND (08 R268). -/
def Obj.calCommand : ObjDef := ⟨0x3400, 0x01, 1, .u8, .cmd, .anyCal, 0, 0, 9⟩

/-- OD 0x3400.02 CAL_RESULT (08 R268). -/
def Obj.calResult : ObjDef := ⟨0x3400, 0x02, 1, .u16, .ro, .anyCal, 9, 0, 65535⟩

/-- OD 0x3400.03 CAL_REPORT (08 R268). -/
def Obj.calReport : ObjDef := ⟨0x3400, 0x03, 1, .domain, .ro, .anyCal, 0, 0, 0⟩

/-- OD 0x3401.KK CAL_DEADLINE (08 R268). -/
def Obj.calDeadline : ObjDef := ⟨0x3401, 0x01, 9, .u16, .rws, .die, 0, 16, 2400⟩

/-- OD 0x3402.01 STALE_TEMP_C (08 R268). -/
def Obj.staleTempC : ObjDef := ⟨0x3402, 0x01, 1, .u8, .rws, .die, 12, 2, 40⟩

/-- OD 0x3402.02 STALE_AGE_H (08 R268). -/
def Obj.staleAgeH : ObjDef := ⟨0x3402, 0x02, 1, .u32, .rws, .die, 0, 0, 4294967295⟩

/-- OD 0x3402.03 STALE_MASK (08 R268). -/
def Obj.staleMask : ObjDef := ⟨0x3402, 0x03, 1, .u32, .ro, .die, 0, 0, 4294967295⟩

/-- OD 0x3402.04 POWER_ON_HOURS (08 R268). -/
def Obj.powerOnHours : ObjDef := ⟨0x3402, 0x04, 1, .u32, .ro, .die, 0, 0, 4294967295⟩

/-- OD 0x3403.KK RECORD_STATE (08 R268). -/
def Obj.recordState : ObjDef := ⟨0x3403, 0x01, 9, .u8, .ro, .perKind, 4, 0, 255⟩

/-- OD 0x3404.01 CHANNEL_MARGIN (08 R268). -/
def Obj.channelMargin : ObjDef := ⟨0x3404, 0x01, 1, .q16, .ro, .head, 0, (-2147483648), 2147483647⟩

/-- OD 0x3404.02 EQ_MSE_DB (08 R268). -/
def Obj.eqMseDb : ObjDef := ⟨0x3404, 0x02, 1, .q16, .ro, .head, 0, (-2147483648), 2147483647⟩

/-- OD 0x3404.03 PES_3SIGMA (08 R268). -/
def Obj.pes3sigma : ObjDef := ⟨0x3404, 0x03, 1, .u16, .ro, .head, 0, 0, 65535⟩

/-- OD 0x3404.04 EYE_WIDTH_AU (08 R268). -/
def Obj.eyeWidthAu : ObjDef := ⟨0x3404, 0x04, 1, .q16, .ro, .head, 0, (-2147483648), 2147483647⟩

/-- OD 0x3404.05 QUALITY_WINDOW_REVS (08 R268). -/
def Obj.qualityWindowRevs : ObjDef := ⟨0x3404, 0x05, 1, .u16, .rws, .die, 64, 16, 1024⟩

/-- OD 0x3405.01 HEATER_BACKOFF_READ (08 R268). -/
def Obj.heaterBackoffRead : ObjDef := ⟨0x3405, 0x01, 1, .u16, .rws, .die, 40, 8, 200⟩

/-- OD 0x3405.02 HEATER_BACKOFF_WRITE (08 R268). -/
def Obj.heaterBackoffWrite : ObjDef := ⟨0x3405, 0x02, 1, .u16, .rws, .die, 60, 8, 200⟩

/-- OD 0x3405.03 ASSIST_TARGET_MARGIN (08 R268). -/
def Obj.assistTargetMargin : ObjDef := ⟨0x3405, 0x03, 1, .q16, .rws, .die, (-163840), (-262144), (-65536)⟩

/-- OD 0x3405.04 ASSIST_CODE_MARGIN (08 R268). -/
def Obj.assistCodeMargin : ObjDef := ⟨0x3405, 0x04, 1, .u16, .rws, .die, 16, 0, 128⟩

/-- OD 0x3405.05 MA_CAL_COUNTS (08 R268). -/
def Obj.maCalCounts : ObjDef := ⟨0x3405, 0x05, 1, .u16, .rws, .die, 4000, 500, 16000⟩

/-- OD 0x3405.06 VCM_XOVER_HZ (08 R268). -/
def Obj.vcmXoverHz : ObjDef := ⟨0x3405, 0x06, 1, .u16, .rws, .act, 1500, 200, 5000⟩

/-- OD 0x3405.07 HOLDUP_TEST_OHM (08 R268). -/
def Obj.holdupTestOhm : ObjDef := ⟨0x3405, 0x07, 1, .q16, .rws, .die, 6553600, 65536, 655360000⟩

/-- OD 0x3405.08 HOLDUP_TEST_DROP (08 R268). -/
def Obj.holdupTestDrop : ObjDef := ⟨0x3405, 0x08, 1, .q16, .rws, .die, 3277, 655, 6554⟩

/-- OD 0x3405.09 HOLDUP_C_UF (08 R268). -/
def Obj.holdupCUf : ObjDef := ⟨0x3405, 0x09, 1, .u32, .ro, .die, 0, 0, 4294967295⟩

/-- OD 0x3405.0A SENSE_OFFSETS (08 R268). -/
def Obj.senseOffsets : ObjDef := ⟨0x3405, 0x0a, 1, .u64, .ro, .die, 0, 0, 18446744073709551615⟩

/-- OD 0x3420.KK CAL_RECORD (08 R268). -/
def Obj.calRecord : ObjDef := ⟨0x3420, 0x01, 9, .domain, .rws, .perKind, 0, 0, 0⟩

/-- OD 0x2200.01 CONV_ZONES (09 R303). -/
def Obj.convZones : ObjDef := ⟨0x2200, 0x01, 1, .u8, .rws, .die, 16, 0, 64⟩

/-- OD 0x2200.02 BAND_TRACKS (09 R303). -/
def Obj.bandTracks : ObjDef := ⟨0x2200, 0x02, 1, .u8, .rws, .die, 32, 8, 64⟩

/-- OD 0x2200.03 BAND_GUARD_TRACKS (09 R303). -/
def Obj.bandGuardTracks : ObjDef := ⟨0x2200, 0x03, 1, .u8, .rws, .die, 1, 1, 4⟩

/-- OD 0x2200.04 ZONE_CAP_BLOCKS (09 R303). -/
def Obj.zoneCapBlocks : ObjDef := ⟨0x2200, 0x04, 1, .u32, .rws, .die, 524288, 64, 524288⟩

/-- OD 0x2200.05 DEFAULT_WIDTH (09 R303). -/
def Obj.defaultWidth : ObjDef := ⟨0x2200, 0x05, 1, .u8, .rws, .die, 12, 1, 12⟩

/-- OD 0x2200.06 DEFAULT_HUSK_KIB (09 R303). -/
def Obj.defaultHuskKib : ObjDef := ⟨0x2200, 0x06, 1, .u8, .rws, .die, 0, 0, 64⟩

/-- OD 0x2200.07 DEFAULT_KEY_DOMAIN (09 R303). -/
def Obj.defaultKeyDomain : ObjDef := ⟨0x2200, 0x07, 1, .u8, .rws, .die, 0, 0, 63⟩

/-- OD 0x2200.08 CONV_KEY_DOMAIN (09 R303). -/
def Obj.convKeyDomain : ObjDef := ⟨0x2200, 0x08, 1, .u8, .rws, .die, 0, 0, 63⟩

/-- OD 0x2200.09 UNWRITTEN_READ (09 R303). -/
def Obj.unwrittenRead : ObjDef := ⟨0x2200, 0x09, 1, .u8, .rws, .die, 0, 0, 1⟩

/-- OD 0x2200.0A MAX_OPEN (09 R303). -/
def Obj.maxOpen : ObjDef := ⟨0x2200, 0x0a, 1, .u16, .rws, .die, 1024, 1, 1024⟩

/-- OD 0x2200.0B MAX_WRITING (09 R303). -/
def Obj.maxWriting : ObjDef := ⟨0x2200, 0x0b, 1, .u16, .rws, .die, 256, 1, 256⟩

/-- OD 0x2200.0D FRAME_PAGE_POOL_MIB (09 R303). -/
def Obj.framePagePoolMib : ObjDef := ⟨0x2200, 0x0d, 1, .u16, .rwr, .die, 512, 64, 4096⟩

/-- OD 0x2200.0E REWRITE_RESERVE_BANDS (09 R303). -/
def Obj.rewriteReserveBands : ObjDef := ⟨0x2200, 0x0e, 1, .u8, .rws, .die, 4, 0, 64⟩

/-- OD 0x2200.0F POOL_LOW_GROUPS (09 R303). -/
def Obj.poolLowGroups : ObjDef := ⟨0x2200, 0x0f, 1, .u16, .rws, .die, 64, 0, 4096⟩

/-- OD 0x2200.10 FORMAT_COMMAND (09 R303). -/
def Obj.formatCommand : ObjDef := ⟨0x2200, 0x10, 1, .u8, .cmd, .die, 0, 1, 1⟩

/-- OD 0x2200.11 FORMAT_RESULT (09 R303). -/
def Obj.formatResult : ObjDef := ⟨0x2200, 0x11, 1, .u16, .ro, .die, 9, 0, 65535⟩

/-- OD 0x2200.12 OPEN_ZONES (09 R303). -/
def Obj.openZones : ObjDef := ⟨0x2200, 0x12, 1, .u16, .ro, .die, 0, 0, 65535⟩

/-- OD 0x2200.13 WRITING_ZONES (09 R303). -/
def Obj.writingZones : ObjDef := ⟨0x2200, 0x13, 1, .u16, .ro, .die, 0, 0, 65535⟩

/-- OD 0x2200.14 NUM_BANDS (09 R303). -/
def Obj.numBands : ObjDef := ⟨0x2200, 0x14, 1, .u32, .ro, .die, 0, 0, 4294967295⟩

/-- OD 0x2200.15 CONV_BANDS (09 R303). -/
def Obj.convBands : ObjDef := ⟨0x2200, 0x15, 1, .u32, .ro, .die, 0, 0, 4294967295⟩

/-- OD 0x2200.16 FREE_BANDS (09 R303). -/
def Obj.freeBands : ObjDef := ⟨0x2200, 0x16, 1, .u32, .ro, .head, 0, 0, 4294967295⟩

/-- OD 0x2200.17 FREE_GROUPS_W12 (09 R303). -/
def Obj.freeGroupsW12 : ObjDef := ⟨0x2200, 0x17, 1, .u32, .ro, .act, 0, 0, 4294967295⟩

/-- OD 0x2200.18 EXHAUSTION_COUNT (09 R303). -/
def Obj.exhaustionCount : ObjDef := ⟨0x2200, 0x18, 1, .u32, .ro, .die, 0, 0, 4294967295⟩

/-- OD 0x2200.19 MAP_MISMATCH_COUNT (09 R303). -/
def Obj.mapMismatchCount : ObjDef := ⟨0x2200, 0x19, 1, .u32, .ro, .die, 0, 0, 4294967295⟩

/-- OD 0x2200.1A FRAME_REWRITE_COUNT (09 R303). -/
def Obj.frameRewriteCount : ObjDef := ⟨0x2200, 0x1a, 1, .u32, .ro, .die, 0, 0, 4294967295⟩

/-- OD 0x2200.1B FORMAT_SEQ (09 R303). -/
def Obj.formatSeq : ObjDef := ⟨0x2200, 0x1b, 1, .u32, .ro, .die, 0, 0, 4294967295⟩

/-- OD 0x2200.20 WRITE_FAILED (09 R303). -/
def Obj.writeFailed : ObjDef := ⟨0x2200, 0x20, 1, .bool, .rw, .head, 0, 0, 1⟩

/-- OD 0x5070.00 DEFECT_LIST (09 R303). -/
def Obj.defectList : ObjDef := ⟨0x5070, 0x00, 1, .domain, .rws, .head, 0, 0, 0⟩

/-- OD 0x2300.01 CHAIN_DEPTH (10 R336). -/
def Obj.chainDepth : ObjDef := ⟨0x2300, 0x01, 1, .u16, .rws, .die, 32, 1, 256⟩

/-- OD 0x2300.02 LAZY (10 R336). -/
def Obj.lazy : ObjDef := ⟨0x2300, 0x02, 1, .bool, .rws, .die, 1, 0, 1⟩

/-- OD 0x2300.03 NICE_LENGTH (10 R336). -/
def Obj.niceLength : ObjDef := ⟨0x2300, 0x03, 1, .u16, .rws, .die, 128, 3, 258⟩

/-- OD 0x2300.04 DECOMP_LANE_LIMIT (10 R336). -/
def Obj.decompLaneLimit : ObjDef := ⟨0x2300, 0x04, 1, .u8, .rws, .die, 12, 1, 15⟩

/-- OD 0x2300.05 ENCRYPTION_REQUIRED (10 R336). -/
def Obj.encryptionRequired : ObjDef := ⟨0x2300, 0x05, 1, .bool, .rws, .die, 0, 0, 1⟩

/-- OD 0x2300.08 KEY_TRANSPORT_PUBKEY (10 R336). -/
def Obj.keyTransportPubkey : ObjDef := ⟨0x2300, 0x08, 1, .domain, .ro, .die, 0, 0, 0⟩

/-- OD 0x2300.20 LOGICAL_BYTES_IN (10 R336). -/
def Obj.logicalBytesIn : ObjDef := ⟨0x2300, 0x20, 1, .u64, .ro, .die, 0, 0, 18446744073709551615⟩

/-- OD 0x2300.21 STORED_BYTES_OUT (10 R336). -/
def Obj.storedBytesOut : ObjDef := ⟨0x2300, 0x21, 1, .u64, .ro, .die, 0, 0, 18446744073709551615⟩

/-- OD 0x2300.22 RAW_INCOMPRESSIBLE_COUNT (10 R336). -/
def Obj.rawIncompressibleCount : ObjDef := ⟨0x2300, 0x22, 1, .u32, .ro, .die, 0, 0, 4294967295⟩

/-- OD 0x2300.23 RAW_CHAIN_SHORT_COUNT (10 R336). -/
def Obj.rawChainShortCount : ObjDef := ⟨0x2300, 0x23, 1, .u32, .ro, .die, 0, 0, 4294967295⟩

/-- OD 0x2300.24 OVERFLOW_COUNT (10 R336). -/
def Obj.overflowCount : ObjDef := ⟨0x2300, 0x24, 1, .u64, .ro, .die, 0, 0, 18446744073709551615⟩

/-- OD 0x2300.25 HUSK_HEADER_ERRORS (10 R336). -/
def Obj.huskHeaderErrors : ObjDef := ⟨0x2300, 0x25, 1, .u32, .ro, .die, 0, 0, 4294967295⟩

/-- OD 0x2300.26 HUSK_DATA_ERRORS (10 R336). -/
def Obj.huskDataErrors : ObjDef := ⟨0x2300, 0x26, 1, .u32, .ro, .die, 0, 0, 4294967295⟩

/-- OD 0x2310.SS KEY_STATE (10 R336). -/
def Obj.keyState : ObjDef := ⟨0x2310, 0x00, 64, .u8, .ro, .die, 0, 0, 255⟩

/-- OD 0x2311.SS KEY_ID (10 R336). -/
def Obj.keyId : ObjDef := ⟨0x2311, 0x00, 64, .u32, .ro, .die, 0, 0, 4294967295⟩

/-- OD 0x2312.SS KEY_LOAD_NONCE (10 R336). -/
def Obj.keyLoadNonce : ObjDef := ⟨0x2312, 0x00, 64, .domain, .ro, .die, 0, 0, 0⟩

/-- OD 0x2100.01 WRITE_CACHE_ENABLE (11 R373). -/
def Obj.writeCacheEnable : ObjDef := ⟨0x2100, 0x01, 1, .bool, .rws, .die, 1, 0, 1⟩

/-- OD 0x2100.02 WRITE_BACK_STATE (11 R373). -/
def Obj.writeBackState : ObjDef := ⟨0x2100, 0x02, 1, .u8, .ro, .die, 3, 0, 255⟩

/-- OD 0x2100.03 DIRTY_LIMIT_MIB (11 R373). -/
def Obj.dirtyLimitMib : ObjDef := ⟨0x2100, 0x03, 1, .u16, .rws, .die, 512, 0, 512⟩

/-- OD 0x2100.04 DIRTY_BUDGET_BYTES (11 R373). -/
def Obj.dirtyBudgetBytes : ObjDef := ⟨0x2100, 0x04, 1, .u64, .ro, .die, 0, 0, 18446744073709551615⟩

/-- OD 0x2100.05 DIRTY_BYTES (11 R373). -/
def Obj.dirtyBytes : ObjDef := ⟨0x2100, 0x05, 1, .u64, .ro, .die, 0, 0, 18446744073709551615⟩

/-- OD 0x2100.06 HOLDUP_VMIN_MV (11 R373). -/
def Obj.holdupVminMv : ObjDef := ⟨0x2100, 0x06, 1, .u16, .rws, .die, 8000, 3000, 60000⟩

/-- OD 0x2100.07 HOLDUP_RESERVE_MJ (11 R373). -/
def Obj.holdupReserveMj : ObjDef := ⟨0x2100, 0x07, 1, .u32, .rws, .die, 1500, 0, 100000⟩

/-- OD 0x2100.08 ENERGY_PER_BYTE_NJ (11 R373). -/
def Obj.energyPerByteNj : ObjDef := ⟨0x2100, 0x08, 1, .q16, .rws, .die, 655360, 131072, 6553600⟩

/-- OD 0x2100.09 HOLDUP_V_MV (11 R373). -/
def Obj.holdupVMv : ObjDef := ⟨0x2100, 0x09, 1, .u16, .ro, .die, 0, 0, 65535⟩

/-- OD 0x2100.0A HOLDUP_PFAIL_MV (11 R373). -/
def Obj.holdupPfailMv : ObjDef := ⟨0x2100, 0x0a, 1, .u16, .rws, .die, 9000, 0, 65535⟩

/-- OD 0x2100.0B DMA_DRAIN_US (11 R373). -/
def Obj.dmaDrainUs : ObjDef := ⟨0x2100, 0x0b, 1, .u16, .rws, .package, 50, 10, 200⟩

/-- OD 0x2100.0C JOURNAL_TAIL_MAX_MIB (11 R373). -/
def Obj.journalTailMaxMib : ObjDef := ⟨0x2100, 0x0c, 1, .u8, .rwr, .die, 16, 4, 16⟩

/-- OD 0x2100.0D JOURNAL_FLUSH_KIB (11 R373). -/
def Obj.journalFlushKib : ObjDef := ⟨0x2100, 0x0d, 1, .u16, .rws, .die, 1024, 64, 4096⟩

/-- OD 0x2100.0E JOURNAL_RING_MIB (11 R373). -/
def Obj.journalRingMib : ObjDef := ⟨0x2100, 0x0e, 1, .u16, .rwr, .die, 64, 32, 256⟩

/-- OD 0x2100.0F JSEQ (11 R373). -/
def Obj.jseq : ObjDef := ⟨0x2100, 0x0f, 1, .u64, .ro, .die, 0, 0, 18446744073709551615⟩

/-- OD 0x2100.10 WRITE_CACHE_MIB (11 R373). -/
def Obj.writeCacheMib : ObjDef := ⟨0x2100, 0x10, 1, .u32, .rwr, .die, 2048, 1024, 8192⟩

/-- OD 0x2100.11 COMP_STAGING_MIB (11 R373). -/
def Obj.compStagingMib : ObjDef := ⟨0x2100, 0x11, 1, .u16, .rwr, .die, 512, 128, 4096⟩

/-- OD 0x2100.12 TRACE_RING_MIB (11 R373). -/
def Obj.traceRingMib : ObjDef := ⟨0x2100, 0x12, 1, .u16, .rwr, .die, 64, 0, 1024⟩

/-- OD 0x2100.13 READ_CACHE_MIB (11 R373). -/
def Obj.readCacheMib : ObjDef := ⟨0x2100, 0x13, 1, .u32, .ro, .die, 0, 0, 4294967295⟩

/-- OD 0x2100.14 READ_WINDOW_KIB (11 R373). -/
def Obj.readWindowKib : ObjDef := ⟨0x2100, 0x14, 1, .u16, .rws, .package, 1024, 64, 4096⟩

/-- OD 0x2100.15 ACORN_AREA_MIB (11 R373). -/
def Obj.acornAreaMib : ObjDef := ⟨0x2100, 0x15, 1, .u16, .rwr, .die, 640, 560, 4096⟩

/-- OD 0x2100.18 ACORN_STATE (11 R373). -/
def Obj.acornState : ObjDef := ⟨0x2100, 0x18, 1, .u8, .ro, .die, 0, 0, 255⟩

/-- OD 0x2100.19 ACORN_LAST_SAVE (11 R373). -/
def Obj.acornLastSave : ObjDef := ⟨0x2100, 0x19, 1, .domain, .ro, .die, 0, 0, 0⟩

/-- OD 0x2100.1A ACORN_SAVE_COUNT (11 R373). -/
def Obj.acornSaveCount : ObjDef := ⟨0x2100, 0x1a, 1, .u32, .ro, .die, 0, 0, 4294967295⟩

/-- OD 0x2100.1B ADMISSION_WAITS (11 R373). -/
def Obj.admissionWaits : ObjDef := ⟨0x2100, 0x1b, 1, .u64, .ro, .package, 0, 0, 18446744073709551615⟩

/-- OD 0x2100.1C DIE_REPLAY_COUNT (11 R373). -/
def Obj.dieReplayCount : ObjDef := ⟨0x2100, 0x1c, 1, .u32, .ro, .die, 0, 0, 4294967295⟩

/-- OD 0x2100.1E DRAM_INSTALLED_MIB (11 R373). -/
def Obj.dramInstalledMib : ObjDef := ⟨0x2100, 0x1e, 1, .u32, .ro, .die, 0, 0, 4294967295⟩

/-- OD 0x2000.01 LINK_SPEED_GTS (12 R399). -/
def Obj.linkSpeedGts : ObjDef := ⟨0x2000, 0x01, 1, .u8, .ro, .package, 0, 0, 255⟩

/-- OD 0x2000.02 LINK_WIDTH (12 R399). -/
def Obj.linkWidth : ObjDef := ⟨0x2000, 0x02, 1, .u8, .ro, .package, 0, 0, 255⟩

/-- OD 0x2000.03 ARB_BURST (12 R399). -/
def Obj.arbBurst : ObjDef := ⟨0x2000, 0x03, 1, .u8, .rws, .package, 8, 1, 64⟩

/-- OD 0x2000.04 MAX_TRANSFER_BLOCKS (12 R399). -/
def Obj.maxTransferBlocks : ObjDef := ⟨0x2000, 0x04, 1, .u16, .ro, .package, 4096, 0, 65535⟩

/-- OD 0x2000.05 IO_QUEUES_CREATED (12 R399). -/
def Obj.ioQueuesCreated : ObjDef := ⟨0x2000, 0x05, 1, .u16, .ro, .package, 0, 0, 65535⟩

/-- OD 0x2000.06 IO_CQS_CREATED (12 R399). -/
def Obj.ioCqsCreated : ObjDef := ⟨0x2000, 0x06, 1, .u16, .ro, .package, 0, 0, 65535⟩

/-- OD 0x2000.07 OUTSTANDING_VERBS (12 R399). -/
def Obj.outstandingVerbs : ObjDef := ⟨0x2000, 0x07, 1, .u32, .ro, .package, 0, 0, 4294967295⟩

/-- OD 0x2000.08 FROZEN_QUEUES (12 R399). -/
def Obj.frozenQueues : ObjDef := ⟨0x2000, 0x08, 1, .u16, .ro, .package, 0, 0, 65535⟩

/-- OD 0x2000.09 DOORBELL_INVALID_COUNT (12 R399). -/
def Obj.doorbellInvalidCount : ObjDef := ⟨0x2000, 0x09, 1, .u32, .ro, .package, 0, 0, 4294967295⟩

/-- OD 0x2000.0A FAST_PATH_COUNT (12 R399). -/
def Obj.fastPathCount : ObjDef := ⟨0x2000, 0x0a, 1, .u64, .ro, .package, 0, 0, 18446744073709551615⟩

/-- OD 0x2000.0B CQ_FULL_WAITS (12 R399). -/
def Obj.cqFullWaits : ObjDef := ⟨0x2000, 0x0b, 1, .u64, .ro, .package, 0, 0, 18446744073709551615⟩

/-- OD 0x2000.0C ASN_NEXT (12 R399). -/
def Obj.asnNext : ObjDef := ⟨0x2000, 0x0c, 1, .u64, .ro, .package, 0, 0, 18446744073709551615⟩

/-- OD 0x1000.01 VENDOR (14 R454). -/
def Obj.vendor : ObjDef := ⟨0x1000, 0x01, 1, .str, .ro, .package, 0, 0, 0⟩

/-- OD 0x1000.02 PART (14 R454). -/
def Obj.part : ObjDef := ⟨0x1000, 0x02, 1, .str, .ro, .package, 0, 0, 0⟩

/-- OD 0x1000.03 SERIAL (14 R454). -/
def Obj.serial : ObjDef := ⟨0x1000, 0x03, 1, .str, .ro, .package, 0, 0, 0⟩

/-- OD 0x1000.04 FW_VERSION (14 R454). -/
def Obj.fwVersion : ObjDef := ⟨0x1000, 0x04, 1, .u32, .ro, .package, 0, 0, 4294967295⟩

/-- OD 0x1000.05 FW_PATCH (14 R454). -/
def Obj.fwPatch : ObjDef := ⟨0x1000, 0x05, 1, .u32, .ro, .package, 0, 0, 4294967295⟩

/-- OD 0x1000.06 DIES (14 R454). -/
def Obj.dies : ObjDef := ⟨0x1000, 0x06, 1, .u8, .ro, .package, 0, 0, 255⟩

/-- OD 0x1000.07 DIE_MAP (14 R454). -/
def Obj.dieMap : ObjDef := ⟨0x1000, 0x07, 1, .u8, .ro, .package, 0, 0, 255⟩

/-- OD 0x1000.08 HDA_SERIAL (14 R454). -/
def Obj.hdaSerial : ObjDef := ⟨0x1000, 0x08, 1, .str, .ro, .die, 0, 0, 0⟩

/-- OD 0x1000.09 DEVICE_UUID (14 R454). -/
def Obj.deviceUuid : ObjDef := ⟨0x1000, 0x09, 1, .domain, .ro, .package, 0, 0, 0⟩

/-- OD 0x1000.0A IANA_ENTERPRISE (14 R454). -/
def Obj.ianaEnterprise : ObjDef := ⟨0x1000, 0x0a, 1, .u32, .ro, .package, 0, 0, 4294967295⟩

/-- OD 0x1100.01 DEVICE_EID (14 R454). -/
def Obj.deviceEid : ObjDef := ⟨0x1100, 0x01, 1, .u8, .ro, .package, 0, 0, 255⟩

/-- OD 0x1100.02 MANAGER_EID (14 R454). -/
def Obj.managerEid : ObjDef := ⟨0x1100, 0x02, 1, .u8, .rws, .package, 0, 0, 254⟩

/-- OD 0x1100.03 I3C_DYN_ADDR (14 R454). -/
def Obj.i3cDynAddr : ObjDef := ⟨0x1100, 0x03, 1, .u8, .ro, .package, 0, 0, 255⟩

/-- OD 0x1100.04 IBI_RETRY_LIMIT (14 R454). -/
def Obj.ibiRetryLimit : ObjDef := ⟨0x1100, 0x04, 1, .u8, .rws, .package, 16, 1, 64⟩

/-- OD 0x1100.05 RESPONSE_HOLD_MS (14 R454). -/
def Obj.responseHoldMs : ObjDef := ⟨0x1100, 0x05, 1, .u16, .rws, .package, 1000, 100, 10000⟩

/-- OD 0x1100.06 DOMAIN_SESSION_TIMEOUT_S (14 R454). -/
def Obj.domainSessionTimeoutS : ObjDef := ⟨0x1100, 0x06, 1, .u16, .rws, .package, 10, 1, 600⟩

/-- OD 0x1100.07 UNKNOWN_RATE_PER_S (14 R454). -/
def Obj.unknownRatePerS : ObjDef := ⟨0x1100, 0x07, 1, .u8, .rws, .package, 16, 0, 64⟩

/-- OD 0x1100.08 PEC_ERROR_COUNT (14 R454). -/
def Obj.pecErrorCount : ObjDef := ⟨0x1100, 0x08, 1, .u32, .ro, .package, 0, 0, 4294967295⟩

/-- OD 0x1100.09 IBI_LOST_COUNT (14 R454). -/
def Obj.ibiLostCount : ObjDef := ⟨0x1100, 0x09, 1, .u32, .ro, .package, 0, 0, 4294967295⟩

/-- OD 0x1100.0A IBI_GIVEUP_COUNT (14 R454). -/
def Obj.ibiGiveupCount : ObjDef := ⟨0x1100, 0x0a, 1, .u32, .ro, .package, 0, 0, 4294967295⟩

/-- OD 0x1100.0B UNTRUSTED_REFUSED_COUNT (14 R454). -/
def Obj.untrustedRefusedCount : ObjDef := ⟨0x1100, 0x0b, 1, .u32, .ro, .package, 0, 0, 4294967295⟩

/-- OD 0x1100.0C UNKNOWN_DROPPED_COUNT (14 R454). -/
def Obj.unknownDroppedCount : ObjDef := ⟨0x1100, 0x0c, 1, .u32, .ro, .package, 0, 0, 4294967295⟩

/-- OD 0x1100.0D MAX_PACKET_PAYLOAD (14 R454). -/
def Obj.maxPacketPayload : ObjDef := ⟨0x1100, 0x0d, 1, .u16, .ro, .package, 64, 0, 65535⟩

/-- OD 0x1100.10 RESTORE_DEFAULTS (14 R454). -/
def Obj.restoreDefaults : ObjDef := ⟨0x1100, 0x10, 1, .u8, .cmd, .package, 0, 1, 1⟩

/-- OD 0x1100.11 RESTORE_RESULT (14 R454). -/
def Obj.restoreResult : ObjDef := ⟨0x1100, 0x11, 1, .u16, .ro, .package, 9, 0, 65535⟩

/-- OD 0x1100.12 RESTORE_SKIPPED (14 R454). -/
def Obj.restoreSkipped : ObjDef := ⟨0x1100, 0x12, 1, .u32, .ro, .package, 0, 0, 4294967295⟩

/-- OD 0x1100.13 RWR_PENDING (14 R454). -/
def Obj.rwrPending : ObjDef := ⟨0x1100, 0x13, 1, .u16, .ro, .die, 0, 0, 65535⟩

/-- OD 0x4100.01 SCRUB_ONCHIP_WORDS (15 R484). -/
def Obj.scrubOnchipWords : ObjDef := ⟨0x4100, 0x01, 1, .u16, .rws, .die, 64, 0, 1024⟩

/-- OD 0x4100.02 SCRUB_DRAM_WORDS (15 R484). -/
def Obj.scrubDramWords : ObjDef := ⟨0x4100, 0x02, 1, .u16, .rws, .die, 512, 0, 4096⟩

/-- OD 0x4100.03 CE_LEAK_REVS (15 R484). -/
def Obj.ceLeakRevs : ObjDef := ⟨0x4100, 0x03, 1, .u16, .rws, .die, 64, 1, 65535⟩

/-- OD 0x4100.04 CE_THRESHOLD (15 R484). -/
def Obj.ceThreshold : ObjDef := ⟨0x4100, 0x04, 1, .u16, .rws, .die, 16, 1, 1024⟩

/-- OD 0x4100.05 SCRUB_PASSES_ONCHIP (15 R484). -/
def Obj.scrubPassesOnchip : ObjDef := ⟨0x4100, 0x05, 1, .u32, .ro, .die, 0, 0, 4294967295⟩

/-- OD 0x4100.06 SCRUB_PASSES_DRAM (15 R484). -/
def Obj.scrubPassesDram : ObjDef := ⟨0x4100, 0x06, 1, .u32, .ro, .die, 0, 0, 4294967295⟩

/-- OD 0x4100.07 POISON_SEEN (15 R484). -/
def Obj.poisonSeen : ObjDef := ⟨0x4100, 0x07, 1, .u32, .ro, .die, 0, 0, 4294967295⟩

/-- OD 0x4100.08 CQ_DROPPED (15 R484). -/
def Obj.cqDropped : ObjDef := ⟨0x4100, 0x08, 1, .u32, .ro, .die, 0, 0, 4294967295⟩

/-- OD 0x4100.09 SCRUB_RANGES (15 R484). -/
def Obj.scrubRanges : ObjDef := ⟨0x4100, 0x09, 1, .domain, .ro, .die, 0, 0, 0⟩

/-- OD 0x4100.0A LAST_UE (15 R484). -/
def Obj.lastUe : ObjDef := ⟨0x4100, 0x0a, 1, .domain, .ro, .die, 0, 0, 0⟩

/-- OD 0x4100.10 MAP_PREFETCH_NEXT (15 R484). -/
def Obj.mapPrefetchNext : ObjDef := ⟨0x4100, 0x10, 1, .bool, .rws, .die, 1, 0, 1⟩

/-- OD 0x4100.11 MAP_HITS (15 R484). -/
def Obj.mapHits : ObjDef := ⟨0x4100, 0x11, 1, .u64, .ro, .die, 0, 0, 18446744073709551615⟩

/-- OD 0x4100.12 MAP_MISSES (15 R484). -/
def Obj.mapMisses : ObjDef := ⟨0x4100, 0x12, 1, .u64, .ro, .die, 0, 0, 18446744073709551615⟩

/-- OD 0x4100.13 MAP_SIDE_HITS (15 R484). -/
def Obj.mapSideHits : ObjDef := ⟨0x4100, 0x13, 1, .u64, .ro, .die, 0, 0, 18446744073709551615⟩

/-- OD 0x4100.14 MAP_EVICT_HITS (15 R484). -/
def Obj.mapEvictHits : ObjDef := ⟨0x4100, 0x14, 1, .u32, .ro, .die, 0, 0, 4294967295⟩

/-- OD 0x4100.15 ENTRY_REFETCH (15 R484). -/
def Obj.entryRefetch : ObjDef := ⟨0x4100, 0x15, 1, .u32, .ro, .die, 0, 0, 4294967295⟩

/-- OD 0x4100.16 ENTRY_REBUILT (15 R484). -/
def Obj.entryRebuilt : ObjDef := ⟨0x4100, 0x16, 1, .u32, .ro, .die, 0, 0, 4294967295⟩

/-- OD 0x4100.17 ENTRY_LOST (15 R484). -/
def Obj.entryLost : ObjDef := ⟨0x4100, 0x17, 1, .u32, .ro, .die, 0, 0, 4294967295⟩

/-- OD 0x4100.18 LOCKED_WAYS (15 R484). -/
def Obj.lockedWays : ObjDef := ⟨0x4100, 0x18, 1, .u16, .ro, .die, 0, 0, 65535⟩

/-- OD 0x4101.SS CE_COUNT (15 R484). -/
def Obj.ceCount : ObjDef := ⟨0x4101, 0x00, 10, .u32, .ro, .die, 0, 0, 4294967295⟩

/-- OD 0x4102.SS UE_COUNT (15 R484). -/
def Obj.ueCount : ObjDef := ⟨0x4102, 0x00, 10, .u32, .ro, .die, 0, 0, 4294967295⟩

/-- OD 0x4103.SS CE_BUCKET (15 R484). -/
def Obj.ceBucket : ObjDef := ⟨0x4103, 0x00, 10, .u16, .ro, .die, 0, 0, 65535⟩

/-- OD 0x4400.01 ENGINE_VERSIONS (16 R505). -/
def Obj.engineVersions : ObjDef := ⟨0x4400, 0x01, 1, .domain, .ro, .die, 0, 0, 0⟩

/-- OD 0x4400.02 CLE_BANK_ACTIVE (16 R505). -/
def Obj.cleBankActive : ObjDef := ⟨0x4400, 0x02, 1, .u8, .ro, .die, 0, 0, 255⟩

/-- OD 0x4400.03 ENGINE_RESET_COUNT (16 R505). -/
def Obj.engineResetCount : ObjDef := ⟨0x4400, 0x03, 1, .u32, .ro, .die, 0, 0, 4294967295⟩

/-- OD 0x4400.04 CLAUSE_OVERRUN_COUNT (16 R505). -/
def Obj.clauseOverrunCount : ObjDef := ⟨0x4400, 0x04, 1, .u32, .ro, .die, 0, 0, 4294967295⟩

/-- OD 0x4400.05 CORE_RESTART_COUNT (16 R505). -/
def Obj.coreRestartCount : ObjDef := ⟨0x4400, 0x05, 1, .u32, .ro, .die, 0, 0, 4294967295⟩

/-- OD 0x4400.06 CORE_WATCHDOG_MS (16 R505). -/
def Obj.coreWatchdogMs : ObjDef := ⟨0x4400, 0x06, 1, .u16, .rws, .die, 100, 10, 10000⟩

/-- OD 0x4400.07 LAST_ENGINE_FAULT (16 R505). -/
def Obj.lastEngineFault : ObjDef := ⟨0x4400, 0x07, 1, .domain, .ro, .die, 0, 0, 0⟩

/-- OD 0x43f0.00 EVENT_ROUTING (16 R505). -/
def Obj.eventRouting : ObjDef := ⟨0x43f0, 0x00, 1, .domain, .rw, .package, 0, 0, 0⟩

/-- OD 0x1200.01 RUNNING_SLOT (17 R530). -/
def Obj.runningSlot : ObjDef := ⟨0x1200, 0x01, 1, .u8, .ro, .package, 0, 0, 255⟩

/-- OD 0x1200.02 SLOT_STATE_0 (17 R530). -/
def Obj.slotState0 : ObjDef := ⟨0x1200, 0x02, 1, .u8, .ro, .package, 0, 0, 255⟩

/-- OD 0x1200.03 SLOT_STATE_1 (17 R530). -/
def Obj.slotState1 : ObjDef := ⟨0x1200, 0x03, 1, .u8, .ro, .package, 0, 0, 255⟩

/-- OD 0x1200.04 TRIAL_STATE (17 R530). -/
def Obj.trialState : ObjDef := ⟨0x1200, 0x04, 1, .u8, .ro, .package, 0, 0, 255⟩

/-- OD 0x1200.05 CONFIRM_WINDOW_S (17 R530). -/
def Obj.confirmWindowS : ObjDef := ⟨0x1200, 0x05, 1, .u16, .rws, .package, 600, 60, 3600⟩

/-- OD 0x1200.06 CONFIRM_SOAK_S (17 R530). -/
def Obj.confirmSoakS : ObjDef := ⟨0x1200, 0x06, 1, .u16, .rws, .package, 60, 10, 3600⟩

/-- OD 0x1200.07 CONFIRM_REMAINING_S (17 R530). -/
def Obj.confirmRemainingS : ObjDef := ⟨0x1200, 0x07, 1, .u16, .ro, .package, 0, 0, 65535⟩

/-- OD 0x1200.08 MIN_SECURITY_VERSION (17 R530). -/
def Obj.minSecurityVersion : ObjDef := ⟨0x1200, 0x08, 1, .u32, .ro, .package, 0, 0, 4294967295⟩

/-- OD 0x1200.09 LOCK_HOLDER (17 R530). -/
def Obj.lockHolder : ObjDef := ⟨0x1200, 0x09, 1, .u8, .ro, .package, 0, 0, 255⟩

/-- OD 0x1200.0A FW_LOCK_IDLE_S (17 R530). -/
def Obj.fwLockIdleS : ObjDef := ⟨0x1200, 0x0a, 1, .u16, .ro, .package, 60, 0, 65535⟩

/-- OD 0x1200.0B PRIV_PENDING (17 R530). -/
def Obj.privPending : ObjDef := ⟨0x1200, 0x0b, 1, .bool, .ro, .package, 0, 0, 1⟩

/-- OD 0x1200.0C DOWNLOAD_NEXT_OFFSET (17 R530). -/
def Obj.downloadNextOffset : ObjDef := ⟨0x1200, 0x0c, 1, .u32, .ro, .package, 0, 0, 4294967295⟩

/-- OD 0x1200.0D FALLBACK_COUNT (17 R530). -/
def Obj.fallbackCount : ObjDef := ⟨0x1200, 0x0d, 1, .u32, .ro, .package, 0, 0, 4294967295⟩

/-- OD 0x1200.10 FW_COMMAND (17 R530). -/
def Obj.fwCommand : ObjDef := ⟨0x1200, 0x10, 1, .u8, .cmd, .package, 0, 1, 2⟩

/-- OD 0x1200.11 FW_RESULT (17 R530). -/
def Obj.fwResult : ObjDef := ⟨0x1200, 0x11, 1, .u16, .ro, .package, 9, 0, 65535⟩

/-- OD 0x1200.12 FW_BLOCK_OFFSET (17 R530). -/
def Obj.fwBlockOffset : ObjDef := ⟨0x1200, 0x12, 1, .u32, .rw, .package, 0, 0, 4294967295⟩

/-- OD 0x1200.13 FW_BLOCK (17 R530). -/
def Obj.fwBlock : ObjDef := ⟨0x1200, 0x13, 1, .domain, .wo, .package, 0, 0, 0⟩

/-- OD 0x1210.01 ATTEST_NONCE (17 R530). -/
def Obj.attestNonce : ObjDef := ⟨0x1210, 0x01, 1, .domain, .wo, .package, 0, 0, 0⟩

/-- OD 0x1210.02 ATTEST_RESULT (17 R530). -/
def Obj.attestResult : ObjDef := ⟨0x1210, 0x02, 1, .u16, .ro, .package, 9, 0, 65535⟩

/-- OD 0x1210.03 ATTEST_REPORT (17 R530). -/
def Obj.attestReport : ObjDef := ⟨0x1210, 0x03, 1, .domain, .ro, .package, 0, 0, 0⟩

/-- OD 0x1211.01 IDENTITY_CERT_CHAIN (17 R530). -/
def Obj.identityCertChain : ObjDef := ⟨0x1211, 0x01, 1, .domain, .ro, .package, 0, 0, 0⟩

/-- OD 0x1211.02 KEY_TRANSPORT_CERT (17 R530). -/
def Obj.keyTransportCert : ObjDef := ⟨0x1211, 0x02, 1, .domain, .ro, .die, 0, 0, 0⟩

/-- OD 0x4000.01 THERMAL_STATE (18 R547). -/
def Obj.thermalState : ObjDef := ⟨0x4000, 0x01, 1, .u8, .ro, .die, 0, 0, 255⟩

/-- OD 0x4000.02 DIE_TEMP (18 R547). -/
def Obj.dieTemp : ObjDef := ⟨0x4000, 0x02, 1, .q16, .ro, .die, 0, (-2147483648), 2147483647⟩

/-- OD 0x4000.03 HDA_TEMP (18 R547). -/
def Obj.hdaTemp : ObjDef := ⟨0x4000, 0x03, 1, .q16, .ro, .die, 0, (-2147483648), 2147483647⟩

/-- OD 0x4000.04 HEAD_TEMP (18 R547). -/
def Obj.headTemp : ObjDef := ⟨0x4000, 0x04, 1, .q16, .ro, .head, 0, (-2147483648), 2147483647⟩

/-- OD 0x4000.05 DIE_RATE (18 R547). -/
def Obj.dieRate : ObjDef := ⟨0x4000, 0x05, 1, .q16, .ro, .die, 0, (-2147483648), 2147483647⟩

/-- OD 0x4000.06 HDA_RATE (18 R547). -/
def Obj.hdaRate : ObjDef := ⟨0x4000, 0x06, 1, .q16, .ro, .die, 0, (-2147483648), 2147483647⟩

/-- OD 0x4000.07 SUSPECT_MASK (18 R547). -/
def Obj.suspectMask : ObjDef := ⟨0x4000, 0x07, 1, .u8, .ro, .die, 0, 0, 255⟩

/-- OD 0x4000.08 THERMALLY_BLIND (18 R547). -/
def Obj.thermallyBlind : ObjDef := ⟨0x4000, 0x08, 1, .bool, .ro, .die, 0, 0, 1⟩

/-- OD 0x4000.09 HYSTERESIS_C (18 R547). -/
def Obj.hysteresisC : ObjDef := ⟨0x4000, 0x09, 1, .q16, .rws, .die, 131072, 32768, 655360⟩

/-- OD 0x4000.0A DWELL_ROUNDS (18 R547). -/
def Obj.dwellRounds : ObjDef := ⟨0x4000, 0x0a, 1, .u8, .rws, .die, 4, 1, 64⟩

/-- OD 0x4000.0B RATE_WINDOW_ROUNDS (18 R547). -/
def Obj.rateWindowRounds : ObjDef := ⟨0x4000, 0x0b, 1, .u16, .rws, .die, 64, 8, 1024⟩

/-- OD 0x4000.0C ESCALATE_ROUNDS (18 R547). -/
def Obj.escalateRounds : ObjDef := ⟨0x4000, 0x0c, 1, .u16, .rws, .die, 1024, 16, 65535⟩

/-- OD 0x4000.0D SUSPECT_C (18 R547). -/
def Obj.suspectC : ObjDef := ⟨0x4000, 0x0d, 1, .q16, .rws, .die, 524288, 131072, 1966080⟩

/-- OD 0x4000.0E SUSPECT_ROUNDS (18 R547). -/
def Obj.suspectRounds : ObjDef := ⟨0x4000, 0x0e, 1, .u16, .rws, .die, 64, 4, 4096⟩

/-- OD 0x4000.0F BLIND_MARGIN_C (18 R547). -/
def Obj.blindMarginC : ObjDef := ⟨0x4000, 0x0f, 1, .q16, .rws, .die, 655360, 0, 1966080⟩

/-- OD 0x4000.10 AUTO_RESTART (18 R547). -/
def Obj.autoRestart : ObjDef := ⟨0x4000, 0x10, 1, .bool, .rws, .die, 1, 0, 1⟩

/-- OD 0x4000.11 SUPPLY_TOL_PCT (18 R547). -/
def Obj.supplyTolPct : ObjDef := ⟨0x4000, 0x11, 1, .u8, .rws, .die, 5, 1, 20⟩

/-- OD 0x4000.12 HOLDUP_DIV (18 R547). -/
def Obj.holdupDiv : ObjDef := ⟨0x4000, 0x12, 1, .q16, .rwr, .die, 2621440, 65536, 2621440⟩

/-- OD 0x4000.13 TH_R25_OHM (18 R547). -/
def Obj.thR25Ohm : ObjDef := ⟨0x4000, 0x13, 1, .u32, .rwr, .die, 10000, 1000, 1000000⟩

/-- OD 0x4000.14 TH_BETA (18 R547). -/
def Obj.thBeta : ObjDef := ⟨0x4000, 0x14, 1, .u16, .rwr, .die, 3435, 2000, 5000⟩

/-- OD 0x4000.15 TH_PULLUP_OHM (18 R547). -/
def Obj.thPullupOhm : ObjDef := ⟨0x4000, 0x15, 1, .u32, .rwr, .die, 10000, 1000, 1000000⟩

/-- OD 0x4000.16 HK_ROUND (18 R547). -/
def Obj.hkRound : ObjDef := ⟨0x4000, 0x16, 1, .domain, .ro, .die, 0, 0, 0⟩

/-- OD 0x4001.SS THRESHOLD_C (18 R547). -/
def Obj.thresholdC : ObjDef := ⟨0x4001, 0x01, 16, .i16, .rws, .die, 0, 30, 150⟩

/-- OD 0x4002.01 DIE_RATE_WARN (18 R547). -/
def Obj.dieRateWarn : ObjDef := ⟨0x4002, 0x01, 1, .q16, .rws, .die, 131072, 6554, 3276800⟩

/-- OD 0x4002.02 DIE_RATE_THROTTLE (18 R547). -/
def Obj.dieRateThrottle : ObjDef := ⟨0x4002, 0x02, 1, .q16, .rws, .die, 327680, 0, 3276800⟩

/-- OD 0x4002.03 HDA_RATE_WARN (18 R547). -/
def Obj.hdaRateWarn : ObjDef := ⟨0x4002, 0x03, 1, .q16, .rws, .die, 13107, 655, 327680⟩

/-- OD 0x4002.04 HDA_RATE_THROTTLE (18 R547). -/
def Obj.hdaRateThrottle : ObjDef := ⟨0x4002, 0x04, 1, .q16, .rws, .die, 32768, 0, 327680⟩

/-- OD 0x4200.01 SNAPSHOT_COMMAND (19 R569). -/
def Obj.snapshotCommand : ObjDef := ⟨0x4200, 0x01, 1, .u8, .cmd, .package, 0, 0, 2⟩

/-- OD 0x4200.02 SNAPSHOT_RESULT (19 R569). -/
def Obj.snapshotResult : ObjDef := ⟨0x4200, 0x02, 1, .u16, .ro, .package, 9, 0, 65535⟩

/-- OD 0x4200.03 SNAPSHOT_SET (19 R569). -/
def Obj.snapshotSet : ObjDef := ⟨0x4200, 0x03, 1, .domain, .ro, .package, 0, 0, 0⟩

/-- OD 0x4200.04 BW_WINDOW_UNIT (19 R569). -/
def Obj.bwWindowUnit : ObjDef := ⟨0x4200, 0x04, 1, .u8, .rws, .die, 0, 0, 1⟩

/-- OD 0x4200.05 BW_WINDOW (19 R569). -/
def Obj.bwWindow : ObjDef := ⟨0x4200, 0x05, 1, .u16, .rws, .die, 16, 1, 65535⟩

/-- OD 0x4201.01 TRACE_K (19 R569). -/
def Obj.traceK : ObjDef := ⟨0x4201, 0x01, 1, .u8, .rws, .package, 255, 0, 255⟩

/-- OD 0x4201.02 TRACE_SEED (19 R569). -/
def Obj.traceSeed : ObjDef := ⟨0x4201, 0x02, 1, .u32, .rws, .package, 44257, 1, 4294967295⟩

/-- OD 0x4201.03 TRACE_MODE (19 R569). -/
def Obj.traceMode : ObjDef := ⟨0x4201, 0x03, 1, .u8, .rws, .package, 0, 0, 1⟩

/-- OD 0x4201.04 TRACE_RECORDS (19 R569). -/
def Obj.traceRecords : ObjDef := ⟨0x4201, 0x04, 1, .u64, .ro, .package, 0, 0, 18446744073709551615⟩

/-- OD 0x4201.05 TRACE_DROPPED (19 R569). -/
def Obj.traceDropped : ObjDef := ⟨0x4201, 0x05, 1, .u64, .ro, .package, 0, 0, 18446744073709551615⟩

/-- OD 0x4202.SS COUNTER_EVENT (19 R569). -/
def Obj.counterEvent : ObjDef := ⟨0x4202, 0x00, 16, .u16, .rw, .die, 0, 0, 1023⟩

/-- OD 0x4203.SS COUNTER_VALUE (19 R569). -/
def Obj.counterValue : ObjDef := ⟨0x4203, 0x00, 16, .u64, .rw, .die, 0, 0, 281474976710655⟩

/-- OD 0x4300.01 EVENT_LOG (19 R569). -/
def Obj.eventLog : ObjDef := ⟨0x4300, 0x01, 1, .domain, .ro, .die, 0, 0, 0⟩

/-- OD 0x4300.02 EVENT_LOG_NEXT_SEQ (19 R569). -/
def Obj.eventLogNextSeq : ObjDef := ⟨0x4300, 0x02, 1, .u32, .ro, .die, 0, 0, 4294967295⟩

/-- OD 0x4300.03 EVENT_LOG_OVERWRITTEN (19 R569). -/
def Obj.eventLogOverwritten : ObjDef := ⟨0x4300, 0x03, 1, .u32, .ro, .die, 0, 0, 4294967295⟩

/-- OD 0x2001.01 VERB_TIMEOUT_MS (20 R590). -/
def Obj.verbTimeoutMs : ObjDef := ⟨0x2001, 0x01, 1, .u32, .rws, .package, 30000, 5000, 600000⟩

/-- OD 0x2001.02 PACKAGE_RESET (20 R590). -/
def Obj.packageReset : ObjDef := ⟨0x2001, 0x02, 1, .u8, .cmd, .package, 0, 1, 1⟩

/-- OD 0x2001.03 DIE_RESET (20 R590). -/
def Obj.dieReset : ObjDef := ⟨0x2001, 0x03, 1, .u8, .cmd, .die, 0, 1, 2⟩

/-- OD 0x2001.04 DIE_RESET_RESULT (20 R590). -/
def Obj.dieResetResult : ObjDef := ⟨0x2001, 0x04, 1, .u16, .ro, .die, 9, 0, 65535⟩

/-- OD 0x2001.05 DIE_STATE (20 R590). -/
def Obj.dieState : ObjDef := ⟨0x2001, 0x05, 1, .u8, .ro, .die, 0, 0, 255⟩

/-- OD 0x2001.06 ISOLATION_CAUSE (20 R590). -/
def Obj.isolationCause : ObjDef := ⟨0x2001, 0x06, 1, .u8, .ro, .die, 0, 0, 255⟩

/-- OD 0x2001.07 DIE_START_LIMIT_S (20 R590). -/
def Obj.dieStartLimitS : ObjDef := ⟨0x2001, 0x07, 1, .u16, .rws, .package, 120, 30, 600⟩

/-- OD 0x2001.08 LAST_BOOT_MS (20 R590). -/
def Obj.lastBootMs : ObjDef := ⟨0x2001, 0x08, 1, .u32, .ro, .package, 0, 0, 4294967295⟩

/-- OD 0x3002.01 HDA_POWER_TARGET (20 R590). -/
def Obj.hdaPowerTarget : ObjDef := ⟨0x3002, 0x01, 1, .u8, .rw, .die, 0, 0, 4⟩

/-- OD 0x3002.02 HDA_POWER_STATE (20 R590). -/
def Obj.hdaPowerState : ObjDef := ⟨0x3002, 0x02, 1, .u8, .ro, .die, 0, 0, 255⟩

/-- OD 0x3002.03 AGE_LIMIT_REVS (20 R590). -/
def Obj.ageLimitRevs : ObjDef := ⟨0x3002, 0x03, 1, .u8, .ro, .die, 64, 0, 255⟩

/-- OD 0x3003.01 BEMF_DIV (21 R620). -/
def Obj.bemfDiv : ObjDef := ⟨0x3003, 0x01, 1, .q16, .rwr, .die, 1048576, 65536, 4194304⟩

/-- OD 0x3003.02 ISENSE_MV_PER_A (21 R620). -/
def Obj.isenseMvPerA : ObjDef := ⟨0x3003, 0x02, 1, .u16, .rwr, .die, 200, 50, 2000⟩

/-- OD 0x2100.1D NAND_MTS (21 R620). -/
def Obj.nandMts : ObjDef := ⟨0x2100, 0x1d, 1, .u16, .rwr, .die, 1600, 1000, 1600⟩

/-- OD 0x1100.14 STRAPS (21 R620). -/
def Obj.straps : ObjDef := ⟨0x1100, 0x14, 1, .u8, .ro, .package, 0, 0, 255⟩

/-- OD 0x1100.15 REFCLK_PPM (21 R620). -/
def Obj.refclkPpm : ObjDef := ⟨0x1100, 0x15, 1, .i16, .ro, .package, 0, (-32768), 32767⟩

def objTable0 : List ObjDef :=
  [Obj.angleState, Obj.wedgesPerRev, Obj.lockWindowAu, Obj.lockCount, Obj.unlockAu, Obj.flywheelLimit,
   Obj.coastRpm, Obj.timingHeads, Obj.minLeadAu, Obj.deferralCount, Obj.pllBandwidth, Obj.phaseLockEnable,
   Obj.phaseOffsetAu, Obj.phaseErrorAu, Obj.phaseTrimMax, Obj.packageTime, Obj.timeOffsetNs, Obj.timeAligned,
   Obj.wedgeAngleTable, Obj.spinState, Obj.spinCommand, Obj.spinResult, Obj.setRpm, Obj.measuredRpm,
   Obj.speedErrorPpm, Obj.accelRpmS, Obj.decelRpmS, Obj.catchRpm, Obj.reversalRpm, Obj.senseMs,
   Obj.spmPwmKhz, Obj.spmDeadNs, Obj.sampleMinNs, Obj.modMax, Obj.iRunMax, Obj.iSpinupMax,
   Obj.alignMs, Obj.alignCurrent, Obj.observerMinRpm, Obj.handoverAu, Obj.reacqTimeoutMs, Obj.startRetries]

def objTable1 : List ObjDef :=
  [Obj.brakeTimeoutS, Obj.atSpeedPpm, Obj.skipCount, Obj.reconstructCount, Obj.predictCount, Obj.observerLossCount,
   Obj.kpSpeed, Obj.kiSpeed, Obj.kpCur, Obj.kiCur, Obj.phaseAdvance, Obj.elecOffset,
   Obj.spinupMaxConcurrent, Obj.commutationTable, Obj.samWindowAu, Obj.pulseQual, Obj.eyeLimitAu, Obj.missWi,
   Obj.missDrop, Obj.missRecover, Obj.rroEnable, Obj.rejoinCount, Obj.positionRecord, Obj.headServoState,
   Obj.missedWedges, Obj.lateCount, Obj.rroMissCount, Obj.grayMismatchCount, Obj.indexMismatchCount, Obj.servoFormat,
   Obj.chevronGeometry, Obj.actState, Obj.actCommand, Obj.actResult, Obj.vMax, Obj.aMax,
   Obj.jMax, Obj.vUnload, Obj.settleWedges, Obj.rearmWedges, Obj.loadCurrent, Obj.loadRevs]

def objTable2 : List ObjDef :=
  [Obj.retractCurrent, Obj.retractMs, Obj.loadRetries, Obj.recoverRevs, Obj.recoverRetries, Obj.seekCount,
   Obj.recoveryCount, Obj.coeffBankActive, Obj.coeffSwap, Obj.coeffSwapResult, Obj.swapSatCount, Obj.overrunCount,
   Obj.vcmCommand, Obj.maCommand, Obj.vcmFullScaleA, Obj.maGain, Obj.vcmGainTrim, Obj.wiLimit,
   Obj.wpEntryLimit, Obj.maWpLimit, Obj.shockLimitMv, Obj.shockHoldoffWedges, Obj.adjVerifyLimit, Obj.writePermit,
   Obj.wiPesCount, Obj.wiShockCount, Obj.abandonCount, Obj.servoCoeffPending, Obj.servoCoeffActive, Obj.syncTolerance,
   Obj.ldpcIterNormal, Obj.ldpcIterExt, Obj.recoveryRevLimit, Obj.misframeSyndrome, Obj.dataGuardAu, Obj.eqMu,
   Obj.eqAdaptEnable, Obj.offsetStep, Obj.writeDelayAu, Obj.sectorsRead, Obj.sectorsWritten, Obj.syncMissCount]

def objTable3 : List ObjDef :=
  [Obj.resyncMissCount, Obj.reframeCount, Obj.recoveredCount, Obj.unrecoveredCount, Obj.miscorrectCount, Obj.addressMismatchCount,
   Obj.meanIterations, Obj.eqTaps, Obj.recordingRegion, Obj.pclState, Obj.pclApplyNs, Obj.preampId,
   Obj.pclCrcErrors, Obj.pclNakCount, Obj.pclResetCount, Obj.preampStatus, Obj.heaterLeadWindows, Obj.ldpcBaseMatrix,
   Obj.recordingFormat, Obj.preampInit, Obj.assistMode, Obj.assistBudgetMw, Obj.assistShareA, Obj.assistThrottleScale,
   Obj.maxWriteHeads, Obj.preheatLeadAu, Obj.pdTolerance, Obj.modehopBurst, Obj.verifyIterLimit, Obj.budgetEffMw,
   Obj.verifyPending, Obj.assistHeadEnable, Obj.modeHopCount, Obj.unmonitoredCount, Obj.verifyMarkedCount, Obj.verifyRewriteCount,
   Obj.grantDeferCount, Obj.revokeCount, Obj.pdMean, Obj.assistPowerMw, Obj.assistTable, Obj.calCommand]

def objTable4 : List ObjDef :=
  [Obj.calResult, Obj.calReport, Obj.calDeadline, Obj.staleTempC, Obj.staleAgeH, Obj.staleMask,
   Obj.powerOnHours, Obj.recordState, Obj.channelMargin, Obj.eqMseDb, Obj.pes3sigma, Obj.eyeWidthAu,
   Obj.qualityWindowRevs, Obj.heaterBackoffRead, Obj.heaterBackoffWrite, Obj.assistTargetMargin, Obj.assistCodeMargin, Obj.maCalCounts,
   Obj.vcmXoverHz, Obj.holdupTestOhm, Obj.holdupTestDrop, Obj.holdupCUf, Obj.senseOffsets, Obj.calRecord,
   Obj.convZones, Obj.bandTracks, Obj.bandGuardTracks, Obj.zoneCapBlocks, Obj.defaultWidth, Obj.defaultHuskKib,
   Obj.defaultKeyDomain, Obj.convKeyDomain, Obj.unwrittenRead, Obj.maxOpen, Obj.maxWriting, Obj.framePagePoolMib,
   Obj.rewriteReserveBands, Obj.poolLowGroups, Obj.formatCommand, Obj.formatResult, Obj.openZones, Obj.writingZones]

def objTable5 : List ObjDef :=
  [Obj.numBands, Obj.convBands, Obj.freeBands, Obj.freeGroupsW12, Obj.exhaustionCount, Obj.mapMismatchCount,
   Obj.frameRewriteCount, Obj.formatSeq, Obj.writeFailed, Obj.defectList, Obj.chainDepth, Obj.lazy,
   Obj.niceLength, Obj.decompLaneLimit, Obj.encryptionRequired, Obj.keyTransportPubkey, Obj.logicalBytesIn, Obj.storedBytesOut,
   Obj.rawIncompressibleCount, Obj.rawChainShortCount, Obj.overflowCount, Obj.huskHeaderErrors, Obj.huskDataErrors, Obj.keyState,
   Obj.keyId, Obj.keyLoadNonce, Obj.writeCacheEnable, Obj.writeBackState, Obj.dirtyLimitMib, Obj.dirtyBudgetBytes,
   Obj.dirtyBytes, Obj.holdupVminMv, Obj.holdupReserveMj, Obj.energyPerByteNj, Obj.holdupVMv, Obj.holdupPfailMv,
   Obj.dmaDrainUs, Obj.journalTailMaxMib, Obj.journalFlushKib, Obj.journalRingMib, Obj.jseq, Obj.writeCacheMib]

def objTable6 : List ObjDef :=
  [Obj.compStagingMib, Obj.traceRingMib, Obj.readCacheMib, Obj.readWindowKib, Obj.acornAreaMib, Obj.acornState,
   Obj.acornLastSave, Obj.acornSaveCount, Obj.admissionWaits, Obj.dieReplayCount, Obj.dramInstalledMib, Obj.linkSpeedGts,
   Obj.linkWidth, Obj.arbBurst, Obj.maxTransferBlocks, Obj.ioQueuesCreated, Obj.ioCqsCreated, Obj.outstandingVerbs,
   Obj.frozenQueues, Obj.doorbellInvalidCount, Obj.fastPathCount, Obj.cqFullWaits, Obj.asnNext, Obj.vendor,
   Obj.part, Obj.serial, Obj.fwVersion, Obj.fwPatch, Obj.dies, Obj.dieMap,
   Obj.hdaSerial, Obj.deviceUuid, Obj.ianaEnterprise, Obj.deviceEid, Obj.managerEid, Obj.i3cDynAddr,
   Obj.ibiRetryLimit, Obj.responseHoldMs, Obj.domainSessionTimeoutS, Obj.unknownRatePerS, Obj.pecErrorCount, Obj.ibiLostCount]

def objTable7 : List ObjDef :=
  [Obj.ibiGiveupCount, Obj.untrustedRefusedCount, Obj.unknownDroppedCount, Obj.maxPacketPayload, Obj.restoreDefaults, Obj.restoreResult,
   Obj.restoreSkipped, Obj.rwrPending, Obj.scrubOnchipWords, Obj.scrubDramWords, Obj.ceLeakRevs, Obj.ceThreshold,
   Obj.scrubPassesOnchip, Obj.scrubPassesDram, Obj.poisonSeen, Obj.cqDropped, Obj.scrubRanges, Obj.lastUe,
   Obj.mapPrefetchNext, Obj.mapHits, Obj.mapMisses, Obj.mapSideHits, Obj.mapEvictHits, Obj.entryRefetch,
   Obj.entryRebuilt, Obj.entryLost, Obj.lockedWays, Obj.ceCount, Obj.ueCount, Obj.ceBucket,
   Obj.engineVersions, Obj.cleBankActive, Obj.engineResetCount, Obj.clauseOverrunCount, Obj.coreRestartCount, Obj.coreWatchdogMs,
   Obj.lastEngineFault, Obj.eventRouting, Obj.runningSlot, Obj.slotState0, Obj.slotState1, Obj.trialState]

def objTable8 : List ObjDef :=
  [Obj.confirmWindowS, Obj.confirmSoakS, Obj.confirmRemainingS, Obj.minSecurityVersion, Obj.lockHolder, Obj.fwLockIdleS,
   Obj.privPending, Obj.downloadNextOffset, Obj.fallbackCount, Obj.fwCommand, Obj.fwResult, Obj.fwBlockOffset,
   Obj.fwBlock, Obj.attestNonce, Obj.attestResult, Obj.attestReport, Obj.identityCertChain, Obj.keyTransportCert,
   Obj.thermalState, Obj.dieTemp, Obj.hdaTemp, Obj.headTemp, Obj.dieRate, Obj.hdaRate,
   Obj.suspectMask, Obj.thermallyBlind, Obj.hysteresisC, Obj.dwellRounds, Obj.rateWindowRounds, Obj.escalateRounds,
   Obj.suspectC, Obj.suspectRounds, Obj.blindMarginC, Obj.autoRestart, Obj.supplyTolPct, Obj.holdupDiv,
   Obj.thR25Ohm, Obj.thBeta, Obj.thPullupOhm, Obj.hkRound, Obj.thresholdC, Obj.dieRateWarn]

def objTable9 : List ObjDef :=
  [Obj.dieRateThrottle, Obj.hdaRateWarn, Obj.hdaRateThrottle, Obj.snapshotCommand, Obj.snapshotResult, Obj.snapshotSet,
   Obj.bwWindowUnit, Obj.bwWindow, Obj.traceK, Obj.traceSeed, Obj.traceMode, Obj.traceRecords,
   Obj.traceDropped, Obj.counterEvent, Obj.counterValue, Obj.eventLog, Obj.eventLogNextSeq, Obj.eventLogOverwritten,
   Obj.verbTimeoutMs, Obj.packageReset, Obj.dieReset, Obj.dieResetResult, Obj.dieState, Obj.isolationCause,
   Obj.dieStartLimitS, Obj.lastBootMs, Obj.hdaPowerTarget, Obj.hdaPowerState, Obj.ageLimitRevs, Obj.bemfDiv,
   Obj.isenseMvPerA, Obj.nandMts, Obj.straps, Obj.refclkPpm]

/-- Every entry of the dictionary. -/
def objTable : List ObjDef :=
  objTable0 ++ objTable1 ++ objTable2 ++ objTable3 ++ objTable4 ++ objTable5 ++ objTable6 ++ objTable7 ++ objTable8 ++ objTable9

end Sys2Proof.Machine
end

