-- ==== Sys2Proof/Machine/State.lean ====
section
/-! DEFINITION. The state of the block: the package-wide part the anchor die holds (01 R24), the eight die positions,
the queue of waiting commands, and what the block has sent out. The field comments are as in StateDie.lean. -/

namespace Sys2Proof.Machine

/-- Why a step stops with a fault. -/
inductive Fault where
  /-- A command names a die the part does not fit (00 R2, R13): raised by every die command. Safe: the hardware has no
  such die, so no command can reach it (log 5). -/
  | noSuchDie
deriving DecidableEq, Repr

/-- Why a step is refused. -/
inductive Refusal where
  /-- No meaning has been written for the command: raised only by its arm of exec. Safe. -/
  | notModelled (mnemonic : String)
deriving DecidableEq, Repr

/-- The three parts of the family (00 R2). -/
inductive Part where
  | kz6420 | kz6440 | kz6480
deriving DecidableEq, Repr, Inhabited

def Part.dies : Part → Nat
  | .kz6420 => 2
  | .kz6440 => 4
  | .kz6480 => 8

/-- The answer to the last register or object access (12 R377, 14 R431). -/
structure Reply where
  status : BitVec 16 := 0
  result : BitVec 64 := 0
  data : List Byte := []
deriving DecidableEq, Repr, Inhabited

/-- What the block sends to its surroundings, newest first in State.out. -/
inductive Out where
  /-- A completion entry: queue, index, the 16 bytes -/
  | cqe (cq index : Nat) (entry : BitVec 128)
  | msix (vector : Nat) (addr : BitVec 64) (data : BitVec 32)
  /-- Verb data to host memory -/
  | hostData (asn : Nat) (data : List Byte)
  /-- A frame on an actuator's VCM current link -/
  | vcm (d : DieId) (a : Act) (frame : BitVec 32)
  /-- A downstream frame of a preamplifier link: header, payload words, CRC-16 -/
  | pcl (d : DieId) (a : Act) (header : BitVec 32) (words : List (BitVec 16)) (crc : BitVec 16)
  /-- A fabric message: source, destination, opcode, OPERAND -/
  | fabric (src dst : DieId) (opcode : BitVec 8) (operand : BitVec 64)
  /-- A flit forwarded by an intermediate die on a module -/
  | flit (d : DieId) (m : Fin 4) (header : BitVec 128)
  /-- An MCTP message body to an endpoint -/
  | mctp (eid : BitVec 8) (body : List Byte)
  | ibi
  | ccc (data : List Byte)
deriving DecidableEq, Repr, Inhabited

/-- One part of a verb (01 R22). -/
structure VPart where
  die : DieId
  received : Bool := false
  /-- The part's effect has begun: a write's record is durable, a flush has marked its scope -/
  begun : Bool := false
  applied : Bool := false
  delivered : Bool := false
  dataSent : Bool := false
  status : BitVec 16 := 0
  result : BitVec 64 := 0
  lba : Option Nat := none
  head : Option HeadId := none
  step : Nat := 0
  chan : Option ChannelResult := none
  /-- Blocks or bytes the part returned -/
  data : List Byte := []
  detail : BitVec 32 := 0
deriving DecidableEq, Repr, Inhabited

/-- A completion slot (11 R339): one admitted verb. -/
structure Slot where
  asn : Nat
  sq : Nat
  entry : BitVec 512
  lists : List DescList
  src : List (BitVec 128)
  parts : List VPart
  /-- Status fixed by the checks of 13 R402 or found at admission; none while the verb runs -/
  fixed : Option (BitVec 16) := none
  aborted : Bool := false
  decided : Bool := false
  status : BitVec 16 := 0
  result : BitVec 64 := 0
  /-- First LBA as admitted (the assigned one for ZONE APPEND) -/
  lba : Nat := 0
  writeThrough : Bool := false
  /-- Bytes of each resource held -/
  window : Nat := 0
  cacheBytes : Nat := 0
  admitTime : Nat := 0
  attemptTime : Nat := 0
  traced : Bool := false
  fastPath : Bool := false
  /-- ABORT waits for this ASN's completion; FLUSH and others wait on earlier verbs -/
  waitsFor : Option Nat := none
  /-- No completion is posted (host-interface reset after admission, 12 R376) -/
  orphan : Bool := false
  /-- The write pointer before the verb, for COPY; the queue's tail at a QUEUE RESUME (12 R394, 13 R412) -/
  savedAwp : Nat := 0
  snapT : Option Nat := none
  /-- Package times of the trace stages 0 to 11 (19 R559) -/
  stages : List (Option Nat) := []
  angle : BitVec 49 := 0
deriving DecidableEq, Repr, Inhabited

inductive SqState where
  | running | frozen | resuming
deriving DecidableEq, Repr, Inhabited

/-- A submission queue (12 R380, R394). -/
structure Sq where
  size : Nat
  base : BitVec 64
  cq : Nat
  frozenModel : Bool
  state : SqState := .running
  head : Nat := 0
  tail : Nat := 0
  headWaiting : Bool := false
  attemptTime : Nat := 0
  deleting : Bool := false
  /-- The head entry waits for a segment draw of a zone: die, zone, bytes of room asked for; how a failed draw ends it
  (09 R284, 11 R340) -/
  drawWait : Option (DieId × Nat × Nat) := none
  drawFailed : Option (BitVec 16) := none
  /-- ASN before which verbs count as admitted before the freeze -/
  freezeAsn : Nat := 0
  /-- QUEUE RESUME in hand: its ASN, flush or not, entry or the tail as admitted -/
  resume : Option (Nat × Bool × Nat) := none
deriving DecidableEq, Repr, Inhabited

/-- A completion queue (12 R384, R395). -/
structure Cq where
  size : Nat
  base : BitVec 64
  vector : Nat
  ien : Bool
  aggCount : Nat
  aggTime : Nat
  head : Nat := 0
  tail : Nat := 0
  phase : Bool := true
  count : Nat := 0
  firstTime : Nat := 0
  /-- Completions held for a full queue, oldest first: ASN -/
  held : List Nat := []
deriving DecidableEq, Repr, Inhabited

/-- An MSI-X table entry (12 R377). Masked at reset. -/
structure Msix where
  addr : BitVec 64 := 0
  data : BitVec 32 := 0
  masked : Bool := true
deriving DecidableEq, Repr, Inhabited

/-- An error log entry (13 R418). -/
structure ErrEntry where
  count : Nat
  asn : Nat
  sq : Nat
  cid : BitVec 16
  status : BitVec 16
  die : BitVec 8
  head : BitVec 8
  lba : BitVec 64
  time : Nat
  stamp : BitVec 49
  track : BitVec 32
  sector : BitVec 16
  step : BitVec 8
  chan : BitVec 8
  detail : BitVec 32
deriving DecidableEq, Repr, Inhabited

/-- Slot states of the firmware (17 R515). -/
inductive FwSlot where
  | empty | downloading | verified | sprout | confirmed | previous | interrupted | failed
deriving DecidableEq, Repr, Inhabited

inductive Trial where
  | none | activating | sprout | fallingBack
deriving DecidableEq, Repr, Inhabited

/-- Firmware, lock and attestation (17). -/
structure FwState where
  /-- SLOT_STATE of the slot record [17 R515, R529; 2 × 3 bits; From record, DC 8: CONFIRMED, EMPTY] -/
  slot0 : FwSlot := .confirmed
  slot1 : FwSlot := .empty
  /-- TRIAL_STATE [17 R515; 2 bits; From record, DC 8: NONE] -/
  trial : Trial := .none
  /-- FLAGS TRIAL_BOOT, LIVE_BACK, PRIV_PENDING [17 R515; 3 bits; From record, DC 8: 0] -/
  trialBoot : Bool := false
  liveBack : Bool := false
  privPending : Bool := false
  /-- SEQ of the slot record [17 R515; 32 bits; DC 8: 0] -/
  seq : BitVec 32 := 0
  /-- MIN_SECURITY_VERSION [17 R511, R530; 32 bits; From record, DC 8: 0] -/
  minSecurity : BitVec 32 := 0
  /-- RUNNING_SLOT [17 R530; 1 bit; From boot, DC 8: 0] -/
  running : Bool := false
  /-- NOR flash blocks, keyed slot × 2,048 + block [17 R508; 2 × 128 MiB; DC 8] -/
  nor : KMap (List Byte) := {}
  /-- DOWNLOAD_NEXT_OFFSET [17 R509, R530; 32 bits; 0] -/
  nextOffset : Nat := 0
  /-- Update session lock: holder and package time ns of its last use [17 R514, R529; 2 bits; free] -/
  lock : Option (Source × Nat) := none
  /-- FW_STATUS CONFIRMED, FALLBACK, DISCARDED, BOOT_FALLBACK, RW1C [17 R529; 4 bits; 0] -/
  confirmedFlag : Bool := false
  fallbackFlag : Bool := false
  discardedFlag : Bool := false
  bootFallbackFlag : Bool := false
  /-- Activation in progress: slot, live, falling back, steps done (class, die) [17 R519; internal; none] -/
  activating : Option (Bool × Bool × Bool × Nat) := none
  /-- ASN of the verb, or source of the object command, that waits for it [17 R519, R522; internal; none] -/
  waiter : Option Nat := none
  waiterObj : Bool := false
  /-- Start of the confirmation window and of the unbroken run of clean checks, ns [17 R521; internal; none] -/
  windowStart : Option Nat := none
  cleanSince : Option Nat := none
  /-- A check of the second or fourth item of R521 has failed [17 R522; 1 bit; 0] -/
  checkFailed : Bool := false
  /-- Dies whose spindle was AT_SPEED at the activation [17 R521; list; none] -/
  spun : List DieId := []
  /-- Slot whose boot stage and security monitor run [17 R516; 1 bit; From boot, DC 8: 0] -/
  bootSlot : Bool := false
  /-- Cause of the last fallback [17 R522; internal; 0, DC 6] -/
  cause : Nat := 0
  /-- A reset activation's package warm reset is due at this package time ns [17 R518; internal; none] -/
  resetAt : Option Nat := none
  /-- Nonce of the report in hand and the dies whose digests have arrived [17 R527; internal; none] -/
  nonce : Option (List Byte) := none
  /-- Boot image blocks loaded per die × 8 + unit: bytes so far [17 R516; internal; none] -/
  loaded : KMap Nat := {}
deriving DecidableEq, Repr, Inhabited

/-- A DOMAIN write session (14 R442). -/
structure Session where
  src : Source
  key : Nat
  die : DieId
  data : List Byte
  time : Nat
deriving DecidableEq, Repr, Inhabited

/-- A request of an endpoint whose answer, once formed, waits for the answers to its earlier ones (14 R450). -/
structure LinkReq where
  id : Nat
  eid : BitVec 8
  tag : BitVec 8
  /-- OP of the request -/
  op : BitVec 8
  answer : Option (List Byte) := none
deriving DecidableEq, Repr, Inhabited

/-- The management link (14 R447 to R451). -/
structure MgmtState where
  /-- I3C_DYN_ADDR [14 R447, R454; 7 bits; 0 unassigned] -/
  dynAddr : BitVec 7 := 0
  /-- DEVICE_EID [14 R448, R454; 8 bits; 0] -/
  eid : BitVec 8 := 0
  /-- MRL and MWL [14 R447, R448; 16 bits each; 64 + binding header, DC 16] -/
  mrl : BitVec 16 := 69
  mwl : BitVec 16 := 69
  /-- IBIs enabled by ENEC [14 R447, R451; 1 bit; enabled, DC 16] -/
  ibiEnabled : Bool := true
  /-- Message under reassembly: endpoint, tag, next sequence, bytes [14 R448; buffer; none] -/
  assembling : Option (BitVec 8 × BitVec 3 × BitVec 2 × List Byte) := none
  /-- Last complete message: endpoint and body [14 R448; buffer; none] -/
  message : Option (BitVec 8 × List Byte) := none
  /-- Responses and alerts held: endpoint, body, time held (ns) [14 R450; 8 messages; none] -/
  held : List (BitVec 8 × List Byte × Nat) := []
  /-- Failed IBI attempts of the first held message, wait in progress (µs), given up [14 R451; internal; 0] -/
  attempts : Nat := 0
  waitUs : Option Nat := none
  gaveUp : Bool := false
  /-- Requests accepted and not yet answered, oldest first, and the number of the next one [14 R450, R452; list; none] -/
  reqs : List LinkReq := []
  nextReq : Nat := 0
  /-- Messages of strangers in the present second and that second [14 R452; internal; 0] -/
  strangers : Nat := 0
  second : Nat := 0
deriving DecidableEq, Repr, Inhabited

/-- A trace record (19 R560). -/
structure TraceRec where
  asn : Nat
  stage0 : Nat
  opcode : BitVec 8
  flags : BitVec 8
  sq : Nat
  cid : BitVec 16
  status : BitVec 16
  lba : Nat
  nlb : Nat
  dieMask : BitVec 8
  head : BitVec 8
  ladder : BitVec 8
  angle : BitVec 48
  stages : List (BitVec 32)
  seq : Nat
deriving DecidableEq, Repr, Inhabited

/-- A coalescing count of an event source (16 R502): occurrences and time of the first, ns. -/
structure Coal where
  count : Nat
  first : Nat
deriving DecidableEq, Repr, Inhabited

/-- The object window registers (14 R446). -/
structure WindowRegs where
  /-- OBJ_ADDRESS [14 R446; 32 bits; 0] -/
  index : BitVec 16 := 0
  sub : BitVec 8 := 0
  inst : BitVec 8 := 0
  /-- OBJ_CONTROL WRITE, LAST [14 R446; 2 bits; 0] -/
  write : Bool := false
  last : Bool := false
  /-- OBJ_STATUS BUSY, DONE, STATUS [14 R446; 1, 1, 16 bits; 0] -/
  busy : Bool := false
  done : Bool := false
  status : BitVec 16 := 0
  /-- OBJ_SEG_OFFSET, OBJ_LENGTH, OBJ_RESULT [14 R446; 32, 17, 64 bits; 0] -/
  segOff : BitVec 32 := 0
  len : BitVec 17 := 0
  result : BitVec 64 := 0
  /-- Data buffer [14 R446; 64 KiB; empty, DC 6] -/
  buffer : List Byte := []
  /-- Outcome of the access in progress once it has been applied: STATUS, RESULT, data [14 R446; internal; none] -/
  answer : Option (BitVec 16 × Nat × List Byte) := none
deriving DecidableEq, Repr, Inhabited

/-- Power-up and host-interface state (12 R378, 21 R619). -/
structure HostRegs where
  /-- PORST_N is held low [21 R599, R600; pin; 0, DC 7] -/
  inReset : Bool := false
  /-- STRAP_I3C_SA and STRAP_BOOT as sampled [21 R619; 2 × 2 bits; Sampled, DC 7: 0] -/
  strapSa : BitVec 2 := 0
  strapBoot : BitVec 2 := 0
  /-- PKG_CONTROL.ENABLE, SHUTDOWN [12 R378; 1, 2 bits; 0] -/
  enable : Bool := false
  shutdown : BitVec 2 := 0
  /-- PKG_STATUS ADMIN_READY, READY, FATAL, SHUTDOWN_STATUS, DOORBELL_ERR [12 R378; 1, 1, 1, 2, 1 bits; 0] -/
  adminReady : Bool := false
  ready : Bool := false
  fatal : Bool := false
  shutdownStatus : BitVec 2 := 0
  doorbellErr : Bool := false
  /-- Boot step 8 has been reached [20 R573, R574; 1 bit; 0] -/
  bootReady : Bool := false
  /-- ADMIN_QUEUE_ATTR ASQ_SIZE, ACQ_SIZE; ASQ_BASE, ACQ_BASE [12 R378; 13, 13, 64, 64 bits; 0] -/
  asqSize : BitVec 13 := 0
  acqSize : BitVec 13 := 0
  asqBase : BitVec 64 := 0
  acqBase : BitVec 64 := 0
  /-- Fetching stopped by D3hot [12 R376; 1 bit; 0] -/
  d3hot : Bool := false
  /-- PCIe link: rate in GT/s, lanes, REFCLK_PPM [12 R399, 21 R620; 8, 8, 16 bits; 0] -/
  gts : Nat := 0
  width : Nat := 0
  refclkPpm : BitVec 16 := 0
deriving DecidableEq, Repr, Inhabited

/-- The block. -/
structure State where
  /-- The part fitted [00 R2; one of three; DC 1: KZ-6480] -/
  part : Part
  dies : Vector Die 8
  /-- Commands waiting, first in first out [the model's queue; empty] -/
  pending : List Instr
  /-- What the block has sent, newest first [the model's log of outputs; empty] -/
  out : List Out
  /-- Answer to the last register or object access [the model's; DC 18] -/
  reply : Reply
  /-- Number of the next free value [the model's; DC 21] -/
  fresh : Nat
  host : HostRegs
  /-- Submission queues 0 to 511 [12 R380; table; none] -/
  sqs : KMap Sq
  /-- Completion queues 0 to 511 [12 R380; table; none] -/
  cqs : KMap Cq
  /-- Completion slots held, by ASN [11 R339; pool of 65,536; none] -/
  slots : KMap Slot
  /-- ASN_NEXT [01 R24, 12 R399; 64 bits; 0] -/
  asn : Nat
  /-- MSI-X table; an unlisted vector is masked and zero [12 R377; 2,048 × 16 B; masked] -/
  msix : KMap Msix
  /-- MSI-X pending bits [12 R377, R395; 2,048 bits; 0] -/
  pba : KMap Bool
  win : WindowRegs
  /-- Diagnostic accesses sent and not answered: die, offset, size, write value [01 R24, 11 R344; one per die; none] -/
  diag : KMap (Nat × AccessSize × Option (BitVec 64))
  /-- Scalar object values and counters that differ from their Default, keyed (index, sub, instance) [14 R431; 412 rows; Default] -/
  objs : KMap Int
  /-- DOMAIN and STR values that differ from their default [14 R433, R441; default] -/
  doms : KMap (List Byte)
  /-- RWS and RWR values saved in MRAM [14 R435; two-copy records; none, DC 9] -/
  saved : KMap (List Byte)
  /-- RWR values waiting for a reset [14 R436; table; none] -/
  rwr : KMap (List Byte)
  /-- DOMAIN write sessions [14 R442; 4 per die; none] -/
  sessions : List Session
  /-- EVT_ROUTE; an unlisted source is 0 [16 R501; 1,024 × 64 bits; 0] -/
  evtRoute : KMap (BitVec 64)
  /-- EVT_PENDING flags [16 R501; 1,024 bits; 0] -/
  evtPending : KMap Bool
  /-- EVT_COUNT [16 R501; 1,024 × 32 bits; 0] -/
  evtCount : KMap Nat
  /-- Coalescing counts [16 R502; internal; none] -/
  coal : KMap Coal
  /-- Sources whose alert waits for a message [16 R502, 14 R452; list; none] -/
  alerts : List Nat
  /-- Error log, newest first, and ERROR_COUNT of the newest entry [13 R418; 256 entries; empty] -/
  errors : List ErrEntry
  errorCount : Nat
  /-- Trace ring, newest first; LFSR state; records written; ring full seen [19 R558, R561; empty, seed] -/
  trace : List TraceRec
  lfsr : BitVec 32
  traceFullSeen : Bool
  /-- Snapshot window: SNAP_SEQ, T, ACTION, blocks by die [19 R557; window; 0] -/
  snapSeq : Nat
  snapT : Nat
  snapAction : BitVec 8
  snapBlocks : KMap SnapBlock
  /-- Snapshot requests in order: T, action, waiting verb (none: the object command); blocks gathered, keyed T × 8 + die [19 R554, R555; queue; none] -/
  snapReqs : List (Nat × BitVec 8 × Option Nat)
  snapGather : KMap (Option SnapBlock)
  fw : FwState
  mgmt : MgmtState
  /-- Spin-up slots held, and requests in order of arrival [03 R104; lists; none] -/
  spinHeld : List DieId
  spinReq : List DieId
  /-- Fabric links taken down: (die, module) of either end [01 R40; list; none] -/
  linksDown : List (DieId × Fin 4)
  /-- Package warm reset in progress: dies that still destage; whether a save preceded [20 R571; internal; none] -/
  warm : Option (List DieId)
  /-- Start of the last reset and LAST_BOOT_MS [20 R590; ns; 0] -/
  resetStart : Nat
  /-- Longest-waiting head entries: queue and package time of its first refused attempt [11 R341; list; none] -/
  waiters : List (Nat × Nat)
  /-- Queue that freed resources are offered to first [11 R341; internal; none] -/
  offer : Option Nat
  /-- RESTORE_RESULT is PENDING while a restore runs (never at a step's end) [14 R445; 1 bit; 0] -/
  restoring : Bool
deriving DecidableEq, Repr

/-- Wedge k of a uniform table of W wedges (02 R54). -/
def uniformEntry (w k : Nat) : Nat := (2 * k * 16777216 + w) / (2 * w)

/-- The factory coefficient set: equal weights, loops that put out nothing (log 10). -/
def factoryCoeff : CoeffSet :=
  { weights := List.replicate 12 65535, loops := List.replicate 13 { uLimit := 32767 } }

/-- A die at cold reset with its factory tables (log 10). -/
def Die.cold : Die :=
  { clock := { table := (List.range 600).map (uniformEntry 600) }
    actA := { bank0 := factoryCoeff, bank1 := factoryCoeff }
    actB := { bank0 := factoryCoeff, bank1 := factoryCoeff } }

/-- The block right after cold reset: every register at its Reset value, memory fill under way, clocks COASTING at
stamp 0, spindles STOPPED, actuators PARKED (20 R570). -/
def State.reset : State where
  part := .kz6480
  dies := Vector.replicate 8 Die.cold
  pending := []
  out := []
  reply := {}
  fresh := 0
  host := {}
  sqs := {}
  cqs := {}
  slots := {}
  asn := 0
  msix := {}
  pba := {}
  win := {}
  diag := {}
  objs := {}
  doms := {}
  saved := {}
  rwr := {}
  sessions := []
  evtRoute := {}
  evtPending := {}
  evtCount := {}
  coal := {}
  alerts := []
  errors := []
  errorCount := 0
  trace := []
  lfsr := 0xACE1
  traceFullSeen := false
  snapSeq := 0
  snapT := 0
  snapAction := 0
  snapBlocks := {}
  snapReqs := []
  snapGather := {}
  fw := {}
  mgmt := {}
  spinHeld := []
  spinReq := []
  linksDown := []
  warm := none
  resetStart := 0
  waiters := []
  offer := none
  restoring := false

end Sys2Proof.Machine
end

