-- ==== Sys2Proof/Machine/Ops.lean ====
section
/-! DEFINITION. The named operations over the state: dies, heads, actuators, objects, counters, events, interrupts
and outputs. -/

namespace Sys2Proof.Machine

abbrev Res := Host.Outcome State Fault Refusal

/-! ### Dies, heads, actuators -/

def State.die (s : State) (d : DieId) : Die := s.dies[d]

def State.setDie (s : State) (d : DieId) (x : Die) : State := { s with dies := s.dies.set d x }

def State.modDie (s : State) (d : DieId) (f : Die → Die) : State := s.setDie d (f (s.die d))

/-- Die d is fitted in this part (00 R2, R14). -/
def State.fitted (s : State) (d : DieId) : Bool := decide (d.val < s.part.dies)

/-- The fitted dies in number order. -/
def State.fittedDies (s : State) : List DieId := (List.finRange 8).filter s.fitted

/-- A command of die d: its effect when the die is fitted (log 5). -/
def onDie (d : DieId) (s : State) (f : State → State) : Res :=
  if s.fitted d then .next (f s) else .fault .noSuchDie

/-- The effect when a condition holds; nothing otherwise (log 3). -/
def when (c : Bool) (f : State → State) (s : State) : State := if c then f s else s

def Die.head (x : Die) (h : HeadId) : Head := x.heads[h]

def Die.setHead (x : Die) (h : HeadId) (v : Head) : Die := { x with heads := x.heads.set h v }

def Die.modHead (x : Die) (h : HeadId) (f : Head → Head) : Die := x.setHead h (f (x.head h))

def Die.act (x : Die) : Act → Actuator
  | .A => x.actA
  | .B => x.actB

def Die.setAct (x : Die) : Act → Actuator → Die
  | .A, v => { x with actA := v }
  | .B, v => { x with actB := v }

def Die.modAct (x : Die) (a : Act) (f : Actuator → Actuator) : Die := x.setAct a (f (x.act a))

def State.modHead (s : State) (d : DieId) (h : HeadId) (f : Head → Head) : State := s.modDie d (·.modHead h f)

def State.modAct (s : State) (d : DieId) (a : Act) (f : Actuator → Actuator) : State := s.modDie d (·.modAct a f)

def State.modData (s : State) (d : DieId) (f : DieData → DieData) : State :=
  s.modDie d fun x => { x with data := f x.data }

def State.modClock (s : State) (d : DieId) (f : AngleClock → AngleClock) : State :=
  s.modDie d fun x => { x with clock := f x.clock }

def State.modSpin (s : State) (d : DieId) (f : Spindle → Spindle) : State :=
  s.modDie d fun x => { x with spin := f x.spin }

def State.modMem (s : State) (d : DieId) (f : MemState → MemState) : State :=
  s.modDie d fun x => { x with mem := f x.mem }

def State.modEng (s : State) (d : DieId) (f : EngState → EngState) : State :=
  s.modDie d fun x => { x with eng := f x.eng }

def State.modHk (s : State) (d : DieId) (f : HkState → HkState) : State :=
  s.modDie d fun x => { x with hk := f x.hk }

def State.modObs (s : State) (d : DieId) (f : ObsState → ObsState) : State :=
  s.modDie d fun x => { x with obs := f x.obs }

/-- Every head of actuator a. -/
def headsOf (a : Act) : List HeadId := (List.finRange 24).filter fun h => decide (h.act = a)

def allHeads : List HeadId := List.finRange 24

def Act.other : Act → Act
  | .A => .B
  | .B => .A

/-! ### Sending -/

def State.emit (s : State) (o : Out) : State := { s with out := o :: s.out }

/-- The next free value's number (log 21). -/
def State.useFresh (s : State) : State := { s with fresh := s.fresh + 1 }

/-! ### Time and angle -/

/-- Local package time of a die in ns (02 R69). -/
def State.timeNs (s : State) (d : DieId) : Nat := (s.die d).clock.time4 / 4 % 2 ^ 64

/-- Package time: the anchor's count (01 R24). -/
def State.now (s : State) : Nat := s.timeNs 0

/-- The angle stamp: bits [47:24] revolution, [23:0] angle (00 R17, 02 R50). -/
def AngleClock.stamp (c : AngleClock) : BitVec 48 := (c.acc >>> 32).setWidth 48

def AngleClock.angle (c : AngleClock) : Nat := c.stamp.toNat % 16777216

/-- Revolution count of the stamp. -/
def AngleClock.rev (c : AngleClock) : Nat := c.stamp.toNat / 16777216

def AngleClock.coasting (c : AngleClock) : Bool := c.state == .coasting

/-- Stamp and coasting bit, as a coherent read gives them (02 R63, R76). -/
def AngleClock.stamped (c : AngleClock) : BitVec 49 :=
  (c.stamp.setWidth 49) ||| (if c.coasting then 1 <<< 48 else 0)

/-- TIME_ALIGNED: set on die 0 once its reset has ended, else per 02 R71. -/
def State.aligned (s : State) (d : DieId) : Bool := d.val == 0 || (s.die d).clock.timeAligned

/-- The nearest whole number; a half goes as Config.tieUp says (log 14). -/
def roundNear (x : Rat) : Int :=
  let f := x - x.floor
  if f < 1 / 2 then x.floor else if 1 / 2 < f then x.floor + 1 else if Config.tieUp x then x.floor + 1 else x.floor

def ratAbs (x : Rat) : Rat := if x < 0 then -x else x

def ratClamp (m x : Rat) : Rat := max (-m) (min m x)

/-! ### Instances and objects -/

/-- Instance bytes (00 R13). -/
def dieInst (d : DieId) : Nat := d.val * 32 + 31

def headInst (d : DieId) (h : HeadId) : Nat := d.val * 32 + h.val

def actInst (d : DieId) : Act → Nat
  | .A => d.val * 32 + 24
  | .B => d.val * 32 + 25

def objKey (index sub inst : Nat) : Nat := (index * 256 + sub) * 256 + inst

/-- Default deadlines of the calibration kinds 1 to 9 (08 R237). -/
def calDeadlineDefault : Nat → Int
  | 1 => 1600
  | 2 => 800
  | 3 => 1200
  | 4 => 400
  | 5 => 200
  | 6 => 200
  | 7 => 400
  | 8 => 64
  | _ => 2400

/-- Default thresholds, subindex 4c + l + 1 (18 R538). -/
def thresholdDefault (ss : Nat) : Int :=
  [0, 95, 100, 110, 120, 100, 110, 120, 125, 55, 60, 65, 70, 70, 75, 80, 85].getD ss 0

/-- An entry's default at a subindex (14 R437). -/
def ObjDef.default (o : ObjDef) (sub : Nat) : Int :=
  if o.index = 0x3401 then calDeadlineDefault sub
  else if o.index = 0x4001 then thresholdDefault sub
  else o.dflt

/-- The stored value of a scalar entry at a subindex and instance. -/
def State.getSub (s : State) (o : ObjDef) (sub inst : Nat) : Int :=
  s.objs.getD (objKey o.index sub inst) (o.default sub)

def State.putSub (s : State) (o : ObjDef) (sub inst : Nat) (v : Int) : State :=
  if v = o.default sub then { s with objs := s.objs.erase (objKey o.index sub inst) }
  else { s with objs := s.objs.insert (objKey o.index sub inst) v }

def State.get (s : State) (o : ObjDef) (inst : Nat) : Int := s.getSub o o.sub inst

def State.put (s : State) (o : ObjDef) (inst : Nat) (v : Int) : State := s.putSub o o.sub inst v

/-- The value as a count. -/
def State.getN (s : State) (o : ObjDef) (inst : Nat) : Nat := (s.get o inst).toNat

/-- A Q16.16 value (14 R433). -/
def State.getQ (s : State) (o : ObjDef) (inst : Nat) : Rat := (s.get o inst : Rat) / 65536

/-- A BOOL value. -/
def State.getB (s : State) (o : ObjDef) (inst : Nat) : Bool := s.get o inst != 0

/-- The greatest value of a counter's type (14 R433). -/
def ObjType.top : ObjType → Int
  | .bool => 1
  | .u8 => 255
  | .u16 => 65535
  | .u32 => 4294967295
  | .u64 => 18446744073709551615
  | .i16 => 32767
  | .i32 => 2147483647
  | .q16 => 2147483647
  | .domain => 0
  | .str => 0

/-- Add to a counter object, which saturates. -/
def State.bumpSub (s : State) (o : ObjDef) (sub inst : Nat) (k : Nat := 1) : State :=
  s.putSub o sub inst (min o.typ.top (s.getSub o sub inst + k))

def State.bump (s : State) (o : ObjDef) (inst : Nat) (k : Nat := 1) : State := s.bumpSub o o.sub inst k

/-- A DOMAIN or STR value, `dflt` where nothing is stored. -/
def State.dom (s : State) (o : ObjDef) (sub inst : Nat) (dflt : List Byte) : List Byte :=
  s.doms.getD (objKey o.index sub inst) dflt

def State.putDom (s : State) (o : ObjDef) (sub inst : Nat) (v : List Byte) : State :=
  { s with doms := s.doms.insert (objKey o.index sub inst) v }

/-- MRAM record of an object value: eight bytes of a scalar, the bytes of a DOMAIN (14 R435). -/
def State.save (s : State) (o : ObjDef) (sub inst : Nat) (v : List Byte) : State :=
  { s with saved := s.saved.insert (objKey o.index sub inst) v }

/-- A scalar's bytes, little-endian two's complement (14 R433). -/
def intBytes (n : Nat) (v : Int) : List Byte := leBytes n (v % (2 ^ (8 * n) : Nat)).toNat

def ObjType.size : ObjType → Nat
  | .bool | .u8 => 1
  | .u16 | .i16 => 2
  | .u32 | .i32 | .q16 => 4
  | .u64 => 8
  | .domain | .str => 0

def ObjType.signed : ObjType → Bool
  | .i16 | .i32 | .q16 => true
  | _ => false

/-- The number that a scalar's bytes spell. -/
def ObjType.decode (t : ObjType) (bs : List Byte) : Int :=
  let n : Int := ofLeBytes bs
  if t.signed && decide ((2 ^ (8 * t.size - 1) : Nat) ≤ n) then n - (2 ^ (8 * t.size) : Nat) else n

/-! ### Interrupts (12 R395) -/

/-- A message for an MSI-X vector: sent, or left pending while the vector is masked (12 R395). -/
def State.vector (s : State) (v : Nat) : State :=
  let e := s.msix.getD v {}
  if e.masked then { s with pba := s.pba.insert v true }
  else s.emit (.msix v e.addr e.data)

/-! ### Event routing (16 R501, R502) -/

/-- Fields of EVT_ROUTE (16 R501). -/
def routeTarget (r : BitVec 64) : Nat := r.toNat % 4

def routeVector (r : BitVec 64) : Nat := r.toNat / 4 % 2048

def routeCoal (r : BitVec 64) : Nat := r.toNat / 2 ^ 16 % 256

def routeTime (r : BitVec 64) : Nat := r.toNat / 2 ^ 24 % 1024

/-- Insert into a rising list of numbers without repeats. -/
def insertNat (n : Nat) : List Nat → List Nat
  | [] => [n]
  | m :: r => if n < m then n :: m :: r else if n = m then m :: r else m :: insertNat n r

/-- The message a source's coalescing has come to: MSI-X, or an alert for the manager (16 R502). -/
def State.evtSend (s : State) (src : Nat) : State :=
  let r := s.evtRoute.getD src 0
  let s := { s with coal := s.coal.erase src }
  if routeTarget r = 1 then s.vector (routeVector r)
  else if routeTarget r = 2 then { s with alerts := insertNat src s.alerts }
  else s

/-- An occurrence reaches the anchor router: flag, count, coalescing (16 R501, R502). -/
def State.route (s : State) (src : Nat) : State :=
  let s := { s with
    evtPending := s.evtPending.insert src true
    evtCount := s.evtCount.insert src (min 4294967295 (s.evtCount.getD src 0 + 1)) }
  let r := s.evtRoute.getD src 0
  if routeTarget r = 1 ∨ routeTarget r = 2 then
    let c := s.coal.getD src ⟨0, s.now⟩
    if c.count + 1 > routeCoal r ∨ routeTime r = 0 then s.evtSend src
    else { s with coal := s.coal.insert src ⟨c.count + 1, c.first⟩ }
  else s

/-! ### The event log and counters (19) -/

/-- Values packed little-endian from byte 0, each with its width in bytes (19 R621). -/
def packVals : List (Nat × Int) → Nat
  | [] => 0
  | (w, v) :: r => (v % (2 ^ (8 * w) : Nat)).toNat + 2 ^ (8 * w) * packVals r

/-- Append a record to die d's event log (19 R563, R564). `src` is the source number 128·d + n. -/
def State.logEvent (s : State) (d : DieId) (src : Nat) (k : EventKind) (data : List (Nat × Int)) : State :=
  let x := s.die d
  let r : EvRec :=
    { time := s.timeNs d
      stamp := x.clock.stamp
      source := src
      code := src % 128 * 256 + k.pos
      severity := k.severity
      coasting := x.clock.coasting
      unaligned := !(s.aligned d)
      seq := x.obs.nextSeq
      data := BitVec.ofNat 64 (packVals data) }
  let full := decide (4096 ≤ x.obs.log.length)
  let s := s.modObs d fun o => { o with log := (r :: o.log).take 4096, nextSeq := (o.nextSeq + 1) % 2 ^ 32 }
  if full then s.bump Obj.eventLogOverwritten (dieInst d) else s

/-- One counter after k occurrences of event e: the counter, and whether it wrapped (19 R548, R550). -/
def Cnt.count (c : Cnt) (e k : Nat) : Cnt × Bool :=
  if c.event.toNat = e ∧ e ≠ 0 then
    let n := c.value.toNat + k
    if 2 ^ 48 ≤ n then ({ c with value := BitVec.ofNat 48 n, ovf := true }, c.ovfEvent)
    else ({ c with value := BitVec.ofNat 48 n }, false)
  else (c, false)

/-- Count k occurrences of event number e on die d unless frozen (19 R548, R556); the numbers of the counters whose
wrap raises COUNTER_OVERFLOW. -/
def State.tally (s : State) (d : DieId) (e k : Nat) : State × List Nat :=
  let o := (s.die d).obs
  if o.frozen then (s, [])
  else
    let r := o.cnts.map (·.count e k)
    (s.modObs d fun o => { o with cnts := r.map Prod.fst },
     (List.range r.length).filter fun i => (r.getD i ({}, false)).2)

/-- Whether die d is isolated (20 R583). -/
def State.isolated (s : State) (d : DieId) : Bool := (s.die d).life == .isolated

/-- Slots 119 to 122 are raised by the anchor's own logic (16 R499). -/
def anchorSlot (n : Nat) : Bool := decide (119 ≤ n ∧ n ≤ 122)

/-- An occurrence of source n of die d, recorded by the die that raises it: its log, its counters, and the router at
once on die 0 or by an event forward message (16 R500, 19 R563). `fuel` bounds the counters that may wrap in turn
(19 R550: at most 16). -/
def State.raiseFuel (s : State) : Nat → DieId → Nat → EventKind → List (Nat × Int) → State
  | 0, _, _, _, _ => s
  | fuel + 1, d, n, k, data =>
    let src := 128 * d.val + n
    let by_ : DieId := if n = 119 then 0 else d
    if s.isolated d && !(anchorSlot n) then s
    else
      let s := if s.isolated by_ then s else s.logEvent by_ src k data
      let s := if by_.val = 0 then s.route src
        else s.modObs by_ fun o => { o with evtOut := o.evtOut ++ [src] }
      let r := s.tally by_ (0x100 + n) 1
      r.2.foldl (fun s i => s.raiseFuel fuel by_ 48 Ev.counterOverflow [(4, (i : Int))]) r.1

/-- Raise an event of a die's own source (16 R498). -/
def State.raise (s : State) (d : DieId) (k : EventKind) (data : List (Nat × Int) := []) : State :=
  s.raiseFuel 18 d k.src k data

/-- Raise an event of a head's source. -/
def State.raiseHead (s : State) (d : DieId) (h : HeadId) (k : EventKind) (data : List (Nat × Int) := []) : State :=
  s.raiseFuel 18 d h.val k data

/-- Raise an event of an actuator's source. -/
def State.raiseAct (s : State) (d : DieId) (a : Act) (k : EventKind) (data : List (Nat × Int) := []) : State :=
  s.raiseFuel 18 d (match a with | .A => 24 | .B => 25) k data

/-- Raise an event of module m's slot. -/
def State.raiseModule (s : State) (d : DieId) (m : Fin 4) (k : EventKind) (data : List (Nat × Int) := []) : State :=
  s.raiseFuel 18 d (112 + m.val) k data

/-- Count occurrences of an event number of 19 R549. -/
def State.count (s : State) (d : DieId) (e : Nat) (k : Nat := 1) : State :=
  let r := s.tally d e k
  r.2.foldl (fun s i => s.raise d Ev.counterOverflow [(4, (i : Int))]) r.1

/-- Bytes across a monitor's port (19 R552), unless frozen. -/
def State.monitor (s : State) (d : DieId) (p bytes : Nat) : State :=
  s.modObs d fun o =>
    if o.frozen then o else { o with mons := o.mons.modify p fun m => { m with bytes := m.bytes + bytes } }

/-- Send a fabric message; one that stays inside its die is handed over (01 R23, R35). -/
def State.send (s : State) (src dst : DieId) (op : BitVec 8) (operand : Nat) : State :=
  if src = dst then s else s.emit (.fabric src dst op (BitVec.ofNat 64 operand))

end Sys2Proof.Machine
end

