-- ==== Sys2Proof/Machine/Flags.lean ====
section
/-! DEFINITION. Check codes: the CRCs of the spec. -/

namespace Sys2Proof.Machine

/-- The low `n` bits of `v`, most significant first. -/
def bitsMsb : Nat → Nat → List Bool
  | 0, _ => []
  | n + 1, v => (v / 2 ^ n % 2 == 1) :: bitsMsb n v

/-- One bit into a register of `w` bits, most significant bit first. -/
def crcBit (w poly r : Nat) (b : Bool) : Nat :=
  let top := r / 2 ^ (w - 1) % 2 == 1
  let r := r * 2 % 2 ^ w
  if top != b then r ^^^ poly else r

def crcMsb (w poly init : Nat) (bits : List Bool) : Nat := bits.foldl (crcBit w poly) init

/-- CRC-8 of a VCM frame, x^8 + x^2 + x + 1, over bits [31:8] (05 R151). -/
def crc8 (v : Nat) : Nat := crcMsb 8 0x07 0 (bitsMsb 24 v)

/-- CRC-4 of an RRO field, x^4 + x + 1, over bits [15:4] (04 R113). -/
def crc4 (v : Nat) : Nat := crcMsb 4 0x3 0 (bitsMsb 12 v)

/-- CRC-16, x^16 + x^12 + x^5 + 1, initial 0xFFFF (06 R202, 09 R292). -/
def crc16 (bits : List Bool) : Nat := crcMsb 16 0x1021 0xFFFF bits

/-- CRC-16 of a map entry's data bits [111:0], byte 0 first (09 R292). -/
def entryCrc (v : BitVec 112) : Nat := crc16 ((leBytes 14 v.toNat).flatMap fun b => bitsMsb 8 b.toNat)

/-- Eight bits of a reflected CRC-32C register. -/
def crc32cBits : Nat → Nat → Nat
  | 0, r => r
  | n + 1, r => crc32cBits n (if r % 2 = 1 then (r / 2) ^^^ 0x82F63B78 else r / 2)

/-- CRC-32C: Castagnoli, reflected, initial and final XOR of all ones (06 R179). -/
def crc32c (bs : List Byte) : Nat :=
  (bs.foldl (fun r b => crc32cBits 8 (r ^^^ b.toNat)) 0xFFFFFFFF) ^^^ 0xFFFFFFFF

end Sys2Proof.Machine
end

