-- ==== Sys2Proof/Machine/CalOps.lean ====
section
/-! DEFINITION. Running calibrations: conditions, pausing, ending (08 R239 to R247). -/

namespace Sys2Proof.Machine

/-! ### Records (08 R258, R259) -/

/-- A copy is valid when CHECK, KIND and INSTANCE all match. -/
def copyValid (kind inst : Nat) (c : Copy) : Bool :=
  let n := ofLeBytes ((c.bytes.drop 10).take 2)
  c.bytes.length == 36 + n && (c.bytes.getD 0 0).toNat == kind && (c.bytes.getD 1 0).toNat == inst &&
    ofLeBytes (c.bytes.drop (32 + n)) == crc32c (c.bytes.take (32 + n))

/-- Sequence number a is above b, as a signed difference modulo 2^32. -/
def seqAbove (a b : BitVec 32) : Bool := decide (0 < (a - b).toInt)

/-- The copy a reader takes: the valid one with the higher SEQ; none when the record is MISSING. -/
def TwoCopy.newest (t : TwoCopy) (kind inst : Nat) : Option Copy :=
  match t.a.filter (copyValid kind inst), t.b.filter (copyValid kind inst) with
  | none, none => none
  | some a, none => some a
  | none, some b => some b
  | some a, some b => if seqAbove b.seq a.seq then some b else some a

def State.calRecordOf (s : State) (d : DieId) (kind inst : Nat) : Option Copy :=
  ((s.die d).calRecords.getD (kind * 256 + inst) {}).newest kind inst

/-- Payload of a record; empty when it is MISSING. -/
def State.calPayload (s : State) (d : DieId) (kind inst : Nat) : List Byte :=
  match s.calRecordOf d kind inst with
  | none => []
  | some c => (c.bytes.drop 32).take (ofLeBytes ((c.bytes.drop 10).take 2))

/-- Instance byte of a calibration selector (00 R13). -/
def calInst : CalSel → Nat
  | .head d h => headInst d h
  | .act d a => actInst d a
  | .die d => dieInst d

def selDie : CalSel → DieId
  | .head d _ => d
  | .act d _ => d
  | .die d => d

/-- Actuator of an instance byte's selector; none for the die as a whole. -/
def selAct (inst : Nat) : Option Act :=
  let x := inst % 32
  if x < 12 then some .A
  else if x < 24 then some .B
  else if x = 24 then some .A
  else if x = 25 then some .B
  else none

/-- The heads a run covers at an instance: one head, or the live heads of the actuator (08 R247). -/
def selHead (inst : Nat) : Option HeadId :=
  if h : inst % 32 < 24 then some ⟨inst % 32, h⟩ else none

/-- Kinds 1 to 5 are the head kinds (08 R237). -/
def headKind (k : Nat) : Bool := decide (1 ≤ k ∧ k ≤ 5)

def Head.usable (x : Head) : Bool := x.live && x.servo != .lost

def Actuator.onDisk (x : Actuator) : Bool := x.state == .seeking || x.state == .settling || x.state == .tracking

/-- An actuator whose heads are loaded: any state but PARKED and FAULT (02 R56). -/
def Actuator.loaded (x : Actuator) : Bool := !(x.state == .parked || x.state == .fault)

/-- A record counts as valid only in state 0 (08 R263). -/
def State.recordValid (s : State) (kind inst : Nat) : Bool := s.getSub Obj.recordState kind inst == 0

/-- Head h is loaded and live, not LOST. -/
def Die.headUsable (x : Die) (h : HeadId) : Bool := (x.head h).usable

/-- Prerequisite records of a head kind (08 R239). -/
def State.calPrereq (s : State) (d : DieId) (kind : Nat) (h : HeadId) : Bool :=
  match kind with
  | 1 => s.recordValid 2 (headInst d h)
  | 3 => s.recordValid 2 (headInst d h) && s.recordValid 1 (headInst d h)
  | 5 => s.recordValid 4 (headInst d h)
  | _ => true

/-- Spindle AT_SPEED and clock LOCKED. -/
def Die.turning (x : Die) : Bool := x.spin.state == .atSpeed && x.clock.state == .locked

/-- The conditions of 08 R239 that are not per head, as a code: none when they hold. -/
def State.calCommon (s : State) (d : DieId) (kind inst : Nat) : Option Nat :=
  let x := s.die d
  if kind = 3 ∧ s.get Obj.assistMode (dieInst d) = 0 then some 10
  else if (decide (1 ≤ kind ∧ kind ≤ 6) || kind == 8) && !x.turning then some 5
  else if decide (1 ≤ kind ∧ kind ≤ 6) &&
      !(match selAct inst with
        | some a => (x.act a).onDisk && (x.act a).pcl == .up
        | none => false) then some 5
  else if kind = 7 ∧ x.spin.state ≠ .stopped then some 5
  else if 1 ≤ kind ∧ kind ≤ 3 ∧ (x.hk.state = .stopWrites ∨ x.hk.state = .shutdown) then some 5
  else none

/-- The per-head conditions of 08 R239 for one head. -/
def State.calHead (s : State) (d : DieId) (kind : Nat) (h : HeadId) : Option Nat :=
  if !((s.die d).headUsable h) then some 5
  else if !(s.calPrereq d kind h) then some 6
  else none

/-- VCM_TORQUE's own head conditions (08 R239). -/
def State.calVcm (s : State) (d : DieId) (a : Act) : Option Nat :=
  let live := (headsOf a).filter fun h => ((s.die d).head h).live
  if !(live.any fun h => (s.die d).headUsable h) then some 5
  else if !(live.all fun h => s.recordValid 4 (headInst d h)) then some 6
  else none

/-- Whether a running calibration's conditions all hold: on several heads one usable head keeps it running
(08 R242). -/
def State.calHolds (s : State) (d : DieId) (inst : Nat) (r : CalRun) : Bool :=
  let k := r.kind.toNat
  (s.calCommon d k inst).isNone &&
  (if headKind k then r.heads.any fun h => (s.calHead d k h).isNone
   else if k = 6 then
     match selAct inst with
     | some a => (s.calVcm d a).isNone
     | none => true
   else true)

/-- Pause and resume die d's calibrations by their conditions (08 R242). -/
def State.calRecheck (s : State) (d : DieId) : State :=
  s.modDie d fun x => { x with calRuns := x.calRuns.mapVals fun inst r => { r with paused := !(s.calHolds d inst r) } }

/-- A quality block from a head's figures: margin and MSE in Q8.8, 3 sigma in LSB, eye in 2^-8 au (08 R258). -/
def State.quality (s : State) (d : DieId) (h : HeadId) : BitVec 64 :=
  let i := headInst d h
  let q := fun o => (s.get o i / 256 : Int) % 65536
  BitVec.ofInt 64 (q Obj.channelMargin + 65536 * (q Obj.eqMseDb + 65536 * (s.get Obj.pes3sigma i % 65536 +
    65536 * q Obj.eyeWidthAu)))

/-- The worst of each field over several blocks: the highest margin, MSE and 3 sigma, the lowest eye width
(08 R247). -/
def worstQuality (xs : List (BitVec 64)) : BitVec 64 :=
  let field := fun (i : Nat) (b : BitVec 64) => (b.extractLsb' (16 * i) 16)
  let hi := fun i => (xs.map fun b => (field i b).toInt).foldl max (-32768)
  let pes := (xs.map fun b => (field 2 b).toNat).foldl max 0
  let eye := (xs.map fun b => (field 3 b).toNat).foldl min 65535
  if xs.isEmpty then 0
  else BitVec.ofInt 64 (hi 0 % 65536 + 65536 * (hi 1 % 65536 + 65536 * (pes + 65536 * (eye : Int))))

/-- The quality block of an instance (08 R246, R247): a head's own, the worst over an actuator's run, none for the
die kinds, whose fields have no meaning. -/
def State.qualityAt (s : State) (d : DieId) (inst : Nat) (heads : List HeadId) : BitVec 64 :=
  if inst % 32 < 24 ∨ inst % 32 = 24 ∨ inst % 32 = 25 then worstQuality (heads.map (s.quality d)) else 0

/-- Write CAL_REPORT, then CAL_RESULT, of one instance (08 R246, 14 R439). -/
def State.calReport (s : State) (inst kind code seq revs : Nat) (before after : BitVec 64) : State :=
  let s := s.putDom Obj.calReport 3 inst
    ([BitVec.ofNat 8 kind, BitVec.ofNat 8 inst] ++ leBytes 2 code ++ leBytes 4 seq ++ leBytes 4 revs ++ leBytes 4 0 ++
      leBytes 8 before.toNat ++ leBytes 8 after.toNat)
  s.put Obj.calResult inst code

/-- The code of an actuator's run: SUCCESS when every head that took part succeeded, else that of the lowest-numbered
head that did not (08 R247). -/
def worstCode (xs : List (HeadId × BitVec 16)) : Nat :=
  let bad := xs.filter fun e => e.2 != 0
  match bad with
  | [] => 0
  | e :: r => ((r.foldl (fun m x => if x.1.val < m.1.val then x else m) e).2).toNat

/-- End the run at an instance with a code for whatever of it has not ended (08 R242 to R244, R246, R247). -/
def State.calEnd (s : State) (d : DieId) (inst code seq : Nat) : State :=
  match (s.die d).calRuns.find? inst with
  | none => s
  | some r =>
    let k := r.kind.toNat
    let revs := ((s.die d).clock.rev + 16777216 - r.startRev) % 16777216
    let act := headKind k && decide (24 ≤ inst % 32)
    let left := r.heads.filter fun h => !(r.outcomes.any fun e => e.1 == h)
    let s := if act then
        left.foldl (fun s h => s.calReport (headInst d h) k code seq revs (r.before.getD (headInst d h) 0)
          (s.quality d h)) s
      else s
    let outs := r.outcomes ++ left.map fun h => (h, BitVec.ofNat 16 code)
    let s := s.calReport inst k (if act then worstCode outs else code) seq revs (r.before.getD inst 0)
      (s.qualityAt d inst r.heads)
    s.modDie d fun x =>
      { x with
        calRuns := x.calRuns.erase inst
        calFailed := x.calFailed || code == 2 || code == 7 || code == 8
        holdupTest := if k = 9 then false else x.holdupTest
        data := if k = 9 then { x.data with vEnd := none } else x.data }

/-- End with ABORTED every run of die d that `p` names (08 R242). -/
def State.calAbortIf (s : State) (d : DieId) (p : Nat → CalRun → Bool) : State :=
  ((s.die d).calRuns.entries.filter fun e => p e.1 e.2).foldl (fun s e => s.calEnd d e.1 2 0) s

/-- Runs of an actuator by the kinds 1 to 6 (08 R242). -/
def calOfAct (a : Act) (inst : Nat) (r : CalRun) : Bool :=
  decide (1 ≤ r.kind.toNat ∧ r.kind.toNat ≤ 6) && selAct inst == some a

/-- Runs that need the spindle turning (08 R242). -/
def calTurning (_ : Nat) (r : CalRun) : Bool := decide (1 ≤ r.kind.toNat ∧ r.kind.toNat ≤ 6) || r.kind == 8

/-- An actuator held by a calibration of kinds 1 to 6 (08 R241). -/
def Die.held (x : Die) (a : Act) : Bool := x.calRuns.entries.any fun e => calOfAct a e.1 e.2

/-- Staleness of a head: any of its records of a kind that gates writes, or its actuator's VCM_TORQUE record
(08 R264). -/
def State.stale (s : State) (d : DieId) (h : HeadId) : Bool :=
  let i := headInst d h
  !(s.recordValid 1 i && s.recordValid 2 i && (s.get Obj.assistMode (dieInst d) == 0 || s.recordValid 3 i) &&
    s.recordValid 4 i && s.recordValid 5 i && s.recordValid 6 (actInst d h.act))

/-- STALE_MASK (08 R264). -/
def State.staleMask (s : State) (d : DieId) : Nat :=
  allHeads.foldl (fun m h => if s.stale d h then m + 2 ^ h.val else m) 0

end Sys2Proof.Machine
end

