-- ==== Sys2Proof/Machine/DriveOps.lean ====
section
/-! DEFINITION. Shared operations of the drive: clock rates and coasting, actuator and spindle commands. -/

namespace Sys2Proof.Machine

/-! ### The angle clock -/

/-- Increment per 800 MHz cycle, in 2^-32 au, that a speed in rpm calls for (02 R50). -/
def rpmIncr (r : Rat) : Nat := (r * 2 ^ 56 / 48000000000).floor.toNat % 2 ^ 40

/-- Speed in rpm that an increment stands for. -/
def incrRpm (n : Nat) : Rat := (n : Rat) * 48000000000 / 2 ^ 56

/-- The coasting rate: the observer's speed while it is valid, else COAST_RPM (02 R63). -/
def State.coastIncr (s : State) (d : DieId) : Nat :=
  let p := (s.die d).spin
  if p.obsValid && decide (0 < p.obsSpeed) then rpmIncr p.obsSpeed else rpmIncr (s.get Obj.coastRpm (dieInst d))

def State.setCoastRate (s : State) (d : DieId) : State :=
  let i := s.coastIncr d
  s.modClock d fun c => { c with incr := BitVec.ofNat 40 i, nominal := BitVec.ofNat 40 i }

/-- Hold an increment between 50 % and 150 % of the nominal one (02 R51). -/
def clampIncr (nominal : BitVec 40) (i : Int) : BitVec 40 :=
  BitVec.ofInt 40 (max ((nominal.toNat : Int) / 2) (min ((nominal.toNat : Int) * 3 / 2) i))

def AngleOwner.head? : AngleOwner → Option HeadId
  | .sectorStart h => some h
  | .writeStart h => some h
  | _ => none

/-- Work of head h that has not started goes back to the scheduler's queue (02 R64, 05 R164). -/
def Head.requeueUnstarted (x : Head) : Head :=
  { x with requeue := (x.jobs.filter (!·.started)) ++ x.requeue, jobs := x.jobs.filter (·.started) }

/-- Trim is dropped and PHASE_LOCKED cleared (02 R75). -/
def AngleClock.noPhase (c : AngleClock) : AngleClock :=
  { c with phaseLocked := false, trimPpm := 0, phaseGood := 0, phaseBad := 0 }

/-- Entry to COASTING: media-class events are cancelled and their owners told, the coasting rate applies, calibrations
pause, the counter window is marked (02 R59, R63, R64, R72). -/
def State.coastEntry (s : State) (d : DieId) : State :=
  let c := (s.die d).clock
  if c.coasting then s
  else
    let gone := (c.events.filter fun e => e.cls == .media).map (·.owner)
    let s := s.modClock d fun c =>
      { c.noPhase with
        state := .coasting, flywheel := false, lockRun := 0, unlockRun := 0, flyRun := 0, badRun := 0
        events := c.events.filter fun e => e.cls != .media
        cancelled := gone ++ c.cancelled }
    let s := (gone.filterMap AngleOwner.head?).foldl (fun s h => s.modHead d h Head.requeueUnstarted) s
    let s := s.modObs d fun o => { o with bwCoast := true }
    (s.setCoastRate d).calRecheck d

/-- Loss of lock without coasting: LOCKED to ACQUIRING (02 R59). -/
def State.lockLost (s : State) (d : DieId) : State :=
  let s := s.modClock d fun c =>
    { c.noPhase with
      state := .acquiring, flywheel := false, lockLost := true, lockRun := 0, unlockRun := 0, flyRun := 0, badRun := 0 }
  (s.raise d Ev.angleLockLost).calRecheck d

/-- Die 0's spindle can no longer serve as the phase reference: with phase lock enabled every member die drops its
trim, clears PHASE_LOCKED and raises PHASE_LOST (02 R75). -/
def State.phaseReferenceGone (s : State) : State :=
  if s.getB Obj.phaseLockEnable 0 then
    (s.fittedDies.filter fun d => d.val != 0).foldl
      (fun s d => (s.modClock d fun c => { c.noPhase with phaseLost := true }).raise d Ev.phaseLost) s
  else s

/-! ### Actuators -/

/-- A VCM frame: START, TYPE, SEQ, COMMAND, CRC (05 R151). -/
def vcmFrame (typ : BitVec 2) (seq : BitVec 2) (cmd : Int) : BitVec 32 :=
  let body := 0xB * 2 ^ 20 + typ.toNat * 2 ^ 18 + seq.toNat * 2 ^ 16 + (BitVec.ofInt 16 cmd).toNat
  BitVec.ofNat 32 (body * 256 + crc8 body)

def State.sendVcm (s : State) (d : DieId) (a : Act) (typ : BitVec 2) (cmd : Int) : State :=
  let f := vcmFrame typ ((s.die d).act a).vcmSeq cmd
  (s.modAct d a fun x => { x with vcmSeq := x.vcmSeq + 1, vcmCmd := cmd }).emit (.vcm d a f)

/-- Counts of a fraction of full scale (05 R151, R169). -/
def fullScale (f : Rat) : Int := Config.round (f * 32767)

def State.actResult (s : State) (d : DieId) (a : Act) (code : Int) : State := s.put Obj.actResult (actInst d a) code

/-- Enter RETRACTING: one RETRACT frame toward the ramp (05 R151, R157, R159). -/
def State.retract (s : State) (d : DieId) (a : Act) (why : RetractFor) : State :=
  let s := s.modAct d a fun x => { x with state := .retracting, retractFor := why, noSam := 0 }
  s.sendVcm d a 2 (-(fullScale (s.getQ Obj.retractCurrent (actInst d a))))

/-- One head per actuator is live: Reduced is the target, or the thermal state calls for it (01 R32; 18 R541; 20 R576). -/
def Die.reducedNow (x : Die) : Bool :=
  x.target == .reduced || x.hk.state == .reduceHeads || x.hk.state == .stopWrites || x.hk.state == .shutdown

/-- The heads that go live when an actuator loads: all of it, or one in the Reduced state (01 R32, 20 R576; log 24). -/
def Die.loadHeads (x : Die) (a : Act) : List HeadId :=
  if x.reducedNow then (headsOf a).take 1 else headsOf a

/-- A head starts its open-window search, and counts toward the mean only after REJOIN_COUNT valid wedges (04 R133). -/
def Head.goLive (x : Head) : Head :=
  { x with live := true, servo := .tracking, missRun := 0, grayRun := 0, grayInvalid := false, validRun := 0
           joined := false, liveValid := 0, recRun := 0, sam := none, samFound := false, delivered := false, maHeld := false, maCmd := 0, maNext := 0, loop := {} }

/-- A head's channel is gated: no search, no record, not LOST, no permit (04 R130, R133, 05 R161). -/
def Head.gate (x : Head) : Head :=
  { x with live := false, servo := .idle, missRun := 0, grayRun := 0, grayInvalid := false, validRun := 0
           joined := false, permit := false, rearmRun := 0, rearmed := false, maCmd := 0, maNext := 0, lines := .park
           liveValid := 0, recRun := 0, samFound := false, delivered := false, grant := none, grantNext := none, request := none }

/-- LOADING: heads live, OPEN frames at LOAD_CURRENT toward the inner diameter (05 R157, R159 row 1). -/
def State.loadStart (s : State) (d : DieId) (a : Act) : State :=
  let s := ((s.die d).loadHeads a).foldl (fun s h => s.modHead d h Head.goLive) s
  let rev := (s.die d).clock.rev
  let s := s.modAct d a fun x => { x with state := .loading, sinceRev := rev, noSam := 0, settleRun := 0, loadWaits := false }
  s.sendVcm d a 1 (fullScale (s.getQ Obj.loadCurrent (actInst d a)))

/-- The wedge-angle table, servo format and active coefficient set match the fitted HDA (05 R158). -/
def Die.tablesMatch (x : Die) (a : Act) : Bool :=
  x.clock.tableMatch && x.servoMatch &&
    (if (x.act a).bank then (x.act a).bank1 else (x.act a).bank0).serialCrc == x.hdaCrc

/-- The refusal of a load command, in the order of 05 R158: none when it may start. -/
def Die.loadRefusal (x : Die) (a : Act) : Option Nat :=
  if x.data.pfail.isSome then some 8
  else if x.spin.state ≠ .atSpeed then some 3
  else if !(x.tablesMatch a) then some 4
  else if x.hk.state = .shutdown then some 5
  else none

/-- A load that starts from PARKED or FAULT, checked under 05 R158: the refusal code, and ACT_RESULT either way. -/
def State.loadCheck (s : State) (d : DieId) (a : Act) : State × Option Nat :=
  match (s.die d).loadRefusal a with
  | some c => ((s.modAct d a fun x => { x with loadPending := false, loadWaits := false }).actResult d a c, some c)
  | none =>
    let s := s.modAct d a fun x => { x with loadTries := 0, recTries := 0, loadPending := true }
    ((s.actResult d a 1).loadStart d a, none)

/-- A load command, written or issued by the die (05 R158, R159 rows 1, 22, 23). -/
def State.loadCommand (s : State) (d : DieId) (a : Act) : State × Option Nat :=
  match ((s.die d).act a).state with
  | .parked | .fault => s.loadCheck d a
  | .seeking | .settling | .tracking | .recovering => (s.actResult d a 0, none)
  | .loading => ((s.modAct d a fun x => { x with loadPending := true }).actResult d a 1, none)
  | .unloading | .retracting =>
    ((s.modAct d a fun x => { x with loadWaits := true, loadPending := true }).actResult d a 1, none)

/-- UNLOADING: targets at track 0 on every head, pending seeks ABORTED (05 R156, R159 row 12). -/
def State.unloadStart (s : State) (d : DieId) (a : Act) : State :=
  let s := (headsOf a).foldl (fun s h => s.modHead d h fun x => { x with target := 0 }) s
  s.modAct d a fun x =>
    { x with
      state := .unloading, noSam := 0, settleRun := 0, settleWedges := 0
      r := if x.state = .seeking then x.r else x.r + x.ev / 4096
      v := if x.state = .seeking then x.v else 0
      a := if x.state = .seeking then x.a else 0
      seekPending := false, seekResult := if x.seekPending then 2 else x.seekResult }

/-- An unload command, written or issued by the die (05 R158, R159 rows 12, 13, 24); it ends calibrations of the
actuator (08 R242). -/
def State.unloadCommand (s : State) (d : DieId) (a : Act) : State :=
  let pend := fun (s : State) =>
    (s.modAct d a fun x => { x with unloadPending := true, loadPending := false, loadWaits := false }).actResult d a 1
  match ((s.die d).act a).state with
  | .parked | .fault => s.actResult d a 0
  | .seeking | .settling | .tracking => pend ((s.calAbortIf d (calOfAct a)).unloadStart d a)
  | .loading | .recovering => pend ((s.calAbortIf d (calOfAct a)).retract d a .unload)
  | .unloading | .retracting => pend s

def Die.bothParked (x : Die) : Bool := !x.actA.loaded && !x.actB.loaded

/-- Any head of the die is loaded (03 R94). -/
def Die.anyLoaded (x : Die) : Bool := x.actA.loaded || x.actB.loaded

/-! ### The spindle -/

def State.spinResult (s : State) (d : DieId) (code : Int) : State := s.put Obj.spinResult (dieInst d) code

/-- The drive floats: no angle source, and the clock goes COASTING (02 R59, 03 R80, R98). -/
def State.floatDrive (s : State) (d : DieId) (st : SpinState) : State :=
  (s.modSpin d fun p =>
    { p with state := st, gates := .floated, src := .none, m := 0, curInt := 0, spdInt := 0, iCmd := 0 }).coastEntry d

/-- The die gives its spin-up slot back to the pool (03 R104). -/
def State.releaseSlot (s : State) (d : DieId) : State :=
  { s with spinHeld := s.spinHeld.filter (· != d), spinReq := s.spinReq.filter (· != d) }

def State.requestSlot (s : State) (d : DieId) : State :=
  if s.spinReq.contains d || s.spinHeld.contains d then s else { s with spinReq := s.spinReq ++ [d] }

/-- BRAKING for a purpose: opposing current while the observer is valid, else short brake (03 R98). -/
def State.brake (s : State) (d : DieId) (why : BrakeFor) : State :=
  s.modSpin d fun p =>
    { p with state := .braking, brakeFor := why, gates := if p.obsValid then .opposing else .shortBrake, crossings := [] }

/-- SENSING: all phases floated, crossings watched (03 R101). -/
def State.senseStart (s : State) (d : DieId) : State :=
  (s.floatDrive d .sensing).modSpin d fun p => { p with crossings := [], reverse := false }

/-- Drive engages or re-engages on the observer: the ramp starts from the measured speed (03 R92, R103). -/
def State.engage (s : State) (d : DieId) (st : SpinState) (speed : Rat) : State :=
  let ke := (s.die d).spin.table.ke
  let cap := s.getQ Obj.modMax (dieInst d)
  let target := if st = .stopping then 0 else (s.get Obj.setRpm (dieInst d) : Rat)
  s.modSpin d fun p =>
    { p with
      state := st, gates := .driven, src := .observer, speed := speed, ramp := speed, setPoint := target, iCmd := 0
      m := min cap (max 0 (Config.emfModulation ke speed)), curInt := 0, spdInt := 0, speedRun := 0, cycles := 0
      reverse := false, slewLeft := 0, mismatchSince := none }

/-- Both actuators of the die are told to unload. -/
def State.unloadBoth (s : State) (d : DieId) : State := (s.unloadCommand d .A).unloadCommand d .B

/-- A start command, written or issued by the die (03 R83, R99). `none`, or the refusal TABLE_MISMATCH. -/
def State.spinStartCommand (s : State) (d : DieId) : State × Option Nat :=
  let p := (s.die d).spin
  if !p.tableMatch then (((s.raise d Ev.spinTableMismatch).spinResult d 5), some 5)
  else
    let s := s.calAbortIf d fun _ r => r.kind == 7
    let pend := fun (s : State) =>
      (s.modSpin d fun p => { p with startPending := true, stopPending := false, stopping := false }).spinResult d 1
    match p.state with
    | .stopped | .fault =>
      (pend (((s.floatDrive d .staggerWait).modSpin d fun p => { p with retries := 0 }).requestSlot d), none)
    | .braking =>
      if p.brakeFor = .stop then
        (pend (((s.floatDrive d .staggerWait).modSpin d fun p => { p with retries := 0 }).requestSlot d), none)
      else (pend s, none)
    | .stopping => (pend (((s.floatDrive d .staggerWait).modSpin d fun p => { p with retries := 0 }).requestSlot d), none)
    | .atSpeed => (s.spinResult d 0, none)
    | .retractBrake => (s.spinResult d 2, none)
    | .staggerWait | .sensing | .aligning | .openLoop | .ramping | .reacquiring => (pend s, none)

/-- A stop command, written or issued by the die (03 R99, R100; 08 R242). -/
def State.spinStopCommand (s : State) (d : DieId) : State :=
  let p := (s.die d).spin
  let pend := fun (s : State) =>
    (s.modSpin d fun p => { p with stopPending := true, startPending := false }).spinResult d 1
  let s := if p.state = .retractBrake then s else s.calAbortIf d calTurning
  let s := if d.val = 0 ∧ (p.state = .ramping ∨ p.state = .atSpeed) then s.phaseReferenceGone else s
  match p.state with
  | .stopped => s.spinResult d 0
  | .staggerWait | .sensing =>
    (((s.floatDrive d .stopped).releaseSlot d).modSpin d fun p => { p with startPending := false, stopPending := false })
      |>.spinResult d 0
  | .braking => if p.brakeFor = .stop then pend s else pend ((s.brake d .stop).releaseSlot d)
  | .aligning | .openLoop => pend ((s.brake d .stop).releaseSlot d)
  | .fault => pend (s.brake d .stop)
  | .stopping => pend s
  | .ramping | .atSpeed =>
    let s := (s.unloadBoth d).releaseSlot d
    pend (s.modSpin d fun p => { p with state := .stopping, setPoint := 0, stopping := true, staggerHold := false })
  | .reacquiring => pend (s.modSpin d fun p => { p with stopping := true })
  | .retractBrake => s.spinResult d 2

/-- REACQUIRING: phases floated, heads stay loaded (03 R99 row 24, R105). -/
def State.reacquire (s : State) (d : DieId) : State :=
  let s := (s.floatDrive d .reacquiring).modSpin d fun p =>
    { p with obsLoss := true, crossings := [], cycles := 0, obsValid := false, obsGoodRun := 0, obsBadRun := 0 }
  (((s.setCoastRate d).bump Obj.observerLossCount (dieInst d)).raise d Ev.spinObserverLoss).calRecheck d

/-- HDA_POWER_STATE follows what spindle and actuators have come to (20 R576). -/
def Die.powerNow (x : Die) : PowerState :=
  if x.power = .dieSleep then .dieSleep
  else if x.bothParked ∧ x.spin.state = .stopped ∧ (x.target = .standby ∨ x.target = .dieSleep) then .standby
  else if x.bothParked ∧ x.spin.state = .atSpeed ∧ x.target = .unloaded then .unloaded
  else if x.actA.state = .tracking ∧ x.actB.state = .tracking then if x.reducedNow then .reduced else .active
  else x.power

def State.powerSettle (s : State) (d : DieId) : State := s.modDie d fun x => { x with power := x.powerNow }

end Sys2Proof.Machine
end

