-- ==== Sys2Proof/Machine/MediaOps.lean ====
section
/-! DEFINITION. The sector layout of a surface, recording regions, the assist power of a head, the verify list and the
write gates (05 R162 to R165, 06 R174 to R185, 07 R215 to R231). -/

namespace Sys2Proof.Machine

/-! ### Tables read from their bytes -/

/-- Unsigned field of `n` bytes at an offset of a table. -/
def fieldU (bs : List Byte) (off n : Nat) : Nat := ofLeBytes ((bs.drop off).take n)

/-- Signed field of `n` bytes at an offset of a table. -/
def fieldI (bs : List Byte) (off n : Nat) : Int :=
  let v := fieldU bs off n
  if 2 ^ (8 * n - 1) ≤ v then (v : Int) - (2 ^ (8 * n) : Nat) else v

/-- A region of a recording format (06 R174). -/
structure Region where
  start : Nat
  bitsPerRev : Nat
  writeCurrent : Nat
  overshoot : Nat
deriving DecidableEq, Repr, Inhabited

/-- Regions of a format's bytes; the factory format has one of 53,333,333 bits per revolution (06 R174; log 10). -/
def regionsOf (bs : List Byte) : List Region :=
  if bs.isEmpty then [⟨0, 53333333, 0, 0⟩]
  else (List.range (min 32 (fieldU bs 2 2))).map fun r =>
    let o := 16 + 32 * r
    ⟨fieldU bs o 4, fieldU bs (o + 4) 4, fieldU bs (o + 25) 1, fieldU bs (o + 26) 1⟩

def State.regions (s : State) (d : DieId) (h : HeadId) : List Region :=
  regionsOf (s.dom Obj.recordingFormat 0 (headInst d h) [])

/-- Region number of a track (06 R175). -/
def State.regionAt (s : State) (d : DieId) (h : HeadId) (track : Nat) : Nat :=
  ((s.regions d h).filter fun r => decide (r.start ≤ track)).length - 1

def State.region (s : State) (d : DieId) (h : HeadId) (track : Nat) : Region :=
  (s.regions d h).getD (s.regionAt d h track) default

/-- Needs more than 6.4 Gbaud at the set-point (06 R176). -/
def State.rateExcluded (s : State) (d : DieId) (h : HeadId) (track : Nat) : Bool :=
  decide (6400000000 * 60 < (s.region d h track).bitsPerRev * s.getN Obj.setRpm (dieInst d))

/-! ### Windows and layout (06 R182 to R185) -/

def windowStart (guard : Nat) : Nat := 2960 + guard

/-- End of window k, au after the head's SAM (06 R183). -/
def windowEnd (table : List Nat) (guard k : Nat) : Int :=
  let next := if k + 1 < table.length then table.getD (k + 1) 0 else 16777216
  (next : Int) - table.getD k 0 - 128 - guard

/-- Bits of window k (06 R183). -/
def windowBits (table : List Nat) (guard bpr k : Nat) : Nat :=
  ((windowEnd table guard k - windowStart guard) * bpr / 16777216).toNat

/-- A sector's place: window, bit position, codeword bits of fragment 1 (36,736 when unsplit). -/
structure Placed where
  window : Nat
  pos : Nat
  c1 : Nat
deriving DecidableEq, Repr, Inhabited

def Placed.split (p : Placed) : Bool := p.c1 != 36736

/-- The layout rule from window k, bit p (06 R184). `fuel` bounds sectors and windows together. -/
def layoutFrom (n : Nat → Nat) (w : Nat) : Nat → Nat → Nat → List Placed
  | 0, _, _ => []
  | fuel + 1, k, p =>
    if w ≤ k then []
    else
      let room := n k - p
      let c1 := room - 176
      if 36912 ≤ room then ⟨k, p, 36736⟩ :: layoutFrom n w fuel k (p + 36960)
      else if k + 1 < w ∧ 512 ≤ c1 ∧ 512 ≤ 36736 - c1 then
        ⟨k, p, c1⟩ :: layoutFrom n w fuel (k + 1) (96 + (36736 - c1) + 48)
      else layoutFrom n w fuel (k + 1) 0

/-- Layout of a track under a table, a guard and a density (06 R184). -/
def layoutOf (table : List Nat) (guard bpr : Nat) : List Placed :=
  layoutFrom (windowBits table guard bpr) table.length (8 * table.length) 0 0

def State.guardAu (s : State) (d : DieId) : Nat := s.getN Obj.dataGuardAu (dieInst d)

/-- Layout of head h's track (06 R184). -/
def State.layout (s : State) (d : DieId) (h : HeadId) (track : Nat) : List Placed :=
  layoutOf (s.die d).clock.table (s.guardAu d) (s.region d h track).bitsPerRev

/-- Place of a sector; none past the track's last sector. -/
def State.place (s : State) (d : DieId) (h : HeadId) (loc : SectorLoc) : Option Placed :=
  (s.layout d h loc.track.toNat)[loc.sector.toNat]?

/-- Sectors per track of a head at a track (06 R184). -/
def State.sectorsPerTrack (s : State) (d : DieId) (h : HeadId) (track : Nat) : Nat := (s.layout d h track).length

/-- First bit of a fragment, in au after the head's SAM of its window (06 R183, R197). -/
def State.fragmentAu (s : State) (d : DieId) (h : HeadId) (loc : SectorLoc) (frag : Nat) : Rat :=
  match s.place d h loc with
  | none => 0
  | some p =>
    let bit := if frag = 2 then 0 else p.pos
    (windowStart (s.guardAu d) : Rat) + (bit : Rat) * 16777216 / (s.region d h loc.track.toNat).bitsPerRev

def mediaKey (h : HeadId) (track sector : Nat) : Nat := (h.val * 4194304 + track) * 65536 + sector

/-! ### Assist power (07 R215 to R218, R223) -/

def State.assistBytes (s : State) (d : DieId) (h : HeadId) : List Byte := s.dom Obj.assistTable 0 (headInst d h) []

def State.writeCode (s : State) (d : DieId) (h : HeadId) (r : Nat) : Nat := fieldU (s.assistBytes d h) (32 + 4 * r) 2

def State.preheatFrac (s : State) (d : DieId) (h : HeadId) (r : Nat) : Nat := fieldU (s.assistBytes d h) (34 + 4 * r) 1

def State.assistMode (s : State) (d : DieId) : Nat := s.getN Obj.assistMode (dieInst d)

/-- Region of a head's current track (06 R213): its target. -/
def State.headRegion (s : State) (d : DieId) (h : HeadId) : Nat := s.regionAt d h ((s.die d).head h).target

/-- P(WRITE_CODE) of the head's region in mW; 0 without assist (07 R214, R216). -/
def State.charge (s : State) (d : DieId) (h : HeadId) : Rat :=
  if s.assistMode d = 0 then 0
  else
    let t := s.assistBytes d h
    (fieldU t 24 2 : Rat) + (fieldU t 26 2 : Rat) / 256 * s.writeCode d h (s.headRegion d h)

/-- thermal_scale (07 R223). -/
def State.thermalScale (s : State) (d : DieId) : Rat :=
  let k := (s.die d).hk
  let low := s.getQ Obj.assistThrottleScale (dieInst d)
  match k.state with
  | .stopWrites | .shutdown => 0
  | .reduceAssist | .reduceHeads => low
  | .normal | .warn => if k.blind || k.rounds == 0 then low else 1

/-- The budget in force in mW (07 R223). -/
def State.bEff (s : State) (d : DieId) : Rat := (s.get Obj.assistBudgetMw (dieInst d) : Rat) * s.thermalScale d

/-! ### Write gates (05 R162 to R164, 06 R195) -/

/-- A sector of the head is in progress: from its first DATA bit to the end of its last postamble (01 R45). -/
def Head.inProgress (x : Head) : Bool :=
  match x.jobs with
  | [] => false
  | j :: _ => j.started

/-- Drive PARK; a sector in progress is to be abandoned at its next fragment boundary (05 R162 to R164). -/
def Head.gateOff (x : Head) : Head :=
  { x with
    lines := .park
    jobs := match x.jobs with
      | [] => []
      | j :: r => if j.started then { j with gateOff := true } :: r else j :: r }

/-- Servo write-permit of a head drops: counted, gate off, re-arm starts again (05 R161, 19 R549). -/
def State.dropPermit (s : State) (d : DieId) (h : HeadId) : State :=
  if ((s.die d).head h).permit then
    (s.modHead d h fun x => { x.gateOff with permit := false, rearmRun := 0, rearmed := false }).count d (0x070 + h.val)
  else s

def State.dropPermits (s : State) (d : DieId) (hs : List HeadId) : State := hs.foldl (fun s h => s.dropPermit d h) s

/-- Heads of die d with a sector in progress. -/
def Die.writing (x : Die) : List HeadId := allHeads.filter fun h => (x.head h).inProgress

/-! ### Preamplifier frames (06 R202, R203) -/

def pclHeader (typ seq len param : Nat) : Nat := ((0xC6 * 16 + typ) * 16 + seq) * 65536 + len * 256 + param

/-- Send a downstream frame on an actuator's link, unless the link is in DOWN or FAULT. -/
def State.sendPcl (s : State) (d : DieId) (a : Act) (typ param : Nat) (words : List (BitVec 16)) : State :=
  let x := (s.die d).act a
  let h := pclHeader typ x.pclSeq.toNat words.length param
  let crc := crc16 (bitsMsb 32 h ++ words.flatMap fun w => bitsMsb 16 w.toNat)
  (s.modAct d a fun x =>
    { x with pclSeq := x.pclSeq + 1, pclSent := ((x.pclSeq, typ, param, words) :: x.pclSent).take 16 }).emit
    (.pcl d a (BitVec.ofNat 32 h) words (BitVec.ofNat 16 crc))

/-- The link carries frames of the ordinary traffic. -/
def PclState.open (p : PclState) : Bool := p == .init || p == .up

/-- Send on an open link; nothing otherwise. -/
def State.sendOpen (s : State) (d : DieId) (a : Act) (typ param : Nat) (words : List (BitVec 16)) : State :=
  if ((s.die d).act a).pcl.open then s.sendPcl d a typ param words else s

/-- The heads of an actuator in order j = 0 to 11 (06 R203). -/
def Act.heads (a : Act) : List HeadId := headsOf a

end Sys2Proof.Machine
end

