-- ==== Sys2Proof/Machine/ZoneGeom.lean ====
section
/-! DEFINITION. Bands, segments, slots, streams and the lookup of a block (09 R269 to R300). Block and zone numbers are
die-local: block = zone × 2^19 + offset. -/

namespace Sys2Proof.Machine

def zoneSpan : Nat := 524288

def zoneOf (block : Nat) : Nat := block / zoneSpan

def offsetOf (block : Nat) : Nat := block % zoneSpan

/-! ### Bands (09 R280) -/

/-- NB (09 R280): the value of the last format, or floor(TRACKS / BAND_TRACKS) before one. -/
def State.numBands (s : State) (d : DieId) : Nat :=
  let x := s.die d
  if x.data.formatted then x.data.nb else x.tracks / max 1 (s.getN Obj.bandTracks (dieInst d))

def State.bandTracksOf (s : State) (d : DieId) : Nat :=
  if (s.die d).data.formatted then (s.die d).data.bandTracks else s.getN Obj.bandTracks (dieInst d)

def State.bandGuardOf (s : State) (d : DieId) : Nat :=
  if (s.die d).data.formatted then (s.die d).data.bandGuard else s.getN Obj.bandGuardTracks (dieInst d)

/-- Defect-free sectors of a head's track in index order (09 R283). -/
def State.goodSectors (s : State) (d : DieId) (h : HeadId) (t : Nat) : List Nat :=
  let bad := ((s.die d).data.defects.filter fun e => e.1 == h.val && e.2.1 == t).map (·.2.2)
  (List.range (s.sectorsPerTrack d h t)).filter fun i => !(bad.contains i)

/-- Data tracks of a band: the even offsets of a conventional band, else all but the guard tracks (09 R280). -/
def bandTaus (conv : Bool) (tracks guard : Nat) : List Nat :=
  if conv then (List.range tracks).filter fun i => i % 2 == 0 else List.range (tracks - guard)

/-- BAND_SECTORS: slots of one band of one head (09 R283). -/
def State.bandSectors (s : State) (d : DieId) (conv : Bool) (h : HeadId) (b : Nat) : Nat :=
  let bt := s.bandTracksOf d
  ((bandTaus conv bt (s.bandGuardOf d)).map fun tau => (s.goodSectors d h (b * bt + tau)).length).foldl (· + ·) 0

/-- Conventional slots of an actuator in the bands below `n` (09 R290). -/
def State.convSlots (s : State) (d : DieId) (a : Act) (n : Nat) : Nat :=
  ((headsOf a).map fun h => ((List.range n).map (s.bandSectors d true h)).foldl (· + ·) 0).foldl (· + ·) 0

def hiddenSlots : Nat := 8912896

/-- Conventional zones of an actuator among the first `n` (09 R273). -/
def convZonesOn (a : Act) (n : Nat) : Nat :=
  match a with
  | .A => (n + 1) / 2
  | .B => n / 2

/-- The smallest CONV_BANDS of step 1 of 09 R302; none for NO_ROOM. The search goes band by band to NB / 4. -/
def State.formatConvBands (s : State) (d : DieId) : Option Nat :=
  let i := dieInst d
  let nb := (s.die d).tracks / max 1 (s.getN Obj.bandTracks i)
  let need := fun a => hiddenSlots + zoneSpan * convZonesOn a (s.getN Obj.convZones i)
  let fits := fun n => decide (need .A ≤ s.convSlots d .A n) && decide (need .B ≤ s.convSlots d .B n)
  if 2097151 < 24 * nb then none else (List.range (nb / 4 + 1)).find? fits

/-- CONV_BANDS in force (09 R280). -/
def State.convBandsOf (s : State) (d : DieId) : Nat :=
  if (s.die d).data.formatted then (s.die d).data.convBands
  else (s.formatConvBands d).getD (s.numBands d / 4)

/-- Calibration cylinder c of each actuator (09 R280). -/
def State.calBand (s : State) (d : DieId) (c : Nat) : Nat :=
  let cb := s.convBandsOf d
  cb + (2 * c + 1) * (s.numBands d - cb) / 32

/-- Band index b is set aside: conventional region or calibration cylinder. -/
def State.reservedBand (s : State) (d : DieId) (b : Nat) : Bool :=
  decide (b < s.convBandsOf d) || (List.range 16).any fun c => s.calBand d c == b

def State.bandNo (s : State) (d : DieId) (h : HeadId) (b : Nat) : Nat := h.val * s.numBands d + b

/-- Segment table entry of a band; an unlisted one is RESERVED or FREE by its role (09 R294). -/
def State.segAt (s : State) (d : DieId) (n : Nat) : SegEntry :=
  match (s.die d).data.segs.find? n with
  | some e => e
  | none => if s.reservedBand d (n % max 1 (s.numBands d)) then { state := .reserved } else {}

/-! ### Segments (09 R282 to R285) -/

/-- Heads of a segment, by its lead band and width (09 R282). -/
def State.segHeads (s : State) (d : DieId) (lead width : Nat) : List HeadId :=
  let h0 := lead / max 1 (s.numBands d)
  (List.finRange 24).filter fun h => decide (h0 ≤ h.val ∧ h.val < h0 + width)

def State.segCapacity (s : State) (d : DieId) (lead : Nat) : Nat :=
  let e := s.segAt d lead
  let b := lead % max 1 (s.numBands d)
  ((s.segHeads d lead e.width).map fun h => s.bandSectors d false h b).foldl (· + ·) 0

/-- One row of a segment: the slots of one track in slot order (09 R283). -/
def State.rowSlots (s : State) (d : DieId) (hs : List HeadId) (t : Nat) : List (HeadId × Nat) :=
  let cols := hs.map fun h => (h, s.goodSectors d h t)
  let top := (hs.map fun h => s.sectorsPerTrack d h t).foldl max 0
  (List.range top).flatMap fun i => cols.filterMap fun c => if c.2.contains i then some (c.1, i) else none

/-- Find a slot by rows: (head, track, sector) (09 R283). -/
def State.findSlot (s : State) (d : DieId) (hs : List HeadId) (base : Nat) : List Nat → Nat → Option (HeadId × SectorLoc)
  | [], _ => none
  | tau :: rest, slot =>
    let row := s.rowSlots d hs (base + tau)
    if slot < row.length then
      (row[slot]?).map fun e => (e.1, ⟨BitVec.ofNat 22 (base + tau), BitVec.ofNat 16 e.2⟩)
    else s.findSlot d hs base rest (slot - row.length)

/-- Place of a segment's slot. -/
def State.segSlot (s : State) (d : DieId) (lead slot : Nat) : Option (HeadId × SectorLoc) :=
  let e := s.segAt d lead
  let bt := s.bandTracksOf d
  let b := lead % max 1 (s.numBands d)
  s.findSlot d (s.segHeads d lead e.width) (b * bt) (bandTaus false bt (s.bandGuardOf d)) slot

/-- The conventional stream of an actuator, band by band (09 R290). -/
def State.convFind (s : State) (d : DieId) (a : Act) : List Nat → Nat → Option (HeadId × SectorLoc)
  | [], _ => none
  | b :: rest, slot =>
    let n := ((headsOf a).map fun h => s.bandSectors d true h b).foldl (· + ·) 0
    let bt := s.bandTracksOf d
    if slot < n then s.findSlot d (headsOf a) (b * bt) (bandTaus true bt 0) slot else s.convFind d a rest (slot - n)

/-- Number of conventional zones in force (09 R270, R303: effective at format). -/
def State.convCount (s : State) (d : DieId) : Nat :=
  if (s.die d).data.formatted then (s.die d).data.convZones else s.getN Obj.convZones (dieInst d)

def State.isConv (s : State) (d : DieId) (z : Nat) : Bool := decide (z < s.convCount d)

/-- Actuator of a conventional zone (09 R273). -/
def convAct (z : Nat) : Act := if z % 2 = 0 then .A else .B

/-- Place of a block of a conventional zone (09 R290). -/
def State.convPlace (s : State) (d : DieId) (block : Nat) : Option (HeadId × SectorLoc) :=
  let z := zoneOf block
  s.convFind d (convAct z) (List.range (s.convBandsOf d)) (hiddenSlots + z / 2 * zoneSpan + offsetOf block)

/-! ### Zones -/

/-- An unlisted zone is EMPTY with unset attributes, or a CLOSED conventional zone (09 R273, R274, R293). -/
def State.zone (s : State) (d : DieId) (z : Nat) : Zone :=
  match (s.die d).data.zones.find? z with
  | some v => v
  | none =>
    if s.isConv d z then
      let k := if (s.die d).data.formatted then (s.die d).data.convKeyDomain else s.getN Obj.convKeyDomain (dieInst d)
      { desc := { state := .closed, content := { width := 12, keyDomain := k, actuator := some (convAct z), fixed := true } }
        astate := .closed }
    else {}

def State.putZone (s : State) (d : DieId) (z : Nat) (v : Zone) : State :=
  s.modData d fun x => { x with zones := x.zones.insert z v }

def State.modZone (s : State) (d : DieId) (z : Nat) (f : Zone → Zone) : State := s.putZone d z (f (s.zone d z))

/-- Contents that later verbs see: those of the last admitted RESET, or the executed ones (09 R279). -/
def Zone.top (v : Zone) : Content := v.newer.getLastD v.desc.content

def Zone.modTop (v : Zone) (f : Content → Content) : Zone :=
  match v.newer with
  | [] => { v with desc := { v.desc with content := f v.desc.content } }
  | _ => { v with newer := v.newer.dropLast ++ [f v.top] }

/-- Contents as a verb with a given ASN sees them (09 R279). -/
def Zone.contentAt (v : Zone) (asn : Nat) : Content :=
  (v.desc.content :: v.newer).getD ((v.resets.filter fun r => decide (r < asn)).length) v.top

/-- Attributes as they apply: set by SET_ATTRIBUTES or fixed, else the defaults in force (09 R271, R272, 13 R410). -/
def State.attrs (s : State) (d : DieId) (c : Content) : Content :=
  if c.attrSet || c.fixed then c
  else
    let i := dieInst d
    { c with width := s.getN Obj.defaultWidth i, huskKib := s.getN Obj.defaultHuskKib i
             keyDomain := s.getN Obj.defaultKeyDomain i, capacity := s.getN Obj.zoneCapBlocks i }

/-- CAPACITY of a zone in blocks as a verb sees it. -/
def State.capacity (s : State) (d : DieId) (z : Nat) : Nat :=
  if s.isConv d z then zoneSpan else (s.attrs d (s.zone d z).top).capacity

/-- Room of a zone's contents in bytes: may be negative after a rewrite (09 R284). -/
def State.room (s : State) (d : DieId) (c : Content) : Int :=
  ((c.segs.map (s.segCapacity d)).foldl (· + ·) 0 : Nat) * 4096 - (c.streamEnd * 16 : Nat) - (c.reserved : Nat)

/-! ### Lookup (09 R298) -/

def frameKey (z f : Nat) : Nat := z * 8192 + f

def State.frame (s : State) (d : DieId) (z f : Nat) : Frame := (s.die d).data.frames.getD (frameKey z f) {}

/-- Segment of a stream slot: the last whose start does not lie beyond it. -/
def State.segOfSlot (s : State) (d : DieId) (c : Content) (q : Nat) : Option Nat :=
  (c.segs.filter fun n => decide ((s.segAt d n).streamStart ≤ q)).getLast?

/-- Place of a stream slot of a zone's executed contents. -/
def State.streamPlace (s : State) (d : DieId) (c : Content) (q : Nat) : Option (Nat × HeadId × SectorLoc) :=
  match s.segOfSlot d c q with
  | none => none
  | some n => (s.segSlot d n (q - (s.segAt d n).streamStart)).map fun e => (n, e.1, e.2)

def huskKey (z unit : Nat) : Nat := z * 536870912 + unit

/-- Stored form of a husk in units of 16 bytes (10 R312). -/
def Husk.units (h : Husk) : Nat := (32 + h.storedLen + 15) / 16

/-- Walk a frame's husks from a unit to the one that holds an offset (09 R298, 10 R319). -/
def State.walkHusks (s : State) (d : DieId) (z offset : Nat) : Nat → Nat → Option Husk
  | 0, _ => none
  | n + 1, unit =>
    match (s.die d).data.husks.find? (huskKey z unit) with
    | none => none
    | some h =>
      if h.offset ≤ offset ∧ offset < h.offset + h.logicalLen / 4096 then some h
      else s.walkHusks d z offset n (unit + h.units)

/-- The husk of a block. -/
def State.huskOf (s : State) (d : DieId) (block : Nat) : Option Husk :=
  let z := zoneOf block
  let f := s.frame d z (offsetOf block / 64)
  s.walkHusks d z (offsetOf block) f.husks f.start

/-- The first sector that holds a block on the medium, with its segment (none in a conventional zone). -/
def State.blockPlace (s : State) (d : DieId) (block : Nat) : Option (Option Nat × HeadId × SectorLoc) :=
  let z := zoneOf block
  let o := offsetOf block
  if s.isConv d z then (s.convPlace d block).map fun e => (none, e.1, e.2)
  else
    let c := (s.zone d z).desc.content
    let f := s.frame d z (o / 64)
    let q := if c.huskKib = 0 then some (f.start / 256 + o % 64) else (s.huskOf d block).map fun h => h.start / 256
    match q with
    | none => none
    | some q => (s.streamPlace d c q).map fun e => (some e.1, e.2.1, e.2.2)

/-- Bit of a block in the conventional bitmap (09 R290). -/
def bitmapBit (x : DieData) (block : Nat) : Bool := (x.bitmap.getD (block / 64) 0).getLsbD (block % 64)

/-- The block is written on the medium or recorded so in the map (09 R300). -/
def State.mapped (s : State) (d : DieId) (block : Nat) : Bool :=
  let z := zoneOf block
  let v := s.zone d z
  if s.isConv d z then bitmapBit (s.die d).data block
  else decide (offsetOf block < v.desc.content.wp) && decide ((s.frame d z (offsetOf block / 64)).len ≠ 0)

/-- WRITE_SEQ of user data (09 R299). -/
def State.writeSeq (s : State) (d : DieId) (seg : Option Nat) : BitVec 32 :=
  match seg with
  | none => BitVec.ofNat 32 (s.die d).data.formatSeq
  | some n => BitVec.ofNat 32 ((s.segAt d n).drawSeq % 16777216)

/-- Cached blocks of a die that a sector of the medium holds. -/
def State.blocksAt (s : State) (d : DieId) (h : HeadId) (loc : SectorLoc) : List Nat :=
  (s.die d).data.wc.keys.filter fun k =>
    match s.blockPlace d k with
    | some e => e.2.1 == h && e.2.2 == loc
    | none => false

/-! ### The verify list (07 R231) -/

def verifyRoom : Nat := 1024

/-- A version whose entry in the verify list is open (07 R233). -/
def CacheVer.keep (v : CacheVer) : CacheVer := { v with marked := true, dirty := true }

/-- Mark one sector for verification; its cached data stays dirty until the entry closes (07 R230, R231, R233). -/
def State.mark (s : State) (d : DieId) (e : VerifyEntry) : State :=
  let s := s.bump Obj.verifyMarkedCount (headInst d e.head)
  let ks := if e.reason ≤ 3 then s.blocksAt d e.head e.loc else []
  let s := s.modData d fun x => { x with wc := x.wc.mapVals fun j vs => if ks.contains j then vs.map CacheVer.keep else vs }
  if (s.die d).data.verify.length < verifyRoom then
    s.modData d fun x => { x with verify := x.verify ++ [e] }
  else
    let first := !(s.die d).data.verifyFull
    let s := s.modDie d fun x => { x with verifyFullSeen := true, data := { x.data with verifyFull := true } }
    if first then s.raise d Ev.verifyListFull else s

/-- The windows that lie within ±1 wedge of a wedge. -/
def nearWindow (w k j : Nat) : Bool := j == k || j == (k + 1) % w || (j + 1) % w == k

/-- Servo marks of head h: the written sectors of the adjacent, previously written track (09 R282: tracks are written
in rising order) within ±1 wedge of the present one (05 R165). -/
def State.servoMark (s : State) (d : DieId) (h : HeadId) (reason : Nat) : State :=
  let x := s.die d
  let t := (x.head h).target
  if t = 0 then s
  else
    let w := x.clock.table.length
    let ps := s.layout d h (t - 1)
    ((List.range ps.length).filter fun i =>
        let p := ps.getD i default
        (nearWindow w x.clock.wedge p.window || (p.split && nearWindow w x.clock.wedge (p.window + 1))) &&
          x.data.media.contains (mediaKey h (t - 1) i)).foldl
      (fun s i => s.mark d ⟨h, ⟨BitVec.ofNat 22 (t - 1), BitVec.ofNat 16 i⟩, reason⟩) s

end Sys2Proof.Machine
end

