-- ==== Sys2Proof/Machine/ZoneOps.lean ====
section
/-! DEFINITION. Segment draws and returns, the journal's shared operation, the caches' versions, placement in a zone's
stream (09 R279 to R289, R297 to R300; 10 R304, R321; 11 R353 to R358). -/

namespace Sys2Proof.Machine

/-! ### Keys (10 R321, R323) -/

def State.keyDom (s : State) (d : DieId) (k : Nat) : KeyDomain := (s.die d).data.keys.getD k {}

/-- The XTS tweak of a data unit: LBA of its first block, RESET_COUNT (10 R321). -/
def tweak (d : DieId) (block resets : Nat) : Nat := d.val * 274877906944 + block + resets * 18446744073709551616

/-- Data as it is stored: ciphertext when the domain is KEYED (10 R304). -/
def State.stored (s : State) (d : DieId) (dom block resets : Nat) (bs : List Byte) : List Byte :=
  let k := s.keyDom d dom
  if k.state = .keyed then Config.xtsEncrypt k.key (tweak d block resets) bs else bs

/-! ### The journal (11 R353 to R355) -/

/-- Items of 32 bytes that a change takes: a descriptor's E0 to E2, one entry otherwise (11 R353). -/
def JItem.count : JItem → Nat
  | .zone _ _ => 3
  | .seg _ _ => 1
  | .frame _ _ => 1
  | .bitmap _ _ => 1

def JRec.bytes (r : JRec) : Nat := 32 + 32 * (r.items.map JItem.count).foldl (· + ·) 0

/-- Largest record: 255 items. -/
def maxRecord : Nat := 8192

def tailBytes (x : DieData) : Nat := (x.ring.map JRec.bytes).foldl (· + ·) 0

def State.tailLimit (s : State) (d : DieId) : Nat := s.getN Obj.journalTailMaxMib (dieInst d) * 1048576

/-- Journal room: none once the tail is within one maximum record of its limit (11 R355). -/
def State.journalRoom (s : State) (d : DieId) : Nat := s.tailLimit d - maxRecord - tailBytes (s.die d).data

/-- Write the journal tail to both copies of the checkpoint log; JOURNAL_HEAD then moves past it (11 R355), once the map
cache's lines from before it are in DRAM (15 R479). -/
def State.flushJournal (s : State) (d : DieId) : State :=
  (s.modMem d fun m => m.writeBackBefore ((s.die d).data.tail + 1)).modData d fun x => { x with log := x.log ++ x.ring, ring := [], head := x.tail + 1 }

/-- Use a frame index page: loaded into the pool if it is not there, the least recently used clean page making room; a
pool without one writes its oldest page to both homes first (09 R296). -/
def touchPage (pool page : Nat) (dirty : Bool) (x : DieData) : DieData :=
  let old := (x.pages.find? fun e => e.1 == page).any (·.2)
  let rest := x.pages.filter fun e => e.1 != page
  let over_ := decide (pool ≤ rest.length)
  let clean := (rest.find? fun e => !e.2).map (·.1)
  let victim := if over_ then (clean.orElse fun _ => rest.head?.map (·.1)) else none
  let home := match victim with
    | some p => if clean.isNone then insertNat p x.homePages else x.homePages
    | none => x.homePages
  { x with pages := (rest.filter fun e => some e.1 != victim) ++ [(page, dirty || old)], homePages := home }

/-- Apply one item to the map; a descriptor's EPOCH is the record's JSEQ (11 R353, R354). -/
def State.applyItem (s : State) (d : DieId) (jseq : Nat) : JItem → State
  | .zone z v => s.modZone d z fun o => { o with desc := { v with epoch := jseq % 281474976710656 } }
  | .seg n v => s.modData d fun x => { x with segs := x.segs.insert n v }
  | .frame k v =>
    let pool := s.getN Obj.framePagePoolMib (dieInst d) * 256
    s.modData d fun x =>
      { touchPage pool (k / 512) true x with frames := if v.len = 0 then x.frames.erase k else x.frames.insert k v }
  | .bitmap w v => s.modData d fun x => { x with bitmap := if v = 0 then x.bitmap.erase w else x.bitmap.insert w v }

/-- The item as the record states it. -/
def JItem.stamp (jseq : Nat) : JItem → JItem
  | .zone z v => .zone z { v with epoch := jseq % 281474976710656 }
  | i => i

/-- Append one record to the ring, write JOURNAL_TAIL, apply the changes (11 R354). The tail goes to the log first
where the record would take it past its limit (11 R355). -/
def State.journalFlags (s : State) (d : DieId) (asn : Nat) (flags : BitVec 8) (items : List JItem) : State :=
  let j := (s.die d).data.tail + 1
  let r : JRec := ⟨j, asn, flags, items.map (JItem.stamp j)⟩
  let s := if s.tailLimit d < tailBytes (s.die d).data + r.bytes then s.flushJournal d else s
  let rev := (s.die d).clock.rev
  let s := s.modData d fun x =>
    { x with ring := x.ring ++ [r], tail := j, tailRev := if x.ring.isEmpty then rev else x.tailRev }
  items.foldl (fun s i => s.applyItem d j i) s

def State.journal (s : State) (d : DieId) (asn : Nat) (items : List JItem) : State :=
  if items.isEmpty then s else s.journalFlags d asn 0 items

/-- Frame entry with the changes that wait to be appended (09 R297, 11 R354). -/
def State.frameLive (s : State) (d : DieId) (z f : Nat) : Frame :=
  let k := frameKey z f
  let pend := (s.die d).data.jq.flatMap fun p => p.items.filterMap fun
    | .frame j v => if j = k then some v else none
    | _ => none
  pend.getLastD (s.frame d z f)

/-! ### Segments (09 R282 to R285) -/

def State.headFailed (s : State) (d : DieId) (h : HeadId) : Bool := s.getB Obj.writeFailed (headInst d h)

/-- The head groups of width w of an actuator (09 R282). -/
def headGroups (a : Act) (w : Nat) : List (List HeadId) :=
  (List.range (12 / max 1 w)).map fun g => ((headsOf a).drop (g * w)).take w

/-- Eligible for a draw: no head stale or WRITE_FAILED (09 R285). -/
def State.eligible (s : State) (d : DieId) (hs : List HeadId) : Bool :=
  hs.all fun h => !(s.stale d h) && !(s.headFailed d h)

def State.bandFree (s : State) (d : DieId) (h : HeadId) (b : Nat) : Bool := (s.segAt d (s.bandNo d h b)).state == .free

/-- FREE_BANDS of a head. -/
def State.freeBands (s : State) (d : DieId) (h : HeadId) : Nat :=
  ((List.range (s.numBands d)).filter (s.bandFree d h)).length

/-- FREE_GROUPS_W12 of an actuator. -/
def State.freeGroups (s : State) (d : DieId) (a : Act) : Nat :=
  ((List.range (s.numBands d)).filter fun b => (headsOf a).all fun h => s.bandFree d h b).length

/-- A segment of width w on an actuator by rules 2 and 3 of 09 R285: its lead band. -/
def State.drawOn (s : State) (d : DieId) (a : Act) (w reserve : Nat) (last : Option Nat) (ok : List HeadId → Bool) : Option Nat :=
  let nb := s.numBands d
  let may := fun (hs : List HeadId) => ok hs && hs.all fun h => decide (reserve + 1 ≤ s.freeBands d h)
  let gs := (headGroups a w).filter may
  let free := fun (hs : List HeadId) (b : Nat) => hs.all fun h => s.bandFree d h b
  let lead := fun (hs : List HeadId) (b : Nat) => hs.head?.map fun h => s.bandNo d h b
  let same := match last with
    | none => none
    | some n =>
      match gs.find? fun hs => (hs.head?.map fun h => decide (h.val = n / max 1 nb)).getD false with
      | none => none
      | some hs => ((List.range nb).find? fun b => decide (n % max 1 nb < b) && free hs b).bind (lead hs)
  match same with
  | some n => some n
  | none => (List.range nb).findSome? fun b => (gs.find? fun hs => free hs b).bind fun hs => lead hs b

/-- What a draw finds (09 R284, R285). -/
inductive DrawResult where
  | seg (lead : Nat) (a : Act)
  | stale
  | exhausted
deriving DecidableEq, Repr

/-- The segment a zone's next draw would take (09 R285); `host` applies the rewrite reserve. -/
def State.drawChoice (s : State) (d : DieId) (z : Nat) (c : Content) (host : Bool) : DrawResult :=
  let w := (s.attrs d c).width
  let reserve := if host then s.getN Obj.rewriteReserveBands (dieInst d) else 0
  let total := fun (a : Act) =>
    (((headGroups a w).filter (s.eligible d)).flatMap fun hs => hs.map (s.freeBands d)).foldl (· + ·) 0
  let a : Act := match c.actuator with
    | some a => a
    | none => if total .B < total .A then .A else if total .A < total .B then .B else convAct z
  match s.drawOn d a w reserve c.segs.getLast? (s.eligible d) with
  | some n => .seg n a
  | none =>
    let acts := match c.actuator with
      | some a => [a]
      | none => [Act.A, Act.B]
    if host && acts.any fun a => (s.drawOn d a w reserve c.segs.getLast? fun _ => true).isSome then .stale else .exhausted

/-- ZONE_POOL_LOW, once until the count has climbed back above the threshold (09 R285). -/
def State.poolCheck (s : State) (d : DieId) (a : Act) : State :=
  let n := s.freeGroups d a
  let lim := s.getN Obj.poolLowGroups (dieInst d)
  let armed := match a with
    | .A => (s.die d).data.poolArmedA
    | .B => (s.die d).data.poolArmedB
  let set := fun (v : Bool) (s : State) => s.modData d fun x => match a with
    | .A => { x with poolArmedA := v }
    | .B => { x with poolArmedB := v }
  if n < lim then if armed then (set false s).raise d Ev.zonePoolLow else s
  else if lim < n then set true s else s

/-- Slots of a list of segments. -/
def State.segSlots (s : State) (d : DieId) (segs : List Nat) : Nat := (segs.map (s.segCapacity d)).foldl (· + ·) 0

/-- Items that make a zone's next segment IN_USE (09 R285, R294). -/
def State.drawItems (s : State) (d : DieId) (z : Nat) (c : Content) (lead : Nat) : List JItem :=
  let w := (s.attrs d c).width
  let seq := (s.die d).data.drawSeq % 16777216
  let hs := s.segHeads d lead w
  let b := lead % max 1 (s.numBands d)
  let own := hs.map fun h =>
    let n := s.bandNo d h b
    JItem.seg n
      { state := .inUse, lead := decide (n = lead), width := w, zone := z, drawSeq := seq
        next := if n = lead then 2097151 else lead, streamStart := if n = lead then s.segSlots d c.segs else 0 }
  match c.segs.getLast? with
  | none => own
  | some p => own ++ [.seg p { s.segAt d p with next := lead }]

/-- Give a drawn segment to the zone's newest contents (09 R285). -/
def State.takeSegment (s : State) (d : DieId) (z lead : Nat) (a : Act) : State :=
  let items := s.drawItems d z (s.zone d z).top lead
  let s := s.journal d 0 items
  let s := s.modData d fun x => { x with drawSeq := (x.drawSeq + 1) % 16777216 }
  (s.modZone d z fun v => v.modTop fun c => { c with actuator := some a, segs := c.segs ++ [lead] }).poolCheck d a

/-- Items that return a list of segments: RETIRED on WRITE_FAILED heads, else FREE (09 R281, R285). -/
def State.returnItems (s : State) (d : DieId) (leads : List Nat) : List JItem :=
  leads.flatMap fun n =>
    let b := n % max 1 (s.numBands d)
    (s.segHeads d n (s.segAt d n).width).map fun h =>
      .seg (s.bandNo d h b) { state := if s.headFailed d h then .retired else .free }

/-- Segments of contents that hold no data, and those that do (09 R275 rows 9 and 10). -/
def State.emptySegs (s : State) (d : DieId) (c : Content) : List Nat :=
  c.segs.filter fun n => decide (c.streamEnd * 16 + c.reserved ≤ (s.segAt d n).streamStart * 4096)

/-! ### Versions in the write cache (11 R337, R357, R358) -/

/-- Insert a version by ASN, newest first; a second arrival of the same write replaces the first. -/
def insertVer (v : CacheVer) (vs : List CacheVer) : List CacheVer :=
  (vs.filter fun w => decide (v.asn < w.asn)) ++ v :: vs.filter fun w => decide (w.asn < v.asn)

def State.versions (s : State) (d : DieId) (block : Nat) : List CacheVer := (s.die d).data.wc.getD block []

def State.putVersions (s : State) (d : DieId) (block : Nat) (vs : List CacheVer) : State :=
  s.modData d fun x => { x with wc := if vs.isEmpty then x.wc.erase block else x.wc.insert block vs }

/-- Dirty bytes of a die: every version not yet clean that is not staging (11 R348). -/
def dirtyBytes (x : DieData) : Nat :=
  (x.wc.entries.map fun e => (e.2.filter fun v => v.dirty).length).foldl (· + ·) 0 * 4096

/-- The zone holds dirty data in the write cache (09 R278). -/
def zoneDirty (x : DieData) (z : Nat) : Bool :=
  x.wc.entries.any fun e => zoneOf e.1 == z && e.2.any fun v => v.dirty

/-- The zone holds dirty or staging data (09 R302). -/
def zoneUnsettled (x : DieData) (z : Nat) : Bool :=
  x.wc.entries.any fun e => zoneOf e.1 == z && e.2.any fun v => v.dirty || v.staging

/-- The journal record of the write of an ASN is durable (11 R357). -/
def State.recorded (s : State) (d : DieId) (asn : Nat) : Bool :=
  match s.slots.find? asn with
  | none => true
  | some sl => sl.parts.all fun p => p.die != d || p.begun

/-- Contents of a block that a verb of some ASN must not lose: a read or verify part on the die, of a lower ASN than
`asn`, not yet applied, whose range holds the block (12 R392). -/
def State.readPending (s : State) (d : DieId) (block asn : Nat) : Bool :=
  s.slots.entries.any fun e =>
    let sl := e.2
    let op := sl.entry.toNat % 256
    let n := sl.entry.toNat / 4294967296 % 4294967296 + 1
    let lba := d.val * 274877906944 + block
    decide (sl.asn < asn) && (op == 1 || op == 5 || op == 8) && sl.fixed.isNone &&
      (op == 8 || (decide (sl.lba ≤ lba) && decide (lba < sl.lba + n))) &&
      sl.parts.any fun p => p.die == d && !p.applied

/-! ### Placement in a stream (09 R286, R287) -/

/-- Put one sector on the medium. -/
def State.putSector (s : State) (d : DieId) (h : HeadId) (loc : SectorLoc) (v : Sector) : State :=
  s.modData d fun x => { x with media := x.media.insert (mediaKey h loc.track.toNat loc.sector.toNat) v }

/-- Write one user block to a place of the medium (09 R299; 10 R304). -/
def State.putBlock (s : State) (d : DieId) (block dom resets : Nat) (seg : Option Nat) (h : HeadId) (loc : SectorLoc)
    (data : Block) : State :=
  let bs := blockBytes data
  let st := if (s.keyDom d dom).state = .keyed then blockOfBytes (s.stored d dom block resets bs) else data
  (s.putSector d h loc ⟨st, data, 0, s.writeSeq d seg⟩).modData d fun x => { x with unreadable := x.unreadable.erase block }

/-- The head may be written for destage: neither stale nor WRITE_FAILED (08 R265, 09 R275 row 13). -/
def State.headWritable (s : State) (d : DieId) (h : HeadId) : Bool := !(s.stale d h) && !(s.headFailed d h)

/-- Add a change to the newest waiting record. -/
def State.pendItem (s : State) (d : DieId) (items : List JItem) (clean : List (Nat × Nat)) : State :=
  s.modData d fun x =>
    match x.jq.getLast? with
    | none => x
    | some p => { x with jq := x.jq.dropLast ++ [{ p with items := p.items ++ items, clean := p.clean ++ clean }] }

/-- Open a waiting record for placed data. -/
def State.pendOpen (s : State) (d : DieId) : State := s.modData d fun x => { x with jq := x.jq ++ [⟨0, [], [], []⟩] }

/-- Drop the newest waiting record when nothing was put into it. -/
def State.pendClose (s : State) (d : DieId) : State :=
  s.modData d fun x =>
    match x.jq.getLast? with
    | none => x
    | some p => if p.asn = 0 ∧ p.items.isEmpty ∧ p.clean.isEmpty ∧ p.writes.isEmpty then { x with jq := x.jq.dropLast } else x

/-- Data of a placed block of an uncompressed frame. -/
def State.placedData (s : State) (d : DieId) (c : Content) (unit : Nat) : Option Block :=
  match s.streamPlace d c (unit / 256) with
  | none => none
  | some e => ((s.die d).data.media.find? (mediaKey e.2.1 e.2.2.track.toNat e.2.2.sector.toNat)).map Sector.payload

/-- Place one block at the end of a sequential zone's stream; none when its slot's head may not be written. -/
def State.appendBlock (s : State) (d : DieId) (z o : Nat) (data : Block) (settle : Nat) : Option State :=
  let c := (s.zone d z).desc.content
  match s.streamPlace d c (c.streamEnd / 256) with
  | none => none
  | some e =>
    if s.headWritable d e.2.1 then
      let s := s.putBlock d (z * zoneSpan + o) c.keyDomain c.resetCount (some e.1) e.2.1 e.2.2 data
      some (s.modZone d z fun v =>
        { v with desc := { v.desc with content := { v.desc.content with
            streamEnd := v.desc.content.streamEnd + 256, reserved := v.desc.content.reserved - settle } } })
    else none

/-- Leave slots of the stream unwritten: blocks recorded unreadable keep their place (15 R468). -/
def State.skipSlots (s : State) (d : DieId) (z n settle : Nat) : State :=
  s.modZone d z fun v =>
    { v with desc := { v.desc with content := { v.desc.content with
        streamEnd := v.desc.content.streamEnd + 256 * n, reserved := v.desc.content.reserved - settle * n } } }

/-- Place a run of a frame's blocks at the end of the stream, as far as it goes. -/
def State.appendRun (s : State) (d : DieId) (z settle : Nat) : List (Nat × Option Block) → State × Nat
  | [] => (s, 0)
  | e :: rest =>
    let next := match e.2 with
      | some b => s.appendBlock d z e.1 b settle
      | none => some (s.skipSlots d z 1 settle)
    match next with
    | none => (s, 0)
    | some s =>
      let r := s.appendRun d z settle rest
      (r.1, r.2 + 1)

/-- The stored blocks of an uncompressed frame, as data, those recorded unreadable without; none when one cannot be
had. -/
def State.frameBlocks (s : State) (d : DieId) (z f : Nat) : Option (List (Nat × Option Block)) :=
  let c := (s.zone d z).desc.content
  let fr := s.frameLive d z f
  (List.range (fr.len / 16)).mapM fun i =>
    let o := 64 * f + i
    match (s.versions d (z * zoneSpan + o)).find? fun v => v.resetCount == c.resetCount with
    | some v => some (o, some v.data)
    | none =>
      if (s.die d).data.unreadable.contains (z * zoneSpan + o) then some (o, none)
      else (s.placedData d c (fr.start + 256 * i)).map fun b => (o, some b)

/-- Place the next block of an uncompressed frame; a frame that no longer ends at STREAM_END is stored anew first, so
that it stays contiguous (09 R286). True when it was placed. -/
def State.placeNext (s : State) (d : DieId) (z o : Nat) (v : CacheVer) : State × Bool :=
  let f := o / 64
  let fr := s.frameLive d z f
  let e := (s.zone d z).desc.content.streamEnd
  let gap := o % 64 - fr.len / 16
  let old := if fr.len = 0 ∨ fr.start + 16 * fr.len = e then some [] else s.frameBlocks d z f
  match old with
  | none => (s, false)
  | some old =>
    let r := s.appendRun d z 0 old
    if r.2 < old.length then (r.1, false)
    else
      match (r.1.skipSlots d z gap 4096).appendBlock d z o v.data 4096 with
      | none => (r.1, false)
      | some s =>
        let start := if old.isEmpty ∧ fr.len ≠ 0 then fr.start else e
        (s.pendItem d [.frame (frameKey z f) ⟨start, (o % 64 + 1) * 16, 0⟩] [(z * zoneSpan + o, v.asn)], true)

/-! ### Zones that lose their heads (09 R275 row 13, R281) -/

/-- Whether a head holds a band of one of the contents' segments. -/
def State.segOnHead (s : State) (d : DieId) (h : HeadId) (c : Content) : Bool :=
  c.segs.any fun n => (s.segHeads d n (s.segAt d n).width).contains h

/-- Make a zone READ_ONLY: its partial husk is to be stored short (09 R275 row 13, R288). -/
def State.makeReadOnly (s : State) (d : DieId) (z : Nat) : State :=
  let v := s.zone d z
  let s := s.journal d 0 [.zone z { v.desc with state := .readOnly }]
  (s.modZone d z fun v => { v with astate := .readOnly, short := true }).raise d Ev.zoneReadOnly

/-- Mark a head WRITE_FAILED (09 R281): its FREE bands retire, zones with a segment on it become READ_ONLY. -/
def State.writeFailed (s : State) (d : DieId) (h : HeadId) : State :=
  if s.headFailed d h then s
  else
    let s := s.put Obj.writeFailed (headInst d h) 1
    let bs := (List.range (s.numBands d)).filter (s.bandFree d h)
    let s := s.journal d 0 (bs.map fun b => .seg (s.bandNo d h b) { state := .retired })
    let open_ := fun (v : Zone) => v.desc.state == .implicitOpen || v.desc.state == .explicitOpen || v.desc.state == .closed
    let zs := ((s.die d).data.zones.entries.filter fun e =>
      open_ e.2 && !(s.isConv d e.1) && (s.segOnHead d h e.2.desc.content || s.segOnHead d h e.2.top)).map (·.1)
    let s := zs.foldl (fun s z => s.makeReadOnly d z) s
    (s.poolCheck d .A).poolCheck d .B

end Sys2Proof.Machine
end

