-- ==== Sys2Proof/Machine/Tables.lean ====
section
/-! DEFINITION. Acceptance of the table objects and their decoding (02 R53, R54; 03 R82, R83; 04 R115, R116, R122,
R123; 05 R145, R146; 06 R174, R175, R210; 07 R215, R216; 08 R244, R261; 09 R301). -/

namespace Sys2Proof.Machine

/-- A table of a fixed length whose CRC at `at` is that of the bytes from `from_` to its end. -/
def crcOver (bs : List Byte) (len at_ from_ : Nat) : Bool :=
  bs.length == len && fieldU bs at_ 4 == crc32c (bs.drop from_)

/-- A value of a table that waits for a reset, if any, else the one in force (14 R436). -/
def State.domNext (s : State) (o : ObjDef) (inst : Nat) : List Byte :=
  (s.rwr.find? (objKey o.index o.sub inst)).getD (s.dom o o.sub inst [])

/-! ### Servo format (04 R115, R116) -/

def servoFormatOk (bs : List Byte) : Bool :=
  crcOver bs 64 12 16 && fieldI bs 16 2 == 0 && ((List.range 24).all fun h => decide (|fieldI bs (16 + 2 * h) 2| ≤ 4096)) &&
    decide (360 ≤ fieldU bs 2 2 ∧ fieldU bs 2 2 ≤ 1024) && decide (1 ≤ fieldU bs 4 4 ∧ fieldU bs 4 4 ≤ 4194304)

/-- W of the servo format that the next reset would put in force (04 R116). -/
def State.nextServoW (s : State) (d : DieId) : Nat :=
  match s.rwr.find? (objKey Obj.servoFormat.index 0 (dieInst d)) with
  | some bs => fieldU bs 2 2
  | none => (s.die d).servoW

def State.nextTracks (s : State) (d : DieId) : Nat :=
  match s.rwr.find? (objKey Obj.servoFormat.index 0 (dieInst d)) with
  | some bs => fieldU bs 4 4
  | none => (s.die d).tracks

/-- Put a servo format in force; an empty one is the factory's (log 10). -/
def Die.useServoFormat (x : Die) (bs : List Byte) : Die :=
  if bs.isEmpty then { x with servoW := 600, tracks := 1200000, skew := List.replicate 24 0, servoMatch := true }
  else
    { x with
      servoW := fieldU bs 2 2, tracks := fieldU bs 4 4
      skew := (List.range 24).map fun h => fieldI bs (16 + 2 * h) 2
      servoMatch := fieldU bs 8 4 == x.hdaCrc.toNat }

/-! ### Wedge-angle table (02 R53, R54) -/

def risingFrom : Nat → List Nat → Bool
  | _, [] => true
  | p, n :: r => decide (p < n) && risingFrom n r

def wedgeEntries (bs : List Byte) : List Nat := (List.range (fieldU bs 2 2)).map fun k => fieldU bs (16 + 4 * k) 3

def wedgeTableOk (bs : List Byte) (w : Nat) : Bool :=
  let es := wedgeEntries bs
  crcOver bs (16 + 4 * w) 12 16 && fieldU bs 2 2 == w && es.headD 1 == 0 && risingFrom 0 (es.drop 1) &&
    (List.range w).all fun k =>
      fieldU bs (19 + 4 * k) 1 == 0 && decide (|(es.getD k 0 : Int) - (uniformEntry w k : Int)| ≤ 4096)

def AngleClock.useWedgeTable (c : AngleClock) (hda : BitVec 32) (bs : List Byte) : AngleClock :=
  if bs.isEmpty then { c with table := (List.range 600).map (uniformEntry 600), tableMatch := true }
  else { c with table := wedgeEntries bs, tableMatch := fieldU bs 4 4 == hda.toNat }

/-! ### Commutation table (03 R82, R83) -/

def commTableOk (bs : List Byte) : Bool :=
  let e := fun i => fieldI bs (24 + 2 * i) 2
  crcOver bs 8216 20 24 && decide (2 ≤ fieldU bs 2 1 ∧ fieldU bs 2 1 ≤ 8) &&
    (List.range 4096).all (fun i => e i != -32768) &&
    (List.range 2048).all fun i => decide (|e (i + 2048) + e i| ≤ 2)

def Spindle.useCommTable (p : Spindle) (hda : BitVec 32) (bs : List Byte) : Spindle :=
  if bs.isEmpty then { p with table := {}, tableMatch := true }
  else
    { p with
      table :=
        { polePairs := fieldU bs 2 1, elecOffset := BitVec.ofNat 24 (fieldU bs 4 3), rPhase := fieldU bs 8 2
          lPhase := fieldU bs 10 2, ke := fieldI bs 12 4, serialCrc := BitVec.ofNat 32 (fieldU bs 16 4)
          entries := (List.range 4096).map fun i => fieldI bs (24 + 2 * i) 2 }
      tableMatch := fieldU bs 16 4 == hda.toNat }

/-! ### Chevron geometry (04 R122, R123) -/

def chevronOk (bs : List Byte) : Bool :=
  crcOver bs 336 12 16 &&
    ((List.range 32).all fun i =>
      let d0 := fieldU bs (16 + 8 * i) 4
      let k := fieldU bs (20 + 8 * i) 4
      decide (576 * 65536 ≤ d0 ∧ d0 ≤ 704 * 65536) && decide (48 * 65536 ≤ k ∧ k ≤ 80 * 65536)) &&
    (List.range 32).all fun j => decide (|fieldI bs (272 + 2 * j) 2| ≤ 64)

/-! ### Coefficient set (05 R145, R146) -/

def loopAt (bs : List Byte) (n : Nat) : LoopCoeff :=
  let o := 48 + 664 * n
  { lutShift := fieldU bs o 1, nbiq := fieldU bs (o + 1) 1, uLimit := fieldU bs (o + 2) 2, pLimit := fieldU bs (o + 4) 2
    intLimit := fieldU bs (o + 6) 2, ki := fieldU bs (o + 12) 4, kff0 := fieldI bs (o + 16) 4, kff1 := fieldI bs (o + 20) 4
    kaff := fieldI bs (o + 24) 4
    biquads := (List.range 6).map fun j => (List.range 5).map fun i => fieldI bs (o + 32 + 20 * j + 4 * i) 4
    lut := (List.range 256).map fun i => fieldU bs (o + 152 + 2 * i) 2 }

def coeffAt (bs : List Byte) : CoeffSet :=
  { serialCrc := BitVec.ofNat 32 (fieldU bs 4 4)
    weights := (List.range 12).map fun j => fieldU bs (16 + 2 * j) 2
    loops := (List.range 13).map (loopAt bs) }

/-- |A2| < 1 and |A1| < 1 + A2, in Q2.30. -/
def biquadOk (b : List Int) : Bool :=
  let one : Int := 1073741824
  decide (|b.getD 4 0| < one) && decide (|b.getD 3 0| < one + b.getD 4 0)

def loopOk (l : LoopCoeff) : Bool :=
  decide (l.lutShift ≤ 8) && decide (l.nbiq ≤ 6) && decide (1 ≤ l.uLimit ∧ l.uLimit ≤ 32767) &&
    decide (l.pLimit ≤ l.uLimit) && decide (l.intLimit ≤ l.uLimit) && (l.biquads.take l.nbiq).all biquadOk

def coeffOk (bs : List Byte) : Bool :=
  let c := coeffAt bs
  crcOver bs 8680 12 16 && fieldU bs 2 1 == 13 && (c.weights.any fun w => w != 0) && c.loops.all loopOk

/-! ### Recording format (06 R174, R175, R185) -/

/-- The wedge table that the next reset would put in force. -/
def State.nextWedges (s : State) (d : DieId) : List Nat :=
  match s.rwr.find? (objKey Obj.wedgeAngleTable.index 0 (dieInst d)) with
  | some bs => wedgeEntries bs
  | none => (s.die d).clock.table

/-- DATA_GUARD_AU that the next reset would put in force. -/
def State.nextGuard (s : State) (d : DieId) : Nat :=
  match s.rwr.find? (objKey Obj.dataGuardAu.index Obj.dataGuardAu.sub (dieInst d)) with
  | some bs => ofLeBytes bs
  | none => s.guardAu d

def zeros (bs : List Byte) (off n : Nat) : Bool := ((bs.drop off).take n).all (· == 0)

def regionOk (bs : List Byte) (table : List Nat) (guard r : Nat) : Bool :=
  let o := 16 + 32 * r
  let bpr := fieldU bs (o + 4) 4
  decide (8000000 ≤ bpr ∧ bpr ≤ 128000000) && zeros bs (o + 10) 2 && zeros bs (o + 27) 5 &&
    ((List.range 8).all fun i => decide (|fieldI bs (o + 12 + i) 1| ≤ 24)) && fieldU bs (o + 20) 1 == 32 &&
    ((List.range table.length).all fun k => decide (36912 ≤ windowBits table guard bpr k)) &&
    fieldU bs (o + 8) 2 == (layoutOf table guard bpr).length

def recordingFormatOk (bs : List Byte) (table : List Nat) (guard tracks : Nat) : Bool :=
  let n := fieldU bs 2 2
  let starts := (List.range n).map fun r => fieldU bs (16 + 32 * r) 4
  crcOver bs 1040 12 16 && decide (1 ≤ n ∧ n ≤ 32) && starts.headD 1 == 0 && risingFrom 0 (starts.drop 1) &&
    starts.all (fun t => decide (t < tracks)) && (List.range n).all (regionOk bs table guard) &&
    zeros bs (16 + 32 * n) (32 * (32 - n))

/-! ### Preamplifier initialisation (06 R210) -/

def preampInitOk (bs : List Byte) : Bool :=
  decide (fieldU bs 4 2 ≤ 255) && crcOver bs (16 + 4 * fieldU bs 4 2) 12 16

/-! ### Assist table (07 R215, R216) -/

def assistTableOk (bs : List Byte) (mode regions : Nat) : Bool :=
  let p := fun (c : Nat) => fieldU bs 24 2 * 256 + fieldU bs 26 2 * c
  crcOver bs 160 12 16 && fieldU bs 2 1 == mode && decide (fieldU bs 18 1 ≤ 4) && decide (fieldU bs 20 2 ≤ 1023) &&
    ((List.range regions).all fun r =>
      let c := fieldU bs (32 + 4 * r) 2
      decide (fieldU bs 16 2 ≤ c ∧ c ≤ fieldU bs 20 2) && decide (p c ≤ fieldU bs 22 2 * 256) &&
        (mode != 2 || fieldU bs (34 + 4 * r) 1 == 0)) &&
    (mode != 1 || fieldU bs 28 2 % 4096 != 0)

/-! ### Defect list (09 R301) -/

/-- (track, sector) pairs of a list. -/
def defectEntries (bs : List Byte) : List (Nat × Nat) :=
  (List.range (fieldU bs 4 4)).map fun i =>
    let v := fieldU bs (16 + 8 * i) 8
    (v % 4194304, v / 4194304 % 65536)

def defectListOk (bs : List Byte) : Bool :=
  let n := fieldU bs 4 4
  decide (n ≤ 65536) && crcOver bs (16 + 8 * n) 12 16 && fieldU bs 0 2 == 1 && zeros bs 2 2 &&
    ((List.range n).all fun i => fieldU bs (16 + 8 * i) 8 < 2 ^ 38) &&
    risingFrom 0 ((defectEntries bs).map fun e => e.1 * 65536 + e.2 + 1)

/-! ### Calibration records (08 R244 step 1, R258, R261) -/

/-- Payload length of a kind (08 R258). -/
def calLength : Nat → Nat
  | 1 => 2184
  | 2 => 128
  | 3 => 160
  | 4 => 336
  | 7 => 6
  | 9 => 8
  | _ => 4

def filterOk (cutoff boost : Nat) : Bool := decide (20 ≤ cutoff ∧ cutoff ≤ 45) && decide (boost ≤ 14)

def State.regionCount (s : State) (d : DieId) (inst : Nat) : Nat :=
  match selHead inst with
  | some h => (s.regions d h).length
  | none => 0

/-- The acceptance rules of 08 R244 step 1 for a kind's payload at an instance. -/
def State.payloadOk (s : State) (d : DieId) (kind inst : Nat) (p : List Byte) : Bool :=
  let n := s.regionCount d inst
  p.length == calLength kind &&
  match kind with
  | 1 =>
    decide (fieldU p 0 1 ≤ 240) && filterOk (fieldU p 1 1) (fieldU p 2 1) && fieldU p 3 1 == 0 &&
      decide (0 ≤ fieldI p 4 4 ∧ fieldI p 4 4 ≤ 64 * 65536) &&
      (List.range n).all fun r =>
        let o := 8 + 68 * r
        filterOk (fieldU p o 1) (fieldU p (o + 1) 1) && zeros p (o + 2) 2 &&
          (List.range 32).all fun t => decide (|fieldI p (o + 4 + 2 * t) 2| ≤ 32759)
  | 2 => (List.range n).all fun r => decide (fieldU p (4 * r) 2 ≤ 1023) && decide (fieldU p (4 * r + 2) 2 ≤ 1023)
  | 3 => assistTableOk p (s.assistMode d) n
  | 4 => chevronOk p
  | 5 => decide (4096 ≤ fieldI p 0 4 ∧ fieldI p 0 4 ≤ 65536)
  | 6 => decide (32768 ≤ fieldI p 0 4 ∧ fieldI p 0 4 ≤ 131072)
  | 7 => (List.range 3).all fun i => decide (|fieldI p (2 * i) 2| ≤ 256)
  | 8 => fieldU p 3 1 == 0
  | 9 => decide (1000 ≤ fieldU p 0 4 ∧ fieldU p 0 4 ≤ 1000000) && decide (fieldU p 4 4 ≤ 2000)
  | _ => false

/-- A record's bytes (08 R258). -/
def recordBytes (kind inst origin seq : Nat) (temp : Int) (poh serial revs : Nat) (quality : BitVec 64)
    (payload : List Byte) : List Byte :=
  let body := [BitVec.ofNat 8 kind, BitVec.ofNat 8 inst, BitVec.ofNat 8 origin, 0] ++ leBytes 4 seq ++ intBytes 2 temp ++
    leBytes 2 payload.length ++ leBytes 4 poh ++ leBytes 4 serial ++ leBytes 4 revs ++ leBytes 8 quality.toNat ++ payload
  body ++ leBytes 4 (crc32c body)

end Sys2Proof.Machine
end

