-- ==== Sys2Proof/Machine/Budget.lean ====
section
/-! DEFINITION. Readings of the housekeeping ADC, the temperature references of calibration, the dirty budget and the
write-back state (08 R263, 11 R346 to R350, 18 R531 to R533). -/

namespace Sys2Proof.Machine

/-- °C of an on-die sensor or remote diode code (18 R533). -/
def sensorC (code : BitVec 12) : Rat := (code.toNat : Rat) / 16 - 64

/-- °C of a thermistor code (18 R533). -/
def State.thermistorC (s : State) (d : DieId) (code : BitVec 12) : Rat :=
  let i := dieInst d
  let c : Rat := (code.toNat : Rat)
  let r := (s.get Obj.thPullupOhm i : Rat) * c / (4096 - c)
  1 / (100 / 29815 + Config.ln (r / (s.get Obj.thR25Ohm i : Rat)) / (s.get Obj.thBeta i : Rat)) - 27315 / 100

/-- HOLDUP_SNS in mV, whole millivolts (18 R533). -/
def State.holdupMv (s : State) (d : DieId) (code : BitVec 12) : Nat :=
  ((code.toNat : Rat) * 1800 / 4096 * s.getQ Obj.holdupDiv (dieInst d)).floor.toNat

/-- Reference temperature of [d] records: mean of TH0 and TH1 of the last round; none before the first round since the
die's reset (08 R263). -/
def State.dieRef (s : State) (d : DieId) : Option Rat :=
  let k := (s.die d).hk
  if k.rounds = 0 then none
  else some ((s.thermistorC d (k.last.getD 11 0) + s.thermistorC d (k.last.getD 12 0)) / 2)

/-- Temperature of a head from its latest TEMP report, °C. -/
def Head.celsius (x : Head) : Option Rat := x.temp.map fun t => (t : Rat) / 16

/-- Reference temperature of an instance (08 R263). -/
def State.tempRef (s : State) (d : DieId) (inst : Nat) : Option Rat :=
  match selHead inst with
  | some h =>
    match ((s.die d).head h).celsius with
    | some t => some t
    | none => s.dieRef d
  | none =>
    match selAct inst with
    | some a =>
      let ts := (headsOf a).filterMap fun h => ((s.die d).head h).celsius
      if ts.isEmpty then s.dieRef d else some (ts.sum / (ts.length : Rat))
    | none => s.dieRef d

/-! ### The dirty budget (11 R346 to R350) -/

/-- HOLDUP_C_UF in force: 0 without a valid HOLDUP_CAP record (08 R265). -/
def State.holdupC (s : State) (d : DieId) : Nat :=
  if s.recordValid 9 (dieInst d) then fieldU (s.calPayload d 9 (dieInst d)) 0 4 else 0

/-- Dirty budget in bytes at a reservoir voltage in mV (11 R346). -/
def State.budgetAt (s : State) (d : DieId) (mv : Nat) : Nat :=
  let i := dieInst d
  let vmin : Rat := (s.get Obj.holdupVminMv i : Rat) / 1000
  let v : Rat := (mv : Rat) / 1000
  let avail := 1 / 2 * ((s.holdupC d : Rat) / 1000000) * (v * v - vmin * vmin)
  let eByte := s.getQ Obj.energyPerByteNj i / 1000000000
  let fixed : Rat := ((s.tailLimit d + 8192 : Nat) : Rat)
  let blocks := ((avail - (s.get Obj.holdupReserveMj i : Rat) / 1000 - eByte * fixed) / (eByte * 4128)).floor
  min (blocks.toNat * 4096) (s.getN Obj.dirtyLimitMib i * 1048576)

/-- V_CALC: the lowest conversion of the last two rounds, 0 without them; no higher than V_end during a HOLDUP_CAP run
(08 R256, 11 R346). -/
def State.vCalcNow (s : State) (d : DieId) : Nat :=
  let x := (s.die d).data
  match x.sns1, x.sns2 with
  | some a, some b => min (min a b) (x.vEnd.getD (min a b))
  | _, _ => 0

/-- Recompute the budget; a budget below DIRTY_BYTES is reported once, until they fit again (11 R346, R349). -/
def State.budgetUpdate (s : State) (d : DieId) : State :=
  let v := s.vCalcNow d
  let b := s.budgetAt d v
  let was := (s.die d).data.overBudget
  let short := decide (b < dirtyBytes (s.die d).data)
  let s := s.modData d fun x =>
    { x with vCalc := v, budget := b, overBudget := short, overSeen := x.overSeen || short }
  if short && !was then s.raise d Ev.dirtyOverBudget else s

/-- The next acorn area is erased and the NAND port is up (11 R347, R365). -/
def acornReady (x : DieData) : Bool :=
  (if x.nextArea then x.area1 else x.area0) == .erased && x.nandUp

/-- WRITE_BACK_STATE (11 R347). -/
def State.writeBackState (s : State) (d : DieId) : Nat :=
  let x := (s.die d).data
  if !(s.getB Obj.writeCacheEnable (dieInst d)) then 2
  else if s.holdupC d = 0 ∨ x.sns1.isNone ∨ x.sns2.isNone then 3
  else if !(acornReady x) then 4
  else if x.pfail.isSome then 5
  else 1

/-- A write-back of some bytes may be admitted now (11 R348, R349). -/
def State.writeBackFits (s : State) (d : DieId) (bytes : Nat) : Bool :=
  let x := (s.die d).data
  s.writeBackState d == 1 && decide (dirtyBytes x ≤ x.budget) && decide (dirtyBytes x + bytes ≤ x.budget)

end Sys2Proof.Machine
end

