-- ==== Sys2Proof/Machine/Servo.lean ====
section
/-! DEFINITION. Position sensing: one wedge of one head, and the consequences of unreadable wedges (04). -/

namespace Sys2Proof.Machine

/-! ### Fields of a wedge -/

/-- Even parity over the twelve bits of the wedge index field (04 R112). -/
def indexParityOk (v : BitVec 12) : Bool := ((List.range 12).filter fun i => v.getLsbD i).length % 2 == 0

def indexOf (v : BitVec 12) : Nat := v.toNat % 1024

/-- Track number from reflected binary Gray bits, most significant first (04 R112). -/
def grayDecode (bits : List Bool) : Nat :=
  (bits.foldl (fun (acc : Nat × Bool) b => let v := acc.2 != b; (acc.1 * 2 + (if v then 1 else 0), v)) (0, false)).1

/-- The Gray bits with ambiguous ones taken as `v`. -/
def grayBits (v : Bool) (cells : List GrayCell) : List Bool :=
  cells.map fun
    | .zero => false
    | .one => true
    | .ambiguous => v
    | .equalSign => false

/-- Track number T, the one ambiguous bit resolved toward the reference; none when T is invalid (04 R125). -/
def grayTrack (cells : List GrayCell) (ref : Rat) : Option Nat :=
  let amb := (cells.filter (· == .ambiguous)).length
  if cells.any (· == .equalSign) || decide (2 ≤ amb) then none
  else
    let t0 := grayDecode (grayBits false cells)
    let t1 := grayDecode (grayBits true cells)
    if amb = 0 then some t0
    else if ratAbs ((t1 : Rat) - ref) < ratAbs ((t0 : Rat) - ref) then some t1 else some t0

/-! ### Chevron position (04 R118 to R124) -/

/-- What one group gave: y in tracks and the eye in au. -/
structure GroupPos where
  y : Rat
  eye : Rat
deriving DecidableEq, Repr

def ratMean (xs : List Rat) : Rat := if xs.isEmpty then 0 else xs.foldl (· + ·) 0 / xs.length

/-- The arrivals of pair i in au. -/
def pairAu (p : StripePair) : Rat × Rat := ((p.a : Rat) / 256, (p.b : Rat) / 256)

/-- Position and eye of a group, none when it is not valid (04 R120, R121). -/
def groupPosition (pairs : List StripePair) (d0 k limit : Rat) : Option GroupPos :=
  let v := ((List.range pairs.length).zip pairs).filter fun e => e.2.ok
  match v with
  | [] => none
  | lo :: _ =>
    let hi := v.getLastD lo
    if v.length < 3 then none
    else
      let diff := fun (e : Nat × StripePair) => (pairAu e.2).2 - (pairAu e.2).1
      let dMeas := ratMean (v.map diff)
      let sMeas := (((pairAu hi.2).1 - (pairAu lo.2).1) + ((pairAu hi.2).2 - (pairAu lo.2).2)) / (2 * ((hi.1 : Rat) - lo.1))
      let eye := (v.map fun e => ratAbs (diff e - dMeas)).foldl max 0
      let y := (dMeas / sMeas * 128 - d0) / k
      if sMeas ≠ 0 ∧ eye ≤ limit ∧ -2 ≤ y ∧ y < 2 then some ⟨y, eye⟩ else none

/-- A geometry column at a track: linear between band centres, the outermost values beyond them (04 R122). -/
def bandValue (tracks : Nat) (v : Nat → Rat) (x : Rat) : Rat :=
  let step : Rat := (tracks : Rat) / 16
  let q := x / step - 1 / 2
  if q ≤ 0 then v 0
  else if 15 ≤ q then v 15
  else
    let i := q.floor.toNat
    v i + (v (i + 1) - v i) * (q - i)

/-- D0 and K of group g (0 for P, 1 for Q) of a head at a position; the factory table holds the nominal values
(04 R122; log 10). -/
def State.geometry (s : State) (d : DieId) (h : HeadId) (g : Nat) (x : Rat) : Rat × Rat :=
  let t := s.dom Obj.chevronGeometry 0 (headInst d h) []
  if t.isEmpty then (640, 64)
  else
    let n := (s.die d).tracks
    let col := fun o b => (fieldU t (16 + 16 * b + 8 * g + o) 4 : Rat) / 65536
    (bandValue n (col 0) x, bandValue n (col 4) x)

/-- x from a group's y, the period chosen to bring it nearest the reference (04 R124). -/
def nearestPeriod (base y ref : Rat) : Rat := 4 * (((ref - base - y) / 4 + 1 / 2).floor : Rat) + base + y

/-- Position and GROUP code from the valid groups, with the eye of the groups used (04 R124, R128). -/
def combineGroups (p q : Option GroupPos) (ref : Rat) : Option (Rat × Nat × Rat) :=
  let xp := fun (g : GroupPos) => nearestPeriod 2 g.y ref
  let xq := fun (g : GroupPos) => nearestPeriod 0 g.y ref
  match p, q with
  | none, none => none
  | some a, none => some (xp a, 1, a.eye)
  | none, some b => some (xq b, 2, b.eye)
  | some a, some b =>
    let sa := 2 - ratAbs a.y
    let sb := 2 - ratAbs b.y
    if 3 / 4 ≤ sa ∧ 3 / 4 ≤ sb then some ((xp a + xq b) / 2, 3, max a.eye b.eye)
    else if sb ≤ sa then some (xp a, 1, a.eye)
    else some (xq b, 2, b.eye)

/-! ### The wedge -/

/-- The profile generator of an actuator is executing a seek (04 R124, R129; 05 R155: it advances in both states). -/
def Actuator.seeking (x : Actuator) : Bool := x.state == .seeking || x.state == .unloading

/-- Predicted position in LSB (04 R129). -/
def Head.predict (x : Head) (a : Actuator) : Int :=
  if a.seeking then x.x1 + roundNear (a.v * 4096) else x.x1 + clampSym 64 (x.x1 - x.x2)

/-- Signed distance in 2^-8 au of an arrival from ENTRY[k] + SKEW (04 R117). -/
def samDistance (entry : Nat) (skew : Int) (arrival : BitVec 56) : Int :=
  (BitVec.ofInt 32 ((arrival.toNat : Int) - ((entry : Int) + skew) * 256)).toInt

/-- The wedge whose nominal place lies nearest an arrival, and the distance. -/
def nearestWedge (table : List Nat) (skew : Int) (arrival : BitVec 56) : Nat × Int :=
  ((List.range table.length).zip table).foldl
    (fun best e =>
      let v := samDistance e.2 skew arrival
      if v.natAbs < best.2.natAbs then (e.1, v) else best)
    (0, samDistance (table.getD 0 0) skew arrival)

/-- What the die knows of a wedge before its position: SAM found in its window, the expected wedge (04 R117). -/
def State.samCheck (s : State) (d : DieId) (h : HeadId) (x : WedgeSignal) : Bool × Nat :=
  let dd := s.die d
  match x.sam with
  | none => (false, 0)
  | some a =>
    if dd.clock.state = .locked then
      let r := nearestWedge dd.clock.table (dd.skew.getD h.val 0) a
      (decide (r.2.natAbs ≤ s.getN Obj.samWindowAu (dieInst d) * 256), r.1)
    else (true, indexOf x.index)

/-- The position measurement of one wedge. -/
structure Measured where
  x : Option (Rat × Nat × Rat)
  t : Option Nat
  gray : Bool
  index : Bool
  rro : Bool
  rroMiss : Bool
  corrected : Rat
deriving Repr

/-- Chevron, Gray and RRO of a wedge whose SAM was found (04 R120 to R127). -/
def State.measure (s : State) (d : DieId) (h : HeadId) (x : WedgeSignal) (k : Nat) : Measured :=
  let i := dieInst d
  let dd := s.die d
  let hd := dd.head h
  let a := dd.act h.act
  let pred : Rat := (hd.predict a : Rat) / 4096
  let t := grayTrack x.gray pred
  let ref : Rat := match t with
    | some v => if a.seeking || hd.sam.isNone then (v : Rat) else pred
    | none => pred
  let cur : Rat := match hd.sam with
    | some _ => (hd.x1 : Rat) / 4096
    | none => ref
  let limit := s.getQ Obj.eyeLimitAu i
  let gp := s.geometry d h 0 cur
  let gq := s.geometry d h 1 cur
  let pos := combineGroups (groupPosition x.p gp.1 gp.2 limit) (groupPosition x.q gq.1 gq.2 limit) ref
  let far := fun (lim : Rat) => match pos, t with
    | some p, some v => decide (lim < ratAbs (p.1 - v))
    | _, none => true
    | none, some _ => false
  let idx := !(indexParityOk x.index) || indexOf x.index != k
  let on := s.getB Obj.rroEnable i && pos.isSome
  let empty := decide (x.rro.toNat / 16 = 0x800)
  let crcOk := decide (crc4 (x.rro.toNat / 16) = x.rro.toNat % 16)
  let use := on && !empty && crcOk && !(far (1 / 2))
  let corr : Int := (x.rro.extractLsb' 4 12).toInt
  { x := pos, t := t, gray := far (3 / 4), index := idx, rro := use
    rroMiss := on && !empty && !use
    corrected := match pos with
      | none => 0
      | some p => p.1 * 4096 + (if use then (corr : Rat) else 0) }

/-- Pack a position record (04 R128). -/
def packRecord (pos pes : Int) (valid predicted : Bool) (group : Nat) (rro gray index : Bool) (miss : Nat) (eye : Rat) :
    BitVec 64 :=
  let b := fun (c : Bool) (n : Nat) => if c then 2 ^ n else 0
  BitVec.ofNat 64 ((BitVec.ofInt 34 pos).toNat + (BitVec.ofInt 16 pes).toNat * 2 ^ 34 + b valid 50 + b predicted 51 +
    group * 2 ^ 52 + b rro 54 + b gray 55 + b index 56 + min 7 miss * 2 ^ 57 + min 15 (eye * 8).floor.toNat * 2 ^ 60)

/-- PES of a position against a head's target track, saturated (04 R128). -/
def pesOf (pos : Int) (target : Nat) : Int := clampSym 32767 (pos - (target : Int) * 4096)

/-- PES field of a record. -/
def recordPes (r : BitVec 64) : Int := (r.extractLsb' 34 16).toInt

def recValidBit (r : BitVec 64) : Bool := r.getLsbD 50

def recordPosition (r : BitVec 64) : Nat := (r.extractLsb' 0 34).toNat

/-- An invalid wedge: the position is predicted and the miss run grows (04 R129, R130). -/
def State.missWedge (s : State) (d : DieId) (h : HeadId) (gray index : Bool) : State :=
  let s := s.modDie d fun dd => dd.modHead h fun x =>
    let p := x.predict (dd.act h.act)
    let miss := min 255 (x.missRun + 1)
    { x with
      record := packRecord p (pesOf p x.target) false true 0 false gray index miss 0
      missRun := miss, validRun := 0, recRun := 0, x2 := x.x1, x1 := p }
  s.bump Obj.missedWedges (headInst d h)

/-- A wedge valid for position (04 R128 to R131, R133). -/
def State.hitWedge (s : State) (d : DieId) (h : HeadId) (m : Measured) (group : Nat) (eye : Rat) : State :=
  let join := s.getN Obj.rejoinCount (dieInst d)
  let p := roundNear m.corrected
  s.modHead d h fun x =>
    { x with
      record := packRecord p (pesOf p x.target) true false group m.rro m.gray false 0 eye
      missRun := 0, validRun := x.validRun + 1, recRun := x.recRun + 1, maHeld := false
      liveValid := x.liveValid + 1, joined := x.joined || decide (join ≤ x.liveValid + 1)
      x2 := if x.sam.isNone then p else x.x1, x1 := p, eye := eye }

/-- DEMOD_WEDGE (04 R117 to R133): one head's wedge gives its record, on time or too late. -/
def execDemodWedge (d : DieId) (h : HeadId) (x : WedgeSignal) (s : State) : Res :=
  onDie d s fun s =>
    let hd := (s.die d).head h
    let i := headInst d h
    when hd.live (fun s =>
      let sk := s.samCheck d h x
      let m := s.measure d h x sk.2
      let gray := sk.1 && m.gray
      let idx := sk.1 && m.index
      let s := if gray then s.bump Obj.grayMismatchCount i else s
      let s := if idx then s.bump Obj.indexMismatchCount i else s
      let s := if sk.1 && m.rroMiss then s.bump Obj.rroMissCount i else s
      let bad := hd.grayInvalid && gray
      let s' := match m.x with
        | some p =>
          if sk.1 && !idx && !bad && !x.late then s.hitWedge d h m p.2.1 p.2.2 else s.missWedge d h gray idx
        | none => s.missWedge d h gray idx
      let s' := if x.late then s'.bump Obj.lateCount i else s'
      s'.modHead d h fun y =>
        { y with
          delivered := true, samFound := sk.1, sam := if sk.1 then x.sam else y.sam
          grayRun := if gray then y.grayRun + 1 else 0
          grayInvalid := y.grayInvalid && gray }) s

/-! ### Consequences of invalid wedges (04 R124, R130, R131) -/

/-- HEAD_MISS_WRITE_INHIBIT (04 R130): write-permit drops, the write gate goes off. -/
def execHeadMissWriteInhibit (d : DieId) (h : HeadId) (s : State) : Res :=
  onDie d s fun s =>
    when (decide (s.getN Obj.missWi (dieInst d) < ((s.die d).head h).missRun)) (·.dropPermit d h) s

/-- HEAD_MISS_DROP (04 R130): the microactuator command is held; the mean leaves the head out by its miss run. -/
def execHeadMissDrop (d : DieId) (h : HeadId) (s : State) : Res :=
  onDie d s fun s =>
    when (decide (s.getN Obj.missDrop (dieInst d) < ((s.die d).head h).missRun))
      (·.modHead d h fun x => { x with maHeld := true, maNext := x.maCmd }) s

def Die.liveHeads (x : Die) (a : Act) : List HeadId := (headsOf a).filter fun h => (x.head h).live

/-- Entry to RECOVERING: the target vector is kept for row 10 (05 R157, R159 rows 7 and 9; 06 R193). -/
def State.recoverStart (s : State) (d : DieId) (a : Act) (e : Option EventKind) : State :=
  let x := s.die d
  let rev := x.clock.rev
  let s := (headsOf a).foldl (fun s h => s.modHead d h fun y => { y with recRun := 0, offset := 0 }) s
  let s := s.modAct d a fun y =>
    { y with
      state := .recovering, sinceRev := rev, settleRun := 0, settleWedges := 0
      savedTargets := (headsOf a).map fun h => (x.head h).target }
  let s := s.modDie d fun y => match a with
    | .A => { y with recoverA := true }
    | .B => { y with recoverB := true }
  let s := match e with
    | some k => s.raiseAct d a k
    | none => s
  s.calRecheck d

/-- Every live head of the actuator is LOST or past MISS_RECOVER (05 R159 row 9). -/
def State.allLost (s : State) (d : DieId) (a : Act) : Bool :=
  let x := s.die d
  let live := x.liveHeads a
  !live.isEmpty && live.all fun h =>
    (x.head h).servo == .lost || decide (s.getN Obj.missRecover (dieInst d) < (x.head h).missRun)

/-- HEAD_SERVO_LOST (04 R130; 05 R159 row 9). -/
def execHeadServoLost (d : DieId) (h : HeadId) (s : State) : Res :=
  onDie d s fun s =>
    let x := s.die d
    let hd := x.head h
    let a := h.act
    when (hd.live && hd.servo == .tracking && decide (s.getN Obj.missRecover (dieInst d) < hd.missRun) &&
        (x.act a).loaded) (fun s =>
      let s := s.dropPermit d h
      let s := s.modHead d h fun y => { y.requeueUnstarted with servo := .lost, validRun := 0, request := none }
      let s := (s.raiseHead d h Ev.headServoLost).calRecheck d
      if ((s.die d).act a).onDisk && s.allLost d a then s.recoverStart d a (some Ev.actRecover) else s) s

/-- in_mean of 05 R137: live, joined, not lost, miss run within MISS_DROP, weight above 0, not in an offset read. -/
def State.inMean (s : State) (d : DieId) (a : Act) : List HeadId :=
  let x := s.die d
  let y := x.act a
  let w := (if y.bank then y.bank1 else y.bank0).weights
  (headsOf a).filter fun h =>
    let v := x.head h
    v.live && v.joined && v.servo != .lost && decide (v.missRun ≤ s.getN Obj.missDrop (dieInst d)) &&
      decide (0 < w.getD (h.val % 12) 0) && v.offset == 0 &&
      !((x.calRuns.getD (headInst d h) default).kind == 5)

/-- Row 10 of 05 R159: a head of the mean has REJOIN_COUNT consecutive valid wedges since entry. -/
def State.recoverDone (s : State) (d : DieId) (a : Act) : State :=
  let x := s.die d
  let n := s.getN Obj.rejoinCount (dieInst d)
  if (x.act a).state = .recovering ∧ ((s.inMean d a).any fun h => decide (n ≤ (x.head h).recRun)) then
    let ts := (x.act a).savedTargets
    let s := (headsOf a).foldl (fun s h => s.modHead d h fun y => { y with target := ts.getD (h.val % 12) y.target }) s
    let s := s.modAct d a fun y => { y with state := .seeking, r := y.r + y.ev / 4096, v := 0, a := 0 }
    (s.bump Obj.recoveryCount (actInst d a)).calRecheck d
  else s

/-- HEAD_SERVO_REJOIN (04 R131; 05 R159 row 10). -/
def execHeadServoRejoin (d : DieId) (h : HeadId) (s : State) : Res :=
  onDie d s fun s =>
    let hd := (s.die d).head h
    when (hd.live && hd.servo == .lost && decide (s.getN Obj.rejoinCount (dieInst d) ≤ hd.validRun)) (fun s =>
      let s := s.modHead d h fun y =>
        { y with servo := .tracking, joined := true, maHeld := false, maCmd := 0, maNext := 0, loop := {} }
      ((s.raiseHead d h Ev.headServoRejoin).calRecheck d).recoverDone d h.act) s

/-- GRAY_MISMATCH_INVALID (04 R124). -/
def execGrayMismatchInvalid (d : DieId) (h : HeadId) (s : State) : Res :=
  onDie d s fun s =>
    when (decide (3 ≤ ((s.die d).head h).grayRun)) (·.modHead d h fun x => { x with grayInvalid := true }) s

end Sys2Proof.Machine
end

