-- ==== Sys2Proof/Machine/Angle.lean ====
section
/-! DEFINITION. Angle time and package time: wedge samples, lock states, angle events, time distribution, phase lock
(02). -/

namespace Sys2Proof.Machine

/-! ### Stamps -/

/-- Signed difference of two stamps modulo 2^48 (02 R52). -/
def stampDiff (a b : BitVec 48) : Int := (a - b).toInt

/-- The stamp moved ahead by whole revolutions until it lies at least `lead` au ahead of `cur` (02 R66). -/
def defer (cur stamp : BitVec 48) (lead : Nat) : BitVec 48 :=
  let short : Int := (lead : Int) - stampDiff stamp cur
  if short ≤ 0 then stamp else stamp + BitVec.ofInt 48 ((short + 16777215) / 16777216 * 16777216)

def minLead : Nat := 32

/-- The earliest stamp at an angle that is not below the current stamp + MIN_LEAD_AU (02 R65). -/
def resolveAt (cur : BitVec 48) (angle : Nat) : BitVec 48 :=
  let base := cur + BitVec.ofNat 48 minLead
  base + BitVec.ofNat 48 ((angle + 16777216 - base.toNat % 16777216) % 16777216)

/-! ### Wedge samples -/

/-- Heads whose samples the phase detector takes: the loaded timing heads, or the lowest-numbered loaded head
(02 R56). -/
def State.timingHeads (s : State) (d : DieId) : List HeadId :=
  let x := s.die d
  let mask := s.getN Obj.timingHeads (dieInst d)
  let loaded := allHeads.filter fun h => (x.head h).live && (x.act h.act).loaded
  let named := loaded.filter fun h => mask.testBit h.val
  if named.isEmpty then loaded.take 1 else named

def entryAngle (c : AngleClock) (k : Nat) : Nat := c.table.getD k 0

/-- ENTRY[k] less the accumulator at the corrected arrival, modulo 2^24 as signed, in 2^-8 au (02 R56). -/
def wedgeError (c : AngleClock) (k : Nat) (arrival : BitVec 56) : Int :=
  (BitVec.ofInt 32 ((entryAngle c k * 256 : Nat) - (arrival.toNat : Int))).toInt

/-- The valid samples of a wedge (02 R56). -/
def validArrivals (timing : List HeadId) (xs : List WedgeArrival) : List WedgeArrival :=
  xs.filter fun x => timing.contains x.head && x.samFound && x.indexOk

/-- The mean phase error of a wedge in au; none when no sample is valid (02 R56). -/
def meanError (c : AngleClock) (k : Nat) (xs : List WedgeArrival) : Option Rat :=
  if xs.isEmpty then none
  else some (((xs.map fun x => wedgeError c k x.arrival).foldl (· + ·) 0 : Int) / (256 * xs.length : Nat))

/-- The speed loop (03 R90 to R92): a PI controller on the speed error in ppm, for one loop period of `dt` seconds at a
measured speed. -/
def State.speedLoop (s : State) (d : DieId) (speed dt : Rat) : State :=
  let i := dieInst d
  let c := (s.die d).clock
  let p := (s.die d).spin
  let target := p.ramp * (1 + c.trimPpm / 1000000)
  let err := if target = 0 then 0 else (target - speed) / target * 1000000
  let integ := p.spdInt + s.getQ Obj.kiSpeed i * err * dt
  let lim := if p.state = .ramping ∧ speed < p.setPoint then s.getQ Obj.iSpinupMax i else s.getQ Obj.iRunMax i
  let cmd := max (-lim) (min lim (s.getQ Obj.kpSpeed i * err + integ))
  let cmd := if speed ≤ -(s.get Obj.reversalRpm i : Rat) then min 0 cmd else cmd
  s.modSpin d fun p => { p with speed := speed, spdInt := integ, iCmd := cmd }

/-- A forward step of the accumulator on acquisition, in 2^-8 au: armed events in the skipped span are re-resolved
(02 R62, R66). -/
def State.acquire (s : State) (d : DieId) (k : Nat) (x : WedgeArrival) : State :=
  let c := (s.die d).clock
  let step := (wedgeError c k x.arrival % (2 ^ 32 : Nat)).toNat
  let acc := c.acc + BitVec.ofNat 80 (step * 2 ^ 24)
  let old := c.stamp
  let c' := { c with acc := acc }
  let skipped := fun (e : AngleEvent) => decide (0 ≤ stampDiff e.stamp old ∧ stampDiff e.stamp c'.stamp < 0)
  let n := (c.events.filter skipped).length
  let revs := (c'.rev + 16777216 - c.rev) % 16777216
  let s := s.modClock d fun c =>
    { c with
      acc := acc, state := .acquiring, step := true, lockRun := 0, badRun := 0, wedge := k
      deferred := c.deferred || decide (0 < n)
      events := c.events.map fun e => if skipped e then { e with stamp := defer c'.stamp e.stamp minLead } else e
      zeroCross4 := if revs = 0 then c.zeroCross4 else c.time4 }
  let s := s.modObs d fun o => if o.frozen then o else { o with revs := o.revs + revs }
  let s := (s.bump Obj.deferralCount (dieInst d) n).count d 0x002 revs
  s.raise d Ev.angleStep [(4, ((step / 256 : Nat) : Int))]

/-- A wedge with a phase error while ACQUIRING or LOCKED: run counts and the loop (02 R57, R59, R60). -/
def State.loopSample (s : State) (d : DieId) (k : Nat) (e : Rat) : State :=
  let i := dieInst d
  let mag := if e < 0 then -e else e
  let lock := decide (mag ≤ (s.get Obj.lockWindowAu i : Rat))
  let far := decide ((s.get Obj.unlockAu i : Rat) < mag)
  let p := (s.die d).spin
  let bw := s.get Obj.pllBandwidth i
  s.modClock d fun c =>
    let nominal := if p.obsValid && decide (0 < p.obsSpeed) then BitVec.ofNat 40 (rpmIncr p.obsSpeed) else c.nominal
    let r := Config.loopFilter bw e c.incr.toNat c.integ
    { c with
      wedge := k, flywheel := false, flyRun := 0, badRun := 0
      lockRun := if c.state = .acquiring ∧ lock then c.lockRun + 1 else 0
      unlockRun := if c.state = .locked ∧ far then c.unlockRun + 1 else 0
      nominal := nominal, incr := clampIncr nominal r.1, integ := r.2 }

/-- A wedge without a valid sample: flywheeled while LOCKED, counted while ACQUIRING (02 R59, R60). -/
def AngleClock.noSample (c : AngleClock) (k : Nat) : AngleClock :=
  match c.state with
  | .coasting => c
  | .acquiring => { c with wedge := k, badRun := c.badRun + 1, lockRun := 0 }
  | .locked => { c with wedge := k, flywheel := true, flyRun := c.flyRun + 1, unlockRun := 0 }

/-- ANGLE_WEDGE_SAMPLE (02 R55 to R62; 03 R90). -/
def execAngleWedgeSample (d : DieId) (k : Nat) (samples : List WedgeArrival) (s : State) : Res :=
  onDie d s fun s =>
    let c := (s.die d).clock
    let xs := validArrivals (s.timingHeads d) samples
    let s' := match c.state, xs with
      | .coasting, [] => s
      | .coasting, x :: _ => if c.tableMatch then (s.acquire d k x).calRecheck d else s
      | _, _ =>
        match meanError c k xs with
        | some e => s.loopSample d k e
        | none => s.modClock d (·.noSample k)
    let x := s'.die d
    if x.clock.state = .locked ∧ x.spin.src = .clock then
      let rpm := incrRpm x.clock.incr.toNat
      s'.speedLoop d rpm (if rpm = 0 then 0 else 60 / (rpm * x.clock.table.length))
    else s'

/-- ANGLE_LOCKED (02 R59). -/
def execAngleLocked (d : DieId) (s : State) : Res :=
  onDie d s fun s =>
    let c := (s.die d).clock
    when (c.state == .acquiring && decide (s.getN Obj.lockCount (dieInst d) ≤ c.lockRun))
      (fun s => ((s.modClock d fun c => { c with state := .locked, unlockRun := 0, flyRun := 0 }).raise d
        Ev.angleLocked).calRecheck d) s

/-- ANGLE_LOCK_LOST (02 R59). -/
def execAngleLockLost (d : DieId) (s : State) : Res :=
  onDie d s fun s =>
    let c := (s.die d).clock
    when (c.state == .locked && (decide (3 ≤ c.unlockRun) || decide (s.getN Obj.flywheelLimit (dieInst d) < c.flyRun)))
      (·.lockLost d) s

/-- ANGLE_ACQUIRE_TIMEOUT (02 R59). -/
def execAngleAcquireTimeout (d : DieId) (s : State) : Res :=
  onDie d s fun s =>
    let c := (s.die d).clock
    when (c.state == .acquiring && decide (c.table.length ≤ c.badRun)) (·.coastEntry d) s

/-- ANGLE_STAMP_READ (02 R63, R77): the stamp with its coasting bit, and the latch of ANGLE_PTIME. -/
def execAngleStampRead (d : DieId) (s : State) : Res :=
  onDie d s fun s =>
    let c := (s.die d).clock
    let t := s.timeNs d
    let s := s.modClock d fun c => { c with ptime := BitVec.ofNat 64 t }
    { s with reply := { status := St.success, result := c.stamped.setWidth 64 } }

/-- Arm an angle event (02 R61, R65 to R67): resolved, deferred, or handed back to its owner. -/
def State.armEvent (s : State) (d : DieId) (cls : AngleClass) (owner : AngleOwner) (form : AngleForm) : State :=
  let c := (s.die d).clock
  let cur := c.stamp
  let back := s.modClock d fun c => { c with cancelled := owner :: c.cancelled }
  let stamp := match form with
    | .absolute t => defer cur t minLead
    | .relative w off => resolveAt cur ((entryAngle c w + off.toNat) % 16777216)
  let late := match form with
    | .absolute t => decide (stampDiff t cur < minLead)
    | .relative _ _ => false
  if (cls == .media && c.state != .locked) || decide (2 ^ 40 < stampDiff stamp cur) then back
  else
    let s := if late then
        (s.modClock d fun c => { c with deferred := true }).bump Obj.deferralCount (dieInst d)
      else s
    s.modClock d fun c =>
      { c with events := c.events ++ [⟨c.nextId, cls, owner, stamp⟩], nextId := c.nextId + 1 }

/-- ANGLE_EVENT_ARM (02 R65). -/
def execAngleEventArm (d : DieId) (cls : AngleClass) (owner : AngleOwner) (form : AngleForm) (s : State) : Res :=
  onDie d s (·.armEvent d cls owner form)

/-- ANGLE_EVENT_FIRE (02 R64, R68): the event leaves the armed list with its overshoot and coasting flag. -/
def execAngleEventFire (d : DieId) (id : Nat) (s : State) : Res :=
  onDie d s fun s =>
    let c := (s.die d).clock
    match c.events.find? fun e => e.id == id with
    | none => s
    | some e =>
      let ovs := (c.acc - (e.stamp.setWidth 80 <<< 32)).toNat / 2 ^ 24
      when (decide (0 ≤ stampDiff c.stamp e.stamp))
        (fun s => s.modClock d fun c =>
          { c with
            events := c.events.filter (·.id != id)
            fired := ⟨id, e.owner, e.stamp, BitVec.ofNat 8 ovs, c.coasting⟩ :: c.fired }) s

/-! ### Package time -/

/-- PACKAGE_TIME_SEND (02 R69): the anchor's count to every member die. -/
def execPackageTimeSend (s : State) : Res :=
  .next ((s.fittedDies.filter fun d => d.val != 0).foldl (fun t d => t.send 0 d 0x21 s.now) s)

/-- FABRIC_LATENCY_MEASURE (02 R70): half the round trip, `rtt` in ns. -/
def execFabricLatencyMeasure (d : DieId) (rtt : Nat) (s : State) : Res :=
  onDie d s fun s => when (d.val != 0) (·.modClock d fun c => { c with latency4 := rtt * 2 }) s

/-- PACKAGE_TIME_DISTRIBUTION (02 R70, R71): slew, step or hold, and TIME_ALIGNED. -/
def execPackageTimeDistribution (d : DieId) (count : BitVec 64) (s : State) : Res :=
  onDie d s fun s =>
    if d.val = 0 then s
    else
      let c := (s.die d).clock
      let anchor := count.toNat * 4 + c.latency4
      let off : Int := (c.time4 : Int) - anchor
      let near := decide (off.natAbs ≤ 20)
      let run := if near then c.alignRun + 1 else 0
      let s := s.modClock d fun c =>
        { c with
          offsetNs := off / 4, alignRun := run
          timeAligned := if near then c.timeAligned || decide (4 ≤ run) else false }
      if off.natAbs ≤ 4000 then s.modClock d fun c => { c with slewLeft := -off }
      else
        let s := s.modClock d fun c =>
          { c with
            timeStep := true, slewLeft := 0
            time4 := if off < 0 then anchor else c.time4
            hold4 := if off < 0 then 0 else off.natAbs }
        s.raise d Ev.timeStep

/-- TIME_ALIGN_TIMEOUT (02 R71). -/
def execTimeAlignTimeout (d : DieId) (s : State) : Res :=
  onDie d s fun s => when (d.val != 0) (·.modClock d fun c => { c with timeAligned := false, alignRun := 0 }) s

/-! ### Spindle phase lock -/

/-- SPINDLE_PHASE_REFERENCE_SEND (02 R73): die 0's zero crossing to every member die, while phase lock is enabled. -/
def execSpindlePhaseReferenceSend (s : State) : Res :=
  .next (when (s.getB Obj.phaseLockEnable 0)
    (fun s => (s.fittedDies.filter fun d => d.val != 0).foldl
      (fun t d => t.send 0 d 0x26 ((s.die 0).clock.zeroCross4 / 4)) s) s)

/-- The conditions of 02 R75 under which die d applies trim. -/
def State.phaseReady (s : State) (d : DieId) : Bool :=
  s.getB Obj.phaseLockEnable 0 && (s.die d).clock.state == .locked && (s.die 0).clock.state == .locked &&
    (s.die d).spin.state == .atSpeed && (s.die 0).spin.state == .atSpeed &&
    s.get Obj.setRpm (dieInst d) == s.get Obj.setRpm (dieInst 0)

/-- Trim in ppm: 1/64 of the error per revolution, within ±PHASE_TRIM_MAX (02 R73, R74). -/
def phaseTrim (top : Int) (err : Int) : Rat :=
  -(max (-(top : Rat)) (min (top : Rat) ((err : Rat) * 1000000 / (16777216 * 64))))

/-- SPINDLE_PHASE_REFERENCE (02 R73 to R75). `speed` is die 0's increment in 2^-32 au per cycle of 1.25 ns. -/
def execSpindlePhaseReference (d : DieId) (t0 : BitVec 64) (speed : BitVec 40) (s : State) : Res :=
  onDie d s fun s =>
    if d.val = 0 then s
    else if !(s.phaseReady d) then s.modClock d AngleClock.noPhase
    else
      let c := (s.die d).clock
      let dt : Rat := ((c.zeroCross4 : Rat) - t0.toNat * 4) / 4
      let raw := Config.round (dt * speed.toNat * 4 / (5 * 2 ^ 32)) - s.get Obj.phaseOffsetAu (dieInst d)
      let err := (BitVec.ofInt 24 raw).toInt
      let good := if err.natAbs ≤ 932 then c.phaseGood + 1 else 0
      let bad := if 1864 < err.natAbs then c.phaseBad + 1 else 0
      let lost := c.phaseLocked && decide (4 ≤ bad)
      let s := s.modClock d fun c =>
        { c with
          phaseErr := err, trimPpm := phaseTrim (s.get Obj.phaseTrimMax 0) err
          phaseGood := good, phaseBad := bad
          phaseLocked := if lost then false else c.phaseLocked || decide (16 ≤ good)
          phaseLost := c.phaseLost || lost }
      if lost then s.raise d Ev.phaseLost else s

end Sys2Proof.Machine
end

