-- ==== Sys2Proof/Machine/Spindle.lean ====
section
/-! DEFINITION. The spindle: one PWM period, the observer, hand-over, starting, stopping, losing the rotor (03). -/

namespace Sys2Proof.Machine

/-! ### One PWM period -/

/-- PWM period in ns (03 R80). -/
def State.pwmNs (s : State) (d : DieId) : Rat := 1000000 / (s.get Obj.spmPwmKhz (dieInst d) : Rat)

/-- Entry i of the commutation table in force; the factory table is a triangle (03 R82; log 10). -/
def CommTable.entry (t : CommTable) (i : Nat) : Int :=
  match t.entries with
  | [] => if i < 1024 then 31 * i else if i < 3072 then 31 * (2048 - (i : Int)) else 31 * ((i : Int) - 4096)
  | es => es.getD i 0

/-- Drive amplitude at an electrical angle, as a fraction of 1 (03 R84). -/
def CommTable.amplitude (t : CommTable) (theta : BitVec 24) : Rat :=
  let i := theta.toNat / 4096
  let f := theta.toNat % 4096
  let e := t.entry i
  ((e : Rat) + ((t.entry ((i + 1) % 4096) - e : Int) * f : Rat) / 4096) / 32768

/-- A phase current in A from its ADC code, the sense offset taken off (08 R254, 21 R610). -/
def State.phaseAmps (s : State) (d : DieId) (n : Nat) (code : BitVec 12) : Rat :=
  let i := dieInst d
  let off : Int := if s.recordValid 7 i then
      ((BitVec.ofInt 64 (s.get Obj.senseOffsets i)).extractLsb' (16 * n) 16).toInt
    else 0
  (((code.toNat : Int) - 2048 - off : Int) : Rat) * 1800 / 4096 / (s.get Obj.isenseMvPerA i : Rat)

/-- A back-EMF voltage to the centre tap in V (21 R610). -/
def State.backEmf (s : State) (d : DieId) (be bect : BitVec 12) : Rat :=
  (((be.toNat : Int) - bect.toNat : Int) : Rat) * 1800 / 4096 * s.getQ Obj.bemfDiv (dieInst d) / 1000

/-- ELEC_OFFSET in force: the calibrated value, or the table header's (03 R84, 08 R265). -/
def State.elecOffset (s : State) (d : DieId) : BitVec 24 :=
  let i := dieInst d
  if s.recordValid 8 i then BitVec.ofInt 24 (s.get Obj.elecOffset i) else (s.die d).spin.table.elecOffset

/-- ELEC_OFFSET while a new value is slewed in over 64 periods (08 R245). -/
def State.elecSlewed (s : State) (d : DieId) : BitVec 24 :=
  let p := (s.die d).spin
  let new := s.elecOffset d
  if p.elecSlewLeft = 0 then new
  else new + BitVec.ofInt 24 (Config.round (((p.elecOld - new).toInt : Rat) * p.elecSlewLeft / 64))

/-- Electrical angle from the angle clock, before PHASE_ADVANCE (03 R84, R85). -/
def State.clockTheta (s : State) (d : DieId) : BitVec 24 :=
  let x := s.die d
  let auPerNs := incrRpm x.clock.incr.toNat * 16777216 / 60000000000
  let pred := (x.clock.angle : Int) + (3 / 2 * s.pwmNs d * auPerNs + 1 / 2).floor
  BitVec.ofInt 24 (pred * x.spin.table.polePairs) + s.elecSlewed d

/-- Fraction of an electrical revolution covered in one period at a speed in rpm, in electrical au. -/
def State.elecStep (s : State) (d : DieId) (rpm : Rat) : Int :=
  (rpm * (s.die d).spin.table.polePairs * 16777216 / 60 * s.pwmNs d / 1000000000).floor

/-- Electrical drive angle of the period (03 R84, R85, R96). -/
def State.driveTheta (s : State) (d : DieId) : BitVec 24 :=
  let p := (s.die d).spin
  let adv := BitVec.ofInt 24 (s.get Obj.phaseAdvance (dieInst d))
  match p.src with
  | .none => 0
  | .openLoop => if p.state = .aligning then 0 else p.thetaE + BitVec.ofInt 24 (s.elecStep d p.ramp)
  | .observer => p.obsTheta + adv
  | .clock => s.clockTheta d + BitVec.ofInt 24 (Config.round ((p.slewFrom : Rat) * p.slewLeft / 64)) + adv

/-- States in which the drive is engaged. -/
def SpinState.driven : SpinState → Bool
  | .aligning | .openLoop | .ramping | .atSpeed | .stopping => true
  | _ => false

def thetaV (t : BitVec 24) : BitVec 24 := t - 5592405

def thetaW (t : BitVec 24) : BitVec 24 := t - 11184811

/-- The currents of a period, with missing phases reconstructed or predicted, and the counters (03 R86 to R88). -/
def State.sampleCurrents (s : State) (d : DieId) (x : PwmSample) : State :=
  let i := dieInst d
  let p := (s.die d).spin
  let t := s.pwmNs d
  let ok := fun (dx : Rat) => decide ((s.get Obj.sampleMinNs i : Rat) ≤ (1 - dx) * t - 2 * (s.get Obj.spmDeadNs i : Rat))
  let u := ok p.dU
  let v := ok p.dV
  let w := ok p.dW
  let n := (if u then 1 else 0) + (if v then 1 else 0) + (if w then 1 else 0)
  let mu := s.phaseAmps d 0 x.iu
  let mv := s.phaseAmps d 1 x.iv
  let mw := s.phaseAmps d 2 x.iw
  let pred := fun (k : Nat) (prev : Rat) =>
    let l : Rat := (p.table.lPhase : Rat) / 10000000
    if l = 0 then prev
    else prev + t / 1000000000 / l * (Config.netVoltage (s.fresh + k) - (p.table.rPhase : Rat) / 1000 * prev)
  if n = 3 then s.modSpin d fun p => { p with iU := mu, iV := mv, iW := mw, predictRun := 0, twoValidRun := p.twoValidRun + 1 }
  else if n = 2 then
    ((s.modSpin d fun p =>
      { p with
        iU := if u then mu else -(mv + mw), iV := if v then mv else -(mu + mw), iW := if w then mw else -(mu + mv)
        predictRun := 0, twoValidRun := p.twoValidRun + 1 }).bump Obj.skipCount i).bump Obj.reconstructCount i
  else
    let s := s.modSpin d fun p =>
      { p with
        iU := if u then mu else pred 0 p.iU, iV := if v then mv else pred 1 p.iV, iW := if w then mw else pred 2 p.iW
        predictRun := p.predictRun + 1, twoValidRun := 0 }
    let s := { s with fresh := s.fresh + 3 }
    (s.bump Obj.skipCount i (3 - n)).bump Obj.predictCount i

/-- The current loop: PI from i_cmd − i_q to the modulation (03 R88, R89). -/
def State.currentLoop (s : State) (d : DieId) : State :=
  let i := dieInst d
  let p := (s.die d).spin
  let iq := 2 / 3 * (p.iU * p.aU + p.iV * p.aV + p.iW * p.aW)
  let err := p.iCmd - iq
  let cap := if p.clamp then min (9 / 10) (s.getQ Obj.modMax i) else s.getQ Obj.modMax i
  let step := s.getQ Obj.kiCur i * err * (s.pwmNs d / 1000000000)
  let raw := s.getQ Obj.kpCur i * err + p.curInt + step
  let hold := (decide (cap < raw) && decide (0 < step)) || (decide (raw < 0) && decide (step < 0))
  s.modSpin d fun p => { p with curInt := if hold then p.curInt else p.curInt + step, m := max 0 (min cap raw) }

/-- The three amplitudes and duties of the period (03 R84). -/
def State.formDuties (s : State) (d : DieId) : State :=
  let th := s.driveTheta d
  s.modSpin d fun p =>
    let au := p.table.amplitude th
    let av := p.table.amplitude (thetaV th)
    let aw := p.table.amplitude (thetaW th)
    { p with
      thetaE := th, aU := au, aV := av, aW := aw
      dU := 1 / 2 + 1 / 2 * p.m * au, dV := 1 / 2 + 1 / 2 * p.m * av, dW := 1 / 2 + 1 / 2 * p.m * aw
      slewLeft := p.slewLeft - 1, elecSlewLeft := p.elecSlewLeft - 1 }

/-- The observer's update from the period's samples, with the run counts of 03 R95. -/
def State.observe (s : State) (d : DieId) (x : PwmSample) (prevU prevV prevW : Rat) : State :=
  let i := dieInst d
  let p := (s.die d).spin
  let t := s.pwmNs d / 1000000000
  let r : Rat := (p.table.rPhase : Rat) / 1000
  let l : Rat := (p.table.lPhase : Rat) / 10000000
  let e := fun (v cur prev : Rat) => v - r * cur - l * (if t = 0 then 0 else (cur - prev) / t)
  let es := [e (s.backEmf d x.beu x.bect) p.iU prevU, e (s.backEmf d x.bev x.bect) p.iV prevV,
    e (s.backEmf d x.bew x.bect) p.iW prevW]
  let o := Config.observer s.fresh p.obsTheta p.obsSpeed es
  let dev := p.iU - Config.modelCurrent s.fresh
  let over_ := decide (s.getQ Obj.iRunMax i / 4 < (if dev < 0 then -dev else dev))
  let absSpeed := if p.speed < 0 then -p.speed else p.speed
  let runs := decide ((s.get Obj.observerMinRpm i : Rat) ≤ absSpeed) && p.gates != .shortBrake
  let err := o.2.2.natAbs
  let s := s.modSpin d fun p =>
    { p with
      obsTheta := o.1, obsSpeed := o.2.1
      obsGoodRun := if runs && decide (err * 36 < 16777216) then p.obsGoodRun + 1 else 0
      obsBadRun := if runs && decide (16777216 < err * 12) then p.obsBadRun + 1 else 0
      obsCurRun := if runs && over_ then p.obsCurRun + 1 else 0 }
  s.useFresh

/-- The ramp toward the set-point in one period (03 R92); in STOPPING it waits for the heads (03 R99 row 22). -/
def State.rampStep (s : State) (d : DieId) : State :=
  let i := dieInst d
  let x := s.die d
  let t := s.pwmNs d / 1000000000
  let up := (s.get Obj.accelRpmS i : Rat) * t
  let down := (s.get Obj.decelRpmS i : Rat) * t
  if x.spin.state = .stopping ∧ !x.bothParked then s
  else s.modSpin d fun p =>
    { p with
      ramp := if p.state = .openLoop then p.ramp + up
        else if p.ramp < p.setPoint then min p.setPoint (p.ramp + up)
        else max p.setPoint (p.ramp - down) }

/-- Angle source at a period boundary (03 R96, R97). -/
def State.angleSource (s : State) (d : DieId) : State :=
  let x := s.die d
  match x.spin.src with
  | .observer =>
    if x.clock.state = .locked then
      let diff := (s.clockTheta d - x.spin.obsTheta).toInt
      if diff.natAbs ≤ s.getN Obj.handoverAu (dieInst d) then
        s.modSpin d fun p => { p with src := .clock, slewLeft := 64, slewFrom := -diff, mismatchSince := none }
      else s.modSpin d fun p =>
        { p with mismatchSince := some (p.mismatchSince.getD x.clock.stamp.toNat) }
    else s.modSpin d fun p => { p with mismatchSince := none }
  | .clock =>
    if x.clock.state = .locked then s
    else if x.spin.obsValid then s.modSpin d fun p => { p with src := .observer, slewLeft := 0 }
    else if x.spin.state = .ramping ∨ x.spin.state = .atSpeed ∨ x.spin.state = .stopping then s.reacquire d
    else s
  | .none | .openLoop => s

/-- The spindle stops: STOPPED, floated, with the stop's result (03 R99 rows 11 and 29). -/
def State.spinStopped (s : State) (d : DieId) : State :=
  let p := (s.die d).spin
  let s := (s.floatDrive d .stopped).modSpin d fun p =>
    { p with stopPending := false, stopping := false, speed := 0, ramp := 0, setPoint := 0, obsValid := false }
  (if p.stopPending then s.spinResult d 0 else s).powerSettle d

/-- ALIGNING: a fixed current vector at electrical angle 0 (03 R98, R103). -/
def State.alignStart (s : State) (d : DieId) : State :=
  let cur := s.getQ Obj.alignCurrent (dieInst d)
  s.modSpin d fun p =>
    { p with state := .aligning, gates := .driven, src := .openLoop, iCmd := cur, ramp := 0, speed := 0, m := 0
             curInt := 0, thetaE := 0 }

/-- What falling speed brings about in a period (03 R99 rows 8, 11, 23, 27, 29). -/
def State.slowedDown (s : State) (d : DieId) : State :=
  let i := dieInst d
  let x := s.die d
  let v := if x.spin.speed < 0 then -x.spin.speed else x.spin.speed
  let slow := decide (v < (s.get Obj.reversalRpm i : Rat))
  match x.spin.state with
  | .braking =>
    if !slow then s
    else match x.spin.brakeFor with
      | .start => s.alignStart d
      | .stop => s.spinStopped d
      | .restart =>
        if s.spinHeld.contains d then s.senseStart d else (s.floatDrive d .staggerWait).requestSlot d
  | .retractBrake => if slow then s.spinStopped d else s
  | .stopping => if v ≤ (s.get Obj.catchRpm i : Rat) ∧ x.bothParked then s.brake d .stop else s
  | _ => s

/-- The measured speed of the period, and what runs once per electrical cycle on the observer: the speed loop and the
coasting rate (02 R63, 03 R90). -/
def State.observerCycle (s : State) (d : DieId) (before : BitVec 24) : State :=
  let x := s.die d
  let wrapped := decide (x.spin.obsTheta.toNat < before.toNat)
  let p := x.spin
  if p.src = .observer then
    if wrapped then
      let s := s.speedLoop d p.obsSpeed (if p.obsSpeed ≤ 0 then 0 else 60 / (p.obsSpeed * p.table.polePairs))
      if x.clock.coasting then s.setCoastRate d else s
    else s.modSpin d fun p => { p with speed := p.obsSpeed }
  else if p.src = .openLoop then s.modSpin d fun p => { p with speed := p.ramp }
  else if p.src = .none ∧ p.state ≠ .sensing ∧ p.state ≠ .reacquiring then
    s.modSpin d fun p => { p with speed := p.obsSpeed }
  else s

/-- Revolutions within AT_SPEED_PPM of the set-point (03 R99 row 17). -/
def State.speedRevs (s : State) (d : DieId) : State :=
  let i := dieInst d
  let x := s.die d
  let target : Rat := s.get Obj.setRpm i
  let dev := x.spin.speed - target
  let near := decide ((if dev < 0 then -dev else dev) * 1000000 ≤ target * s.get Obj.atSpeedPpm i)
  if x.clock.rev = x.spin.speedRev then s
  else s.modSpin d fun p => { p with speedRev := x.clock.rev, speedRun := if near then p.speedRun + 1 else 0 }

/-- PWM_PERIOD (03 R84 to R92, R95, R96, R98, R99). -/
def execPwmPeriod (d : DieId) (x : PwmSample) (s : State) : Res :=
  onDie d s fun s =>
    let p := (s.die d).spin
    let s := s.angleSource d
    let s := s.sampleCurrents d x
    let s := s.observe d x p.iU p.iV p.iW
    let s := s.observerCycle d p.obsTheta
    let s := s.slowedDown d
    let q := (s.die d).spin
    let s := if q.state = .braking ∧ q.gates ≠ .floated ∨ q.state = .braking ∧ (s.die d).bothParked then
        let lim := s.getQ Obj.iRunMax (dieInst d)
        s.modSpin d fun p =>
          { p with gates := if p.obsValid then .opposing else .shortBrake, iCmd := if p.speed < 0 then lim else -lim }
      else s
    let q := (s.die d).spin
    let s := if q.state.driven then ((s.rampStep d).currentLoop d).formDuties d
      else if q.gates = .opposing then (s.currentLoop d).formDuties d
      else s
    s.speedRevs d

/-! ### The observer and hand-over -/

/-- OBSERVER_VALID (03 R95, R96, R99 rows 15 and 25, R105). -/
def execObserverValid (d : DieId) (s : State) : Res :=
  onDie d s fun s =>
    let p := (s.die d).spin
    when (!p.obsValid && decide (32 ≤ p.obsGoodRun)) (fun s =>
      let s := s.modSpin d fun p => { p with obsValid := true }
      if p.state = .openLoop then s.engage d .ramping p.obsSpeed
      else if p.state = .reacquiring ∧ 18 ≤ p.cycles then
        (s.engage d (if p.stopping then .stopping else .ramping) p.obsSpeed).calRecheck d
      else s) s

/-- OBSERVER_DIVERGED (03 R95 to R97, R99 row 24, R105). -/
def execObserverDiverged (d : DieId) (s : State) : Res :=
  onDie d s fun s =>
    let x := s.die d
    let p := x.spin
    when (decide (8 ≤ p.obsBadRun) || decide (8 ≤ p.obsCurRun)) (fun s =>
      let reset := fun (p : Spindle) =>
        { p with obsValid := false, obsGoodRun := 0, obsBadRun := 0, obsCurRun := 0 }
      if p.src = .clock ∧ x.clock.state = .locked then
        let th := s.clockTheta d
        let rpm := incrRpm x.clock.incr.toNat
        (s.modSpin d fun p => { reset p with obsTheta := th, obsSpeed := rpm }).bump Obj.observerLossCount (dieInst d)
      else if (p.state = .ramping ∨ p.state = .atSpeed ∨ p.state = .stopping) ∧ x.clock.state ≠ .locked then
        (s.modSpin d reset).reacquire d
      else
        let s := s.modSpin d fun p => { reset p with obsSpeed := if p.state = .reacquiring then 0 else p.obsSpeed }
        if x.clock.coasting then s.setCoastRate d else s) s

/-- PREDICT_CLAMP (03 R88). -/
def execPredictClamp (d : DieId) (s : State) : Res :=
  onDie d s fun s =>
    let p := (s.die d).spin
    when (!p.clamp && decide (16 ≤ p.predictRun)) (fun s =>
      (s.modSpin d fun p => { p with clamp := true, predict := true, m := min p.m (9 / 10) }).raise d Ev.spinPredict) s

/-- PREDICT_CLAMP_RELEASE (03 R88). -/
def execPredictClampRelease (d : DieId) (s : State) : Res :=
  onDie d s fun s =>
    let p := (s.die d).spin
    when (p.clamp && decide (256 ≤ p.twoValidRun)) (·.modSpin d fun p => { p with clamp := false }) s

/-- SPIN_HANDOVER_MISMATCH (03 R97): a whole revolution beyond HANDOVER_AU while LOCKED. -/
def execSpinHandoverMismatch (d : DieId) (s : State) : Res :=
  onDie d s fun s =>
    let x := s.die d
    match x.spin.mismatchSince with
    | none => s
    | some t =>
      let now := x.clock.stamp
      when (x.spin.src == .observer && x.clock.state == .locked &&
          decide (16777216 ≤ stampDiff now (BitVec.ofNat 48 t))) (fun s =>
        (s.modSpin d fun p => { p with handoverMismatch := true, mismatchSince := some now.toNat }).raise d
          Ev.spinHandoverMismatch) s

/-! ### Commands -/

/-- The answer to an object or register access (13 R428, R429, 14 R446). -/
def State.answer (s : State) (st : BitVec 16) (result : BitVec 64 := 0) (data : List Byte := []) : State :=
  { s with reply := ⟨st, result, data⟩ }

/-- A write to a CMD entry of die d: SUCCESS, or OBJECT_STATE_CONFLICT with the refusal's code; an isolated die takes
none (13 R429, 14 R431, R438). -/
def objCommand (d : DieId) (s : State) (f : State → State × Option Nat) : Res :=
  onDie d s fun s =>
    if s.isolated d then s.answer St.dieIsolated
    else
      let r := f s
      match r.2 with
      | none => r.1.answer St.success
      | some c => r.1.answer St.objectStateConflict (BitVec.ofNat 64 c)

/-- SPIN_START (03 R83, R99). -/
def execSpinStart (d : DieId) (s : State) : Res := objCommand d s (·.spinStartCommand d)

/-- SPIN_STOP (03 R99). -/
def execSpinStop (d : DieId) (s : State) : Res := objCommand d s fun s => (s.spinStopCommand d, none)

/-- SPINUP_SLOT_GRANT (03 R99 rows 2 and 21, R104): the first request, while slots are free. -/
def execSpinupSlotGrant (s : State) : Res :=
  .next (match s.spinReq with
    | [] => s
    | d :: rest =>
      if s.spinHeld.length < s.getN Obj.spinupMaxConcurrent 0 then
        let s := { s with spinReq := rest, spinHeld := s.spinHeld ++ [d] }
        let p := (s.die d).spin
        if p.state = .staggerWait then s.senseStart d
        else if p.staggerHold then
          let target : Rat := s.get Obj.setRpm (dieInst d)
          s.modSpin d fun p => { p with staggerHold := false, setPoint := target }
        else s
      else s)

/-- SET_RPM changed while AT_SPEED (03 R99 rows 20 and 21). -/
def State.rpmChanged (s : State) (d : DieId) (old new : Int) : State :=
  let p := (s.die d).spin
  if p.state = .atSpeed ∧ new < old then
    s.modSpin d fun p => { p with state := .ramping, setPoint := new, speedRun := 0 }
  else if p.state = .atSpeed ∧ old < new then
    (s.modSpin d fun p => { p with state := .ramping, staggerHold := true, speedRun := 0 }).requestSlot d
  else if p.state = .ramping ∧ !p.staggerHold then s.modSpin d fun p => { p with setPoint := new, speedRun := 0 }
  else s

/-! ### Zero crossings -/

/-- Place of a crossing in the forward order U rising, W falling, V rising, U falling, W rising, V falling
(03 R101). -/
def crossIndex : Phase → Bool → Nat
  | .u, true => 0
  | .w, false => 1
  | .v, true => 2
  | .u, false => 3
  | .w, true => 4
  | .v, false => 5

/-- Direction of a run of crossings, newest first: forward, reverse or neither. -/
def runDirection (xs : List Nat) : Option Bool :=
  let pairs := xs.zip (xs.drop 1)
  if pairs.all fun p => p.1 == (p.2 + 1) % 6 then some true
  else if pairs.all fun p => p.2 == (p.1 + 1) % 6 then some false
  else none

/-- Speed from the mean crossing interval (03 R101): `dt4` quarter ns over `n` intervals. -/
def crossingRpm (polePairs n dt4 : Nat) : Rat :=
  if dt4 = 0 then 0 else 60 * 4000000000 * n / (6 * polePairs * dt4 : Nat)

/-- Four crossings decide a row of 03 R99 (rows 4 to 7). -/
def State.sensed (s : State) (d : DieId) (fwd : Bool) (rpm : Rat) (idx : Nat) : State :=
  let i := dieInst d
  let s := s.modSpin d fun p => { p with crossings := [], reverse := !fwd, speed := if fwd then rpm else -rpm }
  if rpm < (s.get Obj.reversalRpm i : Rat) then s.alignStart d
  else if !fwd then
    ((s.modSpin d fun p => { p with reverseSeen := true }).brake d .start).raise d Ev.spinReverse
  else if rpm < (s.get Obj.catchRpm i : Rat) then s.brake d .start
  else
    (s.modSpin d fun p =>
      { p with obsTheta := BitVec.ofNat 24 (idx * 16777216 / 6), obsSpeed := rpm, obsValid := false, obsGoodRun := 0
               obsBadRun := 0, obsCurRun := 0 }).engage d .ramping rpm

/-- A crossing while REACQUIRING (03 R105): consistent ones are counted, and after three cycles they seed the
observer. -/
def State.reacqCrossing (s : State) (d : DieId) (c : Crossing) : State :=
  let p := (s.die d).spin
  match p.crossings with
  | [] => s.modSpin d fun p => { p with crossings := [c], cycles := 0 }
  | last :: _ =>
    let dt := c.t4 - last.t4
    let pred : Rat := if p.speed ≤ 0 then 0 else 60 * 4000000000 / (6 * p.table.polePairs * p.speed)
    let dev := (dt : Rat) - pred
    let ok := crossIndex c.phase c.rising == (crossIndex last.phase last.rising + 1) % 6 &&
      decide ((if dev < 0 then -dev else dev) * 20 ≤ pred)
    let n := if ok then p.cycles + 1 else 0
    let seed := decide (18 ≤ n) && p.obsSpeed == 0
    s.modSpin d fun p =>
      { p with
        crossings := [c], cycles := n
        obsSpeed := if seed then crossingRpm p.table.polePairs 1 dt else if ok then p.obsSpeed else 0
        obsTheta := if seed then BitVec.ofNat 24 (crossIndex c.phase c.rising * 16777216 / 6) else p.obsTheta
        obsGoodRun := if seed then 0 else p.obsGoodRun }

/-- BEMF_ZERO_CROSSING (03 R101, R105). `t` is the crossing's package time in ns. -/
def execBemfZeroCrossing (d : DieId) (phase : Phase) (rising : Bool) (t : Nat) (s : State) : Res :=
  onDie d s fun s =>
    let c : Crossing := ⟨phase, rising, 4 * t⟩
    let p := (s.die d).spin
    match p.state with
    | .sensing =>
      let xs := (c :: p.crossings).take 4
      if xs.length < 4 then s.modSpin d fun p => { p with crossings := xs }
      else
        match runDirection (xs.map fun c => crossIndex c.phase c.rising) with
        | none => s.modSpin d fun p => { p with crossings := [] }
        | some fwd =>
          let dt := c.t4 - (xs.getD 3 c).t4
          s.sensed d fwd (crossingRpm p.table.polePairs 3 dt) (crossIndex phase rising)
    | .reacquiring => s.reacqCrossing d c
    | _ => s

/-! ### Timeouts and outcomes -/

/-- SENSE_TIMEOUT (03 R99 row 7, R101). -/
def execSenseTimeout (d : DieId) (s : State) : Res :=
  onDie d s fun s => when ((s.die d).spin.state == .sensing) (·.alignStart d) s

/-- FAULT: drive floated, slot given back, the start's result (03 R99 rows 9 and 16). -/
def State.spinFault (s : State) (d : DieId) (code : Int) : State :=
  (((s.floatDrive d .fault).releaseSlot d).modSpin d fun p => { p with startFail := true, startPending := false }).spinResult
    d code

/-- BRAKE_TIMEOUT (03 R99 row 9). -/
def execBrakeTimeout (d : DieId) (s : State) : Res :=
  onDie d s fun s =>
    let p := (s.die d).spin
    when (p.state == .braking && p.brakeFor == .start) (·.spinFault d (if p.reverse then 3 else 4)) s

/-- ALIGN_TIMEOUT (03 R99 row 14). -/
def execAlignTimeout (d : DieId) (s : State) : Res :=
  onDie d s fun s =>
    when ((s.die d).spin.state == .aligning) (·.modSpin d fun p => { p with state := .openLoop, ramp := 0 }) s

/-- OPEN_LOOP_TIMEOUT (03 R99 row 16). -/
def execOpenLoopTimeout (d : DieId) (s : State) : Res :=
  onDie d s fun s =>
    let p := (s.die d).spin
    when (p.state == .openLoop && !p.obsValid) (fun s =>
      let s := s.modSpin d fun p => { p with retries := p.retries + 1 }
      if s.getN Obj.startRetries (dieInst d) < p.retries + 1 then (s.spinFault d 4).raise d Ev.spinStartFail
      else (s.modSpin d fun p => { p with reverse := false }).brake d .start) s

/-- SPIN_AT_SPEED (03 R99 row 17; heads reloaded under R106 and 18 R544). -/
def execSpinAtSpeed (d : DieId) (s : State) : Res :=
  onDie d s fun s =>
    let p := (s.die d).spin
    when (p.state == .ramping && decide (16 ≤ p.speedRun) && !p.staggerHold) (fun s =>
      let s := (s.modSpin d fun p =>
        { p with state := .atSpeed, startPending := false, loadAtSpeed := false }).releaseSlot d
      let s := if p.startPending then s.spinResult d 0 else s
      let s := (s.raise d Ev.spinAtSpeed).calRecheck d
      (if p.loadAtSpeed then ((s.loadCommand d .A).1.loadCommand d .B).1 else s).powerSettle d) s

/-- SPIN_REACQ_TIMEOUT (03 R99 row 26, R106): heads off first at retract speed, braking once both are parked. -/
def execSpinReacqTimeout (d : DieId) (s : State) : Res :=
  onDie d s fun s =>
    let x := s.die d
    when (x.spin.state == .reacquiring) (fun s =>
      let off := fun (s : State) (a : Act) => if ((s.die d).act a).loaded then s.retract d a .unload else s
      let s := off (off s .A) .B
      let s := s.modSpin d fun p =>
        { p with
          state := .braking, brakeFor := if p.stopping then .stop else .restart, reacqFail := true, gates := .floated
          crossings := [], loadAtSpeed := if p.stopping then p.loadAtSpeed else true }
      (s.raise d Ev.spinReacqFail).calAbortIf d fun i r => calOfAct .A i r || calOfAct .B i r) s

/-- SPIN_RETRACT_BRAKE (03 R107 step 3): both actuators parked and the acorn save ended. -/
def execSpinRetractBrake (d : DieId) (s : State) : Res :=
  onDie d s fun s =>
    let x := s.die d
    when (x.spin.state == .retractBrake && x.bothParked &&
        (x.data.pfail.isNone || (x.data.frozen && x.data.saving.isNone)))
      (·.modSpin d fun p => { p with gates := .shortBrake }) s

/-- SPIN_RETRACT_BRAKE_TIMEOUT (03 R107 step 4). -/
def execSpinRetractBrakeTimeout (d : DieId) (s : State) : Res :=
  onDie d s fun s =>
    when ((s.die d).spin.state == .retractBrake) (·.modSpin d fun p => { p with gates := .shortBrake }) s

end Sys2Proof.Machine
end

