-- ==== Sys2Proof/Machine/Calibration.lean ====
section
/-! DEFINITION. Calibration: records and staleness, starting and ending a run, the procedures' results (08). -/

namespace Sys2Proof.Machine

/-! ### Records (08 R258 to R261, R263) -/

def tempKind (k : Nat) : Bool := [1, 2, 3, 5].contains k

/-- Serial number CRC that a record must carry: of its header and, for the two tables that hold one, of the table
(04 R123, 07 R216, 08 R263). -/
def serialMatches (k : Nat) (bytes : List Byte) (hda : BitVec 32) : Bool :=
  k == 9 || (fieldU bytes 16 4 == hda.toNat && ((k != 3 && k != 4) || fieldU bytes 36 4 == hda.toNat))

/-- State of a record by 08 R263; none while the reference temperature is not known. -/
def State.recordEval (s : State) (d : DieId) (kind inst : Nat) : Option Nat :=
  match s.calRecordOf d kind inst with
  | none => some 4
  | some c =>
    let i := dieInst d
    let age := s.getN Obj.staleAgeH i
    let late : Nat := if age ≠ 0 ∧ age + fieldU c.bytes 12 4 < s.getN Obj.powerOnHours i then 3 else 0
    if !(serialMatches kind c.bytes (s.die d).hdaCrc) then some 2
    else if tempKind kind then
      (s.tempRef d inst).map fun r =>
        if (s.get Obj.staleTempC i : Rat) < ratAbs (r - (fieldI c.bytes 8 2 : Rat) / 16) then 1 else late
    else some late

/-- Evaluate a record, raise CAL_STALE when its state turned to another stale one; or wait for the first round
(08 R263). -/
def State.evalRecord (s : State) (d : DieId) (kind inst : Nat) : State :=
  match s.recordEval d kind inst with
  | none => s.modDie d fun x => { x with evalWait := insertNat (kind * 256 + inst) x.evalWait }
  | some v =>
    let old := s.getSub Obj.recordState kind inst
    let s := s.putSub Obj.recordState kind inst v
    if v ≠ 0 ∧ (v : Int) ≠ old then (s.modDie d fun x => { x with calStale := true }).raise d Ev.calStale else s

/-- Evaluate what waited for the die's first round (08 R263). -/
def State.evalWaiting (s : State) (d : DieId) : State :=
  let ks := (s.die d).evalWait
  ks.foldl (fun s k => s.evalRecord d (k / 256) (k % 256)) (s.modDie d fun x => { x with evalWait := [] })

/-- Instances of a kind's records (08 R237): heads, actuators or the die. -/
def kindInsts (d : DieId) (k : Nat) : List Nat :=
  if 1 ≤ k ∧ k ≤ 5 then allHeads.map (headInst d)
  else if k = 6 then [actInst d .A, actInst d .B]
  else [dieInst d]

/-- Every record of a die: kind and instance. -/
def allRecords (d : DieId) : List (Nat × Nat) := (List.range' 1 9).flatMap fun k => (kindInsts d k).map fun i => (k, i)

/-- The copy a write goes to, and its SEQ (08 R259). True for copy A. -/
def TwoCopy.next (t : TwoCopy) (kind inst : Nat) : Bool × BitVec 32 :=
  match t.a.filter (copyValid kind inst), t.b.filter (copyValid kind inst) with
  | none, none => (true, 1)
  | some a, none => (false, a.seq + 1)
  | none, some b => (true, b.seq + 1)
  | some a, some b => if seqAbove a.seq b.seq then (false, a.seq + 1) else (true, b.seq + 1)

/-- Write one copy of a record; none when the write fails (08 R259, 18 R542). -/
def State.storeCopy (s : State) (d : DieId) (kind inst : Nat) (make : Nat → List Byte) : Option (State × Nat) :=
  if (s.die d).hk.state = .shutdown then none
  else
    let t := (s.die d).calRecords.getD (kind * 256 + inst) {}
    let n := t.next kind inst
    let c : Copy := ⟨n.2, make n.2.toNat⟩
    let t := if n.1 then { t with a := some c } else { t with b := some c }
    some (s.modDie d fun x => { x with calRecords := x.calRecords.insert (kind * 256 + inst) t }, n.2.toNat)

/-- Quality block of a record's instance: of its head, the worst over an actuator's live heads, 0 for the die. -/
def State.recordQuality (s : State) (d : DieId) (inst : Nat) : BitVec 64 :=
  match selHead inst with
  | some h => s.quality d h
  | none =>
    match selAct inst with
    | some a => worstQuality (((headsOf a).filter fun h => ((s.die d).head h).live).map (s.quality d))
    | none => 0

/-- Put a record's values in force (08 R245). -/
def State.applyPayload (s : State) (d : DieId) (kind inst : Nat) (p : List Byte) : State :=
  match kind with
  | 1 => s.put Obj.writeDelayAu inst (fieldI p 4 4)
  | 3 => s.putDom Obj.assistTable 0 inst p
  | 4 => s.putDom Obj.chevronGeometry 0 inst p
  | 5 => s.put Obj.maGain inst (fieldI p 0 4)
  | 6 => s.put Obj.vcmGainTrim inst (fieldI p 0 4)
  | 7 => s.put Obj.senseOffsets inst (fieldU p 0 6)
  | 8 =>
    let old := s.elecSlewed d
    (s.put Obj.elecOffset inst (fieldU p 0 4)).modSpin d fun x => { x with elecOld := old, elecSlewLeft := 64 }
  | _ => s

/-- Write a record with its values, apply them and evaluate it: the state and SEQ (08 R244 steps 2 and 3, R259). -/
def State.writeRecord (s : State) (d : DieId) (kind inst origin revs : Nat) (p : List Byte) : Option (State × Nat) :=
  let temp : Int := Config.round ((s.tempRef d inst).getD 0 * 16)
  let serial := if kind = 9 then 0 else (s.die d).hdaCrc.toNat
  let q := s.recordQuality d inst
  match s.storeCopy d kind inst fun seq =>
      recordBytes kind inst origin seq temp (s.getN Obj.powerOnHours (dieInst d)) serial revs q p with
  | none => none
  | some r => some ((r.1.applyPayload d kind inst p).evalRecord d kind inst, r.2)

/-- A run is aimed at an instance, or covers its head (08 R240, R261). -/
def Die.calBusy (x : Die) (inst : Nat) : Bool :=
  x.calRuns.contains inst ||
    match selHead inst with
    | some h => x.calRuns.entries.any fun e => e.2.heads.contains h
    | none => false

/-- Import a record (08 R261): SUCCESS, or the status of the refusal. -/
def State.importRecord (s : State) (d : DieId) (kind inst : Nat) (bytes : List Byte) : State × BitVec 16 × Nat :=
  let c : Copy := ⟨BitVec.ofNat 32 (fieldU bytes 4 4), bytes⟩
  let p := (bytes.drop 32).take (fieldU bytes 10 2)
  if (s.die d).calBusy inst then (s, St.objectBusy, 0)
  else if !(copyValid kind inst c) || !(s.payloadOk d kind inst p) then (s, St.tableInvalid, 0)
  else
    match s.storeCopy d kind inst fun seq =>
        let body := bytes.take 2 ++ [0] ++ (bytes.drop 3).take 1 ++ leBytes 4 seq ++ (bytes.drop 8).take (24 + p.length)
        body ++ leBytes 4 (crc32c body) with
    | none => (s, St.objectStateConflict, Refuse.storeFail.toNat)
    | some r => ((r.1.applyPayload d kind inst p).evalRecord d kind inst, St.success, 0)

/-- Payload in force: the record's, or with a MISSING record the objects' defaults and the lowest filter settings
(08 R260, R261). -/
def State.payloadNow (s : State) (d : DieId) (kind inst : Nat) : List Byte :=
  let p := s.calPayload d kind inst
  if !p.isEmpty then p
  else
    match kind with
    | 1 => [0, 20, 0, 0] ++ leBytes 4 0 ++ (List.range 32).flatMap fun _ => [20, 0, 0, 0] ++ List.replicate 64 0
    | 3 => s.dom Obj.assistTable 0 inst []
    | _ => List.replicate (calLength kind) 0

/-- Write an object that a record holds: its record with ORIGIN 0 (08 R261). -/
def State.writeRecordObject (s : State) (d : DieId) (kind inst : Nat) (p : List Byte) : State × BitVec 16 × Nat :=
  if (s.die d).calBusy inst then (s, St.objectBusy, 0)
  else if !(s.payloadOk d kind inst p) then (s, if kind = 3 ∨ kind = 4 then St.tableInvalid else St.valueInvalid, 0)
  else
    match s.writeRecord d kind inst 0 0 p with
    | none => (s, St.objectStateConflict, Refuse.storeFail.toNat)
    | some r => (r.1, St.success, 0)

/-! ### Starting a run (08 R237 to R242) -/

def calAllowed (kind inst : Nat) : Bool :=
  let x := inst % 32
  if 1 ≤ kind ∧ kind ≤ 5 then decide (x < 26)
  else if kind = 6 then decide (x = 24 ∨ x = 25)
  else decide (7 ≤ kind ∧ kind ≤ 9) && x == 31

/-- Whether a new run would break 08 R240 beside a running one. -/
def calConflict (kind inst : Nat) (e : Nat × CalRun) : Bool :=
  let k := e.2.kind.toNat
  let low := fun n => decide (1 ≤ n ∧ n ≤ 6)
  e.1 == inst || (low kind && low k && selAct inst == selAct e.1) || (kind == 8 && k != 9) || (k == 8 && kind != 9) ||
    (kind == k && decide (7 ≤ kind))

/-- Dirty bytes fit the budget of V_end (08 R256). -/
def State.holdupMayStart (s : State) (d : DieId) (vEnd : Nat) : Bool :=
  decide (dirtyBytes (s.die d).data ≤ s.budgetAt d vEnd)

def State.vEndOf (s : State) (d : DieId) : Nat :=
  ((s.vCalcNow d : Rat) * (1 - s.getQ Obj.holdupTestDrop (dieInst d))).floor.toNat

/-- The heads that a head kind starts on, and the refusal code of each other live head (08 R239, R247). -/
def State.calHeads (s : State) (d : DieId) (kind inst : Nat) : List HeadId × List (HeadId × BitVec 16) :=
  let cand := match selHead inst with
    | some h => [h]
    | none =>
      match selAct inst with
      | some a => (headsOf a).filter fun h => ((s.die d).head h).live
      | none => []
  (cand.filter fun h => (s.calHead d kind h).isNone,
   cand.filterMap fun h => (s.calHead d kind h).map fun c => (h, BitVec.ofNat 16 c))

/-- A command that 08 R239 refuses: CAL_RESULT of the instance takes the code. -/
def State.calRefuse (s : State) (inst kind code : Nat) : State × BitVec 16 × Nat :=
  (s.calReport inst kind code 0 0 0 0, St.objectStateConflict, code)

/-- Heads that MA_GAIN has no reference for end with NOT_READY (08 R252). -/
def State.maReference (s : State) (d : DieId) (inst : Nat) : State :=
  match (s.die d).calRuns.find? inst with
  | none => s
  | some r =>
    let none_ := fun (h : HeadId) => ((s.inMean d h.act).filter fun g => g != h).isEmpty
    let gone := r.heads.filter none_
    if gone.isEmpty then s
    else if gone.length = r.heads.length then s.calEnd d inst 5 0
    else
      let s := gone.foldl (fun s h => s.calReport (headInst d h) 5 5 0 0 (r.before.getD (headInst d h) 0) (s.quality d h)) s
      s.modDie d fun x => { x with calRuns := x.calRuns.insert inst { r with outcomes := r.outcomes ++ gone.map fun h => (h, 5) } }

/-- Start a run whose checks have passed. -/
def State.calStart (s : State) (d : DieId) (inst kind : Nat) (heads : List HeadId) (bad : List (HeadId × BitVec 16)) : State :=
  let insts := if headKind kind ∧ 24 ≤ inst % 32 then heads.map (headInst d) else []
  let over_ := match selAct inst with
    | some a => if kind = 6 then (headsOf a).filter fun h => ((s.die d).head h).live else heads
    | none => heads
  let before : KMap (BitVec 64) := insts.foldl (fun m i => m.insert i (s.recordQuality d i))
    (KMap.empty.insert inst (s.qualityAt d inst over_))
  let s := bad.foldl (fun s e => s.calReport (headInst d e.1) kind e.2.toNat 0 0 0 0) s
  let s := (inst :: insts).foldl (fun s i => s.put Obj.calResult i 1) s
  let r : CalRun := ⟨BitVec.ofNat 8 kind, (s.die d).clock.rev, false, over_, bad, before, [], none⟩
  let v := s.vEndOf d
  let s := s.modDie d fun x =>
    { x with
      calRuns := x.calRuns.insert inst r
      holdupTest := x.holdupTest || kind == 9
      data := if kind = 9 then { x.data with vEnd := some v } else x.data }
  if kind = 5 then s.maReference d inst else s

/-- A kind code written to CAL_COMMAND at an instance, 0 to abort (08 R238 to R240): the answer's status and RESULT. -/
def State.calCommand (s : State) (d : DieId) (inst kind : Nat) : State × BitVec 16 × Nat :=
  if kind = 0 then (s.calEnd d inst 2 0, St.success, 0)
  else if !(calAllowed kind inst) then (s, St.instanceInvalid, 0)
  else if (s.die d).calRuns.entries.any (calConflict kind inst) then (s, St.objectBusy, 0)
  else
    match s.calCommon d kind inst with
    | some c => s.calRefuse inst kind c
    | none =>
      if headKind kind then
        let hs := s.calHeads d kind inst
        if hs.1.isEmpty then
          let s := hs.2.foldl (fun s e => s.calReport (headInst d e.1) kind e.2.toNat 0 0 0 0) s
          s.calRefuse inst kind (if hs.2.isEmpty then 5 else worstCode hs.2)
        else (s.calStart d inst kind hs.1 hs.2, St.success, 0)
      else if kind = 6 then
        match (selAct inst).bind (s.calVcm d) with
        | some c => s.calRefuse inst kind c
        | none => (s.calStart d inst kind [] [], St.success, 0)
      else if kind = 9 ∧ !(s.holdupMayStart d (s.vEndOf d)) then s.calRefuse inst kind 5
      else (s.calStart d inst kind [] [], St.success, 0)

/-- A command of a die whose answer has a status and a RESULT (13 R428, R429). -/
def statusCommand (d : DieId) (s : State) (f : State → State × BitVec 16 × Nat) : Res :=
  onDie d s fun s =>
    if s.isolated d then s.answer St.dieIsolated
    else
      let r := f s
      r.1.answer r.2.1 (BitVec.ofNat 64 r.2.2)

def calStartCommand (sel : CalSel) (kind : Nat) (s : State) : Res :=
  statusCommand (selDie sel) s fun s => s.calCommand (selDie sel) (calInst sel) kind

/-- CAL_CHANNEL_ADAPT (08 R238, R248). -/
def execCalChannelAdapt (sel : CalSel) (s : State) : Res := calStartCommand sel 1 s

/-- CAL_HEATER (08 R238, R249). -/
def execCalHeater (sel : CalSel) (s : State) : Res := calStartCommand sel 2 s

/-- CAL_ASSIST_OPT (08 R238, R250). -/
def execCalAssistOpt (sel : CalSel) (s : State) : Res := calStartCommand sel 3 s

/-- CAL_CHEVRON_GEOM (08 R238, R251). -/
def execCalChevronGeom (sel : CalSel) (s : State) : Res := calStartCommand sel 4 s

/-- CAL_MA_GAIN (08 R238, R252). -/
def execCalMaGain (sel : CalSel) (s : State) : Res := calStartCommand sel 5 s

/-- CAL_VCM_TORQUE (08 R238, R253). -/
def execCalVcmTorque (sel : CalSel) (s : State) : Res := calStartCommand sel 6 s

/-- CAL_SENSE_OFFSET (08 R238, R254). -/
def execCalSenseOffset (sel : CalSel) (s : State) : Res := calStartCommand sel 7 s

/-- CAL_BEMF_SYMMETRY (08 R238, R255). -/
def execCalBemfSymmetry (sel : CalSel) (s : State) : Res := calStartCommand sel 8 s

/-- CAL_HOLDUP_CAP (08 R238, R256). -/
def execCalHoldupCap (sel : CalSel) (s : State) : Res := calStartCommand sel 9 s

/-- CAL_ABORT (08 R238, R242). -/
def execCalAbort (sel : CalSel) (s : State) : Res := calStartCommand sel 0 s

/-! ### The procedures' results (08 R248 to R256) -/

/-- WRITE_DELAY_AU in Q16.16 after the sync-mark offsets read back in turn (08 R248 step 4): none when a value leaves
0 to 64 au. -/
def State.writeDelayFit (s : State) (d : DieId) (h : HeadId) : List (Nat × Int) → Int → Option Int
  | [], v => some v
  | e :: rest, v =>
    if |e.2| ≤ 64 then s.writeDelayFit d h rest v
    else
      let bpr := ((s.regions d h).getD e.1 default).bitsPerRev
      let v := v + roundNear ((e.2 : Rat) / 256 * 16777216 / (bpr : Rat) * 65536)
      if 0 ≤ v ∧ v ≤ 64 * 65536 then s.writeDelayFit d h rest v else none

/-- A header CRC over the bytes from 16 on, put at offset 12. -/
def sealTable (bs : List Byte) : List Byte := bs.take 12 ++ leBytes 4 (crc32c (bs.drop 16)) ++ bs.drop 16

/-- The new assist table of a head (08 R250). -/
def State.assistFit (s : State) (d : DieId) (h : HeadId) (codes preheat : List Nat) (pd : Nat) : List Byte :=
  let t := s.assistBytes d h
  let margin := s.getN Obj.assistCodeMargin (dieInst d)
  let p := fun (c : Nat) => fieldU t 24 2 * 256 + fieldU t 26 2 * c
  let top := ((List.range 1024).filter fun c => decide (p c ≤ fieldU t 22 2 * 256)).getLast?.getD 0
  let regs := (List.range 32).flatMap fun r =>
    if r < codes.length then
      leBytes 2 (min (codes.getD r 0 + margin) (min (fieldU t 20 2) top)) ++
        [BitVec.ofNat 8 (if s.assistMode d = 2 then 0 else preheat.getD r 0), 0]
    else (t.drop (32 + 4 * r)).take 4
  if t.isEmpty then [] else sealTable (t.take 28 ++ leBytes 2 (pd % 4096) ++ (t.drop 30).take 2 ++ regs)

/-- The new geometry table of a head (08 R251): k and d0 of each group from its percentiles. -/
def chevronFit (hda : BitVec 32) (ps : List (Int × Int)) (corr : List Int) : List Byte :=
  let u := fun (x : Rat) => intBytes 4 (roundNear x)
  let groups := (List.range 32).flatMap fun i =>
    let e := ps.getD i (0, 0)
    u ((e.1 + e.2 : Int) / 2) ++ u (((e.2 - e.1 : Int) : Rat) * 100 / 396)
  sealTable (leBytes 2 1 ++ leBytes 2 16 ++ leBytes 4 hda.toNat ++ leBytes 8 0 ++ groups ++
    (List.range 32).flatMap fun j => intBytes 2 (corr.getD j 0))

/-- Mean of a non-empty list of numbers. -/
def meanInt (xs : List Int) : Rat := (xs.sum : Rat) / (xs.length : Rat)

/-- (n_x − φ_x) mod 2^24, signed (08 R255). -/
def bemfDepart (e : Phase × BitVec 24) : Int :=
  let n : BitVec 24 := match e.1 with
    | .u => 0
    | .v => 5592405
    | .w => 11184811
  (n - e.2).toInt

/-- ELEC_OFFSET of a run's crossings, and the asymmetry (08 R255). -/
def bemfFit (fs : List (List (Phase × BitVec 24))) : Rat × Rat :=
  let all := fs.flatten
  let m := meanInt (all.map bemfDepart)
  let of := fun (p : Phase) =>
    let xs := (all.filter fun e => decide (e.1 = p)).map bemfDepart
    if xs.isEmpty then 0 else ratAbs (meanInt xs - m)
  (m, max (of .u) (max (of .v) (of .w)))

/-- What a measurement gives for a kind at a head's or instance's run: none while it has not converged; an empty
payload ends the run with OUT_OF_RANGE (08 R244, R248 to R256). -/
def State.measured (s : State) (d : DieId) (kind inst : Nat) (r : CalRun) (m : CalMeasure) : Option (List Byte) :=
  let i := dieInst d
  match kind, m with
  | 1, .channelAdapt preset fits offsets =>
    match selHead inst with
    | none => none
    | some h =>
      let settled := (List.range (s.regions d h).length).all fun g =>
        match (offsets.filter fun e => e.1 == g).getLast? with
        | some e => decide (|e.2| ≤ 64)
        | none => false
      if !settled then none
      else
        match s.writeDelayFit d h offsets (s.get Obj.writeDelayAu inst) with
        | none => some []
        | some v =>
          some (leBytes 4 preset.toNat ++ intBytes 4 v ++ (List.range 32).flatMap fun g =>
            let f := fits.getD g ⟨20, 0, []⟩
            [BitVec.ofNat 8 f.cutoff, BitVec.ofNat 8 f.boost, 0, 0] ++
              (List.range 32).flatMap fun t => intBytes 2 (f.taps.getD t 0))
  | 2, .heater cs =>
    if cs.any (·.isNone) then some []
    else
      let back := fun (c b : Nat) => if b ≤ c then leBytes 2 (c - b) else leBytes 2 65535
      some ((List.range 32).flatMap fun g =>
        match cs.getD g none with
        | some c => back c (s.getN Obj.heaterBackoffRead i) ++ back c (s.getN Obj.heaterBackoffWrite i)
        | none => leBytes 4 0)
  | 3, .assistOpt codes pre pd => (selHead inst).map fun h => s.assistFit d h codes pre pd
  | 4, .chevronGeom ps corr => some (chevronFit (s.die d).hdaCrc ps corr)
  | 5, .maGain x => some (intBytes 4 (roundNear ((x : Rat) / (s.get Obj.maCalCounts i : Rat))))
  | 6, .vcmTorque g => some (intBytes 4 (roundNear ((s.get Obj.vcmGainTrim inst : Rat) * 65536 / (g : Rat))))
  | 7, .senseOffset u v w =>
    some ([u, v, w].flatMap fun (n : Nat) => intBytes 2 (roundNear ((n : Rat) / 65536) - 2048))
  | 8, .gathered =>
    if r.floats.length < 4 then none
    else
      let e := bemfFit r.floats
      if 65536 < e.2 then some [] else some (leBytes 4 (BitVec.ofInt 24 (roundNear e.1)).toNat)
  | 9, .gathered => r.fit.map fun e => leBytes 4 e.1 ++ leBytes 4 e.2
  | _, _ => none

/-! ### Ending a run (08 R242 to R247) -/

/-- Complete one instance's part with a payload: the code, and SEQ of the record (08 R244). -/
def State.calCommit (s : State) (d : DieId) (kind inst revs : Nat) (p : List Byte) : State × Nat × Nat :=
  if !(s.payloadOk d kind inst p) then (s, 7, 0)
  else
    match s.writeRecord d kind inst 1 revs p with
    | none => (s, 8, 0)
    | some r =>
      let s := match selHead inst with
        | some _ => if kind = 3 then r.1.put Obj.assistHeadEnable inst 1 else r.1
        | none => r.1
      (s, 0, r.2)

def State.calDoneEvent (s : State) (d : DieId) (kind inst : Nat) : State :=
  (s.modDie d fun x => { x with calDone := true }).raise d Ev.calDone [(1, (kind : Int)), (1, (inst : Int))]

/-- The instance of the run that a selector's result belongs to: its own, or its actuator's (08 R247). -/
def Die.calRunFor (x : Die) (d : DieId) (sel : CalSel) : Option (Nat × CalRun) :=
  let i := calInst sel
  match x.calRuns.find? i with
  | some r => if headKind r.kind.toNat ∧ 24 ≤ i % 32 then none else some (i, r)
  | none =>
    match sel with
    | .head _ h =>
      let j := actInst d h.act
      (x.calRuns.find? j).bind fun r =>
        if headKind r.kind.toNat && r.heads.contains h && !(r.outcomes.any fun o => o.1 == h) then some (j, r) else none
    | _ => none

/-- A part of a run has converged on a measurement (08 R244, R247). -/
def State.calConverged (s : State) (d : DieId) (sel : CalSel) (m : CalMeasure) : State :=
  let i := calInst sel
  match (s.die d).calRunFor d sel with
  | none => s
  | some (j, r) =>
    let k := r.kind.toNat
    if r.paused then s
    else
      match s.measured d k i r m with
      | none => s
      | some p =>
        let revs := ((s.die d).clock.rev + 16777216 - r.startRev) % 16777216
        let c := s.calCommit d k i revs p
        let s := c.1
        let code := c.2.1
        if j = i then
          let s := s.calEnd d i code c.2.2
          if code = 0 then s.calDoneEvent d k i else s
        else
          match sel with
          | .head _ h =>
            let s := s.calReport i k code c.2.2 revs (r.before.getD i 0) (s.quality d h)
            let outs := r.outcomes ++ [(h, BitVec.ofNat 16 code)]
            let s := s.modDie d fun x =>
              { x with
                calRuns := x.calRuns.insert j { r with outcomes := outs }
                calFailed := x.calFailed || code != 0 }
            let s := if code = 0 then s.calDoneEvent d k i else s
            if r.heads.all fun g => outs.any fun o => o.1 == g then s.calEnd d j 0 0 else s
          | _ => s

/-- CAL_CONVERGE (08 R244 to R256). -/
def execCalConverge (sel : CalSel) (m : CalMeasure) (s : State) : Res :=
  onDie (selDie sel) s fun s => s.calConverged (selDie sel) sel m

/-- CAL_TIMEOUT (08 R237, R243): the deadline has passed in revolutions of the angle clock. -/
def execCalTimeout (sel : CalSel) (s : State) : Res :=
  onDie (selDie sel) s fun s =>
    let d := (selDie sel)
    let i := calInst sel
    match (s.die d).calRuns.find? i with
    | none => s
    | some r =>
      let revs := ((s.die d).clock.rev + 16777216 - r.startRev) % 16777216
      if s.getSub Obj.calDeadline r.kind.toNat (dieInst d) ≤ revs then
        let s := (s.calEnd d i 3 0).modDie d fun x => { x with calTimeout := true }
        s.raise d Ev.calTimeout [(1, (r.kind.toNat : Int)), (1, (i : Int))]
      else s

/-- BEMF_FLOAT (08 R255): one float of four, drive re-engaged as in a catch, no sector start for a revolution. -/
def execBemfFloat (d : DieId) (crossings : List (Phase × BitVec 24)) (s : State) : Res :=
  onDie d s fun s =>
    match (s.die d).calRuns.find? (dieInst d) with
    | none => s
    | some r =>
      if r.kind ≠ 8 ∨ r.paused ∨ 4 ≤ r.floats.length then s
      else
        let x := s.die d
        let m := min (s.getQ Obj.modMax (dieInst d)) (max 0 (Config.emfModulation x.spin.table.ke x.spin.speed))
        let hold := (x.clock.stamp.toNat + 16777216) % 2 ^ 48
        (s.modDie d fun x =>
          { x with calRuns := x.calRuns.insert (dieInst d) { r with floats := r.floats ++ [crossings] } }).modSpin d fun p =>
            { p with m := m, iCmd := 0, curInt := 0, spdInt := 0, holdStart := some hold }

/-- Slope of y against t by least squares. -/
def slopeOf (ps : List (Rat × Rat)) : Rat :=
  let n : Rat := (ps.length : Rat)
  let tm := (ps.map (·.1)).sum / n
  let ym := (ps.map (·.2)).sum / n
  (ps.map fun p => (p.1 - tm) * (p.2 - ym)).sum / (ps.map fun p => (p.1 - tm) * (p.1 - tm)).sum

/-- C in µF and the residual in ppm of a discharge curve of (ns, mV) points (08 R256). -/
def State.holdupFit (s : State) (d : DieId) (curve : List (Nat × Nat)) : Nat × Nat :=
  let ps := curve.map fun e => ((e.1 : Rat) / 1000000000, Config.ln ((e.2 : Rat) / 1000))
  let n : Rat := (ps.length : Rat)
  let k := slopeOf ps
  let b := (ps.map (·.2)).sum / n - k * ((ps.map (·.1)).sum / n)
  let ss := (ps.map fun p => (p.2 - k * p.1 - b) * (p.2 - k * p.1 - b)).sum / n
  ((Config.round (-1000000 / (s.getQ Obj.holdupTestOhm (dieInst d) * k))).toNat,
   (Config.round (Config.sqrt ss * 1000000)).toNat)

/-- HOLDUP_TEST_END (08 R256 steps 2 to 4): V has fallen to V_end. -/
def execHoldupTestEnd (d : DieId) (curve : List (Nat × Nat)) (s : State) : Res :=
  onDie d s fun s =>
    match (s.die d).calRuns.find? (dieInst d) with
    | none => s
    | some r =>
      if r.kind ≠ 9 ∨ !(s.die d).holdupTest then s
      else
        let fit := s.holdupFit d curve
        s.modDie d fun x =>
          { x with holdupTest := false, calRuns := x.calRuns.insert (dieInst d) { r with fit := some fit } }

/-! ### Quality figures and hours (08 R262, R263) -/

/-- One head's figures over a window (08 R262). -/
def State.figures (s : State) (d : DieId) (f : HeadFigures) : State :=
  if !((s.die d).head f.head).live then s
  else
    let i := headInst d f.head
    let q := fun (x : Rat) => Config.round (x * 65536)
    let s := if 256 ≤ f.sectors then
        (s.put Obj.channelMargin i (q (Config.log10 ((f.wrongBits : Rat) / (f.totalBits : Rat))))).put Obj.eqMseDb i
          (q (10 * Config.log10 ((f.sumSquaredError : Rat) / (f.dataBits : Rat) / 1024)))
      else s
    if 8 ≤ f.trackingRevs then
      (s.put Obj.pes3sigma i (min 65535 (Config.round (3 * Config.sqrt (f.pesVariance : Rat))))).put Obj.eyeWidthAu i
        (s.get Obj.eyeLimitAu (dieInst d) - 256 * f.eye999)
    else s

/-- QUALITY_WINDOW_END (08 R262). -/
def execQualityWindowEnd (d : DieId) (figs : List HeadFigures) (s : State) : Res :=
  onDie d s fun s => figs.foldl (fun s f => s.figures d f) s

/-- POWER_ON_HOUR (08 R263). -/
def execPowerOnHour (d : DieId) (s : State) : Res :=
  onDie d s fun s => s.bump Obj.powerOnHours (dieInst d)

end Sys2Proof.Machine
end

