-- ==== Sys2Proof/Machine/VerbOps.lean ====
section
/-! DEFINITION. Verbs in flight: fields of a submission entry, parts, the completion of a part and of a verb, the
error log, completion queues and their interrupts, trace records (01 R22; 12 R384 to R395; 13 R403 to R430; 19 R558 to
R561). -/

namespace Sys2Proof.Machine

/-! ### Fields of a submission entry (12 R386) -/

def eField (e : BitVec 512) (off n : Nat) : Nat := e.toNat / 2 ^ (8 * off) % 2 ^ (8 * n)

def eOp (e : BitVec 512) : Nat := eField e 0 1

def eFlags (e : BitVec 512) : Nat := eField e 1 1

def eFua (e : BitVec 512) : Bool := eFlags e % 2 == 1

def eCid (e : BitVec 512) : BitVec 16 := BitVec.ofNat 16 (eField e 2 2)

def eNlb (e : BitVec 512) : Nat := eField e 4 4

def eLba (e : BitVec 512) : Nat := eField e 8 8

def eDptr (e : BitVec 512) (i : Nat) : BitVec 128 := BitVec.ofNat 128 (eField e (16 + 16 * i) 16)

/-- A VSPEC field (13 R404, R413). -/
def eVs (e : BitVec 512) (off n : Nat) : Nat := eField e (48 + off) n

/-- Die field of an LBA, and the die-local block number (00 R15). -/
def lbaDie (lba : Nat) : DieId := Fin.ofNat 8 (lba / 274877906944)

def lbaBlock (lba : Nat) : Nat := lba % 274877906944

def dieLba (d : DieId) (block : Nat) : Nat := d.val * 274877906944 + block

/-- Blocks of a verb with a block range. -/
def Slot.count (sl : Slot) : Nat := eNlb sl.entry + 1

def Slot.op (sl : Slot) : Nat := eOp sl.entry

/-- Die-local blocks of the verb's range on a die, in LBA order (01 R22). -/
def Slot.blocksOn (sl : Slot) (d : DieId) : List Nat :=
  ((List.range' sl.lba sl.count).filter fun l => lbaDie l == d).map lbaBlock

/-- A COPY source range: first LBA and blocks (13 R411). -/
def srcRange (e : BitVec 128) : Nat × Nat := (e.toNat % 2 ^ 64, e.toNat / 2 ^ 64 % 65536 + 1)

/-- Source LBAs of a COPY in list order. -/
def Slot.sources (sl : Slot) : List Nat :=
  sl.src.flatMap fun e => List.range' (srcRange e).1 (srcRange e).2

/-! ### Slots and parts -/

def State.modSlot (s : State) (asn : Nat) (f : Slot → Slot) : State :=
  match s.slots.find? asn with
  | none => s
  | some sl => { s with slots := s.slots.insert asn (f sl) }

def modPartList (d : DieId) (f : VPart → VPart) (ps : List VPart) : List VPart :=
  ps.map fun p => if p.die = d then f p else p

def State.modPart (s : State) (asn : Nat) (d : DieId) (f : VPart → VPart) : State :=
  s.modSlot asn fun sl => { sl with parts := modPartList d f sl.parts }

def Slot.part? (sl : Slot) (d : DieId) : Option VPart := sl.parts.find? fun p => p.die == d

/-- A verb's part on a die that has arrived and whose effect is still to come. -/
def Slot.ready (sl : Slot) (d : DieId) : Bool :=
  sl.fixed.isNone && !sl.aborted &&
    match sl.part? d with
    | some p => p.received && !p.applied
    | none => false

/-! ### Tracing (19 R558 to R561) -/

def setStage (st : List (Option Nat)) (k t : Nat) : List (Option Nat) :=
  let st := st ++ List.replicate (12 - st.length) none
  st.set k (some t)

/-- Stamp a stage of a tagged verb with a die's local package time (19 R559). -/
def State.stage (s : State) (asn : Nat) (d : DieId) (k : Nat) : State :=
  let t := s.timeNs d
  let a := (s.die d).clock.stamped
  s.modSlot asn fun sl =>
    if sl.traced then { sl with stages := setStage sl.stages k t, angle := if k = 7 then a else sl.angle } else sl

/-- Next state of the LFSR x^32 + x^22 + x^2 + x + 1 (19 R558). -/
def lfsrNext (x : BitVec 32) : BitVec 32 :=
  if x.getLsbD 0 then (x >>> 1) ^^^ 0x80200003 else x >>> 1

def stageWord (t0 : Nat) : Option Nat → BitVec 32
  | none => 0xFFFFFFFF
  | some t => BitVec.ofNat 32 (min 0xFFFFFFFE (t - t0))

/-- Records the trace ring holds (19 R561). -/
def State.traceRoom (s : State) : Nat := s.getN Obj.traceRingMib (dieInst 0) * 8192

/-- Highest ladder step of a verb, its first head. -/
def Slot.topStep (sl : Slot) : Nat := (sl.parts.map (·.step)).foldl max 0

def Slot.firstHead (sl : Slot) : BitVec 8 :=
  match sl.parts.findSome? (·.head) with
  | some h => BitVec.ofNat 8 h.val
  | none => 0xFF

/-- Write the record of a tagged verb (19 R560, R561). -/
def State.traceRecord (s : State) (sl : Slot) : State :=
  if !sl.traced then s
  else
    let t0 := (sl.stages.getD 0 none).getD 0
    let n := s.getN Obj.traceRecords 0
    let flags := (if 1 < sl.parts.length then 1 else 0) + (if sl.fastPath then 2 else 0) +
      (if eFua sl.entry then 4 else 0) + (if sl.angle.getLsbD 48 then 8 else 0)
    let r : TraceRec :=
      { asn := sl.asn, stage0 := t0, opcode := BitVec.ofNat 8 sl.op, flags := BitVec.ofNat 8 flags, sq := sl.sq
        cid := eCid sl.entry, status := sl.status, lba := sl.lba, nlb := eNlb sl.entry
        dieMask := BitVec.ofNat 8 (sl.parts.foldl (fun m p => m ||| 2 ^ p.die.val) 0)
        head := sl.firstHead, ladder := BitVec.ofNat 8 sl.topStep, angle := sl.angle.setWidth 48
        stages := (List.range' 1 11).map fun k => stageWord t0 (sl.stages.getD k none)
        seq := n + 1 }
    let room := s.traceRoom
    let full := decide (room ≤ s.trace.length)
    let s := if full && !s.traceFullSeen then { s with traceFullSeen := true }.raise 0 Ev.traceRingFull else s
    if full && s.get Obj.traceMode 0 == 1 then s.bump Obj.traceDropped 0
    else { s with trace := (r :: s.trace).take room }.bump Obj.traceRecords 0

/-! ### Errors (13 R418, R430) -/

def statusMore (x : BitVec 16) : Bool := !([St.success, St.pending, St.aborted, St.queueFlushed].contains x)

/-- What an error log entry adds to the verb's status. -/
structure ErrInfo where
  die : Option DieId := none
  head : Option HeadId := none
  lba : Option Nat := none
  loc : Option SectorLoc := none
  step : Nat := 0
  chan : Option ChannelResult := none
  detail : BitVec 32 := 0
deriving Inhabited

/-- Result codes (06 R189). -/
def chanCode : ChannelResult → Nat
  | .ok => 0
  | .recovered => 1
  | .unrecovered => 2
  | .addressMismatch => 3
  | .noSignal => 4
  | .written => 5
  | .abandoned => 6

/-- Append to the error log (13 R418). -/
def State.logError (s : State) (sl : Slot) (status : BitVec 16) (x : ErrInfo) : State :=
  if !(statusMore status) then s
  else
    let n := s.errorCount + 1
    let e : ErrEntry :=
      { count := n, asn := sl.asn, sq := sl.sq, cid := eCid sl.entry, status
        die := match x.die with
          | some d => BitVec.ofNat 8 d.val
          | none => 0xFF
        head := match x.head with
          | some h => BitVec.ofNat 8 h.val
          | none => 0xFF
        lba := match x.lba with
          | some l => BitVec.ofNat 64 l
          | none => BitVec.allOnes 64
        time := s.now, stamp := ((s.die (x.die.getD 0)).clock).stamped
        track := match x.loc with
          | some l => l.track.setWidth 32
          | none => 0
        sector := match x.loc with
          | some l => l.sector
          | none => 0
        step := BitVec.ofNat 8 x.step
        chan := match x.chan with
          | some c => BitVec.ofNat 8 (chanCode c)
          | none => 0xFF
        detail := x.detail }
    { s with errors := (e :: s.errors).take 256, errorCount := n }

/-! ### Completion queues (12 R384, R385, R390, R395) -/

/-- A completion entry (12 R390). -/
def cqeBits (result : BitVec 64) (head sq : Nat) (status : BitVec 16) (phase : Bool) (cid : BitVec 16) : BitVec 128 :=
  let sid := sq % 512 + (if statusMore status then 512 else 0) + (if statusDnr status then 1024 else 0) +
    (if phase then 32768 else 0)
  BitVec.ofNat 128 (result.toNat + 2 ^ 64 * (head + 2 ^ 16 * (sid + 2 ^ 16 * (cid.toNat + 2 ^ 16 * status.toNat))))

def Cq.used (c : Cq) : Nat := (c.tail + c.size - c.head) % max 1 c.size

def Cq.full (c : Cq) : Bool := decide (c.size ≤ c.used + 1)

/-- One posted entry: tail, phase, and the count since the last message (12 R384, R395). -/
def Cq.advance (c : Cq) (now : Nat) : Cq :=
  let t := (c.tail + 1) % max 1 c.size
  { c with
    tail := t, phase := if t = 0 then !c.phase else c.phase, count := c.count + 1
    firstTime := if c.count = 0 then now else c.firstTime }

/-- Signal a completion queue if its count, its time or the status calls for it (12 R395). -/
def State.cqSignal (s : State) (q : Nat) (c : Cq) (status : BitVec 16) : State :=
  if !c.ien then { s with cqs := s.cqs.insert q { c with count := 0 } }
  else if c.aggCount ≤ c.count ∨ c.aggTime = 0 ∨ status ≠ St.success then
    { s with cqs := s.cqs.insert q { c with count := 0 } }.vector c.vector
  else { s with cqs := s.cqs.insert q c }

/-- Entry of a completion posted for a queue that is not full. -/
def State.putEntry (s : State) (q sq head : Nat) (result : BitVec 64) (status : BitVec 16) (cid : BitVec 16) : State :=
  match s.cqs.find? q with
  | none => s
  | some c =>
    let s := s.emit (.cqe q c.tail (cqeBits result head sq status c.phase cid))
    let s := s.cqSignal q (c.advance s.now) status
    s.count 0 0x0A2

/-- The queue freezes on its first completion with another status than SUCCESS (12 R394). -/
def Sq.freeze (q : Sq) (status : BitVec 16) (asn : Nat) : Sq :=
  if q.frozenModel ∧ q.state = .running ∧ status ≠ St.success then { q with state := .frozen, freezeAsn := asn } else q

/-- A deleted queue goes when its last verb has been posted (12 R380). -/
def State.sqSweep (s : State) (q : Nat) : State :=
  match s.sqs.find? q with
  | none => s
  | some x =>
    if x.deleting && !(s.slots.entries.any fun e => e.2.sq == q && !e.2.orphan) then { s with sqs := s.sqs.erase q } else s

/-- Write a decided verb's completion entry and give its completion slot back; parts that still run keep an orphan
(12 R385, R390, R394; 20 R587). -/
def State.writeCqe (s : State) (asn : Nat) : State :=
  match s.slots.find? asn with
  | none => s
  | some sl =>
    match s.sqs.find? sl.sq with
    | none => { s with slots := s.slots.erase asn }
    | some q =>
      let s := s.stage asn 0 11
      let sl := s.slots.getD asn sl
      let s := s.putEntry q.cq sl.sq q.head sl.result sl.status (eCid sl.entry)
      let s := s.traceRecord sl
      let next := s.asn
      let s := { s with sqs := s.sqs.insert sl.sq (q.freeze sl.status next) }
      let s := if sl.parts.all (·.delivered) then { s with slots := s.slots.erase asn }
        else s.modSlot asn fun sl => { sl with orphan := true }
      s.sqSweep sl.sq

/-- Post a decided verb's completion, or hold it for a full queue (12 R385). -/
def State.postOne (s : State) (asn : Nat) : State :=
  match s.slots.find? asn with
  | none => s
  | some sl =>
    if sl.orphan then { s with slots := s.slots.erase asn }
    else
      match (s.sqs.find? sl.sq).bind fun q => (s.cqs.find? q.cq).map fun c => (q.cq, c) with
      | none => { s with slots := s.slots.erase asn }
      | some (n, c) =>
        if c.full || !c.held.isEmpty then
          ({ s with cqs := s.cqs.insert n { c with held := c.held ++ [asn] } }).bump Obj.cqFullWaits 0
        else s.writeCqe asn

/-- ABORTs whose target has posted its completion follow it (13 R423). -/
def State.postAborts (s : State) (asn : Nat) : State :=
  if s.slots.contains asn && !((s.slots.getD asn default).orphan) then s
  else
    let ws := (s.slots.entries.filter fun e => e.2.waitsFor == some asn && e.2.decided).map (·.1)
    ws.foldl (fun s w => (s.modSlot w fun sl => { sl with waitsFor := none }).postOne w) s

def State.post (s : State) (asn : Nat) : State := (s.postOne asn).postAborts asn

/-- Post what a completion queue holds while it has room (12 R385). -/
def State.drainHeld (s : State) (n : Nat) : Nat → State
  | 0 => s
  | fuel + 1 =>
    match s.cqs.find? n with
    | none => s
    | some c =>
      match c.held with
      | [] => s
      | asn :: rest =>
        if c.full then s
        else
          ((({ s with cqs := s.cqs.insert n { c with held := rest } }).writeCqe asn).postAborts asn).drainHeld n fuel

/-! ### Deciding a verb (13 R403, R422, R430) -/

/-- The outcome of a verb: log its error and post it. ABORT waits for its target's completion (13 R423). -/
def State.settleVerb (s : State) (asn : Nat) (status : BitVec 16) (result : BitVec 64) (x : ErrInfo) : State :=
  match s.slots.find? asn with
  | none => s
  | some sl =>
    if sl.decided then s
    else
      let s := if sl.orphan then s else s.logError sl status x
      let s := s.modSlot asn fun sl => { sl with decided := true, status, result }
      if sl.waitsFor.isSome then s else s.post asn

/-! ### What a verb holds (11 R338, R339, R342) -/

/-- A part takes a dispatch slot: an I/O verb's, or an admin verb's that runs on the die (11 R339). -/
def Slot.takesSlot (sl : Slot) (d : DieId) : Bool :=
  decide (sl.op < 0x40) || sl.op == 0x4A || sl.op == 0x4B || (sl.op == 0x41 && d.val != 0)

/-- A part takes a window of its die's egress pool: a read's, or a COPY's on a die of its sources (11 R338). -/
def Slot.egressOn (sl : Slot) (d : DieId) : Bool :=
  sl.op == 1 || sl.op == 5 || sl.op == 7 || (sl.op == 8 && sl.sources.any fun l => lbaDie l == d)

/-- The verb takes a window of the anchor's ingress pool: a write, or a read of a member die (11 R338). -/
def Slot.ingress (sl : Slot) : Bool :=
  sl.op == 2 || sl.op == 3 || sl.op == 8 || ((sl.op == 1 || sl.op == 5 || sl.op == 7) && sl.parts.any fun p => p.die.val != 0)

/-- A part's dispatch slot and egress window return (11 R342). -/
def State.partBack (s : State) (sl : Slot) (d : DieId) : State :=
  s.modDie d fun x =>
    { x with
      mirror := { x.mirror with
        slots := if sl.takesSlot d then x.mirror.slots + 1 else x.mirror.slots
        egress := if sl.egressOn d then min 8388608 (x.mirror.egress + sl.window) else x.mirror.egress }
      data := { x.data with dispatch := x.data.dispatch.filter (· != sl.asn) } }

/-- The ingress window returns (11 R342). -/
def State.ingressBack (s : State) (sl : Slot) : State :=
  if sl.ingress then
    s.modDie 0 fun x => { x with mirror := { x.mirror with ingress := min 8388608 (x.mirror.ingress + sl.window) } }
  else s

/-- Every part still held gives back what it holds. -/
def State.backAll (s : State) (sl : Slot) : State :=
  let left := sl.parts.filter fun p => !p.delivered
  let s := left.foldl (fun s p => s.partBack sl p.die) s
  if left.isEmpty then s else s.ingressBack sl

/-- Statuses that carry no data and no result (13 R402). -/
def State.reject (s : State) (asn : Nat) (status : BitVec 16) (x : ErrInfo := {}) : State :=
  let s := match s.slots.find? asn with
    | some sl => s.backAll sl
    | none => s
  let s := s.modSlot asn fun sl => { sl with parts := sl.parts.map fun p => { p with applied := true, delivered := true } }
  s.settleVerb asn status 0 x

/-- A count in a field of w bits; the spec states no value for one that does not fit (log 25). -/
def narrow (w v : Nat) : Nat := if v < 2 ^ w then v else Config.narrow w v % 2 ^ w

/-- RESULT of a verb from its parts: READ, VERIFY and COPY take the highest step and any unwritten block, SANITIZE adds
up, others follow the part that decided (12 R391, 13 R405, R425). -/
def Slot.combine (sl : Slot) (status : BitVec 16) : BitVec 64 :=
  let ps := sl.parts
  if status ≠ St.success then
    match ps.find? fun p => p.status == status with
    | some p => p.result
    | none => 0
  else if sl.op = 1 ∨ sl.op = 5 then
    BitVec.ofNat 64 ((ps.map fun p => p.result.toNat % 16).foldl max 0 +
      if ps.any fun p => p.result.getLsbD 4 then 16 else 0)
  else if sl.op = 0x4A then
    let sum := fun (f : Nat → Nat) => narrow 8 ((ps.map fun p => f p.result.toNat).foldl (· + ·) 0)
    BitVec.ofNat 64 (sum (· % 256) + 256 * sum (· / 256 % 256))
  else
    match ps.find? fun p => p.result != 0 with
    | some p => p.result
    | none => 0

/-- Data of the parts in die order up to and with the first that failed. -/
def partsData : List VPart → List Byte
  | [] => []
  | p :: r => if p.status ≠ St.success then p.data else p.data ++ partsData r

/-- Every part has reached the anchor: the verb's status is the first that is not SUCCESS in die order (01 R22). -/
def State.conclude (s : State) (asn : Nat) : State :=
  match s.slots.find? asn with
  | none => s
  | some sl =>
    if sl.orphan then { s with slots := s.slots.erase asn }
    else if sl.decided then s
    else
      let bad := sl.parts.find? fun p => p.status != St.success
      let status := match bad with
        | some p => p.status
        | none => St.success
      let data := partsData sl.parts
      let s := if data.isEmpty then s
        else ((s.emit (.hostData asn data)).monitor 0 1 data.length).stage asn 0 10
      let info : ErrInfo := match bad with
        | some p => { die := some p.die, head := p.head, lba := p.lba, step := p.step, chan := p.chan, detail := p.detail }
        | none => {}
      s.settleVerb asn status (sl.combine status) info

/-- A part's completion reaches the anchor: its dispatch slot and its windows return (11 R342). -/
def State.deliver (s : State) (asn : Nat) (d : DieId) : State :=
  match s.slots.find? asn with
  | none => s
  | some sl =>
    if sl.parts.all fun p => p.die != d || p.delivered then s
    else
      let s := (s.partBack sl d).modPart asn d fun p => { p with applied := true, delivered := true }
      if (s.slots.getD asn sl).parts.all (·.delivered) then (s.ingressBack sl).conclude asn else s

/-- A part has come to its end on its die; the anchor's own part is delivered at once (11 R359). -/
def State.partEnd (s : State) (asn : Nat) (d : DieId) (f : VPart → VPart) : State :=
  let s := (s.modPart asn d fun p => { f p with applied := true }).stage asn d 9
  if d.val = 0 then s.deliver asn d else s

/-- End a part with a status alone. -/
def State.partFail (s : State) (asn : Nat) (d : DieId) (status : BitVec 16) (lba : Option Nat := none) : State :=
  s.partEnd asn d fun p => { p with status, lba }

def State.partOk (s : State) (asn : Nat) (d : DieId) (result : BitVec 64 := 0) (data : List Byte := []) : State :=
  s.partEnd asn d fun p => { p with status := St.success, result, data }

end Sys2Proof.Machine
end

