-- ==== Sys2Proof/Machine/Data.lean ====
section
/-! DEFINITION. The write cache on its way to the media: records, destage, compression, husks, frame rewrites, the
journal's rows and format (09 R286 to R303; 10 R304 to R320; 11 R353 to R358; 07 R231 to R233). -/

namespace Sys2Proof.Machine

/-! ### Who waits for what -/

def writeOp (op : Nat) : Bool := op == 2 || op == 3 || op == 8

/-- The verb writes to a zone of die d: its own zone, or two neighbouring conventional zones (09 R270). -/
def Slot.writesZone (sl : Slot) (d : DieId) (z : Nat) : Bool :=
  writeOp sl.op && sl.fixed.isNone && lbaDie sl.lba == d &&
    decide (zoneOf (lbaBlock sl.lba) ≤ z ∧ z ≤ zoneOf (lbaBlock sl.lba + eNlb sl.entry))

/-- Its data on die d has arrived whole in the write cache, or never will (11 R357). -/
def Slot.arrived (sl : Slot) (d : DieId) : Bool :=
  match sl.part? d with
  | some p => p.dataSent || p.applied
  | none => true

/-- A write to the zone with an ASN below `asn` has not arrived. -/
def State.unarrived (s : State) (d : DieId) (z asn : Nat) : Bool :=
  s.slots.entries.any fun e => decide (e.1 < asn) && e.2.writesZone d z && !(e.2.arrived d)

/-- A version of the write that still has to reach the media, or whose mark is open (11 R351, 07 R233). -/
def State.versionsOpen (s : State) (d : DieId) (asn : Nat) : Bool :=
  (s.die d).data.wc.entries.any fun e => e.2.any fun v => v.asn == asn && (v.staging || v.dirty)

/-- The zone a FLUSH covers; none for the device (13 R404, R407). -/
def Slot.flushZone? (sl : Slot) : Option Nat :=
  if eVs sl.entry 0 1 % 2 = 1 then some (zoneOf (lbaBlock sl.lba)) else none

/-- Everything an earlier write of the scope made dirty is clean (13 R407). -/
def State.flushDone (s : State) (d : DieId) (sl : Slot) : Bool :=
  let in_ := fun (z : Nat) => match sl.flushZone? with
    | some y => y == z
    | none => true
  !((s.die d).data.wc.entries.any fun e => in_ (zoneOf e.1) && e.2.any fun v => decide (v.asn < sl.asn) && v.dirty) &&
    !(s.slots.entries.any fun e => decide (e.1 < sl.asn) && writeOp e.2.op && e.2.fixed.isNone && lbaDie e.2.lba == d &&
        in_ (zoneOf (lbaBlock e.2.lba)) && !(e.2.arrived d))

/-- RESULT of a write: the assigned first LBA of an append (13 R406, R412). -/
def Slot.writeResult (sl : Slot) : BitVec 64 :=
  if sl.op = 3 ∨ (sl.op = 8 ∧ eVs sl.entry 1 1 % 2 = 1) then BitVec.ofNat 64 sl.lba else 0

/-- End the parts on a die that waited for data to become clean: write-throughs and flushes (11 R351, 13 R407). -/
def State.recheck (s : State) (d : DieId) : State :=
  s.slots.keys.foldl (fun s asn =>
    match s.slots.find? asn with
    | none => s
    | some sl =>
      let begun := match sl.part? d with
        | some p => p.begun && !p.applied
        | none => false
      if !begun then s
      else if writeOp sl.op && sl.writeThrough && !(s.versionsOpen d asn) then s.partOk asn d sl.writeResult
      else if sl.op = 4 ∧ s.flushDone d sl then s.partOk asn d
      else s) s

/-! ### Clean data (11 R358) -/

/-- Versions of a block once that of `asn` is on the media: it is clean, what it replaced is gone. -/
def cleanVers (asn : Nat) (vs : List CacheVer) : List CacheVer :=
  match vs.find? fun v => v.asn == asn with
  | none => vs
  | some w =>
    (vs.filter fun v => !(v.resetCount == w.resetCount && decide (v.asn < asn))).map fun v =>
      if v.asn = asn then { v with dirty := v.marked, staging := false } else v

def State.cleanBlocks (s : State) (d : DieId) (xs : List (Nat × Nat)) : State :=
  xs.foldl (fun s e => s.putVersions d e.1 (cleanVers e.2 (s.versions d e.1))) s

/-! ### JOURNAL_APPEND (11 R354, R357) -/

/-- Words of the conventional bitmap with the bits of some blocks set. -/
def State.bitmapItems (s : State) (d : DieId) (blocks : List Nat) : List JItem :=
  let ws := blocks.foldl (fun m b =>
    m.insert (b / 64) (m.getD (b / 64) ((s.die d).data.bitmap.getD (b / 64) 0) ||| BitVec.ofNat 64 (2 ^ (b % 64)))) ({} : KMap (BitVec 64))
  ws.entries.map fun e => .bitmap e.1 e.2

/-- Descriptor of a sequential zone after a write that ends at `last`. -/
def ZDesc.wrote (v : ZDesc) (capacity last : Nat) : ZDesc :=
  let c := { v.content with wp := max v.content.wp last }
  let open_ := v.state == .empty || v.state == .closed || v.state == .implicitOpen || v.state == .explicitOpen
  if !open_ then { v with content := c }
  else if capacity ≤ last then { v with content := c, state := .full, finishReason := 1 }
  else { v with content := c, state := if v.state = .explicitOpen then .explicitOpen else .implicitOpen }

/-- Items of a waiting record, from the map as it stands. -/
def State.pendItems (s : State) (d : DieId) (p : JPend) : List JItem :=
  let conv := (p.writes.filter fun w => s.isConv d w.1).flatMap fun w =>
    List.range' (w.1 * zoneSpan + w.2.1) (w.2.2 - w.2.1)
  let clean := (p.clean.map (·.1)).filter fun b => s.isConv d (zoneOf b)
  let seq := (p.writes.filter fun w => !(s.isConv d w.1)).map fun w =>
    let v := s.zone d w.1
    JItem.zone w.1 (v.desc.wrote v.desc.content.capacity w.2.2)
  seq ++ s.bitmapItems d (conv ++ clean) ++ p.items

/-- A waiting record may be appended: records of one zone go in ASN order, behind earlier RESETs (11 R357). -/
def State.pendReady (s : State) (d : DieId) (p : JPend) : Bool :=
  p.writes.all fun w =>
    let v := s.zone d w.1
    !((s.die d).data.jq.any fun b => b.asn != 0 && decide (b.asn < p.asn) && b.writes.any fun u => u.1 == w.1) &&
      !(v.resets.any fun r => decide (r < p.asn)) && !(s.unarrived d w.1 p.asn)

/-- A write's record is durable: the write-back part ends, the write-through waits for the media (11 R351, R360). -/
def State.writeDurable (s : State) (d : DieId) (asn : Nat) : State :=
  match s.slots.find? asn with
  | none => s
  | some sl =>
    let s := s.modPart asn d fun p => { p with begun := true }
    if sl.writeThrough then s.recheck d else s.partOk asn d sl.writeResult

/-- Append one waiting record (11 R354, R358, R360). -/
def State.appendPend (s : State) (d : DieId) (p : JPend) : State :=
  let items := s.pendItems d p
  let s := s.modData d fun x => { x with jq := x.jq.filter (· != p) }
  let s := (s.journal d p.asn items).cleanBlocks d p.clean
  let s := if p.asn = 0 then s else s.writeDurable d p.asn
  s.recheck d

/-- JOURNAL_APPEND (11 R354, R357). -/
def execJournalAppend (d : DieId) (s : State) : Res :=
  onDie d s fun s =>
    match (s.die d).data.jq.find? (s.pendReady d) with
    | none => s
    | some p => s.appendPend d p

/-- JOURNAL_FLUSH (11 R355). -/
def execJournalFlush (d : DieId) (s : State) : Res :=
  onDie d s fun s =>
    let x := s.die d
    let due := decide (s.getN Obj.journalFlushKib (dieInst d) * 1024 ≤ tailBytes x.data) ||
      (!x.data.ring.isEmpty && decide (64 ≤ (x.clock.rev + 16777216 - x.data.tailRev) % 16777216))
    if due then s.flushJournal d else s

/-! ### Checkpoint and frame pages (09 R296, 11 R356) -/

def DieData.image (x : DieData) : MapImage := ⟨x.zones.mapVals fun _ v => v.desc, x.segs, x.bitmap, x.frames⟩

def logBytes (x : DieData) : Nat := (x.log.map JRec.bytes).foldl (· + ·) 0

/-- Take a checkpoint (11 R356 steps 1 to 6). -/
def State.takeCheckpoint (s : State) (d : DieId) : State :=
  let s := s.journalFlags d 0 1 []
  let base := (s.die d).data.tail
  let s := s.modData d fun x =>
    { x with
      checkpoint := x.image, homePages := x.pages.foldl (fun l e => if e.2 then insertNat e.1 l else l) x.homePages
      pages := x.pages.map fun e => (e.1, false) }
  let s := (s.journalFlags d 0 2 []).flushJournal d
  s.modData d fun x => { x with cpBase := base, log := x.log.filter fun r => decide (base ≤ r.jseq) }

/-- MAP_CHECKPOINT (11 R356): the log has passed three quarters of its 1 GiB. -/
def execMapCheckpoint (d : DieId) (s : State) : Res :=
  onDie d s (when (decide (805306368 < logBytes (s.die d).data)) (·.takeCheckpoint d))

/-- FRAME_PAGE_WRITEBACK (09 R296): a dirty page goes to both homes. -/
def execFramePageWriteback (d : DieId) (page : Nat) (s : State) : Res :=
  onDie d s fun s => s.modData d fun x =>
    if x.pages.any fun e => e.1 == page && e.2 then
      { x with pages := x.pages.map fun e => if e.1 = page then (page, false) else e, homePages := insertNat page x.homePages }
    else x

/-! ### Destage (09 R286 to R290, 11 R358) -/

/-- Actuator that writes a zone. -/
def State.zoneAct (s : State) (d : DieId) (z : Nat) : Act :=
  if s.isConv d z then convAct z else ((s.zone d z).desc.content.actuator).getD .A

/-- User data of the zone may be put on the media now (01 R44, 08 R241, 10 R328, 11 R362, 18 R541). -/
def State.mayDestage (s : State) (d : DieId) (z : Nat) : Bool :=
  let x := s.die d
  let a := s.zoneAct d z
  x.data.pfail.isNone && !x.data.frozen && x.hk.state != .stopWrites && x.hk.state != .shutdown &&
    x.clock.state == .locked && (x.act a).state == .tracking && !(x.held a) && !(s.isolated d) &&
    !(x.data.erasing.any fun e => e.1 == (s.zone d z).desc.content.keyDomain)

/-- Versions of a zone's executed contents that still have to go to the media, in block order. -/
def State.waitingVers (s : State) (d : DieId) (z : Nat) : List (Nat × CacheVer) :=
  let rc := (s.zone d z).desc.content.resetCount
  ((s.die d).data.wc.entries.filter fun e => zoneOf e.1 == z).filterMap fun e =>
    (e.2.find? fun v => v.resetCount == rc && (v.dirty || v.staging) && s.recorded d v.asn).map fun v => (offsetOf e.1, v)

/-- Already placed and only waiting for its record or its mark. -/
def State.placed (s : State) (d : DieId) (z o : Nat) : Bool :=
  decide (o % 64 < (s.frameLive d z (o / 64)).len / 16)

/-- Place the waiting blocks of an uncompressed zone in order, as far as it goes. -/
def State.destageSeq (s : State) (d : DieId) (z : Nat) : List (Nat × CacheVer) → State
  | [] => s
  | e :: rest =>
    let r := s.placeNext d z e.1 e.2
    if r.2 then r.1.destageSeq d z rest else r.1

/-- Put one block of a conventional zone in place; the block is left while an earlier read needs what it replaces
(09 R290, 12 R392). -/
def State.destageConv (s : State) (d : DieId) (z : Nat) (e : Nat × CacheVer) : State :=
  let b := z * zoneSpan + e.1
  let c := (s.zone d z).desc.content
  if s.readPending d b e.2.asn then s
  else
    match s.convPlace d b with
    | none => s
    | some (h, loc) =>
      if !(s.headWritable d h) then s
      else
        (((s.putBlock d b c.keyDomain c.resetCount none h loc e.2.data).modData d fun x =>
          { x with rc := x.rc.erase b }).pendItem d [] [(b, e.2.asn)])

/-- Write-throughs of a READ_ONLY zone that could not be placed end with WRITE_FAULT, their blocks are dropped
(13 R406). -/
def State.failStaging (s : State) (d : DieId) (z : Nat) : State :=
  let as := ((s.waitingVers d z).filter fun e => e.2.staging && !(s.placed d z e.1)).map (·.2.asn)
  let s := s.modData d fun x =>
    { x with wc := x.wc.mapVals fun k vs => if zoneOf k = z then vs.filter fun v => !(v.staging && as.contains v.asn) else vs }
  let s := s.modData d fun x => { x with wc := x.wc.filter fun _ vs => !vs.isEmpty }
  as.eraseDups.foldl (fun s a => s.partFail a d St.writeFault) s

/-! ### Compression jobs (09 R287, R288; 10 R306 to R317) -/

/-- Blocks of one husk. -/
def Content.huskBlocks (c : Content) : Nat := c.huskKib / 4

/-- First block of a compressed zone that no husk or job covers yet. -/
def State.compEnd (s : State) (d : DieId) (z : Nat) : Nat :=
  let x := (s.die d).data
  let ends := (x.husks.entries.filter fun e => e.1 / 536870912 == z).map (fun e => e.2.offset + e.2.logicalLen / 4096)
  let job := fun (j : Job) => if j.zone = z ∧ !j.decomp then j.offset + j.input.length / 4096 else 0
  let fin := (x.finished.filter fun h => h.zone == z).map fun h => h.offset + h.logicalLen / 4096
  (ends ++ x.compQ.map job ++ (x.lanes.filterMap id).map job ++ fin).foldl max 0

/-- Recorded versions of a run of blocks, zeros for one recorded unreadable; none when one is missing. -/
def State.runVers (s : State) (d : DieId) (z start n : Nat) : Option (List (Nat × CacheVer)) :=
  let rc := (s.zone d z).desc.content.resetCount
  (List.range' start n).mapM fun o =>
    match (s.versions d (z * zoneSpan + o)).find? fun v => v.resetCount == rc && s.recorded d v.asn with
    | some v => some (o, v)
    | none => if (s.die d).data.unreadable.contains (z * zoneSpan + o) then some (o, default) else none

/-- A FLUSH or VERIFY that has begun covers the zone (09 R288, 13 R407, R408). -/
def State.flushCovers (s : State) (d : DieId) (z : Nat) : Bool :=
  s.slots.entries.any fun e =>
    let sl := e.2
    let begun := match sl.part? d with
      | some p => p.begun && !p.applied
      | none => false
    begun && ((decide (sl.op = 4) && match sl.flushZone? with
        | some y => y == z
        | none => true) ||
      (decide (sl.op = 5) && (sl.blocksOn d).any fun b => zoneOf b == z))

/-- Nothing of the zone is still on its way to the write pointer. -/
def State.zoneQuiet (s : State) (d : DieId) (z : Nat) : Bool :=
  !((s.die d).data.jq.any fun p => p.writes.any fun w => w.1 == z) && !(s.unarrived d z s.asn)

/-- Queue the next job of a compressed zone: a whole husk, or a partial one that is to be stored short. `fuel` bounds
the jobs of one command. -/
def State.queueJobs (s : State) (d : DieId) (z : Nat) : Nat → State
  | 0 => s
  | fuel + 1 =>
    let v := s.zone d z
    let c := v.desc.content
    let hb := max 1 c.huskBlocks
    let e := s.compEnd d z
    let stop := min c.wp ((e / hb + 1) * hb)
    let whole := decide (stop = (e / hb + 1) * hb)
    if stop ≤ e then if v.short && s.zoneQuiet d z then s.modZone d z fun v => { v with short := false } else s
    else if !(whole || v.short || s.flushCovers d z || (s.die d).data.overBudget) then s
    else
      match s.runVers d z e (stop - e) with
      | none => s
      | some vs =>
        let j : Job :=
          { decomp := false, zone := z, offset := e, input := vs.flatMap fun p => blockBytes p.2.data, short := !whole
            chain := 0, shortChain := false, unit := 0, clean := vs.map fun p => (z * zoneSpan + p.1, p.2.asn)
            depth := 0, lzy := false, nice := 0 }
        let s := s.modData d fun x => { x with compQ := x.compQ ++ [j] }
        s.queueJobs d z fuel

/-- DESTAGE (09 R286 to R290; 10 R309; 11 R358). -/
def execDestage (d : DieId) (zone : Nat) (s : State) : Res :=
  onDie d s fun s =>
    if !(s.mayDestage d zone) then s
    else if s.isConv d zone then
      ((s.waitingVers d zone).foldl (fun s e => s.destageConv d zone e) (s.pendOpen d)).pendClose d
    else if (s.zone d zone).desc.content.huskKib ≠ 0 then s.queueJobs d zone 8192
    else
      let es := (s.waitingVers d zone).filter fun e => !(s.placed d zone e.1)
      let s := ((s.pendOpen d).destageSeq d zone es).pendClose d
      if (s.zone d zone).desc.state = .readOnly then s.failStaging d zone else s

/-- A lane is free; how many decompress (10 R309). -/
def DieData.freeLane (x : DieData) : Option Nat := (List.range 16).find? fun i => (x.lanes.getD i none).isNone

def DieData.decompLanes (x : DieData) : Nat := (x.lanes.filter fun l => (l.map Job.decomp).getD false).length

/-- A free lane takes a decompression job (10 R309). -/
def State.takesDecomp (s : State) (d : DieId) : Bool :=
  let x := (s.die d).data
  !x.decompQ.isEmpty && (x.compQ.isEmpty || decide (x.decompLanes < s.getN Obj.decompLaneLimit (dieInst d)))

/-- Bytes of the compression staging partition in use (10 R315, 11 R337). -/
def stagingBytes (x : DieData) : Nat :=
  ((x.lanes.filterMap id).map fun j => if j.decomp then 0 else j.chain).foldl (· + ·) 0 +
    (x.finished.map fun h => h.units * 16).foldl (· + ·) 0

/-- Less than one eighth of the staging partition is free (10 R315). -/
def State.stagingTight (s : State) (d : DieId) : Bool :=
  let size := s.getN Obj.compStagingMib (dieInst d) * 1048576
  decide ((size - stagingBytes (s.die d).data) * 8 < size)

/-- COMPRESS_JOB (10 R306, R309, R314, R315). -/
def execCompressJob (d : DieId) (buffers : Option Nat) (s : State) : Res :=
  onDie d s fun s =>
    let x := (s.die d).data
    let i := dieInst d
    match x.freeLane, x.compQ with
    | some l, j :: rest =>
      if s.takesDecomp d || x.pfail.isSome then s
      else
        let full := j.input.length - 64
        let chain := match buffers with
          | some n => if s.stagingTight d then min full (max 1 n * 4096) else full
          | none => full
        let j := { j with
          chain := chain, shortChain := decide (chain < full), depth := s.getN Obj.chainDepth i
          lzy := s.getB Obj.lazy i, nice := s.getN Obj.niceLength i }
        s.modData d fun x => { x with compQ := rest, lanes := x.lanes.set l (some j) }
    | _, _ => s

/-- A completion record (10 R317). -/
def jobRec (status dirn short overflows out crc : Nat) : BitVec 128 :=
  BitVec.ofNat 128 (status + 16 * dirn + 32 * short + 2 ^ 16 * (overflows % 65536) + 2 ^ 32 * out + 2 ^ 64 * crc)

/-- COMPRESS_JOB_END (10 R306, R313 to R317). -/
def execCompressJobEnd (d : DieId) (lane : Fin 16) (s : State) : Res :=
  onDie d s fun s =>
    match (s.die d).data.lanes.getD lane.val none with
    | none => s
    | some j =>
      if j.decomp then s
      else
        let i := dieInst d
        let out := Config.deflate j.depth j.lzy j.nice j.input
        let raw := decide (j.chain < out.length)
        let moves := if raw then (j.chain + 4095) / 4096 - 1 else (out.length - 1) / 4096
        let crc := crc32c j.input
        let c := (s.zone d j.zone).desc.content
        let h : Husk :=
          { zone := j.zone, offset := j.offset, raw, keyDomain := c.keyDomain, short := j.short
            logicalLen := j.input.length, storedLen := if raw then j.input.length else out.length
            dataCrc := BitVec.ofNat 32 crc, seq := 0, start := 0, stored := if raw then j.input else out
            logical := j.input, clean := j.clean }
        let rec_ := jobRec (if raw then 1 else 0) 0 (if j.shortChain then 1 else 0) moves (if raw then 0 else out.length) crc
        let s := s.modData d fun x =>
          { x with lanes := x.lanes.set lane.val none, finished := x.finished ++ [h], jobRecord := rec_ }
        let s := s.bump Obj.overflowCount i moves
        let s := if !raw then s
          else (if j.shortChain then s.bump Obj.rawChainShortCount i else s.bump Obj.rawIncompressibleCount i).count d 0x092
        s.count d 0x090

/-- DECOMPRESS_JOB (10 R309). -/
def execDecompressJob (d : DieId) (s : State) : Res :=
  onDie d s fun s =>
    let x := (s.die d).data
    match x.freeLane, x.decompQ with
    | some l, j :: rest =>
      if s.takesDecomp d then s.modData d fun x => { x with decompQ := rest, lanes := x.lanes.set l (some j) } else s
    | _, _ => s

/-- Blocks of a husk as the read cache keeps them (10 R319). -/
def Husk.blocks (h : Husk) : List (Nat × Block) :=
  (List.range (h.logicalLen / 4096)).map fun i =>
    (h.zone * zoneSpan + h.offset + i, blockOfBytes (sliceBytes h.logical (4096 * i) 4096))

/-- DECOMPRESS_JOB_END (10 R317, R319): the husk's blocks enter the read cache. -/
def execDecompressJobEnd (d : DieId) (lane : Fin 16) (s : State) : Res :=
  onDie d s fun s =>
    match (s.die d).data.lanes.getD lane.val none with
    | none => s
    | some j =>
      if !j.decomp then s
      else
        let bs := match (s.die d).data.husks.find? (huskKey j.zone j.unit) with
          | some h => h.blocks
          | none => []
        let n := bs.length * 4096
        let crc := match (s.die d).data.husks.find? (huskKey j.zone j.unit) with
          | some h => h.dataCrc.toNat
          | none => 0
        (s.modData d fun x =>
          { x with
            lanes := x.lanes.set lane.val none, jobRecord := jobRec 0 1 0 0 n crc
            rc := if j.fill then bs.foldl (fun m e => m.insert e.1 e.2) x.rc else x.rc }).count d 0x091

/-! ### Husks in the stream (10 R310 to R312, R318) -/

/-- The 32-byte header (10 R311). -/
def Husk.header (h : Husk) : List Byte :=
  let b := [if h.raw then 1 else 2, BitVec.ofNat 8 h.keyDomain, if h.short then 1 else 0, 0] ++ leBytes 4 h.offset ++
    leBytes 4 h.logicalLen ++ leBytes 4 h.storedLen ++ leBytes 4 h.dataCrc.toNat ++ leBytes 4 h.seq ++ leBytes 4 0
  b ++ leBytes 4 (crc32c b)

/-- The stored form (10 R312). -/
def Husk.form (h : Husk) : List Byte :=
  let b := h.header ++ h.stored
  b ++ List.replicate (h.units * 16 - b.length) 0

/-- Overlay bytes on a block. -/
def overlay (old : Block) (off : Nat) (bs : List Byte) : Block :=
  let o := blockBytes old
  blockOfBytes (o.take off ++ bs ++ o.drop (off + bs.length))

/-- Slots that bytes of the stream touch. -/
def slotsOf (unit bytes : Nat) : List Nat := List.range' (unit / 256) ((unit * 16 + bytes + 4095) / 4096 - unit / 256)

/-- Every slot of a run lies on a head that may be written. -/
def State.slotsWritable (s : State) (d : DieId) (c : Content) (slots : List Nat) : Bool :=
  slots.all fun q =>
    match s.streamPlace d c q with
    | some e => s.headWritable d e.2.1
    | none => false

/-- Put the bytes of a stored form at a stream unit. -/
def State.putForm (s : State) (d : DieId) (c : Content) (unit : Nat) (bs : List Byte) : State :=
  (slotsOf unit bs.length).foldl (fun s q =>
    match s.streamPlace d c q with
    | none => s
    | some e =>
      let key := mediaKey e.2.1 e.2.2.track.toNat e.2.2.sector.toNat
      let old := (((s.die d).data.media.find? key).map Sector.stored).getD zeroBlock
      let first := if q * 4096 ≤ unit * 16 then unit * 16 - q * 4096 else 0
      let part := (bs.drop (q * 4096 + first - unit * 16)).take (4096 - first)
      let b := overlay old first part
      s.putSector d e.2.1 e.2.2 ⟨b, b, 0, s.writeSeq d (some e.1)⟩) s

/-- Place one husk at the end of its zone's stream with its sequence number and add it to its frame; none when a head
may not be written. -/
def State.placeHusk (s : State) (d : DieId) (h : Husk) (seq settle : Nat) : Option State :=
  let c := (s.zone d h.zone).desc.content
  let h := { h with seq := seq, start := c.streamEnd }
  let bs := s.stored d h.keyDomain (h.zone * zoneSpan + h.offset) c.resetCount h.form
  if !(s.slotsWritable d c (slotsOf c.streamEnd bs.length)) then none
  else
    let s := (s.putForm d c c.streamEnd bs).modData d fun x =>
      { x with husks := x.husks.insert (huskKey h.zone c.streamEnd) h }
    some (s.modZone d h.zone fun v =>
      { v with desc := { v.desc with content := { v.desc.content with
          streamEnd := v.desc.content.streamEnd + h.units, reserved := v.desc.content.reserved - settle } } })

/-- Husks of a frame in the stream (09 R298). -/
def State.frameHusks (s : State) (d : DieId) (z : Nat) : Nat → Nat → List Husk
  | 0, _ => []
  | n + 1, unit =>
    match (s.die d).data.husks.find? (huskKey z unit) with
    | none => []
    | some h => h :: s.frameHusks d z n (unit + h.units)

def huskUnits (hs : List Husk) : Nat := (hs.map Husk.units).foldl (· + ·) 0

/-- Compress a husk anew for a frame rewrite (10 R318). -/
def State.reform (s : State) (d : DieId) (h : Husk) : Husk :=
  let i := dieInst d
  let out := Config.deflate (s.getN Obj.chainDepth i) (s.getB Obj.lazy i) (s.getN Obj.niceLength i) h.logical
  if out.length ≤ h.logicalLen - 64 then { h with raw := false, stored := out, storedLen := out.length }
  else { h with raw := true, stored := h.logical, storedLen := h.logicalLen }

/-- Place husks one after another at the end of the stream, each under its own sequence number; how many. -/
def State.placeHusks (s : State) (d : DieId) : List Husk → State × Nat
  | [] => (s, 0)
  | h :: rest =>
    match s.placeHusk d h h.seq 0 with
    | none => (s, 0)
    | some s =>
      let r := s.placeHusks d rest
      (r.1, r.2 + 1)

def State.frameEntry (z f start : Nat) (hs : List Husk) : JItem :=
  .frame (frameKey z f) ⟨start, (huskUnits hs * 16 + 255) / 256, hs.length⟩

/-- HUSK_PLACE (10 R310, R318): the zone's next husk in block order. -/
def State.huskPlace (s : State) (d : DieId) (z : Nat) : State :=
  let x := (s.die d).data
  let c := (s.zone d z).desc.content
  let ends := (x.husks.entries.filter fun e => e.1 / 536870912 == z).map fun e => e.2.offset + e.2.logicalLen / 4096
  let next := ends.foldl max 0
  match x.finished.find? fun h => h.zone == z && h.offset == next with
  | none => s
  | some h =>
    let f := h.offset / 64
    let fr := s.frameLive d z f
    let old := s.frameHusks d z fr.husks fr.start
    let here := fr.len == 0 || fr.start + huskUnits old == c.streamEnd
    let moved := if here then [] else old.map (s.reform d)
    let r := s.placeHusks d moved
    if r.2 < moved.length then r.1
    else
      let asns := (h.clean.map (·.2)).eraseDups
      match r.1.placeHusk d h c.huskSeq (h.logicalLen + 48 * asns.length) with
      | none => r.1
      | some s =>
        let i := dieInst d
        let start := if fr.len = 0 ∨ !here then c.streamEnd else fr.start
        let s := s.modZone d z fun v =>
          { v with desc := { v.desc with content := { v.desc.content with huskSeq := v.desc.content.huskSeq + 1 } } }
        let s := s.modData d fun x =>
          { x with
            finished := x.finished.filter (· != h)
            jq := x.jq ++ [⟨0, [], [State.frameEntry z f start ((if here then old else moved) ++ [h])], h.clean⟩] }
        (s.bump Obj.logicalBytesIn i h.logicalLen).bump Obj.storedBytesOut i (h.units * 16)

def execHuskPlace (d : DieId) (zone : Nat) (s : State) : Res :=
  onDie d s (when (s.mayDestage d zone) (·.huskPlace d zone))

/-! ### Frame rewrites and VERIFY_READ (07 R231 to R233, 09 R289) -/

/-- Draw segments for a rewrite until the stream has room past STREAM_END; false when none is left (09 R285, R289). -/
def State.rewriteRoom (s : State) (d : DieId) (z bytes : Nat) : Nat → State × Bool
  | 0 => (s, false)
  | fuel + 1 =>
    let c := (s.zone d z).desc.content
    if c.streamEnd * 16 + bytes ≤ s.segSlots d c.segs * 4096 then (s, true)
    else
      match s.drawChoice d z c false with
      | .seg n a => (s.takeSegment d z n a).rewriteRoom d z bytes fuel
      | _ => (s, false)

/-- Store a whole frame anew at STREAM_END; true when it was written (09 R289, 10 R318). -/
def State.frameRewrite (s : State) (d : DieId) (z f : Nat) : State × Bool :=
  let c := (s.zone d z).desc.content
  let fr := s.frameLive d z f
  let done := fun (s : State) (item : JItem) =>
    ((s.modData d fun x => { x with jq := x.jq ++ [⟨0, [], [item], []⟩] }).bump Obj.frameRewriteCount (dieInst d), true)
  if c.huskKib = 0 then
    match s.frameBlocks d z f with
    | none => (s, false)
    | some bs =>
      let r := s.rewriteRoom d z (4096 * bs.length) 65536
      if !r.2 then r
      else
        let e := (r.1.zone d z).desc.content.streamEnd
        let q := r.1.appendRun d z 0 bs
        if q.2 < bs.length then (q.1, false) else done q.1 (.frame (frameKey z f) ⟨e, fr.len, 0⟩)
  else
    let hs := (s.frameHusks d z fr.husks fr.start).map (s.reform d)
    let r := s.rewriteRoom d z (huskUnits hs * 16) 65536
    if !r.2 then r
    else
      let e := (r.1.zone d z).desc.content.streamEnd
      let q := r.1.placeHusks d hs
      if q.2 < hs.length then (q.1, false) else done q.1 (State.frameEntry z f e hs)

/-- Frame of a sequential zone that lies on a sector. -/
def State.frameAt (s : State) (d : DieId) (h : HeadId) (loc : SectorLoc) : Option (Nat × Nat) :=
  ((s.die d).data.frames.entries.find? fun e =>
    let c := (s.zone d (e.1 / 8192)).desc.content
    (slotsOf e.2.start (e.2.len * 256)).any fun q =>
      match s.streamPlace d c q with
      | some p => p.2.1 == h && p.2.2 == loc
      | none => false).map fun e => (e.1 / 8192, e.1 % 8192)

/-- Written block of a conventional zone that lies on a sector. -/
def State.convAt (s : State) (d : DieId) (h : HeadId) (loc : SectorLoc) : Option Nat :=
  ((s.die d).data.bitmap.entries.flatMap fun e => (List.range 64).filterMap fun i =>
    if e.2.getLsbD i then some (e.1 * 64 + i) else none).find? fun b => s.convPlace d b == some (h, loc)

/-- Blocks lost with a sector: the block, or all that the husks on it cover (07 R232, 10 R320). -/
def State.lostBlocks (s : State) (d : DieId) (h : HeadId) (loc : SectorLoc) : List Nat :=
  match s.frameAt d h loc with
  | none => (s.convAt d h loc).toList
  | some (z, f) =>
    let c := (s.zone d z).desc.content
    let fr := s.frame d z f
    let here := fun (q : Nat) => match s.streamPlace d c q with
      | some p => p.2.1 == h && p.2.2 == loc
      | none => false
    if c.huskKib = 0 then
      ((List.range (fr.len / 16)).filter fun i => here (fr.start / 256 + i)).map fun i => z * zoneSpan + 64 * f + i
    else
      ((s.frameHusks d z fr.husks fr.start).filter fun k => (slotsOf k.start (k.units * 16)).any here).flatMap fun k =>
        k.blocks.map (·.1)

/-- A verify mark taken off a marked version, its data clean (07 R232, R233). -/
def CacheVer.unmark (v : CacheVer) : CacheVer := if v.marked then { v with marked := false, dirty := false } else v

/-- Close the first entry of the verify list: its cached data is clean when no other entry marks it (07 R232, R233). -/
def State.closeEntry (s : State) (d : DieId) (e : VerifyEntry) (blocks : List Nat) : State :=
  let s := s.modData d fun x => { x with verify := x.verify.drop 1, verifyFull := false }
  let marksAgain := (s.die d).data.verify.any fun o => o.head == e.head && o.loc == e.loc && decide (o.reason ≤ 3)
  let s := if marksAgain then s else
    s.modData d fun x =>
      { x with wc := x.wc.mapVals fun k vs => if blocks.contains k then vs.map CacheVer.unmark else vs }
  s.recheck d

/-- Rewrite the data of a marked sector (07 R232, 09 R289): false when it cannot be written yet. -/
def State.rewriteSector (s : State) (d : DieId) (e : VerifyEntry) : State × Bool :=
  let s := s.bump Obj.verifyRewriteCount (headInst d e.head)
  match s.frameAt d e.head e.loc with
  | some (z, f) => s.frameRewrite d z f
  | none =>
    match s.convAt d e.head e.loc with
    | none => (s, true)
    | some b =>
      let c := (s.zone d (zoneOf b)).desc.content
      let data := match (s.versions d b).find? fun v => v.marked with
        | some v => some v.data
        | none => ((s.die d).data.media.find? (mediaKey e.head e.loc.track.toNat e.loc.sector.toNat)).map Sector.payload
      match data with
      | some x => if s.headWritable d e.head then (s.putBlock d b c.keyDomain c.resetCount none e.head e.loc x, true) else (s, false)
      | none => (s, true)

/-- VERIFY_READ (07 R232): the oldest entry's outcome, with the ladder step and the iterations used. -/
def execVerifyRead (d : DieId) (res : ChannelResult) (step iters : Nat) (s : State) : Res :=
  onDie d s fun s =>
    match (s.die d).data.verify with
    | [] => s
    | e :: _ =>
      let cached := s.blocksAt d e.head e.loc
      let good := decide (res = .ok) && step == 0 && decide (iters ≤ s.getN Obj.verifyIterLimit (dieInst d))
      let lost := decide (res = .unrecovered ∨ res = .addressMismatch ∨ res = .noSignal)
      if good then s.closeEntry d e cached
      else if lost && cached.isEmpty then
        let bs := s.lostBlocks d e.head e.loc
        let s := s.modData d fun x =>
          { x with unreadable := bs.foldl (fun m b => m.insert b St.integrityError) x.unreadable }
        (s.raise d Ev.verifyLost).closeEntry d e cached
      else
        let r := s.rewriteSector d e
        if r.2 then r.1.closeEntry d e cached else r.1

/-! ### Format (09 R302) -/

/-- Every sequential zone is EMPTY or OFFLINE as executed, and settled. -/
def State.zonesEmpty (s : State) (d : DieId) : Bool :=
  (s.die d).data.zones.entries.all fun e =>
    s.isConv d e.1 || ((e.2.desc.state == .empty || e.2.desc.state == .offline) && e.2.resets.isEmpty &&
      !(zoneUnsettled (s.die d).data e.1) && e.2.desc.content.segs.isEmpty)

/-- A verb that runs on the die is outstanding, other than a SET OBJECT. -/
def State.verbsOn (s : State) (d : DieId) : Bool :=
  s.slots.entries.any fun e => e.2.op != 0x43 && e.2.fixed.isNone && e.2.parts.any fun p => p.die == d && !p.delivered

def State.formatReady (s : State) (d : DieId) : Bool :=
  let x := s.die d
  s.zonesEmpty d && !(s.verbsOn d) && x.actA.state == .tracking && x.actB.state == .tracking &&
    allHeads.all fun h => !(s.stale d h)

/-- Defects of every head's list (09 R301). -/
def State.allDefects (s : State) (d : DieId) : List (Nat × Nat × Nat) :=
  allHeads.flatMap fun h => (defectEntries (s.dom Obj.defectList 0 (headInst d h) [])).map fun e => (h.val, e.1, e.2)

/-- Steps 1 to 4 of 09 R302. -/
def State.formatSteps (s : State) (d : DieId) (cb : Nat) : State :=
  let i := dieInst d
  let nb := (s.die d).tracks / max 1 (s.getN Obj.bandTracks i)
  let cz := s.getN Obj.convZones i
  let bt := s.getN Obj.bandTracks i
  let bg := s.getN Obj.bandGuardTracks i
  let ck := s.getN Obj.convKeyDomain i
  let df := s.allDefects d
  let s := s.modDie d fun x =>
    { x with
      life := if x.life = .unformatted then .active else x.life
      data := { x.data with
        convZones := cz, bandTracks := bt, bandGuard := bg, convKeyDomain := ck, nb := nb, convBands := cb, defects := df
        formatSeq := (x.data.formatSeq + 1) % 2 ^ 32, formatted := true
        zones := (x.data.zones.mapVals fun _ v =>
          ({ desc := { content := { resetCount := v.desc.content.resetCount } } } : Zone)).filter fun z _ => decide (cz ≤ z)
        segs := {}, bitmap := {}, frames := {}, husks := {}, unreadable := {}, pages := [], homePages := []
        wc := {}, rc := {}, jq := [], verify := [], verifyFull := false } }
  let bad := allHeads.filter (s.headFailed d)
  let bands := (List.range nb).filter fun b => !(s.reservedBand d b)
  let s := s.modData d fun x =>
    { x with segs := bad.foldl (fun m h => bands.foldl (fun m b => m.insert (h.val * nb + b) { state := .retired }) m) x.segs }
  (s.modMem d fun m => m.writeBackBefore ((s.die d).data.tail + 1)).modData d fun x =>
    { x with checkpoint := x.image, cpBase := x.tail + 1, log := [], ring := [], head := x.tail + 1 }

/-- FORMAT_COMMAND (09 R302): the status and RESULT of the write. -/
def State.formatCommand (s : State) (d : DieId) : State × BitVec 16 × Nat :=
  let i := dieInst d
  if !(s.formatReady d) then (s.put Obj.formatResult i 5, St.objectStateConflict, 5)
  else
    match s.formatConvBands d with
    | none => (s.put Obj.formatResult i 11, St.success, 0)
    | some cb => ((s.formatSteps d cb).put Obj.formatResult i 0, St.success, 0)

def execFormatCommand (d : DieId) (s : State) : Res := statusCommand d s (·.formatCommand d)

end Sys2Proof.Machine
end

