-- ==== Sys2Proof/Machine/VerbIo.lean ====
section
/-! DEFINITION. READ, VERIFY, WRITE, ZONE APPEND, COPY and FLUSH on the dies that run them, and the fabric messages that
carry their parts (01 R22, R23; 09 R298 to R300; 10 R319, R320; 11 R350, R357; 12 R392; 13 R405 to R412). -/

namespace Sys2Proof.Machine

/-! ### What a block reads as at an ASN (12 R392, 13 R405) -/

inductive BlockView where
  /-- From the write cache or the read cache -/
  | cache (x : Block)
  | unwritten
  | failed (status : BitVec 16)
  /-- From the media, with the stream unit of its husk in a compressed zone -/
  | medium (x : Block) (unit : Option Nat)

/-- The sector carries the block tag fields the translation layer expects (09 R299). -/
def State.sectorFits (s : State) (d : DieId) (seg : Option Nat) (h : HeadId) (loc : SectorLoc) : Bool :=
  match (s.die d).data.media.find? (mediaKey h loc.track.toNat loc.sector.toNat) with
  | some x => x.kind == 0 && x.writeSeq == s.writeSeq d seg
  | none => false

/-- Every sector of a husk does. -/
def State.huskFits (s : State) (d : DieId) (c : Content) (h : Husk) : Bool :=
  (slotsOf h.start (h.units * 16)).all fun q =>
    match s.streamPlace d c q with
    | some e => s.sectorFits d (some e.1) e.2.1 e.2.2
    | none => false

/-- A mapped block from the media (09 R298, R299; 10 R319). -/
def State.mediumView (s : State) (d : DieId) (block : Nat) : BlockView :=
  let c := (s.zone d (zoneOf block)).desc.content
  if s.isConv d (zoneOf block) ∨ c.huskKib = 0 then
    match s.blockPlace d block with
    | none => .failed St.mapMismatch
    | some e =>
      if s.sectorFits d e.1 e.2.1 e.2.2 then
        match (s.die d).data.media.find? (mediaKey e.2.1 e.2.2.track.toNat e.2.2.sector.toNat) with
        | some x => .medium x.payload none
        | none => .failed St.mapMismatch
      else .failed St.mapMismatch
  else
    match s.huskOf d block with
    | none => .failed St.integrityError
    | some h =>
      if s.huskFits d c h then
        .medium (blockOfBytes (sliceBytes h.logical (4096 * (offsetOf block - h.offset)) 4096)) (some h.start)
      else .failed St.mapMismatch

/-- What a verb with an ASN finds for a block. With `direct` set (FUA, VERIFY) only dirty data comes from a cache
(13 R405, R408). -/
def State.blockView (s : State) (d : DieId) (asn block : Nat) (direct : Bool) : BlockView :=
  let v := s.zone d (zoneOf block)
  let rc := (v.contentAt asn).resetCount
  match (s.versions d block).find? fun w =>
      decide (w.asn < asn) && w.resetCount == rc && (!direct || w.dirty || w.staging) with
  | some w => .cache w.data
  | none =>
    if v.resets.any fun r => decide (r < asn) then .unwritten
    else
      match (s.die d).data.unreadable.find? block with
      | some st => .failed st
      | none =>
        if !(s.mapped d block) then .unwritten
        else
          match (s.die d).data.rc.find? block with
          | some x => if direct then s.mediumView d block else .cache x
          | none => s.mediumView d block

/-! ### Order against earlier writes (12 R392) -/

/-- The verb's write range holds the block, widened to nominal husk ranges in a compressed zone (12 R392). -/
def State.writeCovers (s : State) (d : DieId) (sl : Slot) (block : Nat) : Bool :=
  let a := lbaBlock sl.lba
  let hb := max 1 ((s.zone d (zoneOf a)).contentAt sl.asn).huskBlocks
  decide (a / hb * hb ≤ block ∧ block < (a + sl.count + hb - 1) / hb * hb)

/-- An earlier-ASN write of the block has not arrived whole in the write cache. -/
def State.blockHeld (s : State) (d : DieId) (asn block : Nat) : Bool :=
  s.slots.entries.any fun e =>
    decide (e.1 < asn) && writeOp e.2.op && e.2.fixed.isNone && lbaDie e.2.lba == d && !(e.2.arrived d) &&
      s.writeCovers d e.2 block

/-- The heads of a zone can read: the HDA turns, the angle is locked, the actuator follows its track. -/
def State.mediaUp (s : State) (d : DieId) (z : Nat) : Bool :=
  let x := s.die d
  let a := s.zoneAct d z
  x.clock.state == .locked && (x.act a).state == .tracking && !(x.held a) && x.data.pfail.isNone

/-- A block can be had now: no earlier write is on its way, and its zone's heads are ready where the media hold it. -/
def State.blockReady (s : State) (d : DieId) (asn block : Nat) (direct : Bool) : Bool :=
  !(s.blockHeld d asn block) &&
    match s.blockView d asn block direct with
    | .medium _ _ => s.mediaUp d (zoneOf block)
    | _ => true

/-! ### Reading a run of blocks -/

/-- Why a block failed. -/
structure ReadFail where
  status : BitVec 16
  die : DieId
  lba : Nat
  head : Option HeadId
  step : Nat
  chan : Option ChannelResult
deriving Inhabited

/-- What a run of blocks has given so far; data newest first. -/
structure ReadSum where
  data : List Block := []
  step : Nat := 0
  unwritten : Bool := false
  media : Bool := false
  bad : Option ReadFail := none
deriving Inhabited

def chanStatus : ChannelResult → BitVec 16
  | .unrecovered => St.unrecovered
  | .addressMismatch => St.addressMismatch
  | .noSignal => St.noSignal
  | .ok | .recovered | .written | .abandoned => St.success

def outStep : BlockOutcome → Nat
  | .good k => k
  | .channel _ k => k
  | .huskHeaderBad | .huskDataBad | .memoryUncorrectable | .hostTransferError => 0

def outChan : BlockOutcome → Option ChannelResult
  | .channel r _ => some r
  | _ => none

/-- Status of a block from the media (10 R320, 13 R405, R428). -/
def mediumStatus : BlockOutcome → BitVec 16
  | .good _ => St.success
  | .channel r _ => chanStatus r
  | .huskHeaderBad | .huskDataBad => St.integrityError
  | .memoryUncorrectable => St.memoryUncorrectable
  | .hostTransferError => St.dataTransferError

/-- Status of a block from a cache or of an unwritten one. -/
def cacheStatus : BlockOutcome → BitVec 16
  | .memoryUncorrectable => St.memoryUncorrectable
  | .hostTransferError => St.dataTransferError
  | _ => St.success

/-- A husk outcome counts only where a husk was read (10 R320). -/
def outFit (o : BlockOutcome) (unit : Option Nat) : BlockOutcome :=
  match o, unit with
  | .huskHeaderBad, none => .good 0
  | .huskDataBad, none => .good 0
  | o, _ => o

/-- Count a failed husk check and raise its event with the zone and the offset of the husk's first block (10 R320). -/
def State.huskEvent (s : State) (d : DieId) (block : Nat) (o : BlockOutcome) : State :=
  let z := zoneOf block
  let off := match s.huskOf d block with
    | some h => h.offset
    | none => offsetOf block
  match o with
  | .huskHeaderBad =>
    ((s.modData d fun x => { x with headerBad := true }).bump Obj.huskHeaderErrors (dieInst d)).raise d Ev.huskHeaderBad [(4, (z : Int)), (4, (off : Int))]
  | .huskDataBad =>
    ((s.modData d fun x => { x with crcMismatch := true }).bump Obj.huskDataErrors (dieInst d)).raise d Ev.huskCrcMismatch [(4, (z : Int)), (4, (off : Int))]
  | _ => s

/-- Queue the decompression of a husk unless it is the one queued last (10 R309, R319). -/
def State.queueDecomp (s : State) (d : DieId) (z unit : Nat) (fill : Bool) : State :=
  let j : Job :=
    { decomp := true, zone := z, offset := 0, input := [], short := false, chain := 0, shortChain := false, unit
      clean := [], depth := 0, lzy := false, nice := 0, fill }
  s.modData d fun x => if x.decompQ.getLast? = some j then x else { x with decompQ := x.decompQ ++ [j] }

/-- Read one block into the sum. -/
def State.readOne (s : State) (d : DieId) (asn block : Nat) (direct : Bool) (o : BlockOutcome) (r : ReadSum) :
    State × ReadSum :=
  let fail := fun (st : BitVec 16) (h : Option HeadId) (k : Nat) (c : Option ChannelResult) =>
    { r with step := max r.step k, bad := some ⟨st, d, dieLba d block, h, k, c⟩ }
  match s.blockView d asn block direct with
  | .cache x =>
    if cacheStatus o = St.success then (s, { r with data := x :: r.data }) else (s, fail (cacheStatus o) none 0 none)
  | .unwritten =>
    if s.get Obj.unwrittenRead (dieInst d) = 1 then (s, fail St.unwrittenBlock none 0 none)
    else if cacheStatus o = St.success then (s, { r with data := zeroBlock :: r.data, unwritten := true })
    else (s, fail (cacheStatus o) none 0 none)
  | .failed st =>
    if st = St.mapMismatch then
      ((s.bump Obj.mapMismatchCount (dieInst d)).raise d Ev.mapMismatch, fail st none 0 none)
    else (s, fail st none 0 none)
  | .medium x unit =>
    let o := outFit o unit
    let head := (s.blockPlace d block).map (·.2.1)
    if mediumStatus o = St.success then
      let s := match unit with
        | some u => s.queueDecomp d (zoneOf block) u (!direct)
        | none => s
      let s := if direct then s else s.modData d fun y => { y with rc := y.rc.insert block x }
      (s, { r with data := x :: r.data, step := max r.step (outStep o), media := true })
    else (s.huskEvent d block o, { fail (mediumStatus o) head (outStep o) (outChan o) with media := true })

/-- Read blocks in order up to the first that fails (13 R403). -/
def State.readRun (s : State) (asn : Nat) (direct : Bool) : List (DieId × Nat × BlockOutcome) → ReadSum → State × ReadSum
  | [], r => (s, r)
  | e :: rest, r =>
    let q := s.readOne e.1 asn e.2.1 direct e.2.2 r
    if q.2.bad.isSome then q else q.1.readRun asn direct rest q.2

/-- Pair blocks with what the medium did with each; nothing said means decoded without the ladder. -/
def withOuts (bs : List (DieId × Nat)) (outs : List BlockOutcome) : List (DieId × Nat × BlockOutcome) :=
  (List.range bs.length).map fun i =>
    let b := bs.getD i default
    (b.1, b.2, outs.getD i (.good 0))

/-- RESULT of READ and VERIFY (13 R405). -/
def ReadSum.result (r : ReadSum) : BitVec 64 := BitVec.ofNat 64 (r.step % 16 + if r.unwritten then 16 else 0)

def ReadSum.bytes (r : ReadSum) : List Byte := r.data.reverse.flatMap blockBytes

/-- Stages 4 to 8 of a tagged verb (19 R559). -/
def State.readStages (s : State) (asn : Nat) (d : DieId) (media : Bool) : State :=
  let s := (s.stage asn d 4).stage asn d 5
  if media then ((s.stage asn d 6).stage asn d 7).stage asn d 8 else s

/-- End a part with what was read. -/
def State.readEnd (s : State) (asn : Nat) (d : DieId) (data : Bool) (r : ReadSum) : State :=
  (s.readStages asn d r.media).partEnd asn d fun p =>
    let p := { p with result := r.result, data := if data then r.bytes else [] }
    match r.bad with
    | none => { p with status := St.success }
    | some f => { p with status := f.status, lba := some f.lba, head := f.head, step := f.step, chan := f.chan }

/-- READ (13 R405): the part on die d. `outs` says what the medium and the memories did with each block of the part,
in LBA order. The part waits while an earlier write of its range is on its way or its heads are not ready. -/
def execRead (asn : Nat) (d : DieId) (outs : List BlockOutcome) (s : State) : Res :=
  onDie d s fun s =>
    match s.slots.find? asn with
    | none => s
    | some sl =>
      let bs := sl.blocksOn d
      if sl.op = 1 ∧ sl.ready d ∧ bs.all (fun b => s.blockReady d asn b (eFua sl.entry)) then
        let r := s.readRun asn (eFua sl.entry) (withOuts (bs.map fun b => (d, b)) outs) {}
        r.1.readEnd asn d true r.2
      else s

/-- Blocks of the range that an earlier write made dirty or staging (13 R408). -/
def State.rangeDirty (s : State) (d : DieId) (asn : Nat) (bs : List Nat) : Bool :=
  bs.any fun b => (s.versions d b).any fun v => decide (v.asn < asn) && (v.dirty || v.staging)

/-- VERIFY (13 R408): destage first, then every block from the media. -/
def execVerify (asn : Nat) (d : DieId) (outs : List BlockOutcome) (s : State) : Res :=
  onDie d s fun s =>
    match s.slots.find? asn with
    | none => s
    | some sl =>
      let bs := sl.blocksOn d
      if !(decide (sl.op = 5) && sl.ready d) then s
      else if s.rangeDirty d asn bs then s.modPart asn d fun p => { p with begun := true }
      else if bs.all fun b => s.blockReady d asn b true then
        let r := s.readRun asn true (withOuts (bs.map fun b => (d, b)) outs) {}
        r.1.readEnd asn d false r.2
      else s

/-! ### Writes (11 R350, R351, R357; 13 R406) -/

/-- A write's range by zone: zone, first offset, end offset (09 R270). -/
def zoneRuns (block count : Nat) : List (Nat × Nat × Nat) :=
  let z := zoneOf block
  let o := offsetOf block
  if o + count ≤ zoneSpan then [(z, o, o + count)] else [(z, o, zoneSpan), (z + 1, 0, o + count - zoneSpan)]

/-- All of a write's blocks are in the write cache: versions under its ASN, and a record that waits its turn
(11 R351, R357). A write under FUA, and one that fills its zone, has the partial husk stored short (09 R288). -/
def State.storeWrite (s : State) (asn : Nat) (d : DieId) (sl : Slot) (xs : List Block) : State :=
  let first := lbaBlock sl.lba
  let rc := ((s.zone d (zoneOf first)).contentAt asn).resetCount
  let wt := sl.writeThrough
  let s := (List.range xs.length).foldl (fun s i =>
    let b := first + i
    let v : CacheVer :=
      { asn, data := xs.getD i zeroBlock, dirty := !wt, staging := wt, resetCount := rc, marked := false }
    s.putVersions d b (insertVer v (s.versions d b))) s
  let runs := zoneRuns first xs.length
  let z := zoneOf first
  let c := (s.zone d z).contentAt asn
  let fills := !(s.isConv d z) && decide (c.capacity ≤ offsetOf first + xs.length)
  let s := if (eFua sl.entry || fills) && c.huskKib != 0 then s.modZone d z fun v => { v with short := true } else s
  let s := s.modData d fun x => { x with jq := x.jq ++ [⟨asn, runs, [], []⟩], arriving := x.arriving.erase asn }
  (s.modPart asn d fun p => { p with dataSent := true }).stage asn d 5

/-- Blocks of write data that have arrived for a verb. -/
def State.arrivals (s : State) (d : DieId) (asn : Nat) : KMap Block := (s.die d).data.arriving.getD asn {}

/-- Take the data of some blocks, and the whole write once none is missing. -/
def State.takeData (s : State) (asn : Nat) (d : DieId) (sl : Slot) (xs : List (Nat × Block)) : State :=
  let m := xs.foldl (fun m e => if e.1 < sl.count then m.insert e.1 e.2 else m) (s.arrivals d asn)
  if m.size = sl.count then s.storeWrite asn d sl (m.entries.map Prod.snd)
  else s.modData d fun x => { x with arriving := x.arriving.insert asn m }

/-- The owning die may take data of a write. -/
def Slot.takes (sl : Slot) (d : DieId) : Bool :=
  (sl.op == 2 || sl.op == 3) && lbaDie sl.lba == d && sl.ready d && !(sl.arrived d)

/-- Host data of a whole write on its way to the owning die (01 R23). -/
def State.writeData (s : State) (asn op : Nat) (data : List Block) : State :=
  match s.slots.find? asn with
  | none => s
  | some sl =>
    let d := lbaDie sl.lba
    if sl.op = op ∧ sl.takes d then
      let s := (s.monitor 0 0 (4096 * data.length)).send 0 d 0x02 asn
      s.takeData asn d sl ((List.range data.length).map fun i => (i, data.getD i zeroBlock))
    else s

/-- WRITE (13 R406). -/
def execWrite (asn : Nat) (data : List Block) (s : State) : Res := .next (s.writeData asn 2 data)

/-- ZONE_APPEND (13 R406). -/
def execZoneAppend (asn : Nat) (data : List Block) (s : State) : Res := .next (s.writeData asn 3 data)

/-- WRITE_DATA_TO_OWNER (01 R23, R36 opcode 0x02): one block. -/
def execWriteDataToOwner (asn : Nat) (d : DieId) (i : Nat) (block : Block) (s : State) : Res :=
  onDie d s fun s =>
    match s.slots.find? asn with
    | none => s
    | some sl =>
      if sl.takes d then ((s.monitor 0 0 4096).send 0 d 0x02 asn).takeData asn d sl [(i, block)] else s

/-! ### COPY (13 R411, R412) -/

/-- Worst-case bytes reserved for blocks of a zone (09 R284). -/
def worstCase (c : Content) (block count : Nat) : Nat :=
  let hb := c.huskBlocks
  4096 * count + if hb = 0 then 0 else 48 * ((block + count - 1) / hb - block / hb + 1)

/-- A COPY whose source failed: the destination's reservation and admission write pointer go back (13 R412). -/
def State.copyUndo (s : State) (sl : Slot) : State :=
  let d := lbaDie sl.lba
  let z := zoneOf (lbaBlock sl.lba)
  if s.isConv d z then s
  else
    s.modZone d z fun v =>
      let n := worstCase (v.contentAt sl.asn) (offsetOf (lbaBlock sl.lba)) sl.count
      let v := v.modTop fun c => { c with reserved := c.reserved - n }
      { v with awp := sl.savedAwp, heldBy := none, astate := if v.astate = .full then .implicitOpen else v.astate }

/-- COPY (13 R412). `outs` goes with the source blocks in list order. -/
def execCopy (asn : Nat) (outs : List BlockOutcome) (s : State) : Res :=
  .next <|
    match s.slots.find? asn with
    | none => s
    | some sl =>
      let bs := sl.sources.map fun l => (lbaDie l, lbaBlock l)
      let dst := lbaDie sl.lba
      let ready := decide (sl.op = 8) && sl.parts.all (fun p => sl.ready p.die) && !(sl.arrived dst) &&
        bs.all fun b => s.blockReady b.1 asn b.2 false
      if !ready then s
      else
        let r := s.readRun asn false (withOuts bs outs) {}
        let s := r.1.readStages asn dst r.2.media
        match r.2.bad with
        | some f =>
          (sl.parts.map (·.die)).foldl (fun s d =>
            s.partEnd asn d fun p =>
              if d = f.die then
                { p with status := f.status, lba := some f.lba, head := f.head, step := f.step, chan := f.chan }
              else p) (s.copyUndo sl)
        | none =>
          let s := s.modZone dst (zoneOf (lbaBlock sl.lba)) fun v =>
            if v.heldBy = some asn then { v with heldBy := none } else v
          let s := s.storeWrite asn dst sl r.2.data.reverse
          ((sl.parts.map (·.die)).filter (· != dst)).foldl (fun s d => s.partOk asn d) s

/-! ### FLUSH (13 R407) -/

/-- Every part of a FLUSH that has arrived begins, and ends at once where nothing is left to wait for. -/
def State.flushBegin (s : State) (asn : Nat) (scope : Nat) : State :=
  match s.slots.find? asn with
  | none => s
  | some sl =>
    if sl.op = 4 ∧ eVs sl.entry 0 1 % 2 = scope then
      ((sl.parts.map (·.die)).filter sl.ready).foldl (fun s d =>
        (s.modPart asn d fun p => { p with begun := true }).recheck d) s
    else s

/-- FLUSH_DEVICE (13 R407). -/
def execFlushDevice (asn : Nat) (s : State) : Res := .next (s.flushBegin asn 0)

/-- FLUSH_ZONE (13 R407). -/
def execFlushZone (asn : Nat) (s : State) : Res := .next (s.flushBegin asn 1)

/-! ### Parts across the fabric (01 R22, R36) -/

/-- The die is in service: past boot step 7 and reconciliation (20 R573, R582, R590). -/
def Die.inService (x : Die) : Bool := x.life == .active || x.life == .unformatted

/-- VERB_DISPATCH (01 R36 opcode 0x01): the part arrives on its die. -/
def execVerbDispatch (asn : Nat) (d : DieId) (s : State) : Res :=
  onDie d s fun s =>
    match (s.slots.find? asn).bind fun sl => sl.part? d with
    | none => s
    | some p =>
      if p.received || !(s.die d).inService then s
      else
        let s := s.modPart asn d fun p => { p with received := true }
        ((s.modData d fun x => { x with dispatch := x.dispatch ++ [asn] }).stage asn d 3).count d 0x0A1

/-- READ_DATA_TO_ANCHOR (01 R23, R36 opcode 0x12). -/
def execReadDataToAnchor (asn : Nat) (d : DieId) (s : State) : Res :=
  onDie d s fun s =>
    match (s.slots.find? asn).bind fun sl => sl.part? d with
    | none => s
    | some p =>
      if p.applied && !p.delivered && !p.dataSent && !p.data.isEmpty then
        (s.modPart asn d fun p => { p with dataSent := true }).send d 0 0x12 asn
      else s

/-- VERB_PART_COMPLETION (01 R22, R36 opcode 0x11): behind the part's read data. -/
def execVerbPartCompletion (asn : Nat) (d : DieId) (s : State) : Res :=
  onDie d s fun s =>
    match (s.slots.find? asn).bind fun sl => sl.part? d with
    | none => s
    | some p =>
      if p.applied && !p.delivered && (p.dataSent || p.data.isEmpty) then (s.send d 0 0x11 asn).deliver asn d else s

end Sys2Proof.Machine
end

