-- ==== Sys2Proof/Machine/ZoneVerbs.lean ====
section
/-! DEFINITION. Zone actions and ZONE REPORT: transitions of the admission view in ASN order, their execution, reports
(09 R272 to R281; 13 R404, R409, R410). -/

namespace Sys2Proof.Machine

/-! ### Zone states as verbs see them -/

/-- Every zone of an isolated or unformatted die is OFFLINE (09 R275 row 15, 20 R581). -/
def State.zoneState (s : State) (d : DieId) (z : Nat) : ZState :=
  let x := s.die d
  if x.life = .isolated ∨ x.life = .unformatted then .offline else (s.zone d z).astate

def ZState.code : ZState → Nat
  | .empty => 0
  | .implicitOpen => 1
  | .explicitOpen => 2
  | .closed => 3
  | .full => 4
  | .readOnly => 5
  | .offline => 6

def ZState.isOpen (x : ZState) : Bool := x == .implicitOpen || x == .explicitOpen

/-- Open sequential zones of a die (09 R277). -/
def State.openCount (s : State) (d : DieId) : Nat :=
  ((s.die d).data.zones.entries.filter fun e => !(s.isConv d e.1) && e.2.astate.isOpen).length

/-- A write-back write to the zone has been admitted and is on its way. -/
def State.writeComing (s : State) (d : DieId) (z : Nat) : Bool :=
  s.slots.entries.any fun e => e.2.writesZone d z && !e.2.writeThrough && !(e.2.arrived d)

/-- The zone is writing (09 R278). -/
def State.zoneWriting (s : State) (d : DieId) (z : Nat) : Bool := zoneDirty (s.die d).data z || s.writeComing d z

/-- Sequential zones that are writing (09 R274, R278). -/
def State.writingZones (s : State) (d : DieId) : List Nat :=
  ((s.die d).data.zones.keys.filter fun z => !(s.isConv d z) && s.zoneWriting d z)

/-! ### Fields of ZONE ACTION (13 R404) -/

def Slot.zact (sl : Slot) : Nat := eVs sl.entry 0 1 % 16

def Slot.zall (sl : Slot) : Bool := eVs sl.entry 0 1 / 16 % 2 == 1

def Slot.zone (sl : Slot) : Nat := zoneOf (lbaBlock sl.lba)

/-! ### Transitions of the admission view (09 R275, R279) -/

/-- What an action does to one zone. -/
inductive ZMove where
  | changed (v : Zone)
  | same
  | bad (status : BitVec 16)

/-- Contents after a RESET: cleared attributes, the next RESET_COUNT (09 R279). -/
def Content.afterReset (c : Content) : Content := { resetCount := (c.resetCount + 1) % 2 ^ 32 }

/-- OPEN. -/
def Zone.doOpen (v : Zone) : ZMove :=
  match v.astate with
  | .empty | .implicitOpen | .closed => .changed { v with astate := .explicitOpen }
  | .explicitOpen => .same
  | .full | .readOnly | .offline => .bad St.zoneInvalidTransition

/-- CLOSE, and the implicit close of 09 R277: rows 6 and 7. -/
def Zone.doClose (v : Zone) : ZMove :=
  match v.astate with
  | .implicitOpen | .explicitOpen =>
    if v.awp = 0 then .changed { v with astate := .empty } else .changed { v with astate := .closed, short := true }
  | .closed => .same
  | .empty | .full | .readOnly | .offline => .bad St.zoneInvalidTransition

/-- FINISH. -/
def Zone.doFinish (v : Zone) (asn : Nat) : ZMove :=
  match v.astate with
  | .empty | .implicitOpen | .explicitOpen | .closed => .changed { v with astate := .full, finishes := v.finishes ++ [asn] }
  | .full => .same
  | .readOnly | .offline => .bad St.zoneInvalidTransition

/-- RESET: later verbs see an EMPTY zone with new contents. -/
def Zone.doReset (v : Zone) (asn : Nat) : ZMove :=
  match v.astate with
  | .implicitOpen | .explicitOpen | .closed | .full =>
    .changed { v with astate := .empty, awp := 0, newer := v.newer ++ [v.top.afterReset], resets := v.resets ++ [asn] }
  | .empty => .same
  | .readOnly | .offline => .bad St.zoneInvalidTransition

/-- SET_ATTRIBUTES with values already checked (09 R272). -/
def Zone.doAttrs (v : Zone) (width husk key cap : Nat) : ZMove :=
  if v.astate = .empty ∨ (v.astate = .explicitOpen ∧ v.awp = 0) then
    .changed (v.modTop fun c => { c with attrSet := true, width, huskKib := husk, keyDomain := key, capacity := cap })
  else .bad St.zoneAttributesFixed

/-- OFFLINE. -/
def Zone.doOffline (v : Zone) : ZMove :=
  match v.astate with
  | .readOnly => .changed { v with astate := .offline }
  | .empty | .implicitOpen | .explicitOpen | .closed | .full | .offline => .bad St.zoneInvalidTransition

/-- The verb's action on one zone; a conventional zone takes none (13 R409). -/
def State.zoneMove (s : State) (sl : Slot) (d : DieId) (z : Nat) : ZMove :=
  let v := s.zone d z
  if s.isConv d z then .bad (if sl.zact = 5 then St.zoneAttributesFixed else St.zoneInvalidTransition)
  else
    match sl.zact with
    | 1 => v.doOpen
    | 2 => v.doClose
    | 3 => v.doFinish sl.asn
    | 4 => v.doReset sl.asn
    | 5 => v.doAttrs (eVs sl.entry 1 1) (eVs sl.entry 2 1) (eVs sl.entry 3 1) (eVs sl.entry 4 4)
    | 6 => v.doOffline
    | _ => .bad St.invalidField

/-- Zones an action covers, in zone order; with ALL only those an action can change (13 R409). -/
def State.zoneScope (s : State) (sl : Slot) (d : DieId) : List Nat :=
  if !sl.zall then [sl.zone]
  else if sl.zact = 3 then (List.range' (s.convCount d) (zoneSpan - s.convCount d))
  else (s.die d).data.zones.keys.filter fun z => !(s.isConv d z)

/-- Apply the action to the zones of its scope; how many changed. -/
def State.zoneMoves (s : State) (sl : Slot) (d : DieId) : List Nat → State × Nat
  | [] => (s, 0)
  | z :: rest =>
    match s.zoneMove sl d z with
    | .changed v =>
      let r := (s.putZone d z v).zoneMoves sl d rest
      (r.1, r.2 + 1)
    | _ => s.zoneMoves sl d rest

/-- A ZONE ACTION takes effect in the admission view, once (09 R279, 13 R409): at its own command, or before the next
verb is admitted. A refused transition ends the verb. -/
def State.zoneTake (s : State) (asn : Nat) : State :=
  match s.slots.find? asn with
  | none => s
  | some sl =>
    let d := lbaDie sl.lba
    match sl.part? d with
    | none => s
    | some p =>
      if p.begun || p.applied || sl.op != 6 then s
      else
        let bad := if sl.zall then none else match s.zoneMove sl d sl.zone with
          | .bad st => some st
          | _ => none
        match bad with
        | some st => s.reject asn st { die := some d, lba := some sl.lba, detail := BitVec.ofNat 32 (s.zoneState d sl.zone).code }
        | none =>
          let r := s.zoneMoves sl d (s.zoneScope sl d)
          r.1.modPart asn d fun p => { p with begun := true, result := BitVec.ofNat 64 (r.2 % 1048576) }

/-! ### Execution (09 R275, R279, R281) -/

/-- A verb names the zone (09 R279: "every earlier-ASN verb to the zone"). -/
def Slot.names (sl : Slot) (d : DieId) (z : Nat) : Bool :=
  let inRange := fun (lba n : Nat) => lbaDie lba == d &&
    decide (zoneOf (lbaBlock lba) ≤ z ∧ z ≤ zoneOf (lbaBlock lba + n - 1))
  sl.fixed.isNone &&
    ((sl.op == 1 || sl.op == 5) && (sl.blocksOn d).any (fun b => zoneOf b == z) ||
     (sl.op == 2 || sl.op == 3) && inRange sl.lba sl.count ||
     sl.op == 8 && (inRange sl.lba sl.count || sl.sources.any fun l => lbaDie l == d && zoneOf (lbaBlock l) == z) ||
     sl.op == 6 && lbaDie sl.lba == d && (sl.zall || sl.zone == z) ||
     sl.op == 4 && lbaDie sl.lba == d && sl.flushZone? == some z)

/-- Every verb of an ASN below `asn` that names the zone has completed. -/
def State.earlierDone (s : State) (d : DieId) (z asn : Nat) : Bool :=
  !(s.slots.entries.any fun e => decide (e.1 < asn) && e.2.names d z &&
    !(e.2.decided || e.2.parts.all fun p => p.die != d || p.applied))

/-- Every earlier-ASN write to the zone has its record. -/
def State.earlierRecorded (s : State) (d : DieId) (z asn : Nat) : Bool :=
  !(s.unarrived d z asn) &&
    !((s.die d).data.jq.any fun p => p.asn != 0 && decide (p.asn < asn) && p.writes.any fun w => w.1 == z)

/-- The descriptor follows the admission view after OPEN, CLOSE or SET_ATTRIBUTES. -/
def Zone.settle (v : Zone) (act : Nat) : ZDesc :=
  let d := v.desc
  if act = 1 then
    match d.state with
    | .empty | .implicitOpen | .closed => { d with state := .explicitOpen }
    | _ => d
  else if act = 2 then
    match d.state with
    | .implicitOpen | .explicitOpen => { d with state := if d.content.wp = 0 then .empty else .closed }
    | _ => d
  else d

/-- Finish OPEN, CLOSE or SET_ATTRIBUTES: descriptors journaled, the part ended. -/
def State.zoneSettle (s : State) (asn act : Nat) : State :=
  match s.slots.find? asn with
  | none => s
  | some sl =>
    let d := lbaDie sl.lba
    let begun := match sl.part? d with
      | some p => p.begun && !p.applied
      | none => false
    let zs := s.zoneScope sl d
    if !(decide (sl.op = 6 ∧ sl.zact = act) && begun && sl.ready d) then s
    else if !(zs.all fun z => s.earlierRecorded d z asn) then s
    else
      let items := (zs.filter fun z => !(s.isConv d z) && (s.zone d z).resets.isEmpty).map fun z =>
        JItem.zone z ((s.zone d z).settle act)
      let res := match sl.part? d with
        | some p => p.result
        | none => 0
      (s.journal d asn items).partOk asn d res

/-- One of the actions that need no later execution. -/
def State.zoneAction (s : State) (asn act : Nat) : State :=
  match s.slots.find? asn with
  | none => s
  | some sl => if sl.op = 6 ∧ sl.zact = act then (s.zoneTake asn).zoneSettle asn act else s

/-- ZONE_OPEN (09 R275). -/
def execZoneOpen (asn : Nat) (s : State) : Res := .next (s.zoneAction asn 1)

/-- ZONE_CLOSE (09 R275). -/
def execZoneClose (asn : Nat) (s : State) : Res := .next (s.zoneAction asn 2)

/-- ZONE_SET_ATTRIBUTES (09 R272). -/
def execZoneSetAttributes (asn : Nat) (s : State) : Res := .next (s.zoneAction asn 5)

/-- A FINISH or RESET that changed nothing ends at once; the others wait for their execution (09 R275, R279). -/
def State.zoneStart (s : State) (asn act : Nat) : State :=
  match s.slots.find? asn with
  | none => s
  | some sl =>
    if sl.op = 6 ∧ sl.zact = act then
      let s := s.zoneTake asn
      match (s.slots.find? asn).bind fun sl => sl.part? (lbaDie sl.lba) with
      | none => s
      | some p =>
        if p.begun && !p.applied && p.result == 0 && sl.ready p.die then s.partOk asn p.die else s
    else s

/-- ZONE_FINISH (09 R279): the admission write pointer stays, the zone admits nothing more. -/
def execZoneFinish (asn : Nat) (s : State) : Res := .next (s.zoneStart asn 3)

/-- ZONE_RESET (09 R279): admission write pointer 0, RESET_COUNT + 1, attributes cleared. -/
def execZoneReset (asn : Nat) (s : State) : Res := .next (s.zoneStart asn 4)

/-- Frame index entries of a zone that are set (09 R279). -/
def zoneFrames (x : DieData) (z : Nat) : List Nat := x.frames.keys.filter fun k => k / 8192 == z

/-- Drop what the caches, the compression queues and the waiting records hold of a zone's contents with a RESET_COUNT
(09 R279). -/
def dropContents (z rc : Nat) (x : DieData) : DieData :=
  let out := fun (b : Nat) => zoneOf b == z
  let keepVer := fun (v : CacheVer) => v.resetCount != rc
  let keepJob := fun (j : Job) => j.zone != z
  let keepItem := fun (i : JItem) => match i with
    | .frame k _ => k / 8192 != z
    | _ => true
  { x with
    wc := (x.wc.mapVals fun k vs => if out k then vs.filter keepVer else vs).filter fun _ vs => !vs.isEmpty
    rc := x.rc.filter fun k _ => !(out k)
    unreadable := x.unreadable.filter fun k _ => !(out k)
    husks := x.husks.filter fun k _ => k / 536870912 != z
    compQ := x.compQ.filter keepJob, decompQ := x.decompQ.filter keepJob
    finished := x.finished.filter fun h => h.zone != z
    lanes := x.lanes.map fun l => if (l.map keepJob).getD true then l else none
    jq := (x.jq.map fun p => { p with items := p.items.filter keepItem, clean := p.clean.filter fun e => !(out e.1) }).filter
      fun p => !(p.writes.isEmpty && p.items.isEmpty && p.clean.isEmpty) }

/-- Execute one zone's RESET: the old contents go, the next take their place (09 R279). -/
def State.zoneResetExec (s : State) (d : DieId) (z asn : Nat) : State :=
  let v := s.zone d z
  match v.newer with
  | [] => s
  | c :: rest =>
    let items := (zoneFrames (s.die d).data z).map fun k => JItem.frame k {}
    let back := s.returnItems d v.desc.content.segs
    let s := s.modData d (dropContents z v.desc.content.resetCount)
    let s := s.journal d asn ([JItem.zone z { v.desc with state := .empty, finishReason := 0, content := c }] ++ items ++ back)
    let s := s.modZone d z fun v => { v with newer := rest, resets := v.resets.drop 1, short := false }
    (s.poolCheck d .A).poolCheck d .B

/-- Execute one zone's FINISH (09 R275 row 9, R276, R279). -/
def State.zoneFinishExec (s : State) (d : DieId) (z asn : Nat) : State :=
  let v := s.zone d z
  let c := v.desc.content
  let gone := s.emptySegs d c
  let desc := { v.desc with state := .full, finishReason := 2, content := { c with segs := c.segs.filter fun n => !(gone.contains n) } }
  let s := s.journal d asn ([JItem.zone z desc] ++ s.returnItems d gone)
  s.modZone d z fun v =>
    { v with finishes := v.finishes.filter (· != asn), short := true, awp := if v.newer.isEmpty then v.desc.content.wp else v.awp }

/-- Execute one zone's OFFLINE (09 R281). -/
def State.zoneOfflineExec (s : State) (d : DieId) (z asn : Nat) : State :=
  let v := s.zone d z
  let c := v.desc.content
  let items := (zoneFrames (s.die d).data z).map fun k => JItem.frame k {}
  let back := s.returnItems d c.segs
  let s := s.modData d (dropContents z c.resetCount)
  s.journal d asn ([JItem.zone z { v.desc with state := .offline, content := { c with segs := [], reserved := 0 } }] ++ items ++ back)

/-- Execute a begun action once every earlier-ASN verb to its zones has completed (09 R279). -/
def State.zoneExecute (s : State) (asn act : Nat) (waits : State → DieId → Nat → Bool) (f : State → DieId → Nat → State) : State :=
  match s.slots.find? asn with
  | none => s
  | some sl =>
    let d := lbaDie sl.lba
    match sl.part? d with
    | none => s
    | some p =>
      let named := if sl.zall then (s.die d).data.zones.keys else if (s.die d).data.zones.contains sl.zone then [sl.zone] else []
      let zs := named.filter (waits s d)
      if decide (sl.op = 6 ∧ sl.zact = act) && p.begun && sl.ready d && zs.all fun z =>
          s.earlierDone d z asn && s.earlierRecorded d z asn then
        (zs.foldl (fun s z => f s d z) s).partOk asn d p.result
      else s

/-- ZONE_FINISH_EXECUTE (09 R279). -/
def execZoneFinishExecute (asn : Nat) (s : State) : Res :=
  .next (s.zoneExecute asn 3 (fun s d z => (s.zone d z).finishes.contains asn) fun s d z => s.zoneFinishExec d z asn)

/-- ZONE_RESET_EXECUTE (09 R279). -/
def execZoneResetExecute (asn : Nat) (s : State) : Res :=
  .next (s.zoneExecute asn 4 (fun s d z => (s.zone d z).resets.contains asn) fun s d z => s.zoneResetExec d z asn)

/-- ZONE_OFFLINE (09 R281): READ_ONLY to OFFLINE, its bands returned or retired. -/
def execZoneOffline (asn : Nat) (s : State) : Res :=
  .next <|
    match s.slots.find? asn with
    | none => s
    | some sl =>
      if sl.op = 6 ∧ sl.zact = 6 then
        (s.zoneTake asn).zoneExecute asn 6 (fun s d z => decide ((s.zone d z).astate = .offline ∧ (s.zone d z).desc.state ≠ .offline))
          fun s d z => s.zoneOfflineExec d z asn
      else s

/-! ### ZONE REPORT (13 R410) -/

/-- Capacity in blocks of the segment the zone's next draw would take; 0 for none. -/
def State.nextSegment (s : State) (d : DieId) (z : Nat) (c : Content) : Nat :=
  if s.isConv d z then 0
  else
    match s.drawChoice d z c true with
    | .seg n _ =>
      let hs := s.segHeads d n (s.attrs d c).width
      (hs.map fun h => s.bandSectors d false h (n % max 1 (s.numBands d))).foldl (· + ·) 0
    | _ => 0

/-- One 64-byte entry. -/
def State.reportEntry (s : State) (d : DieId) (z : Nat) : List Byte :=
  let v := s.zone d z
  let conv := s.isConv d z
  let c := v.top
  let a := s.attrs d c
  let act := match c.actuator with
    | some .B => 4
    | _ => 0
  let flags := (if conv then 1 else 0) + (if c.attrSet then 2 else 0) + act + 8 * (v.desc.finishReason % 8)
  leBytes 4 z ++ leBytes 1 (s.zoneState d z).code ++ leBytes 1 flags ++ leBytes 1 (if conv then 12 else a.width) ++
    leBytes 1 (if conv then 0 else a.huskKib) ++ leBytes 1 (if conv then c.keyDomain else a.keyDomain) ++ leBytes 3 0 ++
    leBytes 4 (if conv then 0xFFFFF else v.awp) ++ leBytes 4 (s.capacity d z) ++ leBytes 4 c.segs.length ++
    leBytes 8 (c.streamEnd * 16) ++ leBytes 8 (s.room d c).toNat ++ leBytes 4 (s.nextSegment d z c) ++
    leBytes 4 c.resetCount ++ leBytes 8 (v.desc.epoch % 281474976710656) ++ leBytes 8 0

/-- Zones from one upward that match a filter. -/
def State.reportZones (s : State) (d : DieId) (first filter : Nat) : List Nat :=
  (List.range' first (zoneSpan - first)).filter fun z => filter == 15 || (s.zoneState d z).code == filter

/-- The data of a report and its RESULT. -/
def State.zoneReport (s : State) (d : DieId) (first filter bytes : Nat) : List Byte × Nat :=
  let zs := s.reportZones d first filter
  let n := min zs.length ((bytes - 64) / 64)
  let h := leBytes 4 zs.length ++ leBytes 4 n ++ leBytes 1 d.val
  let b := h ++ List.replicate (64 - h.length) 0 ++ (zs.take n).flatMap (s.reportEntry d)
  (b ++ List.replicate (bytes - b.length) 0, n)

/-- Take the report of a ZONE REPORT, once: it shows the zones as they stand at its ASN. -/
def State.reportTake (s : State) (asn : Nat) : State :=
  match s.slots.find? asn with
  | none => s
  | some sl =>
    let d := lbaDie sl.lba
    match sl.part? d with
    | none => s
    | some p =>
      if p.begun || p.applied || sl.op != 7 then s
      else
        let r := s.zoneReport d sl.zone (eVs sl.entry 0 1) (eVs sl.entry 4 4)
        s.modPart asn d fun p => { p with begun := true, data := r.1, result := BitVec.ofNat 64 r.2 }

/-- ZONE_REPORT (13 R410). -/
def execZoneReport (asn : Nat) (s : State) : Res :=
  .next <|
    let s := s.reportTake asn
    match s.slots.find? asn with
    | none => s
    | some sl =>
      let d := lbaDie sl.lba
      match sl.part? d with
      | none => s
      | some p => if sl.op = 7 ∧ p.begun ∧ sl.ready d then s.partOk asn d p.result p.data else s

/-- Zone actions and reports admitted so far take their place in ASN order before the next verb (09 R279, 13 R410). -/
def State.zonesCatchUp (s : State) : State :=
  s.slots.keys.foldl (fun s asn => (s.zoneTake asn).reportTake asn) s

end Sys2Proof.Machine
end

