-- ==== Sys2Proof/Machine/KeyVerbs.lean ====
section
/-! DEFINITION. Key domains: KEY LOAD, SANITIZE and the cryptographic erase (10 R323 to R330; 13 R425, R426). -/

namespace Sys2Proof.Machine

/-- A nonce in its 16 bytes. -/
def nonceBytes (bs : List Byte) : List Byte := leBytes 16 (ofLeBytes bs)

/-- KEY_LOAD_NONCE of a domain: random since the die's reset, or since the last KEY LOAD aimed at it (10 R324). -/
def State.nonceOf (s : State) (d : DieId) (k : Nat) : List Byte :=
  let n := (s.keyDom d k).nonce
  if n.isEmpty then nonceBytes (Config.random (s.die d).data.nonceBase (d.val * 64 + k)) else n

def State.modKey (s : State) (d : DieId) (k : Nat) (f : KeyDomain → KeyDomain) : State :=
  s.modData d fun x => { x with keys := x.keys.insert k (f (x.keys.getD k {})) }

/-- A fresh nonce (10 R324). -/
def State.renonce (s : State) (d : DieId) (k : Nat) : State :=
  (s.modKey d k fun v => { v with nonce := nonceBytes (Config.random (s.fresh + 1) (d.val * 64 + k)) }).useFresh

/-- Zones of a domain that may hold data: the conventional zones and the listed sequential ones. -/
def State.domainZones (s : State) (d : DieId) (k : Nat) : List Nat :=
  let conv := (List.range (s.convCount d)).filter fun z => (s.zone d z).desc.content.keyDomain == k
  let seq := (s.die d).data.zones.keys.filter fun z =>
    !(s.isConv d z) && ((s.attrs d (s.zone d z).desc.content).keyDomain == k || (s.attrs d (s.zone d z).top).keyDomain == k)
  conv ++ seq

/-- Bitmap words of a conventional zone that are set. -/
def zoneWords (x : DieData) (z : Nat) : List Nat := x.bitmap.keys.filter fun w => w / 8192 == z

/-- A zone holds data (10 R326). -/
def State.zoneHolds (s : State) (d : DieId) (z : Nat) : Bool :=
  let v := s.zone d z
  if s.isConv d z then !(zoneWords (s.die d).data z).isEmpty || !((s.die d).data.wc.filter fun b _ => zoneOf b == z).entries.isEmpty
  else
    match v.astate with
    | .empty | .offline => !v.resets.isEmpty
    | .explicitOpen => v.awp != 0
    | _ => true

/-! ### The erase (10 R328) -/

/-- Step 4: every zone of the domain loses its contents. -/
def State.eraseZone (s : State) (d : DieId) (asn z : Nat) : State :=
  let v := s.zone d z
  if s.isConv d z then
    (s.modData d (dropContents z v.desc.content.resetCount)).journal d 0
      ((zoneWords (s.die d).data z).map fun w => JItem.bitmap w 0)
  else if v.desc.state = .empty ∧ v.astate = .empty ∨ v.desc.state = .offline then s
  else
    let c := v.desc.content.afterReset
    (s.putZone d z { v with astate := .empty, awp := 0, newer := [c], resets := [asn], finishes := [] }).zoneResetExec d z asn

/-- Steps 2 to 5 of a KEYED domain, or 3 to 5 of one found ERASE_PENDING. -/
def State.eraseKeyed (s : State) (d : DieId) (k asn : Nat) : State :=
  let zs := s.domainZones d k
  let s := s.modKey d k fun v => { v with state := .erasePending, key := [], keyId := 0 }
  let s := zs.foldl (fun s z => s.eraseZone d asn z) s
  let s := s.modKey d k fun v => { v with state := .erased }
  (s.modData d fun x => { x with keyErased := true }).raise d Ev.keyErased

/-- What SANITIZE does to a domain, and what it adds to RESULT (13 R425). -/
def State.eraseDomain (s : State) (d : DieId) (k asn : Nat) : State × Nat :=
  match (s.keyDom d k).state with
  | .keyed | .erasePending => (s.eraseKeyed d k asn, 1)
  | .unkeyed => ((s.domainZones d k).foldl (fun s z => s.eraseZone d asn z) s, 256)
  | .erased => (s, 0)

/-- Domains of a SANITIZE's scope. -/
def Slot.domains (sl : Slot) : List Nat := if eVs sl.entry 0 1 = 0 then [eVs sl.entry 2 1] else List.range 64

/-- From a SANITIZE's ASN the zones of its domains admit nothing (10 R328 step 1); once. -/
def State.sanitizeTake (s : State) (asn : Nat) : State :=
  match s.slots.find? asn with
  | none => s
  | some sl =>
    if sl.op ≠ 0x4A then s
    else
      (sl.parts.filter fun p => !p.begun && !p.applied).foldl (fun s p =>
        let ks := sl.domains.filter fun k => (s.keyDom p.die k).state != .erased
        (s.modData p.die fun x => { x with erasing := x.erasing ++ ks.map fun k => (k, asn) }).modPart asn p.die
          fun p => { p with begun := true }) s

/-- A part of SANITIZE ends when no domain of it is left. -/
def State.sanitizeEnd (s : State) (asn : Nat) (d : DieId) : State :=
  match (s.slots.find? asn).bind fun sl => (sl.part? d).map fun p => (sl, p) with
  | none => s
  | some (sl, p) =>
    if sl.op = 0x4A ∧ p.begun ∧ sl.ready d ∧ !((s.die d).data.erasing.any fun e => e.2 == asn) then s.partOk asn d p.result else s

/-- SANITIZE (13 R425). -/
def execSanitize (asn : Nat) (s : State) : Res :=
  .next <|
    let s := s.sanitizeTake asn
    match s.slots.find? asn with
    | none => s
    | some sl => (sl.parts.map (·.die)).foldl (fun s d => s.sanitizeEnd asn d) s

/-- CRYPTO_ERASE (10 R328, R329): a domain under SANITIZE once every earlier verb to its zones has completed, or one that
a power failure left ERASE_PENDING. -/
def execCryptoErase (d : DieId) (domain : Fin 64) (s : State) : Res :=
  onDie d s fun s =>
    let k := domain.val
    match (s.die d).data.erasing.find? fun e => e.1 == k with
    | some (_, asn) =>
      if (s.domainZones d k).all fun z => s.earlierDone d z asn && s.earlierRecorded d z asn then
        let r := s.eraseDomain d k asn
        let s := r.1.modData d fun x => { x with erasing := x.erasing.filter fun e => !(e.1 == k && e.2 == asn) }
        (s.modPart asn d fun p => { p with result := p.result + BitVec.ofNat 64 r.2 }).sanitizeEnd asn d
      else s
    | none => if (s.keyDom d k).state = .erasePending then s.eraseKeyed d k 0 else s

/-! ### KEY LOAD (10 R324 to R326) -/

/-- Version, domain and reserved fields of the blob (10 R325). -/
def blobOk (b : List Byte) : Bool :=
  b.length == 196 && ofLeBytes (b.take 2) == 1 && decide (ofLeBytes (sliceBytes b 2 1) < 64) &&
    ofLeBytes (sliceBytes b 3 1) == 0 && ofLeBytes (sliceBytes b 121 3) == 0

/-- The key the security monitor unwraps, with Key1 ≠ Key2 (10 R325, R326). -/
def unwrapBlob (d : DieId) (nonce b : List Byte) : Option (List Byte) :=
  match Config.unwrapKey d.val nonce b with
  | none => none
  | some key => if key.take 32 = key.drop 32 then none else some key

/-- Status of the checks in order, and the key. -/
def State.keyCheck (s : State) (d : DieId) (b : List Byte) : BitVec 16 × List Byte :=
  let k := ofLeBytes (sliceBytes b 2 1)
  let n := s.nonceOf d k
  if !(blobOk b) then (St.invalidField, [])
  else if sliceBytes b 8 16 ≠ n then (St.keyNonceStale, [])
  else
    match (s.keyDom d k).state with
    | .keyed => (St.keyAlreadyLoaded, [])
    | .erasePending => (St.keyDomainInUse, [])
    | .unkeyed | .erased =>
      if (s.domainZones d k).any (s.zoneHolds d) then (St.keyDomainInUse, [])
      else
        match unwrapBlob d n b with
        | none => (St.keyUnwrapFailed, [])
        | some key => (St.success, key)

/-- KEY_LOAD (10 R326): the blob of the verb at the die it names. -/
def execKeyLoad (asn : Nat) (blob : List Byte) (s : State) : Res :=
  .next <|
    match s.slots.find? asn with
    | none => s
    | some sl =>
      match sl.parts.head? with
      | none => s
      | some p =>
        let d := p.die
        if !(decide (sl.op = 0x4B) && sl.ready d) then s
        else
          let k := ofLeBytes (sliceBytes blob 2 1)
          let r := s.keyCheck d blob
          let s := if k < 64 then s.renonce d k else s
          if r.1 = St.success then
            let id := BitVec.ofNat 32 (ofLeBytes (sliceBytes blob 4 4))
            let s := s.modKey d k fun v => { v with state := .keyed, keyId := id, key := r.2 }
            (s.modData d fun x => { x with keyLoaded := true }).partOk asn d
          else
            let bad := r.1 == St.keyUnwrapFailed || r.1 == St.keyNonceStale
            (s.modData d fun x => { x with unwrapFail := x.unwrapFail || bad }).partFail asn d r.1

end Sys2Proof.Machine
end

