-- ==== Sys2Proof/Machine/PowerLoss.lean ====
section
/-! DEFINITION. Power failure: detection, the acorn save and its end (11 R361 to R366; 03 R107; 05 R159 row 18; 10
R333). -/

namespace Sys2Proof.Machine

/-! ### Detection (11 R361, R362) -/

/-- HOLDUP_SNS in mV as last converted (18 R532). -/
def State.snsNow (s : State) (d : DieId) : Nat :=
  let k := (s.die d).hk
  s.holdupMv d (if k.slot = 0 then k.last.getD 48 0 else k.codes.getD ((k.slot - 1) / 16 * 16) 0)

/-- The spindle on power failure: all six gates off, RETRACT_BRAKE (03 R99 row 28, R107 step 1). -/
def State.spinPowerFail (s : State) (d : DieId) : State :=
  let p := (s.die d).spin
  if p.state = .stopped then s
  else
    let t := (s.die d).clock.time4
    let s := if p.startPending || p.stopPending then s.spinResult d 2 else s
    ((s.floatDrive d .retractBrake).releaseSlot d).modSpin d fun p =>
      { p with startPending := false, stopPending := false, stopping := false, loadAtSpeed := false, failTime := some t }

/-- An actuator on power failure (05 R159 row 18): a pending load or seek is ABORTED, a pending unload stays. -/
def State.actPowerFail (s : State) (d : DieId) (a : Act) : State :=
  let y := (s.die d).act a
  let s := if y.loadPending then s.actResult d a 2 else s
  let s := s.modAct d a fun x =>
    { x with
      loadPending := false, loadWaits := false, seekPending := false
      seekResult := if x.seekPending then 2 else x.seekResult }
  if y.state = .parked ∨ y.state = .fault then s else s.retract d a .powerFail

/-- Detection on die d: gates parked, calibration ended, drive off, actuators retracting (11 R362, first three rows). -/
def State.pfDetect (s : State) (d : DieId) : State :=
  if (s.die d).data.pfail.isSome || s.isolated d then s
  else
    let t := (s.die d).clock.time4
    let mv := s.snsNow d
    let s := s.modDie d fun x =>
      { x with holdupTest := false, data := { x.data with pfail := some (t, mv), pfailSeen := true } }
    let s := s.calAbortIf d fun _ _ => true
    let s := s.dropPermits d allHeads
    let s := allHeads.foldl (fun s h => s.modHead d h Head.gateOff) s
    let s := ((s.spinPowerFail d).actPowerFail d .A).actPowerFail d .B
    s.raise d Ev.powerFailDetected

/-- Send the power-fail notice from die 0 to the member dies but one (11 R361, 01 R36 opcode 0x22). -/
def State.pfNotify (s : State) (but : DieId) : State :=
  (s.fittedDies.filter fun d => d.val != 0 && d != but).foldl (fun s d => s.send 0 d 0x22 0) s

/-- A die that detects by itself tells the anchor, or the anchor tells every member (11 R361). -/
def State.pfOwn (s : State) (d : DieId) : State :=
  if (s.die d).data.pfail.isSome || s.isolated d then s
  else
    let s := s.pfDetect d
    if d.val = 0 then s.pfNotify 0 else s.send d 0 0x22 0

/-- PFAIL_N_ASSERT (11 R361). -/
def execPfailNAssert (d : DieId) (s : State) : Res := onDie d s fun s => s.pfOwn d

/-- HOLDUP_PFAIL_TRIP (11 R361): the fast hold-up comparator. -/
def execHoldupPfailTrip (d : DieId) (s : State) : Res := onDie d s fun s => s.pfOwn d

/-- POWER_FAIL_NOTICE (11 R361): a notice reaches die d; the anchor forwards it to the other member dies. -/
def execPowerFailNotice (d : DieId) (s : State) : Res :=
  onDie d s fun s =>
    if (s.die d).data.pfail.isSome || s.isolated d then s
    else
      let s := s.pfDetect d
      if d.val = 0 then s.pfNotify 0 else s

/-! ### The save (11 R362, R363) -/

/-- The version of a block that a save holds: dirty, recorded, of the zone's executed contents (11 R357, R363). -/
def State.saveVer (s : State) (d : DieId) (block : Nat) (vs : List CacheVer) : Option CacheVer :=
  let rc := (s.zone d (zoneOf block)).desc.content.resetCount
  vs.find? fun v => v.dirty && v.resetCount == rc && s.recorded d v.asn

/-- The directory with its data, in ascending LBA order. -/
def State.saveBlocks (s : State) (d : DieId) : List AcornBlock :=
  (s.die d).data.wc.entries.filterMap fun e =>
    (s.saveVer d e.1 e.2).map fun v =>
      let k := (s.zone d (zoneOf e.1)).desc.content.keyDomain
      { key := e.1, data := v.data, encrypted := (s.keyDom d k).state == .keyed, marked := v.marked, keyDomain := k
        resetCount := v.resetCount, asn := v.asn, crcGood := true }

def setArea (x : DieData) (v : AreaState) : DieData := if x.nextArea then { x with area1 := v } else { x with area0 := v }

/-- ACORN_LAST_SAVE (11 R373). -/
def saveRecord (seq blocks bytes us detect trailer lost outcome : Nat) : List Byte :=
  leBytes 8 seq ++ leBytes 4 blocks ++ leBytes 4 bytes ++ leBytes 4 us ++ leBytes 2 detect ++ leBytes 2 trailer ++
    leBytes 4 lost ++ leBytes 1 outcome ++ leBytes 19 0

def Acorn.journalBytes (a : Acorn) : Nat := (a.journal.map JRec.bytes).foldl (· + ·) 0

def State.lastSave (s : State) (d : DieId) (a : Acorn) (us trailer outcome : Nat) : State :=
  let mv := match (s.die d).data.pfail with
    | some p => p.2
    | none => 0
  s.putDom Obj.acornLastSave 25 (dieInst d) (saveRecord a.saveSeq a.blocks.length a.journalBytes us mv trailer 0 outcome)

/-- A save ends without a valid acorn (11 R365). -/
def State.saveFails (s : State) (d : DieId) (a : Acorn) (us trailer outcome : Nat) : State :=
  (s.modData d fun x => { x with acornState := .saveFail, saving := none }).lastSave d a us trailer outcome

/-- From DMA_DRAIN_US on: data not whole is discarded, the dirty set is frozen, the acorn write begins as SAVING; with
no erased area it ends at once (11 R362, R365). -/
def State.beginSave (s : State) (d : DieId) : State :=
  let s := s.modData d fun x => { x with arriving := {}, frozen := true }
  let x := (s.die d).data
  let a : Acorn :=
    { saveSeq := x.saveSeq + 1, time := s.timeNs d, blocks := s.saveBlocks d, journal := x.ring, headJseq := x.head
      tailJseq := x.tail }
  let s := (s.modData d fun x => { x with acornState := .saving, saveSeq := x.saveSeq + 1, saving := some a }).bump
    Obj.acornSaveCount (dieInst d)
  if acornReady x then s else s.saveFails d a 0 0 2

/-- DMA_DRAIN_END (11 R362). -/
def execDmaDrainEnd (d : DieId) (s : State) : Res :=
  onDie d s fun s =>
    match (s.die d).data.pfail with
    | none => s
    | some p =>
      when (!(s.die d).data.frozen &&
        decide (p.1 + s.getN Obj.dmaDrainUs 0 * 4000 ≤ (s.die d).clock.time4)) (·.beginSave d) s

/-- ACORN_SAVED (11 R362, R363, R365): the trailer is written with the reservoir still above HOLDUP_VMIN_MV. -/
def execAcornSaved (d : DieId) (durationUs : BitVec 32) (trailerMv : BitVec 16) (s : State) : Res :=
  onDie d s fun s =>
    match (s.die d).data.saving with
    | none => s
    | some a =>
      if trailerMv.toNat < s.getN Obj.holdupVminMv (dieInst d) then s
      else
        let s := s.modData d fun x => { setArea x .saved with acornState := .saved, saving := none, acorn := some a }
        (s.lastSave d a durationUs.toNat trailerMv.toNat 1).raise d Ev.acornSaved

/-- ACORN_SAVE_FAIL (11 R365). -/
def execAcornSaveFail (d : DieId) (reservoirLow : Bool) (s : State) : Res :=
  onDie d s fun s =>
    match (s.die d).data.saving with
    | none => s
    | some a => s.saveFails d a 0 0 (if reservoirLow then 3 else 2)

/-- ACORN_AREA_ERASE (11 R365): a CONSUMED area is erased. -/
def execAcornAreaErase (d : DieId) (s : State) : Res :=
  onDie d s fun s => s.modData d fun x =>
    if x.area0 = .consumed then { x with area0 := .erased }
    else if x.area1 = .consumed then { x with area1 := .erased }
    else x

end Sys2Proof.Machine
end

