-- ==== Sys2Proof/Machine/Observe.lean ====
section
/-! DEFINITION. Bandwidth windows, counter snapshots, the pages of the error log, the event log, the trace ring and the
snapshot window (13 R417, R418; 19 R552 to R567). -/

namespace Sys2Proof.Machine

/-! ### Bandwidth windows (19 R552, R553) -/

/-- A monitor's latched values at a window end. -/
def Monitor.latch (m : Monitor) (ns now flags : Nat) : Monitor :=
  { bytes := 0, lastBytes := m.bytes, duration := ns, endTime := now, flags := BitVec.ofNat 3 flags }

/-- The present window of every monitor of die d ends and the next one starts at zero; nothing while frozen. -/
def State.bwEnd (s : State) (d : DieId) (partly : Bool) : State :=
  let now := s.timeNs d
  let c := (s.die d).clock
  let revs := s.get Obj.bwWindowUnit (dieInst d) == 0
  s.modObs d fun o =>
    if o.frozen then o
    else
      let flags := (if revs && o.bwCoast then 1 else 0) + (if partly then 2 else 0)
      { o with
        mons := o.mons.map fun m => m.latch (now - o.bwStart) now flags
        bwStart := now, bwRev := c.rev, bwCoast := c.coasting }

/-- BW_WINDOW_END (19 R553). -/
def execBwWindowEnd (d : DieId) (s : State) : Res := onDie d s fun s => s.bwEnd d false

/-! ### Snapshots (19 R554 to R557) -/

/-- The tick of a request that arrives now: rounded up to 1,024 ns, plus 4,096 ns, and later than any tick chosen
before that still waits. -/
def State.snapTick (s : State) : Nat :=
  let t := (s.now + 1023) / 1024 * 1024 + 4096
  (s.snapReqs.map fun r => r.1 + 1024).foldl max t

/-- Every counter of die d as latched (19 R557). -/
def State.snapBlock (s : State) (d : DieId) (late frozen : Bool) : SnapBlock :=
  let o := (s.die d).obs
  let flags := 1 + (if s.aligned d then 0 else 2) + (if late then 4 else 0) + (if frozen then 16 else 0)
  { flags := BitVec.ofNat 5 flags, time := s.timeNs d, revs := o.revs, wedges := o.wedges
    stamp := (s.die d).clock.stamped, cnts := o.cnts, mons := o.mons }

/-- The block of an isolated die: ISOLATED, the rest 0 (19 R557). -/
def isolatedBlock : SnapBlock := { flags := 8, time := 0, revs := 0, wedges := 0, stamp := 0, cnts := [], mons := [] }

/-- Die d latches a request: 0 snapshot, 1 freeze, 2 release (19 R555, R556). -/
def State.latch (s : State) (d : DieId) (t : Nat) (action : BitVec 8) (late : Bool) : State :=
  let frozen := action == 1 || (s.die d).obs.frozen
  let blk : Option SnapBlock := if action = 2 then none else some (s.snapBlock d late frozen)
  let s := s.modObs d fun o => { o with frozen := if action = 2 then false else frozen }
  if d.val = 0 then { s with snapGather := s.snapGather.insert (t * 8) blk }
  else s.modObs d fun o => { o with blocks := o.blocks ++ [(t, blk)] }

/-- Whether a die's answer to the request of tick t is there, or the die is isolated. -/
def State.snapHave (s : State) (t : Nat) (d : DieId) : Bool := s.isolated d || s.snapGather.contains (t * 8 + d.val)

/-- The blocks of a finished request. -/
def State.snapFill (s : State) (t : Nat) : KMap SnapBlock :=
  s.fittedDies.foldl (fun m d =>
    if s.isolated d then m.insert d.val isolatedBlock
    else
      match s.snapGather.getD (t * 8 + d.val) none with
      | some b => m.insert d.val b
      | none => m) {}

/-- Write the window of a finished snapshot, SNAP_SEQ last; a release leaves it alone (19 R555, R556). -/
def State.snapWrite (s : State) (t : Nat) (action : BitVec 8) : State :=
  if action = 2 then s
  else { s with snapBlocks := s.snapFill t, snapT := t, snapAction := action, snapSeq := s.snapSeq + 1 }

/-- The verb, or the object command, of a finished request ends (19 R555). -/
def State.snapAnswer (s : State) : Option Nat → State
  | some asn => s.partOk asn 0
  | none => s.put Obj.snapshotResult 0 0

/-- Finish the requests whose blocks have all arrived, in order (19 R555). -/
def State.snapSettle (s : State) : Nat → State
  | 0 => s
  | fuel + 1 =>
    match s.snapReqs with
    | [] => s
    | (t, action, verb) :: rest =>
      if s.fittedDies.all (s.snapHave t) then
        let s := s.snapWrite t action
        let s := { s with snapReqs := rest, snapGather := s.snapGather.filter fun k _ => k / 8 != t }
        (s.snapAnswer verb).snapSettle fuel
      else s

def State.snapDone (s : State) : State := s.snapSettle s.snapReqs.length

/-- The anchor takes a request: T is chosen, die 0 scheduled, every member told (19 R554; 01 R36 opcode 0x23). -/
def State.snapRequest (s : State) (action : BitVec 8) (verb : Option Nat) : State :=
  let t := s.snapTick
  let s := { s with snapReqs := s.snapReqs ++ [(t, action, verb)] }
  let s := s.modObs 0 fun o => { o with snaps := o.snaps ++ [(t, action, false)] }
  (s.fittedDies.filter fun d => d.val != 0 && !(s.isolated d)).foldl (fun s d => s.send 0 d 0x23 t) s

/-- SNAPSHOT COUNTERS of an action takes its place in the order of requests, once (13 R427). -/
def State.snapVerb (s : State) (asn action : Nat) : State :=
  match s.slots.find? asn with
  | none => s
  | some sl =>
    if sl.op = 0x4C ∧ eVs sl.entry 0 1 = action ∧ sl.ready 0 ∧ sl.snapT.isNone then
      (s.modSlot asn fun sl => { sl with snapT := some s.snapTick }).snapRequest (BitVec.ofNat 8 action) (some asn)
    else s

/-- SNAPSHOT_COUNTERS_SNAPSHOT (13 R427; 19 R554). -/
def execSnapshotCountersSnapshot (asn : Nat) (s : State) : Res := .next (s.snapVerb asn 0)

/-- SNAPSHOT_COUNTERS_FREEZE (19 R556). -/
def execSnapshotCountersFreeze (asn : Nat) (s : State) : Res := .next (s.snapVerb asn 1)

/-- SNAPSHOT_COUNTERS_RELEASE (19 R556). -/
def execSnapshotCountersRelease (asn : Nat) (s : State) : Res := .next (s.snapVerb asn 2)

/-- A write of SNAPSHOT_COMMAND: refused COMMAND_PENDING while one waits (14 R438; 19 R569). -/
def State.snapCommand (s : State) (action : BitVec 8) : State × Option Nat :=
  if s.snapReqs.any fun r => r.2.2.isNone then (s, some 0x8005)
  else ((s.put Obj.snapshotResult 0 1).snapRequest action none, none)

/-- SNAPSHOT_COMMAND_SNAPSHOT (19 R554). -/
def execSnapshotCommandSnapshot (s : State) : Res := .next (s.snapCommand 0).1

/-- SNAPSHOT_COMMAND_FREEZE (19 R556). -/
def execSnapshotCommandFreeze (s : State) : Res := .next (s.snapCommand 1).1

/-- SNAPSHOT_COMMAND_RELEASE (19 R556). -/
def execSnapshotCommandRelease (s : State) : Res := .next (s.snapCommand 2).1

/-- Die d has taken the request of tick t already. -/
def State.snapTaken (s : State) (d : DieId) (t : Nat) : Bool :=
  let o := (s.die d).obs
  (o.snaps.any fun r => r.1 == t) || (o.blocks.any fun b => b.1 == t) || s.snapGather.contains (t * 8 + d.val)

/-- COUNTER_SNAPSHOT_MESSAGE (19 R555): scheduled, or latched on arrival and marked LATE when T has passed. -/
def execCounterSnapshotMessage (d : DieId) (t : BitVec 64) (action : BitVec 8) (s : State) : Res :=
  onDie d s fun s =>
    let n := t.toNat
    if d.val = 0 || s.isolated d || s.snapTaken d n || !(s.snapReqs.any fun r => r.1 == n && r.2.1 == action) then s
    else if n < s.timeNs d then s.latch d n action true
    else s.modObs d fun o => { o with snaps := o.snaps ++ [(n, action, false)] }

/-- SNAPSHOT_LATCH (19 R555): the local package time has reached the tick of the die's first scheduled request. -/
def execSnapshotLatch (d : DieId) (s : State) : Res :=
  onDie d s fun s =>
    match (s.die d).obs.snaps with
    | [] => s
    | (t, action, late) :: rest =>
      if t ≤ s.timeNs d then ((s.modObs d fun o => { o with snaps := rest }).latch d t action late).snapDone else s

/-- SNAPSHOT_BLOCK_RECEIVE (19 R555): the oldest block of die d reaches the anchor. -/
def execSnapshotBlockReceive (d : DieId) (s : State) : Res :=
  onDie d s fun s =>
    match (s.die d).obs.blocks with
    | [] => s
    | (t, b) :: rest =>
      if s.isolated d then s
      else
        let s := s.modObs d fun o => { o with blocks := rest }
        { s with snapGather := s.snapGather.insert (t * 8 + d.val) b }.snapDone

/-! ### Pages (13 R418; 19 R557, R562, R567) -/

def padTo (n : Nat) (bs : List Byte) : List Byte := bs ++ List.replicate (n - bs.length) 0

/-- An error log entry (13 R418). -/
def errBytes (e : ErrEntry) : List Byte :=
  leBytes 8 e.count ++ leBytes 8 e.asn ++ leBytes 2 e.sq ++ leBytes 2 e.cid.toNat ++ leBytes 2 e.status.toNat ++
    leBytes 1 e.die.toNat ++ leBytes 1 e.head.toNat ++ leBytes 8 e.lba.toNat ++ leBytes 8 e.time ++
    leBytes 8 e.stamp.toNat ++ leBytes 4 e.track.toNat ++ leBytes 2 e.sector.toNat ++ leBytes 1 e.step.toNat ++
    leBytes 1 e.chan.toNat ++ leBytes 4 e.detail.toNat ++ leBytes 4 0

/-- The error log page (13 R418). -/
def State.errPage (s : State) : List Byte :=
  padTo 64 (leBytes 8 s.errorCount ++ leBytes 4 s.errors.length) ++ s.errors.reverse.flatMap errBytes

/-- An event log record (19 R563). -/
def evBytes (e : EvRec) : List Byte :=
  leBytes 8 e.time ++ leBytes 6 e.stamp.toNat ++ leBytes 2 e.source ++ leBytes 2 e.code ++ leBytes 1 e.severity ++
    leBytes 1 ((if e.coasting then 1 else 0) + (if e.unaligned then 2 else 0)) ++ leBytes 4 e.seq ++ leBytes 8 e.data.toNat

/-- A die's event log page (19 R567). -/
def State.eventPage (s : State) (d : DieId) : List Byte :=
  let o := (s.die d).obs
  padTo 64 (leBytes 4 o.nextSeq ++ leBytes 4 o.log.length ++ leBytes 1 d.val) ++ o.log.reverse.flatMap evBytes

/-- A trace record (19 R560). -/
def traceBytes (r : TraceRec) : List Byte :=
  padTo 128 (leBytes 8 r.asn ++ leBytes 8 r.stage0 ++ leBytes 1 r.opcode.toNat ++ leBytes 1 r.flags.toNat ++
    leBytes 2 r.sq ++ leBytes 2 r.cid.toNat ++ leBytes 2 r.status.toNat ++ leBytes 8 (r.lba % 2 ^ 41) ++ leBytes 4 r.nlb ++
    leBytes 1 r.dieMask.toNat ++ leBytes 1 r.head.toNat ++ leBytes 1 r.ladder.toNat ++ leBytes 1 0 ++
    leBytes 8 r.angle.toNat ++ r.stages.flatMap (fun w => leBytes 4 w.toNat) ++ leBytes 4 r.seq)

/-- The trace page: of die 0 the ring, of any other the header with no records (19 R562). -/
def State.tracePage (s : State) (d : DieId) : List Byte :=
  let rs := if d.val = 0 then s.trace.reverse else []
  let first := match rs with
    | [] => 0
    | r :: _ => r.seq
  padTo 64 (leBytes 8 (s.getN Obj.traceRecords 0) ++ leBytes 4 rs.length ++ leBytes 4 128 ++ leBytes 4 first) ++
    rs.flatMap traceBytes

def cntWord (c : Cnt) : Nat := c.value.toNat + (if c.ovf then 2 ^ 48 else 0) + c.event.toNat * 2 ^ 49

/-- A die's block of the snapshot window (19 R557). -/
def snapBytes (b : SnapBlock) : List Byte :=
  let head := padTo 64 (leBytes 8 b.flags.toNat ++ leBytes 8 b.time ++ leBytes 8 b.revs ++ leBytes 8 b.wedges ++
    leBytes 8 b.stamp.toNat)
  let cnts := padTo 256 (head ++ b.cnts.flatMap fun c => leBytes 8 (cntWord c))
  padTo 4096 (cnts ++ b.mons.flatMap fun m =>
    leBytes 8 m.lastBytes ++ leBytes 8 m.duration ++ leBytes 8 m.endTime ++ leBytes 8 m.flags.toNat)

/-- SNAPSHOT_SET: header page and die blocks (19 R557, R569). -/
def State.snapPage (s : State) : List Byte :=
  padTo 4096 (leBytes 8 s.snapSeq ++ leBytes 8 s.snapT ++ leBytes 1 s.snapAction.toNat) ++
    s.fittedDies.flatMap fun d =>
      match s.snapBlocks.find? d.val with
      | some b => snapBytes b
      | none => List.replicate 4096 0

end Sys2Proof.Machine
end

