-- ==== Sys2Proof/Machine/FwOps.lean ====
section
/-! DEFINITION. Firmware images, slots, the boot ROM's choice, loading of units (17 R506 to R516, R524, R525). -/

namespace Sys2Proof.Machine

/-! ### Slots (17 R508, R515). Slot 1 is written as true. -/

def slotNo (b : Bool) : Nat := if b then 1 else 0

def FwState.slot (f : FwState) (b : Bool) : FwSlot := if b then f.slot1 else f.slot0

def FwState.setSlot (f : FwState) (b : Bool) (v : FwSlot) : FwState := if b then { f with slot1 := v } else { f with slot0 := v }

/-- The slot in a state. -/
def FwState.slotIn (f : FwState) (v : FwSlot) : Option Bool :=
  if f.slot0 = v then some false else if f.slot1 = v then some true else none

/-- The slot that is neither CONFIRMED nor SPROUT (17 R509). -/
def FwState.inactive (f : FwState) : Option Bool :=
  let free := fun (b : Bool) => f.slot b != .confirmed && f.slot b != .sprout
  if free true then some true else if free false then some false else none

/-- A write of the slot record: its SEQ rises (08 R259, 17 R515). -/
def FwState.record (f : FwState) : FwState := { f with seq := f.seq + 1 }

def State.modFw (s : State) (g : FwState → FwState) : State := { s with fw := g s.fw }

/-- Blocks of a slot's image leave the slot. -/
def FwState.eraseBlocks (f : FwState) (b : Bool) : FwState := { f with nor := f.nor.filter fun k _ => k / 2048 != slotNo b }

/-- A slot that lists no block holds the image of manufacture (log 8). -/
def FwState.factory (f : FwState) (b : Bool) : Bool := !(f.nor.keys.any fun k => k / 2048 == slotNo b)

def FwState.block (f : FwState) (b : Bool) (n : Nat) : List Byte := f.nor.getD (slotNo b * 2048 + n) []

/-! ### The manifest (17 R506, R507) -/

/-- Blocks 0 and 1 of a slot's image. -/
def FwState.manifest (f : FwState) (b : Bool) : List Byte :=
  if f.factory b then sliceBytes (Config.deviceUnique 16 0) 0 131072
  else sliceBytes (f.block b 0) 0 65536 ++ sliceBytes (f.block b 1) 0 65536

def mfU (m : List Byte) (off n : Nat) : Nat := ofLeBytes ((m.drop off).take n)

def mfVersion (m : List Byte) : Nat := mfU m 8 4

def mfPatch (m : List Byte) : Nat := mfU m 12 4

def mfSecurity (m : List Byte) : Nat := mfU m 16 4

def mfBlocks (m : List Byte) : Nat := mfU m 20 4

def mfBytes (m : List Byte) : Nat := mfU m 24 4

/-- A unit's entry in the manifest. -/
structure FwUnit where
  typ : Nat
  first : Nat
  len : Nat
  version : Nat
  patch : Nat
  format : Nat
  minFormat : Nat
  digest : List Byte
deriving DecidableEq, Repr, Inhabited

def mfUnit (m : List Byte) (u : Nat) : FwUnit :=
  let o := 64 + 96 * u
  { typ := mfU m o 1, first := mfU m (o + 4) 4, len := mfU m (o + 8) 4, version := mfU m (o + 12) 4, patch := mfU m (o + 16) 4
    format := mfU m (o + 20) 2, minFormat := mfU m (o + 22) 2, digest := sliceBytes m (o + 48) 48 }

/-- The unit of a type. -/
def mfUnitOf (m : List Byte) (t : Nat) : FwUnit :=
  (((List.range 7).map (mfUnit m)).find? fun u => u.typ == t).getD default

def zeroRun (m : List Byte) (off n : Nat) : Bool := ((m.drop off).take n).all (· == 0)

/-- Step 1 of 17 R511: magic, version, reserved fields, each unit type once. -/
def mfForm (m : List Byte) : Bool :=
  mfU m 0 4 == 0x464D5A4B && mfU m 4 2 == 1 && mfU m 6 2 == 7 && mfU m 29 1 / 8 == 0 && zeroRun m 30 34 &&
    ((List.range 7).all fun u => zeroRun m (65 + 96 * u) 3 && zeroRun m (88 + 96 * u) 24) &&
    zeroRun m (64 + 96 * 7) (96 * 9) && zeroRun m 110592 20352 && zeroRun m 131040 32 &&
    (List.range' 1 7).all fun t => (((List.range 7).map (mfUnit m)).filter fun u => u.typ == t).length == 1

def partBit : Part → Nat
  | .kz6420 => 0
  | .kz6440 => 1
  | .kz6480 => 2

/-- Steps 1 to 4 of 17 R511. -/
def State.mfChecks (s : State) (m : List Byte) : Bool :=
  let k := mfU m 28 1
  mfForm m && (mfU m 29 1).testBit (partBit s.part) && decide (k < 4) && !(Config.keyRevoked k) &&
    Config.ecdsaVerify (BitVec.ofNat 8 k :: Config.sha384 (m.take 130944)) (sliceBytes m 130944 96)

/-- 17 R511 whole: with the anti-rollback level. -/
def State.mfOk (s : State) (m : List Byte) : Bool := s.mfChecks m && decide (s.fw.minSecurity.toNat ≤ mfSecurity m)

/-- Bytes of a unit as programmed. -/
def FwState.unitBytes (f : FwState) (b : Bool) (u : FwUnit) : List Byte :=
  ((List.range' u.first ((u.len + 65535) / 65536)).flatMap fun n => sliceBytes (f.block b n) 0 65536).take u.len

def FwState.digestOk (f : FwState) (b : Bool) (t : Nat) : Bool :=
  let u := mfUnitOf (f.manifest b) t
  f.factory b || Config.sha384 (f.unitBytes b u) == u.digest

/-- The boot ROM's checks of a slot (17 R516). -/
def State.bootOk (s : State) (b : Bool) : Bool :=
  s.fw.factory b || (s.mfChecks (s.fw.manifest b) && s.fw.digestOk b 1 && s.fw.digestOk b 2)

/-! ### Running units (16 R497) -/

/-- First 32 bits of a unit's digest, digest byte 0 in the most significant byte. -/
def digest32 (u : FwUnit) : BitVec 32 := BitVec.ofNat 32 (ofLeBytes (u.digest.take 4).reverse)

/-- ENG_VERSION entry of a unit that runs. -/
def FwUnit.entry (u : FwUnit) (state : Nat) : EngVersion :=
  { version := BitVec.ofNat 32 u.version, patch := BitVec.ofNat 32 u.patch, digest32 := digest32 u, state := BitVec.ofNat 8 state }

/-- Unit type behind version entry e. -/
def entryType (e : Nat) : Nat := if e < 24 then 4 else if e = 24 then 5 else if e = 27 then 3 else 6

/-- The slot whose unit of a type a die is meant to run now (17 R519, R525): TABLES, CORE, CONTROL LAW, MOTOR, SEQUENCER
in turn, each from die N − 1 down. -/
def classType (c : Nat) : Nat := [7, 3, 6, 5, 4].getD c 0

/-- All 26 engines run, every core runs, the versions show the running slot's units (16 R496, R497; 17 R516). -/
def State.loadUnits (s : State) (d : DieId) (slotFor : Nat → Bool) : State :=
  s.modEng d fun x =>
    { x with
      engines := Vector.replicate 26 { run := true }
      regs := {}, coreRun := BitVec.allOnes 32, cleBank := false, swapPending := false
      versions := Vector.ofFn fun e =>
        if e.val = 26 then {} else (mfUnitOf (s.fw.manifest (slotFor (entryType e.val))) (entryType e.val)).entry 2 }

/-! ### Which unit a die is meant to run; falling back (17 R519, R522, R525) -/

/-- Order of a unit type's class in a changeover. -/
def typeClass (t : Nat) : Nat := [9, 9, 9, 1, 4, 3, 2, 0].getD t 9

/-- Step of the changeover at which a die's units of a type change: class by class, from die N − 1 down (17 R519). -/
def State.changeStep (s : State) (d : DieId) (t : Nat) : Nat := typeClass t * s.part.dies + (s.part.dies - 1 - d.val)

/-- Slot of the unit that a die is meant to run at this moment (17 R525). -/
def State.meantSlot (s : State) (d : DieId) (t : Nat) : Bool :=
  if t = 1 ∨ t = 2 then s.fw.bootSlot
  else
    match s.fw.activating with
    | some (slot, _, _, k) => if s.changeStep d t < k then slot else s.fw.running
    | none => s.fw.running

/-- The device admits nothing more, posts nothing more, and every die destages (20 R571). `but` is the verb that
commanded it. -/
def State.packageReset (s : State) (but : Option Nat) : State :=
  if s.warm.isSome then s
  else
    { s with
      warm := some (s.fittedDies.filter fun d => !(s.isolated d))
      cqs := s.cqs.mapVals fun _ c => { c with held := [] }
      slots := (s.slots.filter fun a sl => some a == but || !sl.decided).mapVals fun a sl =>
        if some a == but then sl else { sl with orphan := true, waitsFor := none } }

/-- A fallback starts (17 R522): live with LIVE_BACK, else by a package warm reset. -/
def State.startFallback (s : State) (cause : Nat) : State :=
  let sprout := (s.fw.slotIn .sprout).getD s.fw.running
  let back := (s.fw.slotIn .confirmed).getD (!sprout)
  let live := s.fw.liveBack
  let s := s.modFw fun f =>
    { (f.setSlot sprout .failed).record with
      trial := .fallingBack, cause := cause, windowStart := none, cleanSince := none
      activating := if live then some (back, true, true, 0) else none }
  if live then s else s.packageReset none

/-- A check of the second or fourth item of 17 R521 fails: during the sprout the fallback starts (17 R522, R525). -/
def State.trialFault (s : State) : State :=
  if s.fw.trial = .sprout then (s.modFw fun f => { f with checkFailed := true }).startFallback 0 else s

/-! ### The boot ROM (17 R516, R524) -/

/-- What boot makes of the record before the image is chosen. -/
def FwState.bootRecord (f : FwState) : FwState × Bool :=
  let clear := fun (f : FwState) => { f with
    lock := none, activating := none, waiter := none, waiterObj := false, windowStart := none, cleanSince := none
    checkFailed := false, resetAt := none, nonce := none, loaded := {}, nextOffset := 0, privPending := false }
  let drop := fun (f : FwState) (b : Bool) => if f.slot b = .downloading then (f.setSlot b .empty).eraseBlocks b else f
  let f := drop (drop (clear f) false) true
  if f.trialBoot then (({ f with trialBoot := false }).record, (f.slotIn .sprout).getD false)
  else
    let c := (f.slotIn .confirmed).getD false
    match f.trial with
    | .activating | .sprout => (({ f with trial := .none, liveBack := false }.setSlot (!c) .interrupted).record, c)
    | .fallingBack => (({ f with trial := .none, liveBack := false }).record, c)
    | .none => (f, c)

/-- FW_FALLBACK with its cause (17 R522). -/
def State.fallbackDone (s : State) : State :=
  let s := (s.bump Obj.fallbackCount 0).put Obj.fwResult 0 2
  (s.modFw fun f => { f with fallbackFlag := true }).raise 0 Ev.fwFallback [(1, ((Config.fallbackCode s.fw.cause).toNat : Int))]

/-- The previous slot stands in for an image that fails. -/
def State.bootPrevious (s : State) (c : Bool) : State × Option Bool :=
  match s.fw.slotIn .previous with
  | none => (s, none)
  | some p =>
    let s := s.modFw fun f => { (f.setSlot c .failed).setSlot p .confirmed |>.record with bootFallbackFlag := true }
    let s := s.raise 0 Ev.fwBootFallback
    (s, if s.bootOk p then some p else none)

/-- Choose the image; FATAL when no slot passes. -/
def State.bootRom (s : State) : State :=
  let was := s.fw.trial
  let r := s.fw.bootRecord
  let s := { s with fw := r.1 }
  let s := if was = .fallingBack then s.fallbackDone else s
  let c := (s.fw.slotIn .confirmed).getD false
  let pick : State × Option Bool :=
    if s.bootOk r.2 then (s, some r.2)
    else if r.2 != c && s.bootOk c then (s, some c)
    else s.bootPrevious c
  match pick.2 with
  | some b =>
    let s := pick.1.modFw fun f => { f with running := b, bootSlot := b }
    (s.modDie 0 fun x => { x with imaged := true }).loadUnits 0 fun _ => b
  | none => { pick.1 with host := { pick.1.host with fatal := true } }

end Sys2Proof.Machine
end

