-- ==== Sys2Proof/Machine/Reset.lean ====
section
/-! DEFINITION. Resets: host-interface state, one die, the package; isolation; rebuild of the map (11 R366 to R369; 12
R376; 14 R435, R436; 15 R460; 20 R570 to R584). -/

namespace Sys2Proof.Machine

/-! ### Object addresses -/

def keyIndex (k : Nat) : Nat := k / 65536

def keySub (k : Nat) : Nat := k / 256 % 256

def keyInst (k : Nat) : Nat := k % 256

/-- The entry of an index and subindex (14 R431). -/
def objFind (index sub : Nat) : Option ObjDef :=
  objTable.find? fun o => o.index == index && decide (o.sub ≤ sub ∧ sub < o.sub + o.subs)

def keyDef (k : Nat) : Option ObjDef := objFind (keyIndex k) (keySub k)

/-- The address belongs to die d, or to the package. -/
def keyOf (d : Option DieId) (k : Nat) : Bool :=
  match keyDef k with
  | none => false
  | some o =>
    match d with
    | none => o.inst == .package
    | some d => o.inst != .package && keyInst k / 32 == d.val

/-- Values that a die keeps through its resets, in MRAM or as its own finding (08 R263; 09 R281; 11 R337, R373). -/
def keptObj : List ObjDef :=
  [Obj.powerOnHours, Obj.acornSaveCount, Obj.acornLastSave, Obj.writeFailed, Obj.dramInstalledMib]

def keeps (xs : List ObjDef) (k : Nat) : Bool := xs.any fun o => o.index == keyIndex k && o.sub == keySub k

/-! ### Host-interface state (12 R376) -/

/-- CREATE QUEUE, DELETE QUEUE, ABORT and QUEUE RESUME act on queues that are gone. -/
def queueVerb (op : Nat) : Bool := op == 0x44 || op == 0x45 || op == 0x46 || op == 0x4D

/-- A slot after the queues are gone: none when nothing of it runs, else it posts nothing. -/
def Slot.afterHost (sl : Slot) : Option Slot :=
  if queueVerb sl.op || sl.parts.isEmpty || (sl.parts.all (·.delivered)) then none
  else some { sl with orphan := true, waitsFor := none }

def HostRegs.hostReset (h : HostRegs) : HostRegs :=
  { h with
    enable := false, shutdown := 0, adminReady := false, ready := false, shutdownStatus := 0, asqSize := 0, acqSize := 0
    asqBase := 0, acqBase := 0, d3hot := false }

/-- A conventional or function-level reset (12 R376; 14 R442, R446). -/
def State.hostReset (s : State) : State :=
  { s with
    sqs := {}, cqs := {}, waiters := [], offer := none, win := {}, diag := {}, host := s.host.hostReset
    slots := ⟨s.slots.entries.filterMap fun e => e.2.afterHost.map fun v => (e.1, v)⟩
    msix := s.msix.mapVals fun _ m => { m with masked := true }
    sessions := s.sessions.filter fun x => x.src != .host
    dies := s.dies.map fun x => { x with accesses := x.accesses.map fun a => { a with window := false } } }

/-! ### The map from the medium and the acorn (11 R367) -/

def MapImage.apply (m : MapImage) : JItem → MapImage
  | .zone z v => { m with zones := m.zones.insert z v }
  | .seg n v => { m with segs := m.segs.insert n v }
  | .frame k v => { m with frames := if v.len = 0 then m.frames.erase k else m.frames.insert k v }
  | .bitmap w v => { m with bitmap := if v = 0 then m.bitmap.erase w else m.bitmap.insert w v }

/-- Apply records in JSEQ order while each follows the last (11 R367): the map and the last JSEQ applied. -/
def replay (m : MapImage) (last : Nat) : List JRec → MapImage × Nat
  | [] => (m, last)
  | r :: rest =>
    if r.jseq ≤ last then replay m last rest
    else if r.jseq = last + 1 then replay (r.items.foldl MapImage.apply m) r.jseq rest
    else (m, last)

/-- Leads of a zone in NEXT order from one on (09 R294). -/
def segChain (segs : KMap SegEntry) : Nat → Nat → List Nat
  | 0, _ => []
  | fuel + 1, n =>
    match segs.find? n with
    | none => []
    | some e => if e.state = .inUse ∧ e.lead then n :: (if e.next = 2097151 then [] else segChain segs fuel e.next) else []

/-- The segments of a zone: from the lead whose slots start at 0, the one drawn first (09 R285, R294). -/
def zoneSegs (segs : KMap SegEntry) (z : Nat) : List Nat :=
  let leads := segs.entries.filter fun e => e.2.state == .inUse && e.2.lead && e.2.zone == z
  let firsts := leads.filter fun e => e.2.streamStart == 0
  match firsts with
  | [] => []
  | f :: rest => segChain segs (leads.length + 1) ((rest.foldl (fun m e => if e.2.drawSeq < m.2.drawSeq then e else m) f).1)

/-- Bands of segments that no zone reaches go back. -/
def freeLost (segs : KMap SegEntry) (used : List Nat) : KMap SegEntry :=
  segs.mapVals fun n e =>
    let lead := if e.lead then n else e.next
    if e.state = .inUse ∧ !(used.contains lead) then {} else e

/-- End of the stream and the blocks placed, as the frame index states them (09 R286, R287). -/
def State.placedEnd (s : State) (d : DieId) (z : Nat) (c : Content) : Nat × Nat :=
  let fs := (s.die d).data.frames.entries.filter fun e => e.1 / 8192 == z
  if c.huskKib = 0 then
    ((fs.map fun e => e.2.start + 16 * e.2.len).foldl max 0, (fs.map fun e => 64 * (e.1 % 8192) + e.2.len / 16).foldl max 0)
  else
    let hs := fs.flatMap fun e => s.frameHusks d z e.2.husks e.2.start
    ((hs.map fun h => h.start + h.units).foldl max 0, (hs.map fun h => h.offset + h.logicalLen / 4096).foldl max 0)

/-- Husks that the frame index reaches; the others were never recorded. -/
def State.reachHusks (s : State) (d : DieId) : KMap Husk :=
  let hs := (s.die d).data.frames.entries.flatMap fun e => s.frameHusks d (e.1 / 8192) e.2.husks e.2.start
  (s.die d).data.husks.filter fun _ h => hs.contains h

/-- A zone's executed contents end where their journal says; what was placed beyond it is placed anew (11 R367). -/
def State.settleStream (s : State) (d : DieId) (z : Nat) : State :=
  let c := (s.zone d z).desc.content
  let e := s.placedEnd d z c
  let seq := (((s.die d).data.husks.entries.filter fun h => h.1 / 536870912 == z).map fun h => h.2.seq + 1).foldl max 0
  s.modZone d z fun v =>
    { v with desc := { v.desc with content := { c with
        streamEnd := e.1, huskSeq := seq
        reserved := if e.2 < c.wp then worstCase c e.2 (c.wp - e.2) else 0 } } }

/-- The zones of a map image: nothing admitted is open on them. -/
def ZDesc.rest (v : ZDesc) (segs : KMap SegEntry) (z nb : Nat) : Zone :=
  let ls := zoneSegs segs z
  let a := match ls.head? with
    | none => v.content.actuator
    | some n => some (if n / max 1 nb < 12 then Act.A else Act.B)
  { desc := { v with content := { v.content with segs := ls, actuator := a } }
    astate := v.state, awp := v.content.wp
    short := v.state == .closed || v.state == .full || v.state == .readOnly }

/-- Put a replayed map in force. -/
def State.useImage (s : State) (d : DieId) (m : MapImage) : State :=
  let nb := s.numBands d
  let zs := m.zones.mapVals fun z v => v.rest m.segs z nb
  let used := zs.entries.flatMap fun e => e.2.desc.content.segs
  let s := s.modData d fun x =>
    { x with zones := zs, segs := freeLost m.segs used, bitmap := m.bitmap, frames := m.frames, pages := [], jq := []
             compQ := [], decompQ := [], finished := [], lanes := List.replicate 16 none }
  let s := s.modData d fun x => { x with husks := s.reachHusks d }
  (zs.keys.filter fun z => !(s.isConv d z)).foldl (fun s z => s.settleStream d z) s

/-- A saved block goes back into the write cache as dirty (11 R367). -/
def State.restoreBlock (s : State) (d : DieId) (b : AcornBlock) : State :=
  if b.crcGood then
    let v : CacheVer := { asn := b.asn, data := b.data, dirty := true, staging := false, resetCount := b.resetCount, marked := false }
    s.putVersions d b.key (insertVer v (s.versions d b.key))
  else (s.modData d fun x => { x with unreadable := x.unreadable.insert b.key St.integrityError }).raise d Ev.acornBlockLost

/-- The area a save has used is consumed; the other one is next (11 R365, R367). -/
def consumeArea (x : DieData) : DieData := { setArea x .consumed with nextArea := !x.nextArea }

/-- A save that left no acorn is reported once (11 R367). -/
def State.saveLost (s : State) (d : DieId) : State :=
  let x := (s.die d).data
  if x.acornState = .saveFail ∨ x.acornState = .saving then
    let old := s.dom Obj.acornLastSave 25 (dieInst d) []
    let rec_ := if x.acornState = .saving then
        (if old.isEmpty then leBytes 47 0 else old).take 28 ++ leBytes 1 4 ++ leBytes 19 0
      else old
    let s := s.putDom Obj.acornLastSave 25 (dieInst d) (leBytes 8 x.saveSeq ++ rec_.drop 8)
    (s.modData d fun x =>
      { consumeArea x with acornState := .none, saving := none, saveFailFlag := true }).raise d Ev.acornSaveFail
  else s

/-- The replay of 11 R367, and whether the acorn's journal could be reached. -/
def State.rebuild (s : State) (d : DieId) : State × Bool :=
  let s := s.saveLost d
  let x := (s.die d).data
  let r := replay x.checkpoint (x.cpBase - 1) x.log
  let acorn := if x.acornState = .saved then x.acorn else none
  match acorn with
  | none => ((s.modData d fun x => { x with ring := [], head := r.2 + 1 }).useImage d r.1, true)
  | some a =>
    let q := replay r.1 r.2 a.journal
    let s := (s.modData d fun x => { x with ring := a.journal.filter fun j => decide (r.2 < j.jseq ∧ j.jseq ≤ q.2), head := r.2 + 1 }).useImage d q.1
    if q.2 < a.tailJseq then (s, false)
    else
      let s := a.blocks.foldl (fun s b => s.restoreBlock d b) s
      let lost := (a.blocks.filter fun b => !b.crcGood).length
      let old := s.dom Obj.acornLastSave 25 (dieInst d) []
      let s := if lost = 0 ∨ old.isEmpty then s
        else s.putDom Obj.acornLastSave 25 (dieInst d) (old.take 24 ++ leBytes 4 lost ++ old.drop 28)
      (s.modData d fun x => { consumeArea x with acornState := .consumed, acorn := none, restored := true }, true)

/-- Domains that a power failure left ERASE_PENDING are completed (10 R329). -/
def State.erasePending (s : State) (d : DieId) : State :=
  ((s.die d).data.keys.entries.filter fun e => e.2.state == .erasePending).foldl (fun s e => s.eraseKeyed d e.1 0) s

/-! ### Isolation (20 R579, R583, R584) -/

/-- Every part that die d still holds ends with DIE_ISOLATED. -/
def State.failParts (s : State) (d : DieId) : State :=
  s.slots.keys.foldl (fun s asn =>
    match (s.slots.find? asn).bind fun sl => sl.part? d with
    | none => s
    | some p =>
      if p.delivered then s
      else
        let s := if p.applied then s else s.modPart asn d fun p => { p with status := St.dieIsolated, data := [] }
        s.deliver asn d) s

/-- Segment draws asked of die d are given up; their verbs fail at check 6. -/
def State.dropDraws (s : State) (d : DieId) : State :=
  { s with sqs := s.sqs.mapVals fun _ q =>
      match q.drawWait with
      | some w => if w.1 = d then { q with drawWait := none } else q
      | none => q }

/-- Isolate die d for a cause (20 R583). -/
def State.isolate (s : State) (d : DieId) (cause : Nat) : State :=
  if s.isolated d then s
  else
    let up := (s.die d).replayDone
    let s := s.calAbortIf d fun _ _ => true
    let s := s.dropPermits d allHeads
    let s := s.modDie d fun x =>
      { x with
        life := .isolated, cause := if x.cause = 0 then cause else x.cause, rejoining := false
        mirror := { ingress := x.mirror.ingress } }
    let s := (s.failParts d).dropDraws d
    let s := s.put Obj.dieResetResult (dieInst d) 14
    let s := if d.val = 0 then s.phaseReferenceGone else s
    let s := (s.raise d Ev.dieIsolated).snapDone
    let s := if up && cause ≠ 2 then s.beginSave d else s
    let s := s.modDie d fun x => { x with target := if d.val = 0 then .standby else .dieSleep }
    (s.unloadBoth d).spinStopCommand d

/-! ### Die reset (20 R570; 02 R52; 03 R108; 14 R435, R436; 15 R460) -/

inductive ResetKind where
  | cold | warm | single
deriving DecidableEq, Repr

/-- Pending values of die d (none: of the package) become the saved ones; servo format and wedge-angle table with
different W are discarded (14 R436, 04 R116). -/
def State.applyRwr (s : State) (d : Option DieId) : State :=
  let bad := match d with
    | none => false
    | some d => s.nextServoW d != (s.nextWedges d).length
  let table := fun (k : Nat) => keyIndex k == Obj.servoFormat.index || keyIndex k == Obj.wedgeAngleTable.index
  let mine := s.rwr.filter fun k _ => keyOf d k && !(bad && table k)
  let s := { s with
    saved := mine.entries.foldl (fun m e => m.insert e.1 e.2) s.saved
    rwr := s.rwr.filter fun k _ => !(keyOf d k) }
  match d with
  | some d => if bad then s.raise d Ev.servoFormatMismatch else s
  | none => s

/-- Put one saved value in force (14 R435). -/
def State.loadSaved (s : State) (k : Nat) (v : List Byte) : State :=
  match keyDef k with
  | none => s
  | some o =>
    match o.typ with
    | .domain | .str => { s with doms := s.doms.insert k v }
    | _ => s.putSub o (keySub k) (keyInst k) (o.typ.decode v)

/-- Objects of die d (none: of the package) take their saved values, else their defaults (14 R434, R435). -/
def State.reloadObjs (s : State) (d : Option DieId) (keep : List ObjDef) : State :=
  let s := { s with
    objs := s.objs.filter fun k _ => !(keyOf d k) || keeps keep k
    doms := s.doms.filter fun k _ => !(keyOf d k) || keeps keep k }
  (s.saved.entries.filter fun e => keyOf d e.1).foldl (fun s e => s.loadSaved e.1 e.2) s

/-- A record with one valid copy gets the other back (08 R260). -/
def State.repairRecords (s : State) (d : DieId) : State :=
  (s.die d).calRecords.keys.foldl (fun s k =>
    let t := (s.die d).calRecords.getD k {}
    let good := fun (c : Option Copy) => c.filter (copyValid (k / 256) (k % 256))
    let fix := fun (t : TwoCopy) =>
      (s.modDie d fun x => { x with calRecords := x.calRecords.insert k t, calRepaired := true }).raise d Ev.calRecordRepaired
    match good t.a, good t.b with
    | some a, none => fix ⟨some a, some a⟩
    | none, some b => fix ⟨some b, some b⟩
    | _, _ => s) s

/-- The values of calibration records go in force (08 R245, R260). -/
def State.loadRecords (s : State) (d : DieId) : State :=
  (allRecords d).foldl (fun s e =>
    let p := s.calPayload d e.1 e.2
    if p.isEmpty then s else s.applyPayload d e.1 e.2 p) s

/-- Tables in force after a reset, each with its serial check (02 R55; 03 R83; 04 R116; 06 R175). -/
def State.useTables (s : State) (d : DieId) : State :=
  let i := dieInst d
  let servo := s.dom Obj.servoFormat 0 i []
  let wedge := s.dom Obj.wedgeAngleTable 0 i []
  let comm := s.dom Obj.commutationTable 0 i []
  let s := s.modDie d fun x =>
    let x := x.useServoFormat servo
    { x with clock := x.clock.useWedgeTable x.hdaCrc wedge, spin := x.spin.useCommTable x.hdaCrc comm }
  let out := fun (h : HeadId) =>
    let bs := s.dom Obj.recordingFormat 0 (headInst d h) []
    !bs.isEmpty && fieldU bs 8 4 != (s.die d).hdaCrc.toNat
  let s := allHeads.foldl (fun s h => s.modHead d h fun y => { y with excluded := out h }) s
  let s := if (s.die d).clock.tableMatch then s else s.raise d Ev.wedgeTableMismatch
  let s := if (s.die d).spin.tableMatch then s else s.raise d Ev.spinTableMismatch
  let s := if (s.die d).servoMatch then s else s.raise d Ev.servoFormatMismatch
  if allHeads.any out then s.raise d Ev.channelFormatMismatch else s

/-- What the caches and queues of a die's DRAM become at a single-die reset: what no record states is gone (11 R368). -/
def DieData.dramKept (x : DieData) (recorded : Nat → Bool) : DieData :=
  { x with
    wc := (x.wc.mapVals fun _ vs => vs.filter fun v => recorded v.asn).filter fun _ vs => !vs.isEmpty
    arriving := {}, jq := [], compQ := [], decompQ := [], finished := [], lanes := List.replicate 16 none }

/-- Data of a die after a reset: medium, NAND and MRAM stay; DRAM stays only at a single-die reset (15 R460; 10 R324). -/
def DieData.reset (x : DieData) (kind : ResetKind) (recorded : Nat → Bool) (nonce : Nat) : DieData :=
  let keys := x.keys.mapVals fun _ k => { k with nonce := [] }
  let base : DieData :=
    { unreadable := x.unreadable, husks := x.husks, media := x.media, drawSeq := x.drawSeq, formatSeq := x.formatSeq
      formatted := x.formatted, defects := x.defects, convZones := x.convZones, bandTracks := x.bandTracks
      bandGuard := x.bandGuard, convKeyDomain := x.convKeyDomain, nb := x.nb, convBands := x.convBands
      homePages := x.homePages, tail := x.tail, head := x.head, log := x.log, checkpoint := x.checkpoint
      cpBase := x.cpBase, keys := keys, nonceBase := nonce, area0 := x.area0, area1 := x.area1, nextArea := x.nextArea
      acornState := x.acornState, saveSeq := x.saveSeq, acorn := x.acorn, nandUp := x.nandUp }
  if kind = .single then
    let y := x.dramKept recorded
    { base with
      zones := y.zones, segs := y.segs, bitmap := y.bitmap, frames := y.frames, pages := y.pages, wc := y.wc, rc := y.rc
      ring := y.ring, tailRev := 0, dispatch := y.dispatch, verify := y.verify, verifyFull := y.verifyFull }
  else base

/-- Memories of a die after a reset: poison stays in what no fill writes (15 R460). -/
def MemState.reset (x : MemState) (kind : ResetKind) : MemState :=
  if kind = .single then
    { filling := [.sram, .coreLocal, .controlStore, .mapCache], area := x.area
      poisoned := x.poisoned.filter fun e => decide (5 ≤ e.1) }
  else { poisoned := x.poisoned.filter fun e => e.1 == 5 }

/-- Counters, logs and snapshots after a reset (19 R551, R566; log 22). -/
def ObsState.reset (o : ObsState) (kind : ResetKind) : ObsState :=
  match kind with
  | .cold => {}
  | .warm => { log := o.log, nextSeq := o.nextSeq }
  | .single => { log := o.log, nextSeq := o.nextSeq, snaps := o.snaps, blocks := o.blocks, evtOut := o.evtOut }

/-- Head h after a reset: whether it still reports open or short is asked anew (09 R281). -/
def Head.reset (y : Head) : Head := { openShortSeen := y.noWrite || y.openShortSeen }

/-- Coefficient banks and the active one are the die's own store (05 R145, R147). -/
def Actuator.reset (a : Actuator) : Actuator := { bank0 := a.bank0, bank1 := a.bank1, bank := a.bank }

/-- The die itself after a reset of a kind. -/
def Die.reset (x : Die) (kind : ResetKind) (recorded : Nat → Bool) (nonce : Nat) : Die :=
  let t := if kind = .cold then 0 else x.clock.time4
  { clock := { table := x.clock.table, time4 := t }
    resetTime := t
    heads := x.heads.map Head.reset
    actA := x.actA.reset, actB := x.actB.reset
    calRecords := x.calRecords, hdaCrc := x.hdaCrc
    data := x.data.reset kind recorded nonce
    mem := x.mem.reset kind
    obs := x.obs.reset kind
    mirror := { ingress := x.mirror.ingress }
    accesses := if kind = .single then x.accesses else [] }

/-- A part that a die reset found unfinished is dispatched again (11 R368). -/
def VPart.again (p : VPart) (op : Nat) (d : DieId) : VPart :=
  if p.die = d ∧ !p.applied ∧ !p.delivered then
    let redo := op == 4 || op == 5 || op == 0x4A
    { p with received := d.val == 0, begun := p.begun && !redo, dataSent := p.dataSent && p.begun, data := [] }
  else p

/-- The die-scoped part of every reset. -/
def State.resetDie (s : State) (d : DieId) (kind : ResetKind) : State :=
  let s := (s.releaseSlot d).useFresh
  let s := s.applyRwr (some d)
  let recorded := fun (asn : Nat) => s.recorded d asn
  let s := s.modDie d fun x => x.reset kind recorded s.fresh
  let keep := match kind with
    | .cold => keptObj
    | .warm => Obj.eventLogOverwritten :: keptObj
    | .single => [Obj.eventLogOverwritten, Obj.dieResetResult, Obj.dieReplayCount] ++ keptObj
  let s := { s.reloadObjs (some d) keep with
    sessions := s.sessions.filter fun x => x.die != d
    fw := { s.fw with loaded := s.fw.loaded.filter fun k _ => k / 8 != d.val } }
  let s := (((s.repairRecords d).loadRecords d).useTables d).setCoastRate d
  let s := s.modDie d fun x => { x with evalWait := [] }
  if kind = .single then { s with slots := s.slots.mapVals fun _ sl => { sl with parts := sl.parts.map fun p => p.again sl.op d } }
  else s

/-- Zones after a reset that kept DRAM: journal and stream agree (11 R368 steps 1 and 2). -/
def State.ringApply (s : State) (d : DieId) : State :=
  let s := s.modData d fun x => { x with husks := s.reachHusks d }
  let zs := (s.die d).data.zones.keys.filter fun z => !(s.isConv d z)
  let s := zs.foldl (fun s z => s.settleStream d z) s
  s.modDie d fun x => { x with replayDone := true }

/-- A replay under 11 R368. -/
def State.ringReplay (s : State) (d : DieId) : State :=
  ((s.ringApply d).modData d fun x => { x with replayed := true }).bump Obj.dieReplayCount (dieInst d)

/-! ### Package resets (20 R570 to R572) -/

/-- Package-scoped state at a package warm or cold reset. -/
def State.resetPackage (s : State) (kind : ResetKind) : State :=
  let cold := kind == .cold
  let s := s.hostReset.applyRwr none
  let s := s.reloadObjs none []
  let cnt := if cold then {} else s.evtCount
  { s with
    slots := {}, asn := if cold then 0 else s.asn, evtRoute := {}, evtPending := {}, evtCount := cnt, coal := {}
    alerts := [], errors := [], errorCount := 0, trace := [], traceFullSeen := false
    lfsr := BitVec.ofNat 32 (s.getN Obj.traceSeed 0), snapSeq := 0, snapT := 0, snapAction := 0, snapBlocks := {}
    snapReqs := [], snapGather := {}, mgmt := {}, spinHeld := [], spinReq := [], sessions := [], warm := none
    linksDown := if cold then [] else s.linksDown, restoring := false
    host := { s.host with bootReady := false, fatal := false, doorbellErr := false } }

/-- Package warm reset: the host interface and every die that is not isolated (20 R570, R572). -/
def State.warmReset (s : State) : State :=
  let ds := s.fittedDies.filter fun d => !(s.isolated d)
  let s := ds.foldl (fun s d => s.resetDie d .warm) s
  let s := s.resetPackage .warm
  let s := { s with resetStart := s.now }
  s.bootRom

/-- Cold reset with the straps as sampled: every die (20 R570; 21 R599, R619). -/
def State.coldReset (s : State) (sa boot : BitVec 2) : State :=
  let s := s.fittedDies.foldl (fun s d => s.resetDie d .cold) s
  let s := s.resetPackage .cold
  let s := { s with
    resetStart := 0
    host := { strapSa := sa, strapBoot := boot }
    pba := {}, msix := {}, reply := {} }
  match boot.toNat with
  | 0 => s.bootRom
  | 1 => s
  | _ => { s with host := { s.host with fatal := true } }

/-- A change of state that the host must answer by resetting the function turns its reset into a package warm reset
(20 R570). -/
def State.functionReset (s : State) : State :=
  if s.host.fatal then s.warmReset else s.hostReset

end Sys2Proof.Machine
end

