-- ==== Sys2Proof/Machine/Power.lean ====
section
/-! DEFINITION. Power, boot, die and package reset, power states of an HDA, the admission mirror's start values (11 R340,
R366 to R369; 20 R570 to R584; 21 R599 to R601). -/

namespace Sys2Proof.Machine

/-! ### The admission mirror (11 R339, R340) -/

/-- Bytes of journal room that a verb reserves (11 R339, R353). -/
def State.recordNeed (s : State) (sl : Slot) : Nat :=
  let b := lbaBlock sl.lba
  if writeOp sl.op then
    if s.isConv (lbaDie sl.lba) (zoneOf b) then 64 + 32 * ((b + sl.count - 1) / 64 - b / 64) else 128
  else if sl.op = 6 ∨ sl.op = 0x4A then maxRecord
  else 0

/-- Write data of die d that has been admitted and has not arrived. -/
def State.comingWrites (s : State) (d : DieId) : List Slot :=
  (s.slots.entries.map Prod.snd).filter fun sl =>
    writeOp sl.op && sl.fixed.isNone && lbaDie sl.lba == d && !(sl.arrived d)

/-- Verbs of die d whose record is still to be appended. -/
def State.comingRecords (s : State) (d : DieId) : List Slot :=
  (s.slots.entries.map Prod.snd).filter fun sl =>
    sl.fixed.isNone && sl.parts.any fun p => p.die == d && !p.applied && !(writeOp sl.op && p.begun)

/-- Parts that hold a dispatch slot of die d. -/
def State.heldSlots (s : State) (d : DieId) : List Slot :=
  (s.slots.entries.map Prod.snd).filter fun sl => sl.takesSlot d && sl.parts.any fun p => p.die == d && !p.delivered

/-- Write-cache bytes in use (11 R342). -/
def cacheUsed (x : DieData) : Nat := 4096 * (x.wc.entries.map fun e => e.2.length).sum

/-- What die d has free of each resource it lends the anchor (11 R340). -/
def State.dieFree (s : State) (d : DieId) : Mirror :=
  let i := dieInst d
  let x := (s.die d).data
  let coming := s.comingWrites d
  { slots := 65536 / s.part.dies - (s.heldSlots d).length
    cacheBytes := s.getN Obj.writeCacheMib i * 1048576 - cacheUsed x - (coming.map (·.cacheBytes)).sum
    dirtyBytes := x.budget - dirtyBytes x - ((coming.filter fun sl => !sl.writeThrough).map (·.cacheBytes)).sum
    journalBytes := s.journalRoom d - ((s.comingRecords d).map s.recordNeed).sum
    ingress := (s.die d).mirror.ingress
    egress := 8388608 - (((s.heldSlots d).filter fun sl => sl.egressOn d).map (·.window)).sum }

/-- A die that enters service shows the anchor what it has free (11 R340, 20 R582). -/
def State.mirrorFill (s : State) (d : DieId) : State :=
  let m := s.dieFree d
  s.modDie d fun x => { x with mirror := m }

/-! ### Boot (20 R573 to R575) -/

/-- A table that spin-up or head load needs does not match the fitted HDA (20 R575). -/
def Die.tablesBad (x : Die) : Bool :=
  !(x.tablesMatch .A) || !(x.tablesMatch .B) || !x.spin.tableMatch || allHeads.any fun h => (x.head h).excluded

/-- The HDA fails identification: its spindle, or both actuators, end in FAULT (20 R575). -/
def Die.identFail (x : Die) : Bool := x.spin.state == .fault || (x.actA.state == .fault && x.actB.state == .fault)

/-- Admin queue sizes that 12 R379 accepts. -/
def HostRegs.sizesOk (h : HostRegs) : Bool :=
  decide (2 ≤ h.asqSize.toNat ∧ h.asqSize.toNat ≤ 4096 ∧ 2 ≤ h.acqSize.toNat ∧ h.acqSize.toNat ≤ 4096)

/-- ADMIN_READY and the admin queue pair, once the anchor accepts admin verbs (12 R379, R380; 20 R574). -/
def State.adminRise (s : State) : State :=
  let h := s.host
  if h.enable && h.sizesOk && (s.die 0).recordsRead && !h.adminReady && !h.fatal then
    { s with
      host := { h with adminReady := true }
      sqs := s.sqs.insert 0 { size := h.asqSize.toNat, base := h.asqBase, cq := 0, frozenModel := false }
      cqs := s.cqs.insert 0
        { size := h.acqSize.toNat, base := h.acqBase, vector := 0, ien := true, aggCount := 1, aggTime := 0 } }
  else s

/-- READY at the later of ENABLE and boot step 8; the boot's time (12 R378; 20 R574, R590). -/
def State.readyRise (s : State) : State :=
  if s.host.bootReady && s.host.enable && s.host.adminReady && !s.host.ready then
    let s := { s with host := { s.host with ready := true } }
    if s.get Obj.lastBootMs 0 = 0 then s.put Obj.lastBootMs 0 (((s.now - s.resetStart) / 1000000 : Nat) : Int) else s
  else s

/-- End of step 3: records are read, spin-up and, on die 0, admin verbs may begin (20 R573, R574). -/
def State.bootStep3 (s : State) (d : DieId) : State :=
  let x := s.die d
  if x.imaged && x.mem.filling.isEmpty && !x.recordsRead && !(s.isolated d) then
    let s := s.modDie d fun x => { x with recordsRead := true }
    let s := (s.spinStartCommand d).1
    if d.val = 0 then s.adminRise else s
  else s

/-- MEMORY_FILL_DONE (15 R460). -/
def execMemoryFillDone (d : DieId) (region : FillRegion) (s : State) : Res :=
  onDie d s fun s =>
    (s.modMem d fun m => { m with filling := m.filling.filter (· != region) }).bootStep3 d

/-- A die whose HDA fails identification is isolated with cause 1 (20 R575). -/
def State.identCheck (s : State) (d : DieId) : State :=
  if (s.die d).identFail && !(s.isolated d) then s.isolate d 1 else s

/-- BOOT_HEAD_LOAD (20 R573 step 6, R575). -/
def execBootHeadLoad (d : DieId) (s : State) : Res :=
  onDie d s fun s =>
    let x := s.die d
    if !x.recordsRead || x.bootLoaded || s.isolated d then s
    else if x.identFail then s.isolate d 1
    else if x.tablesBad then s.modDie d fun x => { x with bootLoaded := true }
    else if x.spin.state = .atSpeed then
      (((s.loadCommand d .A).1.loadCommand d .B).1).modDie d fun x => { x with bootLoaded := true }
    else s

/-- Both actuators' loads have come to an end, one at least on track. -/
def Die.headsUp (x : Die) : Bool :=
  let ok := fun (a : Actuator) => a.state == .tracking || a.state == .fault
  ok x.actA && ok x.actB && (x.actA.state == .tracking || x.actB.state == .tracking)

/-- BOOT_MEDIA_REPLAY (20 R573 step 4; 11 R367; 10 R329). -/
def execBootMediaReplay (d : DieId) (mediaReadable : Bool) (s : State) : Res :=
  onDie d s fun s =>
    let x := s.die d
    if x.life == .starting && x.bootLoaded && !x.replayDone && !x.tablesBad && x.headsUp then
      if !mediaReadable then s.isolate d 8
      else
        let r := s.rebuild d
        if r.2 then (r.1.erasePending d).modDie d fun x => { x with replayDone := true }
        else (r.1.raise d Ev.journalCorrupt).isolate d 3
    else s

/-! ### Reconciliation (20 R581, R582) -/

/-- JSEQ of the last record the ring or the log gives. -/
def DieData.reached (x : DieData) : Nat := (x.ring.getLast?.map (·.jseq)).getD (x.head - 1)

/-- 20 R582 over a map rebuilt up to `DieData.reached`. -/
def State.reconcile (s : State) (d : DieId) : State :=
  let x := (s.die d).data
  let reached := x.reached
  let ahead := (x.zones.entries.filter fun e => decide (reached < e.2.desc.epoch)).map (·.1)
  let s := ahead.foldl (fun s z =>
    s.modZone d z fun v => { v with astate := .offline, desc := { v.desc with state := .offline } }) s
  let s :=
    if reached < x.tail then
      let open_ := fun (v : Zone) => v.desc.state == .implicitOpen || v.desc.state == .explicitOpen || v.desc.state == .closed
      let zs := ((s.die d).data.zones.entries.filter fun e => open_ e.2 && !(s.isConv d e.1)).map (·.1)
      let s := zs.foldl (fun s z => s.makeReadOnly d z) s
      (s.modDie d fun x => { x with gap := true }).takeCheckpoint d
    else s
  (s.modDie d fun x => { x with reconciled := true, life := .active, cause := 0, rejoining := false }).mirrorFill d

/-- DIE_RESET_RESULT of a reset or rejoin that waits (20 R590). -/
def State.resetResult (s : State) (d : DieId) (code : Int) : State :=
  if s.get Obj.dieResetResult (dieInst d) = 1 then s.put Obj.dieResetResult (dieInst d) code else s

/-- UNFORMATTED: descriptors EMPTY and the bitmap clear where the map has been read (20 R581). -/
def State.enterUnformatted (s : State) (d : DieId) (clear : Bool) : State :=
  let s := if clear then s.modData d fun x =>
      { x with zones := {}, segs := {}, bitmap := {}, frames := {}, husks := {}, pages := [], wc := {}, rc := {}, jq := [] }
    else s
  (((s.modDie d fun x => { x with life := .unformatted, cause := 0, rejoining := false }).resetResult d 15)).mirrorFill d

/-! ### HDA power states (20 R576 to R578) -/

/-- A die returns from Die-sleep: units and fill anew, DRAM as it was, the target kept (20 R576). -/
def State.wakeSleep (s : State) (d : DieId) : State :=
  let t := (s.die d).target
  let s := (s.resetDie d .single).ringApply d
  s.modDie d fun x => { x with target := t, rejoining := true }

/-- Bring one actuator's heads to what the target calls for: loaded, and all or one of them live (01 R32, 20 R576). -/
def State.actPower (s : State) (d : DieId) (a : Act) : State :=
  match ((s.die d).act a).state with
  | .parked | .fault | .unloading | .retracting => (s.loadCommand d a).1
  | _ =>
    let want := (s.die d).loadHeads a
    (headsOf a).foldl (fun s h =>
      let live := ((s.die d).head h).live
      if want.contains h then if live then s else s.modHead d h Head.goLive
      else if live then s.modHead d h fun x => x.requeueUnstarted.gate
      else s) s

/-- Spindle turning or on its way up. -/
def Spindle.up (p : Spindle) : Bool :=
  p.state == .atSpeed || ((p.state == .ramping || p.state == .reacquiring) && !p.stopping)

/-- Start the spindle; load the heads when it is at speed, or not at all. -/
def State.spinFor (s : State) (d : DieId) (load : Bool) : State :=
  let s := if (s.die d).spin.up then s else (s.spinStartCommand d).1
  s.modSpin d fun p => { p with loadAtSpeed := load && p.state != .atSpeed }

/-- Move the HDA toward its target (20 R576, R577). -/
def State.powerApply (s : State) (d : DieId) : State :=
  if (s.die d).power = .dieSleep ∧ (s.die d).target ≠ .dieSleep then s.wakeSleep d
  else
    match (s.die d).target with
    | .active | .reduced =>
      let s := s.spinFor d true
      if (s.die d).spin.state = .atSpeed then ((s.actPower d .A).actPower d .B).powerSettle d else s
    | .unloaded => ((s.unloadBoth d).spinFor d false).powerSettle d
    | .standby | .dieSleep =>
      (((s.unloadBoth d).spinStopCommand d).modSpin d fun p => { p with loadAtSpeed := false }).powerSettle d

def powerOfCode : Nat → PowerState
  | 0 => .active
  | 1 => .reduced
  | 2 => .unloaded
  | 3 => .standby
  | _ => .dieSleep

def PowerState.code : PowerState → Nat
  | .active => 0
  | .reduced => 1
  | .unloaded => 2
  | .standby => 3
  | .dieSleep => 4

/-- A write of HDA_POWER_TARGET (20 R576, R577). -/
def State.powerTarget (s : State) (d : DieId) (v : Nat) : State × BitVec 16 × Nat :=
  if 4 < v ∨ (v = 4 ∧ d.val = 0) then (s, St.valueInvalid, 0)
  else ((s.modDie d fun x => { x with target := powerOfCode v }).powerApply d, St.success, 0)

/-- HDA_POWER_TARGET_WRITE (20 R577). -/
def execHdaPowerTargetWrite (d : DieId) (v : BitVec 8) (s : State) : Res :=
  statusCommand d s fun s => s.powerTarget d v.toNat

/-- A die in states 2 to 4 wakes to Active (20 R578). -/
def State.wake (s : State) (d : DieId) : State :=
  let x := s.die d
  let low := x.target == .unloaded || x.target == .standby || x.target == .dieSleep
  if low && !(s.isolated d) && x.hk.state != .shutdown then
    (s.modDie d fun x => { x with target := .active, woken := true }).powerApply d
  else s

/-! ### End of the boot (20 R573 steps 7 and 8) -/

/-- Zones made ready, or left to reconciliation on a die that comes back alone (20 R573 step 7, R582). -/
def State.bootEnd (s : State) (d : DieId) : State :=
  let x := s.die d
  let s :=
    if !x.data.formatted then s.enterUnformatted d true
    else if x.tablesBad then s.enterUnformatted d false
    else if x.rejoining then s.modDie d fun x => { x with life := .reconciling }
    else (s.reconcile d).resetResult d 0
  let s := s.modDie d fun x => { x with bootDone := true }
  if (s.die d).target = .active then s else s.powerApply d

/-- BOOT_STALENESS_CHECK (20 R573 step 7; 08 R263, R281). -/
def execBootStalenessCheck (d : DieId) (s : State) : Res :=
  onDie d s fun s =>
    let x := s.die d
    if x.life == .starting && x.recordsRead && !x.bootDone && x.bootLoaded && (x.replayDone || x.tablesBad) then
      ((allRecords d).foldl (fun s e => s.evalRecord d e.1 e.2) s).bootEnd d
    else s

/-- RECONCILIATION (20 R582): the ring in DRAM if it reaches the tail, else checkpoint and media log. -/
def execReconciliation (d : DieId) (ringIntact mediaReadable : Bool) (s : State) : Res :=
  onDie d s fun s =>
    let x := s.die d
    if x.life ≠ .reconciling then s
    else if ringIntact then (s.reconcile d).resetResult d 0
    else if !mediaReadable then s.isolate d 8
    else
      let r := replay x.data.checkpoint (x.data.cpBase - 1) x.data.log
      let wc := x.data.wc
      let s := (s.modData d fun y => { y with ring := [], head := r.2 + 1 }).useImage d r.1
      let keep := fun (b : Nat) (v : CacheVer) =>
        let c := (s.zone d (zoneOf b)).desc.content
        (s.isConv d (zoneOf b) || decide (offsetOf b < c.wp)) && v.resetCount == c.resetCount
      let s := s.modData d fun y =>
        { y with wc := (wc.mapVals fun b vs => vs.filter (keep b)).filter fun _ vs => !vs.isEmpty }
      (s.reconcile d).resetResult d 0

/-- Every die that is not isolated has finished step 7. -/
def State.allBooted (s : State) : Bool :=
  s.fittedDies.all fun d => s.isolated d || (s.die d).bootDone

/-- Boot step 8: READY, and a trial image's confirmation window begins (17 R521; 20 R573, R574). -/
def State.bootReach (s : State) : State :=
  let now := s.now
  let s := { s with host := { s.host with bootReady := true } }
  let s := if s.fw.trial = .sprout ∧ s.fw.windowStart.isNone then
      s.modFw fun f => { f with windowStart := some now, cleanSince := some now }
    else s
  s.readyRise

/-- BOOT_READY (20 R573 step 8, R574). -/
def execBootReady (s : State) : Res :=
  .next (when ((s.die 0).recordsRead && s.allBooted && !s.host.fatal && !s.host.bootReady) State.bootReach s)

/-- READY_TIMEOUT (20 R575): dies not done stay STARTING, one that failed identification is isolated. -/
def execReadyTimeout (s : State) : Res :=
  .next (when ((s.die 0).recordsRead && !s.host.fatal && !s.host.bootReady)
    (fun s => ((s.fittedDies.filter fun d => !(s.die d).bootDone).foldl State.identCheck s).bootReach) s)

/-- DIE_START_LIMIT (20 R575). -/
def execDieStartLimit (d : DieId) (s : State) : Res :=
  onDie d s (when ((s.die d).life == .starting) fun s => s.isolate d (if (s.die d).identFail then 1 else 6))

/-! ### Cold reset and supply supervision (21 R599 to R601) -/

/-- PORST_N_RISE (20 R570; 21 R599, R619). -/
def execPorstNRise (sa boot : BitVec 2) (s : State) : Res := .next (s.coldReset sa boot)

/-- PORST_N_ASSERT (21 R600): everything is held in cold reset, a save in progress is destroyed. -/
def execPorstNAssert (s : State) : Res :=
  let s := s.fittedDies.foldl (fun s d => s.resetDie d .cold) s
  let s := s.resetPackage .cold
  .next { s with host := { inReset := true }, resetStart := 0, pba := {}, msix := {}, reply := {} }

/-- A part on a die whose memories are gone starts anew. -/
def VPart.afresh (p : VPart) (d : DieId) : VPart :=
  if p.die = d ∧ !p.applied ∧ !p.delivered then { p with received := false, begun := false, dataSent := false, data := [] } else p

/-- A member die that its supply monitor has reset answers no snapshot asked before (19 R555). -/
def State.snapGone (s : State) (d : DieId) : State :=
  let ts := (s.snapReqs.map (·.1)).filter fun t => !(s.snapGather.contains (t * 8 + d.val))
  ({ s with snapGather := ts.foldl (fun m t => m.insert (t * 8 + d.val) none) s.snapGather }).snapDone

/-- SUPPLY_MONITOR_RESET (21 R601): the die resets as PORST_N would reset it; on die 0 that is the package. -/
def execSupplyMonitorReset (d : DieId) (s : State) : Res :=
  onDie d s fun s =>
    if d.val = 0 then s.coldReset s.host.strapSa s.host.strapBoot
    else
      let s := s.resetDie d .cold
      let s := { s with slots := s.slots.mapVals fun _ sl => { sl with parts := sl.parts.map (VPart.afresh · d) } }
      s.snapGone d

/-! ### Die reset (20 R570, R580) -/

/-- A die's single reset takes place: its DRAM stays, its journal is replayed; an isolated die rejoins (11 R368; 20
R570, R580; 17 R525). -/
def State.dieRejoin (s : State) (d : DieId) : State :=
  let up := (s.die d).replayDone
  let back := s.isolated d
  let acorn := (s.die d).data.acornState == .saved
  let s := (s.resetDie d .single).put Obj.dieResetResult (dieInst d) 1
  let s := s.modDie d fun x => { x with rejoining := back }
  let s := if d.val = 0 then
      (s.modDie 0 fun x => { x with imaged := true }).loadUnits 0 (s.meantSlot 0)
    else s
  (if up && !acorn then s.ringReplay d else s).trialFault

/-- DIE_RESET value 1: at once, or after the save of an isolation or a power failure (20 R580, R584). -/
def State.dieReset1 (s : State) (d : DieId) : State :=
  if (s.die d).data.saving.isSome || (s.die d).data.pfail.isSome then
    (s.put Obj.dieResetResult (dieInst d) 1).modDie d fun x => { x with rejoining := true }
  else s.dieRejoin d

/-- DIE_RESET_REJOIN: a write of 1 to DIE_RESET (20 R570, R580), which an isolated die takes. -/
def execDieResetRejoin (d : DieId) (s : State) : Res := onDie d s fun s => (s.dieReset1 d).answer St.success

/-- DIE_RESET_ISOLATE: a write of 2 (20 R583). -/
def execDieResetIsolate (d : DieId) (s : State) : Res := onDie d s fun s => (s.isolate d 7).answer St.success

/-! ### Package warm reset (20 R570 to R572; 11 R366, R369) -/

/-- PACKAGE_RESET: a write of 1 to PACKAGE_RESET (20 R570, R571). -/
def execPackageReset (s : State) : Res := .next ((s.packageReset none).answer St.success)

/-- A die has nothing left to destage, or its acorn has been written (20 R571). -/
def State.destaged (s : State) (d : DieId) : Bool :=
  let x := (s.die d).data
  let parts := s.slots.entries.any fun e => e.2.orphan && e.2.parts.any fun p => p.die == d && !p.delivered
  s.isolated d || !(s.die d).replayDone ||
    if x.frozen then x.saving.isNone else decide (dirtyBytes x = 0) && x.jq.isEmpty && x.arriving.entries.isEmpty && !parts

/-- The journal tail goes to both copies of the log (11 R369). -/
def State.warmFlush (s : State) (d : DieId) : State :=
  if (s.die d).replayDone && !(s.die d).data.frozen then s.flushJournal d else s

/-- PACKAGE_WARM_RESET (20 R570, R571; 11 R369): every die has destaged. -/
def execPackageWarmReset (s : State) : Res :=
  .next <|
    match s.warm with
    | none => s
    | some ds => if ds.all s.destaged then (ds.foldl State.warmFlush s).warmReset else s

/-- WARM_RESET_DESTAGE_LIMIT (20 R571): 30 s have passed, the die saves an acorn instead. -/
def execWarmResetDestageLimit (d : DieId) (s : State) : Res :=
  onDie d s fun s =>
    match s.warm with
    | none => s
    | some ds =>
      if ds.contains d && !(s.destaged d) && !(s.die d).data.frozen then s.beginSave d else s

/-- POWER_RETURN (11 R366): PFAIL_N has been deasserted for 100 ms and every save has ended. -/
def execPowerReturn (s : State) : Res :=
  let ds := s.fittedDies.filter fun d => (s.die d).data.pfail.isSome && !(s.isolated d)
  .next (when (!ds.isEmpty && ds.all fun d => (s.die d).data.frozen && (s.die d).data.saving.isNone) State.warmReset s)

end Sys2Proof.Machine
end

