-- ==== Sys2Proof/Machine/Admission.lean ====
section
/-! DEFINITION. ADMIT_VERB and what goes with it: the checks of a submission entry, the scatter descriptors, reservations,
segment draws, allowances (01 R22; 09 R269 to R285; 11 R338 to R350; 12 R381 to R389, R396; 13 R400 to R414; 19 R558). -/

namespace Sys2Proof.Machine

/-! ### Ranges of blocks by die and zone -/

/-- A run of blocks within one zone of one die. -/
structure ZRun where
  die : DieId
  zone : Nat
  off : Nat
  count : Nat
deriving DecidableEq, Repr

/-- Cut the blocks of one die at zone boundaries. `fuel` bounds the zones. -/
def cutZones (d : DieId) : Nat → Nat → Nat → List ZRun
  | 0, _, _ => []
  | fuel + 1, b, n =>
    if n = 0 then []
    else
      let k := min n (zoneSpan - offsetOf b)
      ⟨d, zoneOf b, offsetOf b, k⟩ :: cutZones d fuel (b + k) (n - k)

/-- A block range as runs, in LBA order (01 R22). -/
def zruns (lba n : Nat) : List ZRun :=
  (List.finRange 8).flatMap fun d =>
    let lo := max lba (dieLba d 0)
    let hi := min (lba + n) (dieLba d 0 + 274877906944)
    if lo < hi then cutZones d 4 (lo - dieLba d 0) (hi - lo) else []

/-- Runs that a verb reads. -/
def Slot.readRuns (sl : Slot) : List ZRun :=
  if sl.op = 1 ∨ sl.op = 5 then zruns sl.lba sl.count
  else if sl.op = 8 then sl.src.flatMap fun e => zruns (srcRange e).1 (srcRange e).2
  else []

/-- COPY with APPEND = 1 and ZONE APPEND take their place from the zone. -/
def Slot.appends (sl : Slot) : Bool := sl.op == 3 || (sl.op == 8 && eVs sl.entry 1 1 % 2 == 1)

/-- Runs that a verb writes where it says. -/
def Slot.writeRuns (sl : Slot) : List ZRun :=
  if (sl.op = 2 ∨ sl.op = 8) ∧ !sl.appends then zruns sl.lba sl.count else []

/-! ### Checks 1 and 2 of 13 R402 -/

/-- An opcode of the queue's kind (13 R400). -/
def opKnown (q op : Nat) : Bool :=
  if q = 0 then decide (0x40 ≤ op ∧ op ≤ 0x4D) else decide (1 ≤ op ∧ op ≤ 8)

def blockOp (op : Nat) : Bool := op == 1 || op == 2 || op == 3 || op == 5 || op == 8

/-- Bits of VSPEC that a verb defines (13 R404, R413). -/
def vsMask (e : BitVec 512) : Nat :=
  match eOp e with
  | 4 => 0x1
  | 6 => if eVs e 0 1 % 16 = 5 then 0xFFFFFFFFFFFFFF1F else 0x1F
  | 7 => 0xFFFFFFFF000000FF
  | 8 => 0x01FF
  | 0x40 => if eVs e 0 1 = 1 then 0xFFFF else 0xFF
  | 0x41 => 0xFFFFFFFFFFFFFFFF000000FF + if eVs e 0 1 = 2 ∨ eVs e 0 1 = 3 then 0xFF00 else 0
  | 0x42 => 0xFFFFFFFFFFFFFFFFFFFFFFFF
  | 0x43 => 0x01FFFFFFFFFFFFFFFFFFFFFFFF
  | 0x44 => if eVs e 2 1 % 2 = 1 then 0xFFFF00FFFFFFFFFF0003FFFF else 0xFFFFFFFF0005FFFF
  | 0x45 => 0x01FFFF
  | 0x46 => 0xFFFFFFFF
  | 0x47 => 0x01FFFFFFFFFFFFFFFF
  | 0x48 => 0xFF
  | 0x4A => if eVs e 0 1 = 0 then 0xFFFFFF else if eVs e 0 1 = 1 then 0xFFFF else 0xFF
  | 0x4B => 0xFF00
  | 0x4C => 0xFF
  | 0x4D => if eVs e 2 1 = 0 then 0xFFFF00FFFFFF else 0xFFFFFF
  | _ => 0

/-- Reserved bits outside the descriptors are 0 (12 R386, R387; 13 R401). -/
def reservedOk (e : BitVec 512) : Bool :=
  decide (eFlags e < 2) && decide (eNlb e < 65536) && decide (eLba e < 2 ^ 41) && eVs e 0 16 &&& vsMask e == eVs e 0 16

/-- FUA, NLB and LBA are 0 where the verb does not use them (13 R401). -/
def commonOk (e : BitVec 512) : Bool :=
  let op := eOp e
  let lbaUsed := blockOp op || op == 6 || op == 7 || (op == 4 && eVs e 0 1 % 2 == 1)
  (!(eFua e) || op == 1 || op == 2 || op == 3 || op == 8) && (eNlb e == 0 || blockOp op) && (eLba e == 0 || lbaUsed)

def zoneAligned (e : BitVec 512) : Bool := eLba e % 524288 == 0

/-- Fields of the I/O verbs in range (09 R269, R271; 13 R404, R406, R409 to R411). -/
def ioRange (e : BitVec 512) : Bool :=
  match eOp e with
  | 3 => zoneAligned e
  | 4 => eVs e 0 1 % 2 == 0 || zoneAligned e
  | 6 =>
    let a := eVs e 0 1 % 16
    if eVs e 0 1 / 16 = 1 then decide (2 ≤ a ∧ a ≤ 4) && eLba e % 274877906944 == 0
    else
      decide (1 ≤ a ∧ a ≤ 6) && zoneAligned e &&
        (a != 5 || ([1, 2, 3, 4, 6, 12].contains (eVs e 1 1) && [0, 16, 32, 64].contains (eVs e 2 1) &&
          decide (eVs e 3 1 ≤ 63) && decide (64 ≤ eVs e 4 4 ∧ eVs e 4 4 ≤ 524288) && eVs e 4 4 % 64 == 0))
  | 7 =>
    (decide (eVs e 0 1 ≤ 6) || eVs e 0 1 == 15) && decide (128 ≤ eVs e 4 4 ∧ eVs e 4 4 ≤ 16777216) &&
      eVs e 4 4 % 64 == 0 && zoneAligned e
  | 8 => decide (eVs e 0 1 ≤ 127) && (eVs e 1 1 % 2 == 0 || zoneAligned e)
  | _ => true

/-- Die byte names a fitted die. -/
def State.dieByte (s : State) (n : Nat) : Bool := decide (n < s.part.dies)

/-- Fields of the admin verbs in range (12 R380, R387; 13 R413, R416). -/
def State.adminRange (s : State) (e : BitVec 512) : Bool :=
  let b0 := eVs e 0 1
  match eOp e with
  | 0x40 => b0 == 0 || (b0 == 1 && s.dieByte (eVs e 1 1))
  | 0x41 =>
    (b0 == 1 || ((b0 == 2 || b0 == 3) && s.dieByte (eVs e 1 1))) && eVs e 4 4 % 4 == 0 &&
      decide (4 ≤ eVs e 8 4 ∧ eVs e 8 4 ≤ 16777216) && eVs e 8 4 % 4 == 0
  | 0x42 | 0x43 => decide (eVs e 8 4 ≤ 16777216)
  | 0x44 =>
    decide (1 ≤ eVs e 0 2 ∧ eVs e 0 2 ≤ 511) && decide (2 ≤ eVs e 4 2 ∧ eVs e 4 2 ≤ 4096) &&
      (eVs e 2 1 % 2 == 0 || (decide (eVs e 6 2 ≤ 2047) && decide (eVs e 10 2 ≤ 1000)))
  | 0x46 => decide (eVs e 0 2 ≤ 511)
  | 0x47 => eVs e 0 4 % 65536 == 0 && decide (4 ≤ eVs e 4 4 ∧ eVs e 4 4 ≤ 16777216)
  | 0x48 => b0 == 1
  | 0x4A => b0 == 2 || (decide (b0 ≤ 1) && s.dieByte (eVs e 1 1) && (b0 == 1 || decide (eVs e 2 1 ≤ 63)))
  | 0x4B => s.dieByte (eVs e 1 1)
  | 0x4C => decide (b0 ≤ 2)
  | 0x4D => decide (eVs e 2 1 ≤ 1)
  | _ => true

/-- A range lies below 2^41 and on fitted dies. -/
def State.rangeFits (s : State) (lba n : Nat) : Bool := decide (lba + n ≤ s.part.dies * 274877906944)

/-- Every LBA named is below 2^41 and on a fitted die (13 R402 check 2). -/
def State.lbasFit (s : State) (e : BitVec 512) : Bool :=
  let op := eOp e
  if blockOp op then decide (eNlb e < 4096) && s.rangeFits (eLba e) (eNlb e + 1) else s.rangeFits (eLba e) 1

/-- A COPY's source list (13 R411). -/
def State.sourcesOk (s : State) (e : BitVec 512) (src : List (BitVec 128)) : Bool :=
  src.length == eVs e 0 1 + 1 && (src.map fun x => (srcRange x).2).sum == eNlb e + 1 &&
    src.all fun x => decide (x.toNat / 2 ^ 80 = 0) && decide ((srcRange x).1 < 2 ^ 41) && s.rangeFits (srcRange x).1 (srcRange x).2

/-! ### Scatter descriptors (12 R388, R389) -/

structure Desc where
  addr : Nat
  len : Nat
  typ : Nat
  rsvd : Nat
deriving DecidableEq, Repr

def descOf (b : BitVec 128) : Desc :=
  ⟨b.toNat % 2 ^ 64, b.toNat / 2 ^ 64 % 2 ^ 32, b.toNat / 2 ^ 96 % 16, b.toNat / 2 ^ 100⟩

/-- DPTR1 all zero is no descriptor: it counts as NULL (12 R386). -/
def dptr1 (e : BitVec 512) : Desc := if eDptr e 1 = 0 then ⟨0, 0, 15, 0⟩ else descOf (eDptr e 1)

/-- Transfer length of a verb (13 R400). -/
def xferLen (e : BitVec 512) : Nat :=
  match eOp e with
  | 1 | 2 | 3 => (eNlb e + 1) * 4096
  | 7 => eVs e 4 4
  | 8 => 16 * (eVs e 0 1 + 1)
  | 0x40 => 4096
  | 0x41 | 0x42 | 0x43 => eVs e 8 4
  | 0x44 => eVs e 4 2 * if eVs e 2 1 % 2 = 1 then 16 else 64
  | 0x47 => eVs e 4 4
  | 0x4B => 196
  | _ => 0

/-- A walk so far: a fault, addresses of the list segments, lengths of the DATA descriptors, newest first. -/
structure Walk where
  bad : Option (BitVec 16) := none
  segs : List Nat := []
  lens : List Nat := []
deriving Inhabited

def Walk.fail (w : Walk) (st : BitVec 16) : Walk := { w with bad := some st }

/-- A DATA descriptor. With `odd` its length need not be a multiple of 4 (log 26). -/
def Walk.data (w : Walk) (d : Desc) (odd : Bool) : Walk :=
  if d.typ = 0 ∧ d.rsvd = 0 ∧ d.addr % 4 = 0 ∧ (odd ∨ d.len % 4 = 0) ∧ 1 ≤ d.len then { w with lens := d.len :: w.lens }
  else w.fail St.invalidDescriptor

def Walk.dataAll (w : Walk) (ds : List Desc) : Walk := ds.foldl (fun w d => if w.bad.isSome then w else w.data d false) w

/-- Walk a list segment and those it chains to; a segment that host memory did not give is a transfer error. -/
def Walk.list (lists : List DescList) (odd : Bool) : Nat → Walk → Nat → Nat → Walk
  | 0, w, _, _ => w.fail St.invalidDescriptor
  | fuel + 1, w, addr, len =>
    if addr % 16 ≠ 0 ∨ len % 16 ≠ 0 ∨ len = 0 ∨ 4096 < len ∨ w.segs.contains addr then w.fail St.invalidDescriptor
    else
      match lists.find? fun l => l.addr.toNat == addr with
      | none => w.fail St.dataTransferError
      | some l =>
        if l.descs.length < len / 16 then w.fail St.dataTransferError
        else
          let ds := (l.descs.take (len / 16)).map descOf
          let w := { w with segs := addr :: w.segs }.dataAll ds.dropLast
          if w.bad.isSome ∨ 4096 < w.lens.length then w.fail (w.bad.getD St.invalidDescriptor)
          else
            match ds.getLast? with
            | none => w.fail St.invalidDescriptor
            | some d => if d.typ = 1 ∧ d.rsvd = 0 then Walk.list lists odd fuel w d.addr d.len else w.data d odd

/-- DPTR0 or DPTR1. -/
def Walk.top (lists : List DescList) (odd : Bool) (w : Walk) (d : Desc) : Walk :=
  if w.bad.isSome then w
  else if d.rsvd ≠ 0 then w.fail St.invalidDescriptor
  else if d.typ = 15 then w
  else if d.typ = 1 then Walk.list lists odd 4096 w d.addr d.len
  else w.data d odd

/-- Check 4: none, or the status (12 R389; 13 R413). -/
def walkDescs (e : BitVec 512) (lists : List DescList) : Option (BitVec 16) :=
  let total := xferLen e
  let d0 := descOf (eDptr e 0)
  let d1 := dptr1 e
  let odd := (eOp e == 0x42 || eOp e == 0x43) && total % 4 != 0
  if total = 0 then
    if d0.typ = 15 ∧ d1.typ = 15 ∧ d0.rsvd = 0 ∧ d1.rsvd = 0 then none else some St.invalidDescriptor
  else if d0.typ = 15 ∨ (d0.typ = 1 ∧ d1.typ ≠ 15) ∨ (eOp e = 0x44 ∧ (d0.typ ≠ 0 ∨ d1.typ ≠ 15)) then some St.invalidDescriptor
  else
    let w := Walk.top lists odd (Walk.top lists odd {} d0) d1
    match w.bad with
    | some st => some st
    | none =>
      let sum := w.lens.sum
      if 4096 < w.lens.length ∨ (w.lens.drop 1).any (fun n => n % 4 != 0) ∨
          !(sum == total || (odd && sum == (total + 3) / 4 * 4)) then some St.invalidDescriptor
      else none

/-! ### Checks 5 to 11 of 13 R402 -/

/-- A check's outcome: status and what the error log says of it. -/
abbrev Fail := BitVec 16 × ErrInfo

/-- The die may be judged now: it is isolated, or in service (20 R575). -/
def State.judged (s : State) (d : DieId) : Bool := s.isolated d || (s.die d).inService

def State.failAt (_s : State) (st : BitVec 16) (d : DieId) (z off : Nat) (detail : Nat) : Fail :=
  (st, { die := some d, lba := some (dieLba d (z * zoneSpan + off)), detail := BitVec.ofNat 32 detail })

/-- Zone statuses carry the zone's state (13 R418). -/
def State.failZone (s : State) (st : BitVec 16) (d : DieId) (z off : Nat) : Fail :=
  s.failAt st d z off (s.zoneState d z).code

/-- Check 5 (09 R269, R270). -/
def State.check5 (s : State) (sl : Slot) : Option Fail :=
  let over_ := fun (r : ZRun) =>
    if s.judged r.die && decide (s.capacity r.die r.zone < r.off + r.count) then
      some (s.failZone St.zoneBoundaryError r.die r.zone (max r.off (s.capacity r.die r.zone)))
    else none
  match (sl.readRuns ++ sl.writeRuns).findSome? over_ with
  | some f => some f
  | none =>
    match sl.writeRuns with
    | a :: b :: _ =>
      if a.die = b.die ∧ s.isConv a.die a.zone ∧ s.isConv b.die b.zone then none
      else some (s.failZone St.zoneBoundaryError b.die b.zone b.off)
    | _ => none

/-- Zones that check 6 asks about: (die, zone, offset); a zone of none is a die alone. -/
def Slot.named (sl : Slot) : List (DieId × Option Nat × Nat) :=
  if blockOp sl.op then
    (sl.readRuns ++ sl.writeRuns).map (fun r => (r.die, some r.zone, r.off)) ++
      if sl.appends then [(lbaDie sl.lba, some sl.zone, 0)] else []
  else if sl.op = 6 then [(lbaDie sl.lba, if sl.zall then none else some sl.zone, 0)]
  else if sl.op = 7 then [(lbaDie sl.lba, none, 0)]
  else if sl.op = 0x4B then [(Fin.ofNat 8 (eVs sl.entry 1 1), none, 0)]
  else []

/-- Check 6. -/
def State.check6 (s : State) (sl : Slot) : Option Fail :=
  sl.named.findSome? fun e =>
    match e.2.1 with
    | none => if s.isolated e.1 then some (St.zoneIsOffline, { die := some e.1, detail := 6 }) else none
    | some z =>
      if s.judged e.1 && s.zoneState e.1 z == .offline then some (s.failZone St.zoneIsOffline e.1 z e.2.2) else none

/-- Zones that a verb writes, with the first offset. -/
def Slot.dests (sl : Slot) : List (DieId × Nat × Nat) :=
  if sl.appends then [(lbaDie sl.lba, sl.zone, 0)] else sl.writeRuns.map fun r => (r.die, r.zone, r.off)

/-- Check 7. -/
def State.check7 (s : State) (sl : Slot) : Option Fail :=
  (sl.dests.filter fun e => s.judged e.1).findSome? fun e =>
    match s.zoneState e.1 e.2.1 with
    | .readOnly => some (s.failZone St.zoneIsReadOnly e.1 e.2.1 e.2.2)
    | .full => some (s.failZone St.zoneIsFull e.1 e.2.1 e.2.2)
    | _ => none

/-- Check 8 (09 R279). -/
def State.check8 (s : State) (sl : Slot) : Option Fail :=
  match sl.dests.filter fun e => s.judged e.1 with
  | [] => none
  | e :: _ =>
    let d := e.1
    let z := e.2.1
    let awp := (s.zone d z).awp
    if s.isConv d z then
      if sl.appends then some (s.failAt St.zoneInvalidWrite d z 0 0xFFFFF) else none
    else if !sl.appends then
      if e.2.2 = awp then none else some (s.failAt St.zoneInvalidWrite d z e.2.2 awp)
    else if s.capacity d z < awp + sl.count then some (s.failZone St.zoneBoundaryError d z awp)
    else none

/-- Check 9 (10 R323, R331). -/
def State.check9 (s : State) (sl : Slot) : Option Fail :=
  (sl.dests.filter fun e => s.judged e.1).findSome? fun e =>
    let k := (s.attrs e.1 (s.zone e.1 e.2.1).top).keyDomain
    let st := (s.keyDom e.1 k).state
    if st = .erased ∨ (st = .unkeyed ∧ s.getB Obj.encryptionRequired (dieInst e.1)) then
      some (s.failAt St.keyNotLoaded e.1 e.2.1 e.2.2 0)
    else none

/-- Worst-case room that a write needs in a sequential zone (09 R284). -/
def State.needRoom (s : State) (sl : Slot) (d : DieId) (z : Nat) : Nat :=
  worstCase (s.attrs d (s.zone d z).top) (s.zone d z).awp sl.count

/-- Check 10 (08 R265; 09 R285): a stale head of the last segment, or of all a draw could take. -/
def State.check10 (s : State) (sl : Slot) : Option Fail :=
  (sl.dests.filter fun e => s.judged e.1).findSome? fun e =>
    let d := e.1
    let z := e.2.1
    let c := (s.zone d z).top
    let fail := some (s.failAt St.calibrationStale d z e.2.2 0)
    if s.isConv d z then if (headsOf (convAct z)).any (s.stale d) then fail else none
    else
      let last := match c.segs.getLast? with
        | some n => s.segHeads d n (s.segAt d n).width
        | none => []
      if 0 < s.room d c ∧ last.any (s.stale d) then fail
      else if s.room d c < s.needRoom sl d z ∧ s.drawChoice d z c true = .stale then fail
      else none

/-- The zone closed implicitly when one more is opened at the limit (09 R277). -/
def State.victim (s : State) (d : DieId) : Option Nat :=
  let zs := (s.die d).data.zones.entries.filter fun e =>
    !(s.isConv d e.1) && e.2.astate == .implicitOpen && !(s.zoneWriting d e.1)
  match zs with
  | [] => none
  | f :: rest => some (rest.foldl (fun m e => if e.2.lastWrite < m.2.lastWrite then e else m) f).1

def State.openFull (s : State) (d : DieId) : Bool := decide (s.getN Obj.maxOpen (dieInst d) ≤ s.openCount d)

/-- A verb that would open a zone: EMPTY or CLOSED before. -/
def State.opensZone (s : State) (d : DieId) (z : Nat) : Bool :=
  !(s.isConv d z) && ((s.zone d z).astate == .empty || (s.zone d z).astate == .closed)

/-- Check 11 (09 R277). -/
def State.check11 (s : State) (sl : Slot) : Option Fail :=
  let d := lbaDie sl.lba
  if !(s.judged d) then none
  else if sl.op = 6 ∧ sl.zact = 1 ∧ s.opensZone d sl.zone ∧ s.openFull d then
    some (s.failZone St.tooManyOpenZones d sl.zone 0)
  else
    match sl.dests with
    | e :: _ =>
      if s.opensZone e.1 e.2.1 && s.openFull e.1 && (s.victim e.1).isNone then
        some (s.failZone St.tooManyOpenZones e.1 e.2.1 e.2.2)
      else none
    | [] => none

/-- Verbs that need READY (13 R414). -/
def needsReady (op : Nat) : Bool := op == 0x48 || op == 0x49 || op == 0x4A || op == 0x4B

/-- The first check of 13 R402 that fails. -/
def State.firstFail (s : State) (sl : Slot) : Option Fail :=
  let e := sl.entry
  let op := sl.op
  let walk := walkDescs e sl.lists
  if !(opKnown sl.sq op) then some (St.invalidOpcode, {})
  else if !(reservedOk e && commonOk e && ioRange e && s.adminRange e && s.lbasFit e) ||
      (op == 8 && walk.isNone && !(s.sourcesOk e sl.src)) then some (St.invalidField, {})
  else if needsReady op && !s.host.ready then some (St.notReady, {})
  else
    match walk with
    | some st => some (st, {})
    | none =>
      (s.check5 sl).orElse fun _ => (s.check6 sl).orElse fun _ => (s.check7 sl).orElse fun _ =>
        (s.check8 sl).orElse fun _ => (s.check9 sl).orElse fun _ => (s.check10 sl).orElse fun _ => s.check11 sl

/-! ### Parts and what they reserve (01 R22; 11 R338, R339) -/

/-- Dies that run a verb, in number order (13 R400). -/
def State.verbDies (s : State) (sl : Slot) : List DieId :=
  let in_ := fun (ds : List DieId) => (List.finRange 8).filter fun d => ds.contains d
  match sl.op with
  | 1 | 5 => in_ (sl.readRuns.map (·.die))
  | 2 | 3 | 6 | 7 => [lbaDie sl.lba]
  | 4 => if eVs sl.entry 0 1 % 2 = 1 then [lbaDie sl.lba] else s.fittedDies.filter fun d => !(s.isolated d)
  | 8 => in_ (lbaDie sl.lba :: sl.readRuns.map (·.die))
  | 0x41 => if eVs sl.entry 0 1 = 1 then [0] else [Fin.ofNat 8 (eVs sl.entry 1 1)]
  | 0x4A => if eVs sl.entry 0 1 = 2 then s.fittedDies else [Fin.ofNat 8 (eVs sl.entry 1 1)]
  | 0x4B => [Fin.ofNat 8 (eVs sl.entry 1 1)]
  | _ => [0]

/-- Window of a verb: min(transfer length, READ_WINDOW_KIB) (11 R338). -/
def State.windowOf (s : State) (sl : Slot) : Nat :=
  let w := s.getN Obj.readWindowKib 0 * 1024
  if sl.op = 8 then min (4096 * sl.count) w
  else if sl.op = 1 ∨ sl.op = 2 ∨ sl.op = 3 ∨ sl.op = 7 then min (xferLen sl.entry) w
  else 0

/-- The write may be admitted as write-back: budget, headroom shown, writing limit (09 R278; 11 R340, R348). -/
def State.asWriteBack (s : State) (sl : Slot) : Bool :=
  let d := lbaDie sl.lba
  let n := 4096 * sl.count
  let z := sl.zone
  let coming := (((s.comingWrites d).filter fun x => !x.writeThrough).map (·.cacheBytes)).sum
  s.writeBackFits d (n + coming) && decide (n ≤ (s.die d).mirror.dirtyBytes) &&
    (s.isConv d z || s.zoneWriting d z || decide ((s.writingZones d).length < s.getN Obj.maxWriting (dieInst d)))

/-- Every resource of 11 R339 but zone room is there. -/
def State.reserves (s : State) (sl : Slot) (ds : List DieId) : Bool :=
  let w := s.windowOf sl
  let live := ds.filter fun d => !(s.isolated d)
  let slots := live.all fun d => !(sl.takesSlot d) || decide (1 ≤ (s.die d).mirror.slots)
  let egress := live.all fun d => !(sl.egressOn d) || decide (w ≤ (s.die d).mirror.egress)
  let sl' := { sl with parts := ds.map fun d => { die := d } }
  let ingress := !sl'.ingress || decide (w ≤ (s.die 0).mirror.ingress)
  let jour := live.all fun d => decide (s.recordNeed sl ≤ (s.die d).mirror.journalBytes)
  let write := !(writeOp sl.op) || (decide (4096 * sl.count ≤ (s.die (lbaDie sl.lba)).mirror.cacheBytes) &&
    (s.asWriteBack sl || eFua sl.entry))
  slots && egress && ingress && jour && write

/-- Verbs to a zone wait while its domain is under erase or a COPY holds it (10 R328; 13 R412); writes also while a KEY
LOAD of the die is in hand. -/
def State.zoneHeld (s : State) (sl : Slot) : Bool :=
  let erasing := fun (d : DieId) (z : Nat) =>
    let k := (s.attrs d (s.zone d z).top).keyDomain
    (s.die d).data.erasing.any fun e => e.1 == k
  let held := fun (d : DieId) (z : Nat) => (s.zone d z).heldBy.isSome
  let keys := fun (d : DieId) => s.slots.entries.any fun e => e.2.op == 0x4B && e.2.fixed.isNone && !e.2.decided &&
    e.2.parts.any fun p => p.die == d
  sl.readRuns.any (fun r => erasing r.die r.zone) ||
    sl.dests.any (fun e => erasing e.1 e.2.1 || held e.1 e.2.1 || keys e.1) ||
    (sl.op == 6 && let d := lbaDie sl.lba
      if sl.zall then !(s.die d).data.erasing.isEmpty || (s.die d).data.zones.keys.any (held d)
      else erasing d sl.zone || ((sl.zact == 3 || sl.zact == 4) && held d sl.zone)) ||
    (sl.op == 7 && !(s.die (lbaDie sl.lba)).data.erasing.isEmpty) ||
    (sl.op == 4 && eVs sl.entry 0 1 % 2 == 1 && erasing (lbaDie sl.lba) sl.zone)

/-- The die takes no reads or no writes now: thermal state, power failure (11 R362; 18 R541, R542). -/
def State.dieHeld (s : State) (sl : Slot) (d : DieId) : Bool :=
  let x := s.die d
  let hot := x.hk.state == .shutdown && blockOp sl.op
  let stop := x.hk.state == .stopWrites && writeOp sl.op && lbaDie sl.lba == d
  hot || stop || (x.data.pfail.isSome && sl.takesSlot d)

/-- The verb must stay at its queue's head (11 R339; 20 R575). -/
def State.mustWait (s : State) (sl : Slot) : Bool :=
  let ds := s.verbDies sl
  ds.any (fun d => (sl.takesSlot d && !(s.judged d)) || s.dieHeld sl d) || s.zoneHeld sl || !(s.reserves sl ds)

/-! ### Taking a verb in (11 R339, R340; 12 R381) -/

/-- A zone becomes FULL with a FINISH_REASON (09 R275 rows 10 and 11). -/
def State.zoneFill (s : State) (d : DieId) (z reason : Nat) (back : Bool) : State :=
  let v := s.zone d z
  let c := v.desc.content
  let gone := if back then s.emptySegs d c else []
  let keep := c.segs.filter fun n => !(gone.contains n)
  let desc : ZDesc := { v.desc with state := .full, finishReason := reason, content := { c with segs := keep } }
  let last := match keep.getLast? with
    | some p => if gone.isEmpty then [] else [JItem.seg p { s.segAt d p with next := 2097151 }]
    | none => []
  let s := s.journal d 0 (.zone z desc :: last ++ s.returnItems d gone)
  s.modZone d z fun v => { v with astate := .full, short := true }

/-- Close a zone implicitly before another opens (09 R277). -/
def State.implicitClose (s : State) (d : DieId) (z : Nat) : State :=
  if s.opensZone d z && s.openFull d then
    match s.victim d with
    | none => s
    | some v =>
      match (s.zone d v).doClose with
      | .changed w =>
        let s := s.putZone d v w
        if w.resets.isEmpty then s.journal d 0 [.zone v { w.desc with state := w.astate }] else s
      | _ => s
  else s

/-- Admission effects of a write on its sequential zone (09 R272, R275, R279, R284). -/
def State.writeTake (s : State) (sl : Slot) (d : DieId) (z : Nat) : State :=
  if s.isConv d z then s
  else
    let need := s.needRoom sl d z
    let s := s.implicitClose d z
    s.modZone d z fun v =>
      let c := s.attrs d v.top
      let awp := v.awp + sl.count
      let st := if c.capacity ≤ awp then ZState.full
        else if v.astate = .empty ∨ v.astate = .closed then ZState.implicitOpen else v.astate
      let v := v.modTop fun _ => { c with fixed := true, reserved := c.reserved + need }
      { v with astate := st, awp := awp, lastWrite := sl.asn, heldBy := if sl.op = 8 then some sl.asn else v.heldBy }

/-- The verb's service needs die d's media (20 R578). -/
def State.needsMedia (s : State) (sl : Slot) (d : DieId) : Bool :=
  let medium := fun (b : Nat) => match s.blockView d sl.asn b (eFua sl.entry) with
    | .medium _ _ => true
    | _ => false
  let reads := (sl.readRuns.filter fun r => r.die == d).any fun r =>
    (List.range' (r.zone * zoneSpan + r.off) r.count).any medium
  match sl.op with
  | 1 => reads
  | 5 => true
  | 8 => reads || (lbaDie sl.lba == d && sl.writeThrough)
  | 2 | 3 => sl.writeThrough
  | 4 => decide (dirtyBytes (s.die d).data ≠ 0)
  | _ => false

/-- The cache-hit hardware path takes the verb (12 R396). -/
def State.isFast (s : State) (sl : Slot) : Bool :=
  let d := lbaDie sl.lba
  let b := lbaBlock sl.lba
  sl.op == 1 && eNlb sl.entry == 0 && !(eFua sl.entry) && (descOf (eDptr sl.entry 0)).typ == 0 &&
    (dptr1 sl.entry).typ == 15 && !(s.blockHeld d sl.asn b) &&
    match s.blockView d sl.asn b false with
    | .cache _ => true
    | _ => false

/-- Reserve for a verb (11 R339, R340). -/
def State.reserve (s : State) (sl : Slot) : State :=
  let w := sl.window
  let s := sl.parts.foldl (fun s p =>
    if s.isolated p.die then s
    else
      let need := s.recordNeed sl
      let cache := if writeOp sl.op ∧ lbaDie sl.lba = p.die then sl.cacheBytes else 0
      s.modDie p.die fun x =>
        { x with mirror := { x.mirror with
            slots := if sl.takesSlot p.die then x.mirror.slots - 1 else x.mirror.slots
            egress := if sl.egressOn p.die then x.mirror.egress - w else x.mirror.egress
            cacheBytes := x.mirror.cacheBytes - cache
            dirtyBytes := if sl.writeThrough then x.mirror.dirtyBytes else x.mirror.dirtyBytes - cache
            journalBytes := x.mirror.journalBytes - need } }) s
  if sl.ingress then s.modDie 0 fun x => { x with mirror := { x.mirror with ingress := x.mirror.ingress - w } } else s

/-- Hand a verb's parts to their dies; the anchor's own part is there at once, an isolated die's has ended (01 R22, R36;
13 R407, R425; 19 R559). -/
def State.dispatch (s : State) (sl : Slot) : State :=
  sl.parts.foldl (fun s p =>
    let d := p.die
    if s.isolated d && d.val != 0 || s.isolated d && sl.takesSlot d then
      (s.modPart sl.asn d fun p => { p with status := St.dieIsolated }).deliver sl.asn d
    else
      let s := if s.needsMedia sl d then s.wake d else s
      if d.val = 0 then
        let s := (s.modPart sl.asn d fun p => { p with received := true }).stage sl.asn d 3
        let s := if sl.takesSlot d then s.modData d fun x => { x with dispatch := x.dispatch ++ [sl.asn] } else s
        s.count d 0x0A1
      else s.send 0 d 0x01 sl.asn) s

/-- The entry leaves its queue with an ASN (12 R381, R390; 19 R558). -/
def State.takeEntry (s : State) (sl : Slot) : State :=
  let q := sl.sq
  let s := { s with
    asn := s.asn + 1
    waiters := s.waiters.filter fun w => w.1 != q
    sqs := match s.sqs.find? q with
      | some x => s.sqs.insert q { x with
          head := (x.head + 1) % max 1 x.size, headWaiting := false, attemptTime := 0, drawWait := none, drawFailed := none }
      | none => s.sqs }
  let x := lfsrNext s.lfsr
  let k := s.getN Obj.traceK 0
  let tag := decide (k ≤ 20) && x.toNat % 2 ^ k == 0
  let now := s.now
  let st := setStage (setStage (setStage [] 0 sl.attemptTime) 1 now) 2 now
  let sl := { sl with traced := tag, admitTime := now, stages := if tag then st else [] }
  { s with lfsr := x, slots := s.slots.insert sl.asn sl }.count 0 0x0A0

/-- Admit an entry that fails a check: it completes and changes nothing (12 R387; 13 R402). -/
def State.admitFail (s : State) (sl : Slot) (f : Fail) : State :=
  let sl := { sl with fixed := some f.1, parts := [] }
  (s.takeEntry sl).reject sl.asn f.1 f.2

/-- Admit an entry (11 R339; 12 R381). -/
def State.admitOk (s : State) (sl : Slot) : State :=
  let ds := s.verbDies sl
  let d := lbaDie sl.lba
  let z := sl.zone
  let v := s.zone d z
  let lba := if sl.appends then dieLba d (z * zoneSpan + v.awp) else sl.lba
  let wt := writeOp sl.op && !(s.asWriteBack sl)
  let saved := if sl.op = 0x4D then ((s.sqs.find? (eVs sl.entry 0 2)).map (·.tail)).getD 0 else v.awp
  let sl := { sl with
    lba := lba, parts := ds.map fun d => { die := d }, writeThrough := wt, window := s.windowOf sl
    cacheBytes := if writeOp sl.op then 4096 * sl.count else 0, savedAwp := saved, fastPath := s.isFast sl }
  let s := (s.takeEntry sl).reserve sl
  let s := if writeOp sl.op then s.writeTake sl d z else s
  let s := if sl.fastPath then (s.bump Obj.fastPathCount 0).count 0 0x0A4 else s
  let s := s.dispatch sl
  let s := (s.zoneTake sl.asn).reportTake sl.asn
  let s := s.sanitizeTake sl.asn
  if ds.isEmpty then s.settleVerb sl.asn St.success 0 {} else s

/-- A refused attempt: the entry stays at the head and waits (11 R341). -/
def State.admitWait (s : State) (q : Nat) : State :=
  match s.sqs.find? q with
  | none => s
  | some x =>
    let s := if x.headWaiting then s
      else
        let now := s.now
        ({ s with waiters := s.waiters ++ [(q, now)] }.bump Obj.admissionWaits 0).count 0 0x0A3
    { s with sqs := match s.sqs.find? q with
        | some y => s.sqs.insert q { y with headWaiting := true }
        | none => s.sqs }

/-- A zone at the writing limit makes the oldest writing zone store its partial husk short (09 R278). -/
def State.pushOldest (s : State) (sl : Slot) : State :=
  let d := lbaDie sl.lba
  let z := sl.zone
  if writeOp sl.op && s.judged d && !(s.isConv d z) && !(s.zoneWriting d z) &&
      decide (s.getN Obj.maxWriting (dieInst d) ≤ (s.writingZones d).length) then
    let old := (s.writingZones d).foldl (fun m y => match m with
      | none => some y
      | some k => if (s.zone d y).lastWrite < (s.zone d k).lastWrite then some y else some k) none
    match old with
    | some y => s.modZone d y fun v => { v with short := true }
    | none => s
  else s

/-- The front end fetches from a queue; a DELETE QUEUE stops that at its ASN (11 R362; 12 R376, R381, R394; 17 R518; 20 R571). -/
def State.fetches (s : State) (q : Nat) : Bool :=
  let h := s.host
  match s.sqs.find? q with
  | none => false
  | some x =>
    (if q = 0 then h.adminReady else h.ready) && h.shutdown == 0 && !h.d3hot && !h.fatal && !h.inReset &&
      s.warm.isNone && (s.die 0).data.pfail.isNone && x.state == .running && !x.deleting && x.head != x.tail &&
      !(s.slots.entries.any fun e => e.2.op == 0x45 && eVs e.2.entry 2 1 == 0 && eVs e.2.entry 0 2 == q && !e.2.decided)

/-- The queue's head entry needs a segment drawn (11 R340). -/
def State.askDraw (s : State) (q : Nat) (d : DieId) (z need : Nat) : State :=
  { s with sqs := match s.sqs.find? q with
      | some x => s.sqs.insert q { x with drawWait := some (d, z, need) }
      | none => s.sqs }

/-- STREAM_END would pass 6 GiB (09 R275 row 11). -/
def State.streamOver (s : State) (d : DieId) (z need : Nat) : Bool :=
  let c := (s.zone d z).top
  decide (6442450944 < c.streamEnd * 16 + c.reserved + need)

/-- Try to admit the head entry of a queue (11 R339 to R341; 13 R402). -/
def State.tryAdmit (s : State) (q : Nat) (x : Sq) (entry : BitVec 512) (lists : List DescList) (src : List (BitVec 128)) : State :=
  let s := (s.slots.keys.foldl (fun s a => s.sanitizeTake a) s.zonesCatchUp)
  let t := if x.headWaiting then x.attemptTime else s.now
  let s := { s with
    offer := none, sqs := s.sqs.insert q { x with attemptTime := t, drawWait := none } }
  let sl : Slot := { asn := s.asn, sq := q, entry, lists, src, parts := [], lba := eLba entry, attemptTime := t }
  if 65536 ≤ s.slots.size then s.admitWait q
  else
    let d := lbaDie sl.lba
    let z := sl.zone
    match x.drawFailed with
    | some st => s.admitFail sl (s.failZone st d z (s.zone d z).awp)
    | none =>
      match s.firstFail sl with
      | some f => s.admitFail sl f
      | none =>
        if s.mustWait sl then (s.pushOldest sl).admitWait q
        else if writeOp sl.op && !(s.isConv d z) then
          let need := s.needRoom sl d z
          if s.streamOver d z need then
            if (s.zone d z).resets.isEmpty then (s.zoneFill d z 4 false).admitFail sl (s.failAt St.zoneIsFull d z (s.zone d z).awp 4)
            else s.admitWait q
          else if s.room d (s.zone d z).top < need then (s.askDraw q d z need).admitWait q
          else s.admitOk sl
        else s.admitOk sl

/-- ADMIT_VERB (11 R339, R341; 12 R381): the front end tries the head entry of queue q, which it reads as `entry`, with
the list segments of its descriptors and the source list of a COPY. Freed resources go to the queue they are offered to
first. -/
def execAdmitVerb (q : Nat) (entry : BitVec 512) (lists : List DescList) (src : List (BitVec 128)) (s : State) : Res :=
  .next <|
    match s.sqs.find? q with
    | none => s
    | some x =>
      let other := match s.offer with
        | some o => o != q && s.fetches o
        | none => false
      if s.fetches q && !other then s.tryAdmit q x entry lists src else s

/-! ### Segment draws (09 R284, R285; 11 R340) -/

/-- Draw segments until the room is covered; the status of a draw that failed. `fuel` bounds the draws. -/
def State.drawRoom (s : State) (d : DieId) (z need : Nat) : Nat → State × Option (BitVec 16)
  | 0 => (s, none)
  | fuel + 1 =>
    let v := s.zone d z
    if need ≤ s.room d v.top then (s, none)
    else
      match s.drawChoice d z v.top true with
      | .seg n a => (s.takeSegment d z n a).drawRoom d z need fuel
      | .stale => (s, some St.calibrationStale)
      | .exhausted => (s, some St.zoneFullByExhaustion)

/-- The zone is finished by exhaustion (09 R275 row 10, R284). -/
def State.exhaust (s : State) (d : DieId) (z : Nat) : State :=
  ((s.zoneFill d z 3 true).bump Obj.exhaustionCount (dieInst d)).raise d Ev.zoneExhausted

def State.setDrawFailed (s : State) (q : Nat) (st : BitVec 16) : State :=
  { s with sqs := match s.sqs.find? q with
      | some x => s.sqs.insert q { x with drawWait := none, drawFailed := some st }
      | none => s.sqs }

/-- SEGMENT_DRAW_REQUEST (09 R284, R285; 11 R340): the die that queue q's head entry waits for draws, or waits itself
while reservations of the zone or an earlier RESET are unsettled. -/
def execSegmentDrawRequest (q : Nat) (s : State) : Res :=
  .next <|
    match (s.sqs.find? q).bind (·.drawWait) with
    | none => s
    | some (d, z, need) =>
      let r := s.drawRoom d z need 65536
      match r.2 with
      | none =>
        { r.1 with sqs := match r.1.sqs.find? q with
            | some x => r.1.sqs.insert q { x with drawWait := none }
            | none => r.1.sqs }
      | some st =>
        let v := r.1.zone d z
        if st = St.zoneFullByExhaustion then
          if v.top.reserved ≠ 0 ∨ !v.resets.isEmpty then r.1 else (r.1.exhaust d z).setDrawFailed q st
        else r.1.setDrawFailed q st

/-! ### Allowances and releases (11 R340 to R342) -/

/-- Freed resources are offered to the head entry that has waited longest (11 R341). -/
def State.freed (s : State) : State :=
  { s with offer := (s.waiters.find? fun w => s.fetches w.1).map (·.1) }

/-- Add to one count of the mirror, no further than what the die has free (11 R340). -/
def Mirror.add (m free : Mirror) (k : Allowance) (n : Nat) : Mirror :=
  match k with
  | .dispatchSlots => { m with slots := min free.slots (m.slots + n) }
  | .cacheBytes => { m with cacheBytes := min free.cacheBytes (m.cacheBytes + n) }
  | .dirtyBytes => { m with dirtyBytes := min free.dirtyBytes (m.dirtyBytes + n) }
  | .journalBytes => { m with journalBytes := min free.journalBytes (m.journalBytes + n) }
  | .ingressBytes => { m with ingress := min 8388608 (m.ingress + n) }
  | .egressBytes => { m with egress := min free.egress (m.egress + n) }

def State.allow (s : State) (d : DieId) (k : Allowance) (n : Nat) : State :=
  let free := s.dieFree d
  if (s.die d).inService then (s.modDie d fun x => { x with mirror := x.mirror.add free k n }).freed else s

/-- ALLOWANCE_UPDATE (11 R340; 01 R36 opcode 0x25): an allowance message of die d reaches the anchor. -/
def execAllowanceUpdate (d : DieId) (kind : Allowance) (amount : Nat) (s : State) : Res :=
  onDie d s fun s => (s.send d 0 0x25 amount).allow d kind amount

/-- Clean versions that may be evicted (11 R342, R358). -/
def evictClean (n : Nat) (m : KMap (List CacheVer)) : KMap (List CacheVer) :=
  let r := m.entries.foldl (fun (acc : List (Nat × List CacheVer) × Nat) e =>
    let clean := (e.2.filter fun v => !v.dirty && !v.staging).length
    if acc.2 = 0 ∨ clean = 0 then (e :: acc.1, acc.2)
    else
      let rest := e.2.filter fun v => v.dirty || v.staging
      (if rest.isEmpty then acc.1 else (e.1, rest) :: acc.1, acc.2 - min acc.2 clean)) ([], n)
  ⟨r.1.reverse⟩

/-- RESOURCE_RELEASE (11 R341, R342): a resource comes free; write-cache bytes by the eviction of clean blocks. -/
def execResourceRelease (d : DieId) (kind : Allowance) (amount : Nat) (s : State) : Res :=
  onDie d s fun s =>
    let s := if kind = .cacheBytes then s.modData d fun x => { x with wc := evictClean ((amount + 4095) / 4096) x.wc } else s
    s.allow d kind amount

end Sys2Proof.Machine
end

