-- ==== Sys2Proof/Machine/Track.lean ====
section
/-! DEFINITION. Track following, seeks, write permission, assist grants (05 R135 to R165; 07 R223 to R228). -/

namespace Sys2Proof.Machine

/-! ### The control law (05 R139) -/

def q30 (n : Int) : Rat := (n : Rat) / 1073741824

/-- The integrator's bound (05 R139). -/
def LoopCoeff.sMax (c : LoopCoeff) : Rat := if c.ki = 0 then 0 else (c.intLimit : Rat) * 4294967296 / c.ki

/-- One biquad, direct form II transposed (05 R139). -/
def biquad (c : List Int) (z : Rat × Rat) (x : Rat) : Rat × (Rat × Rat) :=
  let k := fun i => q30 (c.getD i 0)
  let y := k 0 * x + z.1
  (y, (k 1 * x - k 3 * y + z.2, k 2 * x - k 4 * y))

/-- The biquads in use, in order, with their states. -/
def biquads (c : LoopCoeff) : Nat → List (Rat × Rat) → Rat → Rat × List (Rat × Rat)
  | 0, _, x => (x, [])
  | n + 1, zs, x =>
    let j := c.nbiq - (n + 1)
    let r := biquad (c.biquads.getD j []) (zs.headD (0, 0)) x
    let t := biquads c n (zs.drop 1) r.1
    (t.1, r.2 :: t.2)

def ratSign (x : Rat) : Int := if x < 0 then -1 else if 0 < x then 1 else 0

/-- The feedback part: integrator, proportional term, biquads (05 R139). -/
structure Feedback where
  st : LoopState
  u : Rat
deriving Repr

def feedback (c : LoopCoeff) (st : LoopState) (e : Rat) (integrating noP : Bool) : Feedback :=
  let g : Nat := c.lut.getD (min 255 ((ratAbs e).floor.toNat / 2 ^ c.lutShift)) 0
  let p : Rat := if noP then 0 else ratClamp c.pLimit (((g : Rat) * e / 4096).floor : Rat)
  let s := if integrating && !(st.awHold && ratSign e == ratSign st.uPrev) then st.s + e else st.s
  let s := ratClamp c.sMax s
  let v := p + (c.ki : Rat) / 4294967296 * s
  let r := biquads c c.nbiq st.z v
  ⟨{ st with s := s, z := r.2 }, r.1⟩

/-- The output part: feed-forward, limit, anti-windup (05 R139). -/
def outputPart (c : LoopCoeff) (f : Feedback) (x0 x1 aRef : Rat) : LoopState × Rat :=
  let u := f.u + q30 c.kff0 * x0 + q30 c.kff1 * x1 + (c.kaff : Rat) / 65536 * aRef
  let out := ratClamp c.uLimit u
  ({ f.st with
      awHold := decide (u ≠ out), uPrev := u
      sat := decide (u ≠ out) || decide (ratAbs f.st.s = c.sMax) },
   out)

/-! ### Errors (05 R137) -/

def Actuator.coeff (x : Actuator) : CoeffSet := if x.bank then x.bank1 else x.bank0

def Actuator.vcmCoeff (x : Actuator) : LoopCoeff := x.coeff.loops.getD 0 {}

def Actuator.maCoeff (x : Actuator) (h : HeadId) : LoopCoeff := x.coeff.loops.getD (1 + h.val % 12) {}

/-- t_mean in LSB; none when in_mean is empty. -/
def State.tMean (s : State) (d : DieId) (a : Act) : Option Rat :=
  let x := s.die d
  let w := fun (h : HeadId) => (((x.act a).coeff.weights.getD (h.val % 12) 0 : Nat) : Rat)
  let hs := s.inMean d a
  let sum := (hs.map w).foldl (· + ·) 0
  if hs.isEmpty then none
  else some ((hs.map fun h => w h * 4096 * (x.head h).target).foldl (· + ·) 0 / sum)

/-- The arm target in tracks: the mean of 05 R137, or the plain mean of the live heads' targets while in_mean is
empty. -/
def State.armTarget (s : State) (d : DieId) (a : Act) : Rat :=
  match s.tMean d a with
  | some t => t / 4096
  | none => ratMean (((s.die d).liveHeads a).map fun h => (((s.die d).head h).target : Rat))

/-- e_v of the wedge (05 R137). -/
def State.vcmError (s : State) (d : DieId) (a : Act) : Rat :=
  let x := s.die d
  let y := x.act a
  let w := fun (h : HeadId) => ((y.coeff.weights.getD (h.val % 12) 0 : Nat) : Rat)
  let hs := s.inMean d a
  match s.tMean d a with
  | none => y.ev
  | some t =>
    let sum := (hs.map w).foldl (· + ·) 0
    let ma := fun (h : HeadId) => s.getQ Obj.maGain (headInst d h) * (x.head h).maCmd
    let r := if y.state = .seeking then y.r * 4096 else t
    (hs.map fun h => w h * ((recordPes (x.head h).record : Rat) - ma h)).foldl (· + ·) 0 / sum + (t - r)

/-! ### The profile generator (05 R154, R155) -/

/-- The highest speed from which a stop ends within d tracks (05 R155). -/
def vAllow (aMax jMax d : Rat) : Rat :=
  if d < aMax ^ 3 / jMax ^ 2 then Config.cbrt (d ^ 2 * jMax)
  else (Config.sqrt (aMax ^ 4 / jMax ^ 2 + 8 * aMax * d) - aMax ^ 2 / jMax) / 2

/-- Distance of a stop from speed v that starts at zero acceleration: the inverse of v_allow (05 R155, R159 row 2). -/
def stopDistance (aMax jMax v : Rat) : Rat :=
  let u := ratAbs v
  let dist := if u < aMax ^ 2 / jMax then Config.sqrt (u ^ 3 / jMax) else u ^ 2 / (2 * aMax) + u * aMax / (2 * jMax)
  if v < 0 then -dist else dist

/-- One wedge of the generator; true when the seek ends (05 R155). -/
def Actuator.advance (y : Actuator) (t vMax aMax jMax : Rat) : Actuator × Bool :=
  let x := t - y.r
  if ratAbs x ≤ 1 / 64 ∧ ratAbs y.v ≤ 1 / 64 ∧ ratAbs y.a ≤ jMax then ({ y with r := t, v := 0, a := 0 }, true)
  else
    let vCmd := (ratSign x : Rat) * min vMax (vAllow aMax jMax (ratAbs x))
    let aCmd := ratClamp aMax (vCmd - y.v)
    let a := y.a + ratClamp jMax (aCmd - y.a)
    let v := ratClamp vMax (y.v + a)
    ({ y with a := a, v := v, r := y.r + v }, false)

/-! ### Records not delivered by C(k) (04 R132) -/

def State.collectRecords (s : State) (d : DieId) : State :=
  (allHeads.filter fun h => ((s.die d).head h).live && !((s.die d).head h).delivered).foldl
    (fun s h =>
      ((s.missWedge d h false false).bump Obj.lateCount (headInst d h)).modHead d h fun x =>
        { x with samFound := false, grayRun := 0, grayInvalid := false })
    s

/-! ### Actuator states in a wedge (05 R159 rows 2, 4, 8, 14) -/

/-- Entry to SETTLING: every microactuator loop restarts from zero stroke (05 R138). -/
def State.settle (s : State) (d : DieId) (a : Act) : State :=
  let s := (headsOf a).foldl (fun s h => s.modHead d h fun x => { x with loop := {}, maCmd := 0, maNext := 0 }) s
  s.modAct d a fun y => { y with state := .settling, settleRun := 0, settleWedges := 0 }

/-- Row 2: a VALID record on a live head in two consecutive wedges ends LOADING. -/
def State.loaded (s : State) (d : DieId) (a : Act) : State :=
  let x := s.die d
  match (x.liveHeads a).find? fun h => decide (2 ≤ (x.head h).validRun) with
  | none => s
  | some h0 =>
    let i := actInst d a
    let y := x.head h0
    let v : Rat := ((y.x1 - y.x2 : Int) : Rat) / 4096
    let dist := stopDistance (s.getQ Obj.aMax i) (s.getQ Obj.jMax i) v
    let s := (x.liveHeads a).foldl (fun s h =>
      s.modHead d h fun z => { z with target := (roundNear ((z.x1 : Rat) / 4096 + dist)).toNat }) s
    (s.modAct d a fun z => { z with state := .seeking, v := v, a := 0, r := (y.x1 : Rat) / 4096 }).calRecheck d

/-- What the records of a wedge do to an actuator's state and generator. -/
def State.actWedge (s : State) (d : DieId) (a : Act) : State :=
  let i := actInst d a
  let x := s.die d
  let y := x.act a
  let live := x.liveHeads a
  let noSam := if live.any fun h => (x.head h).samFound then 0 else y.noSam + 1
  let s := s.modAct d a fun y => { y with noSam := noSam }
  match y.state with
  | .loading => s.loaded d a
  | .seeking =>
    let r := ((s.die d).act a).advance (s.armTarget d a) (s.getQ Obj.vMax i) (s.getQ Obj.aMax i) (s.getQ Obj.jMax i)
    let s := s.modAct d a fun _ => r.1
    if r.2 then s.settle d a else s
  | .unloading =>
    let r := ((s.die d).act a).advance (s.armTarget d a) (s.getQ Obj.vUnload i) (s.getQ Obj.aMax i) (s.getQ Obj.jMax i)
    let s := s.modAct d a fun _ => r.1
    if (r.1.r ≤ 16 ∧ 2 ≤ noSam) ∨ r.1.r ≤ 0 then s.retract d a .unload else s
  | .settling | .tracking => s.modAct d a fun y => { y with r := s.armTarget d a }
  | .recovering => s.recoverDone d a
  | .parked | .retracting | .fault => s

/-- Error of the wedge, the counts of SETTLING, and row 8. -/
def State.actError (s : State) (d : DieId) (a : Act) : State :=
  let e := s.vcmError d a
  let lim : Rat := s.get Obj.wpEntryLimit (dieInst d)
  let s := s.modAct d a fun y =>
    { y with
      ev := e
      settleRun := if y.state = .settling then (if ratAbs e ≤ lim then y.settleRun + 1 else 0) else 0
      settleWedges := if y.state = .settling then y.settleWedges + 1 else 0 }
  if ((s.die d).act a).state = .tracking ∧ 2048 < ratAbs e then
    (((s.dropPermits d (headsOf a)).modAct d a fun y =>
      { y with state := .settling, settleRun := 0, settleWedges := 0 }).settle d a).calRecheck d
  else s

/-! ### Outputs -/

def Actuator.running (y : Actuator) : Bool := !(y.state == .parked || y.state == .fault)

def Actuator.integrating (y : Actuator) : Bool := y.state == .settling || y.state == .tracking

/-- x_other as the other actuator's state gives it, from its feedback part (05 R140). -/
def State.otherU (s : State) (d : DieId) (b : Act) (u : Rat) : Rat :=
  match ((s.die d).act b).state with
  | .parked | .fault => 0
  | .loading => (fullScale (s.getQ Obj.loadCurrent (actInst d b)) : Rat)
  | .retracting => -(fullScale (s.getQ Obj.retractCurrent (actInst d b)) : Rat)
  | _ => u

/-- The VCM feedback part of an actuator. -/
def State.vcmFeedback (s : State) (d : DieId) (a : Act) : State :=
  let y := (s.die d).act a
  if y.running then
    let noP := decide (y.state = .recovering) && (s.inMean d a).isEmpty
    let f := feedback y.vcmCoeff y.loop y.ev y.integrating noP
    s.modAct d a fun y => { y with loop := f.st, uFbPrev := y.uFb, uFb := f.u }
  else s.modAct d a fun y => { y with uFbPrev := y.uFb, uFb := 0 }

/-- Wedge number since stamp 0, which times an injection (08 R252). -/
def Die.wedgeNo (x : Die) : Nat := x.clock.rev * x.clock.table.length + x.clock.wedge

/-- Counts that a running VCM_TORQUE adds to the VCM output (08 R253). -/
def State.vcmInjection (s : State) (d : DieId) (a : Act) : Rat :=
  match (s.die d).calRuns.find? (actInst d a) with
  | some r =>
    if r.kind = 6 ∧ !r.paused then
      1000 * Config.sine ((s.get Obj.vcmXoverHz (actInst d a) : Rat) * s.timeNs d / 1000000000)
    else 0
  | none => 0

/-- Counts that a running MA_GAIN puts on a head's microactuator in place of its loop (08 R252). -/
def State.maInjection (s : State) (d : DieId) (h : HeadId) : Option Rat :=
  let x := s.die d
  if x.calRuns.entries.any fun e => e.2.kind == 5 && !e.2.paused && e.2.heads.contains h &&
      !(e.2.outcomes.any fun o => o.1 == h) then
    some ((s.get Obj.maCalCounts (dieInst d) : Rat) *
      Config.sine ((1 + (h.val % 12 : Nat) / 16) / 24 * (x.wedgeNo : Rat)))
  else none

/-- The VCM output of an actuator for the next wedge (05 R139 to R142). -/
def State.vcmOutput (s : State) (d : DieId) (a : Act) : State :=
  let y := (s.die d).act a
  if y.running then
    let b := (s.die d).act (Act.other a)
    let c := y.vcmCoeff
    let aRef := if y.state = .seeking then y.a else 0
    let r := outputPart c ⟨y.loop, y.uFb⟩ (s.otherU d (Act.other a) b.uFb) (s.otherU d (Act.other a) b.uFbPrev) aRef
    let out := ratClamp c.uLimit (r.2 * s.getQ Obj.vcmGainTrim (actInst d a) + s.vcmInjection d a)
    s.modAct d a fun y => { y with loop := r.1, vcmNext := Config.round out }
  else s.modAct d a fun y => { y with vcmNext := 0 }

/-- Toward zero stroke by 2,048 counts (05 R138). -/
def rampDown (c : Int) : Int := if c < 0 then min 0 (c + 2048) else max 0 (c - 2048)

/-- The microactuator loop of a head (05 R135, R136, R138; 06 R194). -/
def State.maLoop (s : State) (d : DieId) (h : HeadId) : State :=
  let x := s.die d
  let hd := x.head h
  let y := x.act h.act
  let idle := y.state == .seeking || y.state == .loading || y.state == .recovering || hd.servo == .lost
  if !hd.live then s.modHead d h fun z => { z with maNext := 0, loop := {} }
  else if idle then s.modHead d h fun z => { z with maNext := rampDown z.maNext, loop := {} }
  else if hd.maHeld then s
  else if let some u := s.maInjection d h then s.modHead d h fun z => { z with loop := {}, maNext := Config.round u }
  else
    let c := y.maCoeff h
    let e : Rat := recordPes hd.record - hd.offset
    let f := feedback c hd.loop e y.integrating false
    let b := x.act (Act.other h.act)
    let r := outputPart c f (s.otherU d (Act.other h.act) b.uFb) (s.otherU d (Act.other h.act) b.uFbPrev) 0
    s.modHead d h fun z => { z with loop := r.1, maNext := Config.round r.2 }

/-- The frame of an actuator's VCM for this wedge, carrying the outputs computed a wedge ago (05 R142, R151, R157). -/
def State.vcmFrameOut (s : State) (d : DieId) (a : Act) : State :=
  let y := (s.die d).act a
  match y.state with
  | .parked | .retracting | .fault => s
  | .loading => s.sendVcm d a 1 (fullScale (s.getQ Obj.loadCurrent (actInst d a)))
  | _ => s.sendVcm d a 0 y.vcmNext

/-- Report the MA_UPDATE selects (07 R228). -/
def State.selectReport (s : State) (d : DieId) (a : Act) : Nat × Bool :=
  let y := (s.die d).act a
  if y.upFault then (0, y.tempTurn)
  else if y.wroteWindow && s.assistMode d != 2 && s.assistMode d != 0 then (2, y.tempTurn)
  else if y.regRead.isSome then (3, y.tempTurn)
  else if y.tempTurn then (1, false) else (0, true)

/-- Windows of an actuator without a photodiode report are unmonitored (07 R229, R230). -/
def State.unmonitored (s : State) (d : DieId) (a : Act) : State :=
  if s.assistMode d ≠ 1 then (headsOf a).foldl (fun s h => s.modHead d h fun x => { x with wrote := [] }) s
  else (headsOf a).foldl (fun s h =>
    let js := ((s.die d).head h).wrote
    if js.isEmpty then s
    else
      let s := s.bump Obj.unmonitoredCount (headInst d h)
      let s := js.foldl (fun s j => s.mark d ⟨h, j.loc, 3⟩) s
      s.modHead d h fun x => { x with wrote := [] }) s

/-- MA_UPDATE: the commands computed a wedge ago, and the report selected (06 R203, R205, R207; 07 R228). -/
def State.maUpdate (s : State) (d : DieId) (a : Act) : State :=
  let y := (s.die d).act a
  let zero := decide (y.state = .parked ∨ y.state = .loading)
  let s := (headsOf a).foldl (fun s h => s.modHead d h fun x => { x with maCmd := if zero then 0 else x.maNext }) s
  if !y.pcl.open then s
  else
    let sel := s.selectReport d a
    let words := (headsOf a).map fun h => BitVec.ofInt 16 ((s.die d).head h).maCmd
    let s := s.sendPcl d a 1 (sel.1 * 64 + (s.die d).clock.wedge % 64) words
    let missed := y.wroteWindow && decide (sel.1 ≠ 2)
    let s := if missed then s.unmonitored d a else s
    s.modAct d a fun y => { y with selected := BitVec.ofNat 2 sel.1, tempTurn := sel.2, wroteWindow := y.dirWrite, windowLost := y.windowLost - 1 }

/-! ### Write permission (05 R161) -/

/-- Every condition of servo_write_permit but the re-arm rule. -/
def State.permitBase (s : State) (d : DieId) (h : HeadId) : Bool :=
  let i := dieInst d
  let x := s.die d
  let hd := x.head h
  (x.act h.act).state == .tracking && x.clock.state == .locked && hd.live && hd.servo != .lost &&
    decide (hd.missRun ≤ s.getN Obj.missWi i) &&
    decide ((recordPes hd.record).natAbs ≤ s.getN Obj.wiLimit i) &&
    decide (((hd.maCmd.natAbs : Int) : Rat) ≤ s.getQ Obj.maWpLimit i * 32767) &&
    !x.shock && x.holdoff == 0 && !x.overrunNow

/-- Permit of one head at C(k) or T(k), with the counts and marks of a drop (05 R161, R162, R165). -/
def State.permitHead (s : State) (d : DieId) (h : HeadId) : State :=
  let i := dieInst d
  let hd := (s.die d).head h
  let pes := (recordPes hd.record).natAbs
  if hd.permit then
    if s.permitBase d h then s
    else
      let tracking := ((s.die d).act h.act).state == .tracking
      let byPes := tracking && decide (s.getN Obj.wiLimit i < pes)
      let s := if byPes then s.bump Obj.wiPesCount (headInst d h) else s
      let s := if byPes && decide (s.getN Obj.adjVerifyLimit i < pes) && hd.inProgress then s.servoMark d h 4 else s
      s.dropPermit d h
  else
    let near := recValidBit hd.record && decide (pes ≤ s.getN Obj.wpEntryLimit i)
    let run := if near then hd.rearmRun + 1 else 0
    let ok := decide (s.getN Obj.rearmWedges (actInst d h.act) ≤ run)
    let set := ok && s.permitBase d h
    s.modHead d h fun x => { x with rearmRun := run, rearmed := ok, permit := set }

/-! ### Assist grants (07 R224 to R226) -/

/-- Total charge of a list of heads. -/
def State.chargeSum (s : State) (d : DieId) (hs : List HeadId) : Rat := (hs.map (s.charge d)).foldl (· + ·) 0

/-- End of a head's window and earliest draw of a run, in au from ENTRY[k] of the slot's wedge (07 R225). -/
def State.slotEnd (s : State) (d : DieId) (h : HeadId) : Rat := (s.die d).skew.getD h.val 0 - 128 - s.guardAu d

def State.slotStart (s : State) (d : DieId) (h : HeadId) (run : List SectorLoc) : Rat :=
  let lead := if s.assistMode d = 1 ∧ s.preheatFrac d h (s.headRegion d h) ≠ 0 then s.get Obj.preheatLeadAu (dieInst d) else 0
  let first := match run with
    | [] => (windowStart (s.guardAu d) : Rat)
    | l :: _ => s.fragmentAu d h l 1
  (s.die d).skew.getD h.val 0 + first - s.getQ Obj.writeDelayAu (headInst d h) - lead

/-- A request as the controller sees it. -/
structure SlotRun where
  head : HeadId
  sectors : List SectorLoc
deriving DecidableEq, Repr

/-- Draw of a slot with the runs granted so far, the tail of slot k − 1 included (07 R225). -/
def State.slotDraw (s : State) (d : DieId) (runs : List SlotRun) : Rat :=
  let granted := runs.map (·.head)
  let first := (runs.map fun r => s.slotStart d r.head r.sectors).foldl min 16777216
  let tail := allHeads.filter fun h =>
    ((s.die d).head h).grant.isSome && !(granted.contains h) && decide (first < s.slotEnd d h)
  s.chargeSum d granted + s.chargeSum d tail

/-- The constraints of 07 R225 hold for these runs. -/
def State.slotFits (s : State) (d : DieId) (runs : List SlotRun) : Bool :=
  decide (runs.length ≤ s.getN Obj.maxWriteHeads (dieInst d)) && decide (s.slotDraw d runs ≤ s.bEff d)

/-- Requests of an actuator in ageing order: the longest refused first, then by head number. -/
def State.slotRequests (s : State) (d : DieId) (a : Act) : List SlotRun :=
  let x := s.die d
  let may := fun (h : HeadId) =>
    s.getB Obj.assistHeadEnable (headInst d h) && !x.data.verifyFull && !(x.head h).noWrite && !(x.act a).writeStop &&
      (x.act a).pcl == .up
  let rs := (headsOf a).filterMap fun h =>
    match (x.head h).request with
    | some run => if may h then some (⟨h, run⟩ : SlotRun) else none
    | none => none
  rs.foldr (fun r acc =>
    let k := (x.head r.head).refusedRun
    (acc.takeWhile fun q => decide (k < (x.head q.head).refusedRun)) ++
      r :: (acc.dropWhile fun q => decide (k < (x.head q.head).refusedRun))) []

/-- Take requests of one actuator from its reserve, as far as they go (07 R226 step 2). -/
def State.takeOwn (s : State) (d : DieId) (a : Act) (reserve : Rat) : List SlotRun → List SlotRun → List SlotRun × List SlotRun
  | got, [] => (got, [])
  | got, r :: rest =>
    let mine := (got.filter fun q => decide (q.head.act = a)).map (·.head)
    if s.chargeSum d (r.head :: mine) ≤ reserve ∧ s.slotFits d (got ++ [r]) then s.takeOwn d a reserve (got ++ [r]) rest
    else (got, r :: rest)

/-- Borrowing: one request per actuator in turn while the constraints hold (07 R226 step 3). -/
def State.takeTurns (s : State) (d : DieId) : Nat → List SlotRun → List SlotRun → List SlotRun → List SlotRun
  | 0, got, _, _ => got
  | _ + 1, got, [], [] => got
  | n + 1, got, [], r :: rest =>
    if s.slotFits d (got ++ [r]) then s.takeTurns d n (got ++ [r]) rest [] else s.takeTurns d n got [] []
  | n + 1, got, r :: rest, other =>
    if s.slotFits d (got ++ [r]) then s.takeTurns d n (got ++ [r]) other rest else s.takeTurns d n got other []

/-- Second fragments whose first was granted in slot k − 1 (07 R226 step 0). -/
def State.preCommitted (s : State) (d : DieId) : List SlotRun :=
  allHeads.filterMap fun h =>
    let x := (s.die d).head h
    match x.grant with
    | none => none
    | some g =>
      let fresh := if g.precommitted then g.sectors.drop 1 else g.sectors
      (fresh.find? fun l => ((s.place d h l).map Placed.split).getD false && x.jobs.any fun j => j.loc == l && !j.gateOff).map
        fun l => ⟨h, [l]⟩

/-- Requests that name a head already granted are dropped from a list. -/
def dropGranted (got rs : List SlotRun) : List SlotRun := rs.filter fun r => !(got.any fun q => q.head == r.head)

/-- The grants of the next slot (07 R226): pre-committed, aged, own, borrowed; and whether only the first were
given. -/
def State.decideSlot (s : State) (d : DieId) : List SlotRun × List SlotRun × List SlotRun :=
  let x := s.die d
  let pre := s.preCommitted d
  if !(s.slotFits d pre) ∧ !pre.isEmpty then (pre, [], [])
  else
    let ra := dropGranted pre (s.slotRequests d .A)
    let rb := dropGranted pre (s.slotRequests d .B)
    let age := 2 * x.clock.table.length
    let aged := (ra ++ rb).filter fun r => decide (age ≤ (x.head r.head).refusedRun)
    let got := aged.foldl (fun got r => if s.slotFits d (got ++ [r]) then got ++ [r] else got) pre
    let shareA := s.getQ Obj.assistShareA (dieInst d) * s.bEff d
    let a := s.takeOwn d .A shareA got (dropGranted got ra)
    let b := s.takeOwn d .B (s.bEff d - shareA) a.1 (dropGranted a.1 rb)
    let n := a.2.length + b.2.length + 2
    let all := if x.prevB ≤ x.prevA then s.takeTurns d (2 * n) b.1 a.2 b.2 else s.takeTurns d (2 * n) b.1 b.2 a.2
    (pre, b.1.drop pre.length, all.drop b.1.length)

/-- Record one grant for the next slot. -/
def State.giveGrant (s : State) (d : DieId) (borrowed pre : Bool) (r : SlotRun) : State :=
  let c := s.charge d r.head
  let n := (s.die d).grantOrder
  let extra := if pre then (match ((s.die d).head r.head).request with
    | some run => run
    | none => []) else []
  (s.modHead d r.head fun x =>
    { x with
      grantNext := some ⟨c, borrowed, n, pre, r.sectors ++ extra.filter fun l => !(r.sectors.contains l)⟩
      refusedRun := 0, request := none }).modDie d fun x => { x with grantOrder := n + 1 }

/-- Requests left are refused for the slot; one that no budget in force can carry is reported once (07 R226). -/
def State.refuseRequest (s : State) (d : DieId) (h : HeadId) : State :=
  let x := (s.die d).head h
  match x.request with
  | none => s
  | some _ =>
    let s := (s.modHead d h fun y => { y with refusedRun := y.refusedRun + 1 }).bump Obj.grantDeferCount (headInst d h)
    let r := s.headRegion d h
    if s.bEff d < s.charge d h then
      if x.blockedRegion = some r then s
      else ((s.modHead d h fun y => { y with blockedRegion := some r }).modDie d fun y => { y with blocked := true }).raiseHead
        d h Ev.assistBudgetBlocked
    else s.modHead d h fun y => { y with blockedRegion := none }

/-- ASSIST_GRANT_DECIDE at C(k − 1) (07 R224 to R226): the decided slot begins, the next one is decided. -/
def State.grantSlot (s : State) (d : DieId) : State :=
  let s := allHeads.foldl (fun s h => s.modHead d h fun x =>
    { x with prevCharge := (x.grant.map Grant.charge).getD 0, grant := x.grantNext, grantNext := none }) s
  let held := fun (s : State) (a : Act) =>
    s.chargeSum d ((headsOf a).filter fun h => ((s.die d).head h).grant.isSome)
  let pa := held s .A
  let pb := held s .B
  let s := s.modDie d fun x => { x with prevA := pa, prevB := pb }
  let r := s.decideSlot d
  let s := r.1.foldl (fun s q => s.giveGrant d false true q) s
  let s := r.2.1.foldl (fun s q => s.giveGrant d false false q) s
  let s := r.2.2.foldl (fun s q => s.giveGrant d true false q) s
  allHeads.foldl (fun s h => s.refuseRequest d h) s

/-! ### The collection point -/

/-- SERVO_COLLECT (05 R135 to R143, R151 to R155, R159, R161; 07 R224 to R228; 19 R548). -/
def execServoCollect (d : DieId) (s : State) : Res :=
  onDie d s fun s =>
    let s := s.collectRecords d
    -- outputs of the wedge before take effect
    let s := ((s.vcmFrameOut d .A).vcmFrameOut d .B)
    -- states and errors of this wedge
    let s := (s.actWedge d .A).actWedge d .B
    let s := (s.actError d .A).actError d .B
    -- loops: both VCM feedback parts, both VCM outputs, microactuators of A, then of B
    let s := (s.vcmFeedback d .A).vcmFeedback d .B
    let s := (s.vcmOutput d .A).vcmOutput d .B
    let s := (s.maUpdate d .A).maUpdate d .B
    let s := allHeads.foldl (fun s h => s.maLoop d h) s
    let s := allHeads.foldl (fun s h => s.permitHead d h) s
    let s := s.grantSlot d
    let s := s.modDie d fun x =>
      { x with
        holdoff := if x.shock then x.holdoff else if 1 < x.holdoff then x.holdoff - 1 else x.holdoff
        overrunPrev := x.overrunNow, overrunNow := false
        obs := if x.obs.frozen then x.obs else { x.obs with wedges := (x.obs.wedges + 1) % 2 ^ 64 } }
    let s := allHeads.foldl (fun s h => s.modHead d h fun x => { x with delivered := false }) s
    s.count d 0x003

/-! ### Overruns and engine faults (05 R144, R159 row 19) -/

/-- A fault of the control-law engine: every actuator not parked retracts, its pending results end (05 R159
row 19). -/
def State.controlLawFault (s : State) (d : DieId) : State :=
  [Act.A, Act.B].foldl (fun s a =>
    if ((s.die d).act a).running then
      let s := s.calAbortIf d (calOfAct a)
      let y := (s.die d).act a
      let s := if y.loadPending then s.actResult d a 2 else s
      let s := s.modAct d a fun y =>
        { y with loadPending := false, seekPending := false, seekResult := if y.seekPending then 2 else y.seekResult }
      if y.state = .retracting then s.modAct d a fun y => { y with retractFor := .engineFault }
      else s.retract d a .engineFault
    else s) s

/-- SERVO_OVERRUN (05 R144): the outputs in force stay for one more wedge. -/
def execServoOverrun (d : DieId) (s : State) : Res :=
  onDie d s fun s =>
    let again := (s.die d).overrunPrev && !(s.die d).overrunNow
    let s := allHeads.foldl (fun s h => s.modHead d h fun x => { x with maNext := x.maCmd }) s
    let s := (s.modAct d .A fun y => { y with vcmNext := y.vcmCmd }).modAct d .B fun y => { y with vcmNext := y.vcmCmd }
    let s := s.modDie d fun x => { x with overrun := true, overrunNow := true }
    let s := (s.dropPermits d allHeads).bump Obj.overrunCount (dieInst d)
    let s := s.raise d Ev.servoOverrun
    if again then s.controlLawFault d else s

/-! ### Coefficient banks (05 R147 to R150) -/

def Actuator.pendingSet (x : Actuator) : CoeffSet := if x.bank then x.bank0 else x.bank1

/-- A swap command (05 R147, R146): accepted, SWAP_NOT_READY, or TABLE_INVALID. -/
def State.swapCommand (s : State) (d : DieId) (a : Act) : State × Option Nat :=
  let x := s.die d
  let y := x.act a
  let i := actInst d a
  if !y.pendingOk then (s.put Obj.coeffSwapResult i 8, some 8)
  else if y.pendingSet.serialCrc ≠ x.hdaCrc then (s.put Obj.coeffSwapResult i 4, some 4)
  else ((s.modAct d a fun y => { y with swapReq := true }).put Obj.coeffSwapResult i 1, none)

/-- COEFF_SWAP (05 R147). -/
def execCoeffSwap (d : DieId) (a : Act) (s : State) : Res :=
  onDie d s fun s =>
    if s.isolated d then { s with reply := { status := St.dieIsolated } }
    else if ((s.die d).act a).swapReq then
      { s with reply := { status := St.objectStateConflict, result := Refuse.commandPending.setWidth 64 } }
    else
      let r := s.swapCommand d a
      match r.2 with
      | none => { r.1 with reply := {} }
      | some c => { r.1 with reply := { status := St.objectStateConflict, result := BitVec.ofNat 64 c } }

/-- A loop's state carried into the new bank (05 R148). -/
def carryLoop (old new : LoopCoeff) (st : LoopState) : LoopState :=
  let s : Rat := if new.ki = 0 then 0 else st.s * old.ki / new.ki
  { st with
    s := ratClamp new.sMax s
    z := (List.range new.nbiq).map fun j => if j < old.nbiq then st.z.getD j (0, 0) else (0, 0) }

/-- Integral term of a loop in counts. -/
def integralTerm (c : LoopCoeff) (st : LoopState) : Int := Config.round ((c.ki : Rat) / 4294967296 * st.s)

/-- Loop n of an actuator: 0 the VCM, 1 + j its j-th head. -/
def Die.loopAt (x : Die) (a : Act) (n : Nat) : LoopState :=
  if n = 0 then (x.act a).loop else ((headsOf a)[n - 1]?.map fun h => (x.head h).loop).getD {}

/-- COEFF_SWAP_APPLY (05 R147 to R150): at the first C(k) or T(k) after the command, a control-store swap first. -/
def execCoeffSwapApply (d : DieId) (a : Act) (s : State) : Res :=
  onDie d s fun s =>
    let x := s.die d
    let y := x.act a
    when (y.swapReq && !x.eng.swapPending) (fun s =>
      let old := y.coeff
      let new := y.pendingSet
      let c := fun (b : CoeffSet) n => b.loops.getD n {}
      let sat := (List.range 13).find? fun n => (x.loopAt a n).sat
      let s := s.modAct d a fun y =>
        { y with
          bank := !y.bank, pendingOk := false, swapReq := false
          loop := carryLoop (c old 0) (c new 0) y.loop }
      let s := (headsOf a).foldl (fun s h => s.modHead d h fun z =>
        { z with loop := carryLoop (c old (1 + h.val % 12)) (c new (1 + h.val % 12)) z.loop }) s
      let s := s.put Obj.coeffSwapResult (actInst d a) 0
      match sat with
      | none => s
      | some n =>
        let before := integralTerm (c old n) (x.loopAt a n)
        let after := integralTerm (c new n) ((s.die d).loopAt a n)
        let s := s.modDie d fun x => match a with
          | .A => { x with swapSatA := true }
          | .B => { x with swapSatB := true }
        (s.bump Obj.swapSatCount (actInst d a)).raiseAct d a Ev.servoSwapSat [(1, (n : Int)), (4, before), (4, after)]) s

/-! ### Actuator commands and outcomes (05 R156 to R159) -/

/-- A command to an actuator's CMD entry and its answer (05 R158, 13 R429). -/
def actCommand (d : DieId) (s : State) (f : State → State × Option Nat) : Res :=
  onDie d s fun s =>
    if s.isolated d then { s with reply := { status := St.dieIsolated } }
    else
      let r := f s
      match r.2 with
      | none => { r.1 with reply := {} }
      | some c => { r.1 with reply := { status := St.objectStateConflict, result := BitVec.ofNat 64 c } }

/-- Regions over the rate limit are reported at each load (06 R176). -/
def State.rateLimits (s : State) (d : DieId) (a : Act) : State :=
  (headsOf a).foldl (fun s h =>
    if (s.regions d h).any fun r => decide (6400000000 * 60 < r.bitsPerRev * s.getN Obj.setRpm (dieInst d)) then
      s.raiseHead d h Ev.channelRateLimit
    else s) s

/-- ACT_LOAD (05 R158, R159 rows 1, 22, 23; 06 R176). -/
def execActLoad (d : DieId) (a : Act) (s : State) : Res :=
  actCommand d s fun s =>
    let was := ((s.die d).act a).state
    let r := s.loadCommand d a
    if ((r.1.die d).act a).state = .loading ∧ was ≠ .loading then (r.1.rateLimits d a, r.2) else r

/-- ACT_UNLOAD (05 R158, R159 rows 12, 13, 24; 08 R242). -/
def execActUnload (d : DieId) (a : Act) (s : State) : Res :=
  actCommand d s fun s => (s.unloadCommand d a, none)

/-- ACT_SEEK (05 R156, R159 rows 5 and 25): `targets` for the actuator's heads in order. -/
def execActSeek (d : DieId) (a : Act) (targets : List Nat) (s : State) : Res :=
  onDie d s fun s =>
    let y := (s.die d).act a
    let aim := fun (s : State) => (headsOf a).foldl (fun s h => s.modHead d h fun x =>
      { x with target := if x.live then min (targets.getD (h.val % 12) x.target) ((s.die d).tracks - 1) else x.target }) s
    match y.state with
    | .seeking =>
      ((aim s).modAct d a fun y => { y with seekPending := true, seekResult := 1 }).bump Obj.seekCount (actInst d a)
    | .settling | .tracking =>
      let r := s.armTarget d a + y.ev / 4096
      ((aim s).modAct d a fun y =>
        { y with state := .seeking, r := r, v := 0, a := 0, seekPending := true, seekResult := 1, settleRun := 0
                 settleWedges := 0 }).bump Obj.seekCount (actInst d a)
    | .recovering =>
      s.modAct d a fun y =>
        { y with savedTargets := (headsOf a).map fun h => targets.getD (h.val % 12) (y.savedTargets.getD (h.val % 12) 0)
                 seekPending := true, seekResult := 1 }
    | _ => s

/-- ACT_LOAD_TIMEOUT (05 R159 row 3). -/
def execActLoadTimeout (d : DieId) (a : Act) (s : State) : Res :=
  onDie d s fun s =>
    let x := s.die d
    let y := x.act a
    let revs := (x.clock.rev + 16777216 - y.sinceRev) % 16777216
    when (y.state == .loading && decide (s.getN Obj.loadRevs (actInst d a) ≤ revs)) (fun s =>
      let s := s.modDie d fun x => { (x.modAct a fun y => { y with loadTries := y.loadTries + 1 }) with loadFail := true }
      (s.raiseAct d a Ev.actLoadFail).retract d a .loadFail) s

/-- ACT_SETTLED (05 R159 row 6). -/
def execActSettled (d : DieId) (a : Act) (s : State) : Res :=
  onDie d s fun s =>
    let y := (s.die d).act a
    when (y.state == .settling && decide (s.getN Obj.settleWedges (actInst d a) ≤ y.settleRun)) (fun s =>
      let s := s.modAct d a fun y =>
        { y with state := .tracking, seekPending := false, seekResult := if y.seekPending then 0 else y.seekResult
                 loadPending := false }
      ((if y.loadPending then s.actResult d a 0 else s).calRecheck d).powerSettle d) s

/-- ACT_SETTLE_FAIL (05 R159 row 7). -/
def execActSettleFail (d : DieId) (a : Act) (s : State) : Res :=
  onDie d s fun s =>
    let y := (s.die d).act a
    when (y.state == .settling && decide (256 ≤ y.settleWedges)) (·.recoverStart d a (some Ev.actSettleFail)) s

/-- ACT_RECOVER_TIMEOUT (05 R159 row 11; 08 R242). -/
def execActRecoverTimeout (d : DieId) (a : Act) (s : State) : Res :=
  onDie d s fun s =>
    let x := s.die d
    let y := x.act a
    let revs := (x.clock.rev + 16777216 - y.sinceRev) % 16777216
    when (y.state == .recovering && decide (s.getN Obj.recoverRevs (actInst d a) ≤ revs)) (fun s =>
      let s := (s.calAbortIf d (calOfAct a)).modAct d a fun y => { y with recTries := y.recTries + 1 }
      s.retract d a .recoverFail) s

/-- PARKED: heads gated, the unload's result (05 R159 row 15). -/
def State.park (s : State) (d : DieId) (a : Act) : State :=
  let s := (headsOf a).foldl (fun s h => s.modHead d h fun x => x.requeueUnstarted.gate) s
  let y := (s.die d).act a
  let s := s.modAct d a fun y =>
    { y with state := .parked, loop := {}, v := 0, a := 0, uFb := 0, uFbPrev := 0, vcmNext := 0, unloadPending := false }
  let s := if y.unloadPending then s.actResult d a 0 else s
  s.raiseAct d a Ev.actParked

/-- No head of the die is loaded any more: the clock has no wedges left (02 R59, R64). -/
def State.unloadedClock (s : State) (d : DieId) : State :=
  if (s.die d).bothParked && !((s.die d).clock.coasting) then s.coastEntry d else s

/-- FAULT after the last retry (05 R159 row 17). -/
def State.actFault (s : State) (d : DieId) (a : Act) (code : Int) : State :=
  let s := s.modDie d fun x =>
    { (x.modAct a fun y => { y with state := .fault, loadPending := false }) with loadFail := true }
  (s.actResult d a code).raiseAct d a Ev.actFault

/-- Automatic retry, or the end of the retries (05 R159 rows 16 and 17). -/
def State.retryLoad (s : State) (d : DieId) (a : Act) (tries limit : Nat) (code : Int) : State :=
  if tries ≤ limit then s.loadStart d a else s.actFault d a code

/-- A spindle that waited for its heads goes on (03 R99 rows 26 and 34, R106; 18 R544). -/
def State.headsOff (s : State) (d : DieId) : State :=
  let x := s.die d
  if x.bothParked && x.spin.state == .braking && x.spin.gates == .floated then
    s.modSpin d fun p => { p with gates := if p.obsValid then .opposing else .shortBrake }
  else s

/-- ACT_RETRACT_DONE (05 R159 rows 15 to 17 and 23; 02 R59, R64; 03 R106). -/
def execActRetractDone (d : DieId) (a : Act) (s : State) : Res :=
  onDie d s fun s =>
    let y := (s.die d).act a
    let i := actInst d a
    when (y.state == .retracting) (fun s =>
      let s := ((((s.park d a).unloadedClock d).headsOff d).calRecheck d).powerSettle d
      if y.loadWaits then (s.loadCheck d a).1
      else if y.unloadPending then s
      else match y.retractFor with
        | .loadFail => s.retryLoad d a y.loadTries (s.getN Obj.loadRetries i) 6
        | .recoverFail => s.retryLoad d a y.recTries (s.getN Obj.recoverRetries i) 7
        | _ => s) s

/-! ### Shock (05 R161, R163, R165) -/

/-- SHOCK_TRIP (05 R163, R165): every write gate of the die goes off. -/
def execShockTrip (d : DieId) (s : State) : Res :=
  onDie d s fun s =>
    when (!(s.die d).shock) (fun s =>
      let hs := (s.die d).writing
      let s := hs.foldl (fun s h => s.servoMark d h 5) s
      let s := s.dropPermits d allHeads
      let s := allHeads.foldl (fun s h => s.modHead d h Head.gateOff) s
      let s := s.modDie d fun x => { x with shock := true, shockTrip := true, holdoff := 0 }
      (s.bump Obj.wiShockCount (dieInst d)).raise d Ev.shockDetect) s

/-- SHOCK_CLEAR (05 R163): the holdoff starts; one more than the wedges still to pass. -/
def execShockClear (d : DieId) (s : State) : Res :=
  onDie d s fun s =>
    when (s.die d).shock
      (fun s => s.modDie d fun x => { x with shock := false, holdoff := s.getN Obj.shockHoldoffWedges (dieInst d) + 1 }) s

/-- SHOCK_HOLDOFF_END (05 R161): SHOCK_HOLDOFF_WEDGES have passed. -/
def execShockHoldoffEnd (d : DieId) (s : State) : Res :=
  onDie d s fun s =>
    when (!(s.die d).shock && (s.die d).holdoff == 1) (·.modDie d fun x => { x with holdoff := 0 }) s

end Sys2Proof.Machine
end

