-- ==== Sys2Proof/Machine/Channel.lean ====
section
/-! DEFINITION. The read path and its recovery ladder, and the write path of a head (06 R170 to R200; 07 R220 to
R227). -/

namespace Sys2Proof.Machine

/-! ### Marks and attempts (06 R187 to R191) -/

/-- Mark a is taken before mark b: fewer errors, then nearer the prediction, then earlier (06 R187). -/
def markBefore (a b : MarkHit) : Bool :=
  decide (a.errors < b.errors) ||
    (a.errors == b.errors && (decide (a.offset.natAbs < b.offset.natAbs) ||
      (a.offset.natAbs == b.offset.natAbs && decide (a.offset ≤ b.offset))))

/-- The mark taken among those within a span and a tolerance. -/
def pickMark (hits : List MarkHit) (span tol : Nat) : Option MarkHit :=
  match hits.filter fun m => decide (m.offset.natAbs ≤ span) && decide (m.errors ≤ tol) with
  | [] => none
  | m :: r => some (r.foldl (fun best x => if markBefore best x then best else x) m)

/-- The sync mark of an attempt (06 R187). -/
def State.syncOf (s : State) (d : DieId) (x : ReadAttempt) : Option MarkHit :=
  pickMark x.sync 64 (s.getN Obj.syncTolerance (dieInst d))

/-- The resync mark of an attempt (06 R188). -/
def resyncMark (x : ReadAttempt) : Option MarkHit := pickMark x.resync 16 1

/-- Every parity check is satisfied within an iteration limit behind an accepted sync mark (06 R173, R187). -/
def State.decoded (s : State) (d : DieId) (x : ReadAttempt) (limit : Nat) : Bool :=
  (s.syncOf d x).isSome && x.parityOk && decide (x.iterations ≤ limit)

/-- The misframe signature (06 R191). -/
def State.misframed (s : State) (d : DieId) (x : ReadAttempt) (ok : Bool) : Bool :=
  (s.syncOf d x).isSome && !ok && decide (s.getQ Obj.misframeSyndrome (dieInst d) * 3840 ≤ x.unsatisfied) && x.gainNominal

/-- Marks missed by an attempt are counted (06 R187, R188). -/
def State.countMarks (s : State) (d : DieId) (h : HeadId) (x : ReadAttempt) : State :=
  let s := if (s.syncOf d x).isNone then s.bump Obj.syncMissCount (headInst d h) else s
  if x.split && (resyncMark x).isNone then s.bump Obj.resyncMissCount (headInst d h) else s

/-! ### Taps and figures (06 R172, R213) -/

/-- Calibrated taps of a region: 32 words of the CHANNEL_ADAPT record (08 R258). -/
def State.calTaps (s : State) (d : DieId) (h : HeadId) (r : Nat) : List Int :=
  let t := s.calPayload d 1 (headInst d h)
  (List.range 32).map fun i => fieldI t (8 + 68 * r + 4 + 2 * i) 2

/-- Largest tap in Q2.13: 3.999 (06 R172). -/
def tapMax : Int := 32759

/-- The adaptation of one sector: free values within the clamp (06 R172; log 19). -/
def adaptTaps (n : Nat) (taps : List Int) : List Int :=
  (List.range 32).map fun i => clampSym tapMax (Config.estimate (64 * n + i) (taps ++ [taps.getD i 0]))

/-- Taps at a sector's start: the running ones, or the calibrated set on a change of region or without adaptation. -/
def State.startTaps (s : State) (d : DieId) (h : HeadId) (r : Nat) : State :=
  let x := (s.die d).head h
  let taps := if x.region ≠ r ∨ x.taps.isEmpty ∨ !(s.getB Obj.eqAdaptEnable (dieInst d)) then s.calTaps d h r else x.taps
  s.modHead d h fun x => { x with taps := taps, tapsStart := taps, region := r }

/-- Taps after a sector: adapted when it decoded on the fly, else those at its start (06 R172). -/
def State.endTaps (s : State) (d : DieId) (h : HeadId) (ok : Bool) : State :=
  if ok && s.getB Obj.eqAdaptEnable (dieInst d) then
    (s.modHead d h fun x => { x with taps := adaptTaps s.fresh x.tapsStart }).useFresh
  else s.modHead d h fun x => { x with taps := x.tapsStart }

/-- MEAN_ITERATIONS at the end of a revolution (06 R213). -/
def State.countIterations (s : State) (d : DieId) (h : HeadId) (n : Nat) : State :=
  let x := (s.die d).head h
  let rev := (s.die d).clock.rev
  let s := if x.iterRev = rev then s
    else
      let mean : Int := if x.iterCount = 0 then 0 else (x.iterSum : Int) * 65536 / x.iterCount
      (s.modHead d h fun x => { x with iterRev := rev, iterSum := 0, iterCount := 0 }).put Obj.meanIterations (headInst d h) mean
  s.modHead d h fun x => { x with iterSum := x.iterSum + n, iterCount := x.iterCount + 1 }

/-! ### Results (06 R189) -/

/-- The counter of a result. -/
def resultCounter : ChannelResult → Option ObjDef
  | .ok => none
  | .recovered => some Obj.recoveredCount
  | .unrecovered => some Obj.unrecoveredCount
  | .addressMismatch => some Obj.addressMismatchCount
  | .noSignal => none
  | .written => none
  | .abandoned => some Obj.abandonCount

/-- End one sector operation with a result and its ladder step. -/
def State.chanResult (s : State) (d : DieId) (h : HeadId) (loc : SectorLoc) (r : ChannelResult) (step : Nat) : State :=
  let i := headInst d h
  let s := s.modHead d h fun x => { x with results := (loc, r, step) :: x.results }
  let s := match resultCounter r with
    | some o => s.bump o i
    | none => s
  match r with
  | .ok | .recovered => ((s.bump Obj.sectorsRead i).monitor d (13 + h.val) 4096).count d (0x010 + h.val)
  | .written => ((s.bump Obj.sectorsWritten i).monitor d (13 + h.val) 4096).count d (0x030 + h.val)
  | _ => s

/-- The head may read a sector: live, its tracks not excluded, its actuator on the disk and in read direction
(06 R175, R176, R198). -/
def State.mayRead (s : State) (d : DieId) (h : HeadId) (loc : SectorLoc) : Bool :=
  let x := s.die d
  (x.head h).live && (x.act h.act).onDisk && !(x.act h.act).dirWrite && !(x.head h).excluded &&
    !(s.rateExcluded d h loc.track.toNat)

/-! ### The ladder (06 R190 to R194, R200) -/

/-- A sector that reached the ladder: its steps are numbered from 1; step 0 is the one re-read of 06 R189. -/
def Ladder.inLadder (l : Ladder) : Bool := decide (1 ≤ l.step)

/-- The ladder waits for its actuator's recovery decoder. -/
def Ladder.decoding (l : Ladder) : Bool := l.step == 2 || l.step == 3 || l.step == 5

def Head.captured (x : Head) : Nat := (x.ladders.filter Ladder.inLadder).length

/-- Replace the ladder entry of a sector. -/
def Head.putLadder (x : Head) (l : Ladder) : Head :=
  { x with ladders := x.ladders.map fun m => if m.loc == l.loc then l else m }

/-- Put the head's captures in line for the decoder of its actuator (06 R200). -/
def State.queueDecode (s : State) (d : DieId) (h : HeadId) : State :=
  s.modAct d h.act fun y => { y with rdecQueue := y.rdecQueue ++ [h], rdecBusy := true }

/-- Enter step n of the ladder: the decoding steps queue, step 6 sets its first offset. -/
def State.enterStep (s : State) (d : DieId) (h : HeadId) (l : Ladder) (n : Nat) : State :=
  let l := { l with step := n }
  let s := s.modHead d h fun x =>
    { x.putLadder l with offset := if n = 6 then s.getN Obj.offsetStep (dieInst d) else 0 }
  if l.decoding then s.queueDecode d h else s

/-- A new ladder of a sector that failed on the fly. -/
def freshLadder (loc : SectorLoc) : Ladder := ⟨loc, 1, 0, [], false, false, false, false, 0⟩

/-- A sector leaves the ladder; the next that waits for a capture buffer enters (06 R200). -/
def State.leaveLadder (s : State) (d : DieId) (h : HeadId) (loc : SectorLoc) : State :=
  let x := (s.die d).head h
  let was := x.ladders.any fun l => l.loc == loc && l.inLadder
  let s := s.modHead d h fun x => { x with ladders := x.ladders.filter fun l => l.loc != loc, offset := 0 }
  match x.ladderWait with
  | [] => s
  | w :: rest =>
    if was then
      (s.modHead d h fun x => { x with ladderWait := rest, ladders := x.ladders ++ [freshLadder w] }).count d (0x050 + h.val)
    else s

/-- The ladder ends with a result. -/
def State.endLadder (s : State) (d : DieId) (h : HeadId) (l : Ladder) (r : ChannelResult) : State :=
  (s.chanResult d h l.loc r l.step).leaveLadder d h l.loc

/-- A sector fails on the fly: into the ladder, or into line for a capture buffer (06 R190, R200). -/
def State.failOnTheFly (s : State) (d : DieId) (h : HeadId) (l : Ladder) : State :=
  let x := (s.die d).head h
  let s := s.modHead d h fun x => { x with ladders := x.ladders.filter fun m => m.loc != l.loc }
  if x.captured < 2 then
    (s.modHead d h fun x => { x with ladders := x.ladders ++ [{ l with step := 1 }] }).count d (0x050 + h.val)
  else s.modHead d h fun x => { x with ladderWait := x.ladderWait ++ [l.loc] }

/-- The step after a failed one (06 R190). -/
def State.nextStep (s : State) (d : DieId) (h : HeadId) (l : Ladder) : State :=
  match l.step with
  | 1 => if !l.syncSeen then s.enterStep d h l 2 else if l.misframe then s.enterStep d h l 3 else s.enterStep d h l 4
  | 2 => if l.misframe then s.enterStep d h l 3 else s.enterStep d h l 4
  | 3 => s.enterStep d h l 4
  | 4 => s.enterStep d h l 5
  | 5 => s.enterStep d h l 6
  | _ =>
    if l.revs < s.getN Obj.recoveryRevLimit (dieInst d) then s.enterStep d h l 7 else s.endLadder d h l .unrecovered

/-- The offset of offset read n: +1, −1, +2, −2 steps (06 R190). -/
def State.offsetOf (s : State) (d : DieId) (n : Nat) : Int :=
  ([1, -1, 2, -2].getD n 0) * (s.getN Obj.offsetStep (dieInst d) : Int)

/-- A decode of a ladder step: success ends the ladder, a bad tag calls for one re-read (06 R189, R190). `none`: not
decoded. -/
def State.ladderVerdict (s : State) (d : DieId) (h : HeadId) (l : Ladder) (x : ReadAttempt) (ok : Bool) : State × Option Ladder :=
  if !ok then (s, some l)
  else if !x.crcOk then (s.bump Obj.miscorrectCount (headInst d h), some l)
  else if x.tagOk then (s.endLadder d h l .recovered, none)
  else if l.reread then (s.endLadder d h l .addressMismatch, none)
  else (s, some { l with reread := true })

/-- One attempt of a reading step of the ladder: 1, 4, 6 or the further re-reads. -/
def State.ladderRead (s : State) (d : DieId) (h : HeadId) (l : Ladder) (x : ReadAttempt) : State :=
  let i := dieInst d
  let s := s.countMarks d h x
  let lim := if l.step = 1 ∨ l.step = 4 then s.getN Obj.ldpcIterNormal i else s.getN Obj.ldpcIterExt i
  let ok := s.decoded d x lim
  let l : Ladder :=
    { l with
      revs := l.revs + 1
      captures := if l.captures.length < 8 then l.captures ++ [x] else l.captures
      syncSeen := l.syncSeen || (s.syncOf d x).isSome
      misframe := l.misframe || s.misframed d x ok
      noSignal := l.noSignal && (!x.signal || l.step != 1)
      offsets := if l.step = 6 then l.offsets + 1 else l.offsets }
  let r := s.ladderVerdict d h l x ok
  match r.2 with
  | none => r.1
  | some l =>
    let s := r.1.modHead d h fun y => y.putLadder l
    if l.step = 1 ∧ l.revs < 2 then s
    else if l.step = 1 ∧ l.noSignal then s.endLadder d h l .noSignal
    else if l.step = 6 ∧ l.offsets < 4 then s.modHead d h fun y => { y with offset := s.offsetOf d l.offsets }
    else s.nextStep d h l

/-- The head's ladder that waits for a read, not for the decoder. -/
def Head.reading (x : Head) : Option Ladder := x.ladders.find? fun l => l.inLadder && !l.decoding

/-- Attempts in turn, while the ladder stays in the step they belong to. -/
def State.ladderReads (s : State) (d : DieId) (h : HeadId) (loc : SectorLoc) (step : Nat) : List ReadAttempt → State
  | [] => s
  | x :: rest =>
    match ((s.die d).head h).reading with
    | none => s
    | some l => if l.loc = loc ∧ l.step = step then (s.ladderRead d h l x).ladderReads d h loc step rest else s

/-! ### Commands of the read path -/

/-- SECTOR_READ (06 R172, R173, R186 to R190). -/
def execSectorRead (d : DieId) (h : HeadId) (loc : SectorLoc) (x : ReadAttempt) (s : State) : Res :=
  onDie d s fun s =>
    when (s.mayRead d h loc) (fun s =>
      let i := dieInst d
      let s := (s.startTaps d h (s.regionAt d h loc.track.toNat)).countMarks d h x
      let lim := s.getN Obj.ldpcIterNormal i
      let ok := s.decoded d x lim
      let s := s.countIterations d h (min x.iterations lim)
      let again := ((s.die d).head h).ladders.any fun l => l.loc == loc && l.step == 0
      let l : Ladder :=
        { freshLadder loc with syncSeen := (s.syncOf d x).isSome, misframe := s.misframed d x ok, noSignal := !x.signal }
      if !ok then (s.endTaps d h false).failOnTheFly d h l
      else if !x.crcOk then ((s.endTaps d h false).bump Obj.miscorrectCount (headInst d h)).failOnTheFly d h l
      else
        let s := s.endTaps d h true
        let drop := fun (s : State) => s.modHead d h fun y => { y with ladders := y.ladders.filter fun m => m.loc != loc }
        if x.tagOk then (drop s).chanResult d h loc .ok 0
        else if again then (drop s).chanResult d h loc .addressMismatch 0
        else (drop s).modHead d h fun y => { y with ladders := y.ladders ++ [{ l with step := 0, reread := true }] }) s

/-- LADDER_STEP (06 R190 to R194): the attempts of the head's present reading step, an offset read or re-read each. -/
def execLadderStep (d : DieId) (h : HeadId) (xs : List ReadAttempt) (s : State) : Res :=
  onDie d s fun s =>
    match ((s.die d).head h).reading with
    | none => s
    | some l => when (s.mayRead d h l.loc) (·.ladderReads d h l.loc l.step xs) s

/-- RECOVERY_DECODE_DONE (06 R190 steps 2, 3 and 5, R192, R200): the outcome of the decode in front. -/
def execRecoveryDecodeDone (d : DieId) (a : Act) (x : ReadAttempt) (s : State) : Res :=
  onDie d s fun s =>
    match ((s.die d).act a).rdecQueue with
    | [] => s
    | h :: rest =>
      let s := s.modAct d a fun y => { y with rdecQueue := rest, rdecBusy := !rest.isEmpty }
      match ((s.die d).head h).ladders.find? Ladder.decoding with
      | none => s
      | some l =>
        let ok := x.parityOk && decide (x.iterations ≤ s.getN Obj.ldpcIterExt (dieInst d))
        let won := ok && x.crcOk && x.tagOk
        let s := if won && l.step != 5 then s.bump Obj.reframeCount (headInst d h) else s
        let r := s.ladderVerdict d h l x ok
        match r.2 with
        | none => r.1
        | some l => r.1.nextStep d h l

/-! ### Starting and ending written sectors (01 R44, R45; 06 R197; 07 R220 to R227) -/

def Grant.covers (g : Grant) (loc : SectorLoc) : Bool := g.sectors.contains loc

/-- Whether the slot that covers a sector is the one decided last: its window opens before the collection point that
begins it. None: no grant covers it. -/
def Head.slotOf (x : Head) (loc : SectorLoc) : Option Bool :=
  if (x.grant.map (·.covers loc)).getD false then some false
  else if (x.grantNext.map (·.covers loc)).getD false then some true
  else none

def Head.slotGrant (x : Head) (next : Bool) : Option Grant := if next then x.grantNext else x.grant

def Head.setSlotGrant (x : Head) (next : Bool) (g : Option Grant) : Head :=
  if next then { x with grantNext := g } else { x with grant := g }

/-- Charges in force in a slot on some heads (07 R227). -/
def Die.slotCharges (x : Die) (next : Bool) (hs : List HeadId) : Rat :=
  (hs.map fun h => (((x.head h).slotGrant next).map Grant.charge).getD 0).foldl (· + ·) 0

/-- The head of the latest grant among some heads that may be revoked and that `p` admits. -/
def Die.latestGrant (x : Die) (next : Bool) (hs : List HeadId) (p : Grant → Bool) : Option HeadId :=
  let order := fun (h : HeadId) =>
    match (x.head h).slotGrant next with
    | some g => if !g.precommitted && decide (0 < g.charge) && p g then some g.order else none
    | none => none
  let cs := hs.filterMap fun h => (order h).map fun n => (n, h)
  (cs.foldl (fun (best : Option (Nat × HeadId)) c =>
    match best with
    | some b => if b.1 < c.1 then some c else best
    | none => some c) none).map (·.2)

/-- The head whose grant is revoked next (07 R227): the latest borrowed one, else the latest of the actuator that
exceeds its reserve by the most. -/
def State.revokeChoice (s : State) (d : DieId) (next : Bool) : Option HeadId :=
  let x := s.die d
  let ra := s.getQ Obj.assistShareA (dieInst d) * s.bEff d
  let rb := s.bEff d - ra
  let overA := x.slotCharges next (headsOf .A) - ra
  let overB := x.slotCharges next (headsOf .B) - rb
  let first : Act := if overB ≤ overA then .A else .B
  ((x.latestGrant next allHeads Grant.borrowed).orElse fun _ =>
    x.latestGrant next (headsOf first) fun _ => true).orElse fun _ =>
    x.latestGrant next (headsOf (Act.other first)) fun _ => true

/-- Sectors of the list that have not started go back to the scheduler's queue. -/
def Head.requeueSectors (x : Head) (ls : List SectorLoc) : Head :=
  let back := fun (j : WriteJob) => !j.started && ls.contains j.loc
  { x with requeue := x.jobs.filter back ++ x.requeue, jobs := x.jobs.filter fun j => !(back j) }

/-- Revoke one head's grant (07 R227): a sector in progress completes under it, uncharged. -/
def State.revokeOne (s : State) (d : DieId) (next : Bool) (h : HeadId) : State :=
  let s := s.modHead d h fun x =>
    match x.slotGrant next with
    | none => x
    | some g =>
      let y := x.requeueSectors g.sectors
      let kept := (y.jobs.filter fun j => j.started && g.covers j.loc).map WriteJob.loc
      y.setSlotGrant next (if kept.isEmpty then none else some { g with charge := 0, sectors := kept })
  (s.bump Obj.revokeCount (headInst d h)).modDie d fun x => { x with revoke := true }

/-- Revoke until the charges fit b_eff (07 R227). -/
def State.revokeLoop (s : State) (d : DieId) (next : Bool) : Nat → State
  | 0 => s
  | n + 1 =>
    if (s.die d).slotCharges next allHeads ≤ s.bEff d then s
    else match s.revokeChoice d next with
      | none => s
      | some h => (s.revokeOne d next h).revokeLoop d next n

/-- The zone a sector belongs to permits writing (01 R44): a READ_ONLY or OFFLINE zone does not. -/
def State.zoneMayWrite (s : State) (d : DieId) (h : HeadId) (loc : SectorLoc) : Bool :=
  let b := loc.track.toNat / max 1 (s.bandTracksOf d)
  let n := s.bandNo d h b
  let e := s.segAt d n
  let e := if e.lead || e.state != .inUse then e else s.segAt d e.next
  if e.state = .inUse then
    let z := (s.zone d e.zone).desc.state
    z != .readOnly && z != .offline
  else true

/-- 01 R44 with the exclusions of 06 R175, R176, R197, R198, R208 at the start of a sector whose slot is known. -/
def State.mayStart (s : State) (d : DieId) (h : HeadId) (loc : SectorLoc) : Bool :=
  let x := s.die d
  let y := x.head h
  let a := x.act h.act
  let calRun := x.calRuns.entries.any fun e => (e.2.heads.contains h) && (e.2.kind == 1 || e.2.kind == 2 || e.2.kind == 3)
  (match x.spin.holdStart with
    | some t => decide (t ≤ x.clock.stamp.toNat)
    | none => true) &&
  (y.slotOf loc).isSome && s.zoneMayWrite d h loc && y.permit && (calRun || !(s.stale d h)) &&
    x.hk.state != .stopWrites && x.hk.state != .shutdown && x.data.pfail.isNone && y.samFound && a.windowLost == 0 &&
    !y.noWrite && !a.writeStop && a.pcl == .up && !y.excluded && !(s.rateExcluded d h loc.track.toNat) && a.dirWrite &&
    a.wenMask.getLsbD (h.val % 12) && (headsOf h.act).all fun g => (x.head g).offset == 0

/-- A second fragment may start: what 06 R197 and R208 ask of it, and a gate still on. -/
def State.mayContinue (s : State) (d : DieId) (h : HeadId) (j : WriteJob) : Bool :=
  let x := s.die d
  (x.head h).samFound && (x.act h.act).windowLost == 0 && !j.gateOff && x.hk.state != .shutdown && x.data.pfail.isNone

/-- Nominal start of a fragment in 2^-8 au: the SAM arrival plus the place, less the write delay (06 R197). -/
def State.startAu (s : State) (d : DieId) (h : HeadId) (loc : SectorLoc) (frag : Nat) : Rat :=
  let sam : Rat := ((((s.die d).head h).sam.getD 0).toNat : Rat) / 256
  sam + s.fragmentAu d h loc frag - s.getQ Obj.writeDelayAu (headInst d h)

/-- Fine delay in 1/64 bit at the firing: the event is armed 4 au before the floor of the start (06 R197). -/
def State.fineDelayOf (s : State) (d : DieId) (h : HeadId) (loc : SectorLoc) (frag : Nat) (overshoot : BitVec 8) : Int :=
  let t := s.startAu d h loc frag
  let fired : Rat := (t.floor - 4 : Int) + (overshoot.toNat : Rat) / 256
  let bpr := (s.region d h loc.track.toNat).bitsPerRev
  max 0 (min 2047 (roundNear ((t - fired) * bpr / 16777216 * 64)))

/-- Drive DATA for the front job of a head. -/
def State.driveData (s : State) (d : DieId) (h : HeadId) (j : WriteJob) (rest : List WriteJob) (overshoot : BitVec 8) : State :=
  let f := s.fineDelayOf d h j.loc j.fragment overshoot
  s.modHead d h fun x => { x with lines := .data, fineDelay := f, jobs := { j with started := true } :: rest }

/-- The front job is abandoned: it and the later sectors of its run return to the queue (05 R164). -/
def State.abandonJob (s : State) (d : DieId) (h : HeadId) (j : WriteJob) (rest : List WriteJob) : State :=
  let s := s.modHead d h fun x =>
    { x with
      lines := .park, jobs := []
      requeue := { j with started := false, gateOff := false, fragment := 1 } :: rest ++ x.requeue }
  s.chanResult d h j.loc .abandoned 0

/-- SECTOR_WRITE_START (01 R44; 06 R197; 07 R222, R227). -/
def execSectorWriteStart (d : DieId) (h : HeadId) (overshoot : BitVec 8) (s : State) : Res :=
  onDie d s fun s =>
    match ((s.die d).head h).jobs with
    | [] => s
    | j :: rest =>
      if j.started then
        if j.fragment = 2 ∧ ((s.die d).head h).lines ≠ .data then
          if s.mayContinue d h j then s.driveData d h j rest overshoot else s.abandonJob d h j rest
        else s
      else
        let s := match ((s.die d).head h).slotOf j.loc with
          | some next => s.revokeLoop d next 24
          | none => s
        if s.mayStart d h j.loc then s.driveData d h { j with fragment := 1 } (((s.die d).head h).jobs.drop 1) overshoot
        else s.modHead d h fun x =>
          { x with
            lines := .park
            requeue := x.jobs.take 1 ++ x.requeue, jobs := x.jobs.drop 1 }

/-- ASSIST_PREHEAT_START (07 R214, R221): PARK to HEAT ahead of a run. -/
def execAssistPreheatStart (d : DieId) (h : HeadId) (s : State) : Res :=
  onDie d s fun s =>
    let x := (s.die d).head h
    let ready := match x.jobs with
      | [] => false
      | j :: _ => (!j.started && (x.slotOf j.loc).isSome) || (j.fragment == 2 && !j.gateOff)
    when (s.assistMode d == 1 && s.preheatFrac d h (s.headRegion d h) != 0 && decide (0 < s.get Obj.preheatLeadAu (dieInst d)) &&
        x.lines == .park && ready && ((s.die d).act h.act).wenMask.getLsbD (h.val % 12))
      (·.modHead d h fun x => { x with lines := .heat }) s

/-- SECTOR_WRITE_END (06 R182, R189, R195; 01 R45; 07 R220): the end of a fragment's or a sector's postamble. -/
def execSectorWriteEnd (d : DieId) (h : HeadId) (s : State) : Res :=
  onDie d s fun s =>
    let x := (s.die d).head h
    match x.jobs with
    | [] => s
    | j :: rest =>
      when (j.started && !j.gateOff && x.lines == .data) (fun s =>
        let wrote := x.wrote ++ [j]
        if j.split ∧ j.fragment = 1 then
          s.modHead d h fun x => { x with lines := .park, wrote := wrote, jobs := { j with fragment := 2 } :: rest }
        else (s.modHead d h fun x => { x with lines := .park, wrote := wrote, jobs := rest }).chanResult d h j.loc .written 0) s

/-- SECTOR_ABANDON (05 R164; 01 R45): a sector whose gate went off reaches its next fragment boundary. -/
def execSectorAbandon (d : DieId) (h : HeadId) (s : State) : Res :=
  onDie d s fun s =>
    match ((s.die d).head h).jobs with
    | [] => s
    | j :: rest => when (j.started && j.gateOff) (·.abandonJob d h j rest) s

/-- ASSIST_REQUEST (07 R225): the sectors of one run for the next slot to be decided. -/
def execAssistRequest (d : DieId) (h : HeadId) (sectors : List SectorLoc) (s : State) : Res :=
  onDie d s fun s =>
    let job := fun (l : SectorLoc) =>
      ({ loc := l, split := ((s.place d h l).map Placed.split).getD false, fragment := 1, started := false
         gateOff := false, marked := false } : WriteJob)
    let ok := ((s.die d).head h).live && !sectors.isEmpty && sectors.all fun l => (s.place d h l).isSome
    when ok (·.modHead d h fun x =>
      let new := sectors.filter fun l => !(x.jobs.any fun j => j.loc == l)
      { x with
        request := some sectors, jobs := x.jobs ++ new.map job
        requeue := x.requeue.filter fun j => !(sectors.contains j.loc) }) s

end Sys2Proof.Machine
end

