-- ==== Sys2Proof/Machine/Host.lean ====
section
/-! DEFINITION. The host's side: resets of the function, enable and shutdown, doorbells, interrupts, queues, ABORT, QUEUE
RESUME, VERB_TIMEOUT (12 R376 to R385, R394, R395; 13 R420 to R424; 20 R574, R587; 21 R616, R619). -/

namespace Sys2Proof.Machine

/-- Host and manager accesses are refused in manufacturing mode, and reach nothing while PORST_N is low (21 R600, R619). -/
def State.shut (s : State) : Bool := s.host.inReset || s.host.strapBoot == 1

/-- An access of the host: its effect unless refused. -/
def hostDoes (f : State → State) (s : State) : Res := .next (when (!s.shut) f s)

/-! ### Function resets, enable, shutdown -/

/-- PCIE_PERST_ASSERT (12 R376; 21 R616). -/
def execPciePerstAssert (s : State) : Res := hostDoes State.functionReset s

/-- FUNCTION_LEVEL_RESET (12 R376). -/
def execFunctionLevelReset (s : State) : Res := hostDoes State.functionReset s

/-- D3HOT_ENTRY (12 R376): fetching stops, every queue stays defined. -/
def execD3hotEntry (s : State) : Res := hostDoes (fun s => { s with host := { s.host with d3hot := true } }) s

/-- ENABLE from 0 to 1 (12 R379): a bad queue size sets FATAL. -/
def State.pkgEnable (s : State) : State :=
  if s.host.enable then s
  else
    let s := { s with host := { s.host with enable := true } }
    if s.host.sizesOk then s.adminRise.readyRise else { s with host := { s.host with fatal := true } }

def execPkgEnable (s : State) : Res := hostDoes State.pkgEnable s

/-- ENABLE from 1 to 0 acts as a function-level reset (12 R378). -/
def State.pkgDisable (s : State) : State := if s.host.enable then s.functionReset else s

def execPkgDisable (s : State) : Res := hostDoes State.pkgDisable s

/-- Every zone with data stores its partial husk short at its next destage (12 R378). -/
def State.shortAll (s : State) (d : DieId) : State :=
  s.modData d fun x => { x with zones := x.zones.mapVals fun _ v =>
    if v.awp ≠ 0 ∧ v.top.huskKib ≠ 0 then { v with short := true } else v }

/-- SHUTDOWN of a kind: 1 normal, 2 abrupt; no more verbs are admitted (12 R378). -/
def State.shutDown (s : State) (kind : BitVec 2) : State :=
  let s := { s with host := { s.host with shutdown := kind, shutdownStatus := 1 } }
  if kind = 1 then s.fittedDies.foldl (fun s d => s.shortAll d) s else s

def execShutdownNormal (s : State) : Res := hostDoes (·.shutDown 1) s

def execShutdownAbrupt (s : State) : Res := hostDoes (·.shutDown 2) s

/-- A die has no dirty data left, and no verb of it runs. -/
def State.shutDone (s : State) (d : DieId) : Bool :=
  let x := (s.die d).data
  s.isolated d || (decide (dirtyBytes x = 0) && x.jq.isEmpty && x.arriving.entries.isEmpty)

/-- SHUTDOWN_COMPLETE (12 R378): a normal shutdown is complete when all dirty data has been destaged. -/
def execShutdownComplete (s : State) : Res :=
  .next (when (s.host.shutdownStatus == 1 && (s.host.shutdown != 1 || s.fittedDies.all s.shutDone))
    (fun s => { s with host := { s.host with shutdownStatus := 2 } }) s)

/-! ### Doorbells (12 R382, R383, R385) -/

/-- An invalid doorbell write (12 R382). -/
def State.badDoorbell (s : State) : State :=
  ({ s with host := { s.host with doorbellErr := true } }.bump Obj.doorbellInvalidCount 0).raise 0 Ev.doorbellInvalid

/-- A write of an SQ tail doorbell (12 R382). -/
def State.sqTail (s : State) (q : Nat) (v : BitVec 32) : State :=
  match s.sqs.find? q with
  | none => s.badDoorbell
  | some x =>
    if x.deleting ∨ x.size ≤ v.toNat then s.badDoorbell else { s with sqs := s.sqs.insert q { x with tail := v.toNat } }

/-- SQ_TAIL_DOORBELL (12 R382). -/
def execSqTailDoorbell (q : Nat) (v : BitVec 32) (s : State) : Res := hostDoes (·.sqTail q v) s

/-- A write of a CQ head doorbell: entries are released, and held ones are posted (12 R382, R385). -/
def State.cqHead (s : State) (q : Nat) (v : BitVec 32) : State :=
  match s.cqs.find? q with
  | none => s.badDoorbell
  | some c =>
    if c.size ≤ v.toNat ∨ c.used < (v.toNat + c.size - c.head) % max 1 c.size then s.badDoorbell
    else ({ s with cqs := s.cqs.insert q { c with head := v.toNat } }).drainHeld q c.held.length

/-- CQ_HEAD_DOORBELL (12 R382, R385). -/
def execCqHeadDoorbell (q : Nat) (v : BitVec 32) (s : State) : Res := hostDoes (·.cqHead q v) s

/-! ### Interrupts (12 R395) -/

/-- CQ_COALESCE_TIMEOUT (12 R395): AGG_TIME_US has passed since the first entry counted. -/
def execCqCoalesceTimeout (cq : Nat) (s : State) : Res :=
  .next <|
    match s.cqs.find? cq with
    | none => s
    | some c =>
      if c.ien ∧ c.count ≠ 0 then { s with cqs := s.cqs.insert cq { c with count := 0 } }.vector c.vector else s

/-- A vector is unmasked: what was pending is sent (12 R395). -/
def State.unmask (s : State) (v : Nat) : State :=
  let s := { s with msix := s.msix.insert v { s.msix.getD v {} with masked := false } }
  if s.pba.getD v false then ({ s with pba := s.pba.erase v }).vector v else s

/-- MSIX_VECTOR_UNMASK (12 R395). -/
def execMsixVectorUnmask (v : Nat) (s : State) : Res := hostDoes (when (decide (v < 2048)) (·.unmask v)) s

/-! ### Queues (12 R380; 13 R420) -/

/-- An admin verb of an opcode that the anchor may run now. -/
def State.adminVerb (s : State) (asn op : Nat) (f : Slot → State) : State :=
  match s.slots.find? asn with
  | none => s
  | some sl => if sl.op = op ∧ sl.ready 0 then f sl else s

/-- CREATE QUEUE of a submission queue. -/
def State.createSq (s : State) (asn : Nat) (sl : Slot) : State :=
  let e := sl.entry
  let q := eVs e 0 2
  let base := (descOf (eDptr e 0)).addr
  let cq := eVs e 6 2
  if s.sqs.contains q then s.partFail asn 0 St.queueExists
  else if cq = 0 ∨ !(s.cqs.contains cq) then s.partFail asn 0 St.invalidQueueId
  else if base % 4096 ≠ 0 then s.partFail asn 0 St.invalidField
  else
    let x : Sq := { size := eVs e 4 2, base := BitVec.ofNat 64 base, cq, frozenModel := (eVs e 2 1).testBit 2 }
    { s with sqs := s.sqs.insert q x }.partOk asn 0

/-- CREATE_SQ (12 R380; 13 R420). -/
def execCreateSq (asn : Nat) (s : State) : Res :=
  .next (s.adminVerb asn 0x44 fun sl => if eVs sl.entry 2 1 % 2 = 0 then s.createSq asn sl else s)

/-- CREATE QUEUE of a completion queue. -/
def State.createCq (s : State) (asn : Nat) (sl : Slot) : State :=
  let e := sl.entry
  let q := eVs e 0 2
  let base := (descOf (eDptr e 0)).addr
  if s.cqs.contains q then s.partFail asn 0 St.queueExists
  else if base % 4096 ≠ 0 then s.partFail asn 0 St.invalidField
  else
    let c : Cq :=
      { size := eVs e 4 2, base := BitVec.ofNat 64 base, vector := eVs e 6 2, ien := (eVs e 2 1).testBit 1
        aggCount := eVs e 8 1 + 1, aggTime := eVs e 10 2 }
    { s with cqs := s.cqs.insert q c }.partOk asn 0

/-- CREATE_CQ (12 R380; 13 R420). -/
def execCreateCq (asn : Nat) (s : State) : Res :=
  .next (s.adminVerb asn 0x44 fun sl => if eVs sl.entry 2 1 % 2 = 1 then s.createCq asn sl else s)

/-- DELETE_SQ (12 R380; 13 R420). -/
def execDeleteSq (asn : Nat) (s : State) : Res :=
  .next <| s.adminVerb asn 0x45 fun sl =>
    let q := eVs sl.entry 0 2
    if eVs sl.entry 2 1 % 2 = 1 then s
    else
      match s.sqs.find? q with
      | none => s.partFail asn 0 St.invalidQueueId
      | some x =>
        if q = 0 ∨ x.deleting then s.partFail asn 0 St.invalidQueueId
        else
          let s := { s with
            sqs := s.sqs.insert q { x with deleting := true, drawWait := none }
            waiters := s.waiters.filter fun w => w.1 != q }
          (s.partOk asn 0).sqSweep q

/-- DELETE_CQ (12 R380; 13 R420). -/
def execDeleteCq (asn : Nat) (s : State) : Res :=
  .next <| s.adminVerb asn 0x45 fun sl =>
    let q := eVs sl.entry 0 2
    if eVs sl.entry 2 1 % 2 = 0 then s
    else if q = 0 ∨ !(s.cqs.contains q) then s.partFail asn 0 St.invalidQueueId
    else if s.sqs.entries.any fun e => e.2.cq == q then s.partFail asn 0 St.queueInUse
    else ({ s with cqs := s.cqs.erase q }).partOk asn 0

/-! ### Ending a verb early (13 R422, R423; 20 R587) -/

/-- Verbs whose commit point is their outcome (13 R422). -/
def lateCommit (op : Nat) : Bool := [1, 5, 7, 4, 0x40, 0x41, 0x42].contains op

/-- Every part left is cancelled. -/
def State.cancelParts (s : State) (asn : Nat) : State :=
  let s := match s.slots.find? asn with
    | some sl => s.backAll sl
    | none => s
  s.modSlot asn fun sl =>
    { sl with aborted := true, parts := sl.parts.map fun p => { p with applied := true, delivered := true } }

/-- The ladder of a sector ends UNRECOVERED (06 R193). -/
def State.dropLadder (s : State) (d : DieId) (h : HeadId) (loc : SectorLoc) : State :=
  match ((s.die d).head h).ladders.find? fun l => l.loc == loc with
  | some l => s.endLadder d h l .unrecovered
  | none => s

/-- Ladders of a read's sectors end (06 R193). -/
def State.dropLadders (s : State) (sl : Slot) : State :=
  let bs := fun (r : ZRun) => (List.range' (r.zone * zoneSpan + r.off) r.count).filterMap fun b =>
    (s.blockPlace r.die b).map fun e => (r.die, e.2)
  if sl.op = 1 ∨ sl.op = 5 then (sl.readRuns.flatMap bs).foldl (fun s e => s.dropLadder e.1 e.2.1 e.2.2) s else s

/-- VERB_TIMEOUT (20 R587; 13 R428): reads are cancelled, committed work runs to its end. -/
def execVerbTimeout (asn : Nat) (s : State) : Res :=
  .next <|
    match s.slots.find? asn with
    | none => s
    | some sl =>
      if sl.decided || sl.orphan then s
      else
        let s := if lateCommit sl.op then (s.dropLadders sl).cancelParts asn else s
        (s.modSlot asn fun sl => { sl with waitsFor := none }).settleVerb asn St.verbTimeout 0 {}

/-- The target of an ABORT: the newest admitted verb of the queue and CID whose completion slot is held (13 R422). -/
def State.abortTarget (s : State) (sq cid : Nat) : Option Slot :=
  ((s.slots.entries.map Prod.snd).filter fun t =>
    t.sq == sq && (eCid t.entry).toNat == cid && t.op != 0x46 && !t.orphan).getLast?

/-- ABORT (13 R422, R423). -/
def execAbort (asn : Nat) (s : State) : Res :=
  .next <| s.adminVerb asn 0x46 fun sl =>
    match s.abortTarget (eVs sl.entry 0 2) (eVs sl.entry 2 2) with
    | none => s.partFail asn 0 St.targetNotFound
    | some t =>
      let s := s.modSlot asn fun sl => { sl with waitsFor := some t.asn }
      if t.decided then s.partEnd asn 0 fun p => { p with status := St.targetNotFound, result := 1 }
      else if lateCommit t.op then
        ((s.partOk asn 0).cancelParts t.asn).settleVerb t.asn St.aborted 0 {}
      else
        (s.modSlot asn fun sl => { sl with waitsFor := none }).partEnd asn 0 fun p =>
          { p with status := St.targetNotFound, result := 1 }

/-! ### QUEUE RESUME (12 R394; 13 R424) -/

/-- The checks of 13 R424: the status, or the state of the queue. -/
def State.resumeCheck (s : State) (sl : Slot) : BitVec 16 × Option Sq :=
  let q := eVs sl.entry 0 2
  match s.sqs.find? q with
  | none => (St.invalidQueueId, none)
  | some x =>
    let e := eVs sl.entry 4 2
    let n := max 1 x.size
    if q = 0 then (St.invalidQueueId, none)
    else if x.state ≠ .frozen then (St.queueNotFrozen, none)
    else if eVs sl.entry 2 1 = 0 ∧ (x.size ≤ e ∨ (x.tail + n - x.head) % n < (e + n - x.head) % n) then (St.invalidField, none)
    else (St.success, some x)

/-- The queue goes RESUMING (12 R394). -/
def State.resumeStart (s : State) (asn action : Nat) : State :=
  s.adminVerb asn 0x4D fun sl =>
    if eVs sl.entry 2 1 ≠ action then s
    else
      match s.resumeCheck sl with
      | (st, none) => s.partFail asn 0 st
      | (_, some x) =>
        let stop_ := if action = 0 then eVs sl.entry 4 2 else sl.savedAwp
        { s with sqs := s.sqs.insert (eVs sl.entry 0 2) { x with state := .resuming, resume := some (asn, action == 1, stop_) } }

/-- QUEUE_RESUME_ENTRY (12 R394; 13 R424). -/
def execQueueResumeEntry (asn : Nat) (s : State) : Res := .next (s.resumeStart asn 0)

/-- QUEUE_RESUME_FLUSH (12 R394; 13 R424). -/
def execQueueResumeFlush (asn : Nat) (s : State) : Res := .next (s.resumeStart asn 1)

/-- Post QUEUE_FLUSHED for the entries from the head on while the completion queue has room; how many are posted. -/
def State.flushPost (s : State) (q : Nat) (x : Sq) (stop_ : Nat) : List (BitVec 512) → State × Nat
  | [] => (s, 0)
  | e :: rest =>
    match s.cqs.find? x.cq with
    | none => (s, 0)
    | some c =>
      if c.full || !c.held.isEmpty then (s, 0)
      else
        let r := (s.putEntry x.cq q stop_ 0 St.queueFlushed (eCid e)).flushPost q x stop_ rest
        (r.1, r.2 + 1)

/-- Fetching restarts at an entry, and the QUEUE RESUME completes (12 R394). -/
def State.resumeEnd (s : State) (q asn : Nat) (x : Sq) (stop_ : Nat) : State :=
  { s with
    sqs := s.sqs.insert q { x with
      state := .running, resume := none, head := stop_, headWaiting := false, attemptTime := 0, drawWait := none, drawFailed := none }
    waiters := s.waiters.filter fun w => w.1 != q }.partOk asn 0

/-- QUEUE_RESUME_EXECUTE (12 R394; 13 R424): once every verb of the queue has posted, entries are dropped, or flushed as
far as the completion queue has room; `entries` is what the queue holds from its head on. -/
def execQueueResumeExecute (q : Nat) (entries : List (BitVec 512)) (s : State) : Res :=
  .next <|
    match s.sqs.find? q with
    | none => s
    | some x =>
      match x.resume with
      | none => s
      | some (asn, flush, stop_) =>
        if s.slots.entries.any fun e => e.2.sq == q && !e.2.orphan then s
        else if !flush then s.resumeEnd q asn x stop_
        else
          let n := (stop_ + x.size - x.head) % max 1 x.size
          let r := s.flushPost q x stop_ (entries.take n)
          if r.2 = n then r.1.resumeEnd q asn x stop_
          else { r.1 with sqs := r.1.sqs.insert q { x with head := (x.head + r.2) % max 1 x.size } }

end Sys2Proof.Machine
end

