-- ==== Sys2Proof/Machine/Events.lean ====
section
/-! DEFINITION. The event router's commands (16 R500 to R504). -/

namespace Sys2Proof.Machine

/-- Die of an event source (00 R16). -/
def sourceDie (n : Nat) : DieId := Fin.ofNat 8 (n / 128)

/-- An EVT_ROUTE value as the register path stores it: reserved bits 0, COAL_TIME_US at most 1,000 (16 R501). -/
def routeStore (v : BitVec 64) : BitVec 64 :=
  let n := v.toNat
  BitVec.ofNat 64 (n % 8192 + 2 ^ 16 * (n / 2 ^ 16 % 256) + 2 ^ 24 * min 1000 (n / 2 ^ 24 % 1024))

/-- Store a route entry: a changed one discards the count that was building (16 R502). -/
def State.putRoute (s : State) (n : Nat) (v : BitVec 64) : State :=
  if s.evtRoute.getD n 0 = v then s
  else
    { s with
      evtRoute := if v = 0 then s.evtRoute.erase n else s.evtRoute.insert n v, coal := s.coal.erase n }

/-- A write to EVT_ROUTE[n], whole or to one 32-bit half (false: low); sources of dies not fitted ignore it (16 R501,
R502). -/
def State.writeRoute (s : State) (n : Nat) (half : Option Bool) (v : BitVec 64) : State :=
  if 1024 ≤ n ∨ !(s.fitted (sourceDie n)) then s
  else
    let old := s.evtRoute.getD n 0
    let new := match half with
      | none => v
      | some false => BitVec.ofNat 64 (old.toNat / 2 ^ 32 * 2 ^ 32 + v.toNat % 2 ^ 32)
      | some true => BitVec.ofNat 64 (old.toNat % 2 ^ 32 + 2 ^ 32 * (v.toNat % 2 ^ 32))
    s.putRoute n (routeStore new)

/-- EVT_ROUTE_WRITE (16 R501, R502). -/
def execEvtRouteWrite (n : Nat) (half : Option Bool) (v : BitVec 64) (s : State) : Res :=
  hostDoes (·.writeRoute n half v) s

/-- EVENT_COALESCE_TIMEOUT (16 R502): COAL_TIME_US has passed since the first occurrence counted. -/
def execEventCoalesceTimeout (n : Nat) (s : State) : Res := .next (when (s.coal.contains n) (·.evtSend n) s)

/-- EVENT_FORWARD (16 R500; 01 R36 opcode 0x24): a member die's oldest occurrence reaches the anchor router. -/
def execEventForward (d : DieId) (s : State) : Res :=
  onDie d s fun s =>
    match (s.die d).obs.evtOut with
    | [] => s
    | n :: rest => ((s.modObs d fun o => { o with evtOut := rest }).send d 0 0x24 n).route n

end Sys2Proof.Machine
end

