-- ==== Sys2Proof/Machine/EngOps.lean ====
section
/-! DEFINITION. Engines as faults, resets, reloads and bank swaps change them (16 R467, R493 to R497). Engine e: 0 to 23 the
sequencers, 24 the motor engine, 25 the control-law engine. -/

namespace Sys2Proof.Machine

def State.engine (s : State) (d : DieId) (e : Nat) : Engine := (s.die d).eng.engines.getD e {}

def State.modEngine (s : State) (d : DieId) (e : Nat) (f : Engine → Engine) : State :=
  s.modEng d fun x => { x with engines := x.engines.setIfInBounds e (f (x.engines.getD e {})) }

def State.setVersion (s : State) (d : DieId) (e : Nat) (v : EngVersion) : State :=
  s.modEng d fun x => { x with versions := x.versions.setIfInBounds e v }

/-- Version entry of the unit a die is meant to run on engine e (16 R497; 17 R525). -/
def State.meantEntry (s : State) (d : DieId) (e state : Nat) : EngVersion :=
  let t := entryType e
  (mfUnitOf (s.fw.manifest (s.meantSlot d t)) t).entry state

/-- A sequencer stops between or within sectors: its write sector is abandoned, its pair parked (16 R467, R495). -/
def State.sequencerStops (s : State) (d : DieId) (h : HeadId) : State :=
  let s := match ((s.die d).head h).jobs with
    | [] => s
    | j :: rest => if j.started then s.abandonJob d h j rest else s
  s.modHead d h fun x => { x with lines := .park }

/-- A reset of the motor engine floats the drive: LOCKED it resumes on the clock, else it re-acquires (03 R108). -/
def State.motorStops (s : State) (d : DieId) : State :=
  let x := s.die d
  if x.spin.gates ≠ .driven then s
  else if x.clock.state = .locked then
    s.modSpin d fun p => { p with src := .clock, m := 0, curInt := 0, spdInt := 0, iCmd := 0 }
  else s.reacquire d

def headOfEngine (e : Nat) : HeadId := Fin.ofNat 24 e

/-- What a stop of engine e does to what it drove (16 R467; 05 R159 row 19). -/
def State.engineStops (s : State) (d : DieId) (e : Nat) : State :=
  if e < 24 then s.sequencerStops d (headOfEngine e) else if e = 24 then s else s.controlLawFault d

/-- A fault is taken: 1 ILLEGAL, 2 ADDRESS, 3 CLAUSE_OVERRUN, 4 uncorrectable word (16 R493, R494). -/
def State.takeFault (s : State) (d : DieId) (e kind word : Nat) : State :=
  let s := s.modEngine d e fun x =>
    { x with run := false, stopped := true, waiting := none, faulting := none, count := 0, haltReq := false, resetReq := false }
  let rec_ := [BitVec.ofNat 8 e, BitVec.ofNat 8 kind] ++ leBytes 2 word ++ leBytes 8 (s.timeNs d) ++ leBytes 4 0
  let s := s.putDom Obj.lastEngineFault Obj.lastEngineFault.sub (dieInst d) rec_
  let s := s.modEng d fun x =>
    { x with faults := x.faults ||| (1#28 <<< e), versions := x.versions.setIfInBounds e { x.versions.getD e {} with state := 3 } }
  let s := if kind = 3 then s.bump Obj.clauseOverrunCount (dieInst d) else s
  ((s.raise d Ev.engineFault [(1, (kind : Int)), (2, (word : Int))]).engineStops d e).trialFault

/-- An engine reset: registers and store anew, from address 0 (16 R494; 03 R108; 17 R525). -/
def State.engineReset (s : State) (d : DieId) (e : Nat) : State :=
  let s := s.engineStops d e
  let s := if e = 24 then s.motorStops d else s
  let s := s.modEng d fun x => { x with regs := x.regs.filter fun k _ => k / 65536 != e }
  let s := s.modEngine d e fun _ => { run := true }
  ((s.setVersion d e (s.meantEntry d e 2)).bump Obj.engineResetCount (dieInst d)).trialFault

/-- The store of a sequencer or of the motor engine is written anew and the engine restarts at address 0; its registers
keep (16 R487, R495). -/
def State.reloadStore (s : State) (d : DieId) (e : Nat) (v : EngVersion) : State :=
  (s.modEngine d e fun x => { run := true, alu := x.alu, flags := x.flags }).setVersion d e v

/-- New control-law code in the inactive bank (16 R495). -/
def State.loadBank (s : State) (d : DieId) (v : EngVersion) : State :=
  (s.setVersion d 26 { v with state := 1 }).modEng d fun x => { x with swapPending := true }

/-- The banks swap, entries 25 and 26 with them (16 R495, R497). -/
def State.bankSwap (s : State) (d : DieId) : State :=
  let s := s.modEng d fun x =>
    let a := x.versions.getD 25 {}
    let b := x.versions.getD 26 {}
    { x with
      cleBank := !x.cleBank, swapPending := false
      versions := (x.versions.set 25 { b with state := 2 }).set 26 { a with state := if a.state = 2 then 1 else a.state } }
  s.modEngine d 25 fun x => { x with pc := 0, count := 0, waiting := none }

/-- Requests and faults as a clause ends (16 R493). -/
def State.clauseEnd (s : State) (d : DieId) (e : Nat) : State :=
  let x := s.engine d e
  let s := s.modEngine d e fun x => { x with count := 0 }
  match x.faulting with
  | some (illegal, word) => s.takeFault d e (if illegal then 1 else 2) word
  | none =>
    if x.resetReq then s.engineReset d e
    else if x.haltReq then s.modEngine d e fun x => { x with run := false, halted := true, haltReq := false }
    else s

end Sys2Proof.Machine
end

