-- ==== Sys2Proof/Machine/Firmware.lean ====
section
/-! DEFINITION. Firmware download, activation, the sprout, fallback, attestation (17 R509 to R528). -/

namespace Sys2Proof.Machine

/-! ### The update session lock (17 R514) -/

/-- The lock for an operation of a source: taken when free, its use noted; none while the other source holds it. -/
def State.lockFor (s : State) (src : Source) : Option State :=
  let take := some (s.modFw fun f => { f with lock := some (src, s.now) })
  match s.fw.lock with
  | none => take
  | some (h, _) => if h = src then take else none

/-! ### Download (17 R509 to R513) -/

/-- A download is given up: the slot becomes EMPTY (17 R510, R514). -/
def State.discardDownload (s : State) (b : Bool) : State :=
  (s.modFw fun f =>
    { ((f.setSlot b .empty).eraseBlocks b).record with nextOffset := 0, discardedFlag := true }).raise 0 Ev.fwDownloadDiscarded

/-- Blocks of 64 KiB of a transfer. -/
def blocksOf (bs : List Byte) : List (List Byte) :=
  (List.range ((bs.length + 65535) / 65536)).map fun i => (bs.drop (65536 * i)).take 65536

/-- One block is programmed and checked: a status when it fails (17 R510, R511). -/
def State.fwBlock (s : State) (b : Bool) (n : Nat) (bs : List Byte) : State × Option (BitVec 16) :=
  let s := s.modFw fun f => { f with nor := f.nor.insert (slotNo b * 2048 + n) bs }
  let m := s.fw.manifest b
  let o := 4096 + 52 * n
  if n = 0 then (s, none)
  else if n = 1 then
    if s.mfOk m then (s, none) else (s.discardDownload b, some St.fwSignatureInvalid)
  else if crc32c bs = mfU m o 4 ∧ Config.sha384 bs = sliceBytes m (o + 4) 48 then (s, none)
  else (s.discardDownload b, some St.fwBlockInvalid)

def State.fwBlocks (s : State) (b : Bool) : Nat → List (List Byte) → State × Option (BitVec 16)
  | _, [] => (s, none)
  | n, x :: rest =>
    let r := s.fwBlock b n x
    match r.2 with
    | some st => (r.1, some st)
    | none => r.1.fwBlocks b (n + 1) rest

/-- The last block has passed: the units' digests, then VERIFIED (17 R512). -/
def State.fwWhole (s : State) (b : Bool) : State × BitVec 16 :=
  if (List.range' 1 7).all (s.fw.digestOk b) then
    (s.modFw fun f => { (f.setSlot b .verified).record with nextOffset := 0 }, St.success)
  else (s.discardDownload b, St.fwBlockInvalid)

/-- One transfer of a source; `last` as the verb carries it, none where it is inferred (17 R509 to R514, R517). One that
would pass the end of the slot breaks R508 and is refused as one that breaks R509 (log 45). -/
def State.fwTransfer (s : State) (src : Source) (off : Nat) (data : List Byte) (last : Option Bool) : State × BitVec 16 :=
  match s.lockFor src with
  | none => (s, St.busyOtherSource)
  | some s =>
    if s.fw.trial ≠ .none then (s, St.fwActivationInProgress)
    else
      match s.fw.inactive with
      | none => (s, St.invalidField)
      | some b =>
        let stop_ := off + data.length
        let total := if off = 0 then mfBytes data else mfBytes (s.fw.manifest b)
        let next := off == 0 || (s.fw.slot b == .downloading && off == s.fw.nextOffset)
        let whole := data.length % 65536 == 0 || stop_ == total
        let lastOk := match last with
          | none => true
          | some l => l == decide (stop_ = total)
        if data.isEmpty || !next || !whole || !lastOk || decide (total < stop_ ∨ 134217728 < stop_) then (s, St.invalidField)
        else
          let s := if off = 0 then
              s.modFw fun f => ((f.eraseBlocks b).setSlot b .downloading).record
            else s
          let r := s.fwBlocks b (off / 65536) (blocksOf data)
          match r.2 with
          | some st => (r.1, st)
          | none =>
            let s := r.1.modFw fun f => { f with nextOffset := stop_ }
            if stop_ = total then s.fwWhole b else (s, St.success)

/-- FW_DOWNLOAD (17 R509): OFFSET, LENGTH and LAST of the verb, its bytes from host memory. -/
def execFwDownload (asn : Nat) (data : List Byte) (s : State) : Res :=
  .next <| s.adminVerb asn 0x47 fun sl =>
    let r := s.fwTransfer .host (eVs sl.entry 0 4) (sliceBytes data 0 (eVs sl.entry 4 4)) (some (eVs sl.entry 8 1 % 2 == 1))
    if r.2 = St.success then r.1.partOk asn 0 else r.1.partFail asn 0 r.2

/-- The transfer that the closing segment of an FW_BLOCK session stands for (17 R513). -/
def State.fwBlockWrite (s : State) (src : Source) (data : List Byte) : State × BitVec 16 :=
  s.fwTransfer src (s.getN Obj.fwBlockOffset 0) (data.take 65536) none

/-- FW_BLOCK_WRITE (17 R513). -/
def execFwBlockWrite (src : Source) (data : List Byte) (s : State) : Res :=
  hostDoes (fun s =>
    let r := s.fwBlockWrite src data
    { r.1 with reply := { status := r.2 } }) s

/-! ### Activation (17 R517 to R519, R523) -/

def FwState.downloading (f : FwState) : Bool := f.slot0 == .downloading || f.slot1 == .downloading

/-- Every block of a slot as stored matches the manifest (17 R517). -/
def FwState.blocksOk (f : FwState) (b : Bool) : Bool :=
  f.factory b ||
    let m := f.manifest b
    (List.range' 2 (mfBlocks m - 2)).all fun n => Config.sha384 (f.block b n) == sliceBytes m (4100 + 52 * n) 48

/-- A unit takes over the state of another (17 R518). -/
def FwUnit.takes (u old : FwUnit) : Bool := decide (u.minFormat ≤ old.format ∧ old.format ≤ u.format)

def State.liveOk (s : State) (new old : Bool) : Bool :=
  (List.range' 3 5).all fun t => (mfUnitOf (s.fw.manifest new) t).takes (mfUnitOf (s.fw.manifest old) t)

/-- What an activation or a revert comes to. -/
inductive FwStart where
  | refused (status : BitVec 16)
  /-- Live: the outcome follows the changeover, or the fallback's end -/
  | running
  /-- Reset activation: complete, RESULT [0] = 1 -/
  | byReset
deriving DecidableEq, Repr

/-- Start the slot's activation once every check has passed (17 R518, R519). -/
def State.activateSlot (s : State) (b : Bool) : State × FwStart :=
  let run := s.fw.running
  if s.liveOk b run then
    let spun := s.fittedDies.filter fun d => (s.die d).spin.state == .atSpeed
    (s.modFw fun f =>
      { f.record with
        trial := .activating, liveBack := s.liveOk run b, activating := some (b, true, false, 0), spun, checkFailed := false },
     .running)
  else
    (s.modFw fun f =>
      { (f.setSlot b .sprout).record with
        trial := .sprout, trialBoot := true, liveBack := false, resetAt := some (s.now + 100000000), spun := []
        windowStart := none, cleanSince := none, checkFailed := false },
     .byReset)

/-- The checks on a slot as stored in NOR, then its activation (17 R517). -/
def State.activateChecked (s : State) (b : Bool) : State × FwStart :=
  if !(s.mfOk (s.fw.manifest b)) then (s, .refused St.fwSignatureInvalid)
  else if !(s.fw.blocksOk b) then (s.modFw fun f => (f.setSlot b .failed).record, .refused St.fwBlockInvalid)
  else s.activateSlot b

/-- FW ACTIVATE of a source (17 R517). -/
def State.fwActivate (s : State) (src : Source) : State × FwStart :=
  match s.lockFor src with
  | none => (s, .refused St.busyOtherSource)
  | some s =>
    if s.fw.trial ≠ .none ∨ s.fw.downloading then (s, .refused St.fwActivationInProgress)
    else
      match s.fw.inactive with
      | none => (s, .refused St.fwImageIncomplete)
      | some b =>
        if s.fw.slot b = .verified ∨ s.fw.slot b = .interrupted then s.activateChecked b
        else (s, .refused St.fwImageIncomplete)

/-- FW REVERT of a source: a fallback during the sprout, else the PREVIOUS slot's activation (17 R522, R523). -/
def State.fwRevert (s : State) (src : Source) : State × FwStart :=
  match s.lockFor src with
  | none => (s, .refused St.busyOtherSource)
  | some s =>
    if s.fw.trial = .sprout ∧ s.fw.resetAt.isNone then (s.startFallback 2, .running)
    else if s.fw.trial ≠ .none ∨ s.fw.downloading then (s, .refused St.fwActivationInProgress)
    else
      match s.fw.slotIn .previous with
      | none => (s, .refused St.fwNoPrevious)
      | some b =>
        if mfSecurity (s.fw.manifest b) < s.fw.minSecurity.toNat then (s, .refused St.fwNoPrevious)
        else s.activateChecked b

/-- A verb's answer to what it has started. -/
def fwVerb (asn : Nat) (r : State × FwStart) : State :=
  match r.2 with
  | .refused st => r.1.partFail asn 0 st
  | .running => r.1.modFw fun f => { f with waiter := some asn }
  | .byReset => r.1.partOk asn 0 1

/-- FW_ACTIVATE (17 R517 to R519). -/
def execFwActivate (asn : Nat) (s : State) : Res :=
  .next <| s.adminVerb asn 0x48 fun _ => if s.fw.waiter = some asn then s else fwVerb asn (s.fwActivate .host)

/-- FW_REVERT (17 R522, R523). -/
def execFwRevert (asn : Nat) (s : State) : Res :=
  .next <| s.adminVerb asn 0x49 fun _ => if s.fw.waiter = some asn then s else fwVerb asn (s.fwRevert .host)

/-- FW_RESULT of a refusal (17 R530). -/
def fwResultOf (st : BitVec 16) : Option Int :=
  if st = St.fwSignatureInvalid then some 3
  else if st = St.fwImageIncomplete then some 4
  else if st = St.fwNoPrevious then some 5
  else if st = St.fwBlockInvalid then some 6
  else none

/-- A write of FW_COMMAND: its status (17 R513, R530). -/
def State.fwCommand (s : State) (src : Source) (v : Nat) : State × BitVec 16 :=
  let r := if v = 1 then s.fwActivate src else s.fwRevert src
  match r.2 with
  | .refused st =>
    match fwResultOf st with
    | some c => (r.1.put Obj.fwResult 0 c, st)
    | none => (r.1, st)
  | .running => ((r.1.modFw fun f => { f with waiterObj := true }).put Obj.fwResult 0 1, St.success)
  | .byReset => (r.1.put Obj.fwResult 0 7, St.success)

/-- FW_COMMAND_ACTIVATE (17 R513): a write of 1. -/
def execFwCommandActivate (src : Source) (s : State) : Res :=
  hostDoes (fun s =>
    let r := s.fwCommand src 1
    { r.1 with reply := { status := r.2 } }) s

/-- FW_COMMAND_REVERT (17 R513): a write of 2. -/
def execFwCommandRevert (src : Source) (s : State) : Res :=
  hostDoes (fun s =>
    let r := s.fwCommand src 2
    { r.1 with reply := { status := r.2 } }) s

/-! ### The changeover (17 R519; 16 R495, R497) -/

/-- One die's units of a type change over to a slot. -/
def State.changeUnits (s : State) (d : DieId) (t : Nat) (b : Bool) : State :=
  let v := (mfUnitOf (s.fw.manifest b) t).entry 2
  if t = 3 then s.setVersion d 27 v
  else if t = 6 then (s.loadBank d v).bankSwap d
  else if t = 5 then s.reloadStore d 24 v
  else if t = 4 then (List.range 24).foldl (fun s e => s.reloadStore d e v) s
  else s

/-- A verb or an object command that waited for a changeover's end. -/
def State.fwAnswer (s : State) (obj : Option Int) : State :=
  let w := s.fw.waiter
  let s := match obj with
    | some v => if s.fw.waiterObj then s.put Obj.fwResult 0 v else s
    | none => s
  let s := s.modFw fun f => { f with waiter := none, waiterObj := false }
  match w with
  | some asn => s.partOk asn 0
  | none => s

/-- Every class has changed over (17 R519, R522). -/
def State.changeEnd (s : State) (b back : Bool) : State :=
  if back then
    let s := s.modFw fun f => { f.record with trial := .none, liveBack := false, activating := none, running := b, lock := none }
    s.fallbackDone.fwAnswer none
  else
    let now := s.now
    let s := s.modFw fun f =>
      { (f.setSlot b .sprout).record with
        trial := .sprout, activating := none, running := b, windowStart := some now, cleanSince := some now }
    (s.raise 0 Ev.fwActivated).fwAnswer (some 0)

/-- FW_CLASS_CHANGEOVER (17 R519): the next class on the next die, from die N − 1 down; an isolated die is skipped. -/
def execFwClassChangeover (s : State) : Res :=
  .next <|
    match s.fw.activating with
    | none => s
    | some (b, live, back, k) =>
      let n := s.part.dies
      let d : DieId := Fin.ofNat 8 (n - 1 - k % n)
      let s := if s.isolated d || !(s.die d).imaged then s else s.changeUnits d (classType (k / n)) b
      let s := s.modFw fun f => { f with activating := some (b, live, back, k + 1) }
      if 5 * n ≤ k + 1 then s.changeEnd b back else s

/-- FW_RESET_ACTIVATION_RESET (17 R518 step 3): 100 ms have passed. -/
def execFwResetActivationReset (s : State) : Res :=
  .next (when s.fw.resetAt.isSome (fun s => (s.modFw fun f => { f with resetAt := none }).packageReset none) s)

/-! ### The sprout (17 R521, R522) -/

/-- The checks of 17 R521 as the state shows them. -/
def State.sproutOk (s : State) : Bool :=
  let m := s.fw.manifest s.fw.running
  !s.fw.checkFailed && (s.fittedDies.filter fun d => !(s.isolated d)).all fun d =>
    let x := s.die d
    ((List.range 28).all fun e => e == 26 || x.eng.versions.getD e {} == (mfUnitOf m (entryType e)).entry 2) &&
      (!(s.fw.spun.contains d) || (x.spin.state == .atSpeed && x.clock.state == .locked)) &&
      x.actA.state != .fault && x.actB.state != .fault

/-- The digests of a slot's boot stage and security monitor (17 R516). -/
def FwState.privDigests (f : FwState) (b : Bool) : List (List Byte) := [1, 2].map fun t => (mfUnitOf (f.manifest b) t).digest

/-- The sprout is confirmed (17 R521). -/
def State.confirm (s : State) : State :=
  let new := s.fw.running
  let low := min (mfSecurity (s.fw.manifest new)) (mfSecurity (s.fw.manifest (!new)))
  let s := s.modFw fun f =>
    { ((f.setSlot new .confirmed).setSlot (!new) .previous).record with
      trial := .none, liveBack := false, windowStart := none, cleanSince := none, confirmedFlag := true, lock := none
      minSecurity := if f.minSecurity.toNat < low then BitVec.ofNat 32 low else f.minSecurity
      privPending := f.privDigests new != f.privDigests f.bootSlot }
  s.raise 0 Ev.fwConfirmed

/-- FW_CONFIRMED (17 R521): CONFIRM_SOAK_S have passed without a break; a check that fails now starts them anew. -/
def execFwConfirmed (s : State) : Res :=
  .next <|
    if s.fw.trial = .sprout ∧ s.fw.windowStart.isSome then
      if s.sproutOk then s.confirm else s.modFw fun f => { f with cleanSince := some s.now }
    else s

/-- FW_CONFIRM_WINDOW_EXPIRY (17 R522). -/
def execFwConfirmWindowExpiry (s : State) : Res :=
  .next (when (s.fw.trial == .sprout && s.fw.windowStart.isSome) (·.startFallback 1) s)

/-- FW_LOCK_LAPSED (17 R514): FW_LOCK_IDLE_S have passed without an operation of the holder. -/
def execFwLockLapsed (s : State) : Res :=
  .next <|
    match s.fw.lock with
    | none => s
    | some _ =>
      let s := s.modFw fun f => { f with lock := none }
      match s.fw.slotIn .downloading with
      | none => s
      | some b => (s.discardDownload b).raise 0 Ev.fwLockLapsed

/-! ### Attestation and the security monitor (17 R527, R528) -/

def FwSlot.code : FwSlot → Nat
  | .empty => 0
  | .downloading => 1
  | .verified => 2
  | .sprout => 3
  | .confirmed => 4
  | .previous => 5
  | .interrupted => 6
  | .failed => 7

def Trial.code : Trial → Nat
  | .none => 0
  | .activating => 1
  | .sprout => 2
  | .fallingBack => 3

/-- A report begins: every member die sends its digests (17 R527). -/
def State.attestStart (s : State) (nonce : List Byte) : State :=
  let s := { s with doms := s.doms.erase (objKey Obj.attestReport.index Obj.attestReport.sub 0) }
  let s := (s.modFw fun f => { f with nonce := some nonce }).put Obj.attestResult 0 1
  (s.fittedDies.filter fun d => d.val != 0 && !(s.isolated d)).foldl (fun s d =>
    (s.send d 0 0x25 (Config.microResult s.fresh 0).toNat).useFresh) s

/-- ATTEST_NONCE_WRITE (17 R527). -/
def execAttestNonceWrite (src : Source) (nonce : List Byte) (s : State) : Res :=
  hostDoes (fun s =>
    match src with
    | .host | .manager =>
      if nonce.length = 32 then { s.attestStart nonce with reply := {} }
      else { s with reply := { status := St.tableInvalid } }) s

/-- One entry of the report. -/
def attestEntry (die typ state : Nat) (u : FwUnit) (isolated : Bool) : List Byte :=
  [BitVec.ofNat 8 die, BitVec.ofNat 8 typ, BitVec.ofNat 8 state, 0] ++ leBytes 4 u.version ++ leBytes 4 u.patch ++ leBytes 4 0 ++
    if isolated then List.replicate 48 0 else sliceBytes u.digest 0 48

/-- Entries of the report, and how many. -/
def State.attestEntries (s : State) : List (List Byte) :=
  let dies := s.fittedDies.flatMap fun d => (List.range' 1 7).map fun t =>
    let u := mfUnitOf (s.fw.manifest (s.meantSlot d t)) t
    let iso := s.isolated d
    attestEntry d.val t (if iso then 3 else if t ≤ 2 then 2 else 0) u iso
  let conf := (s.fw.slotIn .confirmed).getD s.fw.running
  dies ++ if s.fw.privPending then [1, 2].map fun t => attestEntry 255 t 1 (mfUnitOf (s.fw.manifest conf) t) false else []

/-- The signed report (17 R527). -/
def State.attestReport (s : State) (nonce : List Byte) : List Byte :=
  let es := s.attestEntries
  let body := leBytes 4 0x5454414B ++ leBytes 2 1 ++ leBytes 2 es.length ++ nonce ++ leBytes 8 s.now ++
    leBytes 4 s.fw.minSecurity.toNat ++ [BitVec.ofNat 8 s.fw.slot0.code, BitVec.ofNat 8 s.fw.slot1.code,
      BitVec.ofNat 8 s.fw.trial.code] ++ leBytes 9 0 ++ es.flatten
  body ++ sliceBytes (Config.ecdsaSign 0 (Config.sha384 body)) 0 96

/-- ATTEST_REPORT_READY (17 R527). -/
def execAttestReportReady (s : State) : Res :=
  .next <|
    match s.fw.nonce with
    | none => s
    | some n =>
      let r := s.attestReport n
      ((s.modFw fun f => { f with nonce := none }).putDom Obj.attestReport Obj.attestReport.sub 0 r).put Obj.attestResult 0 0

/-- DIE_FAILED: a member die is isolated, the anchor sets FATAL (16 R486; 01 R25). -/
def State.dieFailed (s : State) (d : DieId) : State :=
  let s := s.raise d Ev.dieFailed
  if d.val = 0 then { s with host := { s.host with fatal := true } } else s.isolate d 5

/-- Restart times within the last 10 s, with one more now; quarter ns. -/
def restartTimes (now : Nat) (ts : List Nat) : List Nat := now :: ts.filter fun t => decide (now < t + 40000000000)

/-- MONITOR_RESTART (17 R528): key operations in progress fail; three restarts within 10 s fail the die. -/
def execMonitorRestart (d : DieId) (s : State) : Res :=
  onDie d s fun s =>
    let ts := restartTimes (s.die d).clock.time4 (s.die d).eng.monRestarts
    let s := s.modEng d fun x => { x with monRestarts := ts }
    let loads := (s.slots.entries.filter fun e => e.2.op == 0x4B && e.2.ready d).map (·.1)
    let s := loads.foldl (fun s a => (s.modData d fun x => { x with unwrapFail := true }).partFail a d St.keyUnwrapFailed) s
    let s := if s.fw.nonce.isSome then (s.modFw fun f => { f with nonce := none }).put Obj.attestResult 0 2 else s
    if 3 ≤ ts.length then (s.modEng d fun x => { x with monRestarts := [] }).dieFailed d else s

/-! ### Images of member dies (17 R516) -/

/-- Every unit has arrived: the die runs (16 R497; 20 R573 step 2). -/
def State.imagesDone (s : State) (d : DieId) : State :=
  let whole := (List.range 7).all fun u =>
    decide ((mfUnitOf (s.fw.manifest (s.meantSlot d (u + 1))) (u + 1)).len ≤ s.fw.loaded.getD (d.val * 8 + u) 0) &&
      s.fw.loaded.contains (d.val * 8 + u)
  if whole then
    let s := s.modFw fun f => { f with loaded := f.loaded.filter fun k _ => k / 8 != d.val }
    ((s.modDie d fun x => { x with imaged := true }).loadUnits d (s.meantSlot d)).bootStep3 d
  else s

/-- BOOT_IMAGE_BLOCK (17 R516): the next block of a unit, which the die's monitor checks against the manifest. While the
image is that of manufacture, one block stands for the whole unit (log 8). -/
def execBootImageBlock (d : DieId) (unit : Fin 7) (data : List Byte) (s : State) : Res :=
  onDie d s fun s =>
    if d.val = 0 || (s.die d).imaged || !(s.die 0).imaged then s
    else
      let b := s.meantSlot d (unit.val + 1)
      let u := mfUnitOf (s.fw.manifest b) (unit.val + 1)
      let k := d.val * 8 + unit.val
      let at_ := s.fw.loaded.getD k 0
      let good := s.fw.factory b || (data == sliceBytes ((s.fw.unitBytes b u).drop at_) 0 data.length && !data.isEmpty)
      if good then
        let n := if s.fw.factory b then max u.len (at_ + data.length) else at_ + data.length
        (s.modFw fun f => { f with loaded := f.loaded.insert k n }).imagesDone d
      else s

end Sys2Proof.Machine
end

