-- ==== Sys2Proof/Machine/Housekeeping.lean ====
section
/-! DEFINITION. The housekeeping round, sensors, thermal flags and the thermal state (18 R531 to R547). -/

namespace Sys2Proof.Machine

/-! ### Slots (18 R531, R532) -/

/-- The slots with an input on die d (18 R532). -/
def slotUsed (d : DieId) (k : Nat) : Bool :=
  k % 16 == 0 || decide (k ≤ 17) || decide (33 ≤ k ∧ k ≤ 40) || k == 19 || k == 20 || (k == 18 && d.val == 0)

/-- Slot 63: the latest TEMP report of each live head is latched. -/
def Die.latchTemps (x : Die) : Die :=
  { x with heads := x.heads.map fun h => if h.live then { h with tempLatched := h.temp } else h }

/-- HK_SLOT (18 R531, R532, R533): the slot in progress makes its conversion. -/
def execHkSlot (d : DieId) (code : BitVec 12) (s : State) : Res :=
  onDie d s fun s =>
    let k := (s.die d).hk.slot
    if (s.die d).power = .dieSleep then s
    else if k = 63 then s.modDie d Die.latchTemps
    else
      s.modHk d fun h => { h with slot := k + 1, codes := if slotUsed d k then h.codes.set k code else h.codes }

/-! ### Readings of the round -/

/-- A code that is an open or a short circuit (18 R533). -/
def openCode (c : BitVec 12) : Bool := c == 0 || c == 4095

/-- Codes of an on-die sensor's two conversions (18 R532). -/
def tsCodes (codes : List (BitVec 12)) (i : Nat) : List (BitVec 12) := [codes.getD (1 + i) 0, codes.getD (33 + i) 0]

/-- Round value of an on-die sensor (18 R532, R533). -/
def tsValue (codes : List (BitVec 12)) (i : Nat) : Rat := ((tsCodes codes i).map sensorC).sum / 2

def ratMax : List Rat → Option Rat
  | [] => none
  | x :: r => some (r.foldl max x)

/-- Remote diode i's temperature; none for an open or short circuit. -/
def rdValue (codes : List (BitVec 12)) (i : Nat) : Option Rat :=
  let c := codes.getD (9 + i) 0
  if openCode c then none else some (sensorC c)

def State.thValue (s : State) (d : DieId) (codes : List (BitVec 12)) (i : Nat) : Option Rat :=
  let c := codes.getD (11 + i) 0
  if openCode c then none else some (s.thermistorC d c)

/-! ### Suspect sensors (18 R533, R536, R537) -/

/-- Mean that an on-die sensor's deviation is taken from: its ring neighbours that are not suspect, else every sensor
that is not suspect. -/
def ringMean (codes : List (BitVec 12)) (suspect : BitVec 8) (i : Nat) : Option Rat :=
  let good := fun j => !(suspect.getLsbD j)
  let ns := [(i + 7) % 8, (i + 1) % 8].filter good
  let xs := if ns.isEmpty then (List.range 8).filter good else ns
  if xs.isEmpty then none else some ((xs.map (tsValue codes)).sum / (xs.length : Rat))

/-- A sensor becomes suspect (18 R536). -/
def State.sensorOut (s : State) (d : DieId) (i : Nat) : State :=
  (s.modHk d fun h => { h with suspect := h.suspect ||| (1#8 <<< i), sensor := true, devDown := h.devDown.set i 0 }).raise d
    Ev.sensorSuspect

/-- One on-die sensor's deviation against `mask`, the suspects as the round began (18 R536). -/
def State.sensorStep (s : State) (d : DieId) (codes : List (BitVec 12)) (mask : BitVec 8) (i : Nat) : State :=
  let k := (s.die d).hk
  let lim := s.getQ Obj.suspectC (dieInst d)
  let dev := (ringMean codes mask i).map fun m => ratAbs (tsValue codes i - m)
  let up := match dev with
    | some v => if lim < v then k.devUp.getD i 0 + 1 else 0
    | none => 0
  let down := match dev with
    | some v => if v ≤ lim / 2 ∧ !((tsCodes codes i).any openCode) then k.devDown.getD i 0 + 1 else 0
    | none => 0
  let s := s.modHk d fun h => { h with devUp := h.devUp.set i up, devDown := h.devDown.set i down }
  if k.suspect.getLsbD i then
    if 1024 ≤ down then
      (s.modHk d fun h => { h with suspect := h.suspect &&& ~~~(1#8 <<< i) }).raise d Ev.sensorRestored
    else s
  else if s.getN Obj.suspectRounds (dieInst d) ≤ up then s.sensorOut d i
  else s

/-- On-die sensors of the round: open and short circuits at once, then the deviations. -/
def State.sensorsStep (s : State) (d : DieId) (codes : List (BitVec 12)) : State :=
  let s := (List.range 8).foldl (fun s i =>
    if (tsCodes codes i).any openCode && !((s.die d).hk.suspect.getLsbD i) then s.sensorOut d i else s) s
  let mask := (s.die d).hk.suspect
  (List.range 8).foldl (fun s i => s.sensorStep d codes mask i) s

/-- A remote diode or thermistor (slots 9 to 12) that opens or shorts is reported once per episode (18 R533). -/
def State.remoteStep (s : State) (d : DieId) (was codes : List (BitVec 12)) : State :=
  [9, 10, 11, 12].foldl (fun s i =>
    if openCode (codes.getD i 0) && !((s.die d).hk.rounds != 0 && openCode (was.getD i 0)) then
      (s.modHk d fun h => { h with sensor := true }).raise d Ev.sensorSuspect
    else s) s

/-- Suspect on-die sensors. -/
def suspectCount (m : BitVec 8) : Nat := ((List.range 8).filter fun i => m.getLsbD i).length

/-- Blindness (18 R537). -/
def State.blindStep (s : State) (d : DieId) : State :=
  let k := (s.die d).hk
  let b := decide (3 ≤ suspectCount k.suspect)
  let s := s.modHk d fun h => { h with blind := b }
  if b && !k.blind then s.raise d Ev.thermalBlind else s

/-! ### Governing temperatures (18 R535) -/

/-- Die class: the highest sensor that is not suspect, else the highest remote diode (18 R535, R537). -/
def dieClassTemp (codes : List (BitVec 12)) (suspect : BitVec 8) : Option Rat :=
  match ratMax (((List.range 8).filter fun i => !(suspect.getLsbD i)).map (tsValue codes)) with
  | some t => some t
  | none => ratMax ([0, 1].filterMap (rdValue codes))

/-- HDA class, with SENSOR_DISAGREE once per episode (18 R535). -/
def State.hdaStep (s : State) (d : DieId) (codes : List (BitVec 12)) : State :=
  let apart := match s.thValue d codes 0, s.thValue d codes 1 with
    | some a, some b => decide (10 < ratAbs (a - b))
    | _, _ => false
  let was := (s.die d).hk.disagree
  let s := s.modHk d fun h => { h with disagree := apart, sensor := h.sensor || (apart && !was) }
  if apart && !was then s.raise d Ev.sensorDisagree else s

/-- A head's latest report is older than 16 rounds (18 R535). -/
def Die.staleTemp (x : Die) (h : HeadId) : Bool :=
  (x.head h).tempLatched.isSome && decide ((x.head h).tempRound + 17 < x.hk.rounds)

/-- Live heads whose report has grown old are named once each (18 R535). -/
def State.headStep (s : State) (d : DieId) : State :=
  allHeads.foldl (fun s h =>
    let x := s.die d
    let old := (x.head h).live && x.staleTemp h
    let was := x.hk.stale.getLsbD h.val
    let bit : BitVec 24 := 1#24 <<< h.val
    let s := s.modHk d fun k =>
      { k with stale := if old then k.stale ||| bit else k.stale &&& ~~~bit, sensor := k.sensor || (old && !was) }
    if old && !was then s.raise d Ev.sensorSuspect [(1, (h.val : Int))] else s) s

/-- Head class: the highest latched temperature of the live heads whose report is not old. -/
def Die.headClassTemp (x : Die) : Option Rat :=
  ratMax ((allHeads.filter fun h => (x.head h).live && !(x.staleTemp h)).filterMap fun h =>
    (x.head h).tempLatched.map fun t => (t : Rat) / 16)

/-- The governing temperatures: die, two remote diodes, HDA, head. -/
def State.classTemps (s : State) (d : DieId) (codes : List (BitVec 12)) : List (Option Rat) :=
  [dieClassTemp codes (s.die d).hk.suspect, rdValue codes 0, rdValue codes 1,
   ratMax ([0, 1].filterMap (s.thValue d codes)), (s.die d).headClassTemp]

/-! ### Flags (18 R538 to R540) -/

/-- The dwell of R539: one round at or above a threshold, below its release, or neither. -/
def DwellFlag.next (f : DwellFlag) (dwell : Nat) (above below : Bool) : DwellFlag :=
  let up := if above then f.up + 1 else 0
  let down := if below then f.down + 1 else 0
  let on := if f.set then !(decide (dwell ≤ down)) else decide (dwell ≤ up)
  { set := on, up := up, down := down, held := if on then f.held + 1 else 0 }

/-- Class of a governing temperature: 0 die, 1 remote, 2 HDA, 3 head (18 R547). -/
def classOf (i : Nat) : Nat := [0, 1, 1, 2, 3].getD i 0

/-- Threshold of class c at level l in force, °C: the die's lowered while blind (18 R537, R538). -/
def State.thresholdAt (s : State) (d : DieId) (c l : Nat) : Rat :=
  (s.getSub Obj.thresholdC (4 * c + l + 1) (dieInst d) : Rat) -
    (if c = 0 ∧ (s.die d).hk.blind then s.getQ Obj.blindMarginC (dieInst d) else 0)

/-- The absolute flags after a round (18 R539). Flag 4i + l is governing temperature i at level l. -/
def State.absFlags (s : State) (d : DieId) (temps : List (Option Rat)) : List DwellFlag :=
  let dwell := s.getN Obj.dwellRounds (dieInst d)
  let hyst := s.getQ Obj.hysteresisC (dieInst d)
  (List.range 20).map fun n =>
    let f := (s.die d).hk.flags.getD n {}
    let t := s.thresholdAt d (classOf (n / 4)) (n % 4)
    match temps.getD (n / 4) none with
    | some v => f.next dwell (decide (t ≤ v)) (decide (v < t - hyst))
    | none => f.next dwell false false

/-- Least-squares slope in °C/s over (stamp ns, temperature) pairs; none where the stamps do not differ (18 R540). -/
def slope (xs : List (Rat × Rat)) : Option Rat :=
  let n : Rat := (xs.length : Rat)
  let tm := (xs.map Prod.fst).sum / n
  let ym := (xs.map Prod.snd).sum / n
  let den := (xs.map fun p => (p.1 - tm) * (p.1 - tm)).sum
  if den = 0 then none else some (1000000000 * (xs.map fun p => (p.1 - tm) * (p.2 - ym)).sum / den)

/-- Rate of rise of the die (false) or HDA (true) class; none until the window is full. -/
def State.rateOf (s : State) (d : DieId) (hda : Bool) : Option Rat :=
  let n := s.getN Obj.rateWindowRounds (dieInst d)
  let hs := (s.die d).hk.history.take n
  if hs.length < n then none else slope (hs.map fun e => ((e.1 : Rat), if hda then e.2.2 else e.2.1))

/-- The rate flags after a round: die warn and throttle, HDA warn and throttle (18 R540). -/
def State.rateFlags (s : State) (d : DieId) : List DwellFlag :=
  let i := dieInst d
  let dwell := s.getN Obj.dwellRounds i
  [(0, Obj.dieRateWarn, false), (1, Obj.dieRateThrottle, false), (2, Obj.hdaRateWarn, true),
    (3, Obj.hdaRateThrottle, true)].map fun e =>
    let f := (s.die d).hk.rates.getD e.1 {}
    let lim := s.getQ e.2.1 i
    match s.rateOf d e.2.2 with
    | some r => f.next dwell (decide (lim ≤ r)) (decide (r < lim / 2))
    | none => f.next dwell false false

/-! ### Supplies (18 R534) -/

/-- The supply rails: slot and nominal mV (18 R532, 21 R598). -/
def rails (d : DieId) : List (Nat × Rat) :=
  [(13, 750), (14, 800), (15, 1800), (17, 3300)] ++ (if d.val = 0 then [(18, 850)] else []) ++ [(19, 750), (20, 900)]

/-- One rail: counts, and SUPPLY_OUT_OF_RANGE once per episode. -/
def State.railStep (s : State) (d : DieId) (codes : List (BitVec 12)) (n : Nat) (rail : Nat × Rat) : State :=
  let i := dieInst d
  let dwell := s.getN Obj.dwellRounds i
  let v : Rat := ((codes.getD rail.1 0).toNat : Rat) * 1800 / 4096 * Config.railDivider rail.1
  let out := decide (rail.2 * s.get Obj.supplyTolPct i / 100 < ratAbs (v - rail.2))
  let e := (s.die d).hk.supplies.getD n (0, 0, false)
  let o := if out then e.1 + 1 else 0
  let b := if out then 0 else e.2.1 + 1
  let fire := !e.2.2 && decide (dwell ≤ o)
  let up := if e.2.2 then !(decide (dwell ≤ b)) else fire
  let s := s.modHk d fun h => { h with supplies := h.supplies.set n (o, b, up), supply := h.supply || fire }
  if fire then s.raise d Ev.supplyOutOfRange else s

def State.supplyStep (s : State) (d : DieId) (codes : List (BitVec 12)) : State :=
  (rails d).zipIdx.foldl (fun s e => s.railStep d codes e.2 e.1) s

/-! ### The thermal state (18 R541 to R544) -/

def ThermState.code : ThermState → Nat
  | .normal => 0
  | .warn => 1
  | .reduceAssist => 2
  | .reduceHeads => 3
  | .stopWrites => 4
  | .shutdown => 5

def thermOf : Nat → ThermState
  | 0 => .normal
  | 1 => .warn
  | 2 => .reduceAssist
  | 3 => .reduceHeads
  | 4 => .stopWrites
  | _ => .shutdown

/-- Classes with a set absolute flag of level l that has stayed set for `held` rounds. -/
def HkState.classesAt (k : HkState) (l held : Nat) : List Nat :=
  (((List.range 5).filter fun i =>
    let f := k.flags.getD (4 * i + l) {}
    f.set && decide (held ≤ f.held)).map classOf).dedup

/-- Classes with a set rate flag: 0 warn, 1 throttle. -/
def HkState.ratesAt (k : HkState) (l : Nat) : List Nat :=
  (if (k.rates.getD l {}).set then [0] else []) ++ (if (k.rates.getD (2 + l) {}).set then [2] else [])

/-- What calls for each state of R541: the classes. -/
def HkState.calls (k : HkState) (escalate : Nat) : Nat → List Nat
  | 1 => (k.classesAt 0 0 ++ k.ratesAt 0).dedup
  | 2 => (k.classesAt 1 0 ++ k.ratesAt 1 ++ if k.blind then [0] else []).dedup
  | 3 => k.classesAt 1 escalate
  | 4 => k.classesAt 2 0
  | 5 => k.classesAt 3 0
  | _ => []

/-- The highest state that the table yields, and the classes that decided. -/
def HkState.yields (k : HkState) (escalate : Nat) : Nat × List Nat :=
  match [5, 4, 3, 2, 1].find? fun c => !(k.calls escalate c).isEmpty with
  | some c => (c, k.calls escalate c)
  | none => (0, [])

/-- Entry to SHUTDOWN (18 R542, R543). -/
def State.thermalShutdown (s : State) (d : DieId) : State :=
  let s := s.modDie d fun x => { x with heads := x.heads.map Head.gateOff }
  let x := (s.die d).data
  let s := if x.saving.isSome ∨ x.pfail.isSome then s else (s.unloadBoth d).spinStopCommand d
  (s.modHk d fun h => { h with shutdownSeen := true }).raise d Ev.thermalShutdown

/-- Fall from SHUTDOWN: start and load under AUTO_RESTART (18 R544). -/
def State.thermalRestart (s : State) (d : DieId) : State :=
  let t := (s.die d).target
  if s.getB Obj.autoRestart (dieInst d) && !(s.isolated d) && (s.die d).data.pfail.isNone then
    if t = .active ∨ t = .reduced then s.spinFor d true else if t = .unloaded then s.spinFor d false else s
  else s

/-- Both actuators' live heads follow the Reduced state (01 R32, 18 R541). -/
def State.reducedSettle (s : State) (d : DieId) : State :=
  let t := (s.die d).target
  if (s.die d).spin.state = .atSpeed ∧ (t = .active ∨ t = .reduced) ∧ !(s.isolated d) then
    ((s.actPower d .A).actPower d .B).powerSettle d
  else s

/-- The state's change at a round's end, with what it brings (18 R541). -/
def State.thermalChange (s : State) (d : DieId) : State :=
  let k := (s.die d).hk
  let r := k.yields (s.getN Obj.escalateRounds (dieInst d))
  let old := k.state.code
  if r.1 = old then s
  else
    let free := s.fresh
    let cls : BitVec 8 := match r.2 with
      | [c] => BitVec.ofNat 8 c
      | cs => Config.decidingClass free cs
    let s := s.useFresh.modHk d fun h => { h with state := thermOf r.1, stateUp := h.stateUp || decide (old < r.1) }
    let s := s.raise d Ev.thermalStateChange [(1, (old : Int)), (1, (r.1 : Int)), (1, (cls.toNat : Int))]
    let s := if 4 ≤ r.1 ∧ old < 4 then s.calAbortIf d fun _ c => decide (1 ≤ c.kind.toNat ∧ c.kind.toNat ≤ 3) else s
    let s := if r.1 = 5 then s.thermalShutdown d else s
    let s := if old = 5 then s.thermalRestart d else s
    if r.1 ≠ 5 ∧ old ≠ 5 ∧ (decide (3 ≤ r.1) != decide (3 ≤ old)) then s.reducedSettle d else s

/-! ### The end of a round (18 R541) -/

/-- Temperatures that stay as last formed where a class forms none. -/
def keepTemps (was : List Rat) (now : List (Option Rat)) : List Rat :=
  now.zipIdx.map fun e => e.1.getD (was.getD e.2 0)

/-- The lowest HOLDUP_SNS conversion of a round, mV (18 R532). -/
def State.roundSns (s : State) (d : DieId) (codes : List (BitVec 12)) : Nat :=
  s.holdupMv d (BitVec.ofNat 12 ((([16, 32, 48].map fun i => (codes.getD i 0).toNat)).foldl min (codes.getD 0 0).toNat))

/-- The round is stamped, counted and its codes kept. -/
def State.roundClose (s : State) (d : DieId) : State :=
  let t := s.timeNs d
  let mv := s.roundSns d (s.die d).hk.codes
  let s := (s.modDie d Die.latchTemps).modData d fun x => { x with sns2 := x.sns1, sns1 := some mv }
  s.modHk d fun h =>
    { h with
      last := h.codes, codes := List.replicate 64 0, slot := 0
      rounds := min 67108863 (h.rounds + 1), stamp := t }

/-- Class temperatures, history and flags of the round just closed. -/
def State.roundFlags (s : State) (d : DieId) : State :=
  let k := (s.die d).hk
  let temps := s.classTemps d k.last
  let kept := keepTemps k.temps temps
  let s := s.modHk d fun h =>
    { h with temps := kept, history := ((h.stamp, kept.getD 0 0, kept.getD 3 0) :: h.history).take 1024 }
  let a := s.absFlags d temps
  let r := s.rateFlags d
  s.modHk d fun h => { h with flags := a, rates := r }

/-- HK_ROUND_END (18 R531 to R544; 11 R346, R347; 08 R263). -/
def execHkRoundEnd (d : DieId) (s : State) : Res :=
  onDie d s fun s =>
    let k := (s.die d).hk
    if k.slot ≠ 63 ∨ (s.die d).power = .dieSleep then s
    else
      let s := (s.sensorsStep d k.codes).remoteStep d k.last k.codes
      let s := (((s.roundClose d).blindStep d).hdaStep d k.codes).headStep d
      let s := ((s.roundFlags d).supplyStep d k.codes).thermalChange d
      let s := (s.evalWaiting d).budgetUpdate d
      (if (s.die d).data.overBudget then s.wake d else s).calRecheck d

end Sys2Proof.Machine
end

