-- ==== Sys2Proof/Machine/Memory.lean ====
section
/-! DEFINITION. Scrubbing, corrected and uncorrectable words, requests of the map cache (15 R457 to R481). -/

namespace Sys2Proof.Machine

/-! ### Counting (15 R464 to R468) -/

/-- A corrected error, or a failure in regions 8 and 9, at an address of a region (15 R466). -/
def State.corrected (s : State) (d : DieId) (r : Nat) (addr : BitVec 64) : State :=
  let i := dieInst d
  let s := (s.bumpSub Obj.ceCount r i).bumpSub Obj.ceBucket r i
  if s.get Obj.ceThreshold i ≤ s.getSub Obj.ceBucket r i then
    ((s.putSub Obj.ceBucket r i 0).modMem d fun m => { m with ceThreshold := true }).raise d Ev.memCeThreshold
      [(1, (r : Int)), (8, (addr.toNat : Int))]
  else s

/-- An uncorrectable word found by a consumer: 0 scrubber, 1 fetch, 2 DMA (15 R484 LAST_UE, UE_COUNT). -/
def State.foundUe (s : State) (d : DieId) (consumer : Nat) (w : BadWord) : State :=
  let i := dieInst d
  let rec_ := [BitVec.ofNat 8 w.region.val, if w.poisoned then 1 else 2, BitVec.ofNat 8 consumer, w.syndrome] ++
    leBytes 8 w.addr.toNat ++ leBytes 8 (s.timeNs d) ++ leBytes 8 (s.die d).clock.stamped.toNat ++ leBytes 4 0
  (s.bumpSub Obj.ueCount w.region.val i).putDom Obj.lastUe Obj.lastUe.sub i rec_

/-! ### The scrubbers (15 R461 to R465; log 23) -/

/-- DRAM installed on die d in MiB, once its training has found it (11 R337, R373). -/
def State.dramMib (s : State) (d : DieId) : Nat :=
  if (s.die d).mem.filling.contains .dram then 0 else 16384 + 8192 * (Config.dramSize d.val).val

def MemState.filled (m : MemState) (r : FillRegion) : Bool := !(m.filling.contains r)

/-- The on-chip scrubber's ranges over what has been written since power-up: buffer SRAM, core-local SRAM, control stores,
MRAM (15 R461, R462). -/
def scrubOnchip (m : MemState) : List (Nat × Nat) :=
  (if m.filled .sram then [(0, 25165824)] else []) ++ (if m.filled .coreLocal then [(25165824, 26214400)] else []) ++
    (if m.filled .controlStore then [(26214400, 27164672)] else []) ++ [(27164672, 31358976)]

/-- The DRAM scrubber's range: the usable seven eighths. -/
def State.scrubDram (s : State) (d : DieId) : List (Nat × Nat) :=
  if (s.die d).mem.filled .dram then [(0, s.dramMib d * 917504)] else []

/-- 64-bit words of a range table. -/
def rangeWords (rs : List (Nat × Nat)) : Nat := (rs.map fun r => (r.2 - r.1) / 8).foldl (· + ·) 0

/-- SCRUB_RANGES: 16 on-chip entries, then 16 DRAM entries (15 R484). -/
def State.scrubRanges (s : State) (d : DieId) : List Byte :=
  let table := fun (rs : List (Nat × Nat)) => sliceBytes (rs.flatMap fun r => leBytes 8 r.1 ++ leBytes 8 r.2) 0 256
  table (scrubOnchip (s.die d).mem) ++ table (s.scrubDram d)

/-- One word that a scrubber has read (15 R464, R465). -/
def State.scrubWord (s : State) (d : DieId) (w : ScrubWord) : State :=
  let key := (w.region.val, w.addr)
  let clean := fun (s : State) => s.modMem d fun m => { m with poisoned := m.poisoned.filter (· != key) }
  match w.outcome with
  | .correct => clean s
  | .corrected => (clean s).corrected d w.region.val w.addr
  | .poisoned => s.bump Obj.poisonSeen (dieInst d)
  | .uncorrectable =>
    let s := s.modMem d fun m =>
      { m with ueScrub := true, poisoned := if w.rewrittenSince then m.poisoned else key :: m.poisoned.filter (· != key) }
    (s.foundUe d 0 ⟨w.region, w.addr, false, w.syndrome⟩).raise d Ev.memUeScrub
      [(1, (w.region.val : Int)), (8, (w.addr.toNat : Int))]

/-- A demand read was CORRECTED: counted, and its address queued for the scrubber (15 R465, R466). -/
def State.demandCorrected (s : State) (d : DieId) (w : ScrubWord) : State :=
  let s := s.corrected d w.region.val w.addr
  if 16 ≤ (s.die d).mem.corrQ.length then s.bump Obj.cqDropped (dieInst d)
  else s.modMem d fun m => { m with corrQ := m.corrQ ++ [(w.region.val, w.addr)] }

/-- One scrubber's quota: queued words first, then the paced words; each completed round adds to its passes (15 R462,
R463, R465). -/
def State.scrubSide (s : State) (d : DieId) (dram : Bool) (ws : List ScrubWord) : State :=
  let i := dieInst d
  let n := s.getN (if dram then Obj.scrubDramWords else Obj.scrubOnchipWords) i
  let total := rangeWords (if dram then s.scrubDram d else scrubOnchip (s.die d).mem)
  if n = 0 ∨ total = 0 then s
  else
    let s := s.modMem d fun m => { m with corrQ := m.corrQ.filter fun e => decide (5 < e.1) != dram }
    let s := (ws.take n).foldl (fun s w => s.scrubWord d w) s
    let m := (s.die d).mem
    let pos := (if dram then m.dramPos else m.onchipPos) + n
    let s := if pos < total then s else s.bump (if dram then Obj.scrubPassesDram else Obj.scrubPassesOnchip) i (pos / total)
    s.modMem d fun m => if dram then { m with dramPos := pos % total } else { m with onchipPos := pos % total }

/-- SCRUB_TICK (15 R463): what demand reads corrected since the last tick, then both scrubbers. -/
def execScrubTick (d : DieId) (onchip dram demand : List ScrubWord) (s : State) : Res :=
  onDie d s fun s =>
    let s := (demand.filter fun w => w.outcome == .corrected).foldl (fun s w => s.demandCorrected d w) s
    (s.scrubSide d false onchip).scrubSide d true dram

/-- CE_LEAK_TICK (15 R466): CE_LEAK_REVS revolutions have passed. -/
def execCeLeakTick (d : DieId) (s : State) : Res :=
  onDie d s fun s =>
    let i := dieInst d
    (List.range 10).foldl (fun s r => s.putSub Obj.ceBucket r i (max 0 (s.getSub Obj.ceBucket r i - 1))) s

/-! ### Halted DMA channels (15 R467, R468) -/

/-- A read's part ends at a block with MEMORY_UNCORRECTABLE; its bytes from the block on are not delivered (15 R468). -/
def State.readUe (s : State) (d : DieId) (asn lba : Nat) : State :=
  match s.slots.find? asn with
  | none => s
  | some sl =>
    match sl.part? d with
    | none => s
    | some p =>
      if p.delivered then s
      else
        let before := ((sl.blocksOn d).takeWhile fun b => decide (dieLba d b ≠ lba)).length * 4096
        let cut := fun (q : VPart) =>
          { q with status := St.memoryUncorrectable, result := 0, lba := some lba, data := q.data.take before }
        if p.applied then s.modPart asn d cut else s.partEnd asn d cut

/-- Blocks dropped from destage: recorded unreadable, MEM_UE_DATA for each, write-throughs end with the error
(15 R468). -/
def State.dirtyLost (s : State) (d : DieId) (blocks : List Nat) : State :=
  let s := blocks.foldl (fun s b =>
    let vs := s.versions d b
    let lost := vs.filter fun v => (v.dirty || v.staging) && s.recorded d v.asn
    match lost.getLast? with
    | none => s
    | some w =>
      let s := (s.putVersions d b (vs.filter fun v => v.asn != w.asn)).modData d fun x =>
        { x with unreadable := x.unreadable.insert b St.memoryUncorrectable, rc := x.rc.erase b }
      let s := (s.modMem d fun m => { m with ueDma := true }).raise d Ev.memUeData [(8, (dieLba d b : Int))]
      if w.staging then s.partFail w.asn d St.memoryUncorrectable (some (dieLba d b)) else s) s
  s.recheck d

/-- What a halted channel carried (15 R468). -/
def State.dmaLost (s : State) (d : DieId) : DmaFault → State
  | .hostRead asn lba => s.readUe (lbaDie lba) asn lba
  | .fabricRead asn lba => s.readUe d asn lba
  | .cleanBlock b =>
    s.modData d fun x =>
      let vs := (x.wc.getD b []).filter fun v => v.dirty || v.staging
      { x with rc := x.rc.erase b, wc := if vs.isEmpty then x.wc.erase b else x.wc.insert b vs }
  | .dirtyDestage b => s.dirtyLost d [b]
  | .dirtyAcorn b =>
    s.modData d fun x =>
      { x with saving := x.saving.map fun a =>
          { a with blocks := a.blocks.map fun k => if k.key = b then { k with crcGood := false } else k } }
  | .compression lane =>
    match (s.die d).data.lanes.getD lane.val none with
    | none => s
    | some j =>
      if j.decomp then s
      else
        let s := s.modData d fun x =>
          { x with
            lanes := x.lanes.set lane.val none
            compQ := if j.retried then x.compQ else { j with retried := true } :: x.compQ }
        if j.retried then s.dirtyLost d (j.clean.map (·.1)) else s
  | .decompression lane =>
    match (s.die d).data.lanes.getD lane.val none with
    | none => s
    | some j =>
      if !j.decomp then s
      else
        let s := s.modData d fun x =>
          { x with
            lanes := x.lanes.set lane.val none
            decompQ := if j.retried then x.decompQ else { j with retried := true } :: x.decompQ }
        if j.retried then
          match (s.die d).data.husks.find? (huskKey j.zone j.unit) with
          | some h => s.huskEvent d (j.zone * zoneSpan + h.offset) .huskDataBad
          | none => s
        else s

/-- DMA_UNCORRECTABLE (15 R467, R468). -/
def execDmaUncorrectable (d : DieId) (w : BadWord) (x : DmaFault) (s : State) : Res :=
  onDie d s fun s =>
    (((s.modMem d fun m => { m with ueDma := true }).foundUe d 2 w).raise d Ev.memUeDma).dmaLost d x

/-! ### Map cache requests (15 R472 to R477, R480, R481) -/

/-- Count a map request: 0 hit, 1 miss, 2 side-buffer hit, 3 eviction-buffer hit (15 R484, 19 R549). -/
def State.mapCount (s : State) (d : DieId) (k : Nat) : State :=
  let o := [Obj.mapHits, Obj.mapMisses, Obj.mapSideHits, Obj.mapEvictHits].getD k Obj.mapHits
  (s.bump o (dieInst d)).count d (0xB0 + k)

/-- Replace an entry of a cached line; a line that was clean takes the record's JSEQ (15 R472). -/
def MemState.writeEntry (m : MemState) (off : Nat) (jseq : BitVec 32) (v : BitVec 128) : MemState :=
  match m.look off with
  | none => m
  | some w =>
    let i := lineSet off
    let x := (m.set i).way w
    m.setWay i w { x with
      entries := x.entries.set (off / 16 % 4) v, dirty := true, dirtyJseq := if x.dirty then x.dirtyJseq else jseq }

def MemState.touch (m : MemState) (off : Nat) : MemState :=
  match m.look off with
  | none => m
  | some w =>
    let c := m.set (lineSet off)
    m.putSet (lineSet off) { c with plru := plruTouch c.plru w }

/-- Bring the line of a request into the cache and count how it was found; none while a dirty victim waits (15 R472 to
R476). -/
def State.mapFetch (s : State) (d : DieId) (off : Nat) : Option State :=
  let m := (s.die d).mem
  let put := fun (m : MemState) => s.modMem d fun _ => m
  let miss := fun (s : State) =>
    if inPool off && s.getB Obj.mapPrefetchNext (dieInst d) then s.modMem d fun m => m.prefetch (lineStart off + 64) else s
  match m.look off with
  | some _ => some ((put (m.touch off)).mapCount d 0)
  | none =>
    match m.lookEvict off with
    | some l => (m.install off l.entries).map fun m => (put m).mapCount d 3
    | none =>
      match m.lookSide off with
      | some l =>
        (m.install off l.entries).map fun m =>
          miss (((put { m with side := m.side.filter (· != l) }).mapCount d 1).mapCount d 2)
      | none => (m.install off (m.fromDram off)).map fun m => miss ((put m).mapCount d 1)

/-- A zone whose frame index entry is lost (15 R480): it becomes OFFLINE in its executed and its admission view. -/
def State.zoneLost (s : State) (d : DieId) (z : Nat) : State :=
  (s.journal d 0 [.zone z { (s.zone d z).desc with state := .offline }]).modZone d z fun v => { v with astate := .offline }

/-- An entry that fails its CRC at its use (15 R480). -/
def State.mapBad (s : State) (d : DieId) (off : Nat) (chk : MapCheck) : State :=
  let i := dieInst d
  let first := fun (s : State) =>
    let s := s.corrected d 8 (BitVec.ofNat 64 off)
    let m := (s.die d).mem
    match m.look off with
    | none => s
    | some w =>
      let x := (m.set (lineSet off)).way w
      if x.dirty then
        ((s.modMem d fun m => { m with mapEntryBad := true }).bump Obj.entryRebuilt i).raise d Ev.mapEntryBad
      else (s.modMem d fun m => m.setWay (lineSet off) w { x with entries := m.fromDram off }).bump Obj.entryRefetch i
  match chk with
  | .good | .tagParity _ => s
  | .bad => first s
  | .stillBad => (first s).bump Obj.entryRebuilt i
  | .lost z =>
    let s := (((first s).modMem d fun m => { m with mapEntryLost := true }).bump Obj.entryLost i).raise d Ev.mapEntryLost
    match z with
    | some z => s.zoneLost d z
    | none => s.isolate d 4

/-- A tag whose parity fails: its way is dropped, the set's dirty ways are written back, and the ring's replay gives DRAM
what the way held (15 R481). -/
def State.tagBad (s : State) (d : DieId) (off : Nat) (way : Fin 8) : State :=
  let i := lineSet off
  let s := s.modMem d fun m =>
    let m := MemState.drainEvict 8 m
    let x := (m.set i).way way.val
    let m := m.cleanSet i fun _ => true
    { m.setWay i way.val { x with valid := false, lock := false, dirty := false, entries := [] } with mapTagParity := true }
  (s.corrected d 9 (BitVec.ofNat 64 off)).raise d Ev.mapTagParity

/-- A request of a consumer that meets no parity failure. -/
def State.mapServe (s : State) (d : DieId) (off : Nat) (wr : Option (BitVec 128)) (chk : MapCheck) : State :=
  match s.mapFetch d off with
  | none => s
  | some s =>
    match wr with
    | none => s.mapBad d off chk
    | some v => s.modMem d fun m => m.writeEntry off (BitVec.ofNat 32 (s.die d).data.tail) v

/-- MAP_CACHE_REQUEST (15 R472 to R476, R480, R481): a read, or a write of a whole entry, at a byte offset of the map
area. -/
def execMapCacheRequest (d : DieId) (off : Nat) (wr : Option (BitVec 128)) (chk : MapCheck) (s : State) : Res :=
  onDie d s fun s =>
    if !(cacheable off) then
      match wr with
      | none => s
      | some v => s.modMem d fun m => m.putArea (off / 16) v
    else
      let refused := match wr with
        | none => false
        | some v => decide (entryCrc (v.setWidth 112) ≠ (v >>> 112).toNat)
      if refused then s.corrected d 8 (BitVec.ofNat 64 off)
      else
        match chk with
        | .tagParity way => (s.tagBad d off way).mapServe d off wr .good
        | _ => s.mapServe d off wr chk

/-- MAP_EVICT_DONE (15 R474, R478): entry i of the eviction buffer has reached DRAM. -/
def execMapEvictDone (d : DieId) (i : Fin 8) (s : State) : Res :=
  onDie d s fun s => s.modMem d fun m => m.evictDone i.val

/-- MAP_PREFETCH (15 R476). -/
def execMapPrefetch (d : DieId) (off : Nat) (s : State) : Res :=
  onDie d s fun s => if cacheable off then s.modMem d fun m => m.prefetch off else s

/-- MAP_LINE_LOCK (15 R477): a line not in the cache is fetched first; a third lock in a set is refused. -/
def execMapLineLock (d : DieId) (off : Nat) (s : State) : Res :=
  onDie d s fun s =>
    let i := lineSet off
    let held := ((s.die d).mem.set i).ways.any fun w => w.lock && w.tag == lineTag off
    if !(cacheable off) || held || decide (2 ≤ ((s.die d).mem.set i).locked) then s
    else
      let s? := if ((s.die d).mem.look off).isSome then some s else s.mapFetch d off
      match s? with
      | none => s
      | some s =>
        match (s.die d).mem.look off with
        | none => s
        | some w => s.modMem d fun m => m.setWay i w { (m.set i).way w with lock := true }

/-- MAP_LINE_UNLOCK (15 R477). -/
def execMapLineUnlock (d : DieId) (off : Nat) (s : State) : Res :=
  onDie d s fun s =>
    let i := lineSet off
    s.modMem d fun m =>
      let c := m.set i
      if c.ways.any fun w => w.lock && w.tag == lineTag off then
        m.putSet i { c with ways := c.ways.map fun w => if w.tag = lineTag off then { w with lock := false } else w }
      else m

/-- MAP_RANGE_INVALIDATE (15 R478): 64-byte-aligned start and length in the map area. -/
def execMapRangeInvalidate (d : DieId) (start len : Nat) (s : State) : Res :=
  onDie d s fun s =>
    if start % 64 = 0 ∧ len % 64 = 0 ∧ 0 < len then
      s.modMem d fun m => ({ m with invRanges := m.invRanges ++ [(start, start + len)] }).goOn
    else s

end Sys2Proof.Machine
end

