-- ==== Sys2Proof/Machine/ObjRead.lean ====
section
/-! DEFINITION. Reading the object dictionary: values that the state shows, the DOMAIN contents, resolution of an
address (14 R431 to R441, R454). -/

namespace Sys2Proof.Machine

/-! ### Fixed and device-unique values (log 11) -/

/-- A device-unique string of at most n characters. -/
def uniqueText (kind d n : Nat) : List Byte := (Config.deviceUnique kind d).take n

def asciiBytes (t : String) : List Byte := t.toList.map fun c => BitVec.ofNat 8 c.toNat

def Part.text : Part → String
  | .kz6420 => "KZ-6420"
  | .kz6440 => "KZ-6440"
  | .kz6480 => "KZ-6480"

def packageSerial : List Byte := uniqueText 0 0 32

def hdaSerialText (d : DieId) : List Byte := uniqueText 1 d.val 32

def packageUuid : List Byte := sliceBytes (Config.deviceUnique 2 0) 0 16

def ianaNumber : Nat := ofLeBytes (sliceBytes (Config.deviceUnique 3 0) 0 4)

/-- Version and patch level of the active image (13 R415). -/
def State.imageVersion (s : State) : Nat := mfVersion (s.fw.manifest s.fw.running)

def State.imagePatch (s : State) : Nat := mfPatch (s.fw.manifest s.fw.running)

/-- Bit d set while die d is not isolated (13 R415; 20 R583). -/
def State.dieMap (s : State) : Nat :=
  (s.fittedDies.filter fun d => !(s.isolated d)).foldl (fun m d => m + 2 ^ d.val) 0

/-- PHYSICAL_BYTES of a die, which the spec does not compute (13 R416; log 28). -/
def State.physicalBytes (s : State) (d : DieId) : Nat :=
  Config.physicalBytes d.val (s.dom Obj.servoFormat 0 (dieInst d) [] ::
    allHeads.map fun h => s.dom Obj.recordingFormat 0 (headInst d h) [])

/-! ### Q16.16 values that are formed when read (14 R433; log 25) -/

/-- Nearest whole number, ties away from zero (14 R433). -/
def roundAway (x : Rat) : Int := if 0 ≤ x then (x + 1 / 2).floor else -((-x + 1 / 2).floor)

/-- The 32-bit number of a Q16.16 value; what a value outside the format reads as is not stated (log 25). -/
def q16Of (x : Rat) : Int :=
  let v := roundAway (x * 65536)
  if -2147483648 ≤ v ∧ v ≤ 2147483647 then v
  else
    let n : Int := (Config.narrow 32 v.natAbs % 2 ^ 32 : Nat)
    if 2147483648 ≤ n then n - 4294967296 else n

/-- A count in an unsigned field of w bits (log 25). -/
def fitU (w : Nat) (x : Rat) : Int := (narrow w x.floor.toNat : Nat)

/-! ### Parts of an instance -/

/-- Die, head and actuator that an instance byte names (00 R13). -/
def instDie (i : Nat) : DieId := Fin.ofNat 8 (i / 32)

def instHead (i : Nat) : HeadId := Fin.ofNat 24 (i % 32)

def instAct (i : Nat) : Act := if i % 32 = 24 then .A else .B

def State.oHead (s : State) (i : Nat) : Head := (s.die (instDie i)).head (instHead i)

def State.oAct (s : State) (i : Nat) : Actuator := (s.die (instDie i)).act (instAct i)

def State.oDie (s : State) (i : Nat) : Die := s.die (instDie i)

/-- Speed error against the trimmed set-point in ppm (03 R90, R110). -/
def State.speedErrorPpm (s : State) (d : DieId) : Rat :=
  let x := s.die d
  let sp := (s.get Obj.setRpm (dieInst d) : Rat) * (1 + x.clock.trimPpm / 1000000)
  (x.spin.speed - sp) / sp * 1000000

/-- Share of usable DRAM that the partitions leave to the read cache, MiB (11 R337). -/
def readCacheOf (installed pool ring wc staging trace : Nat) : Int :=
  (installed : Int) * 7 / 8 - 256 - (68 + pool + ring) - wc - staging - trace

def State.readCacheMib (s : State) (d : DieId) : Nat :=
  let g := fun (o : ObjDef) => s.getN o (dieInst d)
  (readCacheOf (s.dramMib d) (g Obj.framePagePoolMib) (g Obj.journalRingMib) (g Obj.writeCacheMib) (g Obj.compStagingMib)
    (g Obj.traceRingMib)).toNat

def zoneCount (x : DieData) (p : ZState → Bool) : Nat := (x.zones.entries.filter fun e => p e.2.astate).length

def State.confirmLeft (s : State) : Nat :=
  match s.fw.windowStart with
  | some t => if s.fw.trial = .sprout then s.getN Obj.confirmWindowS 0 - (s.now - t) / 1000000000 else 0
  | none => 0

def lockCode : Option (Source × Nat) → Int
  | none => 0
  | some (.host, _) => 1
  | some (.manager, _) => 2

def State.lockedWays (s : State) (d : DieId) : Nat :=
  ((s.die d).mem.sets.entries.map fun e => (e.2.ways.filter (·.lock)).length).sum

def maskOf (p : HeadId → Bool) : Nat := (allHeads.filter p).foldl (fun m h => m + 2 ^ h.val) 0

/-! ### Values that the state shows -/

abbrev Live := ObjDef × (State → Nat → Nat → Int)

/-- Angle clock, spindle, servo (02 R78; 03 R110; 04 R132; 05 R169). -/
def liveDrive : List Live :=
  [(Obj.angleState, fun s _ i => ((s.oDie i).clock.state.ctorIdx : Int)),
   (Obj.wedgesPerRev, fun s _ i => ((s.oDie i).servoW : Int)),
   (Obj.phaseErrorAu, fun s _ i => (s.oDie i).clock.phaseErr),
   (Obj.packageTime, fun s _ _ => (s.now : Int)),
   (Obj.timeOffsetNs, fun s _ i => (s.oDie i).clock.offsetNs),
   (Obj.timeAligned, fun s _ i => if s.aligned (instDie i) then 1 else 0),
   (Obj.spinState, fun s _ i => ((s.oDie i).spin.state.ctorIdx : Int)),
   (Obj.measuredRpm, fun s _ i => q16Of (s.oDie i).spin.speed),
   (Obj.speedErrorPpm, fun s _ i => q16Of (s.speedErrorPpm (instDie i))),
   (Obj.elecOffset, fun s _ i => ((s.elecOffset (instDie i)).toNat : Int)),
   (Obj.positionRecord, fun s _ i => ((s.oHead i).record.toNat : Int)),
   (Obj.headServoState, fun s _ i => ((s.oHead i).servo.ctorIdx : Int)),
   (Obj.actState, fun s _ i => ((s.oAct i).state.ctorIdx : Int)),
   (Obj.coeffBankActive, fun s _ i => if (s.oAct i).bank then 1 else 0),
   (Obj.vcmCommand, fun s _ i => (s.oAct i).vcmCmd),
   (Obj.maCommand, fun s _ i => (s.oHead i).maCmd),
   (Obj.writePermit, fun s _ i => (maskOf fun h => ((s.oDie i).head h).permit : Int))]

/-- Channel, assist, calibration, zones (06 R213; 07 R235; 08 R268; 09 R303). -/
def liveMedia : List Live :=
  [(Obj.recordingRegion, fun s _ i => ((s.oHead i).region : Int)),
   (Obj.pclState, fun s _ i => ((s.oAct i).pcl.ctorIdx : Int)),
   (Obj.budgetEffMw, fun s _ i => fitU 16 (s.bEff (instDie i))),
   (Obj.verifyPending, fun s _ i => ((s.oDie i).data.verify.length : Int)),
   (Obj.assistPowerMw, fun s _ i => fitU 16 (s.charge (instDie i) (instHead i))),
   (Obj.staleMask, fun s _ i => (s.staleMask (instDie i) : Int)),
   (Obj.holdupCUf, fun s _ i => (s.holdupC (instDie i) : Int)),
   (Obj.openZones, fun s _ i =>
      (zoneCount (s.oDie i).data fun z => z == .implicitOpen || z == .explicitOpen : Int)),
   (Obj.writingZones, fun s _ i => ((s.writingZones (instDie i)).length : Int)),
   (Obj.numBands, fun s _ i => (s.numBands (instDie i) : Int)),
   (Obj.convBands, fun s _ i => (s.convBandsOf (instDie i) : Int)),
   (Obj.freeBands, fun s _ i => (s.freeBands (instDie i) (instHead i) : Int)),
   (Obj.freeGroupsW12, fun s _ i => (s.freeGroups (instDie i) (instAct i) : Int)),
   (Obj.formatSeq, fun s _ i => ((s.oDie i).data.formatSeq : Int)),
   (Obj.keyState, fun s k i => ((s.keyDom (instDie i) k).state.ctorIdx : Int)),
   (Obj.keyId, fun s k i =>
      let x := s.keyDom (instDie i) k
      if x.state = .keyed then (x.keyId.toNat : Int) else 0)]

/-- Buffers and the host interface (11 R373; 12 R399). -/
def liveHost : List Live :=
  [(Obj.writeBackState, fun s _ i => (s.writeBackState (instDie i) : Int)),
   (Obj.dirtyBudgetBytes, fun s _ i => ((s.oDie i).data.budget : Int)),
   (Obj.dirtyBytes, fun s _ i => (dirtyBytes (s.oDie i).data : Int)),
   (Obj.holdupVMv, fun s _ i => ((s.oDie i).data.vCalc : Int)),
   (Obj.jseq, fun s _ i => ((s.oDie i).data.tail : Int)),
   (Obj.readCacheMib, fun s _ i => (s.readCacheMib (instDie i) : Int)),
   (Obj.dramInstalledMib, fun s _ i => (s.dramMib (instDie i) : Int)),
   (Obj.acornState, fun s _ i => ((s.oDie i).data.acornState.ctorIdx : Int)),
   (Obj.linkSpeedGts, fun s _ _ => (s.host.gts : Int)),
   (Obj.linkWidth, fun s _ _ => (s.host.width : Int)),
   (Obj.ioQueuesCreated, fun s _ _ => ((s.sqs.keys.filter (· != 0)).length : Int)),
   (Obj.ioCqsCreated, fun s _ _ => ((s.cqs.keys.filter (· != 0)).length : Int)),
   (Obj.outstandingVerbs, fun s _ _ => ((s.slots.entries.filter fun e => !e.2.orphan).length : Int)),
   (Obj.frozenQueues, fun s _ _ => ((s.sqs.entries.filter fun e => e.2.state != .running).length : Int)),
   (Obj.asnNext, fun s _ _ => (s.asn : Int))]

/-- Identity, management link, memory, engines, firmware (14 R454; 15 R483; 16 R505; 17 R530; 21 R620). -/
def livePackage : List Live :=
  [(Obj.fwVersion, fun s _ _ => (s.imageVersion : Int)),
   (Obj.fwPatch, fun s _ _ => (s.imagePatch : Int)),
   (Obj.dies, fun s _ _ => (s.part.dies : Int)),
   (Obj.dieMap, fun s _ _ => (s.dieMap : Int)),
   (Obj.ianaEnterprise, fun _ _ _ => (ianaNumber : Int)),
   (Obj.deviceEid, fun s _ _ => (s.mgmt.eid.toNat : Int)),
   (Obj.i3cDynAddr, fun s _ _ => (s.mgmt.dynAddr.toNat : Int)),
   (Obj.maxPacketPayload, fun s _ _ => (max 64 (min 256 (min s.mgmt.mrl.toNat s.mgmt.mwl.toNat - 5)) : Nat)),
   (Obj.rwrPending, fun s _ i => ((s.rwr.keys.filter (keyOf (some (instDie i)))).length : Int)),
   (Obj.lockedWays, fun s _ i => (s.lockedWays (instDie i) : Int)),
   (Obj.cleBankActive, fun s _ i => if (s.oDie i).eng.cleBank then 1 else 0),
   (Obj.runningSlot, fun s _ _ => if s.fw.running then 1 else 0),
   (Obj.slotState0, fun s _ _ => (s.fw.slot0.code : Int)),
   (Obj.slotState1, fun s _ _ => (s.fw.slot1.code : Int)),
   (Obj.trialState, fun s _ _ => (s.fw.trial.code : Int)),
   (Obj.confirmRemainingS, fun s _ _ => (s.confirmLeft : Int)),
   (Obj.minSecurityVersion, fun s _ _ => (s.fw.minSecurity.toNat : Int)),
   (Obj.lockHolder, fun s _ _ => lockCode s.fw.lock),
   (Obj.privPending, fun s _ _ => if s.fw.privPending then 1 else 0),
   (Obj.downloadNextOffset, fun s _ _ => (s.fw.nextOffset : Int)),
   (Obj.straps, fun s _ _ => ((s.host.strapSa.toNat + 4 * s.host.strapBoot.toNat : Nat) : Int)),
   (Obj.refclkPpm, fun s _ _ => s.host.refclkPpm.toInt)]

/-- Housekeeping, counters, die state (18 R547; 19 R569; 20 R590). -/
def liveDie : List Live :=
  [(Obj.thermalState, fun s _ i => ((s.oDie i).hk.state.code : Int)),
   (Obj.dieTemp, fun s _ i => q16Of ((s.oDie i).hk.temps.getD 0 0)),
   (Obj.hdaTemp, fun s _ i => q16Of ((s.oDie i).hk.temps.getD 3 0)),
   (Obj.headTemp, fun s _ i => 4096 * (s.oHead i).tempLatched.getD 0),
   (Obj.dieRate, fun s _ i => q16Of ((s.rateOf (instDie i) false).getD 0)),
   (Obj.hdaRate, fun s _ i => q16Of ((s.rateOf (instDie i) true).getD 0)),
   (Obj.suspectMask, fun s _ i => ((s.oDie i).hk.suspect.toNat : Int)),
   (Obj.thermallyBlind, fun s _ i => if (s.oDie i).hk.blind then 1 else 0),
   (Obj.counterEvent, fun s k i => (((s.oDie i).obs.cnts.getD k {}).event.toNat : Int)),
   (Obj.counterValue, fun s k i => (((s.oDie i).obs.cnts.getD k {}).value.toNat : Int)),
   (Obj.eventLogNextSeq, fun s _ i => ((s.oDie i).obs.nextSeq : Int)),
   (Obj.dieState, fun s _ i => ((s.oDie i).life.ctorIdx : Int)),
   (Obj.isolationCause, fun s _ i => ((s.oDie i).cause : Int)),
   (Obj.hdaPowerTarget, fun s _ i => ((s.oDie i).target.code : Int)),
   (Obj.hdaPowerState, fun s _ i => ((s.oDie i).power.code : Int))]

def liveAll : List Live := liveDrive ++ liveMedia ++ liveHost ++ livePackage ++ liveDie

/-- The value in force of a scalar entry (14 R434). -/
def State.value (s : State) (o : ObjDef) (sub inst : Nat) : Int :=
  match liveAll.find? fun e => e.1 == o with
  | some e => e.2 s sub inst
  | none => s.getSub o sub inst

/-! ### DOMAIN and STR contents -/

/-- Header version 1 with a second word, the HDA serial CRC, and a CRC at `at_` over the bytes from 16 on. -/
def tableOf (second third serial : List Byte) (body : List Byte) : List Byte :=
  leBytes 2 1 ++ second ++ third ++ serial ++ leBytes 4 (crc32c body) ++ body

/-- A control loop's record (05 R145). -/
def LoopCoeff.bytes (l : LoopCoeff) : List Byte :=
  leBytes 1 l.lutShift ++ leBytes 1 l.nbiq ++ leBytes 2 l.uLimit ++ leBytes 2 l.pLimit ++ leBytes 2 l.intLimit ++ leBytes 4 0 ++
    leBytes 4 l.ki ++ intBytes 4 l.kff0 ++ intBytes 4 l.kff1 ++ intBytes 4 l.kaff ++ leBytes 4 0 ++
    sliceBytes (l.biquads.flatMap fun b => sliceBytes (b.flatMap (intBytes 4)) 0 20) 0 120 ++
    sliceBytes (l.lut.flatMap (leBytes 2)) 0 512

/-- A coefficient set (05 R145). -/
def CoeffSet.bytes (c : CoeffSet) : List Byte :=
  let body := sliceBytes (c.weights.flatMap (leBytes 2)) 0 24 ++ leBytes 8 0 ++
    sliceBytes (c.loops.flatMap LoopCoeff.bytes) 0 8632
  tableOf [13, 0] (leBytes 4 c.serialCrc.toNat) (leBytes 4 0) body

/-- The factory content of a table, as the model takes it (14 R437; log 10). -/
def State.factoryTable (s : State) (o : ObjDef) (i : Nat) : List Byte :=
  let x := s.oDie i
  let hda := leBytes 4 x.hdaCrc.toNat
  if o = Obj.servoFormat then
    tableOf (leBytes 2 x.servoW) (leBytes 4 x.tracks) hda (sliceBytes (x.skew.flatMap (intBytes 2)) 0 48)
  else if o = Obj.wedgeAngleTable then
    tableOf (leBytes 2 x.clock.table.length) hda (leBytes 4 0) (x.clock.table.flatMap (leBytes 4))
  else if o = Obj.commutationTable then
    let t := x.spin.table
    let body := sliceBytes (t.entries.flatMap (intBytes 2)) 0 8192
    leBytes 2 1 ++ leBytes 1 t.polePairs ++ [0] ++ leBytes 4 t.elecOffset.toNat ++ leBytes 2 t.rPhase ++ leBytes 2 t.lPhase ++
      intBytes 4 t.ke ++ hda ++ leBytes 4 (crc32c body) ++ body
  else if o = Obj.chevronGeometry then
    let band := leBytes 4 (640 * 65536) ++ leBytes 4 (64 * 65536)
    tableOf (leBytes 2 16) hda (leBytes 4 0) ((List.replicate 32 band).flatten ++ leBytes 64 0)
  else if o = Obj.recordingFormat then
    let n := (layoutOf x.clock.table (s.guardAu (instDie i)) 53333333).length
    tableOf (leBytes 2 1) hda (leBytes 4 0)
      (sliceBytes (leBytes 4 0 ++ leBytes 4 53333333 ++ leBytes 2 n ++ leBytes 10 0 ++ [32]) 0 1024)
  else if o = Obj.preampInit then tableOf (leBytes 2 0) (leBytes 2 0) (leBytes 6 0) []
  else if o = Obj.assistTable then tableOf [1, 0] hda (leBytes 4 0) (leBytes 144 0)
  else if o = Obj.defectList then tableOf (leBytes 2 0) (leBytes 4 0) (leBytes 4 0) []
  else []

/-- Header of the base matrix; its shifts are not in the spec (06 R181; log 11). -/
def ldpcMatrix : List Byte :=
  tableOf (leBytes 2 128) (leBytes 2 30 ++ leBytes 2 287) (leBytes 4 0) (sliceBytes (Config.deviceUnique 8 0) 0 17220)

def EngVersion.bytes (v : EngVersion) : List Byte :=
  leBytes 4 v.version.toNat ++ leBytes 4 v.patch.toNat ++ leBytes 4 v.digest32.toNat ++ leBytes 4 v.state.toNat

/-- EVENT_ROUTING (16 R504). -/
def State.routeBytes (s : State) : List Byte := (List.range 1024).flatMap fun n => leBytes 8 (s.evtRoute.getD n 0).toNat

/-- A block that the state shows. -/
def State.liveBytes (s : State) (o : ObjDef) (sub i : Nat) : Option (List Byte) :=
  let d := instDie i
  if o = Obj.vendor then some (asciiBytes "STOARO")
  else if o = Obj.part then some (asciiBytes s.part.text)
  else if o = Obj.serial then some packageSerial
  else if o = Obj.hdaSerial then some (hdaSerialText d)
  else if o = Obj.deviceUuid then some packageUuid
  else if o = Obj.servoCoeffPending then some (s.oAct i).pendingSet.bytes
  else if o = Obj.servoCoeffActive then some (s.oAct i).coeff.bytes
  else if o = Obj.eqTaps then some (sliceBytes ((s.oHead i).taps.flatMap (intBytes 2)) 0 64)
  else if o = Obj.ldpcBaseMatrix then some ldpcMatrix
  else if o = Obj.calRecord then some (((s.calRecordOf d sub i).map (·.bytes)).getD [])
  else if o = Obj.keyTransportPubkey then some (sliceBytes (Config.deviceUnique 5 d.val) 0 97)
  else if o = Obj.keyTransportCert then some (Config.deviceUnique 6 d.val)
  else if o = Obj.identityCertChain then some (Config.deviceUnique 7 0)
  else if o = Obj.keyLoadNonce then some (s.nonceOf d sub)
  else if o = Obj.scrubRanges then some (s.scrubRanges d)
  else if o = Obj.engineVersions then some ((s.die d).eng.versions.toList.flatMap EngVersion.bytes)
  else if o = Obj.eventRouting then some s.routeBytes
  else if o = Obj.hkRound then
    let k := (s.die d).hk
    some (leBytes 8 k.stamp ++ k.last.flatMap fun c => leBytes 2 c.toNat)
  else if o = Obj.snapshotSet then some s.snapPage
  else if o = Obj.eventLog then some (s.eventPage d)
  else none

/-- A DOMAIN or STR value in force. -/
def State.block (s : State) (o : ObjDef) (sub i : Nat) : List Byte :=
  match s.liveBytes o sub i with
  | some bs => bs
  | none =>
    let bs := s.dom o sub i []
    if bs.isEmpty then s.factoryTable o i else bs

/-! ### Resolution of an address (14 R431) -/

/-- The instances an entry accepts, among the fitted dies (00 R13). -/
def State.instOk (s : State) (o : ObjDef) (sub inst : Nat) : Bool :=
  let x := inst % 32
  match o.inst with
  | .package => inst == 0
  | .die => s.fitted (instDie inst) && x == 31
  | .act => s.fitted (instDie inst) && (x == 24 || x == 25)
  | .head => s.fitted (instDie inst) && decide (x < 24)
  | .anyCal => s.fitted (instDie inst) && (decide (x ≤ 25) || x == 31)
  | .perKind => s.fitted (instDie inst) && calAllowed sub inst

/-- The die whose service applies an access to an entry (14 R444). -/
def ObjDef.dieOf (o : ObjDef) (inst : Nat) : DieId := if o.inst = .package then 0 else instDie inst

/-- The checks of an address in order: the status that fails, or the entry. `known` is false for an endpoint that is not
the manager (14 R431, R452). -/
def State.resolve (s : State) (known write : Bool) (index sub inst : Nat) : Except (BitVec 16) ObjDef :=
  match objFind index sub with
  | none => .error St.objectNotFound
  | some o =>
    if !(s.instOk o sub inst) then .error St.instanceInvalid
    else if o.inst ≠ .package ∧ s.isolated (instDie inst) ∧ index ≠ 0x1000 ∧ !(write && o == Obj.dieReset) then
      .error St.dieIsolated
    else if !known && (write || index ≠ 0x1000) then .error St.untrustedSource
    else if write && o.acc == .ro then .error St.accessDenied
    else if !write && (o.acc == .wo || o.acc == .cmd) then .error St.accessDenied
    else .ok o

/-! ### Reading (14 R433, R439, R441) -/

/-- Status, RESULT and data of an object access. -/
structure ObjAns where
  status : BitVec 16 := 0
  result : Nat := 0
  data : List Byte := []
deriving DecidableEq, Repr, Inhabited

/-- A result report whose code is PENDING (14 R439). -/
def State.reportPending (s : State) (o : ObjDef) (i : Nat) : Bool :=
  (o == Obj.calReport && s.get Obj.calResult i == 1) || (o == Obj.attestReport && s.get Obj.attestResult 0 == 1)

/-- A segment of a block (14 R441). -/
def segmentOf (bs : List Byte) (off len : Nat) : ObjAns :=
  if bs.length ≤ off ∧ !(off == 0 && bs.isEmpty) then { status := St.invalidField }
  else
    let x := (bs.drop off).take len
    { result := x.length + 2 ^ 32 * bs.length, data := x }

/-- Read an entry whose address has been resolved. -/
def State.readEntry (s : State) (o : ObjDef) (sub inst off len : Nat) : ObjAns :=
  match o.typ with
  | .domain => if s.reportPending o inst then { status := St.pending } else segmentOf (s.block o sub inst) off len
  | .str =>
    let x := (s.block o sub inst).take len
    { result := x.length + 2 ^ 32 * (s.block o sub inst).length, data := x }
  | _ =>
    if len ≠ o.typ.size then { status := St.invalidField }
    else { result := len + 2 ^ 32 * len, data := intBytes len (s.value o sub inst) }

/-- GET OBJECT as a whole. -/
def State.objGet (s : State) (known : Bool) (index sub inst off len : Nat) : ObjAns :=
  match s.resolve known false index sub inst with
  | .error st => { status := st }
  | .ok o => s.readEntry o sub inst off len

end Sys2Proof.Machine
end

