-- ==== Sys2Proof/Machine/ObjWrite.lean ====
section
/-! DEFINITION. Writing the object dictionary: ranges, what a new value does, commands, DOMAIN sessions, restore defaults
(14 R433 to R445). -/

namespace Sys2Proof.Machine

/-- State, status and RESULT [15:0]. -/
abbrev ObjRes := State × BitVec 16 × Nat

/-- A refusal named by a code (13 R429; 14 R440). -/
def refusedWith (s : State) (code : Nat) : ObjRes := (s, St.objectStateConflict, code)

/-! ### Ranges and acceptance of scalars (14 R433) -/

/-- The value that the next reset would put in force: the pending one, else the one in force (11 R337). -/
def State.nextVal (s : State) (o : ObjDef) (i : Nat) : Int :=
  match s.rwr.find? (objKey o.index o.sub i) with
  | some bs => o.typ.decode bs
  | none => s.get o i

/-- The die's DRAM partitions with one of them set to v (11 R337): the read cache keeps 1,024 MiB, the write cache holds
DIRTY_LIMIT_MIB and 512 MiB more. -/
def State.partitionOk (s : State) (o : ObjDef) (i : Nat) (v : Int) : Bool :=
  let g := fun (p : ObjDef) => (if p = o then v else s.nextVal p i).toNat
  let installed := 16384 + 8192 * (Config.dramSize (i / 32)).val
  decide (1024 ≤ readCacheOf installed (g Obj.framePagePoolMib) (g Obj.journalRingMib) (g Obj.writeCacheMib)
    (g Obj.compStagingMib) (g Obj.traceRingMib)) && decide (g Obj.dirtyLimitMib + 512 ≤ g Obj.writeCacheMib)

/-- The journal ring holds twice the longest tail (11 R353). -/
def State.ringOk (s : State) (o : ObjDef) (i : Nat) (v : Int) : Bool :=
  let g := fun (p : ObjDef) => if p = o then v else s.nextVal p i
  decide (2 * g Obj.journalTailMaxMib ≤ g Obj.journalRingMib)

def bitCount : Nat → Nat → Nat
  | 0, _ => 0
  | n + 1, v => v % 2 + bitCount n (v / 2)

/-- An event number that counts something (19 R549). -/
def eventNumber (n : Nat) : Bool :=
  decide (n ≤ 3) || decide (0x10 ≤ n ∧ n < 0x28) || decide (0x30 ≤ n ∧ n < 0x48) || decide (0x50 ≤ n ∧ n < 0x68) ||
    decide (0x70 ≤ n ∧ n < 0x88) || decide (0x90 ≤ n ∧ n ≤ 0x92) || decide (0xA0 ≤ n ∧ n ≤ 0xA4) ||
    decide (0xB0 ≤ n ∧ n ≤ 0xB3) || n == 0xC0 || n == 0xC1 || n == 0xC8 || n == 0xC9 || decide (0xD0 ≤ n ∧ n ≤ 0xD7) ||
    decide (0x100 ≤ n ∧ n ≤ 0x17F)

/-- The range of a class's thresholds (18 R538). -/
def thresholdRange (c : Nat) : Int × Int := [(60, 125), (60, 150), (30, 90), (30, 120)].getD c (0, -1)

/-- Ranges of R538 and the order of a class's four thresholds. -/
def State.thresholdOk (s : State) (sub i : Nat) (v : Int) : Bool :=
  let k := sub - 1
  let r := thresholdRange (k / 4)
  let at_ := fun n => s.getSub Obj.thresholdC n i
  decide (r.1 ≤ v ∧ v ≤ r.2) && (k % 4 == 0 || decide (at_ (sub - 1) < v)) && (k % 4 == 3 || decide (v < at_ (sub + 1)))

/-- MISS_WI < MISS_DROP < MISS_RECOVER with one of them set to v (04 R130). -/
def State.missOk (s : State) (o : ObjDef) (i : Nat) (v : Int) : Bool :=
  let g := fun (p : ObjDef) => if p = o then v else s.get p i
  decide (g Obj.missWi < g Obj.missDrop) && decide (g Obj.missDrop < g Obj.missRecover)

abbrev Rule := ObjDef × (State → Nat → Nat → Int → Bool)

/-- What an entry's own statement asks of a value beside its range (each chapter's object table). -/
def valueRules : List Rule :=
  [(Obj.timingHeads, fun _ _ _ v => let n := bitCount 24 v.toNat; decide (1 ≤ n ∧ n ≤ 8)),
   (Obj.reversalRpm, fun s _ i v => decide (v < s.get Obj.catchRpm i)),
   (Obj.alignCurrent, fun s _ i v => decide (v ≤ s.get Obj.iSpinupMax i)),
   (Obj.spinupMaxConcurrent, fun s _ _ v => decide (v ≤ (s.part.dies : Int))),
   (Obj.missWi, fun s _ i v => s.missOk Obj.missWi i v),
   (Obj.missDrop, fun s _ i v => s.missOk Obj.missDrop i v),
   (Obj.missRecover, fun s _ i v => s.missOk Obj.missRecover i v),
   (Obj.vUnload, fun s _ i v => decide (v ≤ s.get Obj.vMax i)),
   (Obj.wpEntryLimit, fun s _ i v => decide (v ≤ s.get Obj.wiLimit i)),
   (Obj.adjVerifyLimit, fun s _ i v => decide (s.get Obj.wiLimit i ≤ v)),
   (Obj.verifyIterLimit, fun s _ i v => decide (v ≤ s.get Obj.ldpcIterNormal i)),
   (Obj.preheatLeadAu, fun s _ i v => decide (v ≤ s.get Obj.dataGuardAu i - 8)),
   (Obj.holdupPfailMv, fun s _ i v => decide (s.get Obj.holdupVminMv i < v)),
   (Obj.dieRateThrottle, fun s _ i v => decide (s.get Obj.dieRateWarn i < v)),
   (Obj.hdaRateThrottle, fun s _ i v => decide (s.get Obj.hdaRateWarn i < v)),
   (Obj.thresholdC, fun s k i v => s.thresholdOk k i v),
   (Obj.writeCacheMib, fun s _ i v => s.partitionOk Obj.writeCacheMib i v),
   (Obj.compStagingMib, fun s _ i v => s.partitionOk Obj.compStagingMib i v),
   (Obj.traceRingMib, fun s _ i v => s.partitionOk Obj.traceRingMib i v),
   (Obj.framePagePoolMib, fun s _ i v => s.partitionOk Obj.framePagePoolMib i v),
   (Obj.dirtyLimitMib, fun s _ i v => s.partitionOk Obj.dirtyLimitMib i v),
   (Obj.journalRingMib, fun s _ i v => s.partitionOk Obj.journalRingMib i v && s.ringOk Obj.journalRingMib i v),
   (Obj.journalTailMaxMib, fun s _ i v => s.ringOk Obj.journalTailMaxMib i v),
   (Obj.defaultWidth, fun _ _ _ v => [1, 2, 3, 4, 6, 12].contains v),
   (Obj.defaultHuskKib, fun _ _ _ v => [0, 16, 32, 64].contains v),
   (Obj.zoneCapBlocks, fun _ _ _ v => v % 64 == 0),
   (Obj.managerEid, fun _ _ _ v => v == 0 || decide (8 ≤ v)),
   (Obj.confirmSoakS, fun s _ _ v => decide (v ≤ s.get Obj.confirmWindowS 0)),
   (Obj.fwBlockOffset, fun _ _ _ v => v % 65536 == 0),
   (Obj.traceK, fun _ _ _ v => decide (v ≤ 20) || v == 255),
   (Obj.counterEvent, fun _ _ _ v => eventNumber v.toNat)]

/-- A value within an entry's range and rules (14 R433). -/
def State.valueOk (s : State) (o : ObjDef) (sub i : Nat) (v : Int) : Bool :=
  decide (o.lo ≤ v ∧ v ≤ o.hi) && (valueRules.filter fun r => r.1 == o).all fun r => r.2 s sub i v

/-! ### Putting a scalar in force -/

/-- What follows from a new value of a setting beside its storing. -/
def State.applied (s : State) (o : ObjDef) (i : Nat) (old new : Int) : State :=
  let d := instDie i
  if o = Obj.setRpm then s.rpmChanged d old new
  else if o = Obj.coastRpm then (if (s.die d).clock.coasting then s.setCoastRate d else s)
  else if o = Obj.phaseLockEnable then
    (if new = 0 then { s with dies := s.dies.map fun x => { x with clock := x.clock.noPhase } } else s)
  else if o = Obj.bwWindow ∨ o = Obj.bwWindowUnit then (if new = old then s else s.bwEnd d true)
  else if o = Obj.traceSeed then { s with lfsr := BitVec.ofInt 32 new }
  else if o = Obj.traceK then (if old = 255 ∧ new ≠ 255 then { s with traceFullSeen := false } else s)
  else s

/-- MRAM takes no record while the die's thermal state is SHUTDOWN (14 R435; 18 R542). -/
def State.storeFails (s : State) (d : DieId) : Bool := (s.die d).hk.state == .shutdown

/-- The set-points of the fitted dies with die d's as given are all equal (02 R75; 03 R94). -/
def State.sameRpm (s : State) (d : DieId) (v : Int) : Bool :=
  let g := fun (e : DieId) => if e = d then v else s.get Obj.setRpm (dieInst e)
  s.fittedDies.all fun e => g e == g 0

/-- A state in which a chapter refuses the write of a setting: the code of its refusal (02 R75; 03 R94; 09 R281). -/
def State.stateRefusal (s : State) (o : ObjDef) (i : Nat) (v : Int) : Option Nat :=
  let d := instDie i
  if o = Obj.setRpm then
    if (s.die d).anyLoaded then some 6
    else if s.getB Obj.phaseLockEnable 0 && !(s.sameRpm d v) then some 7
    else none
  else if o = Obj.phaseLockEnable then
    if v = 1 ∧ !(s.sameRpm 0 (s.get Obj.setRpm (dieInst 0))) then some 0 else none
  else if o = Obj.writeFailed then
    let x := s.die d
    let y := x.head (instHead i)
    if v = 0 ∧ s.headFailed d (instHead i) ∧ (!x.bootDone ∨ x.identFail ∨ y.noWrite) then some 0 else none
  else none

/-- Kind and payload of the record that holds a scalar object, with the object's new value (08 R261; 14 R435). -/
def State.recordWith (s : State) (o : ObjDef) (i : Nat) (v : Int) : Option (Nat × List Byte) :=
  let d := instDie i
  if o = Obj.writeDelayAu then
    let p := s.payloadNow d 1 i
    some (1, p.take 4 ++ intBytes 4 v ++ p.drop 8)
  else if o = Obj.maGain then some (5, intBytes 4 v)
  else if o = Obj.vcmGainTrim then some (6, intBytes 4 v)
  else if o = Obj.elecOffset then some (8, intBytes 4 v)
  else none

/-- A pending value replaces the last one; the value in force cancels it (14 R436). -/
def State.pend (s : State) (k : Nat) (bs inForce : List Byte) : State :=
  if bs = inForce then { s with rwr := s.rwr.erase k } else { s with rwr := s.rwr.insert k bs }

/-- Write a scalar whose value has been accepted, under its access class (14 R434 to R436). -/
def State.setScalar (s : State) (o : ObjDef) (sub i : Nat) (v : Int) : ObjRes :=
  let d := o.dieOf i
  match s.stateRefusal o i v with
  | some c => refusedWith s c
  | none =>
    match s.recordWith o i v with
    | some e => s.writeRecordObject d e.1 i e.2
    | none =>
      if o = Obj.hdaPowerTarget then s.powerTarget d v.toNat
      else if o = Obj.writeFailed then
        (if v = 1 then s.writeFailed d (instHead i) else s.put Obj.writeFailed i 0, St.success, 0)
      else if o = Obj.counterEvent then
        (s.modObs d fun x => { x with cnts := x.cnts.modify sub fun c => { c with event := BitVec.ofInt 10 v } }, St.success, 0)
      else if o = Obj.counterValue then
        (s.modObs d fun x => { x with cnts := x.cnts.modify sub fun c => { c with value := BitVec.ofInt 48 v } }, St.success, 0)
      else if o.acc ≠ .rw ∧ s.storeFails d then refusedWith s Refuse.storeFail.toNat
      else
        let old := s.getSub o sub i
        let bs := intBytes o.typ.size v
        if o.acc = .rwr then (s.pend (objKey o.index sub i) bs (intBytes o.typ.size old), St.success, 0)
        else
          let s := if o.acc = .rws then s.save o sub i bs else s
          ((s.putSub o sub i v).applied o i old v, St.success, 0)

/-! ### Commands (14 R438) -/

def ofCode (r : State × Option Nat) : ObjRes :=
  match r.2 with
  | none => (r.1, St.success, 0)
  | some c => refusedWith r.1 c

/-- ACT_COMMAND 1, with the rate check of each load (05 R158; 06 R176). -/
def State.actLoad (s : State) (d : DieId) (a : Act) : State × Option Nat :=
  let was := ((s.die d).act a).state
  let r := s.loadCommand d a
  if ((r.1.die d).act a).state = .loading ∧ was ≠ .loading then (r.1.rateLimits d a, r.2) else r

/-- Entries of RESTORE_DEFAULTS that keep their values (14 R445). -/
def keepsValue (o : ObjDef) : Bool :=
  decide (0x5000 ≤ o.index ∧ o.index ≤ 0x5FFF) ||
    [Obj.calRecord, Obj.maGain, Obj.vcmGainTrim, Obj.elecOffset, Obj.writeDelayAu, Obj.managerEid, Obj.deviceEid].contains o

/-- Instance bytes of an entry on the dies that are not isolated. -/
def State.instancesOf (s : State) (o : ObjDef) : List Nat :=
  let ds := s.fittedDies.filter fun d => !(s.isolated d)
  match o.inst with
  | .package => [0]
  | .die => ds.map dieInst
  | .act => ds.flatMap fun d => [actInst d .A, actInst d .B]
  | .head => ds.flatMap fun d => allHeads.map (headInst d)
  | .anyCal | .perKind => []

/-- Restore one entry's default: whether it was refused (14 R445). A default that is in force and not pending elsewhere
leaves the entry alone. -/
def State.restoreOne (s : State) (o : ObjDef) (sub i : Nat) : State × Bool :=
  let v := o.default sub
  if s.value o sub i = v ∧ !(s.rwr.contains (objKey o.index sub i)) then (s, false)
  else
    let r := s.setScalar o sub i v
    (r.1, r.2.1 != St.success)

/-- Every RW, RWS and RWR entry takes its default, in the table's order (14 R445); a refused one is counted. -/
def State.restoreAll (s : State) : State × Nat :=
  let os := objTable.filter fun o =>
    (o.acc == .rw || o.acc == .rws || o.acc == .rwr) && !(keepsValue o) && o.typ != .domain && o.typ != .str
  let all := os.flatMap fun o => (List.range' o.sub o.subs).flatMap fun k => (s.instancesOf o).map fun i => (o, k, i)
  let s := { s with evtRoute := {}, coal := s.coal.filter fun k _ => s.evtRoute.getD k 0 == 0 }
  all.foldl (fun r e => let q := r.1.restoreOne e.1 e.2.1 e.2.2; (q.1, if q.2 then r.2 + 1 else r.2)) (s, 0)

/-- A write of 1 to RESTORE_DEFAULTS (14 R445). -/
def State.restore (s : State) : State :=
  let r := s.restoreAll
  (r.1.put Obj.restoreSkipped 0 r.2).put Obj.restoreResult 0 (if r.2 = 0 then 0 else 12)

/-- A write to a CMD entry of a value in its range. `asn` is the verb that carries it. -/
def State.command (s : State) (src : Source) (asn : Option Nat) (o : ObjDef) (i v : Nat) : ObjRes :=
  let d := instDie i
  if o = Obj.spinCommand then (if v = 1 then ofCode (s.spinStartCommand d) else (s.spinStopCommand d, St.success, 0))
  else if o = Obj.actCommand then
    (if v = 1 then ofCode (s.actLoad d (instAct i)) else (s.unloadCommand d (instAct i), St.success, 0))
  else if o = Obj.coeffSwap then
    (if (s.oAct i).swapReq then refusedWith s Refuse.commandPending.toNat else ofCode (s.swapCommand d (instAct i)))
  else if o = Obj.calCommand then s.calCommand d i v
  else if o = Obj.formatCommand then s.formatCommand d
  else if o = Obj.restoreDefaults then (s.restore, St.success, 0)
  else if o = Obj.fwCommand then let r := s.fwCommand src v; (r.1, r.2, 0)
  else if o = Obj.snapshotCommand then ofCode (s.snapCommand (BitVec.ofNat 8 v))
  else if o = Obj.packageReset then (s.packageReset asn, St.success, 0)
  else if o = Obj.dieReset then (if v = 1 then s.dieReset1 d else s.isolate d 7, St.success, 0)
  else (s, St.success, 0)

/-- Write a scalar entry: length, range, rules, class (14 R433, R434). -/
def State.writeScalar (s : State) (src : Source) (asn : Option Nat) (o : ObjDef) (sub i len : Nat) (data : List Byte) :
    ObjRes :=
  if len ≠ o.typ.size then (s, St.invalidField, 0)
  else
    let v := o.typ.decode (sliceBytes data 0 len)
    if !(s.valueOk o sub i v) then (s, St.valueInvalid, 0)
    else if o.acc = .cmd then s.command src asn o i v.toNat
    else s.setScalar o sub i v

/-! ### DOMAIN values (14 R442) -/

/-- Longest value of an entry in bytes. -/
def domainMax (o : ObjDef) (sub : Nat) : Nat :=
  if o = Obj.wedgeAngleTable then 4112
  else if o = Obj.commutationTable then 8216
  else if o = Obj.servoFormat then 64
  else if o = Obj.chevronGeometry then 336
  else if o = Obj.servoCoeffPending then 8680
  else if o = Obj.recordingFormat then 1040
  else if o = Obj.preampInit then 1036
  else if o = Obj.assistTable then 160
  else if o = Obj.defectList then 524304
  else if o = Obj.calRecord then 36 + calLength sub
  else if o = Obj.eventRouting then 8192
  else if o = Obj.fwBlock then 65536
  else if o = Obj.attestNonce then 32
  else 16777216

/-- A route entry that EVENT_ROUTING takes (16 R504). -/
def State.routeOk (s : State) (n : Nat) (v : BitVec 64) : Bool :=
  routeStore v == v && routeTarget v != 3 && (v == 0 || s.fitted (sourceDie n))

def routeWords (bs : List Byte) : List (BitVec 64) := (List.range 1024).map fun n => BitVec.ofNat 64 (fieldU bs (8 * n) 8)

/-- The acceptance checks of a table that has no record of its own to be written first. -/
def State.tableOk (s : State) (o : ObjDef) (i : Nat) (bs : List Byte) : Bool :=
  let d := instDie i
  if o = Obj.wedgeAngleTable then wedgeTableOk bs (s.nextServoW d)
  else if o = Obj.commutationTable then commTableOk bs
  else if o = Obj.servoFormat then servoFormatOk bs
  else if o = Obj.servoCoeffPending then coeffOk bs
  else if o = Obj.recordingFormat then recordingFormatOk bs (s.nextWedges d) (s.nextGuard d) (s.nextTracks d)
  else if o = Obj.preampInit then preampInitOk bs
  else if o = Obj.defectList then defectListOk bs
  else true

/-- Apply a whole value of a DOMAIN entry (14 R442 step 3). -/
def State.applyDomain (s : State) (src : Source) (o : ObjDef) (sub i : Nat) (bs : List Byte) : ObjRes :=
  let d := o.dieOf i
  if o = Obj.eventRouting then
    let ws := routeWords bs
    if bs.length ≠ 8192 ∨ !((List.range 1024).all fun n => s.routeOk n (ws.getD n 0)) then (s, St.tableInvalid, 0)
    else ((List.range 1024).foldl (fun s n => s.putRoute n (ws.getD n 0)) s, St.success, 0)
  else if o = Obj.fwBlock then let r := s.fwBlockWrite src bs; (r.1, r.2, 0)
  else if o = Obj.attestNonce then (if bs.length = 32 then (s.attestStart bs, St.success, 0) else (s, St.tableInvalid, 0))
  else if o = Obj.calRecord then s.importRecord d sub i bs
  else if o = Obj.chevronGeometry then s.writeRecordObject d 4 i bs
  else if o = Obj.assistTable then s.writeRecordObject d 3 i bs
  else if !(s.tableOk o i bs) then (s, St.tableInvalid, 0)
  else if s.storeFails d then refusedWith s Refuse.storeFail.toNat
  else if o = Obj.servoCoeffPending then
    let c := coeffAt bs
    (s.modAct d (instAct i) fun y =>
      { (if y.bank then { y with bank0 := c } else { y with bank1 := c }) with pendingOk := true }, St.success, 0)
  else if o.acc = .rwr then (s.pend (objKey o.index sub i) bs (s.block o sub i), St.success, 0)
  else ((s.save o sub i bs).putDom o sub i bs, St.success, 0)

def State.dropSession (s : State) (src : Source) (k : Nat) : State :=
  { s with sessions := s.sessions.filter fun x => !(x.src == src && x.key == k) }

/-- A segment extends a session, and closes it when it is the last (14 R442). -/
def State.segment (s : State) (src : Source) (o : ObjDef) (sub i : Nat) (sofar data : List Byte) (last : Bool) : ObjRes :=
  let k := objKey o.index sub i
  let all := sofar ++ data
  let s := s.dropSession src k
  if domainMax o sub < all.length then (s, St.invalidField, 0)
  else if last then s.applyDomain src o sub i all
  else ({ s with sessions := s.sessions ++ [{ src, key := k, die := o.dieOf i, data := all, time := s.now }] }, St.success, 0)

/-- One segment of a DOMAIN write (14 R440, R442). -/
def State.writeDomain (s : State) (src : Source) (o : ObjDef) (sub i off len : Nat) (last : Bool) (data : List Byte) : ObjRes :=
  let k := objKey o.index sub i
  let data := sliceBytes data 0 len
  let mine := s.sessions.find? fun x => x.src == src && x.key == k
  if s.sessions.any fun x => x.key == k && x.src != src then refusedWith s Refuse.domainSessionHeld.toNat
  else if off = 0 then
    if mine.isNone ∧ 4 ≤ (s.sessions.filter fun x => x.die == o.dieOf i).length then
      refusedWith s Refuse.sessionLimit.toNat
    else s.segment src o sub i [] data last
  else
    match mine with
    | none => refusedWith s Refuse.noSession.toNat
    | some x => if off ≠ x.data.length then refusedWith s Refuse.segmentOrder.toNat else s.segment src o sub i x.data data last

/-- SET OBJECT as a whole (14 R431, R434). -/
def State.objSet (s : State) (src : Source) (known : Bool) (asn : Option Nat) (index sub inst off len : Nat) (last : Bool)
    (data : List Byte) : ObjRes :=
  match s.resolve known true index sub inst with
  | .error st => (s, st, 0)
  | .ok o =>
    match o.typ with
    | .domain => s.writeDomain src o sub inst off len last data
    | .str => (s, St.accessDenied, 0)
    | _ => s.writeScalar src asn o sub inst len data

end Sys2Proof.Machine
end

