-- ==== Sys2Proof/Machine/Objects.lean ====
section
/-! DEFINITION. The commands of the object dictionary: GET OBJECT and SET OBJECT, the object window, forwarded accesses,
write sessions, restore defaults (13 R419; 14 R431 to R446). -/

namespace Sys2Proof.Machine

/-! ### One access -/

/-- An access with its address and operands (14 R431, R444). -/
def State.objDo (s : State) (known : Bool) (asn : Option Nat) (a : ObjAccess) : State × ObjAns :=
  let ix := a.index.toNat
  if a.write then
    let r := s.objSet a.src known asn ix a.sub.toNat a.inst.toNat a.segOff a.len a.last a.data
    (r.1, { status := r.2.1, result := r.2.2 })
  else (s, s.objGet known ix a.sub.toNat a.inst.toNat a.segOff a.len)

/-- The member die that an access is forwarded to: its entry is that die's own (14 R444). None when the anchor answers. -/
def State.objTarget (s : State) (known : Bool) (a : ObjAccess) : Option DieId :=
  match s.resolve known a.write a.index.toNat a.sub.toNat a.inst.toNat with
  | .error _ => none
  | .ok o => if (o.dieOf a.inst.toNat).val = 0 ∨ s.isolated (o.dieOf a.inst.toNat) then none else some (o.dieOf a.inst.toNat)

/-- Forward an access in an urgent-class message, opcode 0x25 (01 R24, R36; 14 R444). -/
def State.forward (s : State) (d : DieId) (a : ObjAccess) : State :=
  (s.modDie d fun x => { x with accesses := x.accesses ++ [a] }).send 0 d 0x25
    (a.index.toNat + 2 ^ 16 * a.sub.toNat + 2 ^ 24 * a.inst.toNat + 2 ^ 32 * a.segOff)

/-! ### Verbs (13 R413, R419) -/

/-- The access that a GET OBJECT or SET OBJECT entry spells. -/
def Slot.access (sl : Slot) (asn : Nat) (write : Bool) (data : List Byte) : ObjAccess :=
  let e := sl.entry
  { write, src := .host, index := BitVec.ofNat 16 (eVs e 0 2), sub := BitVec.ofNat 8 (eVs e 2 1)
    inst := BitVec.ofNat 8 (eVs e 3 1), segOff := eVs e 4 4, len := eVs e 8 4, last := eVs e 12 1 % 2 == 1, data
    asn := some asn, window := false, req := none }

/-- The answer to a verb's access is its outcome (13 R419, R429, R430). -/
def State.objVerbEnd (s : State) (asn : Nat) (r : ObjAns) : State :=
  s.partEnd asn 0 fun p =>
    { p with
      status := r.status, result := BitVec.ofNat 64 r.result, data := r.data
      detail := if r.status = St.objectStateConflict then BitVec.ofNat 32 r.result else 0 }

/-- An earlier GET OBJECT or SET OBJECT of the same queue has been neither applied nor forwarded (14 R444). -/
def State.objEarlier (s : State) (asn : Nat) (sl : Slot) : Bool :=
  s.slots.entries.any fun e =>
    decide (e.1 < asn) && e.2.sq == sl.sq && (e.2.op == 0x42 || e.2.op == 0x43) && e.2.ready 0 &&
      e.2.parts.any fun p => p.die.val == 0 && !p.begun

/-- Run an object verb: applied by the anchor, or forwarded once to the die that owns the entry. -/
def State.objVerb (s : State) (asn : Nat) (sl : Slot) (a : ObjAccess) : State :=
  let begun := sl.parts.any fun p => p.die.val == 0 && p.begun
  if begun || s.objEarlier asn sl then s
  else
    match s.objTarget true a with
    | some d => (s.modPart asn 0 fun p => { p with begun := true }).forward d a
    | none =>
      let r := s.objDo true (some asn) a
      r.1.objVerbEnd asn r.2

/-- GET_OBJECT (13 R419; 14 R431 to R441). -/
def execGetObject (asn : Nat) (s : State) : Res :=
  .next (s.adminVerb asn 0x42 fun sl => s.objVerb asn sl (sl.access asn false []))

/-- SET_OBJECT (13 R419; 14 R434 to R442): `data` as fetched from the host. -/
def execSetObject (asn : Nat) (data : List Byte) (s : State) : Res :=
  .next (s.adminVerb asn 0x43 fun sl => s.objVerb asn sl (sl.access asn true data))

/-! ### The object window (14 R446) -/

def WindowRegs.access (w : WindowRegs) (data : List Byte) : ObjAccess :=
  { write := w.write, src := .host, index := w.index, sub := w.sub, inst := w.inst, segOff := w.segOff.toNat
    len := w.len.toNat, last := w.last, data, asn := none, window := true, req := none }

def State.winAnswer (s : State) (r : ObjAns) : State :=
  if s.win.busy then { s with win := { s.win with answer := some (r.status, r.result, r.data) } } else s

/-- The window's access starts: on the anchor, or forwarded. -/
def State.windowGo (s : State) (data : List Byte) : State :=
  if s.host.fatal || s.win.busy then s
  else
    let a := s.win.access data
    let s := { s with win := { s.win with busy := true, answer := none, buffer := if s.win.write then data else s.win.buffer } }
    if !(s.die 0).recordsRead then s.winAnswer { status := St.notReady }
    else if a.len = 0 ∨ 65536 < a.len then s.winAnswer { status := St.invalidField }
    else
      match s.objTarget true a with
      | some d => s.forward d a
      | none =>
        let r := s.objDo true none a
        r.1.winAnswer r.2

/-- OBJECT_WINDOW_GO (14 R446): GO written to OBJ_CONTROL, `data` being what the buffer holds. -/
def execObjectWindowGo (data : List Byte) (s : State) : Res := hostDoes (·.windowGo data) s

/-- OBJECT_WINDOW_DONE (14 R446): the access ends once it has been applied. -/
def execObjectWindowDone (s : State) : Res :=
  .next <|
    match s.win.answer with
    | none => s
    | some a =>
      if s.win.busy then
        { s with win := { s.win with
            busy := false, done := true, status := a.1, result := BitVec.ofNat 64 a.2.1, answer := none
            buffer := if s.win.write then s.win.buffer else a.2.2 } }
      else s

/-! ### Answers to link requests (14 R449, R450) -/

/-- A response body (14 R449). -/
def linkBody (op tag : BitVec 8) (r : ObjAns) : List Byte :=
  [1, op ||| 0x80, tag, 0] ++ leBytes 2 r.status.toNat ++ [0, 0] ++ leBytes 8 r.result ++ r.data

/-- Answers of an endpoint in the order of its requests: those at the front that are formed are held for sending. -/
def releaseReqs (eid : BitVec 8) : List LinkReq → List LinkReq × List (List Byte)
  | [] => ([], [])
  | r :: rest =>
    if r.eid = eid then
      match r.answer with
      | some b => let q := releaseReqs eid rest; (q.1, b :: q.2)
      | none => (r :: rest, [])
    else let q := releaseReqs eid rest; (r :: q.1, q.2)

/-- The answer to request n is formed (14 R450). -/
def State.linkAnswer (s : State) (n : Nat) (body : List Byte) : State :=
  match s.mgmt.reqs.find? fun r => r.id == n with
  | none => s
  | some r =>
    let reqs := s.mgmt.reqs.map fun x => if x.id = n then { x with answer := some body } else x
    let q := releaseReqs r.eid reqs
    { s with mgmt := { s.mgmt with reqs := q.1, held := s.mgmt.held ++ q.2.map fun b => (r.eid, b, s.now) } }

def State.linkAnswerObj (s : State) (n : Nat) (r : ObjAns) : State :=
  match s.mgmt.reqs.find? fun x => x.id == n with
  | none => s
  | some x => s.linkAnswer n (linkBody x.op x.tag r)

/-! ### Forwarded accesses (14 R444) -/

/-- OBJECT_ACCESS_MESSAGE (14 R444): die d applies the oldest access forwarded to it, and its answer goes to who asked. -/
def execObjectAccessMessage (d : DieId) (s : State) : Res :=
  onDie d s fun s =>
    match (s.die d).accesses with
    | [] => s
    | a :: rest =>
      let r := (s.modDie d fun x => { x with accesses := rest }).objDo true a.asn a
      let s := r.1
      let s := match a.asn with
        | some n => s.adminVerb n (if a.write then 0x43 else 0x42) fun _ => s.objVerbEnd n r.2
        | none => s
      let s := if a.window then s.winAnswer r.2 else s
      match a.req with
      | some n => s.linkAnswerObj n r.2
      | none => s

/-! ### Sessions and defaults -/

/-- DOMAIN_SESSION_TIMEOUT (14 R442): the session of die d on an entry has idled for its limit. -/
def execDomainSessionTimeout (d : DieId) (key : Nat) (s : State) : Res :=
  onDie d s fun s => { s with sessions := s.sessions.filter fun x => !(x.die == d && x.key == key) }

/-- RESTORE_DEFAULTS (14 R445): a write of v. -/
def execRestoreDefaults (v : BitVec 8) (s : State) : Res :=
  hostDoes (fun s => if v = 1 then s.restore.answer St.success else s.answer St.valueInvalid) s

end Sys2Proof.Machine
end

