-- ==== Sys2Proof/Machine/Admin.lean ====
section
/-! DEFINITION. IDENTIFY and GET LOG (13 R415 to R418; 19 R562, R567). -/

namespace Sys2Proof.Machine

/-- Text padded with spaces to n bytes (13 R415). -/
def spaced (n : Nat) (bs : List Byte) : List Byte := bs.take n ++ List.replicate (n - bs.length) 0x20

/-- IDENTIFY with CNS 0 (13 R415). -/
def State.identifyDevice (s : State) : List Byte :=
  let ds := s.fittedDies.filter fun d => !(s.isolated d)
  padTo 4096 (spaced 16 (asciiBytes "STOARO") ++ spaced 16 (asciiBytes s.part.text) ++ sliceBytes packageSerial 0 32 ++
    leBytes 4 s.imageVersion ++ leBytes 4 s.imagePatch ++ leBytes 1 s.part.dies ++ leBytes 1 s.dieMap ++ [0, 0] ++
    leBytes 4 4096 ++ leBytes 2 511 ++ leBytes 2 511 ++ leBytes 2 4096 ++ leBytes 2 2048 ++ leBytes 4 65536 ++ leBytes 4 15 ++
    [19, 19, 0, 0, 0, 0, 0, 0] ++ leBytes 8 (ds.map s.physicalBytes).sum)

/-- IDENTIFY with CNS 1 (13 R416). -/
def State.identifyDie (s : State) (d : DieId) : List Byte :=
  let i := dieInst d
  padTo 4096 (sliceBytes (hdaSerialText d) 0 32 ++ [if s.isolated d then 1 else 0] ++ leBytes 1 (s.assistMode d) ++
    leBytes 2 (s.getN Obj.convZones i) ++ leBytes 4 (maskOf fun h => ((s.die d).head h).live) ++
    leBytes 4 (maskOf (s.headFailed d)) ++ leBytes 4 (s.numBands d) ++ leBytes 4 (s.convBandsOf d) ++
    leBytes 4 (s.getN Obj.setRpm i) ++ leBytes 2 (s.die d).servoW ++ leBytes 6 0 ++ leBytes 8 (s.physicalBytes d))

/-- IDENTIFY_DEVICE (13 R415). -/
def execIdentifyDevice (asn : Nat) (s : State) : Res :=
  .next (s.adminVerb asn 0x40 fun sl => if eVs sl.entry 0 1 = 0 then s.partOk asn 0 0 s.identifyDevice else s)

/-- IDENTIFY_DIE (13 R416): a die that is not fitted is refused with INVALID_FIELD. -/
def execIdentifyDie (asn : Nat) (s : State) : Res :=
  .next <| s.adminVerb asn 0x40 fun sl =>
    let n := eVs sl.entry 1 1
    if eVs sl.entry 0 1 ≠ 1 then s
    else if s.part.dies ≤ n then s.partFail asn 0 St.invalidField
    else s.partOk asn 0 0 (s.identifyDie (Fin.ofNat 8 n))

/-- GET LOG of a page that die d holds (13 R417). -/
def State.getLog (s : State) (asn id : Nat) (dieOf : Slot → DieId) (page : DieId → List Byte) : State :=
  match s.slots.find? asn with
  | none => s
  | some sl =>
    let d := dieOf sl
    let off := eVs sl.entry 4 4
    if sl.op = 0x41 ∧ eVs sl.entry 0 1 = id ∧ sl.ready d then
      let p := page d
      if p.length ≤ off then s.partFail asn d St.invalidField
      else s.partOk asn d 0 (sliceBytes p off (eVs sl.entry 8 4))
    else s

def Slot.logDie (sl : Slot) : DieId := Fin.ofNat 8 (eVs sl.entry 1 1)

/-- GET_LOG_ERROR (13 R418). -/
def execGetLogError (asn : Nat) (s : State) : Res := .next (s.getLog asn 1 (fun _ => 0) fun _ => s.errPage)

/-- GET_LOG_EVENT (19 R567). -/
def execGetLogEvent (asn : Nat) (s : State) : Res := .next (s.getLog asn 2 Slot.logDie s.eventPage)

/-- GET_LOG_TRACE (19 R562). -/
def execGetLogTrace (asn : Nat) (s : State) : Res := .next (s.getLog asn 3 Slot.logDie s.tracePage)

end Sys2Proof.Machine
end

