-- ==== Sys2Proof/Machine/Engines.lean ====
section
/-! DEFINITION. Control cores and microcoded engines: traps, microwords, clauses, faults (16 R486 to R497; 15 R467). What
an operation computes where the spec gives no encoding is a free value (log 19). -/

namespace Sys2Proof.Machine

/-! ### Cores (16 R486; 15 R467) -/

/-- Core c restarts; the third restart within 10 s fails the die (16 R486). -/
def State.coreRestart (s : State) (d : DieId) (c : Nat) : State :=
  let ts := restartTimes (s.die d).clock.time4 ((s.die d).eng.restarts.getD c [])
  let s := s.modEng d fun x => { x with restarts := x.restarts.insert c ts }
  let s := (s.bump Obj.coreRestartCount (dieInst d)).trialFault
  if 3 ≤ ts.length then (s.modEng d fun x => { x with restarts := x.restarts.erase c }).dieFailed d else s

/-- An uncorrectable word at a fetch or load (15 R467). -/
def State.fetchUe (s : State) (d : DieId) (w : BadWord) : State :=
  ((s.modMem d fun m => { m with ueFetch := true }).foundUe d 1 w).raise d Ev.memUeFetch

/-- CORE_TRAP (16 R486; 15 R467). -/
def execCoreTrap (d : DieId) (c : Fin 32) (cause : TrapCause) (s : State) : Res :=
  onDie d s fun s =>
    let s := match cause with
      | .uncorrectable w => s.fetchUe d w
      | .illegal | .misaligned | .forbidden =>
        (s.modEng d fun x => { x with faults := x.faults ||| (1#28 <<< 26) }).raise d Ev.coreTrap
    s.coreRestart d c.val

/-- CORE_WATCHDOG (16 R486): CORE_WATCHDOG_MS without a refresh. -/
def execCoreWatchdog (d : DieId) (c : Fin 32) (s : State) : Res :=
  onDie d s fun s =>
    ((s.modEng d fun x => { x with faults := x.faults ||| (1#28 <<< 27) }).raise d Ev.coreWatchdog).coreRestart d c.val

/-! ### Conditions and next addresses (16 R488, R489) -/

def wordField (w off n : Nat) : Nat := w / 2 ^ off % 2 ^ n

def wordEnd (w : BitVec 64) : Bool := w.getLsbD 32

def wordClass (w : BitVec 64) : Nat := wordField w.toNat 33 3

def wordOpa (w : BitVec 64) : Nat := wordField w.toNat 36 12

def wordOpb (w : BitVec 64) : Nat := wordField w.toNat 48 8

/-- The write of the head's next or present sector may start (01 R44). -/
def State.headMayStart (s : State) (d : DieId) (h : HeadId) : Bool :=
  match ((s.die d).head h).jobs with
  | [] => false
  | j :: _ => if j.started then s.mayContinue d h j else s.mayStart d h j.loc

/-- Conditions 1 to 7: the ALU result, the clause flags. -/
def Engine.cond (x : Engine) (c : Nat) : Bool := if c ≤ 3 then x.alu.getLsbD (c - 1) else x.flags.getLsbD (c - 4)

/-- Condition c of engine e, from the state where the state holds it, else as sampled: `sig` bit c − 8 (16 R489, R492). -/
def State.engCond (s : State) (d : DieId) (e : Nat) (sig : BitVec 8) (c : Nat) : Bool :=
  let x := s.die d
  let h := headOfEngine e
  if c = 0 ∨ 16 ≤ c then false
  else if c ≤ 7 then (s.engine d e).cond c
  else if e < 24 ∧ c = 8 then
    x.clock.fired.any (fun f => f.owner == .sequencer h) && !(x.clock.events.any fun v => v.owner == .sequencer h)
  else if e < 24 ∧ c = 9 then (x.head h).samFound
  else if e < 24 ∧ c = 10 then s.headMayStart d h
  else if e < 24 ∧ c = 15 then (x.act h.act).dirWrite
  else if e = 24 ∧ c = 12 then x.spin.obsValid
  else if e = 24 ∧ c = 13 then x.clock.state == .locked
  else if e = 24 ∧ c = 15 then x.data.pfail.isSome
  else if e = 25 ∧ c = 9 then x.overrunNow
  else sig.getLsbD (c - 8)

/-- The OR-branch of 16 R489. -/
def nextAddress (w : BitVec 64) (cond : Nat → Bool) : Nat :=
  let bit := fun (i : Nat) => if cond (wordField w.toNat (12 + 5 * i) 5) then 2 ^ i else 0
  wordField w.toNat 0 12 ||| bit 3 ||| bit 2 ||| bit 1 ||| bit 0

/-- Words of a small engine's store (16 R487). -/
def storeWords (e : Nat) : Nat := if e < 24 then 2048 else 4096

/-! ### Words of the small engines (16 R488 to R491, R493) -/

/-- Engine register n takes the next free value (16 R490; log 19). -/
def State.freeReg (s : State) (d : DieId) (e n : Nat) (w : BitVec 64) : State :=
  let v := Config.microResult s.fresh w
  (s.modEng d fun x => { x with regs := x.regs.insert (e * 65536 + n) v }).useFresh

/-- ALU: a register, the condition bits and the clause flags take free values (16 R489, R490; log 19). -/
def State.aluWord (s : State) (d : DieId) (e : Nat) (w : BitVec 64) : State :=
  let n := s.fresh
  let f := (Config.microResult (n + 1) w).setWidth 4
  ((s.freeReg d e (wordOpa w) w).modEngine d e fun x => { x with alu := Config.microFlags n w, flags := f }).useFresh

/-- REPORT: the register OPA names is posted to the supervising core (16 R490). -/
def State.reportWord (s : State) (d : DieId) (e : Nat) (w : BitVec 64) : State :=
  s.modEng d fun x => { x with reports := (e, x.regs.getD (e * 65536 + wordOpa w) 0) :: x.reports }

/-- Engine e may execute its next word. -/
def Engine.mayRun (x : Engine) : Bool := x.run && !x.stopped && x.waiting.isNone

/-- Leave the word for the next address: a 256th word without END leaves the engine to its overrun (16 R493). -/
def State.wordNext (s : State) (d : DieId) (e : Nat) (w : BitVec 64) (sig : BitVec 8) (bad : Option (Bool × Nat)) : State :=
  let next := nextAddress w (s.engCond d e sig)
  let s := s.modEngine d e fun x =>
    { x with pc := next % storeWords e, count := x.count + 1, waiting := none, faulting := bad }
  if wordEnd w then s.clauseEnd d e else s

/-- One word of a small engine of class `cls`: its operation, unless the word or one before it in the clause is at fault,
then the next address. A WAIT whose condition is not met holds the engine (16 R489, R490, R493). -/
def State.smallWord (s : State) (d : DieId) (e cls : Nat) (w : BitVec 64) (sig : BitVec 8) (op : State → State) : State :=
  let x := s.engine d e
  if !(x.mayRun) || decide (256 ≤ x.count) || wordClass w ≠ cls then s
  else
    let illegal := decide (cls = 6) && !(wordEnd w)
    let address := decide (e < 24) && w.getLsbD 11
    let bad := match x.faulting with
      | some f => some f
      | none => if illegal then some (true, x.pc) else if address then some (false, x.pc) else none
    if bad.isSome then s.wordNext d e w sig bad
    else if cls = 6 ∧ !(s.engCond d e sig (wordOpb w)) then
      let s := s.modEngine d e fun x => { x with waiting := some w }
      if x.resetReq then s.engineReset d e
      else if x.haltReq then s.modEngine d e fun x => { x with run := false, halted := true, haltReq := false }
      else s
    else (op s).wordNext d e w sig none

/-- LINES: the state that MOD calls for is not encoded by the spec; a free value names it. A move that 06 R195 does not
list, or a rise of a head whose gate is held off, leaves the lines (16 R490, R491; log 19). -/
def State.linesWord (s : State) (d : DieId) (h : HeadId) (w : BitVec 64) : State :=
  let k := (Config.microResult s.fresh w).toNat % 3
  let s := s.useFresh
  let now := ((s.die d).head h).lines
  let up := s.headMayStart d h
  match k, now with
  | 0, _ => s.modHead d h fun x => { x with lines := .park }
  | 1, .park => if up then s.modHead d h fun x => { x with lines := .heat } else s
  | 2, .park => if up then s.modHead d h fun x => { x with lines := .data } else s
  | 2, .heat => if up then s.modHead d h fun x => { x with lines := .data } else s
  | _, _ => s

/-- SEQ_NOP (16 R490). -/
def execSeqNop (d : DieId) (h : HeadId) (w : BitVec 64) (sig : BitVec 8) (s : State) : Res :=
  onDie d s fun s => s.smallWord d h.val 0 w sig id

/-- SEQ_ALU (16 R490). -/
def execSeqAlu (d : DieId) (h : HeadId) (w : BitVec 64) (sig : BitVec 8) (s : State) : Res :=
  onDie d s fun s => s.smallWord d h.val 1 w sig fun s => s.aluWord d h.val w

/-- SEQ_ARM (16 R490; 02 R65): a media event of the sequencer, at a stamp that a free value names. -/
def execSeqArm (d : DieId) (h : HeadId) (w : BitVec 64) (sig : BitVec 8) (s : State) : Res :=
  onDie d s fun s => s.smallWord d h.val 2 w sig fun s =>
    (s.useFresh).armEvent d .media (.sequencer h) (.absolute ((Config.microResult s.fresh w).setWidth 48))

/-- SEQ_LINES (16 R490, R491; 06 R195). -/
def execSeqLines (d : DieId) (h : HeadId) (w : BitVec 64) (sig : BitVec 8) (s : State) : Res :=
  onDie d s fun s => s.smallWord d h.val 3 w sig fun s => s.linesWord d h w

/-- SEQ_STAGE (16 R490): the staging place that OPA names takes what was moved. -/
def execSeqStage (d : DieId) (h : HeadId) (w : BitVec 64) (sig : BitVec 8) (s : State) : Res :=
  onDie d s fun s => s.smallWord d h.val 4 w sig fun s => s.freeReg d h.val (8192 + wordOpa w) w

/-- SEQ_REPORT (16 R490). -/
def execSeqReport (d : DieId) (h : HeadId) (w : BitVec 64) (sig : BitVec 8) (s : State) : Res :=
  onDie d s fun s => s.smallWord d h.val 5 w sig fun s => s.reportWord d h.val w

/-- SEQ_WAIT (16 R490). -/
def execSeqWait (d : DieId) (h : HeadId) (w : BitVec 64) (sig : BitVec 8) (s : State) : Res :=
  onDie d s fun s => s.smallWord d h.val 6 w sig id

/-- MOTOR_NOP (16 R490). -/
def execMotorNop (d : DieId) (w : BitVec 64) (sig : BitVec 8) (s : State) : Res :=
  onDie d s fun s => s.smallWord d 24 0 w sig id

/-- MOTOR_ALU (16 R490). -/
def execMotorAlu (d : DieId) (w : BitVec 64) (sig : BitVec 8) (s : State) : Res :=
  onDie d s fun s => s.smallWord d 24 1 w sig fun s => s.aluWord d 24 w

/-- MOTOR_TABLE (16 R490; 03 R84): a register takes the interpolated table value. -/
def execMotorTable (d : DieId) (w : BitVec 64) (sig : BitVec 8) (s : State) : Res :=
  onDie d s fun s => s.smallWord d 24 2 w sig fun s => s.freeReg d 24 (wordOpa w) w

/-- MOTOR_PWM (16 R490): the duties that 03 R84 has formed go to the PWM timer. -/
def execMotorPwm (d : DieId) (w : BitVec 64) (sig : BitVec 8) (s : State) : Res :=
  onDie d s fun s => s.smallWord d 24 3 w sig id

/-- MOTOR_SAMPLE (16 R490): a register takes the conversions. -/
def execMotorSample (d : DieId) (w : BitVec 64) (sig : BitVec 8) (s : State) : Res :=
  onDie d s fun s => s.smallWord d 24 4 w sig fun s => s.freeReg d 24 (wordOpa w) w

/-- MOTOR_REPORT (16 R490). -/
def execMotorReport (d : DieId) (w : BitVec 64) (sig : BitVec 8) (s : State) : Res :=
  onDie d s fun s => s.smallWord d 24 5 w sig fun s => s.reportWord d 24 w

/-- MOTOR_WAIT (16 R490). -/
def execMotorWait (d : DieId) (w : BitVec 64) (sig : BitVec 8) (s : State) : Res :=
  onDie d s fun s => s.smallWord d 24 6 w sig id

/-! ### The control-law engine (16 R492) -/

/-- The two MAC slots and the transfer slot: destinations, accumulators and the transferred register take free values
(log 19). -/
def State.cleOps (s : State) (d : DieId) (w : BitVec 128) : State :=
  let lo := w.setWidth 64
  let hi := (w >>> 64).setWidth 64
  let s := (s.freeReg d 25 (wordField w.toNat 34 8) lo).freeReg d 25 (wordField w.toNat 74 8) hi
  let s := (s.freeReg d 25 768 lo).freeReg d 25 769 hi
  let s := (s.freeReg d 25 (wordField w.toNat 104 8) hi).freeReg d 25 (4096 + wordField w.toNat 112 12) hi
  let n := s.fresh
  let f := (Config.microResult (n + 1) hi).setWidth 4
  ((s.modEngine d 25 fun x => { x with alu := Config.microFlags n lo, flags := f }).useFresh).useFresh

/-- CLE_MICROWORD (16 R492, R493). -/
def execCleMicroword (d : DieId) (w : BitVec 128) (sig : BitVec 8) (s : State) : Res :=
  onDie d s fun s =>
    let x := s.engine d 25
    if !(x.mayRun) || decide (256 ≤ x.count) then s
    else
      let bad := match x.faulting with
        | some f => some f
        | none => if wordField w.toNat 20 4 ≠ 0 then some (true, x.pc) else none
      let s := if bad.isSome then s else s.cleOps d w
      let c := wordField w.toNat 15 5
      let next := wordField w.toNat 0 14 ||| if s.engCond d 25 sig c then 1 else 0
      let s := s.modEngine d 25 fun x => { x with pc := next, count := x.count + 1, faulting := bad }
      if w.getLsbD 14 then s.clauseEnd d 25 else s

/-! ### Requests and faults (16 R490, R493 to R495) -/

/-- ENGINE_WAIT_RELEASE (16 R489, R490): the condition that the WAIT names has become true. Other conditions that the
state does not hold are free (log 19). -/
def execEngineWaitRelease (d : DieId) (e : Fin 26) (cond : Fin 32) (s : State) : Res :=
  onDie d s fun s =>
    match (s.engine d e.val).waiting with
    | none => s
    | some w =>
      if wordOpb w ≠ cond.val ∨ !((s.engine d e.val).run) then s
      else
        let sig := (Config.microResult s.fresh w).setWidth 8 ||| (if 8 ≤ cond.val ∧ cond.val ≤ 15 then 1#8 <<< (cond.val - 8) else 0)
        if s.engCond d e.val sig cond.val then s.useFresh.wordNext d e.val w sig none else s

/-- ENGINE_FAULT (16 R493, R494; 15 R467): the fault is taken now. -/
def execEngineFault (d : DieId) (e : Fin 26) (kind : EngFault) (s : State) : Res :=
  onDie d s fun s =>
    let x := s.engine d e.val
    let word := (x.faulting.map Prod.snd).getD x.pc
    if !x.run then s
    else
      match kind with
      | .illegal => s.takeFault d e.val 1 word
      | .address => s.takeFault d e.val 2 word
      | .uncorrectable w => (s.fetchUe d w).takeFault d e.val 4 x.pc

/-- CLAUSE_OVERRUN (16 R493): the 256th word of a clause did not carry END. -/
def execClauseOverrun (d : DieId) (e : Fin 26) (s : State) : Res :=
  onDie d s fun s =>
    let x := s.engine d e.val
    if x.mayRun then s.takeFault d e.val 3 x.pc else s

/-- The engine samples requests now: at a clause's end, waiting, or not running. -/
def Engine.samples (x : Engine) : Bool := !x.run || x.waiting.isSome || x.count == 0

/-- ENGINE_RESET (16 R493, R494). -/
def execEngineReset (d : DieId) (e : Fin 26) (s : State) : Res :=
  onDie d s fun s =>
    if (s.engine d e.val).samples then s.engineReset d e.val
    else s.modEngine d e.val fun x => { x with resetReq := true }

/-- ENGINE_HALT (16 R493). -/
def execEngineHalt (d : DieId) (e : Fin 26) (s : State) : Res :=
  onDie d s fun s =>
    let x := s.engine d e.val
    if !x.run then s
    else if x.samples then s.modEngine d e.val fun x => { x with run := false, halted := true }
    else s.modEngine d e.val fun x => { x with haltReq := true }

/-- ENGINE_RELOAD (16 R495): a sequencer between sectors, the motor engine at a clause's end; for the control-law engine
the inactive bank, its swap requested. -/
def execEngineReload (d : DieId) (e : Fin 26) (s : State) : Res :=
  onDie d s fun s =>
    let x := s.engine d e.val
    let v := s.meantEntry d e.val 2
    let between := e.val ≥ 24 || ((s.die d).head (headOfEngine e.val)).jobs.all fun j => !j.started
    if e.val = 25 then s.loadBank d v
    else if x.samples && between && !x.stopped then
      let s := if e.val < 24 then s.modHead d (headOfEngine e.val) fun y => { y with lines := .park } else s
      s.reloadStore d e.val v
    else s

/-- CLE_BANK_SWAP (16 R495, R497; 05 R150): at the first C(k) or T(k) after the request, ahead of a coefficient swap. -/
def execCleBankSwap (d : DieId) (s : State) : Res :=
  onDie d s (when ((s.die d).eng.swapPending && (s.engine d 25).samples) (·.bankSwap d))

end Sys2Proof.Machine
end

