-- ==== Sys2Proof/Machine/Registers.lean ====
section
/-! DEFINITION. Registers of BAR0 and of the dies' diagnostic windows (00 R11; 12 R377 to R379; 14 R446; 16 R501 and the
register sections of 02 to 20). A register is taken as 32-bit words. -/

namespace Sys2Proof.Machine

/-! ### Words -/

/-- The number with bit n set for each flag that holds. -/
def bitsOf (xs : List (Nat × Bool)) : Nat := (xs.filter Prod.snd).foldl (fun m e => m + 2 ^ e.1) 0

/-- A flag after a write to its RW1C bit n (00 R11). -/
def w1c (v : BitVec 32) (n : Nat) (flag : Bool) : Bool := flag && !(v.getLsbD n)

/-- The low or high half of a 64-bit register. -/
def half64 (v : Nat) (high : Bool) : Nat := if high then v / 2 ^ 32 % 2 ^ 32 else v % 2 ^ 32

def angleStatus (c : AngleClock) (aligned : Bool) : Nat :=
  c.state.ctorIdx + bitsOf [(2, c.coasting), (3, c.flywheel), (4, c.phaseLocked), (5, aligned), (8, c.lockLost), (9, c.step),
    (10, c.deferred), (11, c.timeStep), (12, c.phaseLost)]

def spmStatus (p : Spindle) : Nat :=
  p.state.ctorIdx + 2 ^ 4 * p.src.ctorIdx + 2 ^ 8 * p.brakeFor.ctorIdx + bitsOf [(6, p.reverse), (7, p.staggerHold),
    (16, p.predict), (17, p.reverseSeen), (18, p.obsLoss), (19, p.reacqFail), (20, p.startFail), (21, p.handoverMismatch)]

def servoStatus (x : Die) : Nat :=
  x.actA.state.ctorIdx + 2 ^ 4 * x.actB.state.ctorIdx + bitsOf [(8, x.actA.bank), (9, x.actB.bank),
    (10, x.shock || decide (0 < x.holdoff)), (16, x.overrun), (17, x.swapSatA), (18, x.swapSatB), (19, x.shockTrip),
    (20, x.recoverA), (21, x.recoverB), (22, x.loadFail)]

def pclStatus (x : Die) : Nat :=
  let a := x.actA
  let b := x.actB
  a.pcl.ctorIdx + 2 ^ 2 * b.pcl.ctorIdx + bitsOf [(4, a.dirWrite), (5, b.dirWrite), (16, a.crcErr), (17, b.crcErr),
    (18, a.nakSeen), (19, b.nakSeen), (20, a.resetSeen), (21, b.resetSeen), (22, a.preampFault), (23, b.preampFault)]

def chanRecovery (x : Die) : Nat :=
  bitsOf [(0, x.actA.rdecBusy), (1, x.actB.rdecBusy)] + 2 ^ 8 * maskOf fun h => !(x.head h).ladders.isEmpty

def State.assistStatus (s : State) (d : DieId) : Nat :=
  let x := s.die d
  min 8191 (s.bEff d).floor.toNat + bitsOf [(13, decide (s.thermalScale d < 1)), (14, x.hk.blind || x.hk.rounds == 0),
    (16, x.modeHop), (17, x.revoke), (18, x.blocked), (19, x.verifyFullSeen), (20, x.unstable)]

/-- The kind running at instances that a test picks. -/
def runningKind (x : Die) (p : Nat → Bool) : Nat :=
  match x.calRuns.entries.find? fun e => p e.1 with
  | some e => e.2.kind.toNat
  | none => 0

def calStatus (x : Die) : Nat :=
  runningKind x (fun i => selAct i == some .A) + 2 ^ 4 * runningKind x (fun i => selAct i == some .B) +
    2 ^ 8 * runningKind x (fun i => i % 32 == 31) + bitsOf [(12, x.holdupTest), (16, x.calDone), (17, x.calTimeout),
      (18, x.calFailed), (19, x.calStale), (20, x.calRepaired)]

def compLanes (x : DieData) : Nat :=
  (List.range 16).foldl (fun m i =>
    match x.lanes.getD i none with
    | some j => m + 2 ^ i + if j.decomp then 2 ^ (16 + i) else 0
    | none => m) 0

def cryptStatus (x : DieData) : Nat :=
  bitsOf [(0, x.keys.entries.any fun e => e.2.state == .erasePending), (16, x.headerBad), (17, x.crcMismatch),
    (18, x.keyLoaded), (19, x.keyErased), (20, x.unwrapFail)]

/-- A save runs from detection to its end (11 R372). -/
def saveActive (x : DieData) : Bool :=
  x.saving.isSome || (x.pfail.isSome && x.acornState != .saved && x.acornState != .saveFail)

def State.bufStatus (s : State) (d : DieId) : Nat :=
  let x := (s.die d).data
  s.writeBackState d % 8 + bitsOf [(3, acornReady x), (4, x.overBudget), (5, saveActive x), (8, x.pfailSeen),
    (9, x.saveFailFlag), (10, x.restored), (11, x.overSeen), (12, x.replayed)]

def State.memStatus (s : State) (d : DieId) : Nat :=
  let x := s.die d
  let m := x.mem
  bitsOf [(0, !m.filling.isEmpty), (1, !(scrubOnchip m).isEmpty && s.get Obj.scrubOnchipWords (dieInst d) != 0),
    (2, !(s.scrubDram d).isEmpty && s.get Obj.scrubDramWords (dieInst d) != 0), (3, x.clock.state != .locked),
    (16, m.ceThreshold), (17, m.ueFetch), (18, m.ueDma), (19, m.ueScrub), (20, m.mapEntryBad), (21, m.mapEntryLost),
    (22, m.mapTagParity)]

def State.mapCacheStatus (s : State) (d : DieId) : Nat :=
  let m := (s.die d).mem
  bitsOf ((List.range 8).map fun i => (i, (m.evict.getD i none).isSome)) + 2 ^ 8 * m.side.length +
    bitsOf [(14, !m.invRanges.isEmpty || !m.invWait.isEmpty)] + 2 ^ 16 * s.lockedWays d

def engStatus (e : EngState) : Nat :=
  bitsOf ((List.range 26).map fun i => (i, (e.engines.getD i {}).run)) + bitsOf [(26, e.cleBank), (27, e.swapPending)]

def State.fwStatus (s : State) : Nat :=
  let f := s.fw
  f.slot0.code + 2 ^ 3 * f.slot1.code + 2 ^ 6 * f.trial.code + 2 ^ 8 * (lockCode f.lock).toNat +
    bitsOf [(10, f.privPending), (16, f.confirmedFlag), (17, f.fallbackFlag), (18, f.discardedFlag), (19, f.bootFallbackFlag)]

def hkStatus (x : Die) : Nat :=
  let k := x.hk
  k.state.code + 2 ^ 8 * k.suspect.toNat + bitsOf [(3, k.blind), (4, x.clock.state != .locked), (5, decide (0 < k.rounds)),
    (16, k.stateUp), (17, k.shutdownSeen), (18, k.sensor), (19, k.supply)]

def dieStatus (x : Die) : Nat :=
  x.life.ctorIdx + 2 ^ 3 * x.cause + 2 ^ 7 * x.power.code + bitsOf [(16, x.reconciled), (17, x.gap), (18, x.woken)]

def cntStatus (o : ObsState) : Nat :=
  bitsOf ((List.range 16).map fun i => (i, (o.cnts.getD i {}).ovf)) + bitsOf [(16, o.frozen)]

/-- ENG_VERSION entry e as a number (16 R497). -/
def EngVersion.word (v : EngVersion) (k : Nat) : Nat :=
  [v.version.toNat, v.patch.toNat, v.digest32.toNat, v.state.toNat].getD k 0

/-- The 32-bit word at an offset of a die's diagnostic window; a reserved offset reads 0. -/
def State.diagWord (s : State) (d : DieId) (off : Nat) : Nat :=
  let x := s.die d
  let high := off % 8 == 4
  if off = 0x2000 then angleStatus x.clock (s.aligned d)
  else if off = 0x2008 ∨ off = 0x200C then half64 x.clock.stamped.toNat high
  else if off = 0x2010 ∨ off = 0x2014 then half64 x.clock.ptime.toNat high
  else if off = 0x2040 then spmStatus x.spin
  else if off = 0x2048 then (q16Of x.spin.speed % 4294967296).toNat
  else if off = 0x2080 then servoStatus x
  else if off = 0x2088 then maskOf fun h => (x.head h).permit
  else if off = 0x20C0 then pclStatus x
  else if off = 0x20C8 then chanRecovery x
  else if off = 0x2100 then s.assistStatus d
  else if off = 0x2108 then maskOf fun h => (x.head h).grant.isSome
  else if off = 0x2140 then calStatus x
  else if off = 0x2148 then s.staleMask d
  else if off = 0x2180 then compLanes x.data
  else if off = 0x2188 then cryptStatus x.data
  else if off = 0x21C0 then s.bufStatus d
  else if off = 0x2200 then s.memStatus d
  else if off = 0x2208 then s.mapCacheStatus d
  else if off = 0x2240 then engStatus x.eng
  else if off = 0x2248 then x.eng.faults.toNat
  else if off = 0x2250 then x.eng.coreRun.toNat
  else if off = 0x2280 then (if d.val = 0 then s.fwStatus else 0)
  else if off = 0x22C0 then hkStatus x
  else if off = 0x22C8 then x.hk.slot % 64 + 2 ^ 6 * min 67108863 x.hk.rounds
  else if 0x2300 ≤ off ∧ off < 0x24C0 then (x.eng.versions.getD ((off - 0x2300) / 16) {}).word (off / 4 % 4)
  else if off = 0x2500 then dieStatus x
  else if 0x2600 ≤ off ∧ off < 0x2680 ∧ !high then
    let c := x.obs.cnts.getD ((off - 0x2600) / 8) {}
    c.event.toNat + bitsOf [(10, c.ovfEvent)]
  else if 0x2680 ≤ off ∧ off < 0x2700 then half64 (x.obs.cnts.getD ((off - 0x2680) / 8) {}).value.toNat high
  else if off = 0x2700 then cntStatus x.obs
  else 0

/-- One half of a counter's 48-bit value replaced. -/
def putHalf (old : BitVec 48) (high : Bool) (v : BitVec 32) : BitVec 48 :=
  if high then BitVec.ofNat 48 (old.toNat % 2 ^ 32 + 2 ^ 32 * v.toNat)
  else BitVec.ofNat 48 (old.toNat / 2 ^ 32 * 2 ^ 32 + v.toNat)

def Actuator.clearPcl (y : Actuator) (v : BitVec 32) (n : Nat) : Actuator :=
  { y with
    crcErr := w1c v (16 + n) y.crcErr, nakSeen := w1c v (18 + n) y.nakSeen, resetSeen := w1c v (20 + n) y.resetSeen
    preampFault := w1c v (22 + n) y.preampFault }

/-- A write of one word to the flags and settings that the die holds itself (00 R11). -/
def Die.diagWrite (x : Die) (off : Nat) (v : BitVec 32) : Die :=
  let f := w1c v
  if off = 0x2000 then
    let c := x.clock
    { x with clock := { c with
        lockLost := f 8 c.lockLost, step := f 9 c.step, deferred := f 10 c.deferred, timeStep := f 11 c.timeStep
        phaseLost := f 12 c.phaseLost } }
  else if off = 0x2040 then
    let p := x.spin
    { x with spin := { p with
        predict := f 16 p.predict, reverseSeen := f 17 p.reverseSeen, obsLoss := f 18 p.obsLoss, reacqFail := f 19 p.reacqFail
        startFail := f 20 p.startFail, handoverMismatch := f 21 p.handoverMismatch } }
  else if off = 0x2080 then
    { x with
      overrun := f 16 x.overrun, swapSatA := f 17 x.swapSatA, swapSatB := f 18 x.swapSatB, shockTrip := f 19 x.shockTrip
      recoverA := f 20 x.recoverA, recoverB := f 21 x.recoverB, loadFail := f 22 x.loadFail }
  else if off = 0x20C0 then { x with actA := x.actA.clearPcl v 0, actB := x.actB.clearPcl v 1 }
  else if off = 0x2100 then
    { x with
      modeHop := f 16 x.modeHop, revoke := f 17 x.revoke, blocked := f 18 x.blocked
      verifyFullSeen := f 19 x.verifyFullSeen, unstable := f 20 x.unstable }
  else if off = 0x2140 then
    { x with
      calDone := f 16 x.calDone, calTimeout := f 17 x.calTimeout, calFailed := f 18 x.calFailed, calStale := f 19 x.calStale
      calRepaired := f 20 x.calRepaired }
  else if off = 0x2188 then
    let y := x.data
    { x with data := { y with
        headerBad := f 16 y.headerBad, crcMismatch := f 17 y.crcMismatch, keyLoaded := f 18 y.keyLoaded
        keyErased := f 19 y.keyErased, unwrapFail := f 20 y.unwrapFail } }
  else if off = 0x21C0 then
    let y := x.data
    { x with data := { y with
        pfailSeen := f 8 y.pfailSeen, saveFailFlag := f 9 y.saveFailFlag, restored := f 10 y.restored
        overSeen := f 11 y.overSeen, replayed := f 12 y.replayed } }
  else if off = 0x2200 then
    let m := x.mem
    { x with mem := { m with
        ceThreshold := f 16 m.ceThreshold, ueFetch := f 17 m.ueFetch, ueDma := f 18 m.ueDma, ueScrub := f 19 m.ueScrub
        mapEntryBad := f 20 m.mapEntryBad, mapEntryLost := f 21 m.mapEntryLost, mapTagParity := f 22 m.mapTagParity } }
  else if off = 0x2248 then { x with eng := { x.eng with faults := x.eng.faults &&& ~~~(v.setWidth 28) } }
  else if off = 0x22C0 then
    let k := x.hk
    { x with hk := { k with
        stateUp := f 16 k.stateUp, shutdownSeen := f 17 k.shutdownSeen, sensor := f 18 k.sensor, supply := f 19 k.supply } }
  else if off = 0x2500 then
    { x with reconciled := f 16 x.reconciled, gap := f 17 x.gap, woken := f 18 x.woken }
  else if 0x2600 ≤ off ∧ off < 0x2680 ∧ off % 8 = 0 then
    let i := (off - 0x2600) / 8
    { x with obs := { x.obs with cnts := x.obs.cnts.modify i fun c =>
        { c with event := v.setWidth 10, ovfEvent := v.getLsbD 10 } } }
  else if 0x2680 ≤ off ∧ off < 0x2700 then
    let i := (off - 0x2680) / 8
    { x with obs := { x.obs with cnts := x.obs.cnts.modify i fun c => { c with value := putHalf c.value (off % 8 == 4) v } } }
  else if off = 0x2700 then
    { x with obs := { x.obs with cnts := x.obs.cnts.mapIdx fun i c => { c with ovf := f i c.ovf } } }
  else x

/-- FW_STATUS is the anchor's (17 R529). -/
def State.fwFlags (s : State) (v : BitVec 32) : State :=
  s.modFw fun f =>
    { f with
      confirmedFlag := w1c v 16 f.confirmedFlag, fallbackFlag := w1c v 17 f.fallbackFlag
      discardedFlag := w1c v 18 f.discardedFlag, bootFallbackFlag := w1c v 19 f.bootFallbackFlag }

def State.diagWriteWord (s : State) (d : DieId) (off : Nat) (v : BitVec 32) : State :=
  if off = 0x2280 then (if d.val = 0 then s.fwFlags v else s) else s.modDie d (·.diagWrite off v)

/-! ### Accesses to a diagnostic window (12 R377) -/

def AccessSize.words : AccessSize → Nat
  | .w32 => 1
  | .w64 => 2

/-- A read of ANGLE_STAMP latches ANGLE_PTIME (02 R77). -/
def State.diagLatch (s : State) (d : DieId) (off : Nat) : State :=
  if off = 0x2008 ∨ off = 0x200C then s.modClock d fun c => { c with ptime := BitVec.ofNat 64 (s.timeNs d) } else s

/-- An access as the die performs it: the value read, or the words written. -/
def State.diagDo (s : State) (d : DieId) (off : Nat) (size : AccessSize) (wr : Option (BitVec 64)) : State :=
  let n := AccessSize.words size
  match wr with
  | none =>
    let v := s.diagWord d off + if n = 2 then 2 ^ 32 * s.diagWord d (off + 4) else 0
    (s.diagLatch d off).answer St.success (BitVec.ofNat 64 v) (leBytes (4 * n) v)
  | some v =>
    let s := s.diagWriteWord d off (v.setWidth 32)
    (if n = 2 then s.diagWriteWord d (off + 4) ((v >>> 32).setWidth 32) else s).answer St.success

/-- A read of an isolated die: all ones, and DIE_STATUS as the anchor last received it; a write is ignored (12 R377;
20 R589). -/
def State.diagIsolated (s : State) (d : DieId) (off : Nat) (size : AccessSize) (wr : Option (BitVec 64)) : State :=
  if wr.isSome then s.answer St.success
  else
    let word := fun (o : Nat) => if o = 0x2500 then dieStatus (s.die d) else 4294967295
    let v := word off + if AccessSize.words size = 2 then 2 ^ 32 * word (off + 4) else 0
    s.answer St.success (BitVec.ofNat 64 v) (leBytes (4 * AccessSize.words size) v)

/-- An aligned offset of a window (12 R377). -/
def diagAligned (off : Nat) (size : AccessSize) : Bool := decide (off < 4194304) && off % (4 * AccessSize.words size) == 0

/-- An access to die d's window: a die that is not fitted is a reserved range; a member die's is tunnelled, one at a time
(01 R24; 11 R344; 12 R377). -/
def State.diagAccess (s : State) (d : DieId) (off : Nat) (size : AccessSize) (wr : Option (BitVec 64)) : State :=
  if !(diagAligned off size) then s
  else if !(s.fitted d) then s.answer St.success 0 (if wr.isSome then [] else leBytes (4 * AccessSize.words size) 0)
  else if s.isolated d then s.diagIsolated d off size wr
  else if d.val = 0 then s.diagDo d off size wr
  else if s.diag.contains d.val then s
  else { s with diag := s.diag.insert d.val (off, size, wr) }.send 0 d 0x03 off

/-- DIAG_WINDOW_ACCESS (01 R24; 12 R377). -/
def execDiagWindowAccess (d : DieId) (off : Nat) (size : AccessSize) (wr : Option (BitVec 64)) (s : State) : Res :=
  hostDoes (·.diagAccess d off size wr) s

/-- DIAG_WINDOW_RESPONSE (01 R36): die d has performed the tunnelled access. -/
def execDiagWindowResponse (d : DieId) (s : State) : Res :=
  onDie d s fun s =>
    match s.diag.find? d.val with
    | none => s
    | some a =>
      let s := { s with diag := s.diag.erase d.val }
      if s.isolated d then s.diagIsolated d a.1 a.2.1 a.2.2 else (s.send d 0 0x13 a.1).diagDo d a.1 a.2.1 a.2.2

/-! ### Package registers (12 R377 to R379) -/

/-- PKG_CONTROL (12 R378): ENABLE, then SHUTDOWN; a reserved SHUTDOWN value changes nothing. -/
def State.writeControl (s : State) (v : BitVec 32) : State :=
  let on := v.getLsbD 0
  let kind := v.extractLsb' 1 2
  if s.host.enable && !on then s.pkgDisable
  else
    let s := if on then s.pkgEnable else s
    if kind = 3 ∨ kind = s.host.shutdown then s
    else if kind = 0 then { s with host := { s.host with shutdown := 0 } }
    else s.shutDown kind

/-- ADMIN_QUEUE_ATTR and the admin bases, ignored while ENABLE is 1 (12 R378, R379). -/
def HostRegs.writeQueue (h : HostRegs) (off : Nat) (v : BitVec 32) : HostRegs :=
  let low := fun (b : BitVec 64) => BitVec.ofNat 64 (b.toNat / 2 ^ 32 * 2 ^ 32 + v.toNat / 4096 * 4096)
  let high := fun (b : BitVec 64) => BitVec.ofNat 64 (b.toNat % 2 ^ 32 + 2 ^ 32 * v.toNat)
  if h.enable then h
  else if off = 0x18 then { h with asqSize := v.extractLsb' 0 13, acqSize := v.extractLsb' 16 13 }
  else if off = 0x20 then { h with asqBase := low h.asqBase }
  else if off = 0x24 then { h with asqBase := high h.asqBase }
  else if off = 0x28 then { h with acqBase := low h.acqBase }
  else if off = 0x2C then { h with acqBase := high h.acqBase }
  else h

/-- MSI-X table (12 R377): address, data, mask. -/
def State.writeMsix (s : State) (v k : Nat) (w : BitVec 32) : State :=
  let e := s.msix.getD v {}
  let put := fun (e : Msix) => { s with msix := s.msix.insert v e }
  if k = 0 then put { e with addr := BitVec.ofNat 64 (e.addr.toNat / 2 ^ 32 * 2 ^ 32 + w.toNat) }
  else if k = 1 then put { e with addr := BitVec.ofNat 64 (e.addr.toNat % 2 ^ 32 + 2 ^ 32 * w.toNat) }
  else if k = 2 then put { e with data := w }
  else if w.getLsbD 0 then put { e with masked := true }
  else s.unmask v

/-- EVT_PENDING[i], RW1C (16 R501); sources of dies not fitted ignore it. -/
def State.clearPending (s : State) (i : Nat) (v : BitVec 32) : State :=
  (List.range 32).foldl (fun s j =>
    let n := 32 * i + j
    if v.getLsbD j && s.fitted (sourceDie n) then { s with evtPending := s.evtPending.erase n } else s) s

/-- The object window's registers (14 R446). -/
def State.writeWindow (s : State) (off : Nat) (v : BitVec 32) : State :=
  let w := s.win
  if off = 0x0 then
    { s with win := { w with index := v.extractLsb' 0 16, sub := v.extractLsb' 16 8, inst := v.extractLsb' 24 8 } }
  else if off = 0x4 then
    let s := { s with win := { w with write := v.getLsbD 1, last := v.getLsbD 2 } }
    if v.getLsbD 0 then s.windowGo w.buffer else s
  else if off = 0x8 then { s with win := { w with done := w1c v 1 w.done } }
  else if off = 0xC then { s with win := { w with segOff := v } }
  else if off = 0x10 then { s with win := { w with len := v.extractLsb' 0 17 } }
  else if 0x10000 ≤ off ∧ off < 0x20000 then
    let n := off - 0x10000
    let b := padTo (n + 4) w.buffer
    { s with win := { w with buffer := b.take n ++ leBytes 4 v.toNat ++ b.drop (n + 4) } }
  else s

/-- A write of one word to BAR0 outside the diagnostic windows (12 R377). -/
def State.writeWord (s : State) (a : Nat) (v : BitVec 32) : State :=
  if a = 0x10 then s.writeControl v
  else if a = 0x14 then { s with host := { s.host with doorbellErr := w1c v 8 s.host.doorbellErr } }
  else if a < 0x1000 then { s with host := s.host.writeQueue a v }
  else if a < 0x9000 then s.writeMsix ((a - 0x1000) / 16) (a / 4 % 4) v
  else if a < 0xA000 then s
  else if a < 0xC000 then s.writeRoute ((a - 0xA000) / 8) (some (a % 8 == 4)) (v.setWidth 64)
  else if a < 0xC080 then s.clearPending ((a - 0xC000) / 4) v
  else if a < 0x10000 then s
  else if a < 0x100000 then s.writeWindow (a - 0x10000) v
  else if a < 0x102000 then
    (if a % 16 = 0 then s.sqTail ((a - 0x100000) / 16) v
     else if a % 16 = 8 then s.cqHead ((a - 0x100000) / 16) v
     else s)
  else s

/-- An aligned write to BAR0 (12 R377). -/
def State.writeBar (s : State) (a : Nat) (size : AccessSize) (v : BitVec 64) : State :=
  let n := AccessSize.words size
  if a % (4 * n) ≠ 0 then s
  else if 0x1000000 ≤ a then
    (if a < 0x3000000 then s.diagAccess (Fin.ofNat 8 ((a - 0x1000000) / 4194304)) ((a - 0x1000000) % 4194304) size (some v)
     else s)
  else if n = 2 ∧ 0xA000 ≤ a ∧ a < 0xC000 then s.writeRoute ((a - 0xA000) / 8) none v
  else
    let s := s.writeWord a (v.setWidth 32)
    if n = 2 then s.writeWord (a + 4) ((v >>> 32).setWidth 32) else s

/-- REGISTER_WRITE (00 R11; 12 R377). -/
def execRegisterWrite (addr : Nat) (size : AccessSize) (v : BitVec 64) (s : State) : Res :=
  hostDoes (·.writeBar addr size v) s

end Sys2Proof.Machine
end

