-- ==== Sys2Proof/Machine/Mgmt.lean ====
section
/-! DEFINITION. The management link: MCTP over I3C, its control commands, object requests, interrupts and CCCs (14 R447
to R453; log 16). -/

namespace Sys2Proof.Machine

def State.modMgmt (s : State) (f : MgmtState → MgmtState) : State := { s with mgmt := f s.mgmt }

/-- The endpoint is the manager (14 R452). -/
def State.isManager (s : State) (src : BitVec 8) : Bool :=
  src != 0 && decide (src.toNat = s.getN Obj.managerEid 0)

/-! ### Packets (14 R448) -/

/-- Reassembly of one packet: the message being assembled, and one that is complete. A packet that does not continue the
message in hand discards it whole. -/
def assemble (m : MgmtState) (eid : BitVec 8) (som eom : Bool) (seq : BitVec 2) (tag : BitVec 3) (body : List Byte) :
    MgmtState :=
  let sofar : Option (List Byte) :=
    if som then some []
    else
      match m.assembling with
      | some (e, t, n, bs) => if e = eid ∧ t = tag ∧ n = seq then some bs else none
      | none => none
  match sofar with
  | none => { m with assembling := none }
  | some bs =>
    let bs := bs ++ body
    if 4160 < bs.length then { m with assembling := none }
    else if eom then { m with assembling := none, message := some (eid, bs) }
    else { m with assembling := some (eid, tag, seq + 1, bs) }

/-- MCTP_PACKET_RECEIVE (14 R448): the handling of a complete message is the command named for it (log 17). -/
def execMctpPacketReceive (eid : BitVec 8) (pecOk som eom : Bool) (seq : BitVec 2) (tag : BitVec 3) (body : List Byte)
    (s : State) : Res :=
  hostDoes (fun s =>
    if pecOk then s.modMgmt fun m => assemble m eid som eom seq tag body else s.bump Obj.pecErrorCount 0) s

/-! ### Admission of a request (14 R450, R452, R453) -/

/-- Requests of an endpoint that are outstanding: accepted, or answered and not yet read. -/
def State.outstanding (s : State) (src : BitVec 8) : Nat :=
  (s.mgmt.reqs.filter fun r => r.eid == src).length +
    (s.mgmt.held.filter fun h => h.1 == src && h.2.1.getD 1 0 != 0x90).length

/-- Messages of strangers are counted per second of package time. -/
def State.countStranger (s : State) (src : BitVec 8) : State :=
  if s.isManager src then s
  else
    let sec := s.now / 1000000000
    s.modMgmt fun m =>
      { m with strangers := if m.second = sec then m.strangers + 1 else 1, second := sec }

/-- A request is discarded without reply: no place to hold its answer, or its endpoint has too many outstanding, or
strangers send too many. -/
def State.linkFull (s : State) (src : BitVec 8) : Bool :=
  decide (8 ≤ s.mgmt.held.length + s.mgmt.reqs.length) ||
    (if s.isManager src then decide (4 ≤ s.outstanding src)
     else decide (1 ≤ s.outstanding src) || decide (s.getN Obj.unknownRatePerS 0 < s.mgmt.strangers))

/-- Accept a request: its number, and its place among the answers of its endpoint. -/
def State.linkAccept (s : State) (src op tag : BitVec 8) : State :=
  s.modMgmt fun m =>
    { m with reqs := m.reqs ++ [{ id := m.nextReq, eid := src, tag, op }], nextReq := m.nextReq + 1 }

/-- A request of an endpoint: discarded and counted, or accepted and served by `f` with its number. -/
def linkDoes (src op tag : BitVec 8) (f : Nat → State → State) (s : State) : Res :=
  hostDoes (fun s =>
    let s := s.countStranger src
    if s.linkFull src then s.bump Obj.unknownDroppedCount 0 else f s.mgmt.nextReq (s.linkAccept src op tag)) s

/-! ### Control commands (14 R448) -/

/-- The answer to a control command: completion code and data (log 16). -/
def State.control (s : State) (n : Nat) (cmd code : BitVec 8) (data : List Byte := []) : State :=
  s.linkAnswer n ([0, 0, cmd, code] ++ data)

/-- EIDs that Set Endpoint ID refuses (14 R448). -/
def eidRefused (eid : BitVec 8) : Bool := decide (eid.toNat < 8) || eid == 0xFF

/-- SET_ENDPOINT_ID (14 R448, R452). -/
def execSetEndpointId (src eid : BitVec 8) : State → Res :=
  linkDoes src 0 0 fun n s =>
    if eidRefused eid || (s.mgmt.eid != 0 && !(s.isManager src)) then s.control n 1 1
    else (s.modMgmt fun m => { m with eid }).control n 1 0 [0, eid, 0]

/-- GET_ENDPOINT_ID (14 R448). -/
def execGetEndpointId (src : BitVec 8) : State → Res :=
  linkDoes src 0 0 fun n s => s.control n 2 0 [s.mgmt.eid, 0, 0]

/-- GET_ENDPOINT_UUID (14 R448, R454). -/
def execGetEndpointUuid (src : BitVec 8) : State → Res := linkDoes src 0 0 fun n s => s.control n 3 0 packageUuid

/-- GET_MCTP_VERSION_SUPPORT (14 R448): the versions are not stated (log 16). -/
def execGetMctpVersionSupport (src : BitVec 8) : State → Res :=
  linkDoes src 0 0 fun n s => s.control n 4 0 (Config.deviceUnique 9 0)

/-- GET_MESSAGE_TYPE_SUPPORT (14 R448, R449): one type, Vendor Defined – IANA. -/
def execGetMessageTypeSupport (src : BitVec 8) : State → Res :=
  linkDoes src 0 0 fun n s => s.control n 5 0 [1, 0x7F]

/-- GET_VENDOR_DEFINED_MSG_SUPPORT (14 R448, R449): one set, of the enterprise number. -/
def execGetVendorDefinedMsgSupport (src : BitVec 8) : State → Res :=
  linkDoes src 0 0 fun n s => s.control n 6 0 ([0xFF, 1] ++ (leBytes 4 ianaNumber).reverse ++ [0, 0])

/-- MCTP_UNSUPPORTED_COMMAND (14 R448): ERROR_UNSUPPORTED_CMD. -/
def execMctpUnsupportedCommand (src cmd : BitVec 8) : State → Res :=
  linkDoes src 0 0 fun n s => s.control n cmd 5

/-! ### Object requests (14 R449) -/

/-- The access that a request body spells. -/
def linkAccess (n : Nat) (body : List Byte) (write : Bool) : ObjAccess :=
  let f := fun off k => ofLeBytes (sliceBytes body off k)
  { write, src := .manager, index := BitVec.ofNat 16 (f 4 2), sub := BitVec.ofNat 8 (f 6 1), inst := BitVec.ofNat 8 (f 7 1)
    segOff := f 8 4, len := f 12 4, last := (body.getD 3 0).toNat % 2 == 1, data := body.drop 16
    asn := none, window := false, req := some n }

/-- A body that does not spell a request: too short, another version, a length out of range (14 R449). -/
def linkBad (body : List Byte) (write : Bool) : Bool :=
  let len := ofLeBytes (sliceBytes body 12 4)
  decide (body.length < 16) || body.getD 0 0 != 1 || decide (len = 0 ∨ 4096 < len) ||
    (write && decide (body.length < 16 + len))

/-- The answer is held, and one for want of trust is counted (14 R452). -/
def State.linkReply (s : State) (n : Nat) (r : ObjAns) : State :=
  (if r.status = St.untrustedSource then s.bump Obj.untrustedRefusedCount 0 else s).linkAnswerObj n r

/-- Serve an object request of an endpoint. -/
def State.linkObject (s : State) (src : BitVec 8) (body : List Byte) (n : Nat) : State :=
  let op := body.getD 1 0
  let write := op == 2
  let known := s.isManager src
  if body.getD 0 0 ≠ 1 then s.linkReply n { status := St.invalidField }
  else if op ≠ 1 ∧ op ≠ 2 then s.linkReply n { status := if known then St.invalidOpcode else St.untrustedSource }
  else if linkBad body write then s.linkReply n { status := St.invalidField }
  else
    let a := linkAccess n body write
    match s.objTarget known a with
    | some d => s.forward d a
    | none => let r := s.objDo known none a; r.1.linkReply n r.2

/-- MCTP_GET_OBJECT (14 R449, R452): a body of OP 0x02 is the other command's (log 3). -/
def execMctpGetObject (src : BitVec 8) (body : List Byte) (s : State) : Res :=
  if body.getD 1 0 = 2 then .next s
  else linkDoes src (body.getD 1 0) (body.getD 2 0) (fun n s => s.linkObject src body n) s

/-- MCTP_SET_OBJECT (14 R449, R452). -/
def execMctpSetObject (src : BitVec 8) (body : List Byte) (s : State) : Res :=
  if body.getD 1 0 = 1 then .next s
  else linkDoes src (body.getD 1 0) (body.getD 2 0) (fun n s => s.linkObject src body n) s

/-! ### Messages held for sending (14 R449, R450, R451) -/

/-- The first message held is gone: the next one starts its attempts. -/
def State.dropHeld (s : State) : State :=
  s.modMgmt fun m => { m with held := m.held.tail, attempts := 0, waitUs := none, gaveUp := false }

/-- MCTP_RESPONSE_READ (14 R450): the controller reads the first message held. -/
def execMctpResponseRead : State → Res :=
  hostDoes fun s =>
    match s.mgmt.held with
    | [] => s
    | h :: _ => (s.dropHeld).emit (.mctp h.1 h.2.1)

/-- RESPONSE_HOLD_EXPIRY (14 R450): RESPONSE_HOLD_MS has passed for the first message held. -/
def execResponseHoldExpiry (s : State) : Res := .next s.dropHeld

/-- Pending alert sources become one message for the manager, of at most 16 sources (14 R449, R452; 16 R502). -/
def State.gatherAlerts (s : State) : State :=
  if s.alerts.isEmpty || s.getN Obj.managerEid 0 == 0 || decide (8 ≤ s.mgmt.held.length + s.mgmt.reqs.length) then s
  else
    let now := s.alerts.take 16
    let rest := s.alerts.drop 16
    let body := [1, 0x90, 0, if rest.isEmpty then 0 else 1, BitVec.ofNat 8 now.length, 0, 0, 0] ++ now.flatMap (leBytes 2)
    ({ s with alerts := rest }).modMgmt fun m =>
      { m with held := m.held ++ [(BitVec.ofNat 8 (s.getN Obj.managerEid 0), body, s.now)] }

/-- An attempt to raise the IBI for the first message held (14 R451). -/
def State.ibiAttempt (s : State) : State :=
  if s.mgmt.held.isEmpty || s.mgmt.waitUs.isSome || s.mgmt.gaveUp || !s.mgmt.ibiEnabled || s.mgmt.dynAddr == 0 then s
  else s.emit .ibi

/-- IBI_RAISE (14 R451): a message to send is held. -/
def execIbiRaise : State → Res := hostDoes fun s => s.gatherAlerts.ibiAttempt

/-- Wait before the next attempt after n failed ones, µs (14 R451). -/
def ibiWait (n : Nat) : Nat := min (2 ^ n) 256 * 16

/-- IBI_FAILED (14 R451): arbitration lost, NACK, or IBIs disabled. -/
def execIbiFailed : State → Res :=
  hostDoes fun s =>
    if s.mgmt.held.isEmpty || s.mgmt.waitUs.isSome || s.mgmt.gaveUp then s
    else
      let n := s.mgmt.attempts
      let s := s.bump Obj.ibiLostCount 0
      if s.getN Obj.ibiRetryLimit 0 ≤ n + 1 then
        ((s.modMgmt fun m => { m with attempts := n + 1, gaveUp := true }).bump Obj.ibiGiveupCount 0).raise 0 Ev.mctpIbiGiveup
      else s.modMgmt fun m => { m with attempts := n + 1, waitUs := some (ibiWait n) }

/-- IBI_RETRY_WAIT_END (14 R451). -/
def execIbiRetryWaitEnd : State → Res :=
  hostDoes fun s => if s.mgmt.waitUs.isSome then (s.modMgmt fun m => { m with waitUs := none }).ibiAttempt else s

/-! ### Common command codes (14 R447; log 16) -/

/-- ENTDAA: an address for a device that has none. -/
def execEntdaa (addr : BitVec 7) : State → Res :=
  hostDoes fun s => if s.mgmt.dynAddr = 0 then s.modMgmt fun m => { m with dynAddr := addr } else s

/-- The static address of the boot straps (21 R619). -/
def HostRegs.staticAddr (h : HostRegs) : BitVec 7 := 0x30 + h.strapSa.setWidth 7

/-- SETDASA: an address for the device of a static address. -/
def execSetdasa (static addr : BitVec 7) : State → Res :=
  hostDoes fun s =>
    if s.mgmt.dynAddr = 0 ∧ static = s.host.staticAddr then s.modMgmt fun m => { m with dynAddr := addr } else s

/-- RSTDAA. -/
def execRstdaa : State → Res := hostDoes fun s => s.modMgmt fun m => { m with dynAddr := 0 }

/-- ENEC: bit 0 enables IBIs. -/
def execEnec (events : BitVec 8) : State → Res :=
  hostDoes fun s => s.modMgmt fun m => { m with ibiEnabled := m.ibiEnabled || events.getLsbD 0 }

/-- DISEC: bit 0 disables IBIs. -/
def execDisec (events : BitVec 8) : State → Res :=
  hostDoes fun s => s.modMgmt fun m => { m with ibiEnabled := m.ibiEnabled && !(events.getLsbD 0) }

/-- GETPID: the manufacturer's part, and the CRC-32C of the package serial number. -/
def execGetpid : State → Res :=
  hostDoes fun s => s.emit (.ccc (sliceBytes (Config.deviceUnique 10 0) 0 2 ++ (leBytes 4 (crc32c packageSerial)).reverse))

/-- GETBCR: IBI requests with a payload are announced. -/
def execGetbcr : State → Res := hostDoes fun s => s.emit (.ccc [((Config.deviceUnique 11 0).getD 0 0) ||| 0x06])

/-- GETDCR: the value of the transport binding. -/
def execGetdcr : State → Res := hostDoes fun s => s.emit (.ccc [(Config.deviceUnique 12 0).getD 0 0])

/-- GETSTATUS: the pending-interrupt field is set while a message is held. -/
def execGetstatus : State → Res := hostDoes fun s => s.emit (.ccc [0, if s.mgmt.held.isEmpty then 0 else 1])

/-- A 16-bit length, most significant byte first. -/
def be16 (v : BitVec 16) : List Byte := [(v >>> 8).setWidth 8, v.setWidth 8]

/-- GETMRL. -/
def execGetmrl : State → Res := hostDoes fun s => s.emit (.ccc (be16 s.mgmt.mrl))

/-- SETMRL. -/
def execSetmrl (v : BitVec 16) : State → Res := hostDoes fun s => s.modMgmt fun m => { m with mrl := v }

/-- GETMWL. -/
def execGetmwl : State → Res := hostDoes fun s => s.emit (.ccc (be16 s.mgmt.mwl))

/-- SETMWL. -/
def execSetmwl (v : BitVec 16) : State → Res := hostDoes fun s => s.modMgmt fun m => { m with mwl := v }

/-- I3C_OTHER_CCC: ignored. -/
def execI3cOtherCcc (_code : BitVec 8) (s : State) : Res := .next s

end Sys2Proof.Machine
end

