-- ==== Sys2Proof/Machine/Fabric.lean ====
section
/-! DEFINITION. The Vexvar fabric's links and the PCIe link: dropped flits, credits, routes, forwarding, link loss
(01 R33 to R41; 11 R343; 12 R374, R399; 20 R583). -/

namespace Sys2Proof.Machine

/-! ### Topology (01 R34) -/

/-- The die that module m of die d connects to. -/
def State.neighbor (s : State) (d : DieId) (m : Fin 4) : Option DieId :=
  let n := s.part.dies
  let far := fun k => some (Fin.ofNat 8 ((d.val + k) % n))
  match s.part, m.val with
  | .kz6420, 0 | .kz6420, 1 => far 1
  | .kz6440, 0 | .kz6480, 0 => far 1
  | .kz6440, 1 | .kz6480, 1 => far (n - 1)
  | .kz6480, 2 => far 4
  | _, _ => none

/-- The module at the other end of module m's link. -/
def State.peerModule (s : State) (m : Fin 4) : Fin 4 :=
  match s.part, m.val with
  | .kz6420, _ => m
  | _, 0 => 1
  | _, 1 => 0
  | _, _ => m

/-- The link of module m of die d is up. -/
def State.linkUp (s : State) (d : DieId) (m : Fin 4) : Bool := (s.neighbor d m).isSome && !(s.linksDown.contains (d, m))

/-- Modules of die d whose link is up and leads to one of some dies. -/
def State.modulesTo (s : State) (d : DieId) (p : DieId → Bool) : List (Fin 4) :=
  (List.finRange 4).filter fun m => s.linkUp d m && (s.neighbor d m).any p

/-- Dies within k hops of a destination over links that are up. -/
def State.within (s : State) (dst : DieId) : Nat → List DieId
  | 0 => [dst]
  | k + 1 =>
    let near := s.within dst k
    s.fittedDies.filter fun d => near.contains d || !((s.modulesTo d near.contains).isEmpty)

/-- A die still has a route to the anchor. -/
def State.routed (s : State) (d : DieId) : Bool := (s.within 0 7).contains d

/-! ### Routing (01 R38, R40, R41) -/

/-- Module of the second hop, by the offset k (01 R38). -/
def secondHop (p : Part) (k : Nat) : Option (Fin 4) :=
  match p, k with
  | .kz6440, 2 => some 0
  | .kz6480, 2 => some 0
  | .kz6480, 3 => some 1
  | .kz6480, 5 => some 0
  | .kz6480, 6 => some 1
  | _, _ => none

/-- Module of the first hop, by the offset k (01 R38). -/
def firstHop (p : Part) (k : Nat) : Option (Fin 4) :=
  match p, k with
  | .kz6420, 1 => some 0
  | .kz6440, 1 | .kz6440, 2 => some 0
  | .kz6440, 3 => some 1
  | .kz6480, 1 | .kz6480, 2 => some 0
  | .kz6480, 3 | .kz6480, 4 | .kz6480, 5 => some 2
  | .kz6480, 6 | .kz6480, 7 => some 1
  | _, _ => none

/-- The module on which an intermediate die d forwards a flit: by the table of 01 R38, or, with links down, on a link of
a shortest route (one link down) or of any route (more), as the tables loaded choose (01 R40, R41; log 29). -/
def State.forwardModule (s : State) (d src dst : DieId) : Option (Fin 4) :=
  if s.linksDown.isEmpty then
    let k := (dst.val + s.part.dies - src.val) % s.part.dies
    match firstHop s.part k with
    | some m => if s.neighbor src m = some d then secondHop s.part k else none
    | none => none
  else
    let near := match (List.range 8).find? fun k => (s.within dst (k + 1)).contains d with
      | some k => if s.linksDown.length ≤ 2 then s.within dst k else s.within dst 7
      | none => []
    let ms := s.modulesTo d near.contains
    ms[Config.routeChoice (s.linksDown.map fun l => (l.1.val, l.2.val)) src.val dst.val d.val % max 1 ms.length]?

/-! ### Flits (01 R35 to R39; 11 R343) -/

def hdrClass (h : BitVec 128) : Nat := h.toNat / 64 % 4

def hdrOpcode (h : BitVec 128) : Nat := h.toNat / 2 ^ 24 % 256

/-- The message types of 01 R36. -/
def definedOpcode (n : Nat) : Bool :=
  [0x01, 0x02, 0x03, 0x04, 0x11, 0x12, 0x13, 0x21, 0x22, 0x23, 0x24, 0x25, 0x26].contains n

/-- A flit whose class or message type is not defined (01 R35, R36). -/
def hdrInvalid (h : BitVec 128) : Bool := hdrClass h == 3 || !(definedOpcode (hdrOpcode h))

/-- FABRIC_INVALID_MESSAGE (01 R35, R36): dropped and counted as a link error; another flit is not this (log 3). -/
def execFabricInvalidMessage (d : DieId) (m : Fin 4) (hdr : BitVec 128) (s : State) : Res :=
  onDie d s (when (hdrInvalid hdr) fun s =>
    s.modDie d fun x => { x with linkErrors := x.linkErrors.modify m.val (· + 1) })

/-- Credits of a class and virtual channel after a change that keeps within the receive buffer (11 R343). -/
def Credits.change (c : Credits) (cls : FabricClass) (vc : Bool) (f : Nat → Nat) : Credits :=
  match cls, vc with
  | .request, false => { c with req0 := min 128 (f c.req0) }
  | .request, true => { c with req1 := min 128 (f c.req1) }
  | .response, false => { c with rsp0 := min 96 (f c.rsp0) }
  | .response, true => { c with rsp1 := min 96 (f c.rsp1) }
  | .urgent, false => { c with urg0 := min 32 (f c.urg0) }
  | .urgent, true => { c with urg1 := min 32 (f c.urg1) }

/-- Credits held of a class on virtual channel 1. -/
def Credits.vc1 (c : Credits) : FabricClass → Nat
  | .request => c.req1
  | .response => c.rsp1
  | .urgent => c.urg1

def State.changeCredits (s : State) (d : DieId) (m : Fin 4) (cls : FabricClass) (vc : Bool) (f : Nat → Nat) : State :=
  s.modDie d fun x => { x with credits := x.credits.modify m.val fun c => c.change cls vc f }

/-- FABRIC_CREDIT_RETURN (11 R343): n credits toward module m come back to die d. -/
def execFabricCreditReturn (d : DieId) (m : Fin 4) (cls : FabricClass) (vc : Bool) (n : Nat) (s : State) : Res :=
  onDie d s fun s => s.changeCredits d m cls vc (· + n)

def fabricClass (n : Nat) : FabricClass := if n = 0 then .request else if n = 1 then .response else .urgent

/-- FABRIC_FLIT_FORWARD (01 R37 to R40): a flit received on module m for another die goes on, on VC1, while a credit for
it is held; without one it stays in the receive buffer (log 3). -/
def execFabricFlitForward (d : DieId) (m : Fin 4) (hdr : BitVec 128) (s : State) : Res :=
  onDie d s fun s =>
    let dst : DieId := Fin.ofNat 8 (hdr.toNat % 8)
    let src : DieId := Fin.ofNat 8 (hdr.toNat / 8 % 8)
    let cls := fabricClass (hdrClass hdr)
    if hdrInvalid hdr || dst == d || src == d || !(s.linkUp d m) || !(s.fitted dst) || !(s.fitted src) then s
    else
      match s.forwardModule d src dst with
      | none => s
      | some o =>
        if ((s.die d).credits.getD o.val {}).vc1 cls = 0 then s
        else
          (((s.changeCredits d o cls true (· - 1)).count d (0x0D4 + m.val)).count d (0x0D0 + o.val)).emit
            (.flit d o (hdr ||| (1#128 <<< 8)))

/-! ### Loss of a link (01 R40, R41; 20 R583) -/

/-- Both ends of a link go down; in a KZ-6420 both modules are one link (01 R34). -/
def State.takeDown (s : State) (d : DieId) (m : Fin 4) : State :=
  match s.neighbor d m with
  | none => s
  | some e =>
    let ends := if s.part = .kz6420 then [(d, (0 : Fin 4)), (e, 0), (d, 1), (e, 1)] else [(d, m), (e, s.peerModule m)]
    { s with linksDown := s.linksDown ++ ends }

/-- Dies that no route reaches any more are isolated as failed dies (01 R40). -/
def State.isolateUnrouted (s : State) : State :=
  s.fittedDies.foldl (fun s d => if s.routed d then s else s.isolate d 2) s

/-- FABRIC_LINK_DOWN (01 R40): the retry limit is reached, the link is taken down, and the degraded tables are loaded. -/
def execFabricLinkDown (d : DieId) (m : Fin 4) (s : State) : Res :=
  onDie d s fun s =>
    if !(s.linkUp d m) then s
    else
      let s := (s.raiseModule d m Ev.fabricRetryLimit).takeDown d m
      ((s.raiseModule d m Ev.fabricLinkDown).raiseModule d m Ev.fabricRouteReload).isolateUnrouted

/-! ### The PCIe link (12 R374, R399; 21 R620) -/

/-- PCIE_LINK_STATE_CHANGE: what LINK_SPEED_GTS, LINK_WIDTH and REFCLK_PPM show; a link that is down shows no rate. -/
def execPcieLinkStateChange (gts width : Nat) (ppm : BitVec 16) (s : State) : Res :=
  .next { s with host := { s.host with
    gts := gts % 256, width := if gts = 0 then 0 else width % 256, refclkPpm := if gts = 0 then 0 else ppm } }

end Sys2Proof.Machine
end

