-- ==== Sys2Proof/Machine/Operands.lean ====
section
/-! DEFINITION. Operand forms: fields of submission entries, LBAs, descriptors, instance bytes, register values. -/

namespace Sys2Proof.Machine

end Sys2Proof.Machine
end

