-- ==== Sys2Proof/Machine/Preamp.lean ====
section
/-! DEFINITION. The preamplifier control links: frames down, reports up, link errors and states (06 R198, R201 to
R210; 07 R214, R217, R218, R228 to R230). -/

namespace Sys2Proof.Machine

/-! ### Frames of the free time (06 R203; 07 R218) -/

/-- The bits of an actuator's heads that satisfy a condition (06 R203: word bit j is the actuator's j-th head). -/
def headMask (a : Act) (p : HeadId → Bool) : BitVec 12 :=
  (headsOf a).foldl (fun m h => if p h then m ||| (1#12 <<< (h.val % 12)) else m) 0

/-- HEAD_MODE_SEND (06 R198, R203; 07 R224): the mask of live heads and of the heads granted in the next slot. A
direction does not change while a split sector of the actuator is in progress, nor to write during an offset read. -/
def execHeadModeSend (d : DieId) (a : Act) (write : Bool) (s : State) : Res :=
  onDie d s fun s =>
    let x := s.die d
    let y := x.act a
    let busy := (headsOf a).any fun h => (x.head h).inProgress
    let offs := (headsOf a).any fun h => (x.head h).offset != 0
    let ok := y.pcl.open && (write == y.dirWrite || !busy) && !(write && offs)
    when ok (fun s =>
      let live := headMask a fun h => (x.head h).live
      let wen := headMask a fun h => (x.head h).grantNext.isSome
      let s := s.sendPcl d a 2 (if write then 1 else 0) [live.setWidth 16, wen.setWidth 16]
      s.modAct d a fun y => { y with dirWrite := write, liveMask := live, wenMask := wen }) s

/-- Read or write heater code of a head's current region (06 R206; 08 R258). -/
def State.heaterCode (s : State) (d : DieId) (h : HeadId) (write : Bool) : BitVec 10 :=
  BitVec.ofNat 10 (min 1023 (fieldU (s.calPayload d 2 (headInst d h)) (4 * s.headRegion d h + if write then 2 else 0) 2))

/-- HEATER_SEND (06 R203, R206): write codes for the heads of the mask, read codes for the others. -/
def execHeaterSend (d : DieId) (a : Act) (writing : BitVec 12) (s : State) : Res :=
  onDie d s fun s =>
    when ((s.die d).act a).pcl.open (fun s =>
      let code := fun (h : HeadId) => s.heaterCode d h (writing.getLsbD (h.val % 12))
      let s' := s.sendPcl d a 3 0 ((headsOf a).map fun h => (code h).setWidth 16)
      (headsOf a).foldl (fun t h => t.modHead d h fun x => { x with heaterSent := code h }) s') s

/-- The two ASSIST words of a head, WRITE_CODE held to MAX_CODE (07 R217, R218). -/
def State.assistWords (s : State) (d : DieId) (h : HeadId) : BitVec 16 × BitVec 16 :=
  let t := s.assistBytes d h
  let r := s.headRegion d h
  let w := min (s.writeCode d h r) (fieldU t 20 2)
  (BitVec.ofNat 16 (w % 1024 + 1024 * (s.preheatFrac d h r % 64)),
   BitVec.ofNat 16 (fieldU t 16 1 + 256 * (fieldU t 18 1 % 8)))

/-- ASSIST_FRAME_SEND (07 R214, R218): nothing in mode 0. -/
def execAssistFrameSend (d : DieId) (a : Act) (s : State) : Res :=
  onDie d s fun s =>
    let mode := s.assistMode d
    when (((s.die d).act a).pcl.open && mode != 0) (fun s =>
      let s' := s.sendPcl d a 4 (if mode = 2 then 1 else 0) ((headsOf a).flatMap fun h =>
        [(s.assistWords d h).1, (s.assistWords d h).2])
      (headsOf a).foldl (fun t h =>
        t.modHead d h fun x => { x with assistSent := (s.assistWords d h).2 ++ (s.assistWords d h).1 }) s') s

/-- WRITE_LEVEL_SEND (06 R203, R206). -/
def execWriteLevelSend (d : DieId) (a : Act) (s : State) : Res :=
  onDie d s fun s =>
    s.sendOpen d a 5 0 ((headsOf a).map fun h =>
      let r := s.region d h ((s.die d).head h).target
      BitVec.ofNat 16 (r.writeCurrent + 256 * r.overshoot))

/-- PREAMP_REG_WRITE (06 R203): 1 to 64 words. -/
def execPreampRegWrite (d : DieId) (a : Act) (reg : BitVec 8) (words : List (BitVec 16)) (s : State) : Res :=
  onDie d s fun s => when (decide (1 ≤ words.length ∧ words.length ≤ 64)) (·.sendOpen d a 6 reg.toNat words) s

/-- Ask for a register (06 R203). -/
def State.regReadSend (s : State) (d : DieId) (a : Act) (reg : BitVec 8) : State :=
  (s.sendPcl d a 7 reg.toNat []).modAct d a fun y => { y with regRead := some reg }

/-- PREAMP_REG_READ (06 R203). -/
def execPreampRegRead (d : DieId) (a : Act) (reg : BitVec 8) (s : State) : Res :=
  onDie d s fun s => when ((s.die d).act a).pcl.open (·.regReadSend d a reg) s

/-! ### Link states and errors (06 R207, R208) -/

/-- FAULT of a link: calibrations of the actuator end (06 R207; 08 R242). -/
def State.pclFault (s : State) (d : DieId) (a : Act) : State :=
  ((s.modAct d a fun y => { y with pcl := .fault, preampFault := true }).calAbortIf d (calOfAct a)).calRecheck d

/-- Link reset: RESET, then register 0x00 is asked for; the write pairs stay parked until the link is UP (06 R207,
R208). The third within one revolution without reaching UP faults the link and unloads the actuator. -/
def State.pclReset (s : State) (d : DieId) (a : Act) : State :=
  let y := (s.die d).act a
  let rev := (s.die d).clock.rev
  let n := if y.pclResetRev = rev then y.pclResets + 1 else 1
  let s := s.bump Obj.pclResetCount (actInst d a)
  let s := (headsOf a).foldl (fun s h => s.modHead d h Head.gateOff) s
  let s := s.modAct d a fun y =>
    { y with
      pcl := .init, pclErrRun := 0, pclOkRun := 0, pclResets := n, pclResetRev := rev, resetSeen := true, pclIdOk := false
      pclSent := [], regRead := none, dirWrite := false, wenMask := 0, liveMask := 0, upFault := false }
  if 3 ≤ n then ((s.pclFault d a).unloadCommand d a).raiseAct d a Ev.preampFault
  else (((s.sendPcl d a 15 0 []).regReadSend d a 0).calRecheck d)

/-- PCL_LINK_RESET (06 R207): a link in FAULT waits for the die reset. -/
def execPclLinkReset (d : DieId) (a : Act) (s : State) : Res :=
  onDie d s fun s => when (((s.die d).act a).pcl != .fault) (·.pclReset d a) s

/-- One more link error; the third in a row resets the link (06 R208). -/
def State.pclError (s : State) (d : DieId) (a : Act) : State :=
  let n := ((s.die d).act a).pclErrRun + 1
  let s := s.modAct d a fun y => { y with pclErrRun := n }
  if 3 ≤ n then (s.raiseAct d a Ev.pclLinkFault).pclReset d a else s

/-- Frames a report shows to be lost: all that the report covers on NAK, else those sent after LAST_SEQ (06 R204,
R208). The report covers the frames up to the last MA_UPDATE. -/
def Actuator.lostFrames (y : Actuator) (param : BitVec 8) : List (BitVec 4 × Nat × Nat × List (BitVec 16)) :=
  let due := y.pclSent.dropWhile fun f => f.2.1 != 1
  if param.getLsbD 4 then due else due.takeWhile fun f => f.1 != param.setWidth 4

/-- Every upstream frame with a good CRC (06 R204, R207, R208): FAULT noted, lost frames but MA_UPDATE sent again, a
lost MA_UPDATE or HEAD_MODE closes the next data window to writes. -/
def State.upstream (s : State) (d : DieId) (a : Act) (param : BitVec 8) : State :=
  let y := (s.die d).act a
  let lost := y.lostFrames param
  let s := s.modAct d a fun y =>
    { y with
      upFault := param.getLsbD 5, pclOkRun := y.pclOkRun + 1
      pclSent := y.pclSent.takeWhile fun f => f.2.1 != 1 }
  if lost.isEmpty && !(param.getLsbD 4) then s.modAct d a fun y => { y with pclErrRun := 0 }
  else
    let s := (s.bump Obj.pclNakCount (actInst d a)).modAct d a fun y => { y with nakSeen := true }
    let s := if lost.any fun f => f.2.1 == 1 || f.2.1 == 2 then s.modAct d a fun y => { y with windowLost := 2 } else s
    let again := (lost.filter fun f => f.2.1 != 1 && f.2.1 != 15).reverse
    let s := again.foldl (fun s f => s.sendPcl d a f.2.1 f.2.2.1 f.2.2.2) s
    s.pclError d a

/-- A report arrives on an open link; otherwise nothing (log 3). -/
def onReport (d : DieId) (a : Act) (s : State) (f : State → State) : Res :=
  onDie d s fun s => when ((s.die d).act a).pcl.open f s

/-- PREAMP_STATUS_REPORT (06 R204, R208; 09 R281). -/
def execPreampStatusReport (d : DieId) (a : Act) (param : BitVec 8) (w0 w1 : BitVec 16) (s : State) : Res :=
  onReport d a s fun s =>
    let old := s.get Obj.preampStatus (actInst d a)
    let v : Int := ((w1 ++ w0 : BitVec 32).toNat : Int)
    let s := (s.upstream d a param).put Obj.preampStatus (actInst d a) v
    let bad := w0.getLsbD 0 || w0.getLsbD 1
    let hs := if bad then (headsOf a).filter fun h => w1.getLsbD (h.val % 12) else []
    let s := hs.foldl (fun s h =>
      let again := ((s.die d).head h).openShortSeen
      let s := s.modHead d h fun x => { x with noWrite := true }
      if again then s.writeFailed d h else s) s
    let s := s.modAct d a fun y => { y with writeStop := w0.getLsbD 4 || w0.getLsbD 5 }
    if w0 = 0 then s
    else
      let s := s.modAct d a fun y => { y with preampFault := true }
      if v = old then s else s.raiseAct d a Ev.preampFault [(2, (w0.toNat : Int))]

/-- PREAMP_TEMP_REPORT (06 R204). -/
def execPreampTempReport (d : DieId) (a : Act) (param : BitVec 8) (temps : List (BitVec 16)) (s : State) : Res :=
  onReport d a s fun s =>
    let round := (s.die d).hk.rounds
    let s := (s.upstream d a param).modAct d a fun y => { y with preampTemp := (temps.getD 0 0).toInt }
    (headsOf a).foldl (fun s h => s.modHead d h fun x =>
      { x with temp := some (temps.getD (1 + h.val % 12) 0).toInt, tempRound := round }) s

/-- PD_EXP of a head: the mean of its last 16 undisturbed windows in its region, or the seed (07 R229). -/
def State.pdExpected (s : State) (d : DieId) (h : HeadId) : Rat :=
  let x := (s.die d).head h
  let r := s.headRegion d h
  if x.pdRegion = r ∧ !x.pdHist.isEmpty then ratMean (x.pdHist.map fun (n : Nat) => (n : Rat))
  else (fieldU (s.assistBytes d h) 28 2 % 4096 : Nat) * (s.writeCode d h r : Rat) / s.writeCode d h 0

/-- One head's photodiode word over its data window (07 R229, R230). -/
def State.pdWord (s : State) (d : DieId) (h : HeadId) (w : BitVec 16) : State :=
  let i := headInst d h
  let x := (s.die d).head h
  let r := s.headRegion d h
  let pd := w.toNat % 4096
  let s := s.put Obj.pdMean i pd
  if x.wrote.isEmpty then s
  else
    let e := s.pdExpected d h
    let off := ratAbs ((pd : Rat) - e)
    let reason := if w.getLsbD 15 then 1 else if s.getQ Obj.pdTolerance (dieInst d) * e < off then 2 else 0
    let hist := if x.pdRegion = r then x.pdHist else []
    if reason = 0 then
      s.modHead d h fun x => { x with wrote := [], pdRegion := r, pdHist := (pd :: hist).take 16 }
    else
      let s := (s.bump Obj.modeHopCount i).modDie d fun x => { x with modeHop := true }
      let s := s.raiseHead d h Ev.assistModeHop
      let s := x.wrote.foldl (fun s j => s.mark d ⟨h, j.loc, reason⟩) s
      let rev := (s.die d).clock.rev
      let n := if x.hopRev = rev then x.hops + 1 else 1
      let s := s.modHead d h fun x => { x with wrote := [], pdRegion := r, pdHist := hist, hops := n, hopRev := rev }
      if s.getN Obj.modehopBurst (dieInst d) < n ∧ s.getB Obj.assistHeadEnable i then
        ((s.put Obj.assistHeadEnable i 0).modDie d fun x => { x with unstable := true }).raiseHead d h Ev.assistUnstable
      else s

/-- PREAMP_PD_REPORT (07 R228 to R230). -/
def execPreampPdReport (d : DieId) (a : Act) (param : BitVec 8) (words : List (BitVec 16)) (s : State) : Res :=
  onReport d a s fun s =>
    let s := s.upstream d a param
    if s.assistMode d = 1 then (headsOf a).foldl (fun s h => s.pdWord d h (words.getD (h.val % 12) 0)) s else s

/-- PREAMP_REG_DATA_REPORT (06 R204, R213): PREAMP_ID follows register 0x00. -/
def execPreampRegDataReport (d : DieId) (a : Act) (param : BitVec 8) (v : BitVec 16) (s : State) : Res :=
  onReport d a s fun s =>
    let reg := ((s.die d).act a).regRead
    let s := (s.upstream d a param).modAct d a fun y => { y with regData := v, regRead := none }
    if reg = some 0 then s.put Obj.preampId (actInst d a) v.toNat else s

/-- PREAMP_REPORT_MISSING (06 R208; 07 R229): a bad CRC, or no report in time. -/
def execPreampReportMissing (d : DieId) (a : Act) (s : State) : Res :=
  onReport d a s fun s =>
    let pd := ((s.die d).act a).selected == 2
    let s := (s.bump Obj.pclCrcErrors (actInst d a)).modAct d a fun y => { y with crcErr := true, pclOkRun := 0 }
    let s := if pd then s.unmonitored d a else s
    s.pclError d a

/-- Register writes of a preamplifier initialisation table (06 R210). -/
def initWrites (t : List Byte) : List (Nat × BitVec 16) :=
  (List.range (fieldU t 4 2)).map fun i => (fieldU t (16 + 4 * i) 1, BitVec.ofNat 16 (fieldU t (18 + 4 * i) 2))

/-- PCL_ID_CHECK (06 R207 steps 2 and 3): register 0x00 against EXPECTED_ID, then the table's writes and a HEAD_MODE
with all masks 0. -/
def execPclIdCheck (d : DieId) (a : Act) (id : BitVec 16) (s : State) : Res :=
  onDie d s fun s =>
    when (((s.die d).act a).pcl == .init && !((s.die d).act a).pclIdOk) (fun s =>
      let i := actInst d a
      let s := (s.put Obj.preampId i id.toNat).modAct d a fun y => { y with regRead := none, regData := id }
      let t := s.dom Obj.preampInit 0 i []
      if id.toNat = fieldU t 2 2 then
        let s := (initWrites t).foldl (fun s w => s.sendPcl d a 6 w.1 [w.2]) s
        (s.sendPcl d a 2 0 [0, 0]).modAct d a fun y =>
          { y with pclIdOk := true, dirWrite := false, liveMask := 0, wenMask := 0 }
      else (s.pclFault d a).raiseAct d a Ev.preampIdMismatch) s

/-- PCL_LINK_UP (06 R207): 8 consecutive intact reports. -/
def execPclLinkUp (d : DieId) (a : Act) (s : State) : Res :=
  onDie d s fun s =>
    let y := (s.die d).act a
    when (y.pcl == .init && y.pclIdOk && decide (8 ≤ y.pclOkRun)) (fun s =>
      (s.modAct d a fun y => { y with pcl := .up, pclResets := 0 }).calRecheck d) s

end Sys2Proof.Machine
end

