-- ==== Sys2Proof/Machine/Dispatch.lean ====
section
/-! DEFINITION. One arm per command: a direct call of its meaning. -/

namespace Sys2Proof.Machine

def exec (i : Instr) (s : State) : Host.Outcome State Fault Refusal :=
  match i with
  | .porstNRise sa boot => Sys2Proof.Machine.execPorstNRise sa boot s
  | .porstNAssert => Sys2Proof.Machine.execPorstNAssert s
  | .supplyMonitorReset d => Sys2Proof.Machine.execSupplyMonitorReset d s
  | .memoryFillDone d region => Sys2Proof.Machine.execMemoryFillDone d region s
  | .packageReset => Sys2Proof.Machine.execPackageReset s
  | .packageWarmReset => Sys2Proof.Machine.execPackageWarmReset s
  | .warmResetDestageLimit d => Sys2Proof.Machine.execWarmResetDestageLimit d s
  | .dieResetRejoin d => Sys2Proof.Machine.execDieResetRejoin d s
  | .dieResetIsolate d => Sys2Proof.Machine.execDieResetIsolate d s
  | .reconciliation d ringIntact mediaReadable => Sys2Proof.Machine.execReconciliation d ringIntact mediaReadable s
  | .bootHeadLoad d => Sys2Proof.Machine.execBootHeadLoad d s
  | .bootMediaReplay d mediaReadable => Sys2Proof.Machine.execBootMediaReplay d mediaReadable s
  | .bootStalenessCheck d => Sys2Proof.Machine.execBootStalenessCheck d s
  | .bootReady => Sys2Proof.Machine.execBootReady s
  | .readyTimeout => Sys2Proof.Machine.execReadyTimeout s
  | .dieStartLimit d => Sys2Proof.Machine.execDieStartLimit d s
  | .hdaPowerTargetWrite d v => Sys2Proof.Machine.execHdaPowerTargetWrite d v s
  | .verbTimeout asn => Sys2Proof.Machine.execVerbTimeout asn s
  | .sqTailDoorbell q v => Sys2Proof.Machine.execSqTailDoorbell q v s
  | .cqHeadDoorbell q v => Sys2Proof.Machine.execCqHeadDoorbell q v s
  | .admitVerb q entry lists src => Sys2Proof.Machine.execAdmitVerb q entry lists src s
  | .segmentDrawRequest q => Sys2Proof.Machine.execSegmentDrawRequest q s
  | .allowanceUpdate d kind amount => Sys2Proof.Machine.execAllowanceUpdate d kind amount s
  | .resourceRelease d kind amount => Sys2Proof.Machine.execResourceRelease d kind amount s
  | .pciePerstAssert => Sys2Proof.Machine.execPciePerstAssert s
  | .functionLevelReset => Sys2Proof.Machine.execFunctionLevelReset s
  | .d3hotEntry => Sys2Proof.Machine.execD3hotEntry s
  | .pkgEnable => Sys2Proof.Machine.execPkgEnable s
  | .pkgDisable => Sys2Proof.Machine.execPkgDisable s
  | .shutdownNormal => Sys2Proof.Machine.execShutdownNormal s
  | .shutdownAbrupt => Sys2Proof.Machine.execShutdownAbrupt s
  | .shutdownComplete => Sys2Proof.Machine.execShutdownComplete s
  | .cqCoalesceTimeout cq => Sys2Proof.Machine.execCqCoalesceTimeout cq s
  | .msixVectorUnmask v => Sys2Proof.Machine.execMsixVectorUnmask v s
  | .registerWrite addr size v => Sys2Proof.Machine.execRegisterWrite addr size v s
  | .angleStampRead d => Sys2Proof.Machine.execAngleStampRead d s
  | .diagWindowAccess d off size wr => Sys2Proof.Machine.execDiagWindowAccess d off size wr s
  | .diagWindowResponse d => Sys2Proof.Machine.execDiagWindowResponse d s
  | .objectWindowGo data => Sys2Proof.Machine.execObjectWindowGo data s
  | .objectWindowDone => Sys2Proof.Machine.execObjectWindowDone s
  | .read asn d outs => Sys2Proof.Machine.execRead asn d outs s
  | .write asn data => Sys2Proof.Machine.execWrite asn data s
  | .zoneAppend asn data => Sys2Proof.Machine.execZoneAppend asn data s
  | .flushDevice asn => Sys2Proof.Machine.execFlushDevice asn s
  | .flushZone asn => Sys2Proof.Machine.execFlushZone asn s
  | .verify asn d outs => Sys2Proof.Machine.execVerify asn d outs s
  | .zoneOpen asn => Sys2Proof.Machine.execZoneOpen asn s
  | .zoneClose asn => Sys2Proof.Machine.execZoneClose asn s
  | .zoneFinish asn => Sys2Proof.Machine.execZoneFinish asn s
  | .zoneFinishExecute asn => Sys2Proof.Machine.execZoneFinishExecute asn s
  | .zoneReset asn => Sys2Proof.Machine.execZoneReset asn s
  | .zoneResetExecute asn => Sys2Proof.Machine.execZoneResetExecute asn s
  | .zoneSetAttributes asn => Sys2Proof.Machine.execZoneSetAttributes asn s
  | .zoneOffline asn => Sys2Proof.Machine.execZoneOffline asn s
  | .zoneReport asn => Sys2Proof.Machine.execZoneReport asn s
  | .copy asn outs => Sys2Proof.Machine.execCopy asn outs s
  | .identifyDevice asn => Sys2Proof.Machine.execIdentifyDevice asn s
  | .identifyDie asn => Sys2Proof.Machine.execIdentifyDie asn s
  | .getLogError asn => Sys2Proof.Machine.execGetLogError asn s
  | .getLogEvent asn => Sys2Proof.Machine.execGetLogEvent asn s
  | .getLogTrace asn => Sys2Proof.Machine.execGetLogTrace asn s
  | .getObject asn => Sys2Proof.Machine.execGetObject asn s
  | .setObject asn data => Sys2Proof.Machine.execSetObject asn data s
  | .domainSessionTimeout d key => Sys2Proof.Machine.execDomainSessionTimeout d key s
  | .restoreDefaults v => Sys2Proof.Machine.execRestoreDefaults v s
  | .createSq asn => Sys2Proof.Machine.execCreateSq asn s
  | .createCq asn => Sys2Proof.Machine.execCreateCq asn s
  | .deleteSq asn => Sys2Proof.Machine.execDeleteSq asn s
  | .deleteCq asn => Sys2Proof.Machine.execDeleteCq asn s
  | .abort asn => Sys2Proof.Machine.execAbort asn s
  | .queueResumeEntry asn => Sys2Proof.Machine.execQueueResumeEntry asn s
  | .queueResumeFlush asn => Sys2Proof.Machine.execQueueResumeFlush asn s
  | .queueResumeExecute q entries => Sys2Proof.Machine.execQueueResumeExecute q entries s
  | .sanitize asn => Sys2Proof.Machine.execSanitize asn s
  | .cryptoErase d domain => Sys2Proof.Machine.execCryptoErase d domain s
  | .keyLoad asn blob => Sys2Proof.Machine.execKeyLoad asn blob s
  | .snapshotCountersSnapshot asn => Sys2Proof.Machine.execSnapshotCountersSnapshot asn s
  | .snapshotCountersFreeze asn => Sys2Proof.Machine.execSnapshotCountersFreeze asn s
  | .snapshotCountersRelease asn => Sys2Proof.Machine.execSnapshotCountersRelease asn s
  | .snapshotCommandSnapshot => Sys2Proof.Machine.execSnapshotCommandSnapshot s
  | .snapshotCommandFreeze => Sys2Proof.Machine.execSnapshotCommandFreeze s
  | .snapshotCommandRelease => Sys2Proof.Machine.execSnapshotCommandRelease s
  | .snapshotLatch d => Sys2Proof.Machine.execSnapshotLatch d s
  | .snapshotBlockReceive d => Sys2Proof.Machine.execSnapshotBlockReceive d s
  | .fwDownload asn data => Sys2Proof.Machine.execFwDownload asn data s
  | .fwBlockWrite src data => Sys2Proof.Machine.execFwBlockWrite src data s
  | .fwActivate asn => Sys2Proof.Machine.execFwActivate asn s
  | .fwRevert asn => Sys2Proof.Machine.execFwRevert asn s
  | .fwCommandActivate src => Sys2Proof.Machine.execFwCommandActivate src s
  | .fwCommandRevert src => Sys2Proof.Machine.execFwCommandRevert src s
  | .fwClassChangeover => Sys2Proof.Machine.execFwClassChangeover s
  | .fwResetActivationReset => Sys2Proof.Machine.execFwResetActivationReset s
  | .fwConfirmed => Sys2Proof.Machine.execFwConfirmed s
  | .fwConfirmWindowExpiry => Sys2Proof.Machine.execFwConfirmWindowExpiry s
  | .fwLockLapsed => Sys2Proof.Machine.execFwLockLapsed s
  | .attestNonceWrite src nonce => Sys2Proof.Machine.execAttestNonceWrite src nonce s
  | .attestReportReady => Sys2Proof.Machine.execAttestReportReady s
  | .monitorRestart d => Sys2Proof.Machine.execMonitorRestart d s
  | .verbDispatch asn d => Sys2Proof.Machine.execVerbDispatch asn d s
  | .writeDataToOwner asn d n block => Sys2Proof.Machine.execWriteDataToOwner asn d n block s
  | .readDataToAnchor asn d => Sys2Proof.Machine.execReadDataToAnchor asn d s
  | .verbPartCompletion asn d => Sys2Proof.Machine.execVerbPartCompletion asn d s
  | .bootImageBlock d unit data => Sys2Proof.Machine.execBootImageBlock d unit data s
  | .fabricInvalidMessage d m hdr => Sys2Proof.Machine.execFabricInvalidMessage d m hdr s
  | .fabricCreditReturn d m cls vc n => Sys2Proof.Machine.execFabricCreditReturn d m cls vc n s
  | .fabricLinkDown d m => Sys2Proof.Machine.execFabricLinkDown d m s
  | .fabricLatencyMeasure d rtt => Sys2Proof.Machine.execFabricLatencyMeasure d rtt s
  | .packageTimeSend => Sys2Proof.Machine.execPackageTimeSend s
  | .packageTimeDistribution d count => Sys2Proof.Machine.execPackageTimeDistribution d count s
  | .timeAlignTimeout d => Sys2Proof.Machine.execTimeAlignTimeout d s
  | .powerFailNotice d => Sys2Proof.Machine.execPowerFailNotice d s
  | .eventForward d => Sys2Proof.Machine.execEventForward d s
  | .objectAccessMessage d => Sys2Proof.Machine.execObjectAccessMessage d s
  | .spindlePhaseReferenceSend => Sys2Proof.Machine.execSpindlePhaseReferenceSend s
  | .spindlePhaseReference d t0 speed => Sys2Proof.Machine.execSpindlePhaseReference d t0 speed s
  | .angleWedgeSample d k samples => Sys2Proof.Machine.execAngleWedgeSample d k samples s
  | .angleLocked d => Sys2Proof.Machine.execAngleLocked d s
  | .angleLockLost d => Sys2Proof.Machine.execAngleLockLost d s
  | .angleAcquireTimeout d => Sys2Proof.Machine.execAngleAcquireTimeout d s
  | .angleEventArm d cls owner form => Sys2Proof.Machine.execAngleEventArm d cls owner form s
  | .angleEventFire d id => Sys2Proof.Machine.execAngleEventFire d id s
  | .pwmPeriod d x => Sys2Proof.Machine.execPwmPeriod d x s
  | .observerValid d => Sys2Proof.Machine.execObserverValid d s
  | .observerDiverged d => Sys2Proof.Machine.execObserverDiverged d s
  | .predictClamp d => Sys2Proof.Machine.execPredictClamp d s
  | .predictClampRelease d => Sys2Proof.Machine.execPredictClampRelease d s
  | .spinHandoverMismatch d => Sys2Proof.Machine.execSpinHandoverMismatch d s
  | .spinStart d => Sys2Proof.Machine.execSpinStart d s
  | .spinStop d => Sys2Proof.Machine.execSpinStop d s
  | .spinupSlotGrant => Sys2Proof.Machine.execSpinupSlotGrant s
  | .bemfZeroCrossing d phase rising t => Sys2Proof.Machine.execBemfZeroCrossing d phase rising t s
  | .senseTimeout d => Sys2Proof.Machine.execSenseTimeout d s
  | .brakeTimeout d => Sys2Proof.Machine.execBrakeTimeout d s
  | .alignTimeout d => Sys2Proof.Machine.execAlignTimeout d s
  | .openLoopTimeout d => Sys2Proof.Machine.execOpenLoopTimeout d s
  | .spinAtSpeed d => Sys2Proof.Machine.execSpinAtSpeed d s
  | .spinReacqTimeout d => Sys2Proof.Machine.execSpinReacqTimeout d s
  | .spinRetractBrake d => Sys2Proof.Machine.execSpinRetractBrake d s
  | .spinRetractBrakeTimeout d => Sys2Proof.Machine.execSpinRetractBrakeTimeout d s
  | .demodWedge d h x => Sys2Proof.Machine.execDemodWedge d h x s
  | .headMissWriteInhibit d h => Sys2Proof.Machine.execHeadMissWriteInhibit d h s
  | .headMissDrop d h => Sys2Proof.Machine.execHeadMissDrop d h s
  | .headServoLost d h => Sys2Proof.Machine.execHeadServoLost d h s
  | .headServoRejoin d h => Sys2Proof.Machine.execHeadServoRejoin d h s
  | .grayMismatchInvalid d h => Sys2Proof.Machine.execGrayMismatchInvalid d h s
  | .servoCollect d => Sys2Proof.Machine.execServoCollect d s
  | .servoOverrun d => Sys2Proof.Machine.execServoOverrun d s
  | .coeffSwap d a => Sys2Proof.Machine.execCoeffSwap d a s
  | .coeffSwapApply d a => Sys2Proof.Machine.execCoeffSwapApply d a s
  | .actLoad d a => Sys2Proof.Machine.execActLoad d a s
  | .actUnload d a => Sys2Proof.Machine.execActUnload d a s
  | .actSeek d a targets => Sys2Proof.Machine.execActSeek d a targets s
  | .actLoadTimeout d a => Sys2Proof.Machine.execActLoadTimeout d a s
  | .actSettled d a => Sys2Proof.Machine.execActSettled d a s
  | .actSettleFail d a => Sys2Proof.Machine.execActSettleFail d a s
  | .actRecoverTimeout d a => Sys2Proof.Machine.execActRecoverTimeout d a s
  | .actRetractDone d a => Sys2Proof.Machine.execActRetractDone d a s
  | .shockTrip d => Sys2Proof.Machine.execShockTrip d s
  | .shockClear d => Sys2Proof.Machine.execShockClear d s
  | .shockHoldoffEnd d => Sys2Proof.Machine.execShockHoldoffEnd d s
  | .sectorRead d h loc x => Sys2Proof.Machine.execSectorRead d h loc x s
  | .ladderStep d h xs => Sys2Proof.Machine.execLadderStep d h xs s
  | .recoveryDecodeDone d a x => Sys2Proof.Machine.execRecoveryDecodeDone d a x s
  | .sectorWriteStart d h overshoot => Sys2Proof.Machine.execSectorWriteStart d h overshoot s
  | .assistPreheatStart d h => Sys2Proof.Machine.execAssistPreheatStart d h s
  | .sectorWriteEnd d h => Sys2Proof.Machine.execSectorWriteEnd d h s
  | .sectorAbandon d h => Sys2Proof.Machine.execSectorAbandon d h s
  | .headModeSend d a write => Sys2Proof.Machine.execHeadModeSend d a write s
  | .heaterSend d a writing => Sys2Proof.Machine.execHeaterSend d a writing s
  | .assistFrameSend d a => Sys2Proof.Machine.execAssistFrameSend d a s
  | .writeLevelSend d a => Sys2Proof.Machine.execWriteLevelSend d a s
  | .preampRegWrite d a reg words => Sys2Proof.Machine.execPreampRegWrite d a reg words s
  | .preampRegRead d a reg => Sys2Proof.Machine.execPreampRegRead d a reg s
  | .preampStatusReport d a param w0 w1 => Sys2Proof.Machine.execPreampStatusReport d a param w0 w1 s
  | .preampTempReport d a param temps => Sys2Proof.Machine.execPreampTempReport d a param temps s
  | .preampPdReport d a param words => Sys2Proof.Machine.execPreampPdReport d a param words s
  | .preampRegDataReport d a param v => Sys2Proof.Machine.execPreampRegDataReport d a param v s
  | .preampReportMissing d a => Sys2Proof.Machine.execPreampReportMissing d a s
  | .pclLinkReset d a => Sys2Proof.Machine.execPclLinkReset d a s
  | .pclIdCheck d a id => Sys2Proof.Machine.execPclIdCheck d a id s
  | .pclLinkUp d a => Sys2Proof.Machine.execPclLinkUp d a s
  | .assistRequest d h sectors => Sys2Proof.Machine.execAssistRequest d h sectors s
  | .verifyRead d res step iters => Sys2Proof.Machine.execVerifyRead d res step iters s
  | .calChannelAdapt sel => Sys2Proof.Machine.execCalChannelAdapt sel s
  | .calHeater sel => Sys2Proof.Machine.execCalHeater sel s
  | .calAssistOpt sel => Sys2Proof.Machine.execCalAssistOpt sel s
  | .calChevronGeom sel => Sys2Proof.Machine.execCalChevronGeom sel s
  | .calMaGain sel => Sys2Proof.Machine.execCalMaGain sel s
  | .calVcmTorque sel => Sys2Proof.Machine.execCalVcmTorque sel s
  | .calSenseOffset sel => Sys2Proof.Machine.execCalSenseOffset sel s
  | .calBemfSymmetry sel => Sys2Proof.Machine.execCalBemfSymmetry sel s
  | .calHoldupCap sel => Sys2Proof.Machine.execCalHoldupCap sel s
  | .calAbort sel => Sys2Proof.Machine.execCalAbort sel s
  | .bemfFloat d crossings => Sys2Proof.Machine.execBemfFloat d crossings s
  | .holdupTestEnd d curve => Sys2Proof.Machine.execHoldupTestEnd d curve s
  | .calConverge sel m => Sys2Proof.Machine.execCalConverge sel m s
  | .calTimeout sel => Sys2Proof.Machine.execCalTimeout sel s
  | .qualityWindowEnd d figs => Sys2Proof.Machine.execQualityWindowEnd d figs s
  | .powerOnHour d => Sys2Proof.Machine.execPowerOnHour d s
  | .formatCommand d => Sys2Proof.Machine.execFormatCommand d s
  | .destage d zone => Sys2Proof.Machine.execDestage d zone s
  | .compressJob d buffers => Sys2Proof.Machine.execCompressJob d buffers s
  | .compressJobEnd d lane => Sys2Proof.Machine.execCompressJobEnd d lane s
  | .decompressJob d => Sys2Proof.Machine.execDecompressJob d s
  | .decompressJobEnd d lane => Sys2Proof.Machine.execDecompressJobEnd d lane s
  | .huskPlace d zone => Sys2Proof.Machine.execHuskPlace d zone s
  | .journalAppend d => Sys2Proof.Machine.execJournalAppend d s
  | .journalFlush d => Sys2Proof.Machine.execJournalFlush d s
  | .mapCheckpoint d => Sys2Proof.Machine.execMapCheckpoint d s
  | .framePageWriteback d page => Sys2Proof.Machine.execFramePageWriteback d page s
  | .pfailNAssert d => Sys2Proof.Machine.execPfailNAssert d s
  | .holdupPfailTrip d => Sys2Proof.Machine.execHoldupPfailTrip d s
  | .dmaDrainEnd d => Sys2Proof.Machine.execDmaDrainEnd d s
  | .acornSaved d durationUs trailerMv => Sys2Proof.Machine.execAcornSaved d durationUs trailerMv s
  | .acornSaveFail d reservoirLow => Sys2Proof.Machine.execAcornSaveFail d reservoirLow s
  | .powerReturn => Sys2Proof.Machine.execPowerReturn s
  | .acornAreaErase d => Sys2Proof.Machine.execAcornAreaErase d s
  | .scrubTick d onchip dram demand => Sys2Proof.Machine.execScrubTick d onchip dram demand s
  | .ceLeakTick d => Sys2Proof.Machine.execCeLeakTick d s
  | .dmaUncorrectable d w x => Sys2Proof.Machine.execDmaUncorrectable d w x s
  | .mapCacheRequest d off wr chk => Sys2Proof.Machine.execMapCacheRequest d off wr chk s
  | .mapEvictDone d way => Sys2Proof.Machine.execMapEvictDone d way s
  | .mapPrefetch d off => Sys2Proof.Machine.execMapPrefetch d off s
  | .mapLineLock d off => Sys2Proof.Machine.execMapLineLock d off s
  | .mapLineUnlock d off => Sys2Proof.Machine.execMapLineUnlock d off s
  | .mapRangeInvalidate d start len => Sys2Proof.Machine.execMapRangeInvalidate d start len s
  | .coreTrap d c cause => Sys2Proof.Machine.execCoreTrap d c cause s
  | .coreWatchdog d c => Sys2Proof.Machine.execCoreWatchdog d c s
  | .seqNop d h w sig => Sys2Proof.Machine.execSeqNop d h w sig s
  | .seqAlu d h w sig => Sys2Proof.Machine.execSeqAlu d h w sig s
  | .seqArm d h w sig => Sys2Proof.Machine.execSeqArm d h w sig s
  | .seqLines d h w sig => Sys2Proof.Machine.execSeqLines d h w sig s
  | .seqStage d h w sig => Sys2Proof.Machine.execSeqStage d h w sig s
  | .seqReport d h w sig => Sys2Proof.Machine.execSeqReport d h w sig s
  | .seqWait d h w sig => Sys2Proof.Machine.execSeqWait d h w sig s
  | .motorNop d w sig => Sys2Proof.Machine.execMotorNop d w sig s
  | .motorAlu d w sig => Sys2Proof.Machine.execMotorAlu d w sig s
  | .motorTable d w sig => Sys2Proof.Machine.execMotorTable d w sig s
  | .motorPwm d w sig => Sys2Proof.Machine.execMotorPwm d w sig s
  | .motorSample d w sig => Sys2Proof.Machine.execMotorSample d w sig s
  | .motorReport d w sig => Sys2Proof.Machine.execMotorReport d w sig s
  | .motorWait d w sig => Sys2Proof.Machine.execMotorWait d w sig s
  | .cleMicroword d w sig => Sys2Proof.Machine.execCleMicroword d w sig s
  | .engineWaitRelease d e cond => Sys2Proof.Machine.execEngineWaitRelease d e cond s
  | .engineFault d e kind => Sys2Proof.Machine.execEngineFault d e kind s
  | .clauseOverrun d e => Sys2Proof.Machine.execClauseOverrun d e s
  | .engineReset d e => Sys2Proof.Machine.execEngineReset d e s
  | .engineHalt d e => Sys2Proof.Machine.execEngineHalt d e s
  | .engineReload d e => Sys2Proof.Machine.execEngineReload d e s
  | .cleBankSwap d => Sys2Proof.Machine.execCleBankSwap d s
  | .evtRouteWrite n half v => Sys2Proof.Machine.execEvtRouteWrite n half v s
  | .eventCoalesceTimeout n => Sys2Proof.Machine.execEventCoalesceTimeout n s
  | .bwWindowEnd d => Sys2Proof.Machine.execBwWindowEnd d s
  | .hkSlot d code => Sys2Proof.Machine.execHkSlot d code s
  | .hkRoundEnd d => Sys2Proof.Machine.execHkRoundEnd d s
  | .mctpPacketReceive eid pecOk som eom seq tag body => Sys2Proof.Machine.execMctpPacketReceive eid pecOk som eom seq tag body s
  | .setEndpointId src eid => Sys2Proof.Machine.execSetEndpointId src eid s
  | .getEndpointId src => Sys2Proof.Machine.execGetEndpointId src s
  | .getEndpointUuid src => Sys2Proof.Machine.execGetEndpointUuid src s
  | .getMctpVersionSupport src => Sys2Proof.Machine.execGetMctpVersionSupport src s
  | .getMessageTypeSupport src => Sys2Proof.Machine.execGetMessageTypeSupport src s
  | .getVendorDefinedMsgSupport src => Sys2Proof.Machine.execGetVendorDefinedMsgSupport src s
  | .mctpUnsupportedCommand src cmd => Sys2Proof.Machine.execMctpUnsupportedCommand src cmd s
  | .mctpGetObject src body => Sys2Proof.Machine.execMctpGetObject src body s
  | .mctpSetObject src body => Sys2Proof.Machine.execMctpSetObject src body s
  | .mctpResponseRead => Sys2Proof.Machine.execMctpResponseRead s
  | .responseHoldExpiry => Sys2Proof.Machine.execResponseHoldExpiry s
  | .ibiRaise => Sys2Proof.Machine.execIbiRaise s
  | .ibiFailed => Sys2Proof.Machine.execIbiFailed s
  | .ibiRetryWaitEnd => Sys2Proof.Machine.execIbiRetryWaitEnd s
  | .entdaa addr => Sys2Proof.Machine.execEntdaa addr s
  | .setdasa static addr => Sys2Proof.Machine.execSetdasa static addr s
  | .rstdaa => Sys2Proof.Machine.execRstdaa s
  | .enec events => Sys2Proof.Machine.execEnec events s
  | .disec events => Sys2Proof.Machine.execDisec events s
  | .getpid => Sys2Proof.Machine.execGetpid s
  | .getbcr => Sys2Proof.Machine.execGetbcr s
  | .getdcr => Sys2Proof.Machine.execGetdcr s
  | .getstatus => Sys2Proof.Machine.execGetstatus s
  | .getmrl => Sys2Proof.Machine.execGetmrl s
  | .setmrl v => Sys2Proof.Machine.execSetmrl v s
  | .getmwl => Sys2Proof.Machine.execGetmwl s
  | .setmwl v => Sys2Proof.Machine.execSetmwl v s
  | .i3cOtherCcc code => Sys2Proof.Machine.execI3cOtherCcc code s
  | .fabricFlitForward d m hdr => Sys2Proof.Machine.execFabricFlitForward d m hdr s
  | .counterSnapshotMessage d t action => Sys2Proof.Machine.execCounterSnapshotMessage d t action s
  | .pcieLinkStateChange gts width ppm => Sys2Proof.Machine.execPcieLinkStateChange gts width ppm s

end Sys2Proof.Machine
end

