-- ==== Sys2Proof/Machine/Tick.lean ====
section
/-! DEFINITION. What passes while no command waits: one cycle of the 800 MHz clocks of every die, and the two things that
come about of themselves, Die-sleep and a rejoin that waited (02 R50, R69, R70; 20 R577, R584; log 2). -/

namespace Sys2Proof.Machine

/-! ### One cycle of a die's clock -/

/-- The local package time after a cycle of five quarter nanoseconds: held while a hold lasts, and slewed by a quarter
nanosecond every 2,000 cycles (02 R69, R70). -/
def AngleClock.tickTime (c : AngleClock) : AngleClock :=
  if c.hold4 ≠ 0 then { c with hold4 := c.hold4 - 5, time4 := c.time4 + (5 - c.hold4) }
  else if c.slewLeft = 0 then { c with time4 := c.time4 + 5, slewTicks := 0 }
  else if c.slewTicks + 1 < 2000 then { c with time4 := c.time4 + 5, slewTicks := c.slewTicks + 1 }
  else if 0 < c.slewLeft then { c with time4 := c.time4 + 6, slewTicks := 0, slewLeft := c.slewLeft - 1 }
  else { c with time4 := c.time4 + 4, slewTicks := 0, slewLeft := c.slewLeft + 1 }

/-- The accumulator takes its increment; true when it passes angle 0 (02 R50). -/
def AngleClock.tickAngle (c : AngleClock) : AngleClock × Bool :=
  let acc := c.acc + c.incr.setWidth 80
  let wrap := decide (acc.toNat % 2 ^ 56 < c.acc.toNat % 2 ^ 56)
  ({ c with acc, zeroCross4 := if wrap then c.time4 else c.zeroCross4 }, wrap)

/-- One cycle of die d: time, angle, the revolution counter and the events of 19 R549, the window's coasting mark
(19 R548, R553). -/
def State.tickClock (s : State) (d : DieId) : State :=
  let r := (s.die d).clock.tickTime.tickAngle
  let s := s.modClock d fun _ => r.1
  let s := s.modObs d fun o => { o with bwCoast := o.bwCoast || r.1.coasting }
  let s := s.count d 0x001
  if r.2 then (s.modObs d fun o => if o.frozen then o else { o with revs := o.revs + 1 }).count d 0x002 else s

/-! ### Die-sleep and waiting rejoins -/

/-- A member die that has come to rest power-gates: its dirty data is on the medium and its journal tail in the checkpoint
log (20 R577). -/
def State.sleepCheck (s : State) (d : DieId) : State :=
  let x := s.die d
  let rest := x.power == .standby && decide (dirtyBytes x.data = 0) && x.data.jq.isEmpty && x.data.arriving.entries.isEmpty
  let saved := s.isolated d && x.bothParked && x.spin.state == .stopped && x.data.saving.isNone && x.data.pfail.isNone
  if d.val ≠ 0 ∧ x.target = .dieSleep ∧ x.power ≠ .dieSleep ∧ (saved ∨ (rest ∧ !(s.isolated d))) then
    let s := if saved then s else s.flushJournal d
    s.modDie d fun x => { x with power := .dieSleep }
  else s

/-- A rejoin that waited for the save of an isolation or of a power failure (20 R584). -/
def State.rejoinCheck (s : State) (d : DieId) : State :=
  let x := s.die d
  if s.isolated d && x.rejoining && x.data.saving.isNone && x.data.pfail.isNone then s.dieRejoin d else s

/-- One cycle of die d, unless it is power-gated. -/
def State.tickDie (s : State) (d : DieId) : State :=
  let s := if (s.die d).power = .dieSleep then s else (s.tickClock d).sleepCheck d
  s.rejoinCheck d

/-- One cycle: nothing moves while PORST_N is low (21 R600). -/
def tick (s : State) : State := if s.host.inReset then s else s.fittedDies.foldl State.tickDie s

end Sys2Proof.Machine
end

