-- ==== Sys2Proof/WellFormed.lean ====
section
/-! DEFINITION. What a command's operands may be where their types allow more: the ranges that the buses, queues and
tables around the block give them. The block's meanings are total and do not rest on it. -/

namespace Sys2Proof

/-- Bytes of an access (12 R377). -/
def AccessSize.bytes : AccessSize → Nat
  | .w32 => 4
  | .w64 => 8

/-- The die of a calibration instance. -/
def CalSel.owner : CalSel → DieId
  | .head d _ | .act d _ | .die d => d

/-- The die that a command needs; none for a command of the package, as is an access to a window, which an absent die leaves
reserved (12 R377). -/
def Instr.die : Instr → Option DieId
  | .supplyMonitorReset d | .memoryFillDone d .. | .warmResetDestageLimit d | .dieResetRejoin d
  | .dieResetIsolate d | .reconciliation d .. | .bootHeadLoad d | .bootMediaReplay d .. | .bootStalenessCheck d
  | .dieStartLimit d | .hdaPowerTargetWrite d .. | .allowanceUpdate d .. | .resourceRelease d ..
  | .angleStampRead d | .diagWindowResponse d | .domainSessionTimeout d ..
  | .cryptoErase d .. | .snapshotLatch d | .snapshotBlockReceive d | .monitorRestart d | .bootImageBlock d ..
  | .fabricInvalidMessage d .. | .fabricCreditReturn d .. | .fabricLinkDown d .. | .fabricLatencyMeasure d ..
  | .packageTimeDistribution d .. | .timeAlignTimeout d | .powerFailNotice d | .eventForward d
  | .objectAccessMessage d | .spindlePhaseReference d .. | .angleWedgeSample d .. | .angleLocked d
  | .angleLockLost d | .angleAcquireTimeout d | .angleEventArm d .. | .angleEventFire d .. | .pwmPeriod d ..
  | .observerValid d | .observerDiverged d | .predictClamp d | .predictClampRelease d | .spinHandoverMismatch d
  | .spinStart d | .spinStop d | .bemfZeroCrossing d .. | .senseTimeout d | .brakeTimeout d | .alignTimeout d
  | .openLoopTimeout d | .spinAtSpeed d | .spinReacqTimeout d | .spinRetractBrake d | .spinRetractBrakeTimeout d
  | .demodWedge d .. | .headMissWriteInhibit d .. | .headMissDrop d .. | .headServoLost d ..
  | .headServoRejoin d .. | .grayMismatchInvalid d .. | .servoCollect d | .servoOverrun d | .coeffSwap d ..
  | .coeffSwapApply d .. | .actLoad d .. | .actUnload d .. | .actSeek d .. | .actLoadTimeout d ..
  | .actSettled d .. | .actSettleFail d .. | .actRecoverTimeout d .. | .actRetractDone d .. | .shockTrip d
  | .shockClear d | .shockHoldoffEnd d | .sectorRead d .. | .ladderStep d .. | .recoveryDecodeDone d ..
  | .sectorWriteStart d .. | .assistPreheatStart d .. | .sectorWriteEnd d .. | .sectorAbandon d ..
  | .headModeSend d .. | .heaterSend d .. | .assistFrameSend d .. | .writeLevelSend d .. | .preampRegWrite d ..
  | .preampRegRead d .. | .preampStatusReport d .. | .preampTempReport d .. | .preampPdReport d ..
  | .preampRegDataReport d .. | .preampReportMissing d .. | .pclLinkReset d .. | .pclIdCheck d .. | .pclLinkUp d ..
  | .assistRequest d .. | .verifyRead d .. | .bemfFloat d .. | .holdupTestEnd d .. | .qualityWindowEnd d ..
  | .powerOnHour d | .formatCommand d | .destage d .. | .compressJob d .. | .compressJobEnd d .. | .decompressJob d
  | .decompressJobEnd d .. | .huskPlace d .. | .journalAppend d | .journalFlush d | .mapCheckpoint d
  | .framePageWriteback d .. | .pfailNAssert d | .holdupPfailTrip d | .dmaDrainEnd d | .acornSaved d ..
  | .acornSaveFail d .. | .acornAreaErase d | .scrubTick d .. | .ceLeakTick d | .dmaUncorrectable d ..
  | .mapCacheRequest d .. | .mapEvictDone d .. | .mapPrefetch d .. | .mapLineLock d .. | .mapLineUnlock d ..
  | .mapRangeInvalidate d .. | .coreTrap d .. | .coreWatchdog d .. | .seqNop d .. | .seqAlu d .. | .seqArm d ..
  | .seqLines d .. | .seqStage d .. | .seqReport d .. | .seqWait d .. | .motorNop d .. | .motorAlu d ..
  | .motorTable d .. | .motorPwm d .. | .motorSample d .. | .motorReport d .. | .motorWait d ..
  | .cleMicroword d .. | .engineWaitRelease d .. | .engineFault d .. | .clauseOverrun d .. | .engineReset d ..
  | .engineHalt d .. | .engineReload d .. | .cleBankSwap d | .bwWindowEnd d | .hkSlot d .. | .hkRoundEnd d
  | .fabricFlitForward d .. | .counterSnapshotMessage d .. => some d
  | .read _ d _ => some d
  | .verify _ d _ => some d
  | .verbDispatch _ d => some d
  | .writeDataToOwner _ d _ _ => some d
  | .readDataToAnchor _ d => some d
  | .verbPartCompletion _ d => some d
  | .calChannelAdapt sel | .calHeater sel | .calAssistOpt sel | .calChevronGeom sel | .calMaGain sel
  | .calVcmTorque sel | .calSenseOffset sel | .calBemfSymmetry sel | .calHoldupCap sel | .calAbort sel
  | .calConverge sel .. | .calTimeout sel => some sel.owner
  | .porstNRise .. | .porstNAssert | .packageReset | .packageWarmReset | .bootReady | .readyTimeout
  | .verbTimeout .. | .sqTailDoorbell .. | .cqHeadDoorbell .. | .admitVerb .. | .segmentDrawRequest ..
  | .pciePerstAssert | .functionLevelReset | .d3hotEntry | .pkgEnable | .pkgDisable | .shutdownNormal
  | .shutdownAbrupt | .shutdownComplete | .cqCoalesceTimeout .. | .msixVectorUnmask .. | .registerWrite ..
  | .diagWindowAccess .. | .objectWindowGo .. | .objectWindowDone | .write .. | .zoneAppend .. | .flushDevice .. | .flushZone ..
  | .zoneOpen .. | .zoneClose .. | .zoneFinish .. | .zoneFinishExecute .. | .zoneReset .. | .zoneResetExecute ..
  | .zoneSetAttributes .. | .zoneOffline .. | .zoneReport .. | .copy .. | .identifyDevice .. | .identifyDie ..
  | .getLogError .. | .getLogEvent .. | .getLogTrace .. | .getObject .. | .setObject .. | .restoreDefaults ..
  | .createSq .. | .createCq .. | .deleteSq .. | .deleteCq .. | .abort .. | .queueResumeEntry ..
  | .queueResumeFlush .. | .queueResumeExecute .. | .sanitize .. | .keyLoad .. | .snapshotCountersSnapshot ..
  | .snapshotCountersFreeze .. | .snapshotCountersRelease .. | .snapshotCommandSnapshot | .snapshotCommandFreeze
  | .snapshotCommandRelease | .fwDownload .. | .fwBlockWrite .. | .fwActivate .. | .fwRevert ..
  | .fwCommandActivate .. | .fwCommandRevert .. | .fwClassChangeover | .fwResetActivationReset | .fwConfirmed
  | .fwConfirmWindowExpiry | .fwLockLapsed | .attestNonceWrite .. | .attestReportReady | .packageTimeSend
  | .spindlePhaseReferenceSend | .spinupSlotGrant | .powerReturn | .evtRouteWrite .. | .eventCoalesceTimeout ..
  | .mctpPacketReceive .. | .setEndpointId .. | .getEndpointId .. | .getEndpointUuid .. | .getMctpVersionSupport ..
  | .getMessageTypeSupport .. | .getVendorDefinedMsgSupport .. | .mctpUnsupportedCommand .. | .mctpGetObject ..
  | .mctpSetObject .. | .mctpResponseRead | .responseHoldExpiry | .ibiRaise | .ibiFailed | .ibiRetryWaitEnd
  | .entdaa .. | .setdasa .. | .rstdaa | .enec .. | .disec .. | .getpid | .getbcr | .getdcr | .getstatus | .getmrl
  | .setmrl .. | .getmwl | .setmwl .. | .i3cOtherCcc .. | .pcieLinkStateChange .. => none

/-- The operands are in range: queue numbers and lengths (12 R380, R381), MSI-X vectors (12 R377), aligned BAR0 and
window accesses (12 R377), event sources (00 R16), window, segment and transfer lengths (13 R403; 14 R440, R446; 17
R509), boot blocks (11 R344), messages (14 R448), credits (11 R343), link rates and widths (12 R374). -/
def Instr.wf : Instr → Bool
  | .sqTailDoorbell q _ => decide (q < 512)
  | .cqHeadDoorbell q _ => decide (q < 512)
  | .admitVerb q _ _ src => decide (q < 512) && decide (src.length ≤ 4096)
  | .segmentDrawRequest q => decide (q < 512)
  | .cqCoalesceTimeout cq => decide (cq < 512)
  | .queueResumeExecute q entries => decide (q < 512) && decide (entries.length ≤ 4096)
  | .msixVectorUnmask v => decide (v < 2048)
  | .registerWrite addr size _ => decide (addr < 2 ^ 26) && decide (addr % size.bytes = 0)
  | .diagWindowAccess _ off size _ => decide (off < 2 ^ 22) && decide (off % size.bytes = 0)
  | .evtRouteWrite n _ _ => decide (n < 1024)
  | .eventCoalesceTimeout n => decide (n < 1024)
  | .objectWindowGo data => decide (data.length ≤ 65536)
  | .setObject _ data => decide (data.length ≤ 65536)
  | .fwBlockWrite _ data => decide (data.length ≤ 65536)
  | .fwDownload _ data => decide (data.length ≤ 1048576)
  | .attestNonceWrite _ nonce => decide (nonce.length ≤ 65536)
  | .write _ data => decide (data.length ≤ 4096)
  | .zoneAppend _ data => decide (data.length ≤ 4096)
  | .bootImageBlock _ _ data => decide (0 < data.length) && decide (data.length ≤ 1048576)
  | .mctpPacketReceive _ _ _ _ _ _ body => decide (body.length ≤ 256)
  | .mctpGetObject _ body => decide (body.length ≤ 4160)
  | .mctpSetObject _ body => decide (body.length ≤ 4160)
  | .fabricCreditReturn _ _ _ _ n => decide (n ≤ 128)
  | .pcieLinkStateChange gts width _ => [0, 2, 5, 8, 16, 32, 64, 128].contains gts && [0, 1, 4, 8, 16].contains width
  | .porstNRise .. | .porstNAssert | .supplyMonitorReset .. | .memoryFillDone .. | .packageReset
  | .packageWarmReset | .warmResetDestageLimit .. | .dieResetRejoin .. | .dieResetIsolate .. | .reconciliation ..
  | .bootHeadLoad .. | .bootMediaReplay .. | .bootStalenessCheck .. | .bootReady | .readyTimeout
  | .dieStartLimit .. | .hdaPowerTargetWrite .. | .verbTimeout .. | .allowanceUpdate .. | .resourceRelease ..
  | .pciePerstAssert | .functionLevelReset | .d3hotEntry | .pkgEnable | .pkgDisable | .shutdownNormal
  | .shutdownAbrupt | .shutdownComplete | .angleStampRead .. | .diagWindowResponse .. | .objectWindowDone
  | .read .. | .flushDevice .. | .flushZone .. | .verify .. | .zoneOpen .. | .zoneClose .. | .zoneFinish ..
  | .zoneFinishExecute .. | .zoneReset .. | .zoneResetExecute .. | .zoneSetAttributes .. | .zoneOffline ..
  | .zoneReport .. | .copy .. | .identifyDevice .. | .identifyDie .. | .getLogError .. | .getLogEvent ..
  | .getLogTrace .. | .getObject .. | .domainSessionTimeout .. | .restoreDefaults .. | .createSq .. | .createCq ..
  | .deleteSq .. | .deleteCq .. | .abort .. | .queueResumeEntry .. | .queueResumeFlush .. | .sanitize ..
  | .cryptoErase .. | .keyLoad .. | .snapshotCountersSnapshot .. | .snapshotCountersFreeze ..
  | .snapshotCountersRelease .. | .snapshotCommandSnapshot | .snapshotCommandFreeze | .snapshotCommandRelease
  | .snapshotLatch .. | .snapshotBlockReceive .. | .fwActivate .. | .fwRevert .. | .fwCommandActivate ..
  | .fwCommandRevert .. | .fwClassChangeover | .fwResetActivationReset | .fwConfirmed | .fwConfirmWindowExpiry
  | .fwLockLapsed | .attestReportReady | .monitorRestart .. | .verbDispatch .. | .writeDataToOwner ..
  | .readDataToAnchor .. | .verbPartCompletion .. | .fabricInvalidMessage .. | .fabricLinkDown ..
  | .fabricLatencyMeasure .. | .packageTimeSend | .packageTimeDistribution .. | .timeAlignTimeout ..
  | .powerFailNotice .. | .eventForward .. | .objectAccessMessage .. | .spindlePhaseReferenceSend
  | .spindlePhaseReference .. | .angleWedgeSample .. | .angleLocked .. | .angleLockLost ..
  | .angleAcquireTimeout .. | .angleEventArm .. | .angleEventFire .. | .pwmPeriod .. | .observerValid ..
  | .observerDiverged .. | .predictClamp .. | .predictClampRelease .. | .spinHandoverMismatch .. | .spinStart ..
  | .spinStop .. | .spinupSlotGrant | .bemfZeroCrossing .. | .senseTimeout .. | .brakeTimeout .. | .alignTimeout ..
  | .openLoopTimeout .. | .spinAtSpeed .. | .spinReacqTimeout .. | .spinRetractBrake ..
  | .spinRetractBrakeTimeout .. | .demodWedge .. | .headMissWriteInhibit .. | .headMissDrop .. | .headServoLost ..
  | .headServoRejoin .. | .grayMismatchInvalid .. | .servoCollect .. | .servoOverrun .. | .coeffSwap ..
  | .coeffSwapApply .. | .actLoad .. | .actUnload .. | .actSeek .. | .actLoadTimeout .. | .actSettled ..
  | .actSettleFail .. | .actRecoverTimeout .. | .actRetractDone .. | .shockTrip .. | .shockClear ..
  | .shockHoldoffEnd .. | .sectorRead .. | .ladderStep .. | .recoveryDecodeDone .. | .sectorWriteStart ..
  | .assistPreheatStart .. | .sectorWriteEnd .. | .sectorAbandon .. | .headModeSend .. | .heaterSend ..
  | .assistFrameSend .. | .writeLevelSend .. | .preampRegWrite .. | .preampRegRead .. | .preampStatusReport ..
  | .preampTempReport .. | .preampPdReport .. | .preampRegDataReport .. | .preampReportMissing ..
  | .pclLinkReset .. | .pclIdCheck .. | .pclLinkUp .. | .assistRequest .. | .verifyRead .. | .calChannelAdapt ..
  | .calHeater .. | .calAssistOpt .. | .calChevronGeom .. | .calMaGain .. | .calVcmTorque .. | .calSenseOffset ..
  | .calBemfSymmetry .. | .calHoldupCap .. | .calAbort .. | .bemfFloat .. | .holdupTestEnd .. | .calConverge ..
  | .calTimeout .. | .qualityWindowEnd .. | .powerOnHour .. | .formatCommand .. | .destage .. | .compressJob ..
  | .compressJobEnd .. | .decompressJob .. | .decompressJobEnd .. | .huskPlace .. | .journalAppend ..
  | .journalFlush .. | .mapCheckpoint .. | .framePageWriteback .. | .pfailNAssert .. | .holdupPfailTrip ..
  | .dmaDrainEnd .. | .acornSaved .. | .acornSaveFail .. | .powerReturn | .acornAreaErase .. | .scrubTick ..
  | .ceLeakTick .. | .dmaUncorrectable .. | .mapCacheRequest .. | .mapEvictDone .. | .mapPrefetch ..
  | .mapLineLock .. | .mapLineUnlock .. | .mapRangeInvalidate .. | .coreTrap .. | .coreWatchdog .. | .seqNop ..
  | .seqAlu .. | .seqArm .. | .seqLines .. | .seqStage .. | .seqReport .. | .seqWait .. | .motorNop ..
  | .motorAlu .. | .motorTable .. | .motorPwm .. | .motorSample .. | .motorReport .. | .motorWait ..
  | .cleMicroword .. | .engineWaitRelease .. | .engineFault .. | .clauseOverrun .. | .engineReset ..
  | .engineHalt .. | .engineReload .. | .cleBankSwap .. | .bwWindowEnd .. | .hkSlot .. | .hkRoundEnd ..
  | .setEndpointId .. | .getEndpointId .. | .getEndpointUuid .. | .getMctpVersionSupport ..
  | .getMessageTypeSupport .. | .getVendorDefinedMsgSupport .. | .mctpUnsupportedCommand .. | .mctpResponseRead
  | .responseHoldExpiry | .ibiRaise | .ibiFailed | .ibiRetryWaitEnd | .entdaa .. | .setdasa .. | .rstdaa | .enec ..
  | .disec .. | .getpid | .getbcr | .getdcr | .getstatus | .getmrl | .setmrl .. | .getmwl | .setmwl ..
  | .i3cOtherCcc .. | .fabricFlitForward .. | .counterSnapshotMessage .. => true

end Sys2Proof
end

