-- ==== Sys2Proof/Safety.lean ====
section
/-! DEFINITION. What claims about the block are stated in: what no command may change, and which outcomes go on. -/

namespace Sys2Proof.Machine

/-- What no command changes: the part that is fitted (00 R2), and the commands still waiting, which only the step and the
sender touch. -/
structure Fixed where
  part : Part
  pending : List Instr
deriving DecidableEq, Repr

def State.fixed (s : State) : Fixed := ⟨s.part, s.pending⟩

/-- An outcome that, where it is a next state, has what is fixed as it was. -/
def Keeps (s : State) : Res → Prop
  | .next t => t.fixed = s.fixed
  | _ => True

/-- The command's die, where it has one, is fitted (00 R2; log 5). -/
def State.takes (s : State) (c : Instr) : Prop := ∀ d, c.die = some d → s.fitted d = true

end Sys2Proof.Machine
end

