-- ==== Sys2Proof/Safety/Frame.lean ====
section
/-! DEFINITION. How claims say that a command runs and what it leaves alone: the block less what reporting touches, and
changes that stay within one die. -/

namespace Sys2Proof.Machine

/-- The command runs: its outcome is a next state, of which P holds. -/
def Runs (c : Instr) (s : State) (P : State → Prop) : Prop := ∃ t, exec c s = .next t ∧ P t

/-- A die less its event log, its programmable counters and its events on their way to the anchor: what raising an event
on the die touches (16 R500, 19 R548, R563). -/
def Die.unreported (x : Die) : Die := { x with obs := { x.obs with cnts := [], log := [], nextSeq := 0, evtOut := [] } }

/-- Index and subindex of a counter as the key of its stored values begins. -/
def ObjDef.name (o : ObjDef) : Nat := o.index * 256 + o.sub

/-- The block less its dies, and less what reporting touches: outputs, pending interrupt bits, event flags, counts and
coalescing, alerts (12 R395, 16 R501, R502), EVENT_LOG_OVERWRITTEN, and the counter objects `cs`. -/
def State.side (cs : List ObjDef) (s : State) : State :=
  { s with
    dies := Vector.replicate 8 {}, out := [], pba := {}, evtPending := {}, evtCount := {}, coal := {}, alerts := []
    objs := s.objs.filter fun k _ => !(((Obj.eventLogOverwritten :: cs).map ObjDef.name).contains (k / 256)) }

/-- t is s with die d at x, but for what reporting touches on the block and on die d, and the counter objects `cs`. -/
def Gives (cs : List ObjDef) (d : DieId) (x : Die) (s t : State) : Prop :=
  t.side cs = s.side cs ∧ (t.die d).unreported = x.unreported ∧ ∀ e, e ≠ d → t.die e = s.die e

/-- t is s but for what reporting on die d touches, and the counter objects `cs`. -/
def Reported (cs : List ObjDef) (d : DieId) (s t : State) : Prop := Gives cs d (s.die d) s t

/-- Only die d differs. -/
def Within (cs : List ObjDef) (d : DieId) (s t : State) : Prop := t.side cs = s.side cs ∧ ∀ e, e ≠ d → t.die e = s.die e

/-- Die d has logged event k of its source n last, with the log's next sequence number, and nothing else; so it is unless
the die is isolated or one of its programmable counters counts that event and may itself raise one (19 R550, R563). -/
def Logged (d : DieId) (n : Nat) (k : EventKind) (s t : State) : Prop :=
  s.isolated d = false → (∀ c ∈ (s.die d).obs.cnts, c.event.toNat ≠ 256 + n) →
    ∃ r : EvRec, (t.die d).obs.log = (r :: (s.die d).obs.log).take 4096 ∧ r.source = 128 * d.val + n ∧
      r.code = n * 256 + k.pos ∧ r.severity = k.severity ∧ r.seq = (s.die d).obs.nextSeq ∧
      (t.die d).obs.nextSeq = ((s.die d).obs.nextSeq + 1) % 2 ^ 32

/-- A verb's part on a die has come to its end with what `f` makes of it; the anchor's own part reaches the anchor at once
(11 R359). For a verb that is not traced. -/
def State.ends (s : State) (asn : Nat) (d : DieId) (f : VPart → VPart) : State :=
  let t := s.modPart asn d fun p => { f p with applied := true }
  if d.val = 0 then t.deliver asn d else t

end Sys2Proof.Machine
end

