-- ==== Sys2Proof/Certificates/Slice0/Obligations.lean ====
section
/-! DEFINITION. The statements for the provers, one `def Obligations.<Name> : Prop` each, by the files of the spec. Runs c s P,
Gives ks d x s t, Within ks d s t and Logged d n e s t are those of Sys2Proof/Safety/Frame.lean. -/

open Sys2Proof Sys2Proof.Machine

/-- A step takes the command at the front of the queue and runs it on the block with the queue's rest. -/
def Obligations.StepRunsTheFront : Prop := ∀ (c : Instr) (s : State) (rest : List Instr), s.pending = c :: rest →
  step s = exec c { s with pending := rest }

/-- Every command runs whenever the die it needs is fitted, whatever else the state holds, and no command changes
which part is fitted or the commands that wait; a command of a die that is not fitted faults (log 5). -/
def Obligations.EveryCommandCompletes : Prop := ∀ (c : Instr) (s : State),
  (s.takes c → ∃ t, exec c s = .next t ∧ t.part = s.part ∧ t.pending = s.pending) ∧
  (¬ s.takes c → exec c s = .fault .noSuchDie)

/-- The block never stops: from any state whose waiting commands are for fitted dies, the step answers a next state in
which that still holds, and exactly the front command has left the queue. -/
def Obligations.BlockNeverStops : Prop := ∀ s : State, (∀ c ∈ s.pending, s.takes c) →
  ∃ t, step s = .next t ∧ t.part = s.part ∧ t.pending = s.pending.tail ∧ ∀ c ∈ t.pending, t.takes c

/-- R379, R382, R459, R501, R570, R573 and the register tables: after reset no command waits, the host interface is
disabled with no queue, no event is pending or routed, and every die's write gates are parked, its permits and grants
withdrawn, its spindle STOPPED and driving nothing, its actuators PARKED, its clock at stamp 0, its memories filling
and its caches empty. -/
def Obligations.ResetLeavesTheBlockIdle : Prop :=
  let s := State.reset
  s.pending = [] ∧ s.host.enable = false ∧ s.host.adminReady = false ∧ s.host.ready = false ∧ s.host.fatal = false ∧
  s.host.shutdown = 0 ∧ s.sqs = {} ∧ s.cqs = {} ∧ s.slots = {} ∧ s.asn = 0 ∧ s.evtRoute = {} ∧ s.evtPending = {} ∧
  s.fw.lock = none ∧ s.mgmt.dynAddr = 0 ∧
  (∀ c ∈ s.pending, s.takes c) ∧
  ∀ d : DieId, let x := s.die d
    (∀ h, (x.head h).lines = .park ∧ (x.head h).permit = false ∧ (x.head h).grant = none) ∧
    x.spin.state = .stopped ∧ x.spin.gates = .floated ∧ x.actA.state = .parked ∧ x.actB.state = .parked ∧
    x.clock.acc = 0 ∧ x.clock.state = .coasting ∧ x.mem.filling ≠ [] ∧ x.data.wc = {} ∧ x.data.rc = {} ∧
    x.eng.faults = 0 ∧ x.obs.log = [] ∧ x.life = .starting

/-- R59: the changes of the clock's state that a count brings about. R59, R63, R64: on entry to COASTING the angle
goes on at the coasting rate, every media event is handed back and cancelled, every other event stays armed, and the
work of a head whose event was cancelled waits in the scheduler's queue again, less what has started. Nothing else of
the die but its counter window and paused calibrations differs. -/
def Obligations.AngleClockStates : Prop :=
  (∀ (s : State) (d : DieId), s.fitted d = true →
   let x := s.die d
   (x.clock.state = .acquiring → s.getN Obj.lockCount (dieInst d) ≤ x.clock.lockRun →
     Runs (.angleLocked d) s fun t =>
       Gives [] d { x with
         clock := { x.clock with state := .locked, unlockRun := 0, flyRun := 0 }, calRuns := (t.die d).calRuns } s t ∧
       Logged d 28 Ev.angleLocked s t) ∧
   (x.clock.state = .locked → 3 ≤ x.clock.unlockRun ∨ s.getN Obj.flywheelLimit (dieInst d) < x.clock.flyRun →
     Runs (.angleLockLost d) s fun t =>
       Gives [] d { x with
         clock := { x.clock with
           state := .acquiring, flywheel := false, lockLost := true, lockRun := 0, unlockRun := 0, flyRun := 0
           badRun := 0, phaseLocked := false, trimPpm := 0, phaseGood := 0, phaseBad := 0 }
         calRuns := (t.die d).calRuns } s t ∧
       Logged d 28 Ev.angleLockLost s t) ∧
   (x.clock.state = .acquiring → x.clock.table.length ≤ x.clock.badRun →
     exec (.angleAcquireTimeout d) s = .next (s.coastEntry d))) ∧
  (∀ (s : State) (d : DieId), (s.die d).clock.state ≠ .coasting →
   let x := s.die d
   let gone := (x.clock.events.filter fun e => e.cls == .media).map (·.owner)
   let t := s.coastEntry d
   Gives [] d { x with
     clock := { x.clock with
       state := .coasting, incr := BitVec.ofNat 40 (s.coastIncr d), nominal := BitVec.ofNat 40 (s.coastIncr d)
       events := x.clock.events.filter fun e => e.cls != .media, cancelled := gone ++ x.clock.cancelled
       flywheel := false, lockRun := 0, unlockRun := 0, flyRun := 0, badRun := 0
       phaseLocked := false, trimPpm := 0, phaseGood := 0, phaseBad := 0 }
     heads := (t.die d).heads, calRuns := (t.die d).calRuns, obs := { x.obs with bwCoast := true } } s t ∧
   ∀ h : HeadId, (t.die d).head h =
     if h ∈ gone.filterMap AngleOwner.head? then
       { x.head h with
         requeue := (x.head h).jobs.filter (!·.started) ++ (x.head h).requeue
         jobs := (x.head h).jobs.filter (·.started) }
     else x.head h)

/-- R65, R66, R67: an event that may be armed is armed last in the list under the next number, at a stamp that lies at
least 32 au and at most 2^40 au ahead of the current one, at the angle that was asked for. A media event outside
LOCKED, and a stamp further ahead, goes back to its owner. R63, R64, R68, R77: a firing leaves the list with its
overshoot and the coasting flag, and only once its stamp is reached; a stamp read answers with the stamp and the
coasting bit and latches the package time. -/
def Obligations.AngleEventsArmAndFire : Prop :=
  (∀ (s : State) (d : DieId) (cls : AngleClass) (owner : AngleOwner)
   (form : AngleForm), s.fitted d = true →
   let c := (s.die d).clock
   let angle := match form with
     | .absolute t => t.toNat % 2 ^ 24
     | .relative w off => (entryAngle c w + off.toNat) % 2 ^ 24
   Runs (.angleEventArm d cls owner form) s fun t =>
     let c' := (t.die d).clock
     Within [Obj.deferralCount] d s t ∧ c'.acc = c.acc ∧ c'.incr = c.incr ∧ c'.state = c.state ∧ c'.fired = c.fired ∧
     ((∃ e : AngleEvent, c'.events = c.events ++ [e] ∧ c'.nextId = c.nextId + 1 ∧ c'.cancelled = c.cancelled ∧
         e.id = c.nextId ∧ e.cls = cls ∧ e.owner = owner ∧ e.stamp.toNat % 2 ^ 24 = angle ∧
         32 ≤ stampDiff e.stamp c.stamp ∧ stampDiff e.stamp c.stamp ≤ 2 ^ 40 ∧ (cls = .media → c.state = .locked)) ∨
       c' = { c with cancelled := owner :: c.cancelled } ∧
         ((cls = .media ∧ c.state ≠ .locked) ∨ ∃ r, form = .absolute r ∧ 2 ^ 40 < stampDiff r c.stamp))) ∧
  (∀ (s : State) (d : DieId), s.fitted d = true →
   let x := s.die d
   (∀ (id : Nat) (e : AngleEvent), x.clock.events.find? (fun e => e.id == id) = some e →
     0 ≤ stampDiff x.clock.stamp e.stamp →
     exec (.angleEventFire d id) s = .next (s.setDie d { x with
       clock := { x.clock with
         events := x.clock.events.filter (·.id != id)
         fired := { id := id, owner := e.owner, stamp := e.stamp
                    overshoot := BitVec.ofNat 8 ((x.clock.acc - (e.stamp.setWidth 80 <<< 32)).toNat / 2 ^ 24)
                    coasting := x.clock.state == .coasting } :: x.clock.fired } })) ∧
   (∀ (id : Nat) (e : AngleEvent), x.clock.events.find? (fun e => e.id == id) = some e →
     stampDiff x.clock.stamp e.stamp < 0 → exec (.angleEventFire d id) s = .next s) ∧
   exec (.angleStampRead d) s = .next { s.setDie d { x with
       clock := { x.clock with ptime := BitVec.ofNat 64 (s.timeNs d) } } with
     reply := { status := 0, data := []
                result := BitVec.ofNat 64 (x.clock.stamp.toNat + if x.clock.state = .coasting then 2 ^ 48 else 0) } })

/-- R67: an event that resolves more than 2^16 revolutions, of 2^24 au each, ahead is refused: nothing is armed, and
its owner gets it back. -/
def Obligations.FarEventIsRefused : Prop := ∀ (s : State) (d : DieId) (cls : AngleClass) (owner : AngleOwner) (r : BitVec 48),
  s.fitted d = true →
  let x := s.die d
  2 ^ 16 * 2 ^ 24 < stampDiff r x.clock.stamp →
  exec (.angleEventArm d cls owner (.absolute r)) s =
    .next (s.setDie d { x with clock := { x.clock with cancelled := owner :: x.clock.cancelled } })

/-- R55 to R60: what a wedge does to the clock. While COASTING a valid sample with a matching table starts acquisition
by a step forward; a wedge without one changes nothing. While LOCKED a wedge without a valid sample is flywheeled,
while ACQUIRING it is counted; one with a valid sample ends the flywheel and keeps the increment within half of the
nominal one on either side. -/
def Obligations.AngleWedgeSampleEffects : Prop := ∀ (s : State) (d : DieId) (k : Nat) (samples : List WedgeArrival),
  s.fitted d = true →
  let c := (s.die d).clock
  let xs := validArrivals (s.timingHeads d) samples
  (c.state = .coasting → xs ≠ [] → c.tableMatch = true → Runs (.angleWedgeSample d k samples) s fun t =>
    (t.die d).clock.state = .acquiring ∧ (t.die d).clock.step = true ∧ (t.die d).clock.wedge = k ∧
    (t.die d).clock.incr = c.incr ∧ (∃ n, (t.die d).clock.acc = c.acc + BitVec.ofNat 80 (n * 2 ^ 24) ∧ n < 2 ^ 32) ∧
    (t.die d).clock.events.length = c.events.length ∧ Within [Obj.deferralCount] d s t) ∧
  (c.state = .coasting → xs = [] ∨ c.tableMatch = false → exec (.angleWedgeSample d k samples) s = .next s) ∧
  (c.state ≠ .coasting → xs = [] → Runs (.angleWedgeSample d k samples) s fun t =>
    (t.die d).clock = (if c.state = .locked
      then { c with wedge := k, flywheel := true, flyRun := c.flyRun + 1, unlockRun := 0 }
      else { c with wedge := k, badRun := c.badRun + 1, lockRun := 0 }) ∧
    (t.die d).heads = (s.die d).heads ∧ (t.die d).data = (s.die d).data ∧ Within [] d s t) ∧
  (c.state ≠ .coasting → xs ≠ [] → Runs (.angleWedgeSample d k samples) s fun t =>
    (t.die d).clock.flywheel = false ∧ (t.die d).clock.flyRun = 0 ∧ (t.die d).clock.state = c.state ∧
    (t.die d).clock.acc = c.acc ∧
    ((t.die d).clock.nominal.toNat * 3 / 2 < 2 ^ 40 →
      (t.die d).clock.nominal.toNat / 2 ≤ (t.die d).clock.incr.toNat ∧
      (t.die d).clock.incr.toNat ≤ (t.die d).clock.nominal.toNat * 3 / 2) ∧
    (t.die d).data = (s.die d).data ∧ Within [] d s t)

/-- R70, R71: the one-way latency is half the round trip; a member die's clock is slewed within 1 µs of the anchor's
count plus that latency, stepped forward when it is further behind, and held when it is further ahead; four messages
in a row within 5 ns align it and one beyond, or none in time, drops it. Die 0 is the reference and is left alone.
R69, R73: the anchor sends its count, and with phase lock enabled its zero crossing, to every member die and to none
else. R73, R74, R75: a phase reference. While the conditions of R75 do not hold the die drops its trim and its lock;
while they hold the trim stays within PHASE_TRIM_MAX and opposes the error, the lock is gained after 16 revolutions
within 932 au and lost, with an event, after four beyond 1,864 au. -/
def Obligations.PackageTimeAndPhase : Prop :=
  (∀ (s : State) (d : DieId) (count : BitVec 64) (rtt : Nat),
   s.fitted d = true →
   let x := s.die d
   let c := x.clock
   let anchor := count.toNat * 4 + c.latency4
   let off : Int := (c.time4 : Int) - anchor
   (d ≠ 0 → exec (.fabricLatencyMeasure d rtt) s = .next (s.setDie d { x with clock := { c with latency4 := rtt * 2 } })) ∧
   (d ≠ 0 → exec (.timeAlignTimeout d) s = .next (s.setDie d { x with
     clock := { c with timeAligned := false, alignRun := 0 } })) ∧
   (d ≠ 0 → -4000 ≤ off → off ≤ 4000 → exec (.packageTimeDistribution d count) s = .next (s.setDie d { x with
     clock := { c with
       offsetNs := off / 4, slewLeft := -off, alignRun := if -20 ≤ off ∧ off ≤ 20 then c.alignRun + 1 else 0
       timeAligned := decide (-20 ≤ off ∧ off ≤ 20) && (c.timeAligned || decide (3 ≤ c.alignRun)) } })) ∧
   (d ≠ 0 → off < -4000 ∨ 4000 < off → Runs (.packageTimeDistribution d count) s fun t =>
     Gives [] d { x with
       clock := { c with
         offsetNs := off / 4, slewLeft := 0, alignRun := 0, timeAligned := false, timeStep := true
         time4 := if off < 0 then anchor else c.time4, hold4 := if off < 0 then 0 else off.toNat } } s t ∧
     Logged d 116 Ev.timeStep s t) ∧
   (d = 0 → exec (.packageTimeDistribution d count) s = .next s ∧ exec (.fabricLatencyMeasure d rtt) s = .next s ∧
     exec (.timeAlignTimeout d) s = .next s)) ∧
  (∀ s : State,
   let members := s.fittedDies.filter fun d => d.val != 0
   exec .packageTimeSend s = .next { s with
     out := (members.map fun d => Out.fabric 0 d 0x21 (BitVec.ofNat 64 s.now)).reverse ++ s.out } ∧
   exec .spindlePhaseReferenceSend s = .next (if s.getB Obj.phaseLockEnable 0 then { s with
     out := (members.map fun d => Out.fabric 0 d 0x26 (BitVec.ofNat 64 ((s.die 0).clock.zeroCross4 / 4))).reverse ++ s.out }
     else s)) ∧
  (∀ (s : State) (d : DieId) (t0 : BitVec 64) (speed : BitVec 40),
   s.fitted d = true → d ≠ 0 →
   let x := s.die d
   let c := x.clock
   (s.phaseReady d = false → exec (.spindlePhaseReference d t0 speed) s = .next (s.setDie d { x with
     clock := { c with phaseLocked := false, trimPpm := 0, phaseGood := 0, phaseBad := 0 } })) ∧
   (s.phaseReady d = true → 0 ≤ s.get Obj.phaseTrimMax 0 → Runs (.spindlePhaseReference d t0 speed) s fun t =>
     let c' := (t.die d).clock
     Gives [] d { x with clock := c' } s t ∧ c'.acc = c.acc ∧ c'.state = c.state ∧ c'.incr = c.incr ∧
     -8388608 ≤ c'.phaseErr ∧ c'.phaseErr < 8388608 ∧
     -(s.get Obj.phaseTrimMax 0 : Rat) ≤ c'.trimPpm ∧ c'.trimPpm ≤ (s.get Obj.phaseTrimMax 0 : Rat) ∧
     (0 < c'.phaseErr → c'.trimPpm ≤ 0) ∧ (c'.phaseErr < 0 → 0 ≤ c'.trimPpm) ∧
     c'.phaseGood = (if -932 ≤ c'.phaseErr ∧ c'.phaseErr ≤ 932 then c.phaseGood + 1 else 0) ∧
     c'.phaseBad = (if -1864 ≤ c'.phaseErr ∧ c'.phaseErr ≤ 1864 then 0 else c.phaseBad + 1) ∧
     (c.phaseLocked = true → c'.phaseLocked = decide (c'.phaseBad < 4)) ∧
     (c.phaseLocked = false → c'.phaseLocked = decide (16 ≤ c'.phaseGood)) ∧
     (c.phaseLocked = true → 4 ≤ c'.phaseBad → c'.phaseLost = true ∧ Logged d 117 Ev.phaseLost s t)))

/-- R84, R88, R89: a PWM period. Where the drive is engaged after it, the three duties stand around one half by half
the modulation times the table's amplitude at three angles a third of an electrical revolution apart, and the
modulation is neither negative nor above MOD_MAX. R95 to R97, R99, R105: the observer becomes valid and takes the
drive over; it diverges, and where the drive rests on it the phases float for re-acquisition. R88, R97: the modulation
clamp comes on after sixteen predicted periods and goes off after 256 with two phases; a hand-over that has been out
of tolerance for a whole revolution is reported. -/
def Obligations.PwmObserverAndPrediction : Prop :=
  (∀ (s : State) (d : DieId) (x : PwmSample), s.fitted d = true →
   Runs (.pwmPeriod d x) s fun t =>
     let p := (t.die d).spin
     (p.state.driven = true →
       p.dU = 1 / 2 + 1 / 2 * p.m * p.table.amplitude p.thetaE ∧
       p.dV = 1 / 2 + 1 / 2 * p.m * p.table.amplitude (p.thetaE - 5592405) ∧
       p.dW = 1 / 2 + 1 / 2 * p.m * p.table.amplitude (p.thetaE - 11184811) ∧
       0 ≤ p.m ∧ (0 ≤ s.getQ Obj.modMax (dieInst d) → p.m ≤ s.getQ Obj.modMax (dieInst d))) ∧
     p.table = (s.die d).spin.table ∧ (t.die d).clock.acc = (s.die d).clock.acc ∧ (t.die d).data = (s.die d).data ∧
     (t.die d).actA = (s.die d).actA ∧ (t.die d).actB = (s.die d).actB ∧ t.host = s.host ∧ t.slots = s.slots ∧
     ∀ e, e ≠ d → t.die e = s.die e) ∧
  (∀ (s : State) (d : DieId), s.fitted d = true →
   let x := s.die d
   let p := x.spin
   (p.obsValid = false → 32 ≤ p.obsGoodRun → p.state ≠ .openLoop → p.state ≠ .reacquiring →
     exec (.observerValid d) s = .next (s.setDie d { x with spin := { p with obsValid := true } })) ∧
   (p.obsValid = false → 32 ≤ p.obsGoodRun → p.state = .openLoop → Runs (.observerValid d) s fun t =>
     let q := (t.die d).spin
     q.state = .ramping ∧ q.src = .observer ∧ q.gates = .driven ∧ q.obsValid = true ∧ q.speed = p.obsSpeed ∧
     q.ramp = p.obsSpeed ∧ q.setPoint = (s.get Obj.setRpm (dieInst d) : Rat) ∧ q.obsTheta = p.obsTheta ∧
     t = s.setDie d { x with spin := q }) ∧
   (p.obsValid = false → 32 ≤ p.obsGoodRun → p.state = .reacquiring → 18 ≤ p.cycles → Runs (.observerValid d) s fun t =>
     (t.die d).spin.state = (if p.stopping then .stopping else .ramping) ∧ (t.die d).spin.src = .observer ∧
     (t.die d).spin.gates = .driven ∧ (t.die d).spin.obsValid = true ∧
     t = s.setDie d { x with spin := (t.die d).spin, calRuns := (t.die d).calRuns }) ∧
   (8 ≤ p.obsBadRun ∨ 8 ≤ p.obsCurRun → p.src = .clock → x.clock.state = .locked → Runs (.observerDiverged d) s fun t =>
     Gives [Obj.observerLossCount] d { x with
       spin := { p with
         obsValid := false, obsGoodRun := 0, obsBadRun := 0, obsCurRun := 0
         obsTheta := s.clockTheta d, obsSpeed := incrRpm x.clock.incr.toNat } } s t ∧
     t.get Obj.observerLossCount (dieInst d) = min 4294967295 (s.get Obj.observerLossCount (dieInst d) + 1)) ∧
   (8 ≤ p.obsBadRun ∨ 8 ≤ p.obsCurRun → x.clock.state ≠ .locked →
     p.state = .ramping ∨ p.state = .atSpeed ∨ p.state = .stopping → Runs (.observerDiverged d) s fun t =>
     let q := (t.die d).spin
     q.state = .reacquiring ∧ q.gates = .floated ∧ q.src = .none ∧ q.obsValid = false ∧ q.obsLoss = true ∧
     q.crossings = [] ∧ q.cycles = 0 ∧ (t.die d).clock.state = .coasting ∧ (t.die d).clock.acc = x.clock.acc ∧
     Within [Obj.observerLossCount] d s t)) ∧
  (∀ (s : State) (d : DieId), s.fitted d = true →
   let x := s.die d
   let p := x.spin
   (p.clamp = false → 16 ≤ p.predictRun → Runs (.predictClamp d) s fun t =>
     Gives [] d { x with spin := { p with clamp := true, predict := true, m := min p.m (9 / 10) } } s t ∧
     Logged d Ev.spinPredict.src Ev.spinPredict s t) ∧
   (p.clamp = true → 256 ≤ p.twoValidRun →
     exec (.predictClampRelease d) s = .next (s.setDie d { x with spin := { p with clamp := false } })) ∧
   (∀ n, p.mismatchSince = some n → p.src = .observer → x.clock.state = .locked →
     2 ^ 24 ≤ stampDiff x.clock.stamp (BitVec.ofNat 48 n) → Runs (.spinHandoverMismatch d) s fun t =>
     Gives [] d { x with
       spin := { p with handoverMismatch := true, mismatchSince := some x.clock.stamp.toNat } } s t ∧
     Logged d Ev.spinHandoverMismatch.src Ev.spinHandoverMismatch s t))

/-- R83, R99, R100: the start and stop commands by the state they meet. R99, R104: a free spin-up slot goes to the
longest-waiting die, which leaves STAGGER_WAIT for SENSING, its phases floated; with none asked for or none free
nothing happens. -/
def Obligations.SpinStartsAndSlots : Prop :=
  (∀ (s : State) (d : DieId), s.fitted d = true →
   let x := s.die d
   let i := dieInst d
   (s.isolated d = true → exec (.spinStart d) s = .next (s.answer St.dieIsolated) ∧
     exec (.spinStop d) s = .next (s.answer St.dieIsolated)) ∧
   (s.isolated d = false → x.spin.tableMatch = false → Runs (.spinStart d) s fun t =>
     t.reply = ⟨St.objectStateConflict, 5, []⟩ ∧ t.get Obj.spinResult i = 5 ∧ (t.die d).spin = x.spin ∧
     (t.die d).clock = x.clock ∧ ∀ e, e ≠ d → t.die e = s.die e) ∧
   (s.isolated d = false → x.spin.tableMatch = true → Runs (.spinStart d) s fun t =>
     let q := (t.die d).spin
     t.reply = ⟨St.success, 0, []⟩ ∧ (∀ e, e ≠ d → t.die e = s.die e) ∧
     (x.spin.state = .stopped ∨ x.spin.state = .fault ∨ x.spin.state = .stopping ∨
       (x.spin.state = .braking ∧ x.spin.brakeFor = .stop) → q.state = .staggerWait ∧ q.gates = .floated ∧ q.src = .none ∧
       q.startPending = true ∧ q.stopPending = false ∧ q.retries = 0 ∧ (d ∈ t.spinReq ∨ d ∈ t.spinHeld) ∧
       (t.die d).clock.state = .coasting ∧ t.get Obj.spinResult i = 1) ∧
     (x.spin.state = .atSpeed → q = x.spin ∧ t.get Obj.spinResult i = 0) ∧
     (x.spin.state = .retractBrake → q = x.spin ∧ t.get Obj.spinResult i = 2) ∧
     (x.spin.state = .staggerWait ∨ x.spin.state = .sensing ∨ x.spin.state = .aligning ∨ x.spin.state = .openLoop ∨
       x.spin.state = .ramping ∨ x.spin.state = .reacquiring ∨ (x.spin.state = .braking ∧ x.spin.brakeFor ≠ .stop) →
       q = { x.spin with startPending := true, stopPending := false, stopping := false } ∧
       t.get Obj.spinResult i = 1)) ∧
   (s.isolated d = false → Runs (.spinStop d) s fun t =>
     let q := (t.die d).spin
     t.reply = ⟨St.success, 0, []⟩ ∧ (∀ e, e ≠ d → (t.die e).spin = (s.die e).spin) ∧
     (x.spin.state = .stopped → q = x.spin ∧ t.get Obj.spinResult i = 0) ∧
     (x.spin.state = .staggerWait ∨ x.spin.state = .sensing → q.state = .stopped ∧ q.gates = .floated ∧ d ∉ t.spinReq ∧
       d ∉ t.spinHeld ∧ t.get Obj.spinResult i = 0) ∧
     (x.spin.state = .aligning ∨ x.spin.state = .openLoop → q.state = .braking ∧ q.brakeFor = .stop ∧
       q.stopPending = true ∧ d ∉ t.spinHeld ∧ t.get Obj.spinResult i = 1) ∧
     (x.spin.state = .ramping ∨ x.spin.state = .atSpeed → q.state = .stopping ∧ q.setPoint = 0 ∧ q.stopping = true ∧
       q.stopPending = true ∧ d ∉ t.spinHeld ∧ t.get Obj.spinResult i = 1) ∧
     (x.spin.state = .fault ∨ x.spin.state = .braking → q.state = .braking ∧ q.brakeFor = .stop ∧
       q.stopPending = true ∧ t.get Obj.spinResult i = 1) ∧
     (x.spin.state = .stopping → q = { x.spin with stopPending := true, startPending := false } ∧
       t.get Obj.spinResult i = 1) ∧
     (x.spin.state = .reacquiring →
       q = { x.spin with stopping := true, stopPending := true, startPending := false } ∧ t.get Obj.spinResult i = 1) ∧
     (x.spin.state = .retractBrake → q = x.spin ∧ t.get Obj.spinResult i = 2))) ∧
  (∀ s : State,
   let top := s.getN Obj.spinupMaxConcurrent 0
   (s.spinReq = [] → exec .spinupSlotGrant s = .next s) ∧
   (top ≤ s.spinHeld.length → exec .spinupSlotGrant s = .next s) ∧
   (∀ d rest, s.spinReq = d :: rest → s.spinHeld.length < top → Runs .spinupSlotGrant s fun t =>
     t.spinReq = rest ∧ t.spinHeld = s.spinHeld ++ [d] ∧ t.spinHeld.length ≤ top ∧
     ((s.die d).spin.state = .staggerWait → (t.die d).spin.state = .sensing ∧ (t.die d).spin.gates = .floated ∧
       (t.die d).spin.crossings = []) ∧
     ((s.die d).spin.state ≠ .staggerWait → (s.die d).spin.staggerHold = true →
       t.die d = { s.die d with spin := { (s.die d).spin with
         staggerHold := false, setPoint := (s.get Obj.setRpm (dieInst d) : Rat) } }) ∧
     (∀ e, e ≠ d → t.die e = s.die e) ∧ t.objs = s.objs ∧ t.out = s.out))

/-- R101, R105: crossings are gathered while SENSING, four decide, and what they decide depends on their order and
speed; outside SENSING and REACQUIRING a crossing changes nothing. R99: what the time limits of starting bring about.
R99, R107: AT_SPEED after sixteen revolutions near the set-point gives the slot back and ends a start that waits; a
retract brake shorts the phases once both actuators are parked and no save runs, or when its time is up. -/
def Obligations.SpinupSteps : Prop :=
  (∀ (s : State) (d : DieId) (phase : Phase) (rising : Bool) (n : Nat),
   s.fitted d = true →
   let x := s.die d
   let p := x.spin
   let i := dieInst d
   let c : Crossing := ⟨phase, rising, 4 * n⟩
   let xs := (c :: p.crossings).take 4
   let dir := runDirection (xs.map fun c => crossIndex c.phase c.rising)
   let rpm := crossingRpm p.table.polePairs 3 (c.t4 - (xs.getD 3 c).t4)
   (p.state ≠ .sensing → p.state ≠ .reacquiring → exec (.bemfZeroCrossing d phase rising n) s = .next s) ∧
   (p.state = .reacquiring → p.crossings = [] → exec (.bemfZeroCrossing d phase rising n) s =
     .next (s.setDie d { x with spin := { p with crossings := [c], cycles := 0 } })) ∧
   (p.state = .sensing → xs.length < 4 → exec (.bemfZeroCrossing d phase rising n) s =
     .next (s.setDie d { x with spin := { p with crossings := xs } })) ∧
   (p.state = .sensing → xs.length = 4 → dir = none → exec (.bemfZeroCrossing d phase rising n) s =
     .next (s.setDie d { x with spin := { p with crossings := [] } })) ∧
   (p.state = .sensing → xs.length = 4 → ∀ fwd, dir = some fwd → Runs (.bemfZeroCrossing d phase rising n) s fun t =>
     let q := (t.die d).spin
     q.crossings = [] ∧ q.reverse = !fwd ∧ Gives [] d { x with spin := q } s t ∧
     (rpm < (s.get Obj.reversalRpm i : Rat) → q.state = .aligning ∧ q.src = .openLoop ∧ q.thetaE = 0) ∧
     ((s.get Obj.reversalRpm i : Rat) ≤ rpm → fwd = false → q.state = .braking ∧ q.brakeFor = .start ∧
       q.reverseSeen = true ∧ q.speed = -rpm ∧ Logged d Ev.spinReverse.src Ev.spinReverse s t) ∧
     ((s.get Obj.reversalRpm i : Rat) ≤ rpm → fwd = true → rpm < (s.get Obj.catchRpm i : Rat) →
       q.state = .braking ∧ q.brakeFor = .start ∧ q.speed = rpm) ∧
     ((s.get Obj.reversalRpm i : Rat) ≤ rpm → fwd = true → (s.get Obj.catchRpm i : Rat) ≤ rpm →
       q.state = .ramping ∧ q.src = .observer ∧ q.gates = .driven ∧ q.speed = rpm ∧ q.obsSpeed = rpm))) ∧
  (∀ (s : State) (d : DieId), s.fitted d = true →
   let x := s.die d
   let p := x.spin
   (p.state = .sensing → exec (.senseTimeout d) s = .next (s.setDie d { x with
     spin := { p with
       state := .aligning, gates := .driven, src := .openLoop, iCmd := s.getQ Obj.alignCurrent (dieInst d)
       ramp := 0, speed := 0, m := 0, curInt := 0, thetaE := 0 } })) ∧
   (p.state = .aligning →
     exec (.alignTimeout d) s = .next (s.setDie d { x with spin := { p with state := .openLoop, ramp := 0 } })) ∧
   (p.state = .braking → p.brakeFor = .start → Runs (.brakeTimeout d) s fun t =>
     let q := (t.die d).spin
     q.state = .fault ∧ q.gates = .floated ∧ q.src = .none ∧ q.startFail = true ∧ q.startPending = false ∧
     d ∉ t.spinHeld ∧ d ∉ t.spinReq ∧ t.get Obj.spinResult (dieInst d) = (if p.reverse then 3 else 4) ∧
     (t.die d).clock.state = .coasting ∧ ∀ e, e ≠ d → t.die e = s.die e) ∧
   (p.state = .openLoop → p.obsValid = false → p.retries < s.getN Obj.startRetries (dieInst d) →
     exec (.openLoopTimeout d) s = .next (s.setDie d { x with
       spin := { p with
         state := .braking, brakeFor := .start, gates := .shortBrake, crossings := [], reverse := false
         retries := p.retries + 1 } })) ∧
   (p.state = .openLoop → p.obsValid = false → s.getN Obj.startRetries (dieInst d) ≤ p.retries →
     Runs (.openLoopTimeout d) s fun t =>
     let q := (t.die d).spin
     q.state = .fault ∧ q.gates = .floated ∧ q.startFail = true ∧ q.retries = p.retries + 1 ∧ d ∉ t.spinHeld ∧
     t.get Obj.spinResult (dieInst d) = 4 ∧ Logged d Ev.spinStartFail.src Ev.spinStartFail s t ∧
     ∀ e, e ≠ d → t.die e = s.die e) ∧
   (p.state = .reacquiring → Runs (.spinReacqTimeout d) s fun t =>
     (t.die d).spin = { p with
       state := .braking, brakeFor := (if p.stopping then .stop else .restart), reacqFail := true, gates := .floated
       crossings := [], loadAtSpeed := p.loadAtSpeed || !p.stopping } ∧
     (∀ a, ((t.die d).act a).state = if (x.act a).loaded then .retracting else (x.act a).state) ∧
     ∀ e, e ≠ d → t.die e = s.die e)) ∧
  (∀ (s : State) (d : DieId), s.fitted d = true →
   let x := s.die d
   let p := x.spin
   (p.state = .ramping → 16 ≤ p.speedRun → p.staggerHold = false → Runs (.spinAtSpeed d) s fun t =>
     (t.die d).spin = { p with state := .atSpeed, startPending := false, loadAtSpeed := false } ∧
     d ∉ t.spinHeld ∧ (p.startPending = true → t.get Obj.spinResult (dieInst d) = 0) ∧
     (p.loadAtSpeed = false → (t.die d).actA = x.actA ∧ (t.die d).actB = x.actB) ∧
     (t.die d).clock = x.clock ∧ (t.die d).data = x.data ∧ ∀ e, e ≠ d → t.die e = s.die e) ∧
   (p.state = .ramping → p.speedRun < 16 ∨ p.staggerHold = true → exec (.spinAtSpeed d) s = .next s) ∧
   (p.state = .retractBrake → x.bothParked = true →
     x.data.pfail = none ∨ (x.data.frozen = true ∧ x.data.saving = none) →
     exec (.spinRetractBrake d) s = .next (s.setDie d { x with spin := { p with gates := .shortBrake } })) ∧
   (p.state = .retractBrake → x.data.frozen = false → x.data.pfail ≠ none → exec (.spinRetractBrake d) s = .next s) ∧
   (p.state = .retractBrake →
     exec (.spinRetractBrakeTimeout d) s = .next (s.setDie d { x with spin := { p with gates := .shortBrake } })))

/-- R128: a position record gives back what it was packed from: position in bits 33:0, PES in bits 49:34, VALID in bit
50, GROUP in bits 53:52, the miss run, saturated at 7, in bits 59:57. -/
def Obligations.PositionRecordFields : Prop := ∀ (pos pes : Int) (valid predicted rro gray index : Bool)
  (group miss : Nat) (eye : Rat), -2 ^ 15 ≤ pes → pes < 2 ^ 15 → group < 4 →
  let r := packRecord pos pes valid predicted group rro gray index miss eye
  (recordPosition r : Int) = pos % 2 ^ 34 ∧ recordPes r = pes ∧ recValidBit r = valid ∧
  (r.extractLsb' 52 2).toNat = group ∧ r.getLsbD 51 = predicted ∧ (r.extractLsb' 57 3).toNat = min 7 miss

/-- R117, R124, R128 to R132: a wedge of a live head. Without SAM in its window, without a position, with the wrong
index, while the head's wedges are invalid for a Gray mismatch, or too late, the wedge counts as missed: the miss run
grows and the position is the predicted one. A wedge valid for position ends the miss run. Nothing but that head
changes on the die; a head that is not live takes no wedge. R124, R130, R131: what runs of missed and valid wedges
bring about: the write permit drops, the microactuator command is held, the head is LOST, and the head rejoins. -/
def Obligations.DemodAndMissRuns : Prop :=
  (∀ (s : State) (d : DieId) (h : HeadId) (w : WedgeSignal),
   s.fitted d = true →
   let x := s.die d
   let y := x.head h
   let sk := s.samCheck d h w
   let m := s.measure d h w sk.2
   (y.live = false → exec (.demodWedge d h w) s = .next s) ∧
   (y.live = true → Runs (.demodWedge d h w) s fun t =>
     let z := (t.die d).head h
     z.delivered = true ∧ z.samFound = sk.1 ∧ z.live = true ∧ z.servo = y.servo ∧ z.permit = y.permit ∧
     (sk.1 = false ∨ m.x = none ∨ m.index = true ∨ (y.grayInvalid = true ∧ m.gray = true) ∨ w.late = true →
       z.missRun = min 255 (y.missRun + 1) ∧ z.validRun = 0 ∧ z.x1 = y.predict (x.act h.act) ∧ z.x2 = y.x1) ∧
     (sk.1 = true → m.x.isSome = true → m.index = false → (y.grayInvalid = false ∨ m.gray = false) → w.late = false →
       z.missRun = 0 ∧ z.validRun = y.validRun + 1 ∧ z.liveValid = y.liveValid + 1 ∧ z.x1 = roundNear m.corrected) ∧
     (∀ g, g ≠ h → (t.die d).head g = x.head g) ∧
     t.die d = { x with heads := (t.die d).heads } ∧ (∀ e, e ≠ d → t.die e = s.die e) ∧ t.out = s.out ∧ t.slots = s.slots)) ∧
  (∀ (s : State) (d : DieId) (h : HeadId), s.fitted d = true →
   let x := s.die d
   let y := x.head h
   let a := h.act
   (s.getN Obj.missWi (dieInst d) < y.missRun → Runs (.headMissWriteInhibit d h) s fun t =>
     Gives [] d (if y.permit then
       x.modHead h fun y => { y.gateOff with permit := false, rearmRun := 0, rearmed := false } else x) s t) ∧
   (s.getN Obj.missDrop (dieInst d) < y.missRun → exec (.headMissDrop d h) s =
     .next (s.setDie d (x.modHead h fun y => { y with maHeld := true, maNext := y.maCmd }))) ∧
   (3 ≤ y.grayRun → exec (.grayMismatchInvalid d h) s =
     .next (s.setDie d (x.modHead h fun y => { y with grayInvalid := true }))) ∧
   (y.grayRun < 3 → exec (.grayMismatchInvalid d h) s = .next s) ∧
   (y.live = true → y.servo = .tracking → s.getN Obj.missRecover (dieInst d) < y.missRun → (x.act a).loaded = true →
     Runs (.headServoLost d h) s fun t =>
       let z := (t.die d).head h
       z.servo = .lost ∧ z.permit = false ∧ z.validRun = 0 ∧ z.request = none ∧ (∀ j ∈ z.jobs, j.started = true) ∧
       ((x.act a).onDisk = true → (∀ g ∈ x.liveHeads a, g = h ∨ (x.head g).servo = .lost ∨
           s.getN Obj.missRecover (dieInst d) < (x.head g).missRun) → ((t.die d).act a).state = .recovering) ∧
       (t.die d).act (Act.other a) = x.act (Act.other a) ∧ Within [] d s t) ∧
   (y.live = true → y.servo = .lost → s.getN Obj.rejoinCount (dieInst d) ≤ y.validRun → (x.act a).state ≠ .recovering →
     Runs (.headServoRejoin d h) s fun t =>
       Gives [] d { x.modHead h (fun y => { y with
         servo := .tracking, joined := true, maHeld := false, maCmd := 0, maNext := 0, loop := {} }) with
         calRuns := (t.die d).calRuns } s t ∧
       Logged d h.val Ev.headServoRejoin s t))

/-- R161: after a collection point no head holds the write permit but one whose actuator is TRACKING on a LOCKED
clock, live and not LOST, with a miss run within MISS_WI and a PES within WI_LIMIT, on a die without shock or overrun.
R161, R163, R165: a shock turns every write gate of the die off and drops every permit; the holdoff starts when the
comparators clear, and ends after its wedges. -/
def Obligations.CollectGivesPermitSafely : Prop :=
  (∀ (s : State) (d : DieId), s.fitted d = true →
   Runs (.servoCollect d) s fun t =>
     let x := t.die d
     (∀ h, (x.head h).permit = true →
       (x.act h.act).state = .tracking ∧ x.clock.state = .locked ∧ (x.head h).live = true ∧ (x.head h).servo ≠ .lost ∧
       (x.head h).missRun ≤ s.getN Obj.missWi (dieInst d) ∧
       (recordPes (x.head h).record).natAbs ≤ s.getN Obj.wiLimit (dieInst d) ∧ x.shock = false ∧ x.holdoff = 0) ∧
     (∀ h, (x.head h).delivered = false) ∧ x.overrunNow = false ∧ x.overrunPrev = (s.die d).overrunNow ∧
     x.spin = (s.die d).spin ∧ (∀ e, e ≠ d → t.die e = s.die e) ∧ t.host = s.host ∧ t.slots = s.slots) ∧
  (∀ (s : State) (d : DieId), s.fitted d = true →
   let x := s.die d
   (x.shock = false → Runs (.shockTrip d) s fun t =>
     (t.die d).shock = true ∧ (t.die d).shockTrip = true ∧ (t.die d).holdoff = 0 ∧
     (∀ h, ((t.die d).head h).permit = false ∧ ((t.die d).head h).lines = .park) ∧
     (t.die d).actA = x.actA ∧ (t.die d).actB = x.actB ∧ (t.die d).clock = x.clock ∧
     (t.die d).data.media = x.data.media ∧ ∀ e, e ≠ d → t.die e = s.die e) ∧
   (x.shock = true → exec (.shockTrip d) s = .next s) ∧
   (x.shock = true → exec (.shockClear d) s =
     .next (s.setDie d { x with shock := false, holdoff := s.getN Obj.shockHoldoffWedges (dieInst d) + 1 })) ∧
   (x.shock = false → x.holdoff = 1 → exec (.shockHoldoffEnd d) s = .next (s.setDie d { x with holdoff := 0 })) ∧
   (x.shock = false → x.holdoff ≠ 1 → exec (.shockHoldoffEnd d) s = .next s))

/-- R144: on an overrun every output in force stays for one more wedge and every permit drops; two in a row are a
fault of the control-law engine, and every actuator that is not parked retracts. R147: a swap command is taken when
the pending bank has been accepted for the fitted HDA and none waits, and refused by code otherwise; it is applied at
the next point, once a control-store swap no longer waits. -/
def Obligations.ControlLawOverrunAndSwap : Prop :=
  (∀ (s : State) (d : DieId), s.fitted d = true →
   Runs (.servoOverrun d) s fun t =>
     let x := s.die d
     let y := t.die d
     y.overrun = true ∧ y.overrunNow = true ∧ (∀ h, (y.head h).permit = false ∧ (y.head h).maNext = (x.head h).maCmd) ∧
     (x.overrunPrev = false ∨ x.overrunNow = true → ∀ a, (y.act a).vcmNext = (x.act a).vcmCmd ∧
       (y.act a).vcmCmd = (x.act a).vcmCmd ∧ (y.act a).state = (x.act a).state) ∧
     (x.overrunPrev = true → x.overrunNow = false → ∀ a, (x.act a).running = true → (y.act a).state = .retracting) ∧
     ∀ e, e ≠ d → t.die e = s.die e) ∧
  (∀ (s : State) (d : DieId) (a : Act), s.fitted d = true →
   let x := s.die d
   let y := x.act a
   let i := actInst d a
   (s.isolated d = true → exec (.coeffSwap d a) s = .next { s with reply := ⟨St.dieIsolated, 0, []⟩ }) ∧
   (s.isolated d = false → y.swapReq = true →
     exec (.coeffSwap d a) s = .next { s with reply := ⟨St.objectStateConflict, Refuse.commandPending.setWidth 64, []⟩ }) ∧
   (s.isolated d = false → y.swapReq = false → y.pendingOk = false → exec (.coeffSwap d a) s =
     .next { s.put Obj.coeffSwapResult i 8 with reply := ⟨St.objectStateConflict, 8, []⟩ }) ∧
   (s.isolated d = false → y.swapReq = false → y.pendingOk = true → y.pendingSet.serialCrc ≠ x.hdaCrc →
     exec (.coeffSwap d a) s = .next { s.put Obj.coeffSwapResult i 4 with reply := ⟨St.objectStateConflict, 4, []⟩ }) ∧
   (s.isolated d = false → y.swapReq = false → y.pendingOk = true → y.pendingSet.serialCrc = x.hdaCrc →
     exec (.coeffSwap d a) s = .next { (s.modAct d a fun y => { y with swapReq := true }).put Obj.coeffSwapResult i 1 with
       reply := ⟨St.success, 0, []⟩ }) ∧
   (y.swapReq = true → x.eng.swapPending = false → Runs (.coeffSwapApply d a) s fun t =>
     let z := (t.die d).act a
     z.bank = !y.bank ∧ z.pendingOk = false ∧ z.swapReq = false ∧ z.coeff = y.pendingSet ∧ z.state = y.state ∧
     t.get Obj.coeffSwapResult i = 0 ∧ (t.die d).act (Act.other a) = x.act (Act.other a) ∧
     ∀ e, e ≠ d → t.die e = s.die e) ∧
   (x.eng.swapPending = true ∨ y.swapReq = false → exec (.coeffSwapApply d a) s = .next s))

/-- R156, R158, R159: load, unload and seek commands by the state they meet. R157, R159: what the actuator's limits
and counts bring about. -/
def Obligations.ActuatorStates : Prop :=
  (∀ (s : State) (d : DieId) (a : Act) (targets : List Nat), s.fitted d = true →
   let x := s.die d
   let y := x.act a
   let i := actInst d a
   (s.isolated d = true → exec (.actLoad d a) s = .next { s with reply := ⟨St.dieIsolated, 0, []⟩ } ∧
     exec (.actUnload d a) s = .next { s with reply := ⟨St.dieIsolated, 0, []⟩ }) ∧
   (s.isolated d = false → y.state = .parked ∨ y.state = .fault → Runs (.actLoad d a) s fun t =>
     let z := (t.die d).act a
     (∀ c, x.loadRefusal a = some c → t.reply = ⟨St.objectStateConflict, BitVec.ofNat 64 c, []⟩ ∧
       z.state = y.state ∧ t.get Obj.actResult i = c) ∧
     (x.loadRefusal a = none → t.reply = ⟨St.success, 0, []⟩ ∧ z.state = .loading ∧ z.loadPending = true ∧
       z.loadTries = 0 ∧ t.get Obj.actResult i = 1 ∧ ∀ h ∈ x.loadHeads a, ((t.die d).head h).live = true) ∧
     (t.die d).act (Act.other a) = x.act (Act.other a) ∧ ∀ e, e ≠ d → t.die e = s.die e) ∧
   (s.isolated d = false → y.onDisk = true ∨ y.state = .recovering →
     exec (.actLoad d a) s = .next { s.put Obj.actResult i 0 with reply := ⟨St.success, 0, []⟩ }) ∧
   (s.isolated d = false → Runs (.actUnload d a) s fun t =>
     let z := (t.die d).act a
     t.reply = ⟨St.success, 0, []⟩ ∧
     (y.state = .parked ∨ y.state = .fault → z = y ∧ t.get Obj.actResult i = 0) ∧
     (y.onDisk = true → z.state = .unloading ∧ z.unloadPending = true ∧ z.seekPending = false ∧
       t.get Obj.actResult i = 1 ∧ ∀ h, h.act = a → ((t.die d).head h).target = 0) ∧
     (y.state = .loading ∨ y.state = .recovering → z.state = .retracting ∧ z.unloadPending = true ∧
       t.get Obj.actResult i = 1) ∧
     (y.state = .unloading ∨ y.state = .retracting → z.state = y.state ∧ z.unloadPending = true ∧
       z.loadWaits = false ∧ t.get Obj.actResult i = 1) ∧
     (t.die d).act (Act.other a) = x.act (Act.other a) ∧ ∀ e, e ≠ d → t.die e = s.die e) ∧
   (y.onDisk = true → Runs (.actSeek d a targets) s fun t =>
     let z := (t.die d).act a
     z.state = .seeking ∧ z.seekPending = true ∧ z.seekResult = 1 ∧
     (∀ h, h.act = a → (x.head h).live = true → ((t.die d).head h).target =
       min (targets.getD (h.val % 12) (x.head h).target) (x.tracks - 1)) ∧
     (∀ h, h.act ≠ a ∨ (x.head h).live = false → (t.die d).head h = x.head h) ∧
     Within [Obj.seekCount] d s t) ∧
   (y.state = .recovering → exec (.actSeek d a targets) s = .next (s.modAct d a fun y => { y with
     savedTargets := (headsOf a).map fun h => targets.getD (h.val % 12) (y.savedTargets.getD (h.val % 12) 0)
     seekPending := true, seekResult := 1 })) ∧
   (y.onDisk = false → y.state ≠ .recovering → exec (.actSeek d a targets) s = .next s)) ∧
  (∀ (s : State) (d : DieId) (a : Act), s.fitted d = true →
   let x := s.die d
   let y := x.act a
   let i := actInst d a
   let revs := (x.clock.rev + 16777216 - y.sinceRev) % 16777216
   let n := (match a with | .A => 24 | .B => 25)
   (y.state = .loading → s.getN Obj.loadRevs i ≤ revs → Runs (.actLoadTimeout d a) s fun t =>
     ((t.die d).act a).state = .retracting ∧ ((t.die d).act a).loadTries = y.loadTries + 1 ∧
     ((t.die d).act a).retractFor = .loadFail ∧ (t.die d).loadFail = true ∧ Within [] d s t ∧
     (t.die d).heads = x.heads ∧ (t.die d).act (Act.other a) = x.act (Act.other a) ∧ Logged d n Ev.actLoadFail s t) ∧
   (y.state = .settling → s.getN Obj.settleWedges i ≤ y.settleRun → Runs (.actSettled d a) s fun t =>
     ((t.die d).act a) = { y with
       state := .tracking, seekPending := false, loadPending := false
       seekResult := if y.seekPending then 0 else y.seekResult } ∧
     (y.loadPending = true → t.get Obj.actResult i = 0) ∧
     (t.die d).heads = x.heads ∧ (t.die d).act (Act.other a) = x.act (Act.other a) ∧ t.out = s.out ∧
     ∀ e, e ≠ d → t.die e = s.die e) ∧
   (y.state = .settling → 256 ≤ y.settleWedges → Runs (.actSettleFail d a) s fun t =>
     ((t.die d).act a) = { y with
       state := .recovering, sinceRev := x.clock.rev, settleRun := 0, settleWedges := 0
       savedTargets := (headsOf a).map fun h => (x.head h).target } ∧
     (∀ h, h.act = a → (t.die d).head h = { x.head h with recRun := 0, offset := 0 }) ∧
     Within [] d s t ∧ Logged d n Ev.actSettleFail s t) ∧
   (y.state = .recovering → s.getN Obj.recoverRevs i ≤ revs → Runs (.actRecoverTimeout d a) s fun t =>
     ((t.die d).act a).state = .retracting ∧ ((t.die d).act a).recTries = y.recTries + 1 ∧
     ((t.die d).act a).retractFor = .recoverFail ∧ (t.die d).heads = x.heads ∧ ∀ e, e ≠ d → t.die e = s.die e) ∧
   (y.state = .retracting → y.loadWaits = false → y.unloadPending = true → Runs (.actRetractDone d a) s fun t =>
     ((t.die d).act a).state = .parked ∧ ((t.die d).act a).unloadPending = false ∧ t.get Obj.actResult i = 0 ∧
     (∀ h, h.act = a → ((t.die d).head h).live = false ∧ ((t.die d).head h).permit = false ∧
       ((t.die d).head h).lines = .park) ∧
     ((x.act (Act.other a)).loaded = false → (t.die d).clock.state = .coasting) ∧
     ∀ e, e ≠ d → t.die e = s.die e))

/-- R173, R175, R186 to R190, R200: a read of one sector. Data is delivered OK only behind an accepted sync mark, with
every parity check satisfied in time, a good check and the right tag; a wrong tag is read once more before the address
mismatch; every other failure enters the ladder, or waits for one of the two capture buffers. R190, R192, R200: a
reading step that decodes, and a decode of the recovery decoder that does, end the ladder with RECOVERED and the
step's number; without a ladder that waits for it nothing happens. -/
def Obligations.SectorReadsAndLadder : Prop :=
  (∀ (s : State) (d : DieId) (h : HeadId) (loc : SectorLoc) (w : ReadAttempt),
   s.fitted d = true →
   let x := s.die d
   let y := x.head h
   let ok := s.decoded d w (s.getN Obj.ldpcIterNormal (dieInst d))
   let again := y.ladders.any fun l => l.loc == loc && l.step == 0
   (s.mayRead d h loc = false → exec (.sectorRead d h loc w) s = .next s) ∧
   (s.mayRead d h loc = true → Runs (.sectorRead d h loc w) s fun t =>
     let z := (t.die d).head h
     (ok = true → w.crcOk = true → w.tagOk = true → z.results = (loc, .ok, 0) :: y.results ∧ ∀ l ∈ z.ladders, l.loc ≠ loc) ∧
     (ok = true → w.crcOk = true → w.tagOk = false → again = true → z.results = (loc, .addressMismatch, 0) :: y.results) ∧
     (ok = true → w.crcOk = true → w.tagOk = false → again = false → z.results = y.results ∧
       ∃ l ∈ z.ladders, l.loc = loc ∧ l.step = 0 ∧ l.reread = true) ∧
     (ok = false ∨ w.crcOk = false → z.results = y.results ∧
       (if y.captured < 2 then ∃ l ∈ z.ladders, l.loc = loc ∧ l.step = 1 else z.ladderWait = y.ladderWait ++ [loc])) ∧
     (∀ g, g ≠ h → (t.die d).head g = x.head g) ∧ (t.die d).data = x.data ∧ (t.die d).actA = x.actA ∧
     (t.die d).actB = x.actB ∧ ∀ e, e ≠ d → t.die e = s.die e)) ∧
  (∀ (s : State) (d : DieId) (h : HeadId) (a : Act) (w : ReadAttempt)
   (ws : List ReadAttempt), s.fitted d = true →
   let x := s.die d
   let i := dieInst d
   (((x.head h).reading = none) → exec (.ladderStep d h ws) s = .next s) ∧
   (∀ l, (x.head h).reading = some l → s.mayRead d h l.loc = false → exec (.ladderStep d h ws) s = .next s) ∧
   (∀ l, (x.head h).reading = some l → s.mayRead d h l.loc = true →
     s.decoded d w (if l.step = 1 ∨ l.step = 4 then s.getN Obj.ldpcIterNormal i else s.getN Obj.ldpcIterExt i) = true →
     w.crcOk = true → w.tagOk = true → Runs (.ladderStep d h [w]) s fun t =>
       ((t.die d).head h).results = (l.loc, .recovered, l.step) :: (x.head h).results ∧
       (t.die d).data = x.data ∧ (∀ g, g ≠ h → (t.die d).head g = x.head g) ∧ ∀ e, e ≠ d → t.die e = s.die e) ∧
   ((x.act a).rdecQueue = [] → exec (.recoveryDecodeDone d a w) s = .next s) ∧
   (∀ rest l, (x.act a).rdecQueue = h :: rest → (x.head h).ladders.find? Ladder.decoding = some l →
     w.parityOk = true → w.iterations ≤ s.getN Obj.ldpcIterExt i → w.crcOk = true → w.tagOk = true →
     Runs (.recoveryDecodeDone d a w) s fun t =>
       ((t.die d).head h).results = (l.loc, .recovered, l.step) :: (x.head h).results ∧
       ((t.die d).act a).rdecQueue = rest ∧ (t.die d).data = x.data ∧
       (∀ g, g ≠ h → (t.die d).head g = x.head g) ∧ ∀ e, e ≠ d → t.die e = s.die e))

/-- R44, R197, R225: a sector of a run starts writing only on a head with the write permit, its SAM found, a grant
that covers it, no thermal stop of writes and no power failure; otherwise the pair parks and the sector waits in the
scheduler's queue. R182, R189, R195, R164, R214, R225: the ends of a written sector, preheat ahead of a run, and the
request for the next slot. -/
def Obligations.WritePath : Prop :=
  (∀ (s : State) (d : DieId) (h : HeadId) (ovs : BitVec 8)
   (j : WriteJob) (rest : List WriteJob), s.fitted d = true → ((s.die d).head h).jobs = j :: rest →
   let x := s.die d
   let y := x.head h
   (j.started = false → y.slotOf j.loc = none → exec (.sectorWriteStart d h ovs) s =
     .next (s.modHead d h fun y => { y with lines := .park, requeue := j :: y.requeue, jobs := rest })) ∧
   (j.started = false → ∀ next, y.slotOf j.loc = some next → x.slotCharges next allHeads ≤ s.bEff d →
     s.mayStart d h j.loc = true → Runs (.sectorWriteStart d h ovs) s fun t =>
       y.permit = true ∧ y.samFound = true ∧ x.data.pfail = none ∧ x.hk.state ≠ .stopWrites ∧ x.hk.state ≠ .shutdown ∧
       ((t.die d).head h).lines = .data ∧
       ((t.die d).head h).jobs = { j with started := true, fragment := 1 } :: rest ∧
       0 ≤ ((t.die d).head h).fineDelay ∧ ((t.die d).head h).fineDelay ≤ 2047 ∧
       t = s.modHead d h fun _ => (t.die d).head h) ∧
   (j.started = false → ∀ next, y.slotOf j.loc = some next → x.slotCharges next allHeads ≤ s.bEff d →
     s.mayStart d h j.loc = false → exec (.sectorWriteStart d h ovs) s =
       .next (s.modHead d h fun y => { y with lines := .park, requeue := j :: y.requeue, jobs := rest })) ∧
   (j.started = true → j.fragment = 2 → y.lines ≠ .data → Runs (.sectorWriteStart d h ovs) s fun t =>
     (s.mayContinue d h j = true → ((t.die d).head h).lines = .data ∧ ((t.die d).head h).jobs = j :: rest) ∧
     (s.mayContinue d h j = false → ((t.die d).head h).lines = .park ∧ ((t.die d).head h).jobs = [] ∧
       ((t.die d).head h).results = (j.loc, .abandoned, 0) :: y.results) ∧ (t.die d).data = x.data) ∧
   (j.started = true → j.fragment ≠ 2 ∨ y.lines = .data → exec (.sectorWriteStart d h ovs) s = .next s)) ∧
  (∀ (s : State) (d : DieId) (h : HeadId) (locs : List SectorLoc),
   s.fitted d = true →
   let x := s.die d
   let y := x.head h
   (∀ j rest, y.jobs = j :: rest → j.started = true → j.gateOff = false → y.lines = .data → j.split = true →
     j.fragment = 1 → exec (.sectorWriteEnd d h) s = .next (s.modHead d h fun y =>
       { y with lines := .park, wrote := y.wrote ++ [j], jobs := { j with fragment := 2 } :: rest })) ∧
   (∀ j rest, y.jobs = j :: rest → j.started = true → j.gateOff = false → y.lines = .data →
     j.split = false ∨ j.fragment ≠ 1 → Runs (.sectorWriteEnd d h) s fun t =>
       (t.die d).head h = { y with
         lines := .park, wrote := y.wrote ++ [j], jobs := rest, results := (j.loc, .written, 0) :: y.results } ∧
       (∀ g, g ≠ h → (t.die d).head g = x.head g) ∧ (t.die d).data = x.data ∧ ∀ e, e ≠ d → t.die e = s.die e) ∧
   (∀ j rest, y.jobs = j :: rest → j.started = true → j.gateOff = true → Runs (.sectorAbandon d h) s fun t =>
       (t.die d).head h = { y with
         lines := .park, jobs := [], results := (j.loc, .abandoned, 0) :: y.results
         requeue := { j with started := false, gateOff := false, fragment := 1 } :: rest ++ y.requeue } ∧
       (∀ g, g ≠ h → (t.die d).head g = x.head g) ∧ (t.die d).data = x.data ∧ ∀ e, e ≠ d → t.die e = s.die e) ∧
   (y.jobs = [] → exec (.sectorWriteEnd d h) s = .next s ∧ exec (.sectorAbandon d h) s = .next s) ∧
   (∀ j rest, y.jobs = j :: rest → s.assistMode d = 1 → s.preheatFrac d h (s.headRegion d h) ≠ 0 →
     0 < s.get Obj.preheatLeadAu (dieInst d) → y.lines = .park → j.started = false → (y.slotOf j.loc).isSome = true →
     (x.act h.act).wenMask.getLsbD (h.val % 12) = true → exec (.assistPreheatStart d h) s =
       .next (s.modHead d h fun y => { y with lines := .heat })) ∧
   (s.assistMode d ≠ 1 → exec (.assistPreheatStart d h) s = .next s) ∧
   (y.live = true → locs ≠ [] → (∀ l ∈ locs, (s.place d h l).isSome = true) → Runs (.assistRequest d h locs) s fun t =>
       ((t.die d).head h).request = some locs ∧ (∀ l ∈ locs, ∃ j ∈ ((t.die d).head h).jobs, j.loc = l) ∧
       (∃ new, ((t.die d).head h).jobs = y.jobs ++ new ∧ ∀ j ∈ new, j.started = false ∧ j.fragment = 1) ∧
       t = s.modHead d h fun _ => (t.die d).head h) ∧
   (y.live = false → exec (.assistRequest d h locs) s = .next s))

/-- R198, R202, R203, R217, R218: the frames sent down an open link: one frame of the type and the number of words,
with the next sequence number; a closed link carries none. R217: no WRITE_CODE in an ASSIST frame exceeds the head's
MAX_CODE. -/
def Obligations.PreampFramesDown : Prop :=
  (∀ (s : State) (d : DieId) (a : Act) (write : Bool) (mask : BitVec 12)
   (reg : BitVec 8) (words : List (BitVec 16)), s.fitted d = true →
   let x := s.die d
   let y := x.act a
   let sent := fun (typ len param : Nat) (t : State) =>
     (∃ ws crc, ws.length = len ∧
       t.out = .pcl d a (BitVec.ofNat 32 (pclHeader typ y.pclSeq.toNat len param)) ws crc :: s.out) ∧
     ((t.die d).act a).pclSeq = y.pclSeq + 1 ∧ (t.die d).act (Act.other a) = x.act (Act.other a) ∧
     (t.die d).data = x.data ∧ ∀ e, e ≠ d → t.die e = s.die e
   (y.pcl.open = false →
     exec (.headModeSend d a write) s = .next s ∧ exec (.heaterSend d a mask) s = .next s ∧
     exec (.assistFrameSend d a) s = .next s ∧ exec (.writeLevelSend d a) s = .next s ∧
     exec (.preampRegWrite d a reg words) s = .next s ∧ exec (.preampRegRead d a reg) s = .next s) ∧
   (y.pcl.open = true →
     (write = y.dirWrite ∨ (∀ h ∈ headsOf a, (x.head h).inProgress = false) →
       write = false ∨ (∀ h ∈ headsOf a, (x.head h).offset = 0) → Runs (.headModeSend d a write) s fun t =>
         sent 2 2 (if write then 1 else 0) t ∧ ((t.die d).act a).dirWrite = write ∧ (t.die d).heads = x.heads) ∧
     Runs (.heaterSend d a mask) s (sent 3 12 0) ∧
     (s.assistMode d ≠ 0 → Runs (.assistFrameSend d a) s (sent 4 24 (if s.assistMode d = 2 then 1 else 0))) ∧
     (s.assistMode d = 0 → exec (.assistFrameSend d a) s = .next s) ∧
     Runs (.writeLevelSend d a) s (sent 5 12 0) ∧
     (1 ≤ words.length → words.length ≤ 64 → Runs (.preampRegWrite d a reg words) s (sent 6 words.length reg.toNat)) ∧
     Runs (.preampRegRead d a reg) s fun t => sent 7 0 reg.toNat t ∧ ((t.die d).act a).regRead = some reg)) ∧
  (∀ (s : State) (d : DieId) (h : HeadId),
   (s.assistWords d h).1.toNat % 1024 ≤ fieldU (s.assistBytes d h) 20 2)

/-- R204, R208, R213, R228: what the reports leave behind on an open link, and that a closed link takes none. R207:
the states of a preamplifier link. -/
def Obligations.PreampLinkAndReports : Prop :=
  (∀ (s : State) (d : DieId) (a : Act) (param : BitVec 8) (w0 w1 v : BitVec 16)
   (words : List (BitVec 16)), s.fitted d = true →
   let x := s.die d
   let y := x.act a
   (y.pcl.open = false →
     exec (.preampStatusReport d a param w0 w1) s = .next s ∧ exec (.preampTempReport d a param words) s = .next s ∧
     exec (.preampPdReport d a param words) s = .next s ∧ exec (.preampRegDataReport d a param v) s = .next s ∧
     exec (.preampReportMissing d a) s = .next s) ∧
   (y.pcl.open = true →
     (Runs (.preampStatusReport d a param w0 w1) s fun t =>
       ((t.die d).act a).writeStop = (w0.getLsbD 4 || w0.getLsbD 5) ∧
       (w0 ≠ 0 → ((t.die d).act a).preampFault = true) ∧
       (∀ h, h.act = a → (w0.getLsbD 0 || w0.getLsbD 1) = true → w1.getLsbD (h.val % 12) = true →
         ((t.die d).head h).noWrite = true)) ∧
     (Runs (.preampTempReport d a param words) s fun t =>
       ((t.die d).act a).preampTemp = (words.getD 0 0).toInt ∧
       (∀ h, h.act = a → ((t.die d).head h).temp = some (words.getD (1 + h.val % 12) 0).toInt ∧
         ((t.die d).head h).tempRound = x.hk.rounds) ∧ ∀ e, e ≠ d → t.die e = s.die e) ∧
     (Runs (.preampPdReport d a param words) s fun t =>
       (s.assistMode d = 1 → ∀ h, h.act = a → ((t.die d).head h).wrote = []) ∧ ∀ e, e ≠ d → t.die e = s.die e) ∧
     (Runs (.preampRegDataReport d a param v) s fun t =>
       ((t.die d).act a).regData = v ∧ ((t.die d).act a).regRead = none ∧ ∀ e, e ≠ d → t.die e = s.die e) ∧
     (Runs (.preampReportMissing d a) s fun t =>
       ((t.die d).act a).crcErr = true ∧ ((t.die d).act a).pclOkRun = 0 ∧
       (y.pclErrRun < 2 → ((t.die d).act a).pclErrRun = y.pclErrRun + 1 ∧ ((t.die d).act a).pcl = y.pcl) ∧
       (2 ≤ y.pclErrRun → ((t.die d).act a).pcl = .init ∨ ((t.die d).act a).pcl = .fault) ∧
       ∀ e, e ≠ d → t.die e = s.die e))) ∧
  (∀ (s : State) (d : DieId) (a : Act) (id : BitVec 16), s.fitted d = true →
   let x := s.die d
   let y := x.act a
   let i := actInst d a
   (y.pcl = .fault → exec (.pclLinkReset d a) s = .next s) ∧
   (y.pcl ≠ .fault → (y.pclResetRev ≠ x.clock.rev ∨ y.pclResets < 2) → Runs (.pclLinkReset d a) s fun t =>
     let z := (t.die d).act a
     z.pcl = .init ∧ z.pclIdOk = false ∧ z.regRead = some 0 ∧ z.wenMask = 0 ∧ z.liveMask = 0 ∧ z.dirWrite = false ∧
     z.resetSeen = true ∧ (∀ h, h.act = a → ((t.die d).head h).lines = .park) ∧ ∀ e, e ≠ d → t.die e = s.die e) ∧
   (y.pcl ≠ .fault → y.pclResetRev = x.clock.rev → 2 ≤ y.pclResets → Runs (.pclLinkReset d a) s fun t =>
     ((t.die d).act a).pcl = .fault ∧ ((t.die d).act a).preampFault = true ∧
     (y.onDisk = true → ((t.die d).act a).state = .unloading) ∧ ∀ e, e ≠ d → t.die e = s.die e) ∧
   (y.pcl = .init → y.pclIdOk = false → Runs (.pclIdCheck d a id) s fun t =>
     let z := (t.die d).act a
     z.regData = id ∧ z.regRead = none ∧ t.get Obj.preampId i = id.toNat ∧
     (id.toNat = fieldU (s.dom Obj.preampInit 0 i []) 2 2 → z.pclIdOk = true ∧ z.pcl = .init ∧ z.wenMask = 0) ∧
     (id.toNat ≠ fieldU (s.dom Obj.preampInit 0 i []) 2 2 → z.pclIdOk = false ∧ z.pcl = .fault ∧ z.preampFault = true) ∧
     ∀ e, e ≠ d → t.die e = s.die e) ∧
   (y.pcl ≠ .init → exec (.pclIdCheck d a id) s = .next s ∧ exec (.pclLinkUp d a) s = .next s) ∧
   (y.pcl = .init → y.pclIdOk = true → 8 ≤ y.pclOkRun → Runs (.pclLinkUp d a) s fun t =>
     t = s.setDie d { x.setAct a { y with pcl := .up, pclResets := 0 } with calRuns := (t.die d).calRuns }))

/-- R238, R239, R240: a calibration command is refused, in this order, on an isolated die, at an instance its kind
does not have, beside a run it conflicts with, and while a condition fails, whose code CAL_RESULT then takes;
otherwise the run starts, from the present revolution, and the runs at other instances go on. R255, R256, R262, R263:
the steps of the two die procedures that act on the drive, quality figures, and the hours. -/
def Obligations.CalibrationStartsAndSteps : Prop :=
  (∀ (s : State) (sel : CalSel) (c : Instr) (kind : Nat),
   (c, kind) ∈ [(Instr.calChannelAdapt sel, 1), (.calHeater sel, 2), (.calAssistOpt sel, 3), (.calChevronGeom sel, 4),
     (.calMaGain sel, 5), (.calVcmTorque sel, 6), (.calSenseOffset sel, 7), (.calBemfSymmetry sel, 8),
     (.calHoldupCap sel, 9)] → s.fitted (selDie sel) = true →
   let d := selDie sel
   let i := calInst sel
   let x := s.die d
   let conflict := x.calRuns.entries.any (calConflict kind i)
   (s.isolated d = true → exec c s = .next (s.answer St.dieIsolated)) ∧
   (s.isolated d = false → calAllowed kind i = false → exec c s = .next (s.answer St.instanceInvalid)) ∧
   (s.isolated d = false → calAllowed kind i = true → conflict = true → exec c s = .next (s.answer St.objectBusy)) ∧
   (s.isolated d = false → calAllowed kind i = true → conflict = false → ∀ code, s.calCommon d kind i = some code →
     Runs c s fun t => t.reply = ⟨St.objectStateConflict, BitVec.ofNat 64 code, []⟩ ∧ t.get Obj.calResult i = code ∧
       t.dies = s.dies ∧ t.out = s.out) ∧
   (s.isolated d = false → calAllowed kind i = true → conflict = false → s.calCommon d kind i = none →
     (headKind kind = true → (s.calHeads d kind i).1 ≠ []) → (kind = 6 → (selAct i).bind (s.calVcm d) = none) →
     (kind = 9 → s.holdupMayStart d (s.vEndOf d) = true) → Runs c s fun t =>
       t.reply = ⟨St.success, 0, []⟩ ∧ (∀ e, e ≠ d → t.die e = s.die e) ∧
       (∀ j, j ≠ i → (t.die d).calRuns.find? j = x.calRuns.find? j) ∧
       (kind ≠ 5 → t.get Obj.calResult i = 1 ∧ ∃ r, (t.die d).calRuns.find? i = some r ∧ r.kind = BitVec.ofNat 8 kind ∧
         r.startRev = x.clock.rev ∧ r.paused = false))) ∧
  (∀ (s : State) (d : DieId) (xs : List (Phase × BitVec 24))
   (curve : List (Nat × Nat)) (figs : List HeadFigures), s.fitted d = true →
   let x := s.die d
   let i := dieInst d
   (x.calRuns.find? i = none → exec (.bemfFloat d xs) s = .next s ∧ exec (.holdupTestEnd d curve) s = .next s) ∧
   (∀ r, x.calRuns.find? i = some r → r.kind = 8 → r.paused = false → r.floats.length < 4 →
     Runs (.bemfFloat d xs) s fun t =>
       (t.die d).calRuns = x.calRuns.insert i { r with floats := r.floats ++ [xs] } ∧
       (t.die d).spin.holdStart = some ((x.clock.stamp.toNat + 2 ^ 24) % 2 ^ 48) ∧
       t = s.setDie d { x with calRuns := (t.die d).calRuns, spin := (t.die d).spin }) ∧
   (∀ r, x.calRuns.find? i = some r → r.kind = 8 → 4 ≤ r.floats.length → exec (.bemfFloat d xs) s = .next s) ∧
   (∀ r, x.calRuns.find? i = some r → r.kind = 9 → x.holdupTest = true → exec (.holdupTestEnd d curve) s =
     .next (s.setDie d { x with
       holdupTest := false, calRuns := x.calRuns.insert i { r with fit := some (s.holdupFit d curve) } })) ∧
   (Runs (.qualityWindowEnd d figs) s fun t => t.dies = s.dies ∧ t.out = s.out ∧
     ((∀ f ∈ figs, (x.head f.head).live = false) → t = s)) ∧
   (Runs (.powerOnHour d) s fun t =>
     t.get Obj.powerOnHours i = min 4294967295 (s.get Obj.powerOnHours i + 1) ∧ t.dies = s.dies ∧ t.out = s.out))

/-- R238, R242, R243, R246: an abort and a passed deadline end the run at the instance, with its code in CAL_RESULT;
where no run is, an abort is a success that changes nothing. R244, R246, R259: a run that has converged is committed:
values that fail their checks leave every record as it was and give OUT_OF_RANGE; values that pass are stored in one
copy of the record, the other copy as it was. A paused run takes no measurement. R259: the copy that a record's next
write goes to is never the newest valid one. -/
def Obligations.CalibrationEndsAndRecords : Prop :=
  (∀ (s : State) (sel : CalSel), s.fitted (selDie sel) = true →
   let d := selDie sel
   let i := calInst sel
   let x := s.die d
   (s.isolated d = false → x.calRuns.find? i = none →
     exec (.calAbort sel) s = .next (s.answer St.success) ∧ exec (.calTimeout sel) s = .next s) ∧
   (∀ r, x.calRuns.find? i = some r →
     (s.isolated d = false → Runs (.calAbort sel) s fun t =>
       t.reply = ⟨St.success, 0, []⟩ ∧ (t.die d).calRuns.find? i = none ∧
       (∀ j, j ≠ i → (t.die d).calRuns.find? j = x.calRuns.find? j) ∧
       (headKind r.kind.toNat = false → t.get Obj.calResult i = 2) ∧ ∀ e, e ≠ d → t.die e = s.die e) ∧
     (s.getSub Obj.calDeadline r.kind.toNat (dieInst d) ≤ ((x.clock.rev + 16777216 - r.startRev) % 16777216 : Nat) →
       Runs (.calTimeout sel) s fun t =>
         (t.die d).calTimeout = true ∧ (t.die d).calRuns.find? i = none ∧
         (headKind r.kind.toNat = false → t.get Obj.calResult i = 3) ∧ Logged d Ev.calTimeout.src Ev.calTimeout s t ∧
         ∀ e, e ≠ d → t.die e = s.die e) ∧
     (((x.clock.rev + 16777216 - r.startRev) % 16777216 : Nat) < s.getSub Obj.calDeadline r.kind.toNat (dieInst d) →
       exec (.calTimeout sel) s = .next s))) ∧
  (∀ (s : State) (sel : CalSel) (m : CalMeasure) (r : CalRun),
   s.fitted (selDie sel) = true →
   let d := selDie sel
   let i := calInst sel
   let x := s.die d
   let k := r.kind.toNat
   let key := k * 256 + i
   let old : TwoCopy := x.calRecords.getD key {}
   x.calRuns.find? i = some r → (headKind k = true → i % 32 < 24) →
   (r.paused = true → exec (.calConverge sel m) s = .next s) ∧
   (r.paused = false → s.measured d k i r m = none → exec (.calConverge sel m) s = .next s) ∧
   (∀ p, r.paused = false → s.measured d k i r m = some p → s.payloadOk d k i p = false →
     Runs (.calConverge sel m) s fun t =>
       (t.die d).calRuns.find? i = none ∧ t.get Obj.calResult i = 7 ∧ (t.die d).calFailed = true ∧
       (t.die d).calRecords = x.calRecords ∧ ∀ e, e ≠ d → t.die e = s.die e) ∧
   (∀ p, r.paused = false → s.measured d k i r m = some p → s.payloadOk d k i p = true → x.hk.state ≠ .shutdown →
     Runs (.calConverge sel m) s fun t =>
       (t.die d).calRuns.find? i = none ∧ t.get Obj.calResult i = 0 ∧ (t.die d).calDone = true ∧
       (∃ c : Copy, c.seq = (old.next k i).2 ∧ (t.die d).calRecords.getD key {} =
         if (old.next k i).1 then { old with a := some c } else { old with b := some c }) ∧
       (∀ j, j ≠ key → (t.die d).calRecords.find? j = x.calRecords.find? j) ∧ ∀ e, e ≠ d → t.die e = s.die e)) ∧
  (∀ (t : TwoCopy) (kind inst : Nat),
   (∀ a b, t.a = some a → t.b = some b → a.seq ≠ b.seq ∧ a.seq - b.seq ≠ 0x80000000#32) →
   (if (t.next kind inst).1 then t.b else t.a).filter (copyValid kind inst) = t.newest kind inst ∧
   ∀ c, t.newest kind inst = some c → (t.next kind inst).2 = c.seq + 1)

/-- R243: a calibration whose deadline passes ends with TIMEOUT, an actuator's for each of its heads that has not
ended; values, records and every other object stay, and CAL_TIMEOUT is raised with the kind and the instance. -/
def Obligations.CalibrationTimeoutKeepsValues : Prop := ∀ (s : State) (sel : CalSel) (r : CalRun),
  let d := selDie sel
  let i := calInst sel
  let x := s.die d
  s.fitted d = true → x.calRuns.find? i = some r →
  s.getSub Obj.calDeadline r.kind.toNat (dieInst d) ≤ ((x.clock.rev + 16777216 - r.startRev) % 16777216 : Nat) →
  Runs (.calTimeout sel) s fun t =>
    let byHead := headKind r.kind.toNat && decide (24 ≤ i % 32)
    (t.die d).calRuns.find? i = none ∧ (t.die d).calTimeout = true ∧
    (byHead = false → t.get Obj.calResult i = 3) ∧
    (byHead = true → ∀ h ∈ r.heads, (∀ e ∈ r.outcomes, e.1 ≠ h) → t.get Obj.calResult (headInst d h) = 3) ∧
    (t.die d).heads = x.heads ∧ (t.die d).actA = x.actA ∧ (t.die d).actB = x.actB ∧ (t.die d).spin = x.spin ∧
    (t.die d).clock = x.clock ∧ (t.die d).calRecords = x.calRecords ∧ t.saved = s.saved ∧ (∀ e, e ≠ d → t.die e = s.die e) ∧
    (∀ k, k / 256 ≠ Obj.calResult.name → k / 256 ≠ Obj.eventLogOverwritten.name → t.objs.find? k = s.objs.find? k) ∧
    (s.isolated d = false → (∀ c ∈ x.obs.cnts, c.event.toNat ≠ 256 + Ev.calTimeout.src) →
      ∃ v : EvRec, (t.die d).obs.log = (v :: x.obs.log).take 4096 ∧
        v.code = Ev.calTimeout.src * 256 + Ev.calTimeout.pos ∧
        v.data = BitVec.ofNat 64 (r.kind.toNat % 256 + 256 * i))

/-- R286 to R288, R290, R358: DESTAGE of a conventional zone puts a waiting block in place with its record to come; of
a compressed zone it queues the blocks that make whole husks; nothing of the zone moves while user data may not be
destaged. -/
def Obligations.DestageByZoneKind : Prop := ∀ (s : State) (d : DieId) (z : Nat), s.fitted d = true →
  let x := s.die d
  (s.mayDestage d z = false → exec (.destage d z) s = .next s) ∧
  (∀ o v h loc, s.mayDestage d z = true → s.isConv d z = true → s.waitingVers d z = [(o, v)] →
    s.readPending d (z * zoneSpan + o) v.asn = false → s.convPlace d (z * zoneSpan + o) = some (h, loc) →
    s.headWritable d h = true → Runs (.destage d z) s fun t =>
      ∃ sec : Sector, sec.payload = v.data ∧
        t = s.setDie d { x with data := { x.data with
          media := x.data.media.insert (mediaKey h loc.track.toNat loc.sector.toNat) sec
          unreadable := x.data.unreadable.erase (z * zoneSpan + o), rc := x.data.rc.erase (z * zoneSpan + o)
          jq := x.data.jq ++ [⟨0, [], [], [(z * zoneSpan + o, v.asn)]⟩] } }) ∧
  (∀ vs, s.mayDestage d z = true → s.isConv d z = false →
    let c := (s.zone d z).desc.content
    let hb := max 1 c.huskBlocks
    let e := s.compEnd d z
    c.huskKib ≠ 0 → (e / hb + 1) * hb ≤ c.wp → s.runVers d z e ((e / hb + 1) * hb - e) = some vs →
    Runs (.destage d z) s fun t =>
      ∃ j js, (t.die d).data.compQ = x.data.compQ ++ j :: js ∧ j.zone = z ∧ j.offset = e ∧ j.decomp = false ∧
        j.short = false ∧ j.input = vs.flatMap (fun p => blockBytes p.2.data) ∧
        (∀ k ∈ js, k.zone = z ∧ k.decomp = false) ∧
        t = s.setDie d { x with data := { x.data with compQ := x.data.compQ ++ j :: js, zones := (t.die d).data.zones } })

/-- R309, R315: a free lane takes the next compression job, with a chain of its input less 64 bytes, cut short only
when staging space is tight. R306, R313 to R317: the job ends with its output as a compressed husk, or its input as a
raw husk when the output does not fit the chain; the completion record and OVERFLOW_COUNT say so. -/
def Obligations.CompressionJobs : Prop := ∀ (s : State) (d : DieId), s.fitted d = true →
  let x := s.die d
  let i := dieInst d
  (∀ l j rest buffers, x.data.freeLane = some l → x.data.compQ = j :: rest → s.takesDecomp d = false →
    x.data.pfail = none → Runs (.compressJob d buffers) s fun t =>
      ∃ chain ≤ j.input.length - 64,
        (buffers = none ∨ s.stagingTight d = false → chain = j.input.length - 64) ∧
        t = s.setDie d { x with data := { x.data with
          compQ := rest
          lanes := x.data.lanes.set l (some { j with
            chain := chain, shortChain := decide (chain < j.input.length - 64), depth := s.getN Obj.chainDepth i
            lzy := s.getB Obj.lazy i, nice := s.getN Obj.niceLength i }) } }) ∧
  (∀ (lane : Fin 16) j, x.data.lanes.getD lane.val none = some j → j.decomp = false →
    let out := Config.deflate j.depth j.lzy j.nice j.input
    let raw := decide (j.chain < out.length)
    Runs (.compressJobEnd d lane) s fun t =>
      ∃ h rec_, Gives [Obj.overflowCount, Obj.rawChainShortCount, Obj.rawIncompressibleCount] d { x with
          data := { x.data with
            lanes := x.data.lanes.set lane.val none, finished := x.data.finished ++ [h], jobRecord := rec_ } } s t ∧
        h.zone = j.zone ∧ h.offset = j.offset ∧ h.raw = raw ∧ h.short = j.short ∧
        h.logicalLen = j.input.length ∧ h.stored = (if raw then j.input else out) ∧ h.storedLen = h.stored.length ∧
        h.dataCrc = BitVec.ofNat 32 (crc32c j.input) ∧ h.logical = j.input ∧ h.clean = j.clean ∧
        h.keyDomain = (s.zone d j.zone).desc.content.keyDomain) ∧
  (∀ l j rest, x.data.freeLane = some l → x.data.decompQ = j :: rest → s.takesDecomp d = true →
    exec (.decompressJob d) s = .next (s.setDie d { x with data := { x.data with
      decompQ := rest, lanes := x.data.lanes.set l (some j) } })) ∧
  (∀ (lane : Fin 16) j h, x.data.lanes.getD lane.val none = some j → j.decomp = true →
    x.data.husks.find? (huskKey j.zone j.unit) = some h → Runs (.decompressJobEnd d lane) s fun t =>
      ∃ rec_, Gives [] d { x with data := { x.data with
        lanes := x.data.lanes.set lane.val none, jobRecord := rec_
        rc := if j.fill then h.blocks.foldl (fun m e => m.insert e.1 e.2) x.data.rc else x.data.rc } } s t) ∧
  (∀ z h f, s.mayDestage d z = true →
    (x.data.finished.find? fun h => h.zone == z && h.offset ==
      ((x.data.husks.entries.filter fun e => e.1 / 536870912 == z).map fun e =>
        e.2.offset + e.2.logicalLen / 4096).foldl max 0) = some h →
    f = h.offset / 64 → (s.frameLive d z f).len = 0 → (s.frameLive d z f).husks = 0 →
    let c := (s.zone d z).desc.content
    (s.placeHusk d h c.huskSeq (h.logicalLen + 48 * (h.clean.map (·.2)).eraseDups.length)).isSome = true →
    Runs (.huskPlace d z) s fun t =>
      Within [Obj.logicalBytesIn, Obj.storedBytesOut] d s t ∧
      (t.die d).data.husks.find? (huskKey z c.streamEnd) = some { h with seq := c.huskSeq, start := c.streamEnd } ∧
      (t.zone d z).desc.content.streamEnd = c.streamEnd + h.units ∧ (t.zone d z).desc.content.huskSeq = c.huskSeq + 1 ∧
      (t.die d).data.finished = x.data.finished.filter (· != h) ∧
      (t.die d).data.jq = x.data.jq ++ [⟨0, [], [State.frameEntry z f c.streamEnd [h]], h.clean⟩] ∧
      (∀ y, y ≠ z → (t.die d).data.zones.find? y = x.data.zones.find? y) ∧
      (t.die d).data.wc = x.data.wc ∧ (t.die d).data.segs = x.data.segs)

/-- R313: a husk is stored DEFLATE only if its output is at least 64 bytes shorter than its data, and with a full
chain it is whenever it is; in every other case it is stored RAW, with STORED_LEN = LOGICAL_LEN and the data
unchanged. Either keeps the DATA_CRC of its data. -/
def Obligations.HuskIsRawUnlessShorter : Prop := ∀ (s : State) (d : DieId) (lane : Fin 16) (j : Job), s.fitted d = true →
  (s.die d).data.lanes.getD lane.val none = some j → j.decomp = false → j.chain + 64 ≤ j.input.length →
  let out := Config.deflate j.depth j.lzy j.nice j.input
  Runs (.compressJobEnd d lane) s fun t => ∃ h : Husk,
    (t.die d).data.finished = (s.die d).data.finished ++ [h] ∧ h.logicalLen = j.input.length ∧
    h.dataCrc = BitVec.ofNat 32 (crc32c j.input) ∧
    (h.raw = false → h.storedLen + 64 ≤ h.logicalLen ∧ h.stored = out ∧ h.storedLen = out.length) ∧
    (h.raw = true → h.stored = j.input ∧ h.storedLen = h.logicalLen) ∧
    (j.chain + 64 = j.input.length → (h.raw = false ↔ out.length + 64 ≤ j.input.length))

/-- R354, R357, R358: the first waiting record that may be appended leaves the queue and is journalled. R355: the tail
is written out when it has reached JOURNAL_FLUSH_KIB or 64 revolutions. R356: a checkpoint when the log passes 768
MiB. R296: a dirty frame index page goes home. R231, R232: a good VERIFY_READ closes the oldest entry. -/
def Obligations.JournalAndVerify : Prop := ∀ (s : State) (d : DieId), s.fitted d = true →
  let x := s.die d
  (∀ p, x.data.jq.find? (s.pendReady d) = some p → p.asn = 0 →
    exec (.journalAppend d) s = .next (((((s.setDie d { x with data := { x.data with jq := x.data.jq.filter (· != p) } })).journal
      d 0 (s.pendItems d p)).cleanBlocks d p.clean).recheck d)) ∧
  (∀ p, x.data.jq.find? (s.pendReady d) = some p → p.asn ≠ 0 →
    exec (.journalAppend d) s = .next ((((((s.setDie d { x with data := { x.data with
      jq := x.data.jq.filter (· != p) } })).journal d p.asn (s.pendItems d p)).cleanBlocks d p.clean).writeDurable d
        p.asn).recheck d)) ∧
  (∀ p, x.data.jq.find? (s.pendReady d) = some p → p.asn = 0 → s.slots = {} → s.pendItems d p = [] → p.clean = [] →
    exec (.journalAppend d) s = .next (s.setDie d { x with data := { x.data with jq := x.data.jq.filter (· != p) } })) ∧
  (s.getN Obj.journalFlushKib (dieInst d) * 1024 ≤ tailBytes x.data ∨
      (x.data.ring ≠ [] ∧ 64 ≤ (x.clock.rev + 16777216 - x.data.tailRev) % 16777216) →
    Runs (.journalFlush d) s fun t =>
      (t.die d).data = { x.data with log := x.data.log ++ x.data.ring, ring := [], head := x.data.tail + 1 } ∧
      t = s.setDie d { x with data := (t.die d).data, mem := (t.die d).mem }) ∧
  (805306368 < logBytes x.data → Runs (.mapCheckpoint d) s fun t =>
    let y := (t.die d).data
    (∀ r ∈ y.log, x.data.tail + 1 ≤ r.jseq) ∧ y.cpBase = x.data.tail + 1 ∧ y.ring = [] ∧
    y.checkpoint = x.data.image ∧ (∀ e ∈ y.pages, e.2 = false) ∧ y.media = x.data.media ∧ y.wc = x.data.wc ∧
    y.zones = x.data.zones ∧ t = s.setDie d { x with data := y, mem := (t.die d).mem }) ∧
  (∀ page, (x.data.pages.any fun e => e.1 == page && e.2) = true →
    exec (.framePageWriteback d page) s = .next (s.setDie d { x with data := { x.data with
      pages := x.data.pages.map fun e => if e.1 = page then (page, false) else e
      homePages := insertNat page x.data.homePages } })) ∧
  (∀ e rest iters, x.data.verify = e :: rest → iters ≤ s.getN Obj.verifyIterLimit (dieInst d) →
    exec (.verifyRead d .ok 0 iters) s = .next (s.closeEntry d e (s.blocksAt d e.head e.loc))) ∧
  (∀ e rest res step iters, x.data.verify = e :: rest → s.blocksAt d e.head e.loc = [] →
    res = .unrecovered ∨ res = .addressMismatch ∨ res = .noSignal →
    exec (.verifyRead d res step iters) s = .next ((((s.setDie d { x with data := { x.data with
      unreadable := (s.lostBlocks d e.head e.loc).foldl (fun m b => m.insert b St.integrityError) x.data.unreadable } }).raise d
        Ev.verifyLost).closeEntry d e []))) ∧
  (s.isolated d = true → exec (.formatCommand d) s = .next (s.answer St.dieIsolated)) ∧
  (s.isolated d = false → s.formatReady d = false →
    exec (.formatCommand d) s = .next ((s.put Obj.formatResult (dieInst d) 5).answer St.objectStateConflict 5)) ∧
  (∀ cb, s.isolated d = false → s.formatReady d = true → s.formatConvBands d = some cb → Runs (.formatCommand d) s fun t =>
    let y := (t.die d).data
    t.get Obj.formatResult (dieInst d) = 0 ∧ y.formatted = true ∧ y.formatSeq = (x.data.formatSeq + 1) % 2 ^ 32 ∧
    y.convBands = cb ∧ y.bitmap = {} ∧ y.frames = {} ∧ y.husks = {} ∧ y.wc = {} ∧ y.rc = {} ∧ y.verify = [] ∧
    y.media = x.data.media ∧ (t.die d).life ≠ .unformatted ∧ (t.die d).heads = x.heads ∧
    ∀ e, e ≠ d → t.die e = s.die e)

/-- R405, R408: READ of a block gives the cached data, zeros where nothing was written (or UNWRITTEN_BLOCK), the
decoded data of the medium, or the medium's failure with its block, head and ladder step; VERIFY gives no data and
waits for dirty data of its range. -/
def Obligations.ReadAndVerifyBlock : Prop := ∀ (s : State) (asn : Nat) (d : DieId) (sl : Slot) (b : Nat),
  s.fitted d = true → s.slots.find? asn = some sl → sl.ready d = true → sl.traced = false → sl.blocksOn d = [b] →
  (∀ x, sl.op = 1 → s.blockReady d asn b (eFua sl.entry) = true → s.blockView d asn b (eFua sl.entry) = .cache x →
    exec (.read asn d []) s = .next (s.ends asn d fun p =>
      { p with status := St.success, result := 0, data := blockBytes x })) ∧
  (sl.op = 1 → s.blockReady d asn b (eFua sl.entry) = true → s.blockView d asn b (eFua sl.entry) = .unwritten →
    exec (.read asn d []) s = .next (s.ends asn d fun p =>
      if s.get Obj.unwrittenRead (dieInst d) = 1 then
        { p with
          status := St.unwrittenBlock, result := 0, data := [], lba := some (dieLba d b), head := none, step := 0, chan := none }
      else { p with status := St.success, result := 16, data := blockBytes zeroBlock })) ∧
  (∀ x k, sl.op = 1 → eFua sl.entry = true → s.blockReady d asn b true = true →
    s.blockView d asn b true = .medium x none →
    exec (.read asn d [.good k]) s = .next (s.ends asn d fun p =>
      { p with status := St.success, result := BitVec.ofNat 64 (k % 16), data := blockBytes x })) ∧
  (∀ x k, sl.op = 1 → eFua sl.entry = true → s.blockReady d asn b true = true →
    s.blockView d asn b true = .medium x none →
    exec (.read asn d [.channel .unrecovered k]) s = .next (s.ends asn d fun p =>
      { p with
        status := St.unrecovered, result := BitVec.ofNat 64 (k % 16), data := [], lba := some (dieLba d b)
        head := (s.blockPlace d b).map (·.2.1), step := k, chan := some .unrecovered })) ∧
  (sl.op = 5 → s.rangeDirty d asn [b] = true → ∀ outs,
    exec (.verify asn d outs) s = .next (s.modPart asn d fun p => { p with begun := true })) ∧
  (∀ x k, sl.op = 5 → s.rangeDirty d asn [b] = false → s.blockReady d asn b true = true →
    s.blockView d asn b true = .medium x none →
    exec (.verify asn d [.good k]) s = .next (s.ends asn d fun p =>
      { p with status := St.success, result := BitVec.ofNat 64 (k % 16), data := [] }))

/-- R406, R357: a WRITE or ZONE APPEND whose data has come whole puts one version of each of its blocks into the write
cache under its ASN and a record behind those that wait; a block on its own is kept until the rest is there. R412: so
does COPY with what it read. R407: FLUSH ends where nothing it covers is dirty. R22, R23, R36: a dispatch brings a
part to its die; read data goes ahead of the part's completion. R390: once its only part has reached the anchor, the
verb's entry stands at the tail of its completion queue, with the part's status. -/
def Obligations.WritesCacheAndParts : Prop :=
  (∀ (s : State) (asn : Nat) (sl : Slot), s.slots.find? asn = some sl →
   let d := lbaDie sl.lba
   let x := s.die d
   let first := lbaBlock sl.lba
   let stored := fun (data : List Block) (t : State) =>
     (∀ i, i < data.length → ∃ v ∈ t.versions d (first + i), v.asn = asn ∧ v.data = data.getD i zeroBlock ∧
       v.dirty = !sl.writeThrough ∧ v.staging = sl.writeThrough) ∧
     (t.die d).data.jq = x.data.jq ++ [⟨asn, zoneRuns first data.length, [], []⟩] ∧
     (t.die d).data.media = x.data.media ∧ (t.die d).heads = x.heads ∧ ∀ e, e ≠ 0 → e ≠ d → t.die e = s.die e
   (∀ data : List Block, sl.op = 2 → sl.takes d = true → x.data.arriving.find? asn = none → data.length = sl.count →
     Runs (.write asn data) s fun t => stored data t ∧ t.host = s.host ∧ t.objs = s.objs) ∧
   (∀ data : List Block, sl.op = 3 → sl.takes d = true → x.data.arriving.find? asn = none → data.length = sl.count →
     Runs (.zoneAppend asn data) s fun t => stored data t ∧ t.host = s.host ∧ t.objs = s.objs) ∧
   (∀ i block, s.fitted d = true → sl.takes d = true → x.data.arriving.find? asn = none → 1 < sl.count → i < sl.count →
     Runs (.writeDataToOwner asn d i block) s fun t =>
       (t.arrivals d asn).find? i = some block ∧ (∀ k, k ≠ i → (t.arrivals d asn).find? k = none) ∧
       (t.die d).data.wc = x.data.wc ∧ (t.die d).data.jq = x.data.jq ∧ t.slots = s.slots) ∧
   (∀ p outs, sl.op = 8 → sl.parts = [p] → p.die = d → sl.ready d = true → sl.arrived d = false →
     (∀ l ∈ sl.sources, s.blockReady (lbaDie l) asn (lbaBlock l) false = true) →
     let r := s.readRun asn false (withOuts (sl.sources.map fun l => (lbaDie l, lbaBlock l)) outs) {}
     (r.2.bad = none → Runs (.copy asn outs) s fun t =>
       ∀ i, i < r.2.data.length → ∃ v ∈ t.versions d (first + i), v.asn = asn ∧
         v.data = r.2.data.reverse.getD i zeroBlock) ∧
     (∀ f, r.2.bad = some f → f.die = d →
       exec (.copy asn outs) s = .next (((r.1.readStages asn d r.2.media).copyUndo sl).partEnd asn d fun p =>
         { p with status := f.status, lba := some f.lba, head := f.head, step := f.step, chan := f.chan }))) ∧
   (∀ p, sl.op = 4 → sl.parts = [p] → sl.ready p.die = true → sl.traced = false →
     s.slots = ({} : KMap Slot).insert asn sl → s.flushDone p.die sl = true →
     let t := s.ends asn p.die fun p => { p with begun := true, status := St.success, result := 0, data := [] }
     (eVs sl.entry 0 1 % 2 = 0 → exec (.flushDevice asn) s = .next t) ∧
     (eVs sl.entry 0 1 % 2 = 1 → exec (.flushZone asn) s = .next t))) ∧
  (∀ (s : State) (asn : Nat) (d : DieId) (sl : Slot) (p : VPart),
   s.fitted d = true → s.slots.find? asn = some sl → sl.part? d = some p → sl.traced = false →
   (p.received = false → (s.die d).inService = true → Runs (.verbDispatch asn d) s fun t =>
     let u := s.modPart asn d fun p => { p with received := true }
     Gives [] d { s.die d with data := { (s.die d).data with dispatch := (s.die d).data.dispatch ++ [asn] } } u t) ∧
   (p.applied = true → p.delivered = false → p.dataSent = false → p.data ≠ [] → d.val ≠ 0 →
     exec (.readDataToAnchor asn d) s = .next { s.modPart asn d (fun p => { p with dataSent := true }) with
       out := .fabric d 0 0x12 (BitVec.ofNat 64 asn) :: s.out }) ∧
   (∀ q c, p.applied = true → p.delivered = false → (p.dataSent = true ∨ p.data = []) → sl.parts = [p] →
     sl.orphan = false → sl.decided = false → sl.waitsFor = none → s.sqs.find? sl.sq = some q →
     s.cqs.find? q.cq = some c → c.full = false → c.held = [] → Runs (.verbPartCompletion asn d) s fun t =>
       (∃ r, Out.cqe q.cq c.tail (cqeBits r q.head sl.sq p.status c.phase (eCid sl.entry)) ∈ t.out) ∧
       (p.data ≠ [] → Out.hostData asn p.data ∈ t.out) ∧
       (sl.takesSlot d = true → (t.die d).mirror.slots = (s.die d).mirror.slots + 1) ∧
       t.slots.find? asn = none))

/-- R275, R279: an action on one sequential zone takes its transition in the admission view; FINISH and RESET then
wait for their execution, a transition the zone does not have ends the verb and changes no zone. -/
def Obligations.ZoneActionsTransition : Prop := ∀ (s : State) (asn : Nat) (sl : Slot) (p : VPart),
  let d := lbaDie sl.lba
  let z := sl.zone
  let v := s.zone d z
  s.slots.find? asn = some sl → sl.op = 6 → sl.zall = false → sl.part? d = some p → p.begun = false →
  p.applied = false → s.isConv d z = false →
  let taken := fun (v' : Zone) => (s.putZone d z v').modPart asn d fun p => { p with begun := true, result := 1 }
  (sl.zact = 1 → v.astate = .empty ∨ v.astate = .implicitOpen ∨ v.astate = .closed →
    exec (.zoneOpen asn) s = .next ((taken { v with astate := .explicitOpen }).zoneSettle asn 1)) ∧
  (sl.zact = 2 → v.astate = .implicitOpen ∨ v.astate = .explicitOpen →
    exec (.zoneClose asn) s = .next ((taken (if v.awp = 0 then { v with astate := .empty }
      else { v with astate := .closed, short := true })).zoneSettle asn 2)) ∧
  (sl.zact = 5 → v.astate = .empty ∨ (v.astate = .explicitOpen ∧ v.awp = 0) →
    exec (.zoneSetAttributes asn) s = .next ((taken (v.modTop fun c => { c with
      attrSet := true, width := eVs sl.entry 1 1, huskKib := eVs sl.entry 2 1, keyDomain := eVs sl.entry 3 1
      capacity := eVs sl.entry 4 4 })).zoneSettle asn 5)) ∧
  (sl.zact = 3 → v.astate = .empty ∨ v.astate = .implicitOpen ∨ v.astate = .explicitOpen ∨ v.astate = .closed →
    exec (.zoneFinish asn) s = .next (taken { v with astate := .full, finishes := v.finishes ++ [sl.asn] })) ∧
  (sl.zact = 4 → v.astate = .implicitOpen ∨ v.astate = .explicitOpen ∨ v.astate = .closed ∨ v.astate = .full →
    exec (.zoneReset asn) s = .next (taken { v with
      astate := .empty, awp := 0, newer := v.newer ++ [{ resetCount := (v.top.resetCount + 1) % 2 ^ 32 }]
      resets := v.resets ++ [sl.asn] })) ∧
  (sl.zact = 3 → v.astate = .readOnly ∨ v.astate = .offline → Runs (.zoneFinish asn) s fun t =>
    t = s.reject asn St.zoneInvalidTransition
      { die := some d, lba := some sl.lba, detail := BitVec.ofNat 32 (s.zoneState d z).code }) ∧
  (sl.zact = 4 → v.astate = .readOnly ∨ v.astate = .offline → Runs (.zoneReset asn) s fun t =>
    t = s.reject asn St.zoneInvalidTransition
      { die := some d, lba := some sl.lba, detail := BitVec.ofNat 32 (s.zoneState d z).code })

/-- R275, R279, R281: once every earlier verb to the zone has completed, FINISH, RESET and OFFLINE change its
descriptor, and the part ends. The descriptor of an OPEN, CLOSE or SET_ATTRIBUTES is journalled once the earlier
writes are. -/
def Obligations.ZoneActionsExecute : Prop := ∀ (s : State) (asn : Nat) (sl : Slot) (p : VPart),
  let d := lbaDie sl.lba
  let z := sl.zone
  let v := s.zone d z
  let ended := fun (u : State) => u.ends asn d fun q => { q with status := St.success, result := p.result, data := [] }
  s.slots.find? asn = some sl → sl.op = 6 → sl.zall = false → sl.traced = false → sl.part? d = some p → p.begun = true →
  sl.ready d = true → s.isConv d z = false → (s.die d).data.zones.find? z = some v →
  s.earlierRecorded d z asn = true →
  (∀ act, act = 1 ∨ act = 2 ∨ act = 5 → sl.zact = act → v.resets = [] →
    s.zoneSettle asn act = ended (s.journal d asn [.zone z (v.settle act)])) ∧
  (s.earlierDone d z asn = true →
    (sl.zact = 3 → v.finishes.contains asn = true → ∃ u : State, exec (.zoneFinishExecute asn) s = .next (ended u) ∧
      u.slots = s.slots ∧ (u.zone d z).desc.state = .full ∧ (u.zone d z).desc.finishReason = 2 ∧
      (u.zone d z).finishes = v.finishes.filter (· != asn) ∧ (u.zone d z).desc.content.wp = v.desc.content.wp ∧
      (u.die d).data.media = (s.die d).data.media ∧ (u.die d).data.wc = (s.die d).data.wc) ∧
    (∀ c rest, sl.zact = 4 → v.resets.contains asn = true → v.newer = c :: rest →
      ∃ u : State, exec (.zoneResetExecute asn) s = .next (ended u) ∧
      u.slots = s.slots ∧ (u.zone d z).desc.state = .empty ∧ (u.zone d z).desc.content = c ∧ (u.zone d z).newer = rest ∧
      (u.zone d z).resets = v.resets.drop 1 ∧ (u.die d).data.media = (s.die d).data.media ∧
      ∀ b, zoneOf b = z → ∀ w ∈ u.versions d b, w.resetCount ≠ v.desc.content.resetCount) ∧
    (sl.zact = 6 → v.astate = .offline → v.desc.state ≠ .offline → ∃ u : State, exec (.zoneOffline asn) s = .next (ended u) ∧
      u.slots = s.slots ∧ (u.zone d z).desc.state = .offline ∧ (u.zone d z).desc.content.segs = [] ∧
      (u.die d).data.media = (s.die d).data.media))

/-- R410: ZONE REPORT returns the entries of the zones that match, as many as the buffer holds. R415, R416: IDENTIFY.
R418, R562, R567: GET LOG gives a slice of the page, or INVALID_FIELD past its end. -/
def Obligations.ReportsAndPages : Prop := ∀ (s : State) (asn : Nat) (sl : Slot),
  s.slots.find? asn = some sl → sl.traced = false →
  let gives := fun (d : DieId) (n : Nat) (bs : List Byte) => Host.Outcome.next (s.ends asn d fun p =>
    { p with status := St.success, result := BitVec.ofNat 64 n, data := bs })
  let refused := fun (d : DieId) => Host.Outcome.next (s.ends asn d fun p => { p with status := St.invalidField, lba := none })
  let page := fun (c : Instr) (d : DieId) (bs : List Byte) =>
    exec c s = if bs.length ≤ eVs sl.entry 4 4 then refused d else gives d 0 (sliceBytes bs (eVs sl.entry 4 4) (eVs sl.entry 8 4))
  (∀ p, sl.op = 7 → sl.part? (lbaDie sl.lba) = some p → p.begun = false → sl.ready (lbaDie sl.lba) = true →
    let r := s.zoneReport (lbaDie sl.lba) sl.zone (eVs sl.entry 0 1) (eVs sl.entry 4 4)
    exec (.zoneReport asn) s = .next (s.ends asn (lbaDie sl.lba) fun p =>
      { p with begun := true, status := St.success, result := BitVec.ofNat 64 r.2, data := r.1 })) ∧
  (sl.op = 0x40 → sl.ready 0 = true → eVs sl.entry 0 1 = 0 →
    exec (.identifyDevice asn) s = gives 0 0 s.identifyDevice ∧ s.identifyDevice.length = 4096) ∧
  (sl.op = 0x40 → sl.ready 0 = true → eVs sl.entry 0 1 = 1 →
    exec (.identifyDie asn) s =
      if s.part.dies ≤ eVs sl.entry 1 1 then refused 0 else gives 0 0 (s.identifyDie (Fin.ofNat 8 (eVs sl.entry 1 1)))) ∧
  (sl.op = 0x41 → eVs sl.entry 0 1 = 1 → sl.ready 0 = true → page (.getLogError asn) 0 s.errPage) ∧
  (sl.op = 0x41 → eVs sl.entry 0 1 = 2 → sl.ready sl.logDie = true →
    page (.getLogEvent asn) sl.logDie (s.eventPage sl.logDie)) ∧
  (sl.op = 0x41 → eVs sl.entry 0 1 = 3 → sl.ready sl.logDie = true →
    page (.getLogTrace asn) sl.logDie (s.tracePage sl.logDie))

/-- R324 to R326: KEY LOAD answers its checks in their order; a good blob keys the domain. Its domain then has a new
nonce. R328, R329, R425: SANITIZE marks its domains, and the erase of a KEYED one destroys the key. -/
def Obligations.KeyDomains : Prop := ∀ (s : State) (asn : Nat) (sl : Slot) (p : VPart),
  s.slots.find? asn = some sl → sl.traced = false →
  let d := p.die
  let x := s.die d
  (∀ blob, sl.op = 0x4B → sl.parts = [p] → sl.ready d = true →
    let k := ofLeBytes (sliceBytes blob 2 1)
    let v := s.keyDom d k
    let failed := fun (st : BitVec 16) => ∃ u : State, exec (.keyLoad asn blob) s =
        .next (u.ends asn d fun q => { q with status := st, lba := none }) ∧
      u.slots = s.slots ∧ (u.die d).data.zones = x.data.zones ∧
      (u.keyDom d k).state = v.state ∧ (u.keyDom d k).key = v.key ∧ (u.keyDom d k).keyId = v.keyId
    (blobOk blob = false → failed St.invalidField) ∧
    (blobOk blob = true → sliceBytes blob 8 16 ≠ s.nonceOf d k → failed St.keyNonceStale) ∧
    (blobOk blob = true → sliceBytes blob 8 16 = s.nonceOf d k → v.state = .keyed → failed St.keyAlreadyLoaded) ∧
    (blobOk blob = true → sliceBytes blob 8 16 = s.nonceOf d k → v.state = .erasePending → failed St.keyDomainInUse) ∧
    (blobOk blob = true → sliceBytes blob 8 16 = s.nonceOf d k → v.state = .unkeyed ∨ v.state = .erased →
      (s.domainZones d k).any (s.zoneHolds d) = true → failed St.keyDomainInUse) ∧
    (blobOk blob = true → sliceBytes blob 8 16 = s.nonceOf d k → v.state = .unkeyed ∨ v.state = .erased →
      (s.domainZones d k).any (s.zoneHolds d) = false → unwrapBlob d (s.nonceOf d k) blob = none →
        failed St.keyUnwrapFailed) ∧
    (∀ key, blobOk blob = true → sliceBytes blob 8 16 = s.nonceOf d k → v.state = .unkeyed ∨ v.state = .erased →
      (s.domainZones d k).any (s.zoneHolds d) = false → unwrapBlob d (s.nonceOf d k) blob = some key →
      ∃ u : State, exec (.keyLoad asn blob) s =
          .next (u.ends asn d fun q => { q with status := St.success, result := 0, data := [] }) ∧
        u.slots = s.slots ∧ (u.keyDom d k).state = .keyed ∧ (u.keyDom d k).key = key ∧
        (u.keyDom d k).keyId = BitVec.ofNat 32 (ofLeBytes (sliceBytes blob 4 4)) ∧ (u.die d).data.keyLoaded = true ∧
        (u.keyDom d k).nonce = nonceBytes (Config.random (s.fresh + 1) (d.val * 64 + k)) ∧
        ∀ j, j ≠ k → u.keyDom d j = s.keyDom d j)) ∧
  (sl.op = 0x4A → sl.parts = [p] → p.begun = false → p.applied = false →
    let ks := sl.domains.filter fun k => (s.keyDom d k).state != .erased
    ks ≠ [] → exec (.sanitize asn) s = .next ((s.setDie d { x with data := { x.data with
      erasing := x.data.erasing ++ ks.map fun k => (k, asn) } }).modPart asn d fun q => { q with begun := true })) ∧
  (∀ (k : Fin 64) a, s.fitted d = true → x.data.erasing.find? (fun e => e.1 == k.val) = some (k.val, a) →
    (∀ z ∈ s.domainZones d k.val, s.earlierDone d z a = true ∧ s.earlierRecorded d z a = true) →
    (s.keyDom d k.val).state = .keyed → ∃ u : State, exec (.cryptoErase d k) s = .next (u.sanitizeEnd a d) ∧
      (u.keyDom d k.val).state = .erased ∧ (u.keyDom d k.val).key = [] ∧ (u.keyDom d k.val).keyId = 0 ∧
      (u.die d).data.erasing = x.data.erasing.filter (fun e => !(e.1 == k.val && e.2 == a)) ∧
      (u.die d).data.keyErased = true) ∧
  (∀ k : Fin 64, s.fitted d = true → x.data.erasing.find? (fun e => e.1 == k.val) = none →
    (s.keyDom d k.val).state = .erasePending → Runs (.cryptoErase d k) s fun t =>
      (t.keyDom d k.val).state = .erased ∧ (t.keyDom d k.val).key = [] ∧ (t.die d).data.keyErased = true)

/-- R331: a write with a zone whose domain is ERASED among those it writes, all earlier checks being met, completes at
its admission with KEY_NOT_LOADED and has no part. -/
def Obligations.ErasedDomainRefusesWrites : Prop := ∀ (s : State) (q : Nat) (x : Sq) (entry : BitVec 512)
  (lists : List DescList) (src : List (BitVec 128)),
  s.fetches q = true → s.offer = none → s.sqs.find? q = some x → x.drawFailed = none →
  let c := s.slots.keys.foldl (fun (u : State) a => u.sanitizeTake a) s.zonesCatchUp
  let at_ := if x.headWaiting then x.attemptTime else c.now
  let u := { c with offer := none, sqs := c.sqs.insert q { x with attemptTime := at_, drawWait := none } }
  let sl : Slot := { asn := u.asn, sq := q, entry, lists, src, parts := [], lba := eLba entry, attemptTime := at_ }
  u.slots.size < 65536 → opKnown q sl.op = true → writeOp sl.op = true →
  (reservedOk entry && commonOk entry && ioRange entry && u.adminRange entry && u.lbasFit entry) = true →
  (sl.op = 8 → u.sourcesOk entry src = true) → walkDescs entry lists = none → u.check5 sl = none → u.check6 sl = none →
  u.check7 sl = none → u.check8 sl = none →
  (∃ e ∈ sl.dests, u.judged e.1 = true ∧
    (u.keyDom e.1 (u.attrs e.1 (u.zone e.1 e.2.1).top).keyDomain).state = .erased) →
  ∃ e ∈ sl.dests, exec (.admitVerb q entry lists src) s = .next
    ((u.takeEntry { sl with fixed := some St.keyNotLoaded, parts := [] }).reject u.asn St.keyNotLoaded
      { die := some e.1, lba := some (dieLba e.1 (e.2.1 * zoneSpan + e.2.2)), detail := 0 })

/-- R500, R501, R563: an occurrence is logged by the die that raises it; on die 0 it sets EVT_PENDING and counts at
once, on a member die it waits to be forwarded. R501, R502: a route entry is stored with its reserved bits 0; the
message of a source goes when its coalescing time is over. R553: a window's end latches every monitor and starts them
at zero. R554: a snapshot's tick lies at least 4,096 ns ahead and behind every tick chosen before, every member die is
told. R555, R556: a die latches at the tick, or on arrival when that has passed, marked LATE; the window is written
when every block is there. -/
def Obligations.EventsAndSnapshots : Prop :=
  (∀ (s : State),
   (∀ (d : DieId) (k : EventKind) (data : List (Nat × Int)), s.isolated d = false → k.src ≠ 119 →
     (∀ c ∈ (s.die d).obs.cnts, c.event.toNat ≠ 256 + k.src) →
     let t := s.raise d k data
     let n := 128 * d.val + k.src
     Logged d k.src k s t ∧ Reported [] d s t ∧
     (d.val = 0 → t.evtPending.getD n false = true ∧ t.evtCount.getD n 0 = min 4294967295 (s.evtCount.getD n 0 + 1)) ∧
     (d.val ≠ 0 → (t.die d).obs.evtOut = (s.die d).obs.evtOut ++ [n] ∧ t.evtPending = s.evtPending ∧ t.out = s.out)) ∧
   (∀ (n : Nat) (v : BitVec 64), s.shut = false → n < 1024 → s.fitted (sourceDie n) = true →
     Runs (.evtRouteWrite n none v) s fun t =>
       t.evtRoute.getD n 0 = routeStore v ∧ (∀ m, m ≠ n → t.evtRoute.getD m 0 = s.evtRoute.getD m 0) ∧
       (routeStore v ≠ s.evtRoute.getD n 0 → t.coal.find? n = none) ∧ t.dies = s.dies ∧ t.evtPending = s.evtPending) ∧
   (∀ (n : Nat) (v : BitVec 64), s.shut = false → n < 1024 → s.fitted (sourceDie n) = true →
     Runs (.evtRouteWrite n (some true) v) s fun t =>
       t.evtRoute.getD n 0 = routeStore (BitVec.ofNat 64 ((s.evtRoute.getD n 0).toNat % 2 ^ 32 + 2 ^ 32 * (v.toNat % 2 ^ 32)))) ∧
   (∀ (n : Nat) (v : BitVec 64), s.shut = false → n < 1024 → s.fitted (sourceDie n) = true →
     Runs (.evtRouteWrite n (some false) v) s fun t =>
       t.evtRoute.getD n 0 = routeStore (BitVec.ofNat 64 ((s.evtRoute.getD n 0).toNat / 2 ^ 32 * 2 ^ 32 + v.toNat % 2 ^ 32))) ∧
   (∀ n, s.coal.contains n = true → Runs (.eventCoalesceTimeout n) s fun t =>
     t.coal.find? n = none ∧ t.dies = s.dies ∧ t.evtRoute = s.evtRoute ∧
     (routeTarget (s.evtRoute.getD n 0) = 1 → (s.msix.getD (routeVector (s.evtRoute.getD n 0)) {}).masked = false →
       let e := s.msix.getD (routeVector (s.evtRoute.getD n 0)) {}
       t.out = .msix (routeVector (s.evtRoute.getD n 0)) e.addr e.data :: s.out) ∧
     (routeTarget (s.evtRoute.getD n 0) = 2 → n ∈ t.alerts)) ∧
   (∀ (d : DieId) n rest, s.fitted d = true → d.val ≠ 0 → (s.die d).obs.evtOut = n :: rest →
     Runs (.eventForward d) s fun t =>
       t.die d = { s.die d with obs := { (s.die d).obs with evtOut := rest } } ∧ (∀ e, e ≠ d → t.die e = s.die e) ∧
       t.evtPending.getD n false = true ∧ t.evtCount.getD n 0 = min 4294967295 (s.evtCount.getD n 0 + 1) ∧
       Out.fabric d 0 0x24 (BitVec.ofNat 64 n) ∈ t.out ∧ t.objs = s.objs)) ∧
  (∀ (s : State),
   let tick := s.snapTick
   let told := fun (t : State) => ∀ e, s.fitted e = true → e.val ≠ 0 → s.isolated e = false →
     Out.fabric 0 e 0x23 (BitVec.ofNat 64 tick) ∈ t.out
   (∀ d, s.fitted d = true → (s.die d).obs.frozen = false → Runs (.bwWindowEnd d) s fun t =>
     let o := (s.die d).obs
     let now := s.timeNs d
     (t.die d).obs.mons = o.mons.map (fun m => ({
       bytes := 0, lastBytes := m.bytes, duration := now - o.bwStart, endTime := now
       flags := if s.get Obj.bwWindowUnit (dieInst d) = 0 ∧ o.bwCoast = true then 1 else 0 } : Monitor)) ∧
     (t.die d).obs.bwStart = now ∧ t = s.setDie d { s.die d with obs := (t.die d).obs }) ∧
   (s.now + 4096 ≤ tick ∧ (s.snapReqs = [] → 1024 ∣ tick) ∧ ∀ r ∈ s.snapReqs, r.1 < tick) ∧
   (∀ asn sl c a, (c, a) ∈ [(Instr.snapshotCountersSnapshot asn, 0), (.snapshotCountersFreeze asn, 1),
       (.snapshotCountersRelease asn, 2)] →
     s.slots.find? asn = some sl → sl.op = 0x4C → eVs sl.entry 0 1 = a → sl.ready 0 = true → sl.snapT = none →
     Runs c s fun t =>
       t.snapReqs = s.snapReqs ++ [(tick, BitVec.ofNat 8 a, some asn)] ∧ told t ∧
       (t.die 0).obs.snaps = (s.die 0).obs.snaps ++ [(tick, BitVec.ofNat 8 a, false)] ∧
       t.slots.find? asn = some { sl with snapT := some tick } ∧ ∀ e, e ≠ 0 → t.die e = s.die e) ∧
   (∀ c a, (c, a) ∈ [(Instr.snapshotCommandSnapshot, (0 : BitVec 8)), (.snapshotCommandFreeze, 1), (.snapshotCommandRelease, 2)] →
     ((s.snapReqs.any fun r => r.2.2.isNone) = true → exec c s = .next s) ∧
     ((s.snapReqs.any fun r => r.2.2.isNone) = false → Runs c s fun t =>
       t.snapReqs = s.snapReqs ++ [(tick, a, none)] ∧ told t ∧ t.get Obj.snapshotResult 0 = 1 ∧
       (t.die 0).obs.snaps = (s.die 0).obs.snaps ++ [(tick, a, false)] ∧ t.slots = s.slots ∧
       ∀ e, e ≠ 0 → t.die e = s.die e)) ∧
   (∀ (d : DieId) (n : BitVec 64) (a : BitVec 8), s.fitted d = true → d.val ≠ 0 → s.isolated d = false →
     s.snapTaken d n.toNat = false → (s.snapReqs.any fun r => r.1 == n.toNat && r.2.1 == a) = true →
     let x := s.die d
     (s.timeNs d ≤ n.toNat → exec (.counterSnapshotMessage d n a) s =
       .next (s.setDie d { x with obs := { x.obs with snaps := x.obs.snaps ++ [(n.toNat, a, false)] } })) ∧
     (n.toNat < s.timeNs d → a ≠ 2 → Runs (.counterSnapshotMessage d n a) s fun t =>
       ∃ b, t = s.setDie d { x with obs := { x.obs with
           frozen := x.obs.frozen || a == 1, blocks := x.obs.blocks ++ [(n.toNat, some b)] } } ∧
         b.flags.getLsbD 2 = true ∧ b.cnts = x.obs.cnts ∧ b.mons = x.obs.mons)) ∧
   (∀ (d : DieId) n a late rest, s.fitted d = true → d.val ≠ 0 → (s.die d).obs.snaps = (n, a, late) :: rest → n ≤ s.timeNs d →
     Runs (.snapshotLatch d) s fun t =>
       (t.die d).obs.snaps = rest ∧ (t.die d).obs.frozen = (a == 1 || (a != 2 && (s.die d).obs.frozen)) ∧
       (a ≠ 2 → ∃ b, (t.die d).obs.blocks = (s.die d).obs.blocks ++ [(n, some b)] ∧ b.cnts = (s.die d).obs.cnts ∧
         b.mons = (s.die d).obs.mons ∧ b.time = s.timeNs d) ∧
       (a = 2 → (t.die d).obs.blocks = (s.die d).obs.blocks ++ [(n, none)])) ∧
   (∀ (d : DieId) n b a rest, s.fitted d = true → s.isolated d = false → (s.die d).obs.blocks = (n, some b) :: rest →
     s.snapReqs = [(n, a, none)] → a ≠ 2 → (∀ e, e ≠ d → s.fitted e = true → s.snapHave n e = true) →
     Runs (.snapshotBlockReceive d) s fun t =>
       (t.die d).obs.blocks = rest ∧ t.snapReqs = [] ∧ t.snapSeq = s.snapSeq + 1 ∧ t.snapT = n ∧ t.snapAction = a ∧
       t.snapBlocks.find? d.val = some b ∧ (∀ e, s.isolated e = true → s.fitted e = true →
         t.snapBlocks.find? e.val = some isolatedBlock) ∧ t.get Obj.snapshotResult 0 = 0))

/-- R361, R362: a die that first learns of a power failure parks every write gate, drops every permit, ends what runs
and tells the anchor, or the anchor every member; nothing on the media or in the write cache changes. A second sign
changes nothing. R362, R363, R365: once the drain time is over the dirty set is frozen and saved; the save ends SAVED
with the acorn of the journal and the data when the trailer was written above HOLDUP_VMIN_MV, else SAVE_FAIL. A
consumed area is erased. -/
def Obligations.PowerFailAndSave : Prop :=
  (∀ (s : State) (d : DieId) (c : Instr),
   c = .pfailNAssert d ∨ c = .holdupPfailTrip d ∨ c = .powerFailNotice d → s.fitted d = true →
   let x := s.die d
   (x.data.pfail.isSome = true ∨ s.isolated d = true → exec c s = .next s) ∧
   (x.data.pfail = none → s.isolated d = false → Runs c s fun t =>
     let y := t.die d
     y.data = { x.data with pfail := some (x.clock.time4, s.snsNow d), pfailSeen := true, vEnd := y.data.vEnd } ∧
     (∀ h, (y.head h).permit = false ∧ (y.head h).lines = .park) ∧ y.holdupTest = false ∧
     (∀ a, (y.act a).seekPending = false) ∧
     (x.spin.state ≠ .stopped → y.spin.state = .retractBrake ∧ y.spin.startPending = false ∧ y.spin.gates = .floated) ∧
     (∀ a, (x.act a).state = .tracking → (y.act a).state ≠ .tracking) ∧
     y.mem = x.mem ∧ t.slots = s.slots ∧ t.sqs = s.sqs ∧ (∀ e, e ≠ d → t.die e = s.die e) ∧
     (d.val ≠ 0 → c ≠ .powerFailNotice d → Out.fabric d 0 0x22 0 ∈ t.out) ∧
     (d.val = 0 → ∀ e, s.fitted e = true → e.val ≠ 0 → Out.fabric 0 e 0x22 0 ∈ t.out))) ∧
  (∀ (s : State) (d : DieId), s.fitted d = true →
   let x := s.die d
   (∀ p, x.data.pfail = some p → x.data.frozen = false → acornReady x.data = true →
     p.1 + s.getN Obj.dmaDrainUs 0 * 4000 ≤ x.clock.time4 → Runs (.dmaDrainEnd d) s fun t =>
       ∃ a : Acorn, Gives [Obj.acornSaveCount] d { x with data := { x.data with
           arriving := {}, frozen := true, acornState := .saving, saveSeq := x.data.saveSeq + 1, saving := some a } } s t ∧
         a.saveSeq = x.data.saveSeq + 1 ∧ a.time = s.timeNs d ∧ a.blocks = s.saveBlocks d ∧ a.journal = x.data.ring ∧
         a.headJseq = x.data.head ∧ a.tailJseq = x.data.tail) ∧
   (∀ p, x.data.pfail = some p → x.data.frozen = false → acornReady x.data = false →
     p.1 + s.getN Obj.dmaDrainUs 0 * 4000 ≤ x.clock.time4 → Runs (.dmaDrainEnd d) s fun t =>
       (t.die d).data.acornState = .saveFail ∧ (t.die d).data.saving = none ∧ (t.die d).data.frozen = true ∧
       (t.die d).data.wc = x.data.wc ∧ (t.die d).data.acorn = x.data.acorn ∧ ∀ e, e ≠ d → t.die e = s.die e) ∧
   (∀ a us mv, x.data.saving = some a → s.getN Obj.holdupVminMv (dieInst d) ≤ mv.toNat →
     Runs (.acornSaved d us mv) s fun t =>
       (t.die d).data = { setArea x.data .saved with acornState := .saved, saving := none, acorn := some a } ∧
       Logged d Ev.acornSaved.src Ev.acornSaved s t ∧ (∀ e, e ≠ d → t.die e = s.die e)) ∧
   (∀ a low, x.data.saving = some a → Runs (.acornSaveFail d low) s fun t =>
     t.dies = (s.setDie d { x with data := { x.data with acornState := .saveFail, saving := none } }).dies ∧
     t.objs = s.objs ∧ t.out = s.out ∧ t.slots = s.slots) ∧
   (∀ c0, x.data.area0 = c0 → Runs (.acornAreaErase d) s fun t => t = s.setDie d { x with data := { x.data with
     area0 := if c0 = .consumed then .erased else c0
     area1 := if c0 ≠ .consumed ∧ x.data.area1 = .consumed then .erased else x.data.area1 } }))

/-- R573 to R575, R581, R582: the steps of a boot. A step whose condition fails isolates the die; a die without a
format is UNFORMATTED, one that comes back alone reconciles, any other is active; READY when every die is done or
READY_TIMEOUT has passed. -/
def Obligations.BootSteps : Prop := ∀ (s : State) (d : DieId), s.fitted d = true →
  let x := s.die d
  let booted := fun (t : State) => t.host.bootReady = true ∧
    (s.host.enable = true → s.host.adminReady = true → t.host.ready = true)
  (∀ r, x.mem.filling.filter (· != r) ≠ [] → exec (.memoryFillDone d r) s =
    .next (s.setDie d { x with mem := { x.mem with filling := x.mem.filling.filter (· != r) } })) ∧
  (∀ r, x.mem.filling.filter (· != r) = [] → x.imaged = true → x.recordsRead = false → s.isolated d = false →
    Runs (.memoryFillDone d r) s fun t => (t.die d).recordsRead = true ∧ (t.die d).mem.filling = [] ∧
      (d.val = 0 → s.host.enable = true → s.host.sizesOk = true → s.host.adminReady = false → s.host.fatal = false →
        t.host.adminReady = true ∧ t.sqs.find? 0 = some
          { size := s.host.asqSize.toNat, base := s.host.asqBase, cq := 0, frozenModel := false })) ∧
  (x.recordsRead = true → x.bootLoaded = false → s.isolated d = false →
    (x.identFail = true → Runs (.bootHeadLoad d) s fun t => (t.die d).life = .isolated) ∧
    (x.identFail = false → x.tablesBad = true →
      exec (.bootHeadLoad d) s = .next (s.setDie d { x with bootLoaded := true })) ∧
    (x.identFail = false → x.tablesBad = false → x.spin.state = .atSpeed → Runs (.bootHeadLoad d) s fun t =>
      (t.die d).bootLoaded = true ∧ (t.die d).data = x.data ∧ ∀ e, e ≠ d → t.die e = s.die e) ∧
    (x.identFail = false → x.tablesBad = false → x.spin.state ≠ .atSpeed → exec (.bootHeadLoad d) s = .next s)) ∧
  (x.life = .starting → x.bootLoaded = true → x.replayDone = false → x.tablesBad = false → x.headsUp = true →
    (Runs (.bootMediaReplay d false) s fun t => (t.die d).life = .isolated) ∧
    ((s.rebuild d).2 = true → Runs (.bootMediaReplay d true) s fun t =>
      (t.die d).replayDone = true ∧ (t.die d).life = .starting ∧ t.slots = s.slots) ∧
    ((s.rebuild d).2 = false → Runs (.bootMediaReplay d true) s fun t => (t.die d).life = .isolated)) ∧
  (x.life = .starting → x.recordsRead = true → x.bootDone = false → x.bootLoaded = true → x.target = .active →
    x.replayDone = true ∨ x.tablesBad = true → Runs (.bootStalenessCheck d) s fun t =>
      (t.die d).bootDone = true ∧ (t.die d).data.media = x.data.media ∧
      (t.die d).life = (if x.data.formatted = false ∨ x.tablesBad = true then .unformatted
        else if x.rejoining = true then .reconciling else .active)) ∧
  (x.life = .reconciling →
    (∀ m, Runs (.reconciliation d true m) s fun t =>
      (t.die d).life = .active ∧ (t.die d).reconciled = true ∧ (t.die d).cause = 0 ∧ (t.die d).data.media = x.data.media) ∧
    (Runs (.reconciliation d false false) s fun t => (t.die d).life = .isolated) ∧
    (Runs (.reconciliation d false true) s fun t => (t.die d).life = .active ∧ (t.die d).data.media = x.data.media)) ∧
  ((s.die 0).recordsRead = true → s.host.fatal = false → s.host.bootReady = false →
    (s.allBooted = true → Runs .bootReady s booted) ∧ Runs .readyTimeout s fun t => t.host.bootReady = true) ∧
  (x.life = .starting → Runs (.dieStartLimit d) s fun t => (t.die d).life = .isolated)

/-- R570 to R572, R580, R583, R599, R600: what resets leave. The medium, the log and the checkpoint of every die
outlast them all, what DRAM held does not outlast a cold or warm reset; isolation and the return of power. R576, R577:
the power target. -/
def Obligations.ResetsAndPower : Prop := ∀ (s : State),
  let anew := fun (u : State) => u.slots = {} ∧ u.sqs = {} ∧ u.cqs = {} ∧ u.evtPending = {} ∧ u.errors = [] ∧
    u.host.ready = false ∧ u.host.adminReady = false ∧ u.host.bootReady = false
  let lives := fun (u : State) (d : DieId) => (u.die d).data.media = (s.die d).data.media ∧
    (u.die d).data.log = (s.die d).data.log ∧ (u.die d).data.checkpoint = (s.die d).data.checkpoint ∧
    (u.die d).data.acorn = (s.die d).data.acorn ∧ (u.die d).data.wc = {} ∧ (u.die d).life = .starting
  (∀ sa boot : BitVec 2, ∃ u : State, exec (.porstNRise sa boot) s = .next (if boot = 0 then u.bootRom
      else if boot = 1 then u else { u with host := { u.host with fatal := true } }) ∧
    anew u ∧ u.asn = 0 ∧ u.host = { strapSa := sa, strapBoot := boot } ∧ u.msix = {} ∧
    ∀ d, s.fitted d = true → lives u d ∧ (u.die d).clock.time4 = 0) ∧
  (Runs .porstNAssert s fun u => anew u ∧ u.asn = 0 ∧ u.host = { inReset := true } ∧
    ∀ d, s.fitted d = true → lives u d ∧ (u.die d).clock.time4 = 0) ∧
  (s.fitted 0 = true → exec (.supplyMonitorReset 0) s = exec (.porstNRise s.host.strapSa s.host.strapBoot) s) ∧
  (∀ d, s.fitted d = true → d.val ≠ 0 → Runs (.supplyMonitorReset d) s fun t =>
    lives t d ∧ ∀ e, e ≠ 0 → e ≠ d → t.die e = s.die e) ∧
  (∀ d, s.fitted d = true → (s.die d).data.saving = none → (s.die d).data.pfail = none →
    Runs (.dieResetRejoin d) s fun t =>
      t.reply = { status := St.success } ∧ (t.die d).data.media = (s.die d).data.media ∧ (t.die d).life = .starting ∧
      (t.die d).rejoining = s.isolated d ∧ t.get Obj.dieResetResult (dieInst d) = 1) ∧
  (∀ d, s.fitted d = true → (s.die d).data.saving.isSome = true ∨ (s.die d).data.pfail.isSome = true →
    exec (.dieResetRejoin d) s = .next (((s.put Obj.dieResetResult (dieInst d) 1).setDie d
      { s.die d with rejoining := true }).answer St.success)) ∧
  (∀ d, s.fitted d = true → Runs (.dieResetIsolate d) s fun t =>
    (t.die d).life = .isolated ∧ t.reply = { status := St.success }) ∧
  (s.warm = none → Runs .packageReset s fun t =>
    t.warm = some (s.fittedDies.filter fun d => !(s.isolated d)) ∧ t.reply = { status := St.success } ∧ t.dies = s.dies ∧
    (∀ c ∈ t.cqs.entries, c.2.held = []) ∧ ∀ a ∈ t.slots.entries, a.2.orphan = true ∧ a.2.decided = false) ∧
  (∀ ds, s.warm = some ds → (∀ d ∈ ds, s.destaged d = true) → ∃ u : State,
    exec .packageWarmReset s = .next u.bootRom ∧ anew u ∧ u.warm = none ∧ u.asn = s.asn) ∧
  (∀ d ds, s.fitted d = true → s.warm = some ds → d ∈ ds → s.destaged d = false → (s.die d).data.frozen = false →
    exec (.warmResetDestageLimit d) s = .next (s.beginSave d)) ∧
  ((s.fittedDies.any fun d => (s.die d).data.pfail.isSome && !(s.isolated d)) = true →
    (∀ d, s.fitted d = true → s.isolated d = false → (s.die d).data.pfail.isSome = true →
      (s.die d).data.frozen = true ∧ (s.die d).data.saving = none) → ∃ u : State,
    exec .powerReturn s = .next u.bootRom ∧ anew u ∧ u.asn = s.asn ∧
      ∀ d, s.fitted d = true → s.isolated d = false → lives u d) ∧
  (∀ (d : DieId) (v : BitVec 8), s.fitted d = true →
    (s.isolated d = true → exec (.hdaPowerTargetWrite d v) s = .next (s.answer St.dieIsolated)) ∧
    (s.isolated d = false → 4 < v.toNat ∨ (v = 4 ∧ d.val = 0) →
      exec (.hdaPowerTargetWrite d v) s = .next (s.answer St.valueInvalid)) ∧
    (s.isolated d = false → v.toNat ≤ 4 → ¬(v = 4 ∧ d.val = 0) → Runs (.hdaPowerTargetWrite d v) s fun t =>
      (t.die d).target = powerOfCode v.toNat ∧ t.reply = { status := St.success } ∧
      (t.die d).data.media = (s.die d).data.media))

/-- R462 to R468: a scrubber advances by its quota, modulo its words; an uncorrectable word it meets is reported; the
buckets leak; a halted channel's block leaves the caches unless it is dirty. -/
def Obligations.ScrubAndHaltedDma : Prop := ∀ (s : State) (d : DieId), s.fitted d = true →
  let x := s.die d
  let i := dieInst d
  (Runs (.ceLeakTick d) s fun t => t.dies = s.dies ∧ t.out = s.out ∧
    ∀ r, r < 10 → t.getSub Obj.ceBucket r i = max 0 (s.getSub Obj.ceBucket r i - 1)) ∧
  (∀ onchip, s.getN Obj.scrubDramWords i = 0 → 0 < s.getN Obj.scrubOnchipWords i → 0 < rangeWords (scrubOnchip x.mem) →
    Runs (.scrubTick d onchip [] []) s fun t =>
      let n := s.getN Obj.scrubOnchipWords i
      (t.die d).mem.onchipPos = (x.mem.onchipPos + n) % rangeWords (scrubOnchip x.mem) ∧
      (t.die d).mem.dramPos = x.mem.dramPos ∧
      ((∃ w ∈ onchip.take n, w.outcome = .uncorrectable) → (t.die d).mem.ueScrub = true) ∧
      (t.die d).data = x.data ∧ ∀ e, e ≠ d → t.die e = s.die e) ∧
  (∀ onchip dram w, s.getN Obj.scrubDramWords i = 0 → s.getN Obj.scrubOnchipWords i = 0 → w.outcome = .corrected →
    Runs (.scrubTick d onchip dram [w]) s fun t =>
      (x.mem.corrQ.length < 16 → (t.die d).mem.corrQ = x.mem.corrQ ++ [(w.region.val, w.addr)]) ∧
      (16 ≤ x.mem.corrQ.length → (t.die d).mem.corrQ = x.mem.corrQ) ∧ (t.die d).data = x.data) ∧
  (∀ w b, Runs (.dmaUncorrectable d w (.cleanBlock b)) s fun t =>
    (t.die d).data.rc.find? b = none ∧ (∀ c, c ≠ b → (t.die d).data.rc.find? c = x.data.rc.find? c) ∧
    t.versions d b = (s.versions d b).filter (fun v => v.dirty || v.staging) ∧ (t.die d).data.media = x.data.media ∧
    (t.die d).mem.ueDma = true ∧ Logged d Ev.memUeDma.src Ev.memUeDma s t ∧ ∀ e, e ≠ d → t.die e = s.die e)

/-- R472 to R478, R480: the map cache. A hit touches its set; a written entry with a good CRC is in its line, dirty
since the record's JSEQ; a miss brings the line from DRAM; at most two ways of a set are locked. -/
def Obligations.MapCacheRequests : Prop := ∀ (s : State) (d : DieId) (off : Nat), s.fitted d = true →
  let x := s.die d
  let m := x.mem
  let i := lineSet off
  let mem := fun (v : MemState) => s.setDie d { x with mem := v }
  (∀ (v : BitVec 128) chk, cacheable off = false → exec (.mapCacheRequest d off (some v) chk) s = .next (mem (m.putArea (off / 16) v))) ∧
  (∀ (v : BitVec 128) chk, cacheable off = true → entryCrc (v.setWidth 112) ≠ (v >>> 112).toNat →
    exec (.mapCacheRequest d off (some v) chk) s = .next (s.corrected d 8 (BitVec.ofNat 64 off))) ∧
  (∀ w, cacheable off = true → m.look off = some w → Runs (.mapCacheRequest d off none .good) s fun t =>
    Gives [Obj.mapHits] d { x with mem := m.touch off } s t ∧ (t.die d).mem.look off = some w) ∧
  (∀ w (v : BitVec 128), cacheable off = true → m.look off = some w → entryCrc (v.setWidth 112) = (v >>> 112).toNat →
    Runs (.mapCacheRequest d off (some v) .good) s fun t =>
      let y := ((t.die d).mem.set i).way w
      y.entries = ((m.set i).way w).entries.set (off / 16 % 4) v ∧ y.dirty = true ∧ y.valid = true ∧ y.tag = lineTag off ∧
      y.dirtyJseq = (if ((m.set i).way w).dirty then ((m.set i).way w).dirtyJseq else BitVec.ofNat 32 x.data.tail) ∧
      (t.die d).mem.area = m.area ∧ (t.die d).data = x.data ∧ ∀ e, e ≠ d → t.die e = s.die e) ∧
  (∀ m', cacheable off = true → m.look off = none → m.lookEvict off = none → m.lookSide off = none → inPool off = false →
    m.install off (m.fromDram off) = some m' → Runs (.mapCacheRequest d off none .good) s fun t =>
      Gives [Obj.mapMisses] d { x with mem := m' } s t) ∧
  (cacheable off = true → m.look off = none → m.lookEvict off = none → m.lookSide off = none →
    m.install off (m.fromDram off) = none → exec (.mapCacheRequest d off none .good) s = .next s) ∧
  (cacheable off = true → m.look off = none → m.lookEvict off = none → m.lookSide off = none →
    exec (.mapPrefetch d off) s = .next (mem { m with
      side := (if 32 ≤ m.side.length then m.side.drop 1 else m.side) ++ [{ off := off / 64 * 64, entries := m.fromDram off }] })) ∧
  (∀ (k : Fin 8) l, m.evict.getD k.val none = some l → m.invRanges = [] →
    (∀ l', some l' ∈ m.evict → l'.off = l.off → l.seq ≤ l'.seq) →
    exec (.mapEvictDone d k) s = .next (mem { m.toDram l.off l.entries with
      evict := m.evict.set k.val none, invWait := m.invWait.filter fun n => n != l.seq })) ∧
  (∀ w, cacheable off = true → m.look off = some w → ((m.set i).ways.any fun v => v.lock && v.tag == lineTag off) = false →
    (m.set i).locked < 2 →
    exec (.mapLineLock d off) s = .next (mem (m.setWay i w { (m.set i).way w with lock := true }))) ∧
  (2 ≤ (m.set i).locked → exec (.mapLineLock d off) s = .next s) ∧
  (Runs (.mapLineUnlock d off) s fun t =>
    (∀ v ∈ ((t.die d).mem.set i).ways, v.tag = lineTag off → v.lock = false) ∧ (t.die d).mem.area = m.area ∧
    ∀ j, j ≠ i → (t.die d).mem.set j = m.set j) ∧
  (∀ start len, start % 64 = 0 → len % 64 = 0 → 0 < len → exec (.mapRangeInvalidate d start len) s =
    .next (mem ({ m with invRanges := m.invRanges ++ [(start, start + len)] }).goOn)) ∧
  (∀ start len, ¬(start % 64 = 0 ∧ len % 64 = 0 ∧ 0 < len) → exec (.mapRangeInvalidate d start len) s = .next s)

/-- R531, R532, R535, R541: a slot's conversion is kept where the slot has an input; at slot 63 the live heads'
reports are latched. A round's end stamps and counts the round, starts the next one, and weighs the dirty data against
the budget. -/
def Obligations.HousekeepingRounds : Prop := ∀ (s : State) (d : DieId), s.fitted d = true → (s.die d).power ≠ .dieSleep →
  let x := s.die d
  (∀ code, x.hk.slot ≠ 63 → exec (.hkSlot d code) s = .next (s.setDie d { x with hk := { x.hk with
    slot := x.hk.slot + 1, codes := if slotUsed d x.hk.slot then x.hk.codes.set x.hk.slot code else x.hk.codes } })) ∧
  (∀ code, x.hk.slot = 63 → Runs (.hkSlot d code) s fun t =>
    t = s.setDie d { x with heads := (t.die d).heads } ∧
    ∀ h, (t.die d).head h = if (x.head h).live then { x.head h with tempLatched := (x.head h).temp } else x.head h) ∧
  (x.hk.slot ≠ 63 → exec (.hkRoundEnd d) s = .next s) ∧
  (x.hk.slot = 63 → Runs (.hkRoundEnd d) s fun t =>
    let k := (t.die d).hk
    k.slot = 0 ∧ k.last = x.hk.codes ∧ k.codes = List.replicate 64 0 ∧ k.rounds = min 67108863 (x.hk.rounds + 1) ∧
    k.stamp = s.timeNs d ∧ (t.die d).data.sns2 = x.data.sns1 ∧
    (t.die d).data.overBudget = decide ((t.die d).data.budget < dirtyBytes (t.die d).data) ∧
    (t.die d).data.wc = x.data.wc ∧ (t.die d).data.media = x.data.media ∧ t.slots = s.slots)

/-- R488 to R493: a word of a small engine runs its operation, then takes the next address, its clause ending with
END. A WAIT holds the engine until its condition is met; a word whose address has bit 11 faults a sequencer. What the
encodings leave open are free values (log 19). -/
def Obligations.EngineWords : Prop := ∀ (s : State) (d : DieId) (h : HeadId) (w : BitVec 64) (sig : BitVec 8),
  s.fitted d = true →
  let y := s.die d
  let may := fun (e cls : Nat) => (s.engine d e).mayRun = true ∧ (s.engine d e).count < 256 ∧ (s.engine d e).faulting = none ∧
    (s.engine d e).resetReq = false ∧ (s.engine d e).haltReq = false ∧ wordClass w = cls ∧ (e < 24 → w.getLsbD 11 = false)
  let ran := fun (e : Nat) (t : State) => (t.engine d e).pc < storeWords e ∧
    (t.engine d e).count = (if wordEnd w then 0 else (s.engine d e).count + 1) ∧ (t.engine d e).run = true ∧
    (t.engine d e).faulting = none ∧ (t.engine d e).waiting = none ∧ (t.die d).data = y.data ∧ t.slots = s.slots ∧
    (∀ f, f ≠ e → t.engine d f = s.engine d f) ∧ ∀ f, f ≠ d → t.die f = s.die f
  let plain := fun (c : Instr) (e cls : Nat) => may e cls → exec c s = .next (s.modEngine d e fun x => { x with
    pc := nextAddress w (s.engCond d e sig) % storeWords e, count := if wordEnd w then 0 else x.count + 1, waiting := none
    faulting := none })
  let register := fun (c : Instr) (e cls n : Nat) => may e cls → Runs c s fun t => ran e t ∧ t.fresh = s.fresh + 1 ∧
    (t.die d).eng.regs = y.eng.regs.insert (e * 65536 + n) (Config.microResult s.fresh w) ∧ (t.die d).heads = y.heads ∧
    (t.die d).spin = y.spin ∧ (t.die d).clock = y.clock
  let alu := fun (c : Instr) (e : Nat) => may e 1 → Runs c s fun t => ran e t ∧
    (t.die d).eng.regs = y.eng.regs.insert (e * 65536 + wordOpa w) (Config.microResult s.fresh w) ∧
    (t.engine d e).alu = Config.microFlags s.fresh w ∧ (t.die d).heads = y.heads ∧ (t.die d).spin = y.spin ∧
    (t.die d).clock = y.clock
  let report := fun (c : Instr) (e : Nat) => may e 5 → Runs c s fun t => ran e t ∧ (t.die d).eng.regs = y.eng.regs ∧
    (t.die d).eng.reports = (e, y.eng.regs.getD (e * 65536 + wordOpa w) 0) :: y.eng.reports
  let waits := fun (c : Instr) (e : Nat) => may e 6 → wordEnd w = true →
    (s.engCond d e sig (wordOpb w) = false → exec c s = .next (s.modEngine d e fun x => { x with waiting := some w })) ∧
    (s.engCond d e sig (wordOpb w) = true → exec c s = .next (s.modEngine d e fun x => { x with
      pc := nextAddress w (s.engCond d e sig) % storeWords e, count := 0, waiting := none, faulting := none }))
  plain (.seqNop d h w sig) h.val 0 ∧ plain (.motorNop d w sig) 24 0 ∧ plain (.motorPwm d w sig) 24 3 ∧
  alu (.seqAlu d h w sig) h.val ∧ alu (.motorAlu d w sig) 24 ∧
  register (.seqStage d h w sig) h.val 4 (8192 + wordOpa w) ∧ register (.motorTable d w sig) 24 2 (wordOpa w) ∧
  register (.motorSample d w sig) 24 4 (wordOpa w) ∧
  report (.seqReport d h w sig) h.val ∧ report (.motorReport d w sig) 24 ∧
  waits (.seqWait d h w sig) h.val ∧ waits (.motorWait d w sig) 24 ∧
  (may h.val 2 → Runs (.seqArm d h w sig) s fun t => ran h.val t ∧ t.fresh = s.fresh + 1 ∧
    (t.die d).eng.regs = y.eng.regs ∧ (t.die d).heads = y.heads) ∧
  (may h.val 3 → Runs (.seqLines d h w sig) s fun t => ran h.val t ∧ (t.die d).eng.regs = y.eng.regs ∧
    (∀ g, g ≠ h → (t.die d).head g = y.head g) ∧
    (((t.die d).head h).lines = (y.head h).lines ∨ ((t.die d).head h).lines = .park ∨ s.headMayStart d h = true)) ∧
  (∀ cls, cls ≠ 6 → (s.engine d h.val).mayRun = true → (s.engine d h.val).count < 256 → (s.engine d h.val).faulting = none →
    wordClass w = cls → w.getLsbD 11 = true → wordEnd w = false → cls = 1 → Runs (.seqAlu d h w sig) s fun t =>
      (t.engine d h.val).faulting = some (false, (s.engine d h.val).pc) ∧ (t.die d).eng.regs = y.eng.regs) ∧
  (∀ (e : Fin 26) (c : Fin 32), (s.engine d e.val).waiting = some w → wordOpb w = c.val → (s.engine d e.val).run = true →
    wordEnd w = true → (s.engine d e.val).resetReq = false → (s.engine d e.val).haltReq = false →
    (∀ g : BitVec 8, (8 ≤ c.val → c.val ≤ 15 → g.getLsbD (c.val - 8) = true) → s.engCond d e.val g c.val = true) →
    Runs (.engineWaitRelease d e c) s fun t =>
      (t.engine d e.val).waiting = none ∧ (t.engine d e.val).count = 0 ∧ (t.engine d e.val).run = true ∧
      (t.die d).eng.regs = y.eng.regs ∧ ∀ f, f ≠ d → t.die f = s.die f)

/-- R492 to R497: the control-law engine's words and banks; requests are taken at a clause's end, while waiting, or
when the engine does not run. R486, R467, R493, R494: a fault stops its engine, sets its bit, and a sequencer's heads
are parked; a trap or a watchdog restarts its core and counts it. -/
def Obligations.EngineRequestsAndFaults : Prop :=
  (∀ (s : State) (d : DieId) (e : Fin 26), s.fitted d = true →
   let y := s.die d
   let x := s.engine d e.val
   (∀ (w : BitVec 128) sig, (s.engine d 25).mayRun = true → (s.engine d 25).count < 256 → (s.engine d 25).faulting = none →
     wordField w.toNat 20 4 = 0 → w.getLsbD 14 = false → Runs (.cleMicroword d w sig) s fun t =>
       (t.engine d 25).count = (s.engine d 25).count + 1 ∧ (t.engine d 25).faulting = none ∧ (t.engine d 25).pc < 16384 ∧
       s.fresh < t.fresh ∧ (t.die d).heads = y.heads ∧ (t.die d).data = y.data ∧ (t.die d).eng.versions = y.eng.versions ∧
       ∀ f, f ≠ d → t.die f = s.die f) ∧
   (x.samples = true → Runs (.engineReset d e) s fun t =>
     t.engine d e.val = { run := true } ∧ (∀ k, k / 65536 = e.val → (t.die d).eng.regs.find? k = none) ∧
     (t.die d).data = y.data) ∧
   (x.samples = false → exec (.engineReset d e) s = .next (s.modEngine d e.val fun x => { x with resetReq := true })) ∧
   (x.run = true → x.samples = true →
     exec (.engineHalt d e) s = .next (s.modEngine d e.val fun x => { x with run := false, halted := true })) ∧
   (x.run = true → x.samples = false →
     exec (.engineHalt d e) s = .next (s.modEngine d e.val fun x => { x with haltReq := true })) ∧
   (e.val = 25 → Runs (.engineReload d e) s fun t =>
     (t.die d).eng.swapPending = true ∧ (t.die d).eng.versions.getD 26 {} = { s.meantEntry d 25 2 with state := 1 } ∧
     (t.die d).eng.engines = y.eng.engines ∧ t = s.setDie d { y with eng := (t.die d).eng }) ∧
   (e.val = 24 → x.samples = true → x.stopped = false → Runs (.engineReload d e) s fun t =>
     t.engine d 24 = { run := true, alu := x.alu, flags := x.flags } ∧ (t.die d).eng.regs = y.eng.regs ∧
     t = s.setDie d { y with eng := (t.die d).eng }) ∧
   (e.val < 24 → x.samples = true → x.stopped = false →
     ((y.head (headOfEngine e.val)).jobs.all fun j => !j.started) = true → Runs (.engineReload d e) s fun t =>
       t.engine d e.val = { run := true, alu := x.alu, flags := x.flags } ∧
       ((t.die d).head (headOfEngine e.val)).lines = .park ∧ ∀ f, f ≠ d → t.die f = s.die f) ∧
   (y.eng.swapPending = true → (s.engine d 25).samples = true → Runs (.cleBankSwap d) s fun t =>
     (t.die d).eng.cleBank = !y.eng.cleBank ∧ (t.die d).eng.swapPending = false ∧ (t.engine d 25).pc = 0 ∧
     (t.engine d 25).count = 0 ∧ t = s.setDie d { y with eng := (t.die d).eng })) ∧
  (∀ (s : State) (d : DieId) (e : Fin 26), s.fitted d = true →
   let y := s.die d
   let x := s.engine d e.val
   let stopped := fun (t : State) => (t.engine d e.val).run = false ∧ (t.engine d e.val).stopped = true ∧
     (t.die d).eng.faults = y.eng.faults ||| (1#28 <<< e.val) ∧
     (e.val < 24 → ((t.die d).head (headOfEngine e.val)).lines = .park) ∧ (t.die d).data.media = y.data.media
   let restarted := fun (bit : Nat) (t : State) => (t.die d).eng.faults = y.eng.faults ||| (1#28 <<< bit) ∧
     t.get Obj.coreRestartCount (dieInst d) = min Obj.coreRestartCount.typ.top (s.get Obj.coreRestartCount (dieInst d) + 1) ∧
     (t.die d).life = y.life ∧ (t.die d).data = y.data
   (x.run = true → Runs (.engineFault d e .illegal) s stopped ∧ Runs (.engineFault d e .address) s stopped ∧
     ∀ w, Runs (.engineFault d e (.uncorrectable w)) s fun t => stopped t ∧ (t.die d).mem.ueFetch = true) ∧
   (x.mayRun = true → Runs (.clauseOverrun d e) s stopped) ∧
   (∀ c : Fin 32, (restartTimes y.clock.time4 (y.eng.restarts.getD c.val [])).length < 3 →
     Runs (.coreTrap d c .illegal) s (restarted 26) ∧ Runs (.coreTrap d c .misaligned) s (restarted 26) ∧
     Runs (.coreTrap d c .forbidden) s (restarted 26) ∧ Runs (.coreWatchdog d c) s (restarted 27) ∧
     ∀ w, Runs (.coreTrap d c (.uncorrectable w)) s fun t => (t.die d).mem.ueFetch = true ∧ (t.die d).eng.faults = y.eng.faults))

/-- R509 to R514: a transfer at offset 0 starts a download in the inactive slot and takes the lock; each later block
must be the next one and match its entry of the manifest, the last makes the slot VERIFIED, one that fails empties it.
A source that does not hold the lock changes nothing. R509, R510, R514: the same of the verb, which fetches its bytes
from the host and carries LAST. -/
def Obligations.FirmwareDownloads : Prop :=
  (∀ (s : State) (src : Source) (b : Bool) (data : List Byte), s.shut = false →
   let o := s.getN Obj.fwBlockOffset 0
   let write := exec (.fwBlockWrite src data) s
   (∀ h t, s.fw.lock = some (h, t) → h ≠ src → write = .next { s with reply := { status := St.busyOtherSource } }) ∧
   ((∀ h t, s.fw.lock = some (h, t) → h = src) →
     let held := { s.fw with lock := some (src, s.now) }
     (s.fw.trial ≠ .none →
       write = .next { s with fw := held, reply := { status := St.fwActivationInProgress } }) ∧
     (s.fw.trial = .none → s.fw.inactive = some b → data.length = 65536 →
       let m := s.fw.manifest b
       let begun := { ((s.fw.eraseBlocks b).setSlot b .downloading).record with
         lock := some (src, s.now), nextOffset := 65536, nor := (s.fw.eraseBlocks b).nor.insert (slotNo b * 2048) data }
       (o = 0 → 65536 < mfBytes data → mfBytes data ≤ 134217728 →
         write = .next { s with fw := begun, reply := { status := St.success } }) ∧
       (o ≠ 0 → s.fw.slot b ≠ .downloading ∨ o ≠ s.fw.nextOffset →
         write = .next { s with fw := held, reply := { status := St.invalidField } }) ∧
       (∀ n, o = 65536 * n → 2 ≤ n → n < 2048 → s.fw.slot b = .downloading → s.fw.nextOffset = o →
         s.fw.nor.contains (slotNo b * 2048) = true → o + 65536 ≤ mfBytes m →
         let stored := { held with nor := s.fw.nor.insert (slotNo b * 2048 + n) data }
         let good := crc32c data = mfU m (4096 + 52 * n) 4 ∧ Config.sha384 data = sliceBytes m (4100 + 52 * n) 48
         (good → o + 65536 < mfBytes m →
           write = .next { s with fw := { stored with nextOffset := o + 65536 }, reply := { status := St.success } }) ∧
         (good → o + 65536 = mfBytes m → (List.range' 1 7).all (stored.digestOk b) = true →
           write = .next { s with
             fw := { (stored.setSlot b .verified).record with nextOffset := 0 }, reply := { status := St.success } }) ∧
         (¬ good → ∃ t, write = .next t ∧ t.fw = { ((stored.setSlot b .empty).eraseBlocks b).record with
             nextOffset := 0, discardedFlag := true } ∧ t.fw.slot b = .empty ∧
           Reported [] 0 { s with fw := t.fw, reply := { status := St.fwBlockInvalid } } t))))) ∧
  (∀ (s : State) (asn : Nat) (sl : Slot) (b : Bool) (data : List Byte),
   s.slots.find? asn = some sl → sl.op = 0x47 → sl.ready 0 = true → sl.traced = false →
   let ended := fun (u : State) (st : BitVec 16) => Host.Outcome.next (u.ends asn 0 fun p => { p with status := st, lba := none })
   let done := fun (u : State) => Host.Outcome.next (u.ends asn 0 fun p =>
     { p with status := St.success, result := 0, data := [] })
   let run := exec (.fwDownload asn data) s
   (∀ h t, s.fw.lock = some (h, t) → h ≠ .host → run = ended s St.busyOtherSource) ∧
   ((∀ h t, s.fw.lock = some (h, t) → h = .host) → s.fw.trial = .none → s.fw.inactive = some b → data.length = 65536 →
     let held := { s.fw with lock := some (.host, s.now) }
     let m := s.fw.manifest b
     ∀ n, eVs sl.entry 0 4 = 65536 * n → 2 ≤ n → n < 2048 → eVs sl.entry 4 4 = 65536 → s.fw.slot b = .downloading →
       s.fw.nextOffset = 65536 * n → s.fw.nor.contains (slotNo b * 2048) = true → 65536 * n + 65536 < mfBytes m →
       (eVs sl.entry 8 1 % 2 = 1 → run = ended { s with fw := held } St.invalidField) ∧
       (eVs sl.entry 8 1 % 2 = 0 → crc32c data = mfU m (4096 + 52 * n) 4 →
         Config.sha384 data = sliceBytes m (4100 + 52 * n) 48 →
         run = done { s with fw := { held with
           nor := s.fw.nor.insert (slotNo b * 2048 + n) data, nextOffset := 65536 * n + 65536 } })))

/-- R517, R518, R522, R523: an activation, of the inactive slot or of PREVIOUS, by verb or object: live when the
units' state formats allow it, else by reset with RESULT 1. FW REVERT during the sprout starts the fallback. -/
def Obligations.FirmwareActivates : Prop := ∀ (s : State) (src : Source) (asn : Nat) (sl : Slot) (b : Bool),
  let f := s.fw
  let verb := fun op => s.slots.find? asn = some sl ∧ sl.op = op ∧ sl.ready 0 = true ∧ sl.traced = false ∧ f.waiter ≠ some asn
  let free := fun (x : Source) => ∀ h t, f.lock = some (h, t) → h = x
  let live := fun x => { f.record with
    lock := some (x, s.now), trial := .activating, liveBack := s.liveOk f.running b, activating := some (b, true, false, 0)
    spun := s.fittedDies.filter fun (d : DieId) => (s.die d).spin.state == SpinState.atSpeed, checkFailed := false }
  let byReset := fun x => { (f.setSlot b .sprout).record with
    lock := some (x, s.now), trial := .sprout, trialBoot := true, liveBack := false, resetAt := some (s.now + 100000000)
    spun := [], windowStart := none, cleanSince := none, checkFailed := false }
  let sound := s.mfOk (f.manifest b) = true ∧ f.blocksOk b = true
  let quiet := f.trial = .none ∧ f.downloading = false
  let verbRuns := fun (c : Instr) =>
    (s.liveOk b f.running = true → exec c s = .next { s with fw := { live .host with waiter := some asn } }) ∧
    (s.liveOk b f.running = false → exec c s = .next (({ s with fw := byReset .host }).ends asn 0 fun p =>
      { p with status := St.success, result := 1, data := [] }))
  let objectRuns := fun (c : Instr) =>
    (s.liveOk b f.running = true → exec c s = .next { ({ s with fw := { live src with waiterObj := true } }.put
      Obj.fwResult 0 1) with reply := { status := St.success } }) ∧
    (s.liveOk b f.running = false → exec c s = .next { ({ s with fw := byReset src }.put Obj.fwResult 0 7) with
      reply := { status := St.success } })
  let new := f.inactive = some b ∧ (f.slot b = .verified ∨ f.slot b = .interrupted)
  let previous := f.slotIn .previous = some b ∧ f.minSecurity.toNat ≤ mfSecurity (f.manifest b)
  (verb 0x48 → free .host → quiet → new → sound → verbRuns (.fwActivate asn)) ∧
  (verb 0x49 → free .host → quiet → previous → sound → verbRuns (.fwRevert asn)) ∧
  (s.shut = false → free src → quiet → new → sound → objectRuns (.fwCommandActivate src)) ∧
  (s.shut = false → free src → quiet → previous → sound → objectRuns (.fwCommandRevert src)) ∧
  (verb 0x48 → free .host → quiet → f.inactive = some b → f.slot b ≠ .verified → f.slot b ≠ .interrupted →
    exec (.fwActivate asn) s = .next (({ s with fw := { f with lock := some (.host, s.now) } }).ends asn 0 fun p =>
      { p with status := St.fwImageIncomplete, lba := none })) ∧
  (verb 0x49 → free .host → quiet → f.slotIn .previous = none →
    exec (.fwRevert asn) s = .next (({ s with fw := { f with lock := some (.host, s.now) } }).ends asn 0 fun p =>
      { p with status := St.fwNoPrevious, lba := none })) ∧
  (verb 0x49 → free .host → f.trial = .sprout → f.resetAt = none → f.liveBack = true →
    let sprout := (f.slotIn .sprout).getD f.running
    exec (.fwRevert asn) s = .next { s with fw := { (f.setSlot sprout .failed).record with
      lock := some (.host, s.now), trial := .fallingBack, cause := 2, windowStart := none, cleanSince := none
      activating := some ((f.slotIn .confirmed).getD (!sprout), true, true, 0), waiter := some asn } })

/-- R514, R519, R521, R522: units change over one class and die at a time and the slot becomes the SPROUT; it is
confirmed once every check has held, falls back when the window ends, and the lock lapses with its download. -/
def Obligations.FirmwareTrial : Prop := ∀ (s : State) (b : Bool),
  let f := s.fw
  (∀ k, f.activating = some (b, true, false, k) →
    let d : DieId := Fin.ofNat 8 (s.part.dies - 1 - k % s.part.dies)
    (s.isolated d = true ∨ (s.die d).imaged = false → k + 1 < 5 * s.part.dies →
      exec .fwClassChangeover s = .next { s with fw := { f with activating := some (b, true, false, k + 1) } }) ∧
    (s.isolated d = false → (s.die d).imaged = true → k / s.part.dies = 1 →
      Runs .fwClassChangeover s fun t =>
        (t.die d).eng.versions.getD 27 {} = (mfUnitOf (f.manifest b) 3).entry 2 ∧
        t.fw = { f with activating := some (b, true, false, k + 1) } ∧ Within [] d { s with fw := t.fw } t) ∧
    (s.isolated d = true ∨ (s.die d).imaged = false → k + 1 = 5 * s.part.dies →
      ∃ u : State, u.slots = s.slots ∧ u.fw = { (f.setSlot b .sprout).record with
          trial := .sprout, activating := none, running := b, windowStart := some s.now, cleanSince := some s.now
          waiter := none, waiterObj := false } ∧
        Logged 0 Ev.fwActivated.src Ev.fwActivated s u ∧
        (f.waiter = none → exec .fwClassChangeover s = .next u) ∧
        ∀ asn sl, f.waiter = some asn → s.slots.find? asn = some sl → sl.traced = false →
          exec .fwClassChangeover s = .next (u.ends asn 0 fun p =>
            { p with status := St.success, result := 0, data := [] }))) ∧
  (f.resetAt.isSome = true → s.warm = none → Runs .fwResetActivationReset s fun t =>
    t.fw = { f with resetAt := none } ∧ t.warm = some (s.fittedDies.filter fun d => !(s.isolated d)) ∧ t.dies = s.dies ∧
    ∀ asn sl, t.slots.find? asn = some sl → sl.orphan = true) ∧
  (f.trial = .sprout → f.windowStart.isSome = true → s.sproutOk = true → Runs .fwConfirmed s fun t =>
    t.fw.slot f.running = .confirmed ∧ t.fw.slot (!f.running) = .previous ∧ t.fw.trial = .none ∧ t.fw.lock = none ∧
    t.fw.minSecurity.toNat = max f.minSecurity.toNat
      (min (mfSecurity (f.manifest f.running)) (mfSecurity (f.manifest (!f.running)))) ∧
    t.fw.nor = f.nor ∧ t.fw.running = f.running ∧ t.fw.seq = f.seq + 1 ∧ t.fw.confirmedFlag = true ∧
    Logged 0 Ev.fwConfirmed.src Ev.fwConfirmed s t ∧ Reported [] 0 { s with fw := t.fw } t) ∧
  (f.trial = .sprout → f.windowStart.isSome = true → s.sproutOk = false →
    exec .fwConfirmed s = .next { s with fw := { f with cleanSince := some s.now } }) ∧
  (f.trial = .sprout → f.windowStart.isSome = true →
    let sprout := (f.slotIn .sprout).getD f.running
    let failed := { (f.setSlot sprout .failed).record with
      trial := .fallingBack, cause := 1, windowStart := none, cleanSince := none, activating := none }
    (f.liveBack = true → exec .fwConfirmWindowExpiry s = .next { s with fw := { failed with
      activating := some ((f.slotIn .confirmed).getD (!sprout), true, true, 0) } }) ∧
    (f.liveBack = false → s.warm = none → Runs .fwConfirmWindowExpiry s fun t =>
      t.fw = failed ∧ t.warm = some (s.fittedDies.filter fun d => !(s.isolated d)) ∧ t.dies = s.dies)) ∧
  (f.lock.isSome = true →
    (f.slotIn .downloading = none → exec .fwLockLapsed s = .next { s with fw := { f with lock := none } }) ∧
    (f.slotIn .downloading = some b → Runs .fwLockLapsed s fun t =>
      t.fw.lock = none ∧ t.fw.slot b = .empty ∧ t.fw.slot (!b) = f.slot (!b) ∧ t.fw.nextOffset = 0 ∧
      t.fw.discardedFlag = true ∧ t.fw.factory b = true ∧ Reported [] 0 { s with fw := t.fw } t))

/-- R516, R527, R528: a nonce starts a report, to which every member die in service sends its digests; the report is
then signed over its header and 64 bytes an entry. A restart of the monitor fails the report and KEY LOADs, and three
within 10 s fail the die. A member die runs once every unit has arrived. -/
def Obligations.AttestationAndMonitor : Prop := ∀ s : State,
  (∀ src nonce, s.shut = false →
    (nonce.length = 32 → Runs (.attestNonceWrite src nonce) s fun t =>
      t.fw = { s.fw with nonce := some nonce } ∧ t.get Obj.attestResult 0 = 1 ∧ t.reply = {} ∧ t.dies = s.dies ∧
      t.slots = s.slots ∧ t.doms = s.doms.erase (objKey Obj.attestReport.index Obj.attestReport.sub 0) ∧
      ∀ d, s.fitted d = true → d.val ≠ 0 → s.isolated d = false → ∃ v, Out.fabric d 0 0x25 v ∈ t.out) ∧
    (nonce.length ≠ 32 → exec (.attestNonceWrite src nonce) s = .next { s with reply := { status := St.tableInvalid } })) ∧
  (∀ n, s.fw.nonce = some n → n.length = 32 →
    let r := s.attestReport n
    let k := s.attestEntries.length
    exec .attestReportReady s = .next (({ s with fw := { s.fw with nonce := none } }.putDom Obj.attestReport
      Obj.attestReport.sub 0 r).put Obj.attestResult 0 0) ∧
    r.length = 160 + 64 * k ∧ ofLeBytes (r.take 4) = 0x5454414B ∧ (r.drop 8).take 32 = n ∧
    ofLeBytes ((r.drop 6).take 2) = k ∧ ofLeBytes ((r.drop 40).take 8) = s.now ∧
    r.drop (64 + 64 * k) = sliceBytes (Config.ecdsaSign 0 (Config.sha384 (r.take (64 + 64 * k)))) 0 96) ∧
  (∀ d : DieId, s.fitted d = true →
    let x := s.die d
    let ts := restartTimes x.clock.time4 x.eng.monRestarts
    let loads := (s.slots.entries.filter fun e => e.2.op == 0x4B && e.2.ready d).map (·.1)
    (ts.length < 3 → loads = [] → s.fw.nonce = none →
      exec (.monitorRestart d) s = .next (s.setDie d { x with eng := { x.eng with monRestarts := ts } })) ∧
    (ts.length < 3 → loads = [] → s.fw.nonce.isSome = true → exec (.monitorRestart d) s = .next
      (({ s.setDie d { x with eng := { x.eng with monRestarts := ts } } with fw := { s.fw with nonce := none } }).put
        Obj.attestResult 0 2)) ∧
    (∀ asn sl, ts.length < 3 → loads = [asn] → s.fw.nonce = none → s.slots.find? asn = some sl → sl.traced = false →
      exec (.monitorRestart d) s = .next ((s.setDie d { x with
        eng := { x.eng with monRestarts := ts }, data := { x.data with unwrapFail := true } }).ends asn d fun p =>
          { p with status := St.keyUnwrapFailed, lba := none })) ∧
    (3 ≤ ts.length → Runs (.monitorRestart d) s fun t => (t.die d).eng.monRestarts = [] ∧
      (d.val ≠ 0 → t.isolated d = true) ∧ (d.val = 0 → t.host.fatal = true)) ∧
    (∀ (unit : Fin 7) data, d.val ≠ 0 → x.imaged = false → (s.die 0).imaged = true →
      let b := s.meantSlot d (unit.val + 1)
      let u := mfUnitOf (s.fw.manifest b) (unit.val + 1)
      let k := d.val * 8 + unit.val
      let have_ := s.fw.loaded.getD k 0
      s.fw.factory b = false →
      (data = sliceBytes ((s.fw.unitBytes b u).drop have_) 0 data.length → data ≠ [] → have_ + data.length < u.len →
        exec (.bootImageBlock d unit data) s = .next { s with fw := { s.fw with
          loaded := s.fw.loaded.insert k (have_ + data.length) } }) ∧
      (data ≠ sliceBytes ((s.fw.unitBytes b u).drop have_) 0 data.length → exec (.bootImageBlock d unit data) s = .next s)))

/-- R431, R433 to R436, R441, R444: GET OBJECT and SET OBJECT. The address decides first; a scalar is checked for
length and value and then applied, saved, or kept pending by its class; a part of a member die's entry is forwarded.
-/
def Obligations.ObjectVerbs : Prop := ∀ (s : State) (asn : Nat) (sl : Slot) (data : List Byte) (o : ObjDef),
  s.slots.find? asn = some sl → sl.ready 0 = true → sl.traced = false →
  (sl.parts.any fun p => p.die.val == 0 && p.begun) = false →
  let get := sl.access asn false []
  let set := sl.access asn true data
  let ix := get.index.toNat
  let sub := get.sub.toNat
  let i := get.inst.toNat
  let ended := fun (u : State) (st : BitVec 16) (result : Nat) (out : List Byte) =>
    Host.Outcome.next (u.ends asn 0 fun p => { p with
      status := st, result := BitVec.ofNat 64 result, data := out
      detail := if st = St.objectStateConflict then BitVec.ofNat 32 result else 0 })
  let forwarded := fun (d : DieId) (a : ObjAccess) => Host.Outcome.next (((s.modPart asn 0 fun p => { p with begun := true }).modDie
    d fun x => { x with accesses := x.accesses ++ [a] }).emit (.fabric 0 d 0x25 (BitVec.ofNat 64
      (ix + 2 ^ 16 * sub + 2 ^ 24 * i + 2 ^ 32 * a.segOff))))
  (sl.op = 0x42 → s.objEarlier asn sl = true → exec (.getObject asn) s = .next s) ∧
  (sl.op = 0x42 → s.objEarlier asn sl = false →
    (∀ e, s.resolve true false ix sub i = .error e → exec (.getObject asn) s = ended s e 0 []) ∧
    (∀ d, s.objTarget true get = some d → exec (.getObject asn) s = forwarded d get) ∧
    (s.objTarget true get = none → s.resolve true false ix sub i = .ok o →
      (o.typ ≠ .domain → o.typ ≠ .str → get.len = o.typ.size →
        exec (.getObject asn) s = ended s St.success (get.len + 2 ^ 32 * get.len) (intBytes get.len (s.value o sub i))) ∧
      (o.typ ≠ .domain → o.typ ≠ .str → get.len ≠ o.typ.size →
        exec (.getObject asn) s = ended s St.invalidField 0 []) ∧
      (o.typ = .domain → s.reportPending o i = true → exec (.getObject asn) s = ended s St.pending 0 []) ∧
      (o.typ = .domain → s.reportPending o i = false → get.segOff < (s.block o sub i).length →
        let x := ((s.block o sub i).drop get.segOff).take get.len
        exec (.getObject asn) s = ended s St.success (x.length + 2 ^ 32 * (s.block o sub i).length) x))) ∧
  (sl.op = 0x43 → s.objEarlier asn sl = false →
    (∀ e, s.resolve true true ix sub i = .error e → exec (.setObject asn data) s = ended s e 0 []) ∧
    (∀ d, s.objTarget true set = some d → exec (.setObject asn data) s = forwarded d set) ∧
    (s.objTarget true set = none → s.resolve true true ix sub i = .ok o → o.typ ≠ .domain → o.typ ≠ .str →
      let v := o.typ.decode (sliceBytes data 0 set.len)
      let bs := intBytes o.typ.size v
      let special := [Obj.setRpm, Obj.coastRpm, Obj.phaseLockEnable, Obj.bwWindow, Obj.bwWindowUnit, Obj.traceSeed, Obj.traceK,
        Obj.writeFailed, Obj.hdaPowerTarget, Obj.counterEvent, Obj.counterValue, Obj.writeDelayAu, Obj.maGain,
        Obj.vcmGainTrim, Obj.elecOffset]
      (set.len ≠ o.typ.size → exec (.setObject asn data) s = ended s St.invalidField 0 []) ∧
      (set.len = o.typ.size → s.valueOk o sub i v = false → exec (.setObject asn data) s = ended s St.valueInvalid 0 []) ∧
      (set.len = o.typ.size → s.valueOk o sub i v = true → o ∉ special →
        (o.acc = .rw → exec (.setObject asn data) s = ended (s.putSub o sub i v) St.success 0 []) ∧
        (o.acc = .rws → s.storeFails (o.dieOf i) = false →
          exec (.setObject asn data) s = ended ((s.save o sub i bs).putSub o sub i v) St.success 0 []) ∧
        (o.acc = .rwr → s.storeFails (o.dieOf i) = false → exec (.setObject asn data) s = ended { s with
          rwr := if bs = intBytes o.typ.size (s.getSub o sub i) then s.rwr.erase (objKey o.index sub i)
            else s.rwr.insert (objKey o.index sub i) bs } St.success 0 []) ∧
        (o.acc = .rws ∨ o.acc = .rwr → s.storeFails (o.dieOf i) = true →
          exec (.setObject asn data) s = ended s St.objectStateConflict 0x8004 []))) ∧
    (s.objTarget true set = none → s.resolve true true ix sub i = .ok o → o.typ = .domain →
      let k := objKey o.index sub i
      let mine := s.sessions.find? fun x => x.src == Source.host && x.key == k
      let free := ∀ x ∈ s.sessions, x.key = k → x.src = .host
      ((∃ x ∈ s.sessions, x.key = k ∧ x.src ≠ .host) →
        exec (.setObject asn data) s = ended s St.objectStateConflict 0x8001 []) ∧
      (free → set.segOff ≠ 0 → mine = none → exec (.setObject asn data) s = ended s St.objectStateConflict 0x8003 []) ∧
      (∀ x, free → set.segOff ≠ 0 → mine = some x → set.segOff ≠ x.data.length →
        exec (.setObject asn data) s = ended s St.objectStateConflict 0x8002 []) ∧
      (free → set.segOff = 0 → mine = none → 4 ≤ (s.sessions.filter fun x => x.die == o.dieOf i).length →
        exec (.setObject asn data) s = ended s St.objectStateConflict 0x8006 []) ∧
      (free → set.segOff = 0 → mine = none → (s.sessions.filter fun x => x.die == o.dieOf i).length < 4 →
        set.last = false → set.len ≤ domainMax o sub → exec (.setObject asn data) s = ended { s with
          sessions := s.sessions ++ [⟨.host, k, o.dieOf i, sliceBytes data 0 set.len, s.now⟩] } St.success 0 [])))

/-- R442, R444 to R446: an access of the object window, and one forwarded to a die, which applies it and answers who
asked; a session that idles is dropped; RESTORE_DEFAULTS puts every default back and says what it skipped. -/
def Obligations.ObjectAccesses : Prop := ∀ s : State,
  (∀ data, s.shut = false →
    let go := exec (.objectWindowGo data) s
    (s.host.fatal = true ∨ s.win.busy = true → go = .next s) ∧
    (s.host.fatal = false → s.win.busy = false →
      let a := s.win.access data
      let u := { s with win := { s.win with busy := true, answer := none, buffer := if s.win.write then data else s.win.buffer } }
      ((s.die 0).recordsRead = false →
        go = .next { u with win := { u.win with answer := some (St.notReady, 0, []) } }) ∧
      ((s.die 0).recordsRead = true → 0 < a.len → a.len ≤ 65536 →
        (∀ d, u.objTarget true a = some d → Runs (.objectWindowGo data) s fun t =>
          t.win = u.win ∧ (t.die d).accesses = (s.die d).accesses ++ [a] ∧ t.slots = s.slots ∧
          ∀ e, e ≠ d → t.die e = s.die e) ∧
        (u.objTarget true a = none → a.write = false →
          let r := u.objGet true a.index.toNat a.sub.toNat a.inst.toNat a.segOff a.len
          go = .next { u with win := { u.win with answer := some (r.status, r.result, r.data) } }) ∧
        (u.objTarget true a = none → a.write = true →
          let q := u.objDo true none a
          q.1.win.busy = true → go = .next { q.1 with
            win := { q.1.win with answer := some (q.2.status, q.2.result, q.2.data) } })))) ∧
  (∀ st r (bs : List Byte), s.win.answer = some (st, r, bs) →
    (s.win.busy = true → exec .objectWindowDone s = .next { s with win := { s.win with
      busy := false, done := true, status := st, result := BitVec.ofNat 64 r, answer := none
      buffer := if s.win.write then s.win.buffer else bs } }) ∧
    (s.win.busy = false → exec .objectWindowDone s = .next s)) ∧
  (∀ d : DieId, s.fitted d = true →
    let x := s.die d
    (x.accesses = [] → exec (.objectAccessMessage d) s = .next s) ∧
    (∀ a rest, x.accesses = a :: rest →
      let q := (s.setDie d { x with accesses := rest }).objDo true a.asn a
      let t := q.1
      let r := q.2
      (a.asn = none → a.window = true → a.req = none → t.win.busy = true → exec (.objectAccessMessage d) s =
        .next { t with win := { t.win with answer := some (r.status, r.result, r.data) } }) ∧
      (∀ n, a.asn = none → a.window = false → a.req = some n →
        exec (.objectAccessMessage d) s = .next (t.linkAnswerObj n r)) ∧
      (∀ n sl, a.asn = some n → a.window = false → a.req = none → t.slots.find? n = some sl → sl.traced = false →
        sl.op = (if a.write then 0x43 else 0x42) → sl.ready 0 = true → exec (.objectAccessMessage d) s =
          .next (t.ends n 0 fun p => { p with
            status := r.status, result := BitVec.ofNat 64 r.result, data := r.data
            detail := if r.status = St.objectStateConflict then BitVec.ofNat 32 r.result else 0 }))) ∧
    ∀ key, Runs (.domainSessionTimeout d key) s fun t =>
      t = { s with sessions := t.sessions } ∧
      ∀ x, x ∈ t.sessions ↔ x ∈ s.sessions ∧ (x.die = d → x.key ≠ key)) ∧
  (∀ v, s.shut = false →
    (v ≠ 1 → exec (.restoreDefaults v) s = .next { s with reply := { status := St.valueInvalid } }) ∧
    (v = 1 → ∃ (u : State) (skipped : Nat), exec (.restoreDefaults v) s = .next
        { (u.put Obj.restoreSkipped 0 skipped).put Obj.restoreResult 0 (if skipped = 0 then 0 else 12) with reply := {} } ∧
      (u, skipped) = s.restoreAll)) ∧
  (∀ o sub i, o.acc = .rw → o.default sub ≠ s.value o sub i → o ∉ [Obj.setRpm, Obj.coastRpm,
      Obj.phaseLockEnable, Obj.bwWindow, Obj.bwWindowUnit, Obj.traceSeed, Obj.traceK, Obj.writeFailed, Obj.hdaPowerTarget,
      Obj.counterEvent, Obj.counterValue, Obj.writeDelayAu, Obj.maGain, Obj.vcmGainTrim, Obj.elecOffset] →
    s.restoreOne o sub i = (s.putSub o sub i (o.default sub), false)) ∧
  (∀ d, (s.die d).anyLoaded = true → s.value Obj.setRpm Obj.setRpm.sub (dieInst d) ≠ Obj.setRpm.default Obj.setRpm.sub →
    s.restoreOne Obj.setRpm Obj.setRpm.sub (dieInst d) = (s, true))

/-- R377 to R379, R446, R501 and the registers of the dies' windows: reads and writes of a diagnostic window, which a
member die performs when the tunnelled access reaches it, and writes of BAR0. -/
def Obligations.RegisterAccesses : Prop := ∀ (s : State) (d : DieId) (off : Nat) (v : BitVec 32),
  let x := s.die d
  let read := fun (bits : Nat) => ({ status := St.success, result := BitVec.ofNat 64 bits, data := leBytes 4 bits } : Reply)
  (s.shut = false → off % 4 = 0 → off < 4194304 →
    (s.fitted d = false → exec (.diagWindowAccess d off .w32 none) s = .next { s with reply := read 0 }) ∧
    (s.fitted d = true → s.isolated d = true → off ≠ 0x2500 →
      exec (.diagWindowAccess d off .w32 none) s = .next { s with reply := read 4294967295 } ∧
      exec (.diagWindowAccess d off .w32 (some (v.setWidth 64))) s = .next { s with reply := {} }) ∧
    (s.fitted d = true → s.isolated d = true →
      exec (.diagWindowAccess d 0x2500 .w32 none) s = .next { s with reply := read (dieStatus x) }) ∧
    (s.fitted d = true → s.isolated d = false → d.val = 0 →
      (off ≠ 0x2008 → off ≠ 0x200C →
        exec (.diagWindowAccess d off .w32 none) s = .next { s with reply := read (s.diagWord d off) }) ∧
      exec (.diagWindowAccess d 0x2008 .w32 none) s = .next { s.setDie d { x with
        clock := { x.clock with ptime := BitVec.ofNat 64 (s.timeNs d) } } with reply := read (s.diagWord d 0x2008) } ∧
      (off ≠ 0x2280 → exec (.diagWindowAccess d off .w32 (some (v.setWidth 64))) s =
        .next { s.setDie d (x.diagWrite off v) with reply := {} })) ∧
    (s.fitted d = true → s.isolated d = false → d.val ≠ 0 → ∀ size wr, size = .w32 →
      (s.diag.contains d.val = true → exec (.diagWindowAccess d off size wr) s = .next s) ∧
      (s.diag.contains d.val = false → exec (.diagWindowAccess d off size wr) s =
        .next ({ s with diag := s.diag.insert d.val (off, size, wr) }.emit (.fabric 0 d 0x03 (BitVec.ofNat 64 off)))))) ∧
  (s.fitted d = true →
    (s.diag.find? d.val = none → exec (.diagWindowResponse d) s = .next s) ∧
    (s.isolated d = false → d.val ≠ 0 →
      (s.diag.find? d.val = some (off, .w32, none) → off ≠ 0x2008 → off ≠ 0x200C → exec (.diagWindowResponse d) s =
        .next { ({ s with diag := s.diag.erase d.val }.emit (.fabric d 0 0x13 (BitVec.ofNat 64 off))) with
          reply := read (s.diagWord d off) }) ∧
      (s.diag.find? d.val = some (off, .w32, some (v.setWidth 64)) → off ≠ 0x2280 → exec (.diagWindowResponse d) s =
        .next { (({ s with diag := s.diag.erase d.val }.emit (.fabric d 0 0x13 (BitVec.ofNat 64 off))).setDie d
          (x.diagWrite off v)) with reply := {} }))) ∧
  (x.diagWrite 0x2500 v = { x with
    reconciled := x.reconciled && !v.getLsbD 16, gap := x.gap && !v.getLsbD 17, woken := x.woken && !v.getLsbD 18 }) ∧
  (x.diagWrite 0x2248 v = { x with eng := { x.eng with faults := x.eng.faults &&& ~~~(v.setWidth 28) } }) ∧
  (s.shut = false →
    let write := fun (a : Nat) (w : BitVec 32) => exec (.registerWrite a .w32 (w.setWidth 64)) s
    (∀ a, a % 4 ≠ 0 → write a v = .next s) ∧
    (s.host.enable = false → s.host.shutdown = 0 → write 0x10 1 = exec .pkgEnable s) ∧
    (s.host.enable = true → write 0x10 0 = exec .pkgDisable s) ∧
    (s.host.enable = true → s.host.shutdown = 0 →
      write 0x10 3 = exec .shutdownNormal s ∧ write 0x10 5 = exec .shutdownAbrupt s) ∧
    write 0x14 v = .next { s with host := { s.host with doorbellErr := s.host.doorbellErr && !v.getLsbD 8 } } ∧
    (s.host.enable = true → write 0x18 v = .next s) ∧
    (s.host.enable = false → write 0x18 v = .next { s with host := { s.host with
      asqSize := v.extractLsb' 0 13, acqSize := v.extractLsb' 16 13 } }) ∧
    (∀ q, q < 512 → write (0x100000 + 16 * q) v = exec (.sqTailDoorbell q v) s ∧
      write (0x100008 + 16 * q) v = exec (.cqHeadDoorbell q v) s) ∧
    (∀ n, n < 2048 → let e := s.msix.getD n {}
      write (0x1008 + 16 * n) v = .next { s with msix := s.msix.insert n { e with data := v } } ∧
      (v.getLsbD 0 = true → write (0x100C + 16 * n) v = .next { s with msix := s.msix.insert n { e with masked := true } }) ∧
      (v.getLsbD 0 = false → write (0x100C + 16 * n) v = exec (.msixVectorUnmask n) s)) ∧
    (∀ i, i < 32 → ∃ t, write (0xC000 + 4 * i) v = .next t ∧ t = { s with evtPending := t.evtPending } ∧
      ∀ n, t.evtPending.getD n false = (if n / 32 = i ∧ v.getLsbD (n % 32) = true ∧ s.fitted (sourceDie n) = true then false
        else s.evtPending.getD n false)) ∧
    write 0x10000 v = .next { s with win := { s.win with
      index := v.extractLsb' 0 16, sub := v.extractLsb' 16 8, inst := v.extractLsb' 24 8 } } ∧
    (∀ e : DieId, ∀ w, off % 4 = 0 → off < 4194304 → exec (.registerWrite (0x1000000 + 4194304 * e.val + off) .w32 w) s =
      exec (.diagWindowAccess e off .w32 (some w)) s))

/-- R380, R382, R395: doorbells move tail and head, or are refused and reported; CREATE QUEUE and DELETE QUEUE; a
vector that is unmasked sends what was pending; the coalescing time sends the count. -/
def Obligations.QueuesAndVectors : Prop := ∀ (s : State) (asn : Nat) (sl : Slot),
  (s.shut = false → ∀ (q : Nat) (v : BitVec 32),
    let bad := fun (c : Instr) => Runs c s fun t => t.host = { s.host with doorbellErr := true } ∧
      t.get Obj.doorbellInvalidCount 0 = min 4294967295 (s.get Obj.doorbellInvalidCount 0 + 1) ∧
      Logged 0 Ev.doorbellInvalid.src Ev.doorbellInvalid s t ∧
      Reported [Obj.doorbellInvalidCount] 0 { s with host := t.host } t
    (∀ x, s.sqs.find? q = some x → x.deleting = false → v.toNat < x.size →
      exec (.sqTailDoorbell q v) s = .next { s with sqs := s.sqs.insert q { x with tail := v.toNat } }) ∧
    (∀ x, s.sqs.find? q = some x → x.size ≤ v.toNat → bad (.sqTailDoorbell q v)) ∧
    (s.sqs.find? q = none → bad (.sqTailDoorbell q v)) ∧
    (∀ c, s.cqs.find? q = some c → c.held = [] → v.toNat < c.size →
      (v.toNat + c.size - c.head) % max 1 c.size ≤ c.used →
      exec (.cqHeadDoorbell q v) s = .next { s with cqs := s.cqs.insert q { c with head := v.toNat } }) ∧
    (∀ c, s.cqs.find? q = some c → c.size ≤ v.toNat ∨ c.used < (v.toNat + c.size - c.head) % max 1 c.size →
      bad (.cqHeadDoorbell q v)) ∧
    (s.cqs.find? q = none → bad (.cqHeadDoorbell q v))) ∧
  (s.slots.find? asn = some sl → sl.ready 0 = true → sl.traced = false →
    let e := sl.entry
    let q := eVs e 0 2
    let base := (descOf (eDptr e 0)).addr
    let done := fun (u : State) => Host.Outcome.next (u.ends asn 0 fun p =>
      { p with status := St.success, result := 0, data := [] })
    let fails := fun (st : BitVec 16) => Host.Outcome.next (s.ends asn 0 fun p => { p with status := st, lba := none })
    (sl.op = 0x44 → eVs e 2 1 % 2 = 0 →
      (s.sqs.contains q = true → exec (.createSq asn) s = fails St.queueExists) ∧
      (s.sqs.contains q = false → eVs e 6 2 = 0 ∨ s.cqs.contains (eVs e 6 2) = false →
        exec (.createSq asn) s = fails St.invalidQueueId) ∧
      (s.sqs.contains q = false → eVs e 6 2 ≠ 0 → s.cqs.contains (eVs e 6 2) = true → base % 4096 ≠ 0 →
        exec (.createSq asn) s = fails St.invalidField) ∧
      (s.sqs.contains q = false → eVs e 6 2 ≠ 0 → s.cqs.contains (eVs e 6 2) = true → base % 4096 = 0 →
        let new : Sq :=
          { size := eVs e 4 2, base := BitVec.ofNat 64 base, cq := eVs e 6 2, frozenModel := (eVs e 2 1).testBit 2 }
        exec (.createSq asn) s = done { s with sqs := s.sqs.insert q new })) ∧
    (sl.op = 0x44 → eVs e 2 1 % 2 = 1 →
      (s.cqs.contains q = true → exec (.createCq asn) s = fails St.queueExists) ∧
      (s.cqs.contains q = false → base % 4096 = 0 →
        let new : Cq :=
          { size := eVs e 4 2, base := BitVec.ofNat 64 base, vector := eVs e 6 2, ien := (eVs e 2 1).testBit 1
            aggCount := eVs e 8 1 + 1, aggTime := eVs e 10 2 }
        exec (.createCq asn) s = done { s with cqs := s.cqs.insert q new })) ∧
    (sl.op = 0x45 → eVs e 2 1 % 2 = 1 → q ≠ 0 → s.cqs.contains q = true →
      ((∃ x ∈ s.sqs.entries, x.2.cq = q) → exec (.deleteCq asn) s = fails St.queueInUse) ∧
      ((∀ x ∈ s.sqs.entries, x.2.cq ≠ q) → exec (.deleteCq asn) s = done { s with cqs := s.cqs.erase q })) ∧
    (sl.op = 0x45 → eVs e 2 1 % 2 = 0 →
      (q = 0 ∨ s.sqs.find? q = none → exec (.deleteSq asn) s = fails St.invalidQueueId) ∧
      (∀ x, q ≠ 0 → s.sqs.find? q = some x → x.deleting = false → exec (.deleteSq asn) s =
        .next (({ s with
          sqs := s.sqs.insert q { x with deleting := true, drawWait := none }
          waiters := s.waiters.filter fun w => w.1 != q }.ends asn 0 fun p =>
            { p with status := St.success, result := 0, data := [] }).sqSweep q)))) ∧
  (∀ v, s.shut = false → v < 2048 →
    let e := { s.msix.getD v {} with masked := false }
    (s.pba.getD v false = false → exec (.msixVectorUnmask v) s = .next { s with msix := s.msix.insert v e }) ∧
    (s.pba.getD v false = true → exec (.msixVectorUnmask v) s =
      .next ({ s with msix := s.msix.insert v e, pba := s.pba.erase v }.emit (.msix v e.addr e.data)))) ∧
  (∀ q c, s.cqs.find? q = some c →
    (c.ien = true → c.count ≠ 0 → exec (.cqCoalesceTimeout q) s =
      .next ({ s with cqs := s.cqs.insert q { c with count := 0 } }.vector c.vector)) ∧
    (c.ien = false ∨ c.count = 0 → exec (.cqCoalesceTimeout q) s = .next s))

/-- R376, R378, R379: a function reset clears the host's side and leaves the dies; ENABLE, the ends of it, D3hot, and
the two shutdowns, of which the normal one waits until nothing is dirty. -/
def Obligations.HostEnablesAndShutsDown : Prop := ∀ s : State, s.shut = false →
  let cleared := fun (t : State) => t.sqs = {} ∧ t.cqs = {} ∧ t.win = {} ∧ t.host.enable = false ∧ t.host.ready = false ∧
    t.host.adminReady = false ∧ t.host.shutdownStatus = 0 ∧ (∀ n e, t.msix.find? n = some e → e.masked = true) ∧
    (∀ x ∈ t.sessions, x.src = .manager) ∧ (∀ a sl, t.slots.find? a = some sl → sl.orphan = true) ∧
    t.objs = s.objs ∧ t.fw = s.fw ∧ t.mgmt = s.mgmt ∧ t.evtRoute = s.evtRoute ∧
    ∀ d, (t.die d).data = (s.die d).data ∧ (t.die d).spin = (s.die d).spin ∧ (t.die d).life = (s.die d).life
  let h := s.host
  (h.fatal = false → Runs .functionLevelReset s cleared ∧ Runs .pciePerstAssert s cleared) ∧
  (h.fatal = true → ∃ u : State, exec .functionLevelReset s = .next u.bootRom ∧ exec .pciePerstAssert s = .next u.bootRom ∧
    u.slots = {} ∧ u.sqs = {} ∧ u.cqs = {} ∧ u.asn = s.asn) ∧
  exec .d3hotEntry s = .next { s with host := { h with d3hot := true } } ∧
  (h.enable = true → exec .pkgEnable s = .next s ∧ exec .pkgDisable s = exec .functionLevelReset s) ∧
  (h.enable = false → exec .pkgDisable s = .next s ∧
    (h.sizesOk = false → exec .pkgEnable s = .next { s with host := { h with enable := true, fatal := true } }) ∧
    (h.sizesOk = true → Runs .pkgEnable s fun t => t.host.enable = true ∧ t.dies = s.dies ∧ t.slots = s.slots ∧
      ((s.die 0).recordsRead = false → h.adminReady = false → t = { s with host := { h with enable := true } }) ∧
      ((s.die 0).recordsRead = true → h.adminReady = false → h.fatal = false →
        t.host.adminReady = true ∧ (h.bootReady = true → t.host.ready = true) ∧
        t.sqs = s.sqs.insert 0 { size := h.asqSize.toNat, base := h.asqBase, cq := 0, frozenModel := false } ∧
        t.cqs = s.cqs.insert 0
          { size := h.acqSize.toNat, base := h.acqBase, vector := 0, ien := true, aggCount := 1, aggTime := 0 }))) ∧
  exec .shutdownAbrupt s = .next { s with host := { h with shutdown := 2, shutdownStatus := 1 } } ∧
  (Runs .shutdownNormal s fun t => t.host = { h with shutdown := 1, shutdownStatus := 1 } ∧ t.slots = s.slots ∧
    ∀ d, s.fitted d = true → (t.die d).data = { (s.die d).data with zones := (t.die d).data.zones } ∧
      ∀ z v, (s.die d).data.zones.find? z = some v → (t.die d).data.zones.find? z =
        some (if v.awp ≠ 0 ∧ v.top.huskKib ≠ 0 then { v with short := true } else v)) ∧
  (h.shutdownStatus = 1 →
    let done := { s with host := { h with shutdownStatus := 2 } }
    (h.shutdown ≠ 1 → exec .shutdownComplete s = .next done) ∧
    ((∀ d, s.fitted d = true → s.shutDone d = true) → exec .shutdownComplete s = .next done) ∧
    (h.shutdown = 1 → ∀ d, s.fitted d = true → s.shutDone d = false → exec .shutdownComplete s = .next s)) ∧
  (h.shutdownStatus ≠ 1 → exec .shutdownComplete s = .next s)

/-- R384, R385, R390, R394, R418: the completion of a verb goes into its queue's next entry with the head of its
submission queue, or waits for room; the slot is given back, a queue of the frozen model freezes on a status that is
not SUCCESS, and the error log takes it. -/
def Obligations.CompletionsPost : Prop := ∀ (s : State) (asn : Nat) (sl : Slot) (y : Sq) (c : Cq) (status : BitVec 16)
  (result : BitVec 64) (info : ErrInfo), s.slots.find? asn = some sl → sl.decided = false → sl.orphan = false →
  sl.waitsFor = none → sl.traced = false → s.sqs.find? sl.sq = some y → s.cqs.find? y.cq = some c → y.deleting = false →
  (∀ e ∈ s.slots.entries, e.2.waitsFor ≠ some asn) →
  let t := s.settleVerb asn status result info
  (statusMore status = true → ∃ e : ErrEntry, t.errors = (e :: s.errors).take 256 ∧ e.status = status ∧ e.asn = sl.asn ∧
    e.sq = sl.sq ∧ e.count = s.errorCount + 1) ∧
  (statusMore status = false → t.errors = s.errors) ∧
  (c.full = true ∨ c.held ≠ [] → t.cqs = s.cqs.insert y.cq { c with held := c.held ++ [asn] } ∧ t.out = s.out ∧
    t.sqs = s.sqs ∧ t.slots = s.slots.insert asn { sl with decided := true, status := status, result := result }) ∧
  (c.full = false → c.held = [] →
    Out.cqe y.cq c.tail (cqeBits result y.head sl.sq status c.phase (eCid sl.entry)) ∈ t.out ∧
    t.sqs = s.sqs.insert sl.sq (y.freeze status s.asn) ∧
    (sl.parts.all (·.delivered) = true → t.slots.find? asn = none) ∧
    (sl.parts.all (·.delivered) = false → t.slots.find? asn =
      some { sl with decided := true, status := status, result := result, orphan := true }) ∧
    ∃ c' : Cq, t.cqs = s.cqs.insert y.cq c' ∧ c'.tail = (c.tail + 1) % max 1 c.size ∧ c'.head = c.head ∧
      c'.phase = (if c'.tail = 0 then !c.phase else c.phase) ∧ (c'.count = 0 ∨ c'.count = c.count + 1))

/-- R394, R422 to R424, R587: ABORT and VERB_TIMEOUT end a verb whose outcome is its commit point and leave another to
its end; QUEUE RESUME thaws a frozen queue once its verbs have posted. -/
def Obligations.VerbsEndEarly : Prop := ∀ (s : State) (asn : Nat) (sl : Slot), s.slots.find? asn = some sl →
  (sl.decided = true ∨ sl.orphan = true → exec (.verbTimeout asn) s = .next s) ∧
  (sl.decided = false → sl.orphan = false →
    (lateCommit sl.op = false → exec (.verbTimeout asn) s =
      .next ({ s with slots := s.slots.insert asn { sl with waitsFor := none } }.settleVerb asn St.verbTimeout 0 {})) ∧
    (lateCommit sl.op = true → sl.op ≠ 1 → sl.op ≠ 5 → exec (.verbTimeout asn) s = .next (((s.cancelParts asn).modSlot asn
      fun sl => { sl with waitsFor := none }).settleVerb asn St.verbTimeout 0 {}))) ∧
  (sl.ready 0 = true → sl.traced = false →
    let ended := fun (u : State) st r => Host.Outcome.next (u.ends asn 0 fun p => { p with status := st, result := r })
    let fails := fun (st : BitVec 16) => Host.Outcome.next (s.ends asn 0 fun p => { p with status := st, lba := none })
    let q := eVs sl.entry 0 2
    (sl.op = 0x46 → s.abortTarget q (eVs sl.entry 2 2) = none → exec (.abort asn) s = fails St.targetNotFound) ∧
    (∀ t, sl.op = 0x46 → s.abortTarget q (eVs sl.entry 2 2) = some t →
      let waits := { s with slots := s.slots.insert asn { sl with waitsFor := some t.asn } }
      (t.decided = true → exec (.abort asn) s = ended waits St.targetNotFound 1) ∧
      (t.decided = false → lateCommit t.op = false → exec (.abort asn) s =
        ended { s with slots := s.slots.insert asn { sl with waitsFor := none } } St.targetNotFound 1) ∧
      (t.decided = false → lateCommit t.op = true → exec (.abort asn) s =
        .next (((waits.ends asn 0 fun p => { p with status := St.success, result := 0, data := [] }).cancelParts
          t.asn).settleVerb t.asn St.aborted 0 {}))) ∧
    (sl.op = 0x4D → ∀ x, q ≠ 0 → s.sqs.find? q = some x →
      let to_ := eVs sl.entry 4 2
      (x.state ≠ .frozen → eVs sl.entry 2 1 = 0 → exec (.queueResumeEntry asn) s = fails St.queueNotFrozen) ∧
      (x.state = .frozen → eVs sl.entry 2 1 = 0 → to_ < x.size →
        (to_ + max 1 x.size - x.head) % max 1 x.size ≤ (x.tail + max 1 x.size - x.head) % max 1 x.size →
        exec (.queueResumeEntry asn) s = .next { s with
          sqs := s.sqs.insert q { x with state := .resuming, resume := some (asn, false, to_) } }) ∧
      (x.state = .frozen → eVs sl.entry 2 1 = 1 → exec (.queueResumeFlush asn) s = .next { s with
        sqs := s.sqs.insert q { x with state := .resuming, resume := some (asn, true, sl.savedAwp) } }))) ∧
  (∀ q x flush to_ (entries : List (BitVec 512)), s.sqs.find? q = some x → x.resume = some (asn, flush, to_) →
    sl.traced = false →
    let thawed := fun (u : State) => Host.Outcome.next ({ u with
      sqs := u.sqs.insert q { x with
        state := .running, resume := none, head := to_, headWaiting := false, attemptTime := 0, drawWait := none
        drawFailed := none }
      waiters := u.waiters.filter fun w => w.1 != q }.ends asn 0 fun p =>
        { p with status := St.success, result := 0, data := [] })
    ((∃ e ∈ s.slots.entries, e.2.sq = q ∧ e.2.orphan = false) → exec (.queueResumeExecute q entries) s = .next s) ∧
    ((∀ e ∈ s.slots.entries, e.2.sq = q → e.2.orphan = true) →
      (flush = false → exec (.queueResumeExecute q entries) s = thawed s) ∧
      (flush = true → (to_ + x.size - x.head) % max 1 x.size = 0 → exec (.queueResumeExecute q entries) s = thawed s) ∧
      (∀ e c, flush = true → entries = [e] → (to_ + x.size - x.head) % max 1 x.size = 1 → s.cqs.find? x.cq = some c →
        c.full = false → c.held = [] → exec (.queueResumeExecute q entries) s =
          thawed (s.putEntry x.cq q to_ 0 St.queueFlushed (eCid e))) ∧
      (∀ e c, flush = true → entries = [e] → (to_ + x.size - x.head) % max 1 x.size = 1 → s.cqs.find? x.cq = some c →
        c.full = true → exec (.queueResumeExecute q entries) s =
          .next { s with sqs := s.sqs.insert q { x with head := x.head % max 1 x.size } })))

/-- R339 to R342, R381, R402: an attempt to admit a queue's head entry: the first check that fails decides it, missing
resources leave it waiting, else it takes the next ASN and its parts go to their dies. Segment draws; allowances;
releases, which evict clean blocks alone. -/
def Obligations.AdmissionOfVerbs : Prop := ∀ s : State,
  (∀ q entry lists src, s.fetches q = false → exec (.admitVerb q entry lists src) s = .next s) ∧
  (∀ q x entry lists src, s.fetches q = true → s.offer = none → s.sqs.find? q = some x → x.drawFailed = none →
    let c := s.slots.keys.foldl (fun (u : State) a => u.sanitizeTake a) s.zonesCatchUp
    let at_ := if x.headWaiting then x.attemptTime else c.now
    let u := { c with offer := none, sqs := c.sqs.insert q { x with attemptTime := at_, drawWait := none } }
    let sl : Slot := { asn := u.asn, sq := q, entry, lists, src, parts := [], lba := eLba entry, attemptTime := at_ }
    let run := exec (.admitVerb q entry lists src) s
    (65536 ≤ u.slots.size → run = .next (u.admitWait q)) ∧
    (u.slots.size < 65536 →
      (opKnown q sl.op = false → u.firstFail sl = some (St.invalidOpcode, {})) ∧
      (∀ f, u.firstFail sl = some f → run = .next ((u.takeEntry { sl with fixed := some f.1, parts := [] }).reject u.asn f.1 f.2)) ∧
      (u.firstFail sl = none → u.mustWait sl = true → writeOp sl.op = false → x.headWaiting = false →
        Runs (.admitVerb q entry lists src) s fun t => t.waiters = u.waiters ++ [(q, u.now)] ∧ t.slots = u.slots ∧
          t.asn = u.asn ∧ t.sqs.find? q = some { x with attemptTime := at_, drawWait := none, headWaiting := true } ∧
          t.get Obj.admissionWaits 0 = min Obj.admissionWaits.typ.top (u.get Obj.admissionWaits 0 + 1)) ∧
      (u.firstFail sl = none → u.mustWait sl = false → sl.op = 0x48 ∨ sl.op = 0x44 ∨ sl.op = 0x47 →
        Runs (.admitVerb q entry lists src) s fun t => t.asn = u.asn + 1 ∧
          t.sqs.find? q = some { x with
            head := (x.head + 1) % max 1 x.size, headWaiting := false, attemptTime := 0, drawWait := none } ∧
          ∃ v : Slot, t.slots.find? u.asn = some v ∧ v.entry = entry ∧ v.sq = q ∧ v.asn = u.asn ∧
            v.parts = [{ die := 0, received := true }] ∧ v.fixed = none ∧ v.decided = false ∧ v.orphan = false))) ∧
  (∀ q, (s.sqs.find? q).bind (·.drawWait) = none → exec (.segmentDrawRequest q) s = .next s) ∧
  (∀ q x d z need, s.sqs.find? q = some x → x.drawWait = some (d, z, need) →
    let v := s.zone d z
    let drawn := fun (u : State) => Host.Outcome.next { u with sqs := u.sqs.insert q { x with drawWait := none } }
    (need ≤ s.room d v.top → exec (.segmentDrawRequest q) s = drawn s) ∧
    (s.room d v.top < need → s.drawChoice d z v.top true = .stale → exec (.segmentDrawRequest q) s =
      .next { s with sqs := s.sqs.insert q { x with drawWait := none, drawFailed := some St.calibrationStale } }) ∧
    (s.room d v.top < need → s.drawChoice d z v.top true = .exhausted → v.top.reserved ≠ 0 →
      exec (.segmentDrawRequest q) s = .next s) ∧
    (∀ n a, s.room d v.top < need → s.drawChoice d z v.top true = .seg n a →
      need ≤ (s.takeSegment d z n a).room d ((s.takeSegment d z n a).zone d z).top →
      (s.takeSegment d z n a).sqs = s.sqs → exec (.segmentDrawRequest q) s = drawn (s.takeSegment d z n a))) ∧
  (∀ (d : DieId) kind n, s.fitted d = true →
    let u := s.send d 0 0x25 n
    let free := u.dieFree d
    let x := s.die d
    (x.inService = false → exec (.allowanceUpdate d kind n) s = .next u) ∧
    (x.inService = true → exec (.allowanceUpdate d kind n) s =
      .next (u.setDie d { x with mirror := x.mirror.add free kind n }).freed) ∧
    (x.mirror.add free .dispatchSlots n = { x.mirror with slots := min free.slots (x.mirror.slots + n) }) ∧
    (kind ≠ .cacheBytes → x.inService = true → Runs (.resourceRelease d kind n) s fun t =>
      (t.die d).data = x.data ∧ ∀ e, e ≠ d → t.die e = s.die e) ∧
    (kind = .cacheBytes → Runs (.resourceRelease d kind n) s fun t =>
      (∀ b vs w, x.data.wc.find? b = some vs → w ∈ vs → w.dirty = true ∨ w.staging = true →
        ∃ ws, (t.die d).data.wc.find? b = some ws ∧ w ∈ ws) ∧
      (∀ b ws w, (t.die d).data.wc.find? b = some ws → w ∈ ws → ∃ e ∈ x.data.wc.entries, e.1 = b ∧ w ∈ e.2) ∧
      (t.die d).data = { x.data with wc := (t.die d).data.wc } ∧ ∀ e, e ≠ d → t.die e = s.die e))

/-- R448: packets are assembled into a message; one that fails its PEC is counted, one that does not continue the
message in hand discards it. R448, R450, R452: a control command is answered with its code, unless its request is
dropped and counted. -/
def Obligations.MctpPacketsAndControl : Prop := ∀ (s : State) (src : BitVec 8), s.shut = false →
  (∀ eid som eom seq tag (body : List Byte), let m := s.mgmt
    let run := exec (.mctpPacketReceive eid true som eom seq tag body) s
    (exec (.mctpPacketReceive eid false som eom seq tag body) s = .next (s.bump Obj.pecErrorCount 0)) ∧
    (som = true → eom = true → body.length ≤ 4160 →
      run = .next { s with mgmt := { m with assembling := none, message := some (eid, body) } }) ∧
    (som = true → eom = false → body.length ≤ 4160 →
      run = .next { s with mgmt := { m with assembling := some (eid, tag, seq + 1, body) } }) ∧
    (∀ e t n (bs : List Byte), som = false → m.assembling = some (e, t, n, bs) →
      (e = eid → t = tag → n = seq → (bs ++ body).length ≤ 4160 →
        (eom = true → run = .next { s with mgmt := { m with assembling := none, message := some (eid, bs ++ body) } }) ∧
        (eom = false → run = .next { s with mgmt := { m with assembling := some (eid, tag, seq + 1, bs ++ body) } })) ∧
      (e ≠ eid ∨ t ≠ tag ∨ n ≠ seq ∨ 4160 < (bs ++ body).length →
        run = .next { s with mgmt := { m with assembling := none } }))) ∧
  (let seen := s.countStranger src
    let commands : List Instr := [.getEndpointId src, .getEndpointUuid src, .getMctpVersionSupport src,
      .getMessageTypeSupport src, .getVendorDefinedMsgSupport src, .mctpUnsupportedCommand src 0x42, .setEndpointId src 9,
      .mctpGetObject src [1, 1], .mctpSetObject src [1, 2]]
    (s.isManager src = true → seen = s) ∧
    (seen.linkFull src = true → ∀ c ∈ commands, exec c s = .next (seen.bump Obj.unknownDroppedCount 0)) ∧
    (seen.linkFull src = false → s.mgmt.reqs = [] → ∀ code : BitVec 8, ∀ eid : BitVec 8,
      let answered := fun (cmd st : BitVec 8) (data : List Byte) => Host.Outcome.next { seen with mgmt := { seen.mgmt with
        nextReq := seen.mgmt.nextReq + 1
        held := seen.mgmt.held ++ [(src, [0, 0, cmd, st] ++ data, seen.now)] } }
      exec (.getEndpointId src) s = answered 2 0 [s.mgmt.eid, 0, 0] ∧
      exec (.getEndpointUuid src) s = answered 3 0 packageUuid ∧
      exec (.getMctpVersionSupport src) s = answered 4 0 (Config.deviceUnique 9 0) ∧
      exec (.getMessageTypeSupport src) s = answered 5 0 [1, 0x7F] ∧
      exec (.getVendorDefinedMsgSupport src) s =
        answered 6 0 ([0xFF, 1] ++ (leBytes 4 ianaNumber).reverse ++ [0, 0]) ∧
      exec (.mctpUnsupportedCommand src code) s = answered code 5 [] ∧
      (eid.toNat < 8 ∨ eid = 0xFF ∨ (s.mgmt.eid ≠ 0 ∧ s.isManager src = false) →
        exec (.setEndpointId src eid) s = answered 1 1 []) ∧
      (8 ≤ eid.toNat → eid ≠ 0xFF → s.mgmt.eid = 0 ∨ s.isManager src = true → exec (.setEndpointId src eid) s =
        .next { seen with mgmt := { seen.mgmt with
          eid := eid, nextReq := seen.mgmt.nextReq + 1
          held := seen.mgmt.held ++ [(src, [0, 0, 1, 0, 0, eid, 0], seen.now)] } })))

/-- R449, R450, R452: an object request over the link: of the manager it is served, of a stranger one that writes is
UNTRUSTED_SOURCE and counted; its answer is held until it is read or its time is over. -/
def Obligations.MctpObjectRequests : Prop := ∀ (s : State) (src : BitVec 8) (body : List Byte), s.shut = false →
  let seen := s.countStranger src
  let op := body.getD 1 0
  let tag := body.getD 2 0
  let n := seen.mgmt.nextReq
  let request : LinkReq := { id := n, eid := src, tag := tag, op := op }
  let taken := { seen with mgmt := { seen.mgmt with
    reqs := seen.mgmt.reqs ++ [request], nextReq := n + 1 } }
  let run := fun (c : Instr) => exec c s
  (op = 1 → run (.mctpSetObject src body) = .next s) ∧ (op = 2 → run (.mctpGetObject src body) = .next s) ∧
  (seen.linkFull src = false →
    let serves := fun (c : Instr) (write : Bool) =>
      (body.getD 0 0 ≠ 1 → run c = .next (taken.linkAnswerObj n { status := St.invalidField })) ∧
      (body.getD 0 0 = 1 → linkBad body write = true → run c = .next (taken.linkAnswerObj n { status := St.invalidField })) ∧
      (linkBad body write = false →
        let a := linkAccess n body write
        (∀ d, taken.objTarget (taken.isManager src) a = some d → run c = .next (taken.forward d a)) ∧
        (taken.objTarget (taken.isManager src) a = none →
          let r := taken.objDo (taken.isManager src) none a
          run c = .next (((if r.2.status = St.untrustedSource then r.1.bump Obj.untrustedRefusedCount 0 else r.1)).linkAnswerObj
            n r.2)))
    (op = 1 → serves (.mctpGetObject src body) false) ∧ (op = 2 → serves (.mctpSetObject src body) true)) ∧
  (s.mgmt.reqs = [request] → ∀ r : ObjAns,
    s.linkAnswerObj n r = { s with mgmt := { s.mgmt with
      reqs := [], held := s.mgmt.held ++ [(src, [1, op ||| 0x80, tag, 0] ++ leBytes 2 r.status.toNat ++ [0, 0] ++
        leBytes 8 r.result ++ r.data, s.now)] } }) ∧
  (∀ h rest, s.mgmt.held = h :: rest →
    let dropped := { s with mgmt := { s.mgmt with held := rest, attempts := 0, waitUs := none, gaveUp := false } }
    run .mctpResponseRead = .next (dropped.emit (.mctp h.1 h.2.1)) ∧ run .responseHoldExpiry = .next dropped) ∧
  (s.mgmt.held = [] → run .mctpResponseRead = .next s)

/-- R447, R451, R454: in-band interrupts are attempted while a message is held, with waits of 16 µs doubled up to 256
times and an end after IBI_RETRY_LIMIT; the common command codes set and show the address, the events and the lengths.
-/
def Obligations.I3cInterruptsAndCodes : Prop := ∀ s : State, s.shut = false →
  let m := s.mgmt
  let idle := m.held = [] ∨ m.waitUs.isSome = true ∨ m.gaveUp = true
  (∀ n, ibiWait n = 16 * min (2 ^ n) 256) ∧
  (s.alerts = [] → (idle ∨ m.ibiEnabled = false ∨ m.dynAddr = 0 → exec .ibiRaise s = .next s) ∧
    (¬ idle → m.ibiEnabled = true → m.dynAddr ≠ 0 → exec .ibiRaise s = .next (s.emit .ibi))) ∧
  (∀ a rest, s.alerts = a :: rest → s.getN Obj.managerEid 0 ≠ 0 → m.held.length + m.reqs.length < 8 →
    Runs .ibiRaise s fun t => t.alerts = s.alerts.drop 16 ∧ ∃ bs, t.mgmt = { m with
      held := m.held ++ [(BitVec.ofNat 8 (s.getN Obj.managerEid 0), bs, s.now)] } ∧
      bs = [1, 0x90, 0, if (s.alerts.drop 16).isEmpty then 0 else 1, BitVec.ofNat 8 (s.alerts.take 16).length, 0, 0, 0] ++
        (s.alerts.take 16).flatMap (leBytes 2)) ∧
  (idle → exec .ibiFailed s = .next s) ∧
  (¬ idle → m.attempts + 1 < s.getN Obj.ibiRetryLimit 0 → exec .ibiFailed s =
    .next { s.bump Obj.ibiLostCount 0 with mgmt := { m with attempts := m.attempts + 1, waitUs := some (ibiWait m.attempts) } }) ∧
  (¬ idle → s.getN Obj.ibiRetryLimit 0 ≤ m.attempts + 1 → Runs .ibiFailed s fun t =>
    t.mgmt = { m with attempts := m.attempts + 1, gaveUp := true } ∧
    Logged 0 Ev.mctpIbiGiveup.src Ev.mctpIbiGiveup s t ∧
    Reported [Obj.ibiLostCount, Obj.ibiGiveupCount] 0 { s with mgmt := t.mgmt } t) ∧
  (m.waitUs = none → exec .ibiRetryWaitEnd s = .next s) ∧
  (m.waitUs.isSome = true → m.held ≠ [] → m.gaveUp = false → m.ibiEnabled = true → m.dynAddr ≠ 0 →
    exec .ibiRetryWaitEnd s = .next ({ s with mgmt := { m with waitUs := none } }.emit .ibi)) ∧
  (∀ addr : BitVec 7, exec (.entdaa addr) s = .next (if m.dynAddr = 0 then { s with mgmt := { m with dynAddr := addr } } else s)) ∧
  (∀ static addr : BitVec 7, exec (.setdasa static addr) s = .next (if m.dynAddr = 0 ∧ static.toNat = 0x30 + s.host.strapSa.toNat
    then { s with mgmt := { m with dynAddr := addr } } else s)) ∧
  exec .rstdaa s = .next { s with mgmt := { m with dynAddr := 0 } } ∧
  (∀ v : BitVec 8,
    exec (.enec v) s = .next { s with mgmt := { m with ibiEnabled := m.ibiEnabled || v.getLsbD 0 } } ∧
    exec (.disec v) s = .next { s with mgmt := { m with ibiEnabled := m.ibiEnabled && !(v.getLsbD 0) } } ∧
    exec (.i3cOtherCcc v) s = .next s) ∧
  (∃ bs, exec .getpid s = .next (s.emit (.ccc bs)) ∧ bs.length = 6 ∧ bs.drop 2 = (leBytes 4 (crc32c packageSerial)).reverse) ∧
  (∃ b : BitVec 8, exec .getbcr s = .next (s.emit (.ccc [b])) ∧ b.getLsbD 1 = true ∧ b.getLsbD 2 = true) ∧
  (∃ b : BitVec 8, exec .getdcr s = .next (s.emit (.ccc [b]))) ∧
  exec .getstatus s = .next (s.emit (.ccc [0, if m.held.isEmpty then 0 else 1])) ∧
  exec .getmrl s = .next (s.emit (.ccc [BitVec.ofNat 8 (m.mrl.toNat / 256), BitVec.ofNat 8 (m.mrl.toNat % 256)])) ∧
  exec .getmwl s = .next (s.emit (.ccc [BitVec.ofNat 8 (m.mwl.toNat / 256), BitVec.ofNat 8 (m.mwl.toNat % 256)])) ∧
  (∀ v : BitVec 16, exec (.setmrl v) s = .next { s with mgmt := { m with mrl := v } } ∧
    exec (.setmwl v) s = .next { s with mgmt := { m with mwl := v } })

/-- R33 to R41, R343, R374: an undefined flit is dropped and counted; a flit for another die goes on, on VC1, against
a credit; credits never pass the receive buffer; a link that is lost goes down at both ends and a die without a route
is isolated; the state of the PCIe link. -/
def Obligations.FabricFlitsAndLinks : Prop := ∀ (s : State) (d : DieId) (m : Fin 4) (hdr : BitVec 128), s.fitted d = true →
  let x := s.die d
  let to_ : DieId := Fin.ofNat 8 (hdr.toNat % 8)
  let from_ : DieId := Fin.ofNat 8 (hdr.toNat / 8 % 8)
  let cls := fabricClass (hdrClass hdr)
  (hdrInvalid hdr = true → exec (.fabricInvalidMessage d m hdr) s =
    .next (s.setDie d { x with linkErrors := x.linkErrors.modify m.val (· + 1) }) ∧
    exec (.fabricFlitForward d m hdr) s = .next s) ∧
  (hdrInvalid hdr = false → exec (.fabricInvalidMessage d m hdr) s = .next s) ∧
  (∀ c vc n, exec (.fabricCreditReturn d m c vc n) s = .next (s.setDie d { x with
      credits := x.credits.modify m.val fun k => k.change c vc (· + n) }) ∧
    ∀ k : Credits, let k' := k.change c vc (· + n)
      (c = .request → vc = true → k' = { k with req1 := min 128 (k.req1 + n) }) ∧
      (c = .response → vc = true → k' = { k with rsp1 := min 96 (k.rsp1 + n) }) ∧
      (c = .urgent → vc = true → k' = { k with urg1 := min 32 (k.urg1 + n) })) ∧
  (hdrInvalid hdr = false → to_ ≠ d → from_ ≠ d → s.linkUp d m = true → s.fitted to_ = true → s.fitted from_ = true →
    (∀ o, s.forwardModule d from_ to_ = some o →
      ((x.credits.getD o.val {}).vc1 cls = 0 → exec (.fabricFlitForward d m hdr) s = .next s) ∧
      ((x.credits.getD o.val {}).vc1 cls ≠ 0 → Runs (.fabricFlitForward d m hdr) s fun t =>
        Out.flit d o (hdr ||| (1#128 <<< 8)) ∈ t.out ∧ t.slots = s.slots ∧
        (t.die d).credits = x.credits.modify o.val (fun k => k.change cls true (· - 1)) ∧
        ∀ e, e ≠ d → t.die e = s.die e)) ∧
    (s.linksDown = [] → s.part = .kz6440 → from_.val + 2 = to_.val + 4 ∨ from_.val + 2 = to_.val →
      d.val = (from_.val + 1) % 4 → s.forwardModule d from_ to_ = some 0)) ∧
  (s.linkUp d m = false → exec (.fabricLinkDown d m) s = .next s) ∧
  (∀ e, s.linkUp d m = true → s.neighbor d m = some e → s.part ≠ .kz6420 →
    let u := { s with linksDown := s.linksDown ++ [(d, m), (e, s.peerModule m)] }
    ((∀ f, s.fitted f = true → u.routed f = true) → Runs (.fabricLinkDown d m) s fun t =>
      t.linksDown = u.linksDown ∧ t.slots = s.slots ∧ (t.die d).life = x.life ∧ t.linkUp d m = false ∧
      ∀ f, f ≠ d → t.die f = s.die f) ∧
    (∀ f, s.fitted f = true → u.routed f = false → Runs (.fabricLinkDown d m) s fun t =>
      t.linksDown = u.linksDown ∧ t.isolated f = true)) ∧
  (∀ gts width ppm, exec (.pcieLinkStateChange gts width ppm) s = .next { s with host := { s.host with
    gts := gts % 256, width := if gts = 0 then 0 else width % 256, refclkPpm := if gts = 0 then 0 else ppm } })
end

