-- ==== Sys2Proof/Laws/State.lean ====
section
/-! SUPPORT. What the updates of the state leave alone and what they set: one lemma per field per update. -/

namespace Sys2Proof.Machine

variable (s : State) (d e : DieId) (x y : Die) (f : Die → Die) (o : Out)

/-! ### Replacing a die -/

@[simp] theorem State.setDie_die_self : (s.setDie d x).die d = x := by simp [State.setDie, State.die]

@[simp] theorem State.setDie_die_ne (h : e ≠ d) : (s.setDie d x).die e = s.die e := by
  simp only [State.setDie, State.die]
  exact Vector.getElem_set_ne _ _ fun q => h (Fin.ext q.symm)

@[simp] theorem State.modDie_die_self : (s.modDie d f).die d = f (s.die d) := by simp [State.modDie]

@[simp] theorem State.modDie_die_ne (h : e ≠ d) : (s.modDie d f).die e = s.die e := by simp [State.modDie, h]

@[simp] theorem State.setDie_part : (s.setDie d x).part = s.part := rfl
@[simp] theorem State.setDie_pending : (s.setDie d x).pending = s.pending := rfl
@[simp] theorem State.setDie_out : (s.setDie d x).out = s.out := rfl
@[simp] theorem State.setDie_reply : (s.setDie d x).reply = s.reply := rfl
@[simp] theorem State.setDie_fresh : (s.setDie d x).fresh = s.fresh := rfl
@[simp] theorem State.setDie_host : (s.setDie d x).host = s.host := rfl
@[simp] theorem State.setDie_sqs : (s.setDie d x).sqs = s.sqs := rfl
@[simp] theorem State.setDie_cqs : (s.setDie d x).cqs = s.cqs := rfl
@[simp] theorem State.setDie_slots : (s.setDie d x).slots = s.slots := rfl
@[simp] theorem State.setDie_asn : (s.setDie d x).asn = s.asn := rfl
@[simp] theorem State.setDie_msix : (s.setDie d x).msix = s.msix := rfl
@[simp] theorem State.setDie_pba : (s.setDie d x).pba = s.pba := rfl
@[simp] theorem State.setDie_win : (s.setDie d x).win = s.win := rfl
@[simp] theorem State.setDie_diag : (s.setDie d x).diag = s.diag := rfl
@[simp] theorem State.setDie_objs : (s.setDie d x).objs = s.objs := rfl
@[simp] theorem State.setDie_doms : (s.setDie d x).doms = s.doms := rfl
@[simp] theorem State.setDie_saved : (s.setDie d x).saved = s.saved := rfl
@[simp] theorem State.setDie_rwr : (s.setDie d x).rwr = s.rwr := rfl
@[simp] theorem State.setDie_sessions : (s.setDie d x).sessions = s.sessions := rfl
@[simp] theorem State.setDie_evtRoute : (s.setDie d x).evtRoute = s.evtRoute := rfl
@[simp] theorem State.setDie_evtPending : (s.setDie d x).evtPending = s.evtPending := rfl
@[simp] theorem State.setDie_evtCount : (s.setDie d x).evtCount = s.evtCount := rfl
@[simp] theorem State.setDie_coal : (s.setDie d x).coal = s.coal := rfl
@[simp] theorem State.setDie_alerts : (s.setDie d x).alerts = s.alerts := rfl
@[simp] theorem State.setDie_errors : (s.setDie d x).errors = s.errors := rfl
@[simp] theorem State.setDie_errorCount : (s.setDie d x).errorCount = s.errorCount := rfl
@[simp] theorem State.setDie_trace : (s.setDie d x).trace = s.trace := rfl
@[simp] theorem State.setDie_lfsr : (s.setDie d x).lfsr = s.lfsr := rfl
@[simp] theorem State.setDie_traceFullSeen : (s.setDie d x).traceFullSeen = s.traceFullSeen := rfl
@[simp] theorem State.setDie_snapSeq : (s.setDie d x).snapSeq = s.snapSeq := rfl
@[simp] theorem State.setDie_snapT : (s.setDie d x).snapT = s.snapT := rfl
@[simp] theorem State.setDie_snapAction : (s.setDie d x).snapAction = s.snapAction := rfl
@[simp] theorem State.setDie_snapBlocks : (s.setDie d x).snapBlocks = s.snapBlocks := rfl
@[simp] theorem State.setDie_snapReqs : (s.setDie d x).snapReqs = s.snapReqs := rfl
@[simp] theorem State.setDie_snapGather : (s.setDie d x).snapGather = s.snapGather := rfl
@[simp] theorem State.setDie_fw : (s.setDie d x).fw = s.fw := rfl
@[simp] theorem State.setDie_mgmt : (s.setDie d x).mgmt = s.mgmt := rfl
@[simp] theorem State.setDie_spinHeld : (s.setDie d x).spinHeld = s.spinHeld := rfl
@[simp] theorem State.setDie_spinReq : (s.setDie d x).spinReq = s.spinReq := rfl
@[simp] theorem State.setDie_linksDown : (s.setDie d x).linksDown = s.linksDown := rfl
@[simp] theorem State.setDie_warm : (s.setDie d x).warm = s.warm := rfl
@[simp] theorem State.setDie_resetStart : (s.setDie d x).resetStart = s.resetStart := rfl
@[simp] theorem State.setDie_waiters : (s.setDie d x).waiters = s.waiters := rfl
@[simp] theorem State.setDie_offer : (s.setDie d x).offer = s.offer := rfl
@[simp] theorem State.setDie_restoring : (s.setDie d x).restoring = s.restoring := rfl
@[simp] theorem State.modDie_part : (s.modDie d f).part = s.part := rfl
@[simp] theorem State.modDie_pending : (s.modDie d f).pending = s.pending := rfl
@[simp] theorem State.modDie_out : (s.modDie d f).out = s.out := rfl
@[simp] theorem State.modDie_reply : (s.modDie d f).reply = s.reply := rfl
@[simp] theorem State.modDie_fresh : (s.modDie d f).fresh = s.fresh := rfl
@[simp] theorem State.modDie_host : (s.modDie d f).host = s.host := rfl
@[simp] theorem State.modDie_sqs : (s.modDie d f).sqs = s.sqs := rfl
@[simp] theorem State.modDie_cqs : (s.modDie d f).cqs = s.cqs := rfl
@[simp] theorem State.modDie_slots : (s.modDie d f).slots = s.slots := rfl
@[simp] theorem State.modDie_asn : (s.modDie d f).asn = s.asn := rfl
@[simp] theorem State.modDie_msix : (s.modDie d f).msix = s.msix := rfl
@[simp] theorem State.modDie_pba : (s.modDie d f).pba = s.pba := rfl
@[simp] theorem State.modDie_win : (s.modDie d f).win = s.win := rfl
@[simp] theorem State.modDie_diag : (s.modDie d f).diag = s.diag := rfl
@[simp] theorem State.modDie_objs : (s.modDie d f).objs = s.objs := rfl
@[simp] theorem State.modDie_doms : (s.modDie d f).doms = s.doms := rfl
@[simp] theorem State.modDie_saved : (s.modDie d f).saved = s.saved := rfl
@[simp] theorem State.modDie_rwr : (s.modDie d f).rwr = s.rwr := rfl
@[simp] theorem State.modDie_sessions : (s.modDie d f).sessions = s.sessions := rfl
@[simp] theorem State.modDie_evtRoute : (s.modDie d f).evtRoute = s.evtRoute := rfl
@[simp] theorem State.modDie_evtPending : (s.modDie d f).evtPending = s.evtPending := rfl
@[simp] theorem State.modDie_evtCount : (s.modDie d f).evtCount = s.evtCount := rfl
@[simp] theorem State.modDie_coal : (s.modDie d f).coal = s.coal := rfl
@[simp] theorem State.modDie_alerts : (s.modDie d f).alerts = s.alerts := rfl
@[simp] theorem State.modDie_errors : (s.modDie d f).errors = s.errors := rfl
@[simp] theorem State.modDie_errorCount : (s.modDie d f).errorCount = s.errorCount := rfl
@[simp] theorem State.modDie_trace : (s.modDie d f).trace = s.trace := rfl
@[simp] theorem State.modDie_lfsr : (s.modDie d f).lfsr = s.lfsr := rfl
@[simp] theorem State.modDie_traceFullSeen : (s.modDie d f).traceFullSeen = s.traceFullSeen := rfl
@[simp] theorem State.modDie_snapSeq : (s.modDie d f).snapSeq = s.snapSeq := rfl
@[simp] theorem State.modDie_snapT : (s.modDie d f).snapT = s.snapT := rfl
@[simp] theorem State.modDie_snapAction : (s.modDie d f).snapAction = s.snapAction := rfl
@[simp] theorem State.modDie_snapBlocks : (s.modDie d f).snapBlocks = s.snapBlocks := rfl
@[simp] theorem State.modDie_snapReqs : (s.modDie d f).snapReqs = s.snapReqs := rfl
@[simp] theorem State.modDie_snapGather : (s.modDie d f).snapGather = s.snapGather := rfl
@[simp] theorem State.modDie_fw : (s.modDie d f).fw = s.fw := rfl
@[simp] theorem State.modDie_mgmt : (s.modDie d f).mgmt = s.mgmt := rfl
@[simp] theorem State.modDie_spinHeld : (s.modDie d f).spinHeld = s.spinHeld := rfl
@[simp] theorem State.modDie_spinReq : (s.modDie d f).spinReq = s.spinReq := rfl
@[simp] theorem State.modDie_linksDown : (s.modDie d f).linksDown = s.linksDown := rfl
@[simp] theorem State.modDie_warm : (s.modDie d f).warm = s.warm := rfl
@[simp] theorem State.modDie_resetStart : (s.modDie d f).resetStart = s.resetStart := rfl
@[simp] theorem State.modDie_waiters : (s.modDie d f).waiters = s.waiters := rfl
@[simp] theorem State.modDie_offer : (s.modDie d f).offer = s.offer := rfl
@[simp] theorem State.modDie_restoring : (s.modDie d f).restoring = s.restoring := rfl

/-! ### Changing a part of a die: all are changes of the die -/

variable (h k : HeadId) (a : Act)

theorem State.modHead_eq (g : Head → Head) : s.modHead d h g = s.modDie d (·.modHead h g) := rfl
theorem State.modAct_eq (g : Actuator → Actuator) : s.modAct d a g = s.modDie d (·.modAct a g) := rfl
theorem State.modData_eq (g : DieData → DieData) : s.modData d g = s.modDie d fun x => { x with data := g x.data } := rfl
theorem State.modClock_eq (g : AngleClock → AngleClock) : s.modClock d g = s.modDie d fun x => { x with clock := g x.clock } := rfl
theorem State.modSpin_eq (g : Spindle → Spindle) : s.modSpin d g = s.modDie d fun x => { x with spin := g x.spin } := rfl
theorem State.modMem_eq (g : MemState → MemState) : s.modMem d g = s.modDie d fun x => { x with mem := g x.mem } := rfl
theorem State.modEng_eq (g : EngState → EngState) : s.modEng d g = s.modDie d fun x => { x with eng := g x.eng } := rfl
theorem State.modHk_eq (g : HkState → HkState) : s.modHk d g = s.modDie d fun x => { x with hk := g x.hk } := rfl
theorem State.modObs_eq (g : ObsState → ObsState) : s.modObs d g = s.modDie d fun x => { x with obs := g x.obs } := rfl

/-! ### Heads and actuators of a die -/

@[simp] theorem Die.setHead_head_self (v : Head) : (x.setHead h v).head h = v := by simp [Die.setHead, Die.head]

@[simp] theorem Die.setHead_head_ne (v : Head) (n : k ≠ h) : (x.setHead h v).head k = x.head k := by
  simp only [Die.setHead, Die.head]
  exact Vector.getElem_set_ne _ _ fun q => n (Fin.ext q.symm)

@[simp] theorem Die.modHead_head_self (g : Head → Head) : (x.modHead h g).head h = g (x.head h) := by simp [Die.modHead]

@[simp] theorem Die.modHead_head_ne (g : Head → Head) (n : k ≠ h) : (x.modHead h g).head k = x.head k := by
  simp [Die.modHead, n]

@[simp] theorem Die.modAct_act_self (g : Actuator → Actuator) : (x.modAct a g).act a = g (x.act a) := by cases a <;> rfl

@[simp] theorem Die.modAct_act_ne (g : Actuator → Actuator) (b : Act) (n : b ≠ a) : (x.modAct a g).act b = x.act b := by
  cases a <;> cases b <;> first | rfl | exact absurd rfl n

@[simp] theorem Die.modHead_life (g : Head → Head) : (x.modHead h g).life = x.life := rfl
@[simp] theorem Die.modHead_cause (g : Head → Head) : (x.modHead h g).cause = x.cause := rfl
@[simp] theorem Die.modHead_power (g : Head → Head) : (x.modHead h g).power = x.power := rfl
@[simp] theorem Die.modHead_target (g : Head → Head) : (x.modHead h g).target = x.target := rfl
@[simp] theorem Die.modHead_reconciled (g : Head → Head) : (x.modHead h g).reconciled = x.reconciled := rfl
@[simp] theorem Die.modHead_gap (g : Head → Head) : (x.modHead h g).gap = x.gap := rfl
@[simp] theorem Die.modHead_woken (g : Head → Head) : (x.modHead h g).woken = x.woken := rfl
@[simp] theorem Die.modHead_imaged (g : Head → Head) : (x.modHead h g).imaged = x.imaged := rfl
@[simp] theorem Die.modHead_recordsRead (g : Head → Head) : (x.modHead h g).recordsRead = x.recordsRead := rfl
@[simp] theorem Die.modHead_bootLoaded (g : Head → Head) : (x.modHead h g).bootLoaded = x.bootLoaded := rfl
@[simp] theorem Die.modHead_replayDone (g : Head → Head) : (x.modHead h g).replayDone = x.replayDone := rfl
@[simp] theorem Die.modHead_bootDone (g : Head → Head) : (x.modHead h g).bootDone = x.bootDone := rfl
@[simp] theorem Die.modHead_rejoining (g : Head → Head) : (x.modHead h g).rejoining = x.rejoining := rfl
@[simp] theorem Die.modHead_resetTime (g : Head → Head) : (x.modHead h g).resetTime = x.resetTime := rfl
@[simp] theorem Die.modHead_clock (g : Head → Head) : (x.modHead h g).clock = x.clock := rfl
@[simp] theorem Die.modHead_spin (g : Head → Head) : (x.modHead h g).spin = x.spin := rfl
@[simp] theorem Die.modHead_actA (g : Head → Head) : (x.modHead h g).actA = x.actA := rfl
@[simp] theorem Die.modHead_actB (g : Head → Head) : (x.modHead h g).actB = x.actB := rfl
@[simp] theorem Die.modHead_servoW (g : Head → Head) : (x.modHead h g).servoW = x.servoW := rfl
@[simp] theorem Die.modHead_tracks (g : Head → Head) : (x.modHead h g).tracks = x.tracks := rfl
@[simp] theorem Die.modHead_skew (g : Head → Head) : (x.modHead h g).skew = x.skew := rfl
@[simp] theorem Die.modHead_servoMatch (g : Head → Head) : (x.modHead h g).servoMatch = x.servoMatch := rfl
@[simp] theorem Die.modHead_shock (g : Head → Head) : (x.modHead h g).shock = x.shock := rfl
@[simp] theorem Die.modHead_holdoff (g : Head → Head) : (x.modHead h g).holdoff = x.holdoff := rfl
@[simp] theorem Die.modHead_overrun (g : Head → Head) : (x.modHead h g).overrun = x.overrun := rfl
@[simp] theorem Die.modHead_swapSatA (g : Head → Head) : (x.modHead h g).swapSatA = x.swapSatA := rfl
@[simp] theorem Die.modHead_swapSatB (g : Head → Head) : (x.modHead h g).swapSatB = x.swapSatB := rfl
@[simp] theorem Die.modHead_shockTrip (g : Head → Head) : (x.modHead h g).shockTrip = x.shockTrip := rfl
@[simp] theorem Die.modHead_recoverA (g : Head → Head) : (x.modHead h g).recoverA = x.recoverA := rfl
@[simp] theorem Die.modHead_recoverB (g : Head → Head) : (x.modHead h g).recoverB = x.recoverB := rfl
@[simp] theorem Die.modHead_loadFail (g : Head → Head) : (x.modHead h g).loadFail = x.loadFail := rfl
@[simp] theorem Die.modHead_overrunNow (g : Head → Head) : (x.modHead h g).overrunNow = x.overrunNow := rfl
@[simp] theorem Die.modHead_overrunPrev (g : Head → Head) : (x.modHead h g).overrunPrev = x.overrunPrev := rfl
@[simp] theorem Die.modHead_prevA (g : Head → Head) : (x.modHead h g).prevA = x.prevA := rfl
@[simp] theorem Die.modHead_prevB (g : Head → Head) : (x.modHead h g).prevB = x.prevB := rfl
@[simp] theorem Die.modHead_grantOrder (g : Head → Head) : (x.modHead h g).grantOrder = x.grantOrder := rfl
@[simp] theorem Die.modHead_modeHop (g : Head → Head) : (x.modHead h g).modeHop = x.modeHop := rfl
@[simp] theorem Die.modHead_revoke (g : Head → Head) : (x.modHead h g).revoke = x.revoke := rfl
@[simp] theorem Die.modHead_blocked (g : Head → Head) : (x.modHead h g).blocked = x.blocked := rfl
@[simp] theorem Die.modHead_verifyFullSeen (g : Head → Head) : (x.modHead h g).verifyFullSeen = x.verifyFullSeen := rfl
@[simp] theorem Die.modHead_unstable (g : Head → Head) : (x.modHead h g).unstable = x.unstable := rfl
@[simp] theorem Die.modHead_calRuns (g : Head → Head) : (x.modHead h g).calRuns = x.calRuns := rfl
@[simp] theorem Die.modHead_calRecords (g : Head → Head) : (x.modHead h g).calRecords = x.calRecords := rfl
@[simp] theorem Die.modHead_evalWait (g : Head → Head) : (x.modHead h g).evalWait = x.evalWait := rfl
@[simp] theorem Die.modHead_holdupTest (g : Head → Head) : (x.modHead h g).holdupTest = x.holdupTest := rfl
@[simp] theorem Die.modHead_calDone (g : Head → Head) : (x.modHead h g).calDone = x.calDone := rfl
@[simp] theorem Die.modHead_calTimeout (g : Head → Head) : (x.modHead h g).calTimeout = x.calTimeout := rfl
@[simp] theorem Die.modHead_calFailed (g : Head → Head) : (x.modHead h g).calFailed = x.calFailed := rfl
@[simp] theorem Die.modHead_calStale (g : Head → Head) : (x.modHead h g).calStale = x.calStale := rfl
@[simp] theorem Die.modHead_calRepaired (g : Head → Head) : (x.modHead h g).calRepaired = x.calRepaired := rfl
@[simp] theorem Die.modHead_hdaCrc (g : Head → Head) : (x.modHead h g).hdaCrc = x.hdaCrc := rfl
@[simp] theorem Die.modHead_data (g : Head → Head) : (x.modHead h g).data = x.data := rfl
@[simp] theorem Die.modHead_mem (g : Head → Head) : (x.modHead h g).mem = x.mem := rfl
@[simp] theorem Die.modHead_eng (g : Head → Head) : (x.modHead h g).eng = x.eng := rfl
@[simp] theorem Die.modHead_hk (g : Head → Head) : (x.modHead h g).hk = x.hk := rfl
@[simp] theorem Die.modHead_obs (g : Head → Head) : (x.modHead h g).obs = x.obs := rfl
@[simp] theorem Die.modHead_mirror (g : Head → Head) : (x.modHead h g).mirror = x.mirror := rfl
@[simp] theorem Die.modHead_credits (g : Head → Head) : (x.modHead h g).credits = x.credits := rfl
@[simp] theorem Die.modHead_linkErrors (g : Head → Head) : (x.modHead h g).linkErrors = x.linkErrors := rfl
@[simp] theorem Die.modHead_accesses (g : Head → Head) : (x.modHead h g).accesses = x.accesses := rfl
@[simp] theorem Die.modAct_life (g : Actuator → Actuator) : (x.modAct a g).life = x.life := by cases a <;> rfl
@[simp] theorem Die.modAct_cause (g : Actuator → Actuator) : (x.modAct a g).cause = x.cause := by cases a <;> rfl
@[simp] theorem Die.modAct_power (g : Actuator → Actuator) : (x.modAct a g).power = x.power := by cases a <;> rfl
@[simp] theorem Die.modAct_target (g : Actuator → Actuator) : (x.modAct a g).target = x.target := by cases a <;> rfl
@[simp] theorem Die.modAct_reconciled (g : Actuator → Actuator) : (x.modAct a g).reconciled = x.reconciled := by cases a <;> rfl
@[simp] theorem Die.modAct_gap (g : Actuator → Actuator) : (x.modAct a g).gap = x.gap := by cases a <;> rfl
@[simp] theorem Die.modAct_woken (g : Actuator → Actuator) : (x.modAct a g).woken = x.woken := by cases a <;> rfl
@[simp] theorem Die.modAct_imaged (g : Actuator → Actuator) : (x.modAct a g).imaged = x.imaged := by cases a <;> rfl
@[simp] theorem Die.modAct_recordsRead (g : Actuator → Actuator) : (x.modAct a g).recordsRead = x.recordsRead := by cases a <;> rfl
@[simp] theorem Die.modAct_bootLoaded (g : Actuator → Actuator) : (x.modAct a g).bootLoaded = x.bootLoaded := by cases a <;> rfl
@[simp] theorem Die.modAct_replayDone (g : Actuator → Actuator) : (x.modAct a g).replayDone = x.replayDone := by cases a <;> rfl
@[simp] theorem Die.modAct_bootDone (g : Actuator → Actuator) : (x.modAct a g).bootDone = x.bootDone := by cases a <;> rfl
@[simp] theorem Die.modAct_rejoining (g : Actuator → Actuator) : (x.modAct a g).rejoining = x.rejoining := by cases a <;> rfl
@[simp] theorem Die.modAct_resetTime (g : Actuator → Actuator) : (x.modAct a g).resetTime = x.resetTime := by cases a <;> rfl
@[simp] theorem Die.modAct_clock (g : Actuator → Actuator) : (x.modAct a g).clock = x.clock := by cases a <;> rfl
@[simp] theorem Die.modAct_spin (g : Actuator → Actuator) : (x.modAct a g).spin = x.spin := by cases a <;> rfl
@[simp] theorem Die.modAct_heads (g : Actuator → Actuator) : (x.modAct a g).heads = x.heads := by cases a <;> rfl
@[simp] theorem Die.modAct_servoW (g : Actuator → Actuator) : (x.modAct a g).servoW = x.servoW := by cases a <;> rfl
@[simp] theorem Die.modAct_tracks (g : Actuator → Actuator) : (x.modAct a g).tracks = x.tracks := by cases a <;> rfl
@[simp] theorem Die.modAct_skew (g : Actuator → Actuator) : (x.modAct a g).skew = x.skew := by cases a <;> rfl
@[simp] theorem Die.modAct_servoMatch (g : Actuator → Actuator) : (x.modAct a g).servoMatch = x.servoMatch := by cases a <;> rfl
@[simp] theorem Die.modAct_shock (g : Actuator → Actuator) : (x.modAct a g).shock = x.shock := by cases a <;> rfl
@[simp] theorem Die.modAct_holdoff (g : Actuator → Actuator) : (x.modAct a g).holdoff = x.holdoff := by cases a <;> rfl
@[simp] theorem Die.modAct_overrun (g : Actuator → Actuator) : (x.modAct a g).overrun = x.overrun := by cases a <;> rfl
@[simp] theorem Die.modAct_swapSatA (g : Actuator → Actuator) : (x.modAct a g).swapSatA = x.swapSatA := by cases a <;> rfl
@[simp] theorem Die.modAct_swapSatB (g : Actuator → Actuator) : (x.modAct a g).swapSatB = x.swapSatB := by cases a <;> rfl
@[simp] theorem Die.modAct_shockTrip (g : Actuator → Actuator) : (x.modAct a g).shockTrip = x.shockTrip := by cases a <;> rfl
@[simp] theorem Die.modAct_recoverA (g : Actuator → Actuator) : (x.modAct a g).recoverA = x.recoverA := by cases a <;> rfl
@[simp] theorem Die.modAct_recoverB (g : Actuator → Actuator) : (x.modAct a g).recoverB = x.recoverB := by cases a <;> rfl
@[simp] theorem Die.modAct_loadFail (g : Actuator → Actuator) : (x.modAct a g).loadFail = x.loadFail := by cases a <;> rfl
@[simp] theorem Die.modAct_overrunNow (g : Actuator → Actuator) : (x.modAct a g).overrunNow = x.overrunNow := by cases a <;> rfl
@[simp] theorem Die.modAct_overrunPrev (g : Actuator → Actuator) : (x.modAct a g).overrunPrev = x.overrunPrev := by cases a <;> rfl
@[simp] theorem Die.modAct_prevA (g : Actuator → Actuator) : (x.modAct a g).prevA = x.prevA := by cases a <;> rfl
@[simp] theorem Die.modAct_prevB (g : Actuator → Actuator) : (x.modAct a g).prevB = x.prevB := by cases a <;> rfl
@[simp] theorem Die.modAct_grantOrder (g : Actuator → Actuator) : (x.modAct a g).grantOrder = x.grantOrder := by cases a <;> rfl
@[simp] theorem Die.modAct_modeHop (g : Actuator → Actuator) : (x.modAct a g).modeHop = x.modeHop := by cases a <;> rfl
@[simp] theorem Die.modAct_revoke (g : Actuator → Actuator) : (x.modAct a g).revoke = x.revoke := by cases a <;> rfl
@[simp] theorem Die.modAct_blocked (g : Actuator → Actuator) : (x.modAct a g).blocked = x.blocked := by cases a <;> rfl
@[simp] theorem Die.modAct_verifyFullSeen (g : Actuator → Actuator) : (x.modAct a g).verifyFullSeen = x.verifyFullSeen := by cases a <;> rfl
@[simp] theorem Die.modAct_unstable (g : Actuator → Actuator) : (x.modAct a g).unstable = x.unstable := by cases a <;> rfl
@[simp] theorem Die.modAct_calRuns (g : Actuator → Actuator) : (x.modAct a g).calRuns = x.calRuns := by cases a <;> rfl
@[simp] theorem Die.modAct_calRecords (g : Actuator → Actuator) : (x.modAct a g).calRecords = x.calRecords := by cases a <;> rfl
@[simp] theorem Die.modAct_evalWait (g : Actuator → Actuator) : (x.modAct a g).evalWait = x.evalWait := by cases a <;> rfl
@[simp] theorem Die.modAct_holdupTest (g : Actuator → Actuator) : (x.modAct a g).holdupTest = x.holdupTest := by cases a <;> rfl
@[simp] theorem Die.modAct_calDone (g : Actuator → Actuator) : (x.modAct a g).calDone = x.calDone := by cases a <;> rfl
@[simp] theorem Die.modAct_calTimeout (g : Actuator → Actuator) : (x.modAct a g).calTimeout = x.calTimeout := by cases a <;> rfl
@[simp] theorem Die.modAct_calFailed (g : Actuator → Actuator) : (x.modAct a g).calFailed = x.calFailed := by cases a <;> rfl
@[simp] theorem Die.modAct_calStale (g : Actuator → Actuator) : (x.modAct a g).calStale = x.calStale := by cases a <;> rfl
@[simp] theorem Die.modAct_calRepaired (g : Actuator → Actuator) : (x.modAct a g).calRepaired = x.calRepaired := by cases a <;> rfl
@[simp] theorem Die.modAct_hdaCrc (g : Actuator → Actuator) : (x.modAct a g).hdaCrc = x.hdaCrc := by cases a <;> rfl
@[simp] theorem Die.modAct_data (g : Actuator → Actuator) : (x.modAct a g).data = x.data := by cases a <;> rfl
@[simp] theorem Die.modAct_mem (g : Actuator → Actuator) : (x.modAct a g).mem = x.mem := by cases a <;> rfl
@[simp] theorem Die.modAct_eng (g : Actuator → Actuator) : (x.modAct a g).eng = x.eng := by cases a <;> rfl
@[simp] theorem Die.modAct_hk (g : Actuator → Actuator) : (x.modAct a g).hk = x.hk := by cases a <;> rfl
@[simp] theorem Die.modAct_obs (g : Actuator → Actuator) : (x.modAct a g).obs = x.obs := by cases a <;> rfl
@[simp] theorem Die.modAct_mirror (g : Actuator → Actuator) : (x.modAct a g).mirror = x.mirror := by cases a <;> rfl
@[simp] theorem Die.modAct_credits (g : Actuator → Actuator) : (x.modAct a g).credits = x.credits := by cases a <;> rfl
@[simp] theorem Die.modAct_linkErrors (g : Actuator → Actuator) : (x.modAct a g).linkErrors = x.linkErrors := by cases a <;> rfl
@[simp] theorem Die.modAct_accesses (g : Actuator → Actuator) : (x.modAct a g).accesses = x.accesses := by cases a <;> rfl

/-! ### Sending and free values -/

@[simp] theorem State.emit_out : (s.emit o).out = o :: s.out := rfl
@[simp] theorem State.useFresh_fresh : s.useFresh.fresh = s.fresh + 1 := rfl
@[simp] theorem State.emit_die : (s.emit o).die d = s.die d := rfl
@[simp] theorem State.useFresh_die : s.useFresh.die d = s.die d := rfl
@[simp] theorem State.emit_part : (s.emit o).part = s.part := rfl
@[simp] theorem State.emit_dies : (s.emit o).dies = s.dies := rfl
@[simp] theorem State.emit_pending : (s.emit o).pending = s.pending := rfl
@[simp] theorem State.emit_reply : (s.emit o).reply = s.reply := rfl
@[simp] theorem State.emit_fresh : (s.emit o).fresh = s.fresh := rfl
@[simp] theorem State.emit_host : (s.emit o).host = s.host := rfl
@[simp] theorem State.emit_sqs : (s.emit o).sqs = s.sqs := rfl
@[simp] theorem State.emit_cqs : (s.emit o).cqs = s.cqs := rfl
@[simp] theorem State.emit_slots : (s.emit o).slots = s.slots := rfl
@[simp] theorem State.emit_asn : (s.emit o).asn = s.asn := rfl
@[simp] theorem State.emit_msix : (s.emit o).msix = s.msix := rfl
@[simp] theorem State.emit_pba : (s.emit o).pba = s.pba := rfl
@[simp] theorem State.emit_win : (s.emit o).win = s.win := rfl
@[simp] theorem State.emit_diag : (s.emit o).diag = s.diag := rfl
@[simp] theorem State.emit_objs : (s.emit o).objs = s.objs := rfl
@[simp] theorem State.emit_doms : (s.emit o).doms = s.doms := rfl
@[simp] theorem State.emit_saved : (s.emit o).saved = s.saved := rfl
@[simp] theorem State.emit_rwr : (s.emit o).rwr = s.rwr := rfl
@[simp] theorem State.emit_sessions : (s.emit o).sessions = s.sessions := rfl
@[simp] theorem State.emit_evtRoute : (s.emit o).evtRoute = s.evtRoute := rfl
@[simp] theorem State.emit_evtPending : (s.emit o).evtPending = s.evtPending := rfl
@[simp] theorem State.emit_evtCount : (s.emit o).evtCount = s.evtCount := rfl
@[simp] theorem State.emit_coal : (s.emit o).coal = s.coal := rfl
@[simp] theorem State.emit_alerts : (s.emit o).alerts = s.alerts := rfl
@[simp] theorem State.emit_errors : (s.emit o).errors = s.errors := rfl
@[simp] theorem State.emit_errorCount : (s.emit o).errorCount = s.errorCount := rfl
@[simp] theorem State.emit_trace : (s.emit o).trace = s.trace := rfl
@[simp] theorem State.emit_lfsr : (s.emit o).lfsr = s.lfsr := rfl
@[simp] theorem State.emit_traceFullSeen : (s.emit o).traceFullSeen = s.traceFullSeen := rfl
@[simp] theorem State.emit_snapSeq : (s.emit o).snapSeq = s.snapSeq := rfl
@[simp] theorem State.emit_snapT : (s.emit o).snapT = s.snapT := rfl
@[simp] theorem State.emit_snapAction : (s.emit o).snapAction = s.snapAction := rfl
@[simp] theorem State.emit_snapBlocks : (s.emit o).snapBlocks = s.snapBlocks := rfl
@[simp] theorem State.emit_snapReqs : (s.emit o).snapReqs = s.snapReqs := rfl
@[simp] theorem State.emit_snapGather : (s.emit o).snapGather = s.snapGather := rfl
@[simp] theorem State.emit_fw : (s.emit o).fw = s.fw := rfl
@[simp] theorem State.emit_mgmt : (s.emit o).mgmt = s.mgmt := rfl
@[simp] theorem State.emit_spinHeld : (s.emit o).spinHeld = s.spinHeld := rfl
@[simp] theorem State.emit_spinReq : (s.emit o).spinReq = s.spinReq := rfl
@[simp] theorem State.emit_linksDown : (s.emit o).linksDown = s.linksDown := rfl
@[simp] theorem State.emit_warm : (s.emit o).warm = s.warm := rfl
@[simp] theorem State.emit_resetStart : (s.emit o).resetStart = s.resetStart := rfl
@[simp] theorem State.emit_waiters : (s.emit o).waiters = s.waiters := rfl
@[simp] theorem State.emit_offer : (s.emit o).offer = s.offer := rfl
@[simp] theorem State.emit_restoring : (s.emit o).restoring = s.restoring := rfl
@[simp] theorem State.useFresh_part : s.useFresh.part = s.part := rfl
@[simp] theorem State.useFresh_dies : s.useFresh.dies = s.dies := rfl
@[simp] theorem State.useFresh_pending : s.useFresh.pending = s.pending := rfl
@[simp] theorem State.useFresh_out : s.useFresh.out = s.out := rfl
@[simp] theorem State.useFresh_reply : s.useFresh.reply = s.reply := rfl
@[simp] theorem State.useFresh_host : s.useFresh.host = s.host := rfl
@[simp] theorem State.useFresh_sqs : s.useFresh.sqs = s.sqs := rfl
@[simp] theorem State.useFresh_cqs : s.useFresh.cqs = s.cqs := rfl
@[simp] theorem State.useFresh_slots : s.useFresh.slots = s.slots := rfl
@[simp] theorem State.useFresh_asn : s.useFresh.asn = s.asn := rfl
@[simp] theorem State.useFresh_msix : s.useFresh.msix = s.msix := rfl
@[simp] theorem State.useFresh_pba : s.useFresh.pba = s.pba := rfl
@[simp] theorem State.useFresh_win : s.useFresh.win = s.win := rfl
@[simp] theorem State.useFresh_diag : s.useFresh.diag = s.diag := rfl
@[simp] theorem State.useFresh_objs : s.useFresh.objs = s.objs := rfl
@[simp] theorem State.useFresh_doms : s.useFresh.doms = s.doms := rfl
@[simp] theorem State.useFresh_saved : s.useFresh.saved = s.saved := rfl
@[simp] theorem State.useFresh_rwr : s.useFresh.rwr = s.rwr := rfl
@[simp] theorem State.useFresh_sessions : s.useFresh.sessions = s.sessions := rfl
@[simp] theorem State.useFresh_evtRoute : s.useFresh.evtRoute = s.evtRoute := rfl
@[simp] theorem State.useFresh_evtPending : s.useFresh.evtPending = s.evtPending := rfl
@[simp] theorem State.useFresh_evtCount : s.useFresh.evtCount = s.evtCount := rfl
@[simp] theorem State.useFresh_coal : s.useFresh.coal = s.coal := rfl
@[simp] theorem State.useFresh_alerts : s.useFresh.alerts = s.alerts := rfl
@[simp] theorem State.useFresh_errors : s.useFresh.errors = s.errors := rfl
@[simp] theorem State.useFresh_errorCount : s.useFresh.errorCount = s.errorCount := rfl
@[simp] theorem State.useFresh_trace : s.useFresh.trace = s.trace := rfl
@[simp] theorem State.useFresh_lfsr : s.useFresh.lfsr = s.lfsr := rfl
@[simp] theorem State.useFresh_traceFullSeen : s.useFresh.traceFullSeen = s.traceFullSeen := rfl
@[simp] theorem State.useFresh_snapSeq : s.useFresh.snapSeq = s.snapSeq := rfl
@[simp] theorem State.useFresh_snapT : s.useFresh.snapT = s.snapT := rfl
@[simp] theorem State.useFresh_snapAction : s.useFresh.snapAction = s.snapAction := rfl
@[simp] theorem State.useFresh_snapBlocks : s.useFresh.snapBlocks = s.snapBlocks := rfl
@[simp] theorem State.useFresh_snapReqs : s.useFresh.snapReqs = s.snapReqs := rfl
@[simp] theorem State.useFresh_snapGather : s.useFresh.snapGather = s.snapGather := rfl
@[simp] theorem State.useFresh_fw : s.useFresh.fw = s.fw := rfl
@[simp] theorem State.useFresh_mgmt : s.useFresh.mgmt = s.mgmt := rfl
@[simp] theorem State.useFresh_spinHeld : s.useFresh.spinHeld = s.spinHeld := rfl
@[simp] theorem State.useFresh_spinReq : s.useFresh.spinReq = s.spinReq := rfl
@[simp] theorem State.useFresh_linksDown : s.useFresh.linksDown = s.linksDown := rfl
@[simp] theorem State.useFresh_warm : s.useFresh.warm = s.warm := rfl
@[simp] theorem State.useFresh_resetStart : s.useFresh.resetStart = s.resetStart := rfl
@[simp] theorem State.useFresh_waiters : s.useFresh.waiters = s.waiters := rfl
@[simp] theorem State.useFresh_offer : s.useFresh.offer = s.offer := rfl
@[simp] theorem State.useFresh_restoring : s.useFresh.restoring = s.restoring := rfl

/-! ### Objects -/

variable (t : ObjDef) (sub inst : Nat) (v : Int) (bs : List Byte)

@[simp] theorem State.putSub_die : (s.putSub t sub inst v).die d = s.die d := by unfold State.putSub; split <;> rfl
@[simp] theorem State.putDom_die : (s.putDom t sub inst bs).die d = s.die d := rfl
@[simp] theorem State.save_die : (s.save t sub inst bs).die d = s.die d := rfl
@[simp] theorem State.putSub_part : (s.putSub t sub inst v).part = s.part := by unfold State.putSub; split <;> rfl
@[simp] theorem State.putSub_dies : (s.putSub t sub inst v).dies = s.dies := by unfold State.putSub; split <;> rfl
@[simp] theorem State.putSub_pending : (s.putSub t sub inst v).pending = s.pending := by unfold State.putSub; split <;> rfl
@[simp] theorem State.putSub_out : (s.putSub t sub inst v).out = s.out := by unfold State.putSub; split <;> rfl
@[simp] theorem State.putSub_reply : (s.putSub t sub inst v).reply = s.reply := by unfold State.putSub; split <;> rfl
@[simp] theorem State.putSub_fresh : (s.putSub t sub inst v).fresh = s.fresh := by unfold State.putSub; split <;> rfl
@[simp] theorem State.putSub_host : (s.putSub t sub inst v).host = s.host := by unfold State.putSub; split <;> rfl
@[simp] theorem State.putSub_sqs : (s.putSub t sub inst v).sqs = s.sqs := by unfold State.putSub; split <;> rfl
@[simp] theorem State.putSub_cqs : (s.putSub t sub inst v).cqs = s.cqs := by unfold State.putSub; split <;> rfl
@[simp] theorem State.putSub_slots : (s.putSub t sub inst v).slots = s.slots := by unfold State.putSub; split <;> rfl
@[simp] theorem State.putSub_asn : (s.putSub t sub inst v).asn = s.asn := by unfold State.putSub; split <;> rfl
@[simp] theorem State.putSub_msix : (s.putSub t sub inst v).msix = s.msix := by unfold State.putSub; split <;> rfl
@[simp] theorem State.putSub_pba : (s.putSub t sub inst v).pba = s.pba := by unfold State.putSub; split <;> rfl
@[simp] theorem State.putSub_win : (s.putSub t sub inst v).win = s.win := by unfold State.putSub; split <;> rfl
@[simp] theorem State.putSub_diag : (s.putSub t sub inst v).diag = s.diag := by unfold State.putSub; split <;> rfl
@[simp] theorem State.putSub_doms : (s.putSub t sub inst v).doms = s.doms := by unfold State.putSub; split <;> rfl
@[simp] theorem State.putSub_saved : (s.putSub t sub inst v).saved = s.saved := by unfold State.putSub; split <;> rfl
@[simp] theorem State.putSub_rwr : (s.putSub t sub inst v).rwr = s.rwr := by unfold State.putSub; split <;> rfl
@[simp] theorem State.putSub_sessions : (s.putSub t sub inst v).sessions = s.sessions := by unfold State.putSub; split <;> rfl
@[simp] theorem State.putSub_evtRoute : (s.putSub t sub inst v).evtRoute = s.evtRoute := by unfold State.putSub; split <;> rfl
@[simp] theorem State.putSub_evtPending : (s.putSub t sub inst v).evtPending = s.evtPending := by unfold State.putSub; split <;> rfl
@[simp] theorem State.putSub_evtCount : (s.putSub t sub inst v).evtCount = s.evtCount := by unfold State.putSub; split <;> rfl
@[simp] theorem State.putSub_coal : (s.putSub t sub inst v).coal = s.coal := by unfold State.putSub; split <;> rfl
@[simp] theorem State.putSub_alerts : (s.putSub t sub inst v).alerts = s.alerts := by unfold State.putSub; split <;> rfl
@[simp] theorem State.putSub_errors : (s.putSub t sub inst v).errors = s.errors := by unfold State.putSub; split <;> rfl
@[simp] theorem State.putSub_errorCount : (s.putSub t sub inst v).errorCount = s.errorCount := by unfold State.putSub; split <;> rfl
@[simp] theorem State.putSub_trace : (s.putSub t sub inst v).trace = s.trace := by unfold State.putSub; split <;> rfl
@[simp] theorem State.putSub_lfsr : (s.putSub t sub inst v).lfsr = s.lfsr := by unfold State.putSub; split <;> rfl
@[simp] theorem State.putSub_traceFullSeen : (s.putSub t sub inst v).traceFullSeen = s.traceFullSeen := by unfold State.putSub; split <;> rfl
@[simp] theorem State.putSub_snapSeq : (s.putSub t sub inst v).snapSeq = s.snapSeq := by unfold State.putSub; split <;> rfl
@[simp] theorem State.putSub_snapT : (s.putSub t sub inst v).snapT = s.snapT := by unfold State.putSub; split <;> rfl
@[simp] theorem State.putSub_snapAction : (s.putSub t sub inst v).snapAction = s.snapAction := by unfold State.putSub; split <;> rfl
@[simp] theorem State.putSub_snapBlocks : (s.putSub t sub inst v).snapBlocks = s.snapBlocks := by unfold State.putSub; split <;> rfl
@[simp] theorem State.putSub_snapReqs : (s.putSub t sub inst v).snapReqs = s.snapReqs := by unfold State.putSub; split <;> rfl
@[simp] theorem State.putSub_snapGather : (s.putSub t sub inst v).snapGather = s.snapGather := by unfold State.putSub; split <;> rfl
@[simp] theorem State.putSub_fw : (s.putSub t sub inst v).fw = s.fw := by unfold State.putSub; split <;> rfl
@[simp] theorem State.putSub_mgmt : (s.putSub t sub inst v).mgmt = s.mgmt := by unfold State.putSub; split <;> rfl
@[simp] theorem State.putSub_spinHeld : (s.putSub t sub inst v).spinHeld = s.spinHeld := by unfold State.putSub; split <;> rfl
@[simp] theorem State.putSub_spinReq : (s.putSub t sub inst v).spinReq = s.spinReq := by unfold State.putSub; split <;> rfl
@[simp] theorem State.putSub_linksDown : (s.putSub t sub inst v).linksDown = s.linksDown := by unfold State.putSub; split <;> rfl
@[simp] theorem State.putSub_warm : (s.putSub t sub inst v).warm = s.warm := by unfold State.putSub; split <;> rfl
@[simp] theorem State.putSub_resetStart : (s.putSub t sub inst v).resetStart = s.resetStart := by unfold State.putSub; split <;> rfl
@[simp] theorem State.putSub_waiters : (s.putSub t sub inst v).waiters = s.waiters := by unfold State.putSub; split <;> rfl
@[simp] theorem State.putSub_offer : (s.putSub t sub inst v).offer = s.offer := by unfold State.putSub; split <;> rfl
@[simp] theorem State.putSub_restoring : (s.putSub t sub inst v).restoring = s.restoring := by unfold State.putSub; split <;> rfl
@[simp] theorem State.putDom_part : (s.putDom t sub inst bs).part = s.part := rfl
@[simp] theorem State.putDom_dies : (s.putDom t sub inst bs).dies = s.dies := rfl
@[simp] theorem State.putDom_pending : (s.putDom t sub inst bs).pending = s.pending := rfl
@[simp] theorem State.putDom_out : (s.putDom t sub inst bs).out = s.out := rfl
@[simp] theorem State.putDom_reply : (s.putDom t sub inst bs).reply = s.reply := rfl
@[simp] theorem State.putDom_fresh : (s.putDom t sub inst bs).fresh = s.fresh := rfl
@[simp] theorem State.putDom_host : (s.putDom t sub inst bs).host = s.host := rfl
@[simp] theorem State.putDom_sqs : (s.putDom t sub inst bs).sqs = s.sqs := rfl
@[simp] theorem State.putDom_cqs : (s.putDom t sub inst bs).cqs = s.cqs := rfl
@[simp] theorem State.putDom_slots : (s.putDom t sub inst bs).slots = s.slots := rfl
@[simp] theorem State.putDom_asn : (s.putDom t sub inst bs).asn = s.asn := rfl
@[simp] theorem State.putDom_msix : (s.putDom t sub inst bs).msix = s.msix := rfl
@[simp] theorem State.putDom_pba : (s.putDom t sub inst bs).pba = s.pba := rfl
@[simp] theorem State.putDom_win : (s.putDom t sub inst bs).win = s.win := rfl
@[simp] theorem State.putDom_diag : (s.putDom t sub inst bs).diag = s.diag := rfl
@[simp] theorem State.putDom_objs : (s.putDom t sub inst bs).objs = s.objs := rfl
@[simp] theorem State.putDom_saved : (s.putDom t sub inst bs).saved = s.saved := rfl
@[simp] theorem State.putDom_rwr : (s.putDom t sub inst bs).rwr = s.rwr := rfl
@[simp] theorem State.putDom_sessions : (s.putDom t sub inst bs).sessions = s.sessions := rfl
@[simp] theorem State.putDom_evtRoute : (s.putDom t sub inst bs).evtRoute = s.evtRoute := rfl
@[simp] theorem State.putDom_evtPending : (s.putDom t sub inst bs).evtPending = s.evtPending := rfl
@[simp] theorem State.putDom_evtCount : (s.putDom t sub inst bs).evtCount = s.evtCount := rfl
@[simp] theorem State.putDom_coal : (s.putDom t sub inst bs).coal = s.coal := rfl
@[simp] theorem State.putDom_alerts : (s.putDom t sub inst bs).alerts = s.alerts := rfl
@[simp] theorem State.putDom_errors : (s.putDom t sub inst bs).errors = s.errors := rfl
@[simp] theorem State.putDom_errorCount : (s.putDom t sub inst bs).errorCount = s.errorCount := rfl
@[simp] theorem State.putDom_trace : (s.putDom t sub inst bs).trace = s.trace := rfl
@[simp] theorem State.putDom_lfsr : (s.putDom t sub inst bs).lfsr = s.lfsr := rfl
@[simp] theorem State.putDom_traceFullSeen : (s.putDom t sub inst bs).traceFullSeen = s.traceFullSeen := rfl
@[simp] theorem State.putDom_snapSeq : (s.putDom t sub inst bs).snapSeq = s.snapSeq := rfl
@[simp] theorem State.putDom_snapT : (s.putDom t sub inst bs).snapT = s.snapT := rfl
@[simp] theorem State.putDom_snapAction : (s.putDom t sub inst bs).snapAction = s.snapAction := rfl
@[simp] theorem State.putDom_snapBlocks : (s.putDom t sub inst bs).snapBlocks = s.snapBlocks := rfl
@[simp] theorem State.putDom_snapReqs : (s.putDom t sub inst bs).snapReqs = s.snapReqs := rfl
@[simp] theorem State.putDom_snapGather : (s.putDom t sub inst bs).snapGather = s.snapGather := rfl
@[simp] theorem State.putDom_fw : (s.putDom t sub inst bs).fw = s.fw := rfl
@[simp] theorem State.putDom_mgmt : (s.putDom t sub inst bs).mgmt = s.mgmt := rfl
@[simp] theorem State.putDom_spinHeld : (s.putDom t sub inst bs).spinHeld = s.spinHeld := rfl
@[simp] theorem State.putDom_spinReq : (s.putDom t sub inst bs).spinReq = s.spinReq := rfl
@[simp] theorem State.putDom_linksDown : (s.putDom t sub inst bs).linksDown = s.linksDown := rfl
@[simp] theorem State.putDom_warm : (s.putDom t sub inst bs).warm = s.warm := rfl
@[simp] theorem State.putDom_resetStart : (s.putDom t sub inst bs).resetStart = s.resetStart := rfl
@[simp] theorem State.putDom_waiters : (s.putDom t sub inst bs).waiters = s.waiters := rfl
@[simp] theorem State.putDom_offer : (s.putDom t sub inst bs).offer = s.offer := rfl
@[simp] theorem State.putDom_restoring : (s.putDom t sub inst bs).restoring = s.restoring := rfl
@[simp] theorem State.save_part : (s.save t sub inst bs).part = s.part := rfl
@[simp] theorem State.save_dies : (s.save t sub inst bs).dies = s.dies := rfl
@[simp] theorem State.save_pending : (s.save t sub inst bs).pending = s.pending := rfl
@[simp] theorem State.save_out : (s.save t sub inst bs).out = s.out := rfl
@[simp] theorem State.save_reply : (s.save t sub inst bs).reply = s.reply := rfl
@[simp] theorem State.save_fresh : (s.save t sub inst bs).fresh = s.fresh := rfl
@[simp] theorem State.save_host : (s.save t sub inst bs).host = s.host := rfl
@[simp] theorem State.save_sqs : (s.save t sub inst bs).sqs = s.sqs := rfl
@[simp] theorem State.save_cqs : (s.save t sub inst bs).cqs = s.cqs := rfl
@[simp] theorem State.save_slots : (s.save t sub inst bs).slots = s.slots := rfl
@[simp] theorem State.save_asn : (s.save t sub inst bs).asn = s.asn := rfl
@[simp] theorem State.save_msix : (s.save t sub inst bs).msix = s.msix := rfl
@[simp] theorem State.save_pba : (s.save t sub inst bs).pba = s.pba := rfl
@[simp] theorem State.save_win : (s.save t sub inst bs).win = s.win := rfl
@[simp] theorem State.save_diag : (s.save t sub inst bs).diag = s.diag := rfl
@[simp] theorem State.save_objs : (s.save t sub inst bs).objs = s.objs := rfl
@[simp] theorem State.save_doms : (s.save t sub inst bs).doms = s.doms := rfl
@[simp] theorem State.save_rwr : (s.save t sub inst bs).rwr = s.rwr := rfl
@[simp] theorem State.save_sessions : (s.save t sub inst bs).sessions = s.sessions := rfl
@[simp] theorem State.save_evtRoute : (s.save t sub inst bs).evtRoute = s.evtRoute := rfl
@[simp] theorem State.save_evtPending : (s.save t sub inst bs).evtPending = s.evtPending := rfl
@[simp] theorem State.save_evtCount : (s.save t sub inst bs).evtCount = s.evtCount := rfl
@[simp] theorem State.save_coal : (s.save t sub inst bs).coal = s.coal := rfl
@[simp] theorem State.save_alerts : (s.save t sub inst bs).alerts = s.alerts := rfl
@[simp] theorem State.save_errors : (s.save t sub inst bs).errors = s.errors := rfl
@[simp] theorem State.save_errorCount : (s.save t sub inst bs).errorCount = s.errorCount := rfl
@[simp] theorem State.save_trace : (s.save t sub inst bs).trace = s.trace := rfl
@[simp] theorem State.save_lfsr : (s.save t sub inst bs).lfsr = s.lfsr := rfl
@[simp] theorem State.save_traceFullSeen : (s.save t sub inst bs).traceFullSeen = s.traceFullSeen := rfl
@[simp] theorem State.save_snapSeq : (s.save t sub inst bs).snapSeq = s.snapSeq := rfl
@[simp] theorem State.save_snapT : (s.save t sub inst bs).snapT = s.snapT := rfl
@[simp] theorem State.save_snapAction : (s.save t sub inst bs).snapAction = s.snapAction := rfl
@[simp] theorem State.save_snapBlocks : (s.save t sub inst bs).snapBlocks = s.snapBlocks := rfl
@[simp] theorem State.save_snapReqs : (s.save t sub inst bs).snapReqs = s.snapReqs := rfl
@[simp] theorem State.save_snapGather : (s.save t sub inst bs).snapGather = s.snapGather := rfl
@[simp] theorem State.save_fw : (s.save t sub inst bs).fw = s.fw := rfl
@[simp] theorem State.save_mgmt : (s.save t sub inst bs).mgmt = s.mgmt := rfl
@[simp] theorem State.save_spinHeld : (s.save t sub inst bs).spinHeld = s.spinHeld := rfl
@[simp] theorem State.save_spinReq : (s.save t sub inst bs).spinReq = s.spinReq := rfl
@[simp] theorem State.save_linksDown : (s.save t sub inst bs).linksDown = s.linksDown := rfl
@[simp] theorem State.save_warm : (s.save t sub inst bs).warm = s.warm := rfl
@[simp] theorem State.save_resetStart : (s.save t sub inst bs).resetStart = s.resetStart := rfl
@[simp] theorem State.save_waiters : (s.save t sub inst bs).waiters = s.waiters := rfl
@[simp] theorem State.save_offer : (s.save t sub inst bs).offer = s.offer := rfl
@[simp] theorem State.save_restoring : (s.save t sub inst bs).restoring = s.restoring := rfl

theorem State.put_eq : s.put t inst v = s.putSub t t.sub inst v := rfl

/-! ### What depends on the part alone -/

@[simp] theorem State.setDie_fitted : (s.setDie d x).fitted e = s.fitted e := rfl
@[simp] theorem State.modDie_fitted : (s.modDie d f).fitted e = s.fitted e := rfl

end Sys2Proof.Machine
end

