-- ==== Sys2Proof/Laws/FixedBase.lean ====
section
/-! SUPPORT. What is fixed: how updates of the state and outcomes relate to it. -/

namespace Sys2Proof.Machine

@[simp] theorem Fixed.of_state (s : State) : (⟨s.part, s.pending⟩ : Fixed) = s.fixed := (rfl)

@[simp] theorem mk_fixed (p : Part) (q : List Instr) x1 x3 x4 x5 x6 x7 x8 x9 x10 x11 x12 x13 x14 x15 x16 x17 x18 x19 x20
    x21 x22 x23 x24 x25 x26 x27 x28 x29 x30 x31 x32 x33 x34 x35 x36 x37 x38 x39 x40 x41 x42 x43 x44 x45 :
    State.fixed (State.mk p x1 q x3 x4 x5 x6 x7 x8 x9 x10 x11 x12 x13 x14 x15 x16 x17 x18 x19 x20 x21 x22 x23 x24
    x25 x26 x27 x28 x29 x30 x31 x32 x33 x34 x35 x36 x37 x38 x39 x40 x41 x42 x43 x44 x45) = ⟨p, q⟩ := (rfl)

@[simp] theorem keeps_next (s t : State) : Keeps s (.next t) ↔ t.fixed = s.fixed := Iff.rfl

@[simp] theorem keeps_fault (s : State) (r : Fault) : Keeps s (.fault r) ↔ True := Iff.rfl

@[simp] theorem foldl_fixed {α : Type} (f : State → α → State) (h : ∀ s x, (f s x).fixed = s.fixed) (l : List α) (s : State) :
    (l.foldl f s).fixed = s.fixed := by
  induction l generalizing s with
  | nil => rfl
  | cons x l ih => rw [List.foldl_cons, ih, h]

@[simp] theorem foldl_pair_fixed {α β : Type} (f : State × β → α → State × β) (h : ∀ r x, (f r x).1.fixed = r.1.fixed)
    (l : List α) (r : State × β) : (l.foldl f r).1.fixed = r.1.fixed := by
  induction l generalizing r with
  | nil => rfl
  | cons x l ih => rw [List.foldl_cons, ih, h]

@[simp] theorem ite_fixed (c : Prop) [Decidable c] (s t : State) : (if c then s else t).fixed = if c then s.fixed else t.fixed := by
  split <;> rfl

theorem keeps_onDie {d : DieId} {s : State} {f : State → State} (h : (f s).fixed = s.fixed) : Keeps s (onDie d s f) := by
  unfold onDie
  split
  · exact h
  · trivial

end Sys2Proof.Machine
end

