-- ==== Sys2Proof/Laws/FixedOps.lean ====
section
/-! SUPPORT. The operations and meanings of Machine/Ops.lean leave the part and the queue as they are. -/

namespace Sys2Proof.Machine

@[simp] theorem State.setDie_fixed (s : State) (d : DieId) (x : Die) : (State.setDie s d x).fixed = s.fixed := (rfl)

@[simp] theorem State.modDie_fixed (s : State) (d : DieId) (f : Die → Die) :
    (State.modDie s d f).fixed = s.fixed := (rfl)

@[simp] theorem onDie_fixed (d : DieId) (s : State) (f : State → State) (hf : ∀ y0, (f y0).fixed = y0.fixed) :
    Keeps s (onDie d s f) := by
  unfold onDie
  split <;> simp [*]

@[simp] theorem when_fixed (c : Bool) (f : State → State) (s : State) (hf : ∀ y0, (f y0).fixed = y0.fixed) :
    (when c f s).fixed = s.fixed := by simp [when, *]

@[simp] theorem State.modHead_fixed (s : State) (d : DieId) (h : HeadId) (f : Head → Head) :
    (State.modHead s d h f).fixed = s.fixed := (rfl)

@[simp] theorem State.modAct_fixed (s : State) (d : DieId) (a : Act) (f : Actuator → Actuator) :
    (State.modAct s d a f).fixed = s.fixed := (rfl)

@[simp] theorem State.modData_fixed (s : State) (d : DieId) (f : DieData → DieData) :
    (State.modData s d f).fixed = s.fixed := (rfl)

@[simp] theorem State.modClock_fixed (s : State) (d : DieId) (f : AngleClock → AngleClock) :
    (State.modClock s d f).fixed = s.fixed := (rfl)

@[simp] theorem State.modSpin_fixed (s : State) (d : DieId) (f : Spindle → Spindle) :
    (State.modSpin s d f).fixed = s.fixed := (rfl)

@[simp] theorem State.modMem_fixed (s : State) (d : DieId) (f : MemState → MemState) :
    (State.modMem s d f).fixed = s.fixed := (rfl)

@[simp] theorem State.modEng_fixed (s : State) (d : DieId) (f : EngState → EngState) :
    (State.modEng s d f).fixed = s.fixed := (rfl)

@[simp] theorem State.modHk_fixed (s : State) (d : DieId) (f : HkState → HkState) :
    (State.modHk s d f).fixed = s.fixed := (rfl)

@[simp] theorem State.modObs_fixed (s : State) (d : DieId) (f : ObsState → ObsState) :
    (State.modObs s d f).fixed = s.fixed := (rfl)

@[simp] theorem State.emit_fixed (s : State) (o : Out) : (State.emit s o).fixed = s.fixed := (rfl)

@[simp] theorem State.useFresh_fixed (s : State) : (State.useFresh s).fixed = s.fixed := (rfl)

@[simp] theorem State.putSub_fixed (s : State) (o : ObjDef) (sub : Nat) (inst : Nat) (v : Int) :
    (State.putSub s o sub inst v).fixed = s.fixed := by simp [State.putSub]

@[simp] theorem State.put_fixed (s : State) (o : ObjDef) (inst : Nat) (v : Int) :
    (State.put s o inst v).fixed = s.fixed := by simp [State.put]

@[simp] theorem State.bumpSub_fixed (s : State) (o : ObjDef) (sub : Nat) (inst : Nat) (k : Nat) :
    (State.bumpSub s o sub inst k).fixed = s.fixed := by simp [State.bumpSub]

@[simp] theorem State.bump_fixed (s : State) (o : ObjDef) (inst : Nat) (k : Nat) :
    (State.bump s o inst k).fixed = s.fixed := by simp [State.bump]

@[simp] theorem State.putDom_fixed (s : State) (o : ObjDef) (sub : Nat) (inst : Nat) (v : List Byte) :
    (State.putDom s o sub inst v).fixed = s.fixed := (rfl)

@[simp] theorem State.save_fixed (s : State) (o : ObjDef) (sub : Nat) (inst : Nat) (v : List Byte) :
    (State.save s o sub inst v).fixed = s.fixed := (rfl)

@[simp] theorem State.vector_fixed (s : State) (v : Nat) :
    (State.vector s v).fixed = s.fixed := by simp [State.vector]

@[simp] theorem State.evtSend_fixed (s : State) (src : Nat) :
    (State.evtSend s src).fixed = s.fixed := by simp [State.evtSend]

@[simp] theorem State.route_fixed (s : State) (src : Nat) :
    (State.route s src).fixed = s.fixed := by simp [State.route]

@[simp] theorem State.logEvent_fixed (s : State) (d : DieId) (src : Nat) (k : EventKind) (data : List (Nat × Int)) :
    (State.logEvent s d src k data).fixed = s.fixed := by simp [State.logEvent]

@[simp] theorem State.tally_fixed (s : State) (d : DieId) (e : Nat) (k : Nat) :
    (State.tally s d e k).1.fixed = s.fixed := by
  simp only [State.tally]
  (repeat' split) <;> simp

@[simp] theorem State.raiseFuel_fixed (s : State) (z0 : Nat) (z1 : DieId) (z2 : Nat) (z3 : EventKind) (z4 : List (Nat × Int)) :
    (State.raiseFuel s z0 z1 z2 z3 z4).fixed = s.fixed := by
  induction z0 generalizing s z1 z2 z3 z4 with
  | zero => simp [State.raiseFuel]
  | succ n ih =>
    simp only [State.raiseFuel]
    (repeat' split) <;> simp [ih]

@[simp] theorem State.raise_fixed (s : State) (d : DieId) (k : EventKind) (data : List (Nat × Int)) :
    (State.raise s d k data).fixed = s.fixed := by simp [State.raise]

@[simp] theorem State.raiseHead_fixed (s : State) (d : DieId) (h : HeadId) (k : EventKind) (data : List (Nat × Int)) :
    (State.raiseHead s d h k data).fixed = s.fixed := by simp [State.raiseHead]

@[simp] theorem State.raiseAct_fixed (s : State) (d : DieId) (a : Act) (k : EventKind) (data : List (Nat × Int)) :
    (State.raiseAct s d a k data).fixed = s.fixed := by simp [State.raiseAct]

@[simp] theorem State.raiseModule_fixed (s : State) (d : DieId) (m : Fin 4) (k : EventKind) (data : List (Nat × Int)) :
    (State.raiseModule s d m k data).fixed = s.fixed := by simp [State.raiseModule]

@[simp] theorem State.count_fixed (s : State) (d : DieId) (e : Nat) (k : Nat) :
    (State.count s d e k).fixed = s.fixed := by simp [State.count]

@[simp] theorem State.monitor_fixed (s : State) (d : DieId) (p : Nat) (bytes : Nat) :
    (State.monitor s d p bytes).fixed = s.fixed := (rfl)

@[simp] theorem State.send_fixed (s : State) (src : DieId) (dst : DieId) (op : BitVec 8) (operand : Nat) :
    (State.send s src dst op operand).fixed = s.fixed := by simp [State.send]

end Sys2Proof.Machine
end

