-- ==== Sys2Proof/Laws/FixedCalOps.lean ====
section
/-! SUPPORT. The operations and meanings of Machine/CalOps.lean leave the part and the queue as they are. -/

namespace Sys2Proof.Machine

@[simp] theorem State.calRecheck_fixed (s : State) (d : DieId) : (State.calRecheck s d).fixed = s.fixed := (rfl)

@[simp] theorem State.calReport_fixed (s : State) (inst : Nat) (kind : Nat) (code : Nat) (seq : Nat) (revs : Nat) (before : BitVec 64) (after : BitVec 64) :
    (State.calReport s inst kind code seq revs before after).fixed = s.fixed := by simp [State.calReport]

@[simp] theorem State.calEnd_fixed (s : State) (d : DieId) (inst : Nat) (code : Nat) (seq : Nat) :
    (State.calEnd s d inst code seq).fixed = s.fixed := by
  unfold State.calEnd
  split <;> simp

@[simp] theorem State.calAbortIf_fixed (s : State) (d : DieId) (p : Nat → CalRun → Bool) :
    (State.calAbortIf s d p).fixed = s.fixed := by simp [State.calAbortIf]

end Sys2Proof.Machine
end

