-- ==== Sys2Proof/Laws/FixedDriveOps.lean ====
section
/-! SUPPORT. The operations and meanings of Machine/DriveOps.lean leave the part and the queue as they are. -/

namespace Sys2Proof.Machine

@[simp] theorem State.setCoastRate_fixed (s : State) (d : DieId) : (State.setCoastRate s d).fixed = s.fixed := (rfl)

@[simp] theorem State.coastEntry_fixed (s : State) (d : DieId) :
    (State.coastEntry s d).fixed = s.fixed := by simp [State.coastEntry]

@[simp] theorem State.lockLost_fixed (s : State) (d : DieId) :
    (State.lockLost s d).fixed = s.fixed := by simp [State.lockLost]

@[simp] theorem State.phaseReferenceGone_fixed (s : State) :
    (State.phaseReferenceGone s).fixed = s.fixed := by simp [State.phaseReferenceGone]

@[simp] theorem State.sendVcm_fixed (s : State) (d : DieId) (a : Act) (typ : BitVec 2) (cmd : Int) :
    (State.sendVcm s d a typ cmd).fixed = s.fixed := (rfl)

@[simp] theorem State.actResult_fixed (s : State) (d : DieId) (a : Act) (code : Int) :
    (State.actResult s d a code).fixed = s.fixed := by simp [State.actResult]

@[simp] theorem State.retract_fixed (s : State) (d : DieId) (a : Act) (why : RetractFor) :
    (State.retract s d a why).fixed = s.fixed := (rfl)

@[simp] theorem State.loadStart_fixed (s : State) (d : DieId) (a : Act) :
    (State.loadStart s d a).fixed = s.fixed := by simp [State.loadStart]

@[simp] theorem State.loadCheck_fixed (s : State) (d : DieId) (a : Act) :
    (State.loadCheck s d a).1.fixed = s.fixed := by
  unfold State.loadCheck
  split <;> simp

@[simp] theorem State.loadCommand_fixed (s : State) (d : DieId) (a : Act) :
    (State.loadCommand s d a).1.fixed = s.fixed := by
  unfold State.loadCommand
  split <;> simp

@[simp] theorem State.unloadStart_fixed (s : State) (d : DieId) (a : Act) :
    (State.unloadStart s d a).fixed = s.fixed := by simp [State.unloadStart]

@[simp] theorem State.unloadCommand_fixed (s : State) (d : DieId) (a : Act) :
    (State.unloadCommand s d a).fixed = s.fixed := by
  unfold State.unloadCommand
  split <;> simp

@[simp] theorem State.spinResult_fixed (s : State) (d : DieId) (code : Int) :
    (State.spinResult s d code).fixed = s.fixed := by simp [State.spinResult]

@[simp] theorem State.floatDrive_fixed (s : State) (d : DieId) (st : SpinState) :
    (State.floatDrive s d st).fixed = s.fixed := by simp [State.floatDrive]

@[simp] theorem State.releaseSlot_fixed (s : State) (d : DieId) : (State.releaseSlot s d).fixed = s.fixed := (rfl)

@[simp] theorem State.requestSlot_fixed (s : State) (d : DieId) :
    (State.requestSlot s d).fixed = s.fixed := by simp [State.requestSlot]

@[simp] theorem State.brake_fixed (s : State) (d : DieId) (why : BrakeFor) :
    (State.brake s d why).fixed = s.fixed := (rfl)

@[simp] theorem State.senseStart_fixed (s : State) (d : DieId) :
    (State.senseStart s d).fixed = s.fixed := by simp [State.senseStart]

@[simp] theorem State.engage_fixed (s : State) (d : DieId) (st : SpinState) (speed : Rat) :
    (State.engage s d st speed).fixed = s.fixed := (rfl)

@[simp] theorem State.unloadBoth_fixed (s : State) (d : DieId) :
    (State.unloadBoth s d).fixed = s.fixed := by simp [State.unloadBoth]

@[simp] theorem State.spinStartCommand_fixed (s : State) (d : DieId) :
    (State.spinStartCommand s d).1.fixed = s.fixed := by
  simp only [State.spinStartCommand]
  (repeat' split) <;> simp

@[simp] theorem State.spinStopCommand_fixed (s : State) (d : DieId) :
    (State.spinStopCommand s d).fixed = s.fixed := by
  simp only [State.spinStopCommand]
  (repeat' split) <;> simp

@[simp] theorem State.reacquire_fixed (s : State) (d : DieId) :
    (State.reacquire s d).fixed = s.fixed := by simp [State.reacquire]

@[simp] theorem State.powerSettle_fixed (s : State) (d : DieId) : (State.powerSettle s d).fixed = s.fixed := (rfl)

end Sys2Proof.Machine
end

