-- ==== Sys2Proof/Laws/FixedAngle.lean ====
section
/-! SUPPORT. The operations and meanings of Machine/Angle.lean leave the part and the queue as they are. -/

namespace Sys2Proof.Machine

@[simp] theorem State.speedLoop_fixed (s : State) (d : DieId) (speed : Rat) (dt : Rat) :
    (State.speedLoop s d speed dt).fixed = s.fixed := (rfl)

@[simp] theorem State.acquire_fixed (s : State) (d : DieId) (k : Nat) (x : WedgeArrival) :
    (State.acquire s d k x).fixed = s.fixed := by simp [State.acquire]

@[simp] theorem State.loopSample_fixed (s : State) (d : DieId) (k : Nat) (e : Rat) :
    (State.loopSample s d k e).fixed = s.fixed := (rfl)

@[simp] theorem execAngleWedgeSample_fixed (d : DieId) (k : Nat) (samples : List WedgeArrival) (s : State) :
    Keeps s (execAngleWedgeSample d k samples s) := by
  refine keeps_onDie ?_
  dsimp only
  have h : ∀ s' : State, s'.fixed = s.fixed →
      (if (s'.die d).clock.state = .locked ∧ (s'.die d).spin.src = .clock then
        s'.speedLoop d (incrRpm (s'.die d).clock.incr.toNat) (if incrRpm (s'.die d).clock.incr.toNat = 0 then 0
          else 60 / (incrRpm (s'.die d).clock.incr.toNat * (s'.die d).clock.table.length)) else s').fixed = s.fixed := by
    intro s' h
    split
    · rw [State.speedLoop_fixed, h]
    · exact h
  apply h
  (repeat' split) <;> simp

@[simp] theorem execAngleLocked_fixed (d : DieId) (s : State) :
    Keeps s (execAngleLocked d s) := by simp [execAngleLocked]

@[simp] theorem execAngleLockLost_fixed (d : DieId) (s : State) :
    Keeps s (execAngleLockLost d s) := by simp [execAngleLockLost]

@[simp] theorem execAngleAcquireTimeout_fixed (d : DieId) (s : State) :
    Keeps s (execAngleAcquireTimeout d s) := by simp [execAngleAcquireTimeout]

@[simp] theorem execAngleStampRead_fixed (d : DieId) (s : State) :
    Keeps s (execAngleStampRead d s) := by simp [execAngleStampRead]

@[simp] theorem State.armEvent_fixed (s : State) (d : DieId) (cls : AngleClass) (owner : AngleOwner) (form : AngleForm) :
    (State.armEvent s d cls owner form).fixed = s.fixed := by simp [State.armEvent]

@[simp] theorem execAngleEventArm_fixed (d : DieId) (cls : AngleClass) (owner : AngleOwner) (form : AngleForm) (s : State) :
    Keeps s (execAngleEventArm d cls owner form s) := by simp [execAngleEventArm]

@[simp] theorem execAngleEventFire_fixed (d : DieId) (id : Nat) (s : State) :
    Keeps s (execAngleEventFire d id s) := by
  refine keeps_onDie ?_
  dsimp only
  (repeat' split) <;> simp

@[simp] theorem execPackageTimeSend_fixed (s : State) :
    Keeps s (execPackageTimeSend s) := by simp [execPackageTimeSend]

@[simp] theorem execFabricLatencyMeasure_fixed (d : DieId) (rtt : Nat) (s : State) :
    Keeps s (execFabricLatencyMeasure d rtt s) := by simp [execFabricLatencyMeasure]

@[simp] theorem execPackageTimeDistribution_fixed (d : DieId) (count : BitVec 64) (s : State) :
    Keeps s (execPackageTimeDistribution d count s) := by simp [execPackageTimeDistribution]

@[simp] theorem execTimeAlignTimeout_fixed (d : DieId) (s : State) :
    Keeps s (execTimeAlignTimeout d s) := by simp [execTimeAlignTimeout]

@[simp] theorem execSpindlePhaseReferenceSend_fixed (s : State) :
    Keeps s (execSpindlePhaseReferenceSend s) := by simp [execSpindlePhaseReferenceSend]

@[simp] theorem execSpindlePhaseReference_fixed (d : DieId) (t0 : BitVec 64) (speed : BitVec 40) (s : State) :
    Keeps s (execSpindlePhaseReference d t0 speed s) := by simp [execSpindlePhaseReference]

end Sys2Proof.Machine
end

