-- ==== Sys2Proof/Laws/FixedSpindle.lean ====
section
/-! SUPPORT. The operations and meanings of Machine/Spindle.lean leave the part and the queue as they are. -/

namespace Sys2Proof.Machine

@[simp] theorem State.sampleCurrents_fixed (s : State) (d : DieId) (x : PwmSample) :
    (State.sampleCurrents s d x).fixed = s.fixed := by simp [State.sampleCurrents]

@[simp] theorem State.currentLoop_fixed (s : State) (d : DieId) : (State.currentLoop s d).fixed = s.fixed := (rfl)

@[simp] theorem State.formDuties_fixed (s : State) (d : DieId) : (State.formDuties s d).fixed = s.fixed := (rfl)

@[simp] theorem State.observe_fixed (s : State) (d : DieId) (x : PwmSample) (prevU : Rat) (prevV : Rat) (prevW : Rat) :
    (State.observe s d x prevU prevV prevW).fixed = s.fixed := (rfl)

@[simp] theorem State.rampStep_fixed (s : State) (d : DieId) :
    (State.rampStep s d).fixed = s.fixed := by simp [State.rampStep]

@[simp] theorem State.angleSource_fixed (s : State) (d : DieId) : (State.angleSource s d).fixed = s.fixed := by
  simp only [State.angleSource]
  (repeat' split) <;> simp

@[simp] theorem State.spinStopped_fixed (s : State) (d : DieId) :
    (State.spinStopped s d).fixed = s.fixed := by simp [State.spinStopped]

@[simp] theorem State.alignStart_fixed (s : State) (d : DieId) : (State.alignStart s d).fixed = s.fixed := (rfl)

@[simp] theorem State.slowedDown_fixed (s : State) (d : DieId) : (State.slowedDown s d).fixed = s.fixed := by
  simp only [State.slowedDown]
  (repeat' split) <;> simp

@[simp] theorem State.observerCycle_fixed (s : State) (d : DieId) (before : BitVec 24) :
    (State.observerCycle s d before).fixed = s.fixed := by simp [State.observerCycle]

@[simp] theorem State.speedRevs_fixed (s : State) (d : DieId) :
    (State.speedRevs s d).fixed = s.fixed := by simp [State.speedRevs]

@[simp] theorem execPwmPeriod_fixed (d : DieId) (x : PwmSample) (s : State) :
    Keeps s (execPwmPeriod d x s) := by simp [execPwmPeriod]

@[simp] theorem execObserverValid_fixed (d : DieId) (s : State) :
    Keeps s (execObserverValid d s) := by simp [execObserverValid]

@[simp] theorem execObserverDiverged_fixed (d : DieId) (s : State) :
    Keeps s (execObserverDiverged d s) := by simp [execObserverDiverged]

@[simp] theorem execPredictClamp_fixed (d : DieId) (s : State) :
    Keeps s (execPredictClamp d s) := by simp [execPredictClamp]

@[simp] theorem execPredictClampRelease_fixed (d : DieId) (s : State) :
    Keeps s (execPredictClampRelease d s) := by simp [execPredictClampRelease]

@[simp] theorem execSpinHandoverMismatch_fixed (d : DieId) (s : State) : Keeps s (execSpinHandoverMismatch d s) := by
  refine keeps_onDie ?_
  dsimp only
  (repeat' split) <;> simp

@[simp] theorem State.answer_fixed (s : State) (st : BitVec 16) (result : BitVec 64) (data : List Byte) :
    (State.answer s st result data).fixed = s.fixed := (rfl)

@[simp] theorem objCommand_fixed (d : DieId) (s : State) (f : State → State × Option Nat) (hf : ∀ y0, (f y0).1.fixed = y0.fixed) :
    Keeps s (objCommand d s f) := by
  unfold objCommand
  refine keeps_onDie ?_
  dsimp only
  (repeat' split) <;> simp [hf]

@[simp] theorem execSpinStart_fixed (d : DieId) (s : State) : Keeps s (execSpinStart d s) := by simp [execSpinStart]

@[simp] theorem execSpinStop_fixed (d : DieId) (s : State) : Keeps s (execSpinStop d s) := by simp [execSpinStop]

@[simp] theorem execSpinupSlotGrant_fixed (s : State) : Keeps s (execSpinupSlotGrant s) := by
  unfold execSpinupSlotGrant
  split <;> simp

@[simp] theorem State.rpmChanged_fixed (s : State) (d : DieId) (old : Int) (new : Int) :
    (State.rpmChanged s d old new).fixed = s.fixed := by simp [State.rpmChanged]

@[simp] theorem State.sensed_fixed (s : State) (d : DieId) (fwd : Bool) (rpm : Rat) (idx : Nat) :
    (State.sensed s d fwd rpm idx).fixed = s.fixed := by simp [State.sensed]

@[simp] theorem State.reacqCrossing_fixed (s : State) (d : DieId) (c : Crossing) :
    (State.reacqCrossing s d c).fixed = s.fixed := by
  simp only [State.reacqCrossing]
  (repeat' split) <;> simp

@[simp] theorem execBemfZeroCrossing_fixed (d : DieId) (phase : Phase) (rising : Bool) (t : Nat) (s : State) :
    Keeps s (execBemfZeroCrossing d phase rising t s) := by
  refine keeps_onDie ?_
  dsimp only
  (repeat' split) <;> simp

@[simp] theorem execSenseTimeout_fixed (d : DieId) (s : State) :
    Keeps s (execSenseTimeout d s) := by simp [execSenseTimeout]

@[simp] theorem State.spinFault_fixed (s : State) (d : DieId) (code : Int) :
    (State.spinFault s d code).fixed = s.fixed := by simp [State.spinFault]

@[simp] theorem execBrakeTimeout_fixed (d : DieId) (s : State) :
    Keeps s (execBrakeTimeout d s) := by simp [execBrakeTimeout]

@[simp] theorem execAlignTimeout_fixed (d : DieId) (s : State) :
    Keeps s (execAlignTimeout d s) := by simp [execAlignTimeout]

@[simp] theorem execOpenLoopTimeout_fixed (d : DieId) (s : State) :
    Keeps s (execOpenLoopTimeout d s) := by simp [execOpenLoopTimeout]

@[simp] theorem execSpinAtSpeed_fixed (d : DieId) (s : State) :
    Keeps s (execSpinAtSpeed d s) := by simp [execSpinAtSpeed]

@[simp] theorem execSpinReacqTimeout_fixed (d : DieId) (s : State) :
    Keeps s (execSpinReacqTimeout d s) := by simp [execSpinReacqTimeout]

@[simp] theorem execSpinRetractBrake_fixed (d : DieId) (s : State) :
    Keeps s (execSpinRetractBrake d s) := by simp [execSpinRetractBrake]

@[simp] theorem execSpinRetractBrakeTimeout_fixed (d : DieId) (s : State) :
    Keeps s (execSpinRetractBrakeTimeout d s) := by simp [execSpinRetractBrakeTimeout]

end Sys2Proof.Machine
end

