-- ==== Sys2Proof/Laws/FixedMediaOps.lean ====
section
/-! SUPPORT. The operations and meanings of Machine/MediaOps.lean leave the part and the queue as they are. -/

namespace Sys2Proof.Machine

@[simp] theorem State.dropPermit_fixed (s : State) (d : DieId) (h : HeadId) :
    (State.dropPermit s d h).fixed = s.fixed := by simp [State.dropPermit]

@[simp] theorem State.dropPermits_fixed (s : State) (d : DieId) (hs : List HeadId) :
    (State.dropPermits s d hs).fixed = s.fixed := by simp [State.dropPermits]

@[simp] theorem State.sendPcl_fixed (s : State) (d : DieId) (a : Act) (typ : Nat) (param : Nat) (words : List (BitVec 16)) :
    (State.sendPcl s d a typ param words).fixed = s.fixed := (rfl)

@[simp] theorem State.sendOpen_fixed (s : State) (d : DieId) (a : Act) (typ : Nat) (param : Nat) (words : List (BitVec 16)) :
    (State.sendOpen s d a typ param words).fixed = s.fixed := by simp [State.sendOpen]

end Sys2Proof.Machine
end

