-- ==== Sys2Proof/Laws/FixedZoneGeom.lean ====
section
/-! SUPPORT. The operations and meanings of Machine/ZoneGeom.lean leave the part and the queue as they are. -/

namespace Sys2Proof.Machine

@[simp] theorem State.putZone_fixed (s : State) (d : DieId) (z : Nat) (v : Zone) :
    (State.putZone s d z v).fixed = s.fixed := (rfl)

@[simp] theorem State.modZone_fixed (s : State) (d : DieId) (z : Nat) (f : Zone → Zone) :
    (State.modZone s d z f).fixed = s.fixed := (rfl)

@[simp] theorem State.mark_fixed (s : State) (d : DieId) (e : VerifyEntry) :
    (State.mark s d e).fixed = s.fixed := by simp [State.mark]

@[simp] theorem State.servoMark_fixed (s : State) (d : DieId) (h : HeadId) (reason : Nat) :
    (State.servoMark s d h reason).fixed = s.fixed := by simp [State.servoMark]

end Sys2Proof.Machine
end

