-- ==== Sys2Proof/Laws/FixedZoneOps.lean ====
section
/-! SUPPORT. The operations and meanings of Machine/ZoneOps.lean leave the part and the queue as they are. -/

namespace Sys2Proof.Machine

@[simp] theorem State.flushJournal_fixed (s : State) (d : DieId) : (State.flushJournal s d).fixed = s.fixed := (rfl)

@[simp] theorem State.applyItem_fixed (s : State) (d : DieId) (jseq : Nat) (z0 : JItem) :
    (State.applyItem s d jseq z0).fixed = s.fixed := by
  unfold State.applyItem
  split <;> simp

@[simp] theorem State.journalFlags_fixed (s : State) (d : DieId) (asn : Nat) (flags : BitVec 8) (items : List JItem) :
    (State.journalFlags s d asn flags items).fixed = s.fixed := by simp [State.journalFlags]

@[simp] theorem State.journal_fixed (s : State) (d : DieId) (asn : Nat) (items : List JItem) :
    (State.journal s d asn items).fixed = s.fixed := by simp [State.journal]

@[simp] theorem State.poolCheck_fixed (s : State) (d : DieId) (a : Act) :
    (State.poolCheck s d a).fixed = s.fixed := by simp [State.poolCheck]

@[simp] theorem State.takeSegment_fixed (s : State) (d : DieId) (z : Nat) (lead : Nat) (a : Act) :
    (State.takeSegment s d z lead a).fixed = s.fixed := by simp [State.takeSegment]

@[simp] theorem State.putVersions_fixed (s : State) (d : DieId) (block : Nat) (vs : List CacheVer) :
    (State.putVersions s d block vs).fixed = s.fixed := (rfl)

@[simp] theorem State.putSector_fixed (s : State) (d : DieId) (h : HeadId) (loc : SectorLoc) (v : Sector) :
    (State.putSector s d h loc v).fixed = s.fixed := (rfl)

@[simp] theorem State.putBlock_fixed (s : State) (d : DieId) (block : Nat) (dom : Nat) (resets : Nat) (seg : Option Nat) (h : HeadId) (loc : SectorLoc) (data : Block) :
    (State.putBlock s d block dom resets seg h loc data).fixed = s.fixed := (rfl)

@[simp] theorem State.pendItem_fixed (s : State) (d : DieId) (items : List JItem) (clean : List (Nat × Nat)) :
    (State.pendItem s d items clean).fixed = s.fixed := (rfl)

@[simp] theorem State.pendOpen_fixed (s : State) (d : DieId) : (State.pendOpen s d).fixed = s.fixed := (rfl)

@[simp] theorem State.pendClose_fixed (s : State) (d : DieId) : (State.pendClose s d).fixed = s.fixed := (rfl)

theorem State.appendBlock_fixed (s : State) (d : DieId) (z : Nat) (o : Nat) (data : Block) (settle : Nat) :
    ∀ t, (State.appendBlock s d z o data settle) = some t → t.fixed = s.fixed := by
  simp only [State.appendBlock]
  (repeat' split) <;> simp

@[simp] theorem State.skipSlots_fixed (s : State) (d : DieId) (z : Nat) (n : Nat) (settle : Nat) :
    (State.skipSlots s d z n settle).fixed = s.fixed := (rfl)

@[simp] theorem State.appendRun_fixed (s : State) (d : DieId) (z : Nat) (settle : Nat) (z0 : List (Nat × Option Block)) :
    (State.appendRun s d z settle z0).1.fixed = s.fixed := by
  induction z0 generalizing s with
  | nil => simp [State.appendRun]
  | cons e l ih =>
    simp only [State.appendRun]
    split
    · rfl
    · next t h =>
      rw [ih]
      split at h
      · exact State.appendBlock_fixed _ _ _ _ _ _ _ h
      · cases h; simp

@[simp] theorem State.placeNext_fixed (s : State) (d : DieId) (z : Nat) (o : Nat) (v : CacheVer) :
    (State.placeNext s d z o v).1.fixed = s.fixed := by
  simp only [State.placeNext]
  split
  · rfl
  · split
    · simp
    · split
      · simp
      · next t h => simp [State.appendBlock_fixed _ _ _ _ _ _ _ h]

@[simp] theorem State.makeReadOnly_fixed (s : State) (d : DieId) (z : Nat) :
    (State.makeReadOnly s d z).fixed = s.fixed := by simp [State.makeReadOnly]

@[simp] theorem State.writeFailed_fixed (s : State) (d : DieId) (h : HeadId) :
    (State.writeFailed s d h).fixed = s.fixed := by simp [State.writeFailed]

end Sys2Proof.Machine
end

