-- ==== Sys2Proof/Laws/FixedServo.lean ====
section
/-! SUPPORT. The operations and meanings of Machine/Servo.lean leave the part and the queue as they are. -/

namespace Sys2Proof.Machine

@[simp] theorem State.missWedge_fixed (s : State) (d : DieId) (h : HeadId) (gray : Bool) (index : Bool) :
    (State.missWedge s d h gray index).fixed = s.fixed := by simp [State.missWedge]

@[simp] theorem State.hitWedge_fixed (s : State) (d : DieId) (h : HeadId) (m : Measured) (group : Nat) (eye : Rat) :
    (State.hitWedge s d h m group eye).fixed = s.fixed := (rfl)

@[simp] theorem execDemodWedge_fixed (d : DieId) (h : HeadId) (x : WedgeSignal) (s : State) :
    Keeps s (execDemodWedge d h x s) := by
  refine keeps_onDie ?_
  dsimp only
  unfold when
  split
  · rw [State.modHead_fixed]
    split <;> (try rw [State.bump_fixed]) <;> (repeat' split) <;> simp
  · rfl

@[simp] theorem execHeadMissWriteInhibit_fixed (d : DieId) (h : HeadId) (s : State) :
    Keeps s (execHeadMissWriteInhibit d h s) := by simp [execHeadMissWriteInhibit]

@[simp] theorem execHeadMissDrop_fixed (d : DieId) (h : HeadId) (s : State) :
    Keeps s (execHeadMissDrop d h s) := by simp [execHeadMissDrop]

@[simp] theorem State.recoverStart_fixed (s : State) (d : DieId) (a : Act) (e : Option EventKind) :
    (State.recoverStart s d a e).fixed = s.fixed := by
  unfold State.recoverStart
  (repeat' split) <;> simp

@[simp] theorem execHeadServoLost_fixed (d : DieId) (h : HeadId) (s : State) :
    Keeps s (execHeadServoLost d h s) := by simp [execHeadServoLost]

@[simp] theorem State.recoverDone_fixed (s : State) (d : DieId) (a : Act) :
    (State.recoverDone s d a).fixed = s.fixed := by simp [State.recoverDone]

@[simp] theorem execHeadServoRejoin_fixed (d : DieId) (h : HeadId) (s : State) :
    Keeps s (execHeadServoRejoin d h s) := by simp [execHeadServoRejoin]

@[simp] theorem execGrayMismatchInvalid_fixed (d : DieId) (h : HeadId) (s : State) :
    Keeps s (execGrayMismatchInvalid d h s) := by simp [execGrayMismatchInvalid]

end Sys2Proof.Machine
end

