-- ==== Sys2Proof/Laws/FixedTrack.lean ====
section
/-! SUPPORT. The operations and meanings of Machine/Track.lean leave the part and the queue as they are. -/

namespace Sys2Proof.Machine

@[simp] theorem State.collectRecords_fixed (s : State) (d : DieId) :
    (State.collectRecords s d).fixed = s.fixed := by simp [State.collectRecords]

@[simp] theorem State.settle_fixed (s : State) (d : DieId) (a : Act) :
    (State.settle s d a).fixed = s.fixed := by simp [State.settle]

@[simp] theorem State.loaded_fixed (s : State) (d : DieId) (a : Act) : (State.loaded s d a).fixed = s.fixed := by
  simp only [State.loaded]
  (repeat' split) <;> simp

@[simp] theorem State.actWedge_fixed (s : State) (d : DieId) (a : Act) : (State.actWedge s d a).fixed = s.fixed := by
  simp only [State.actWedge]
  (repeat' split) <;> simp

@[simp] theorem State.actError_fixed (s : State) (d : DieId) (a : Act) :
    (State.actError s d a).fixed = s.fixed := by simp [State.actError]

@[simp] theorem State.vcmFeedback_fixed (s : State) (d : DieId) (a : Act) :
    (State.vcmFeedback s d a).fixed = s.fixed := by simp [State.vcmFeedback]

@[simp] theorem State.vcmOutput_fixed (s : State) (d : DieId) (a : Act) :
    (State.vcmOutput s d a).fixed = s.fixed := by simp [State.vcmOutput]

@[simp] theorem State.maLoop_fixed (s : State) (d : DieId) (h : HeadId) : (State.maLoop s d h).fixed = s.fixed := by
  unfold State.maLoop
  split <;> simp

@[simp] theorem State.vcmFrameOut_fixed (s : State) (d : DieId) (a : Act) :
    (State.vcmFrameOut s d a).fixed = s.fixed := by
  simp only [State.vcmFrameOut]
  (repeat' split) <;> simp

@[simp] theorem State.unmonitored_fixed (s : State) (d : DieId) (a : Act) :
    (State.unmonitored s d a).fixed = s.fixed := by simp [State.unmonitored]

@[simp] theorem State.maUpdate_fixed (s : State) (d : DieId) (a : Act) :
    (State.maUpdate s d a).fixed = s.fixed := by simp [State.maUpdate]

@[simp] theorem State.permitHead_fixed (s : State) (d : DieId) (h : HeadId) :
    (State.permitHead s d h).fixed = s.fixed := by simp [State.permitHead]

@[simp] theorem State.giveGrant_fixed (s : State) (d : DieId) (borrowed : Bool) (pre : Bool) (r : SlotRun) :
    (State.giveGrant s d borrowed pre r).fixed = s.fixed := (rfl)

@[simp] theorem State.refuseRequest_fixed (s : State) (d : DieId) (h : HeadId) :
    (State.refuseRequest s d h).fixed = s.fixed := by
  simp only [State.refuseRequest]
  (repeat' split) <;> simp

@[simp] theorem State.grantSlot_fixed (s : State) (d : DieId) :
    (State.grantSlot s d).fixed = s.fixed := by simp [State.grantSlot]

@[simp] theorem execServoCollect_fixed (d : DieId) (s : State) :
    Keeps s (execServoCollect d s) := by simp [execServoCollect]

@[simp] theorem State.controlLawFault_fixed (s : State) (d : DieId) :
    (State.controlLawFault s d).fixed = s.fixed := by simp [State.controlLawFault]

@[simp] theorem execServoOverrun_fixed (d : DieId) (s : State) :
    Keeps s (execServoOverrun d s) := by simp [execServoOverrun]

@[simp] theorem State.swapCommand_fixed (s : State) (d : DieId) (a : Act) :
    (State.swapCommand s d a).1.fixed = s.fixed := by
  simp only [State.swapCommand]
  (repeat' split) <;> simp

@[simp] theorem execCoeffSwap_fixed (d : DieId) (a : Act) (s : State) : Keeps s (execCoeffSwap d a s) := by
  refine keeps_onDie ?_
  (try dsimp only)
  (repeat' split) <;> simp

@[simp] theorem execCoeffSwapApply_fixed (d : DieId) (a : Act) (s : State) : Keeps s (execCoeffSwapApply d a s) := by
  refine keeps_onDie ?_
  (try dsimp only)
  (repeat' split) <;> simp

@[simp] theorem actCommand_fixed (d : DieId) (s : State) (f : State → State × Option Nat) (hf : ∀ y0, (f y0).1.fixed = y0.fixed) :
    Keeps s (actCommand d s f) := by
  refine keeps_onDie ?_
  (try dsimp only)
  (repeat' split) <;> simp [*]

@[simp] theorem State.rateLimits_fixed (s : State) (d : DieId) (a : Act) :
    (State.rateLimits s d a).fixed = s.fixed := by simp [State.rateLimits]

@[simp] theorem execActLoad_fixed (d : DieId) (a : Act) (s : State) : Keeps s (execActLoad d a s) := by
  unfold execActLoad actCommand
  refine keeps_onDie ?_
  (try dsimp only)
  (repeat' split) <;> simp

@[simp] theorem execActUnload_fixed (d : DieId) (a : Act) (s : State) :
    Keeps s (execActUnload d a s) := by simp [execActUnload]

@[simp] theorem execActSeek_fixed (d : DieId) (a : Act) (targets : List Nat) (s : State) :
    Keeps s (execActSeek d a targets s) := by
  refine keeps_onDie ?_
  (try dsimp only)
  (repeat' split) <;> simp

@[simp] theorem execActLoadTimeout_fixed (d : DieId) (a : Act) (s : State) :
    Keeps s (execActLoadTimeout d a s) := by simp [execActLoadTimeout]

@[simp] theorem execActSettled_fixed (d : DieId) (a : Act) (s : State) :
    Keeps s (execActSettled d a s) := by simp [execActSettled]

@[simp] theorem execActSettleFail_fixed (d : DieId) (a : Act) (s : State) :
    Keeps s (execActSettleFail d a s) := by simp [execActSettleFail]

@[simp] theorem execActRecoverTimeout_fixed (d : DieId) (a : Act) (s : State) :
    Keeps s (execActRecoverTimeout d a s) := by simp [execActRecoverTimeout]

@[simp] theorem State.park_fixed (s : State) (d : DieId) (a : Act) :
    (State.park s d a).fixed = s.fixed := by simp [State.park]

@[simp] theorem State.unloadedClock_fixed (s : State) (d : DieId) :
    (State.unloadedClock s d).fixed = s.fixed := by simp [State.unloadedClock]

@[simp] theorem State.actFault_fixed (s : State) (d : DieId) (a : Act) (code : Int) :
    (State.actFault s d a code).fixed = s.fixed := by simp [State.actFault]

@[simp] theorem State.retryLoad_fixed (s : State) (d : DieId) (a : Act) (tries : Nat) (limit : Nat) (code : Int) :
    (State.retryLoad s d a tries limit code).fixed = s.fixed := by simp [State.retryLoad]

@[simp] theorem State.headsOff_fixed (s : State) (d : DieId) :
    (State.headsOff s d).fixed = s.fixed := by simp [State.headsOff]

@[simp] theorem execActRetractDone_fixed (d : DieId) (a : Act) (s : State) : Keeps s (execActRetractDone d a s) := by
  refine keeps_onDie ?_
  (try dsimp only)
  (repeat' split) <;> simp

@[simp] theorem execShockTrip_fixed (d : DieId) (s : State) : Keeps s (execShockTrip d s) := by
  refine keeps_onDie ?_
  (try dsimp only)
  (repeat' split) <;> simp

@[simp] theorem execShockClear_fixed (d : DieId) (s : State) :
    Keeps s (execShockClear d s) := by simp [execShockClear]

@[simp] theorem execShockHoldoffEnd_fixed (d : DieId) (s : State) :
    Keeps s (execShockHoldoffEnd d s) := by simp [execShockHoldoffEnd]

end Sys2Proof.Machine
end

