-- ==== Sys2Proof/Laws/FixedChannel.lean ====
section
/-! SUPPORT. The operations and meanings of Machine/Channel.lean leave the part and the queue as they are. -/

namespace Sys2Proof.Machine

@[simp] theorem State.countMarks_fixed (s : State) (d : DieId) (h : HeadId) (x : ReadAttempt) :
    (State.countMarks s d h x).fixed = s.fixed := by simp [State.countMarks]

@[simp] theorem State.startTaps_fixed (s : State) (d : DieId) (h : HeadId) (r : Nat) :
    (State.startTaps s d h r).fixed = s.fixed := (rfl)

@[simp] theorem State.endTaps_fixed (s : State) (d : DieId) (h : HeadId) (ok : Bool) :
    (State.endTaps s d h ok).fixed = s.fixed := by simp [State.endTaps]

@[simp] theorem State.countIterations_fixed (s : State) (d : DieId) (h : HeadId) (n : Nat) :
    (State.countIterations s d h n).fixed = s.fixed := by simp [State.countIterations]

@[simp] theorem State.chanResult_fixed (s : State) (d : DieId) (h : HeadId) (loc : SectorLoc) (r : ChannelResult) (step : Nat) :
    (State.chanResult s d h loc r step).fixed = s.fixed := by
  unfold State.chanResult
  (repeat' split) <;> simp

@[simp] theorem State.queueDecode_fixed (s : State) (d : DieId) (h : HeadId) :
    (State.queueDecode s d h).fixed = s.fixed := (rfl)

@[simp] theorem State.enterStep_fixed (s : State) (d : DieId) (h : HeadId) (l : Ladder) (n : Nat) :
    (State.enterStep s d h l n).fixed = s.fixed := by simp [State.enterStep]

@[simp] theorem State.leaveLadder_fixed (s : State) (d : DieId) (h : HeadId) (loc : SectorLoc) :
    (State.leaveLadder s d h loc).fixed = s.fixed := by
  simp only [State.leaveLadder]
  (repeat' split) <;> simp

@[simp] theorem State.endLadder_fixed (s : State) (d : DieId) (h : HeadId) (l : Ladder) (r : ChannelResult) :
    (State.endLadder s d h l r).fixed = s.fixed := by simp [State.endLadder]

@[simp] theorem State.failOnTheFly_fixed (s : State) (d : DieId) (h : HeadId) (l : Ladder) :
    (State.failOnTheFly s d h l).fixed = s.fixed := by simp [State.failOnTheFly]

@[simp] theorem State.nextStep_fixed (s : State) (d : DieId) (h : HeadId) (l : Ladder) :
    (State.nextStep s d h l).fixed = s.fixed := by
  unfold State.nextStep
  split <;> simp

@[simp] theorem State.ladderVerdict_fixed (s : State) (d : DieId) (h : HeadId) (l : Ladder) (x : ReadAttempt) (ok : Bool) :
    (State.ladderVerdict s d h l x ok).1.fixed = s.fixed := by
  unfold State.ladderVerdict
  (repeat' split) <;> simp

@[simp] theorem State.ladderRead_fixed (s : State) (d : DieId) (h : HeadId) (l : Ladder) (x : ReadAttempt) :
    (State.ladderRead s d h l x).fixed = s.fixed := by
  simp only [State.ladderRead]
  (repeat' split) <;> simp

@[simp] theorem State.ladderReads_fixed (s : State) (d : DieId) (h : HeadId) (loc : SectorLoc) (step : Nat) (z0 : List ReadAttempt) :
    (State.ladderReads s d h loc step z0).fixed = s.fixed := by
  induction z0 generalizing s with
  | nil => simp [State.ladderReads]
  | cons x l ih =>
    simp only [State.ladderReads]
    (repeat' split) <;> simp [ih]

@[simp] theorem execSectorRead_fixed (d : DieId) (h : HeadId) (loc : SectorLoc) (x : ReadAttempt) (s : State) :
    Keeps s (execSectorRead d h loc x s) := by simp [execSectorRead]

@[simp] theorem execLadderStep_fixed (d : DieId) (h : HeadId) (xs : List ReadAttempt) (s : State) :
    Keeps s (execLadderStep d h xs s) := by
  refine keeps_onDie ?_
  (try dsimp only)
  (repeat' split) <;> simp

@[simp] theorem execRecoveryDecodeDone_fixed (d : DieId) (a : Act) (x : ReadAttempt) (s : State) :
    Keeps s (execRecoveryDecodeDone d a x s) := by
  refine keeps_onDie ?_
  (try dsimp only)
  (repeat' split) <;> simp

@[simp] theorem State.revokeOne_fixed (s : State) (d : DieId) (next : Bool) (h : HeadId) :
    (State.revokeOne s d next h).fixed = s.fixed := by simp [State.revokeOne]

@[simp] theorem State.revokeLoop_fixed (s : State) (d : DieId) (next : Bool) (z0 : Nat) :
    (State.revokeLoop s d next z0).fixed = s.fixed := by
  induction z0 generalizing s with
  | zero => simp [State.revokeLoop]
  | succ n ih =>
    simp only [State.revokeLoop]
    (repeat' split) <;> simp [ih]

@[simp] theorem State.driveData_fixed (s : State) (d : DieId) (h : HeadId) (j : WriteJob) (rest : List WriteJob) (overshoot : BitVec 8) :
    (State.driveData s d h j rest overshoot).fixed = s.fixed := (rfl)

@[simp] theorem State.abandonJob_fixed (s : State) (d : DieId) (h : HeadId) (j : WriteJob) (rest : List WriteJob) :
    (State.abandonJob s d h j rest).fixed = s.fixed := by simp [State.abandonJob]

@[simp] theorem execSectorWriteStart_fixed (d : DieId) (h : HeadId) (overshoot : BitVec 8) (s : State) :
    Keeps s (execSectorWriteStart d h overshoot s) := by
  refine keeps_onDie ?_
  (try dsimp only)
  (repeat' split) <;> simp

@[simp] theorem execAssistPreheatStart_fixed (d : DieId) (h : HeadId) (s : State) :
    Keeps s (execAssistPreheatStart d h s) := by simp [execAssistPreheatStart]

@[simp] theorem execSectorWriteEnd_fixed (d : DieId) (h : HeadId) (s : State) :
    Keeps s (execSectorWriteEnd d h s) := by
  refine keeps_onDie ?_
  (try dsimp only)
  (repeat' split) <;> simp

@[simp] theorem execSectorAbandon_fixed (d : DieId) (h : HeadId) (s : State) : Keeps s (execSectorAbandon d h s) := by
  refine keeps_onDie ?_
  (try dsimp only)
  (repeat' split) <;> simp

@[simp] theorem execAssistRequest_fixed (d : DieId) (h : HeadId) (sectors : List SectorLoc) (s : State) :
    Keeps s (execAssistRequest d h sectors s) := by simp [execAssistRequest]

end Sys2Proof.Machine
end

