-- ==== Sys2Proof/Laws/FixedPreamp.lean ====
section
/-! SUPPORT. The operations and meanings of Machine/Preamp.lean leave the part and the queue as they are. -/

namespace Sys2Proof.Machine

@[simp] theorem execHeadModeSend_fixed (d : DieId) (a : Act) (write : Bool) (s : State) :
    Keeps s (execHeadModeSend d a write s) := by simp [execHeadModeSend]

@[simp] theorem execHeaterSend_fixed (d : DieId) (a : Act) (writing : BitVec 12) (s : State) :
    Keeps s (execHeaterSend d a writing s) := by
  refine keeps_onDie ?_
  (try dsimp only)
  (repeat' split) <;> simp

@[simp] theorem execAssistFrameSend_fixed (d : DieId) (a : Act) (s : State) :
    Keeps s (execAssistFrameSend d a s) := by
  refine keeps_onDie ?_
  (try dsimp only)
  (repeat' split) <;> simp

@[simp] theorem execWriteLevelSend_fixed (d : DieId) (a : Act) (s : State) :
    Keeps s (execWriteLevelSend d a s) := by simp [execWriteLevelSend]

@[simp] theorem execPreampRegWrite_fixed (d : DieId) (a : Act) (reg : BitVec 8) (words : List (BitVec 16)) (s : State) :
    Keeps s (execPreampRegWrite d a reg words s) := by simp [execPreampRegWrite]

@[simp] theorem State.regReadSend_fixed (s : State) (d : DieId) (a : Act) (reg : BitVec 8) :
    (State.regReadSend s d a reg).fixed = s.fixed := (rfl)

@[simp] theorem execPreampRegRead_fixed (d : DieId) (a : Act) (reg : BitVec 8) (s : State) :
    Keeps s (execPreampRegRead d a reg s) := by simp [execPreampRegRead]

@[simp] theorem State.pclFault_fixed (s : State) (d : DieId) (a : Act) :
    (State.pclFault s d a).fixed = s.fixed := by simp [State.pclFault]

@[simp] theorem State.pclReset_fixed (s : State) (d : DieId) (a : Act) :
    (State.pclReset s d a).fixed = s.fixed := by simp [State.pclReset]

@[simp] theorem execPclLinkReset_fixed (d : DieId) (a : Act) (s : State) :
    Keeps s (execPclLinkReset d a s) := by simp [execPclLinkReset]

@[simp] theorem State.pclError_fixed (s : State) (d : DieId) (a : Act) :
    (State.pclError s d a).fixed = s.fixed := by simp [State.pclError]

@[simp] theorem State.upstream_fixed (s : State) (d : DieId) (a : Act) (param : BitVec 8) :
    (State.upstream s d a param).fixed = s.fixed := by
  unfold State.upstream
  dsimp only
  split
  · simp
  · rw [State.pclError_fixed, foldl_fixed _ (fun s x => by simp)]
    split <;> simp

@[simp] theorem onReport_fixed (d : DieId) (a : Act) (s : State) (f : State → State) (hf : ∀ y0, (f y0).fixed = y0.fixed) :
    Keeps s (onReport d a s f) := by simp [onReport, *]

@[simp] theorem execPreampStatusReport_fixed (d : DieId) (a : Act) (param : BitVec 8) (w0 : BitVec 16) (w1 : BitVec 16) (s : State) :
    Keeps s (execPreampStatusReport d a param w0 w1 s) := by simp [execPreampStatusReport]

@[simp] theorem execPreampTempReport_fixed (d : DieId) (a : Act) (param : BitVec 8) (temps : List (BitVec 16)) (s : State) :
    Keeps s (execPreampTempReport d a param temps s) := by simp [execPreampTempReport]

@[simp] theorem State.pdWord_fixed (s : State) (d : DieId) (h : HeadId) (w : BitVec 16) :
    (State.pdWord s d h w).fixed = s.fixed := by simp [State.pdWord]

@[simp] theorem execPreampPdReport_fixed (d : DieId) (a : Act) (param : BitVec 8) (words : List (BitVec 16)) (s : State) :
    Keeps s (execPreampPdReport d a param words s) := by simp [execPreampPdReport]

@[simp] theorem execPreampRegDataReport_fixed (d : DieId) (a : Act) (param : BitVec 8) (v : BitVec 16) (s : State) :
    Keeps s (execPreampRegDataReport d a param v s) := by simp [execPreampRegDataReport]

@[simp] theorem execPreampReportMissing_fixed (d : DieId) (a : Act) (s : State) :
    Keeps s (execPreampReportMissing d a s) := by simp [execPreampReportMissing]

@[simp] theorem execPclIdCheck_fixed (d : DieId) (a : Act) (id : BitVec 16) (s : State) :
    Keeps s (execPclIdCheck d a id s) := by
  refine keeps_onDie ?_
  (try dsimp only)
  (repeat' split) <;> simp

@[simp] theorem execPclLinkUp_fixed (d : DieId) (a : Act) (s : State) :
    Keeps s (execPclLinkUp d a s) := by simp [execPclLinkUp]

end Sys2Proof.Machine
end

