-- ==== Sys2Proof/Laws/FixedBudget.lean ====
section
/-! SUPPORT. The operations and meanings of Machine/Budget.lean leave the part and the queue as they are. -/

namespace Sys2Proof.Machine

@[simp] theorem State.budgetUpdate_fixed (s : State) (d : DieId) :
    (State.budgetUpdate s d).fixed = s.fixed := by simp [State.budgetUpdate]

end Sys2Proof.Machine
end

