-- ==== Sys2Proof/Laws/FixedCalibration.lean ====
section
/-! SUPPORT. The operations and meanings of Machine/Calibration.lean leave the part and the queue as they are. -/

namespace Sys2Proof.Machine

@[simp] theorem State.evalRecord_fixed (s : State) (d : DieId) (kind : Nat) (inst : Nat) :
    (State.evalRecord s d kind inst).fixed = s.fixed := by
  unfold State.evalRecord
  split <;> simp

@[simp] theorem State.evalWaiting_fixed (s : State) (d : DieId) :
    (State.evalWaiting s d).fixed = s.fixed := by simp [State.evalWaiting]

theorem State.storeCopy_fixed (s : State) (d : DieId) (kind : Nat) (inst : Nat) (make : Nat → List Byte) :
    ∀ t, (State.storeCopy s d kind inst make) = some t → t.1.fixed = s.fixed := by simp [State.storeCopy]

@[simp] theorem State.applyPayload_fixed (s : State) (d : DieId) (kind : Nat) (inst : Nat) (p : List Byte) :
    (State.applyPayload s d kind inst p).fixed = s.fixed := by
  unfold State.applyPayload
  split <;> simp

theorem State.writeRecord_fixed (s : State) (d : DieId) (kind : Nat) (inst : Nat) (origin : Nat) (revs : Nat) (p : List Byte) :
    ∀ t, (State.writeRecord s d kind inst origin revs p) = some t → t.1.fixed = s.fixed := by
  intro t h
  simp only [State.writeRecord] at h
  split at h
  · cases h
  · next r hr =>
    cases h
    simp [State.storeCopy_fixed _ _ _ _ _ _ hr]

@[simp] theorem State.importRecord_fixed (s : State) (d : DieId) (kind : Nat) (inst : Nat) (bytes : List Byte) :
    (State.importRecord s d kind inst bytes).1.fixed = s.fixed := by
  simp only [State.importRecord]
  split
  · rfl
  · split
    · rfl
    · split
      · rfl
      · next r hr => simp [State.storeCopy_fixed _ _ _ _ _ _ hr]

@[simp] theorem State.writeRecordObject_fixed (s : State) (d : DieId) (kind : Nat) (inst : Nat) (p : List Byte) :
    (State.writeRecordObject s d kind inst p).1.fixed = s.fixed := by
  simp only [State.writeRecordObject]
  split
  · rfl
  · split
    · rfl
    · split
      · rfl
      · next r hr => exact State.writeRecord_fixed _ _ _ _ _ _ _ _ hr

@[simp] theorem State.calRefuse_fixed (s : State) (inst : Nat) (kind : Nat) (code : Nat) :
    (State.calRefuse s inst kind code).1.fixed = s.fixed := by simp [State.calRefuse]

@[simp] theorem State.maReference_fixed (s : State) (d : DieId) (inst : Nat) :
    (State.maReference s d inst).fixed = s.fixed := by
  unfold State.maReference
  split <;> simp

@[simp] theorem State.calStart_fixed (s : State) (d : DieId) (inst : Nat) (kind : Nat) (heads : List HeadId) (bad : List (HeadId × BitVec 16)) :
    (State.calStart s d inst kind heads bad).fixed = s.fixed := by simp [State.calStart]

@[simp] theorem State.calCommand_fixed (s : State) (d : DieId) (inst : Nat) (kind : Nat) :
    (State.calCommand s d inst kind).1.fixed = s.fixed := by
  simp only [State.calCommand]
  (repeat' split) <;> simp

@[simp] theorem statusCommand_fixed (d : DieId) (s : State) (f : State → State × BitVec 16 × Nat) (hf : ∀ y0, (f y0).1.fixed = y0.fixed) :
    Keeps s (statusCommand d s f) := by
  refine keeps_onDie ?_
  (try dsimp only)
  (repeat' split) <;> simp [*]

@[simp] theorem calStartCommand_fixed (sel : CalSel) (kind : Nat) (s : State) :
    Keeps s (calStartCommand sel kind s) := by simp [calStartCommand]

@[simp] theorem execCalChannelAdapt_fixed (sel : CalSel) (s : State) :
    Keeps s (execCalChannelAdapt sel s) := by simp [execCalChannelAdapt]

@[simp] theorem execCalHeater_fixed (sel : CalSel) (s : State) :
    Keeps s (execCalHeater sel s) := by simp [execCalHeater]

@[simp] theorem execCalAssistOpt_fixed (sel : CalSel) (s : State) :
    Keeps s (execCalAssistOpt sel s) := by simp [execCalAssistOpt]

@[simp] theorem execCalChevronGeom_fixed (sel : CalSel) (s : State) :
    Keeps s (execCalChevronGeom sel s) := by simp [execCalChevronGeom]

@[simp] theorem execCalMaGain_fixed (sel : CalSel) (s : State) :
    Keeps s (execCalMaGain sel s) := by simp [execCalMaGain]

@[simp] theorem execCalVcmTorque_fixed (sel : CalSel) (s : State) :
    Keeps s (execCalVcmTorque sel s) := by simp [execCalVcmTorque]

@[simp] theorem execCalSenseOffset_fixed (sel : CalSel) (s : State) :
    Keeps s (execCalSenseOffset sel s) := by simp [execCalSenseOffset]

@[simp] theorem execCalBemfSymmetry_fixed (sel : CalSel) (s : State) :
    Keeps s (execCalBemfSymmetry sel s) := by simp [execCalBemfSymmetry]

@[simp] theorem execCalHoldupCap_fixed (sel : CalSel) (s : State) :
    Keeps s (execCalHoldupCap sel s) := by simp [execCalHoldupCap]

@[simp] theorem execCalAbort_fixed (sel : CalSel) (s : State) : Keeps s (execCalAbort sel s) := by simp [execCalAbort]

@[simp] theorem State.calCommit_fixed (s : State) (d : DieId) (kind : Nat) (inst : Nat) (revs : Nat) (p : List Byte) :
    (State.calCommit s d kind inst revs p).1.fixed = s.fixed := by
  simp only [State.calCommit]
  split
  · rfl
  · split
    · rfl
    · next r hr =>
      have := State.writeRecord_fixed _ _ _ _ _ _ _ _ hr
      (repeat' split) <;> simp [this]

@[simp] theorem State.calDoneEvent_fixed (s : State) (d : DieId) (kind : Nat) (inst : Nat) :
    (State.calDoneEvent s d kind inst).fixed = s.fixed := by simp [State.calDoneEvent]

@[simp] theorem State.calConverged_fixed (s : State) (d : DieId) (sel : CalSel) (m : CalMeasure) :
    (State.calConverged s d sel m).fixed = s.fixed := by
  simp only [State.calConverged]
  (repeat' split) <;> simp

@[simp] theorem execCalConverge_fixed (sel : CalSel) (m : CalMeasure) (s : State) :
    Keeps s (execCalConverge sel m s) := by simp [execCalConverge]

@[simp] theorem execCalTimeout_fixed (sel : CalSel) (s : State) : Keeps s (execCalTimeout sel s) := by
  refine keeps_onDie ?_
  (try dsimp only)
  (repeat' split) <;> simp

@[simp] theorem execBemfFloat_fixed (d : DieId) (crossings : List (Phase × BitVec 24)) (s : State) :
    Keeps s (execBemfFloat d crossings s) := by
  refine keeps_onDie ?_
  (try dsimp only)
  (repeat' split) <;> simp

@[simp] theorem execHoldupTestEnd_fixed (d : DieId) (curve : List (Nat × Nat)) (s : State) :
    Keeps s (execHoldupTestEnd d curve s) := by
  refine keeps_onDie ?_
  (try dsimp only)
  (repeat' split) <;> simp

@[simp] theorem State.figures_fixed (s : State) (d : DieId) (f : HeadFigures) :
    (State.figures s d f).fixed = s.fixed := by simp [State.figures]

@[simp] theorem execQualityWindowEnd_fixed (d : DieId) (figs : List HeadFigures) (s : State) :
    Keeps s (execQualityWindowEnd d figs s) := by simp [execQualityWindowEnd]

@[simp] theorem execPowerOnHour_fixed (d : DieId) (s : State) :
    Keeps s (execPowerOnHour d s) := by simp [execPowerOnHour]

end Sys2Proof.Machine
end

