-- ==== Sys2Proof/Laws/FixedVerbOps.lean ====
section
/-! SUPPORT. The operations and meanings of Machine/VerbOps.lean leave the part and the queue as they are. -/

namespace Sys2Proof.Machine

@[simp] theorem State.modSlot_fixed (s : State) (asn : Nat) (f : Slot → Slot) :
    (State.modSlot s asn f).fixed = s.fixed := by
  unfold State.modSlot
  split <;> simp

@[simp] theorem State.modPart_fixed (s : State) (asn : Nat) (d : DieId) (f : VPart → VPart) :
    (State.modPart s asn d f).fixed = s.fixed := by simp [State.modPart]

@[simp] theorem State.stage_fixed (s : State) (asn : Nat) (d : DieId) (k : Nat) :
    (State.stage s asn d k).fixed = s.fixed := by simp [State.stage]

@[simp] theorem State.traceRecord_fixed (s : State) (sl : Slot) :
    (State.traceRecord s sl).fixed = s.fixed := by simp [State.traceRecord]

@[simp] theorem State.logError_fixed (s : State) (sl : Slot) (status : BitVec 16) (x : ErrInfo) :
    (State.logError s sl status x).fixed = s.fixed := by simp [State.logError]

@[simp] theorem State.cqSignal_fixed (s : State) (q : Nat) (c : Cq) (status : BitVec 16) :
    (State.cqSignal s q c status).fixed = s.fixed := by simp [State.cqSignal]

@[simp] theorem State.putEntry_fixed (s : State) (q : Nat) (sq : Nat) (head : Nat) (result : BitVec 64) (status : BitVec 16) (cid : BitVec 16) :
    (State.putEntry s q sq head result status cid).fixed = s.fixed := by
  unfold State.putEntry
  split <;> simp

@[simp] theorem State.sqSweep_fixed (s : State) (q : Nat) : (State.sqSweep s q).fixed = s.fixed := by
  unfold State.sqSweep
  split <;> simp

@[simp] theorem State.writeCqe_fixed (s : State) (asn : Nat) : (State.writeCqe s asn).fixed = s.fixed := by
  unfold State.writeCqe
  (repeat' split) <;> simp

@[simp] theorem State.postOne_fixed (s : State) (asn : Nat) : (State.postOne s asn).fixed = s.fixed := by
  unfold State.postOne
  (repeat' split) <;> simp

@[simp] theorem State.postAborts_fixed (s : State) (asn : Nat) :
    (State.postAborts s asn).fixed = s.fixed := by simp [State.postAborts]

@[simp] theorem State.post_fixed (s : State) (asn : Nat) : (State.post s asn).fixed = s.fixed := by simp [State.post]

@[simp] theorem State.drainHeld_fixed (s : State) (n : Nat) (z0 : Nat) :
    (State.drainHeld s n z0).fixed = s.fixed := by
  induction z0 generalizing s with
  | zero => simp [State.drainHeld]
  | succ n ih =>
    simp only [State.drainHeld]
    (repeat' split) <;> simp [ih]

@[simp] theorem State.settleVerb_fixed (s : State) (asn : Nat) (status : BitVec 16) (result : BitVec 64) (x : ErrInfo) :
    (State.settleVerb s asn status result x).fixed = s.fixed := by
  unfold State.settleVerb
  split <;> simp

@[simp] theorem State.partBack_fixed (s : State) (sl : Slot) (d : DieId) :
    (State.partBack s sl d).fixed = s.fixed := (rfl)

@[simp] theorem State.ingressBack_fixed (s : State) (sl : Slot) :
    (State.ingressBack s sl).fixed = s.fixed := by simp [State.ingressBack]

@[simp] theorem State.backAll_fixed (s : State) (sl : Slot) :
    (State.backAll s sl).fixed = s.fixed := by simp [State.backAll]

@[simp] theorem State.reject_fixed (s : State) (asn : Nat) (status : BitVec 16) (x : ErrInfo) :
    (State.reject s asn status x).fixed = s.fixed := by
  unfold State.reject
  split <;> simp

@[simp] theorem State.conclude_fixed (s : State) (asn : Nat) : (State.conclude s asn).fixed = s.fixed := by
  unfold State.conclude
  split <;> simp

@[simp] theorem State.deliver_fixed (s : State) (asn : Nat) (d : DieId) :
    (State.deliver s asn d).fixed = s.fixed := by
  unfold State.deliver
  split <;> simp

@[simp] theorem State.partEnd_fixed (s : State) (asn : Nat) (d : DieId) (f : VPart → VPart) :
    (State.partEnd s asn d f).fixed = s.fixed := by simp [State.partEnd]

@[simp] theorem State.partFail_fixed (s : State) (asn : Nat) (d : DieId) (status : BitVec 16) (lba : Option Nat) :
    (State.partFail s asn d status lba).fixed = s.fixed := by simp [State.partFail]

@[simp] theorem State.partOk_fixed (s : State) (asn : Nat) (d : DieId) (result : BitVec 64) (data : List Byte) :
    (State.partOk s asn d result data).fixed = s.fixed := by simp [State.partOk]

end Sys2Proof.Machine
end

