-- ==== Sys2Proof/Laws/FixedData.lean ====
section
/-! SUPPORT. The operations and meanings of Machine/Data.lean leave the part and the queue as they are. -/

namespace Sys2Proof.Machine

@[simp] theorem State.recheck_fixed (s : State) (d : DieId) : (State.recheck s d).fixed = s.fixed := by
  refine foldl_fixed _ (fun s x => ?_) _ _
  (try dsimp only)
  (repeat' split) <;> simp

@[simp] theorem State.cleanBlocks_fixed (s : State) (d : DieId) (xs : List (Nat × Nat)) :
    (State.cleanBlocks s d xs).fixed = s.fixed := by simp [State.cleanBlocks]

@[simp] theorem State.writeDurable_fixed (s : State) (d : DieId) (asn : Nat) :
    (State.writeDurable s d asn).fixed = s.fixed := by
  unfold State.writeDurable
  split <;> simp

@[simp] theorem State.appendPend_fixed (s : State) (d : DieId) (p : JPend) :
    (State.appendPend s d p).fixed = s.fixed := by simp [State.appendPend]

@[simp] theorem execJournalAppend_fixed (d : DieId) (s : State) : Keeps s (execJournalAppend d s) := by
  refine keeps_onDie ?_
  (try dsimp only)
  (repeat' split) <;> simp

@[simp] theorem execJournalFlush_fixed (d : DieId) (s : State) :
    Keeps s (execJournalFlush d s) := by simp [execJournalFlush]

@[simp] theorem State.takeCheckpoint_fixed (s : State) (d : DieId) :
    (State.takeCheckpoint s d).fixed = s.fixed := by simp [State.takeCheckpoint]

@[simp] theorem execMapCheckpoint_fixed (d : DieId) (s : State) :
    Keeps s (execMapCheckpoint d s) := by simp [execMapCheckpoint]

@[simp] theorem execFramePageWriteback_fixed (d : DieId) (page : Nat) (s : State) :
    Keeps s (execFramePageWriteback d page s) := by simp [execFramePageWriteback]

@[simp] theorem State.destageSeq_fixed (s : State) (d : DieId) (z : Nat) (z0 : List (Nat × CacheVer)) :
    (State.destageSeq s d z z0).fixed = s.fixed := by
  induction z0 generalizing s with
  | nil => simp [State.destageSeq]
  | cons x l ih =>
    simp only [State.destageSeq]
    (repeat' split) <;> simp [ih]

@[simp] theorem State.destageConv_fixed (s : State) (d : DieId) (z : Nat) (e : Nat × CacheVer) :
    (State.destageConv s d z e).fixed = s.fixed := by
  simp only [State.destageConv]
  (repeat' split) <;> simp

@[simp] theorem State.failStaging_fixed (s : State) (d : DieId) (z : Nat) :
    (State.failStaging s d z).fixed = s.fixed := by simp [State.failStaging]

@[simp] theorem State.queueJobs_fixed (s : State) (d : DieId) (z : Nat) (z0 : Nat) :
    (State.queueJobs s d z z0).fixed = s.fixed := by
  induction z0 generalizing s with
  | zero => simp [State.queueJobs]
  | succ n ih =>
    simp only [State.queueJobs]
    (repeat' split) <;> simp [ih]

@[simp] theorem execDestage_fixed (d : DieId) (zone : Nat) (s : State) :
    Keeps s (execDestage d zone s) := by simp [execDestage]

@[simp] theorem execCompressJob_fixed (d : DieId) (buffers : Option Nat) (s : State) :
    Keeps s (execCompressJob d buffers s) := by
  refine keeps_onDie ?_
  (try dsimp only)
  (repeat' split) <;> simp

@[simp] theorem execCompressJobEnd_fixed (d : DieId) (lane : Fin 16) (s : State) :
    Keeps s (execCompressJobEnd d lane s) := by
  refine keeps_onDie ?_
  (try dsimp only)
  (repeat' split) <;> simp

@[simp] theorem execDecompressJob_fixed (d : DieId) (s : State) : Keeps s (execDecompressJob d s) := by
  refine keeps_onDie ?_
  (try dsimp only)
  (repeat' split) <;> simp

@[simp] theorem execDecompressJobEnd_fixed (d : DieId) (lane : Fin 16) (s : State) :
    Keeps s (execDecompressJobEnd d lane s) := by
  refine keeps_onDie ?_
  (try dsimp only)
  (repeat' split) <;> simp

@[simp] theorem State.putForm_fixed (s : State) (d : DieId) (c : Content) (unit : Nat) (bs : List Byte) :
    (State.putForm s d c unit bs).fixed = s.fixed := by
  refine foldl_fixed _ (fun s x => ?_) _ _
  (try dsimp only)
  (repeat' split) <;> simp

theorem State.placeHusk_fixed (s : State) (d : DieId) (h : Husk) (seq : Nat) (settle : Nat) :
    ∀ t, (State.placeHusk s d h seq settle) = some t → t.fixed = s.fixed := by simp [State.placeHusk]

@[simp] theorem State.placeHusks_fixed (s : State) (d : DieId) (z0 : List Husk) :
    (State.placeHusks s d z0).1.fixed = s.fixed := by
  induction z0 generalizing s with
  | nil => simp [State.placeHusks]
  | cons x l ih =>
    simp only [State.placeHusks]
    split
    · rfl
    · next t h => rw [ih]; exact State.placeHusk_fixed _ _ _ _ _ _ h

@[simp] theorem State.huskPlace_fixed (s : State) (d : DieId) (z : Nat) :
    (State.huskPlace s d z).fixed = s.fixed := by
  unfold State.huskPlace
  dsimp only
  (repeat' split) <;> try simp
  all_goals
    simp [State.placeHusk_fixed _ _ _ _ _ _ ‹_ = some _›]

@[simp] theorem execHuskPlace_fixed (d : DieId) (zone : Nat) (s : State) :
    Keeps s (execHuskPlace d zone s) := by simp [execHuskPlace]

@[simp] theorem State.rewriteRoom_fixed (s : State) (d : DieId) (z : Nat) (bytes : Nat) (z0 : Nat) :
    (State.rewriteRoom s d z bytes z0).1.fixed = s.fixed := by
  induction z0 generalizing s with
  | zero => simp [State.rewriteRoom]
  | succ n ih =>
    simp only [State.rewriteRoom]
    (repeat' split) <;> simp [ih]

@[simp] theorem State.frameRewrite_fixed (s : State) (d : DieId) (z : Nat) (f : Nat) :
    (State.frameRewrite s d z f).1.fixed = s.fixed := by
  simp only [State.frameRewrite]
  (repeat' split) <;> simp

@[simp] theorem State.closeEntry_fixed (s : State) (d : DieId) (e : VerifyEntry) (blocks : List Nat) :
    (State.closeEntry s d e blocks).fixed = s.fixed := by simp [State.closeEntry]

@[simp] theorem State.rewriteSector_fixed (s : State) (d : DieId) (e : VerifyEntry) :
    (State.rewriteSector s d e).1.fixed = s.fixed := by
  simp only [State.rewriteSector]
  (repeat' split) <;> simp

@[simp] theorem execVerifyRead_fixed (d : DieId) (res : ChannelResult) (step : Nat) (iters : Nat) (s : State) :
    Keeps s (execVerifyRead d res step iters s) := by
  refine keeps_onDie ?_
  (try dsimp only)
  (repeat' split) <;> simp

@[simp] theorem State.formatSteps_fixed (s : State) (d : DieId) (cb : Nat) :
    (State.formatSteps s d cb).fixed = s.fixed := (rfl)

@[simp] theorem State.formatCommand_fixed (s : State) (d : DieId) : (State.formatCommand s d).1.fixed = s.fixed := by
  unfold State.formatCommand
  (repeat' split) <;> simp

@[simp] theorem execFormatCommand_fixed (d : DieId) (s : State) :
    Keeps s (execFormatCommand d s) := by simp [execFormatCommand]

end Sys2Proof.Machine
end

