-- ==== Sys2Proof/Laws/FixedVerbIo.lean ====
section
/-! SUPPORT. The operations and meanings of Machine/VerbIo.lean leave the part and the queue as they are. -/

namespace Sys2Proof.Machine

@[simp] theorem State.huskEvent_fixed (s : State) (d : DieId) (block : Nat) (o : BlockOutcome) :
    (State.huskEvent s d block o).fixed = s.fixed := by
  unfold State.huskEvent
  (repeat' split) <;> simp

@[simp] theorem State.queueDecomp_fixed (s : State) (d : DieId) (z : Nat) (unit : Nat) (fill : Bool) :
    (State.queueDecomp s d z unit fill).fixed = s.fixed := (rfl)

@[simp] theorem State.readOne_fixed (s : State) (d : DieId) (asn : Nat) (block : Nat) (direct : Bool) (o : BlockOutcome) (r : ReadSum) :
    (State.readOne s d asn block direct o r).1.fixed = s.fixed := by
  simp only [State.readOne]
  (repeat' split) <;> simp

@[simp] theorem State.readRun_fixed (s : State) (asn : Nat) (direct : Bool) (z0 : List (DieId × Nat × BlockOutcome)) (z1 : ReadSum) :
    (State.readRun s asn direct z0 z1).1.fixed = s.fixed := by
  induction z0 generalizing s z1 with
  | nil => simp [State.readRun]
  | cons x l ih =>
    simp only [State.readRun]
    (repeat' split) <;> simp [ih]

@[simp] theorem State.readStages_fixed (s : State) (asn : Nat) (d : DieId) (media : Bool) :
    (State.readStages s asn d media).fixed = s.fixed := by simp [State.readStages]

@[simp] theorem State.readEnd_fixed (s : State) (asn : Nat) (d : DieId) (data : Bool) (r : ReadSum) :
    (State.readEnd s asn d data r).fixed = s.fixed := by simp [State.readEnd]

@[simp] theorem execRead_fixed (asn : Nat) (d : DieId) (outs : List BlockOutcome) (s : State) :
    Keeps s (execRead asn d outs s) := by
  refine keeps_onDie ?_
  (try dsimp only)
  (repeat' split) <;> simp

@[simp] theorem execVerify_fixed (asn : Nat) (d : DieId) (outs : List BlockOutcome) (s : State) :
    Keeps s (execVerify asn d outs s) := by
  refine keeps_onDie ?_
  (try dsimp only)
  (repeat' split) <;> simp

@[simp] theorem State.storeWrite_fixed (s : State) (asn : Nat) (d : DieId) (sl : Slot) (xs : List Block) :
    (State.storeWrite s asn d sl xs).fixed = s.fixed := by simp [State.storeWrite]

@[simp] theorem State.takeData_fixed (s : State) (asn : Nat) (d : DieId) (sl : Slot) (xs : List (Nat × Block)) :
    (State.takeData s asn d sl xs).fixed = s.fixed := by simp [State.takeData]

@[simp] theorem State.writeData_fixed (s : State) (asn : Nat) (op : Nat) (data : List Block) :
    (State.writeData s asn op data).fixed = s.fixed := by
  unfold State.writeData
  split <;> simp

@[simp] theorem execWrite_fixed (asn : Nat) (data : List Block) (s : State) :
    Keeps s (execWrite asn data s) := by simp [execWrite]

@[simp] theorem execZoneAppend_fixed (asn : Nat) (data : List Block) (s : State) :
    Keeps s (execZoneAppend asn data s) := by simp [execZoneAppend]

@[simp] theorem execWriteDataToOwner_fixed (asn : Nat) (d : DieId) (i : Nat) (block : Block) (s : State) :
    Keeps s (execWriteDataToOwner asn d i block s) := by
  refine keeps_onDie ?_
  (try dsimp only)
  (repeat' split) <;> simp

@[simp] theorem State.copyUndo_fixed (s : State) (sl : Slot) :
    (State.copyUndo s sl).fixed = s.fixed := by simp [State.copyUndo]

@[simp] theorem execCopy_fixed (asn : Nat) (outs : List BlockOutcome) (s : State) :
    Keeps s (execCopy asn outs s) := by
  simp only [execCopy]
  (repeat' split) <;> simp

@[simp] theorem State.flushBegin_fixed (s : State) (asn : Nat) (scope : Nat) :
    (State.flushBegin s asn scope).fixed = s.fixed := by
  unfold State.flushBegin
  split <;> simp

@[simp] theorem execFlushDevice_fixed (asn : Nat) (s : State) :
    Keeps s (execFlushDevice asn s) := by simp [execFlushDevice]

@[simp] theorem execFlushZone_fixed (asn : Nat) (s : State) : Keeps s (execFlushZone asn s) := by simp [execFlushZone]

@[simp] theorem execVerbDispatch_fixed (asn : Nat) (d : DieId) (s : State) : Keeps s (execVerbDispatch asn d s) := by
  refine keeps_onDie ?_
  (try dsimp only)
  (repeat' split) <;> simp

@[simp] theorem execReadDataToAnchor_fixed (asn : Nat) (d : DieId) (s : State) :
    Keeps s (execReadDataToAnchor asn d s) := by
  refine keeps_onDie ?_
  (try dsimp only)
  (repeat' split) <;> simp

@[simp] theorem execVerbPartCompletion_fixed (asn : Nat) (d : DieId) (s : State) :
    Keeps s (execVerbPartCompletion asn d s) := by
  refine keeps_onDie ?_
  (try dsimp only)
  (repeat' split) <;> simp

end Sys2Proof.Machine
end

