-- ==== Sys2Proof/Laws/FixedZoneVerbs.lean ====
section
/-! SUPPORT. The operations and meanings of Machine/ZoneVerbs.lean leave the part and the queue as they are. -/

namespace Sys2Proof.Machine

@[simp] theorem State.zoneMoves_fixed (s : State) (sl : Slot) (d : DieId) (z0 : List Nat) :
    (State.zoneMoves s sl d z0).1.fixed = s.fixed := by
  induction z0 generalizing s with
  | nil => simp [State.zoneMoves]
  | cons x l ih =>
    simp only [State.zoneMoves]
    (repeat' split) <;> simp [ih]

@[simp] theorem State.zoneTake_fixed (s : State) (asn : Nat) : (State.zoneTake s asn).fixed = s.fixed := by
  simp only [State.zoneTake]
  (repeat' split) <;> simp

@[simp] theorem State.zoneSettle_fixed (s : State) (asn : Nat) (act : Nat) :
    (State.zoneSettle s asn act).fixed = s.fixed := by
  unfold State.zoneSettle
  split <;> simp

@[simp] theorem State.zoneAction_fixed (s : State) (asn : Nat) (act : Nat) :
    (State.zoneAction s asn act).fixed = s.fixed := by
  unfold State.zoneAction
  split <;> simp

@[simp] theorem execZoneOpen_fixed (asn : Nat) (s : State) : Keeps s (execZoneOpen asn s) := by simp [execZoneOpen]

@[simp] theorem execZoneClose_fixed (asn : Nat) (s : State) : Keeps s (execZoneClose asn s) := by simp [execZoneClose]

@[simp] theorem execZoneSetAttributes_fixed (asn : Nat) (s : State) :
    Keeps s (execZoneSetAttributes asn s) := by simp [execZoneSetAttributes]

@[simp] theorem State.zoneStart_fixed (s : State) (asn : Nat) (act : Nat) :
    (State.zoneStart s asn act).fixed = s.fixed := by
  simp only [State.zoneStart]
  (repeat' split) <;> simp

@[simp] theorem execZoneFinish_fixed (asn : Nat) (s : State) :
    Keeps s (execZoneFinish asn s) := by simp [execZoneFinish]

@[simp] theorem execZoneReset_fixed (asn : Nat) (s : State) : Keeps s (execZoneReset asn s) := by simp [execZoneReset]

@[simp] theorem State.zoneResetExec_fixed (s : State) (d : DieId) (z : Nat) (asn : Nat) :
    (State.zoneResetExec s d z asn).fixed = s.fixed := by
  simp only [State.zoneResetExec]
  (repeat' split) <;> simp

@[simp] theorem State.zoneFinishExec_fixed (s : State) (d : DieId) (z : Nat) (asn : Nat) :
    (State.zoneFinishExec s d z asn).fixed = s.fixed := by simp [State.zoneFinishExec]

@[simp] theorem State.zoneOfflineExec_fixed (s : State) (d : DieId) (z : Nat) (asn : Nat) :
    (State.zoneOfflineExec s d z asn).fixed = s.fixed := by simp [State.zoneOfflineExec]

@[simp] theorem State.zoneExecute_fixed (s : State) (asn : Nat) (act : Nat) (waits : State → DieId → Nat → Bool) (f : State → DieId → Nat → State) (hf : ∀ y0 y1 y2, (f y0 y1 y2).fixed = y0.fixed) :
    (State.zoneExecute s asn act waits f).fixed = s.fixed := by
  simp only [State.zoneExecute]
  (repeat' split) <;> simp [*]

@[simp] theorem execZoneFinishExecute_fixed (asn : Nat) (s : State) :
    Keeps s (execZoneFinishExecute asn s) := by simp [execZoneFinishExecute]

@[simp] theorem execZoneResetExecute_fixed (asn : Nat) (s : State) :
    Keeps s (execZoneResetExecute asn s) := by simp [execZoneResetExecute]

@[simp] theorem execZoneOffline_fixed (asn : Nat) (s : State) : Keeps s (execZoneOffline asn s) := by
  unfold execZoneOffline
  split <;> simp

@[simp] theorem State.reportTake_fixed (s : State) (asn : Nat) : (State.reportTake s asn).fixed = s.fixed := by
  simp only [State.reportTake]
  (repeat' split) <;> simp

@[simp] theorem execZoneReport_fixed (asn : Nat) (s : State) : Keeps s (execZoneReport asn s) := by
  simp only [execZoneReport]
  (repeat' split) <;> simp

@[simp] theorem State.zonesCatchUp_fixed (s : State) :
    (State.zonesCatchUp s).fixed = s.fixed := by simp [State.zonesCatchUp]

end Sys2Proof.Machine
end

