-- ==== Sys2Proof/Laws/FixedKeyVerbs.lean ====
section
/-! SUPPORT. The operations and meanings of Machine/KeyVerbs.lean leave the part and the queue as they are. -/

namespace Sys2Proof.Machine

@[simp] theorem State.modKey_fixed (s : State) (d : DieId) (k : Nat) (f : KeyDomain → KeyDomain) :
    (State.modKey s d k f).fixed = s.fixed := (rfl)

@[simp] theorem State.renonce_fixed (s : State) (d : DieId) (k : Nat) : (State.renonce s d k).fixed = s.fixed := (rfl)

@[simp] theorem State.eraseZone_fixed (s : State) (d : DieId) (asn : Nat) (z : Nat) :
    (State.eraseZone s d asn z).fixed = s.fixed := by simp [State.eraseZone]

@[simp] theorem State.eraseKeyed_fixed (s : State) (d : DieId) (k : Nat) (asn : Nat) :
    (State.eraseKeyed s d k asn).fixed = s.fixed := by simp [State.eraseKeyed]

@[simp] theorem State.eraseDomain_fixed (s : State) (d : DieId) (k : Nat) (asn : Nat) :
    (State.eraseDomain s d k asn).1.fixed = s.fixed := by
  unfold State.eraseDomain
  split <;> simp

@[simp] theorem State.sanitizeTake_fixed (s : State) (asn : Nat) : (State.sanitizeTake s asn).fixed = s.fixed := by
  unfold State.sanitizeTake
  split <;> simp

@[simp] theorem State.sanitizeEnd_fixed (s : State) (asn : Nat) (d : DieId) :
    (State.sanitizeEnd s asn d).fixed = s.fixed := by
  unfold State.sanitizeEnd
  split <;> simp

@[simp] theorem execSanitize_fixed (asn : Nat) (s : State) : Keeps s (execSanitize asn s) := by
  simp only [execSanitize]
  (repeat' split) <;> simp

@[simp] theorem execCryptoErase_fixed (d : DieId) (domain : Fin 64) (s : State) :
    Keeps s (execCryptoErase d domain s) := by
  refine keeps_onDie ?_
  (try dsimp only)
  (repeat' split) <;> simp

@[simp] theorem execKeyLoad_fixed (asn : Nat) (blob : List Byte) (s : State) : Keeps s (execKeyLoad asn blob s) := by
  unfold execKeyLoad
  (repeat' split) <;> simp

end Sys2Proof.Machine
end

