-- ==== Sys2Proof/Laws/FixedPowerLoss.lean ====
section
/-! SUPPORT. The operations and meanings of Machine/PowerLoss.lean leave the part and the queue as they are. -/

namespace Sys2Proof.Machine

@[simp] theorem State.spinPowerFail_fixed (s : State) (d : DieId) :
    (State.spinPowerFail s d).fixed = s.fixed := by simp [State.spinPowerFail]

@[simp] theorem State.actPowerFail_fixed (s : State) (d : DieId) (a : Act) :
    (State.actPowerFail s d a).fixed = s.fixed := by simp [State.actPowerFail]

@[simp] theorem State.pfDetect_fixed (s : State) (d : DieId) :
    (State.pfDetect s d).fixed = s.fixed := by simp [State.pfDetect]

@[simp] theorem State.pfNotify_fixed (s : State) (but : DieId) :
    (State.pfNotify s but).fixed = s.fixed := by simp [State.pfNotify]

@[simp] theorem State.pfOwn_fixed (s : State) (d : DieId) : (State.pfOwn s d).fixed = s.fixed := by simp [State.pfOwn]

@[simp] theorem execPfailNAssert_fixed (d : DieId) (s : State) :
    Keeps s (execPfailNAssert d s) := by simp [execPfailNAssert]

@[simp] theorem execHoldupPfailTrip_fixed (d : DieId) (s : State) :
    Keeps s (execHoldupPfailTrip d s) := by simp [execHoldupPfailTrip]

@[simp] theorem execPowerFailNotice_fixed (d : DieId) (s : State) :
    Keeps s (execPowerFailNotice d s) := by simp [execPowerFailNotice]

@[simp] theorem State.lastSave_fixed (s : State) (d : DieId) (a : Acorn) (us : Nat) (trailer : Nat) (outcome : Nat) :
    (State.lastSave s d a us trailer outcome).fixed = s.fixed := (rfl)

@[simp] theorem State.saveFails_fixed (s : State) (d : DieId) (a : Acorn) (us : Nat) (trailer : Nat) (outcome : Nat) :
    (State.saveFails s d a us trailer outcome).fixed = s.fixed := (rfl)

@[simp] theorem State.beginSave_fixed (s : State) (d : DieId) :
    (State.beginSave s d).fixed = s.fixed := by simp [State.beginSave]

@[simp] theorem execDmaDrainEnd_fixed (d : DieId) (s : State) : Keeps s (execDmaDrainEnd d s) := by
  refine keeps_onDie ?_
  (try dsimp only)
  (repeat' split) <;> simp

@[simp] theorem execAcornSaved_fixed (d : DieId) (durationUs : BitVec 32) (trailerMv : BitVec 16) (s : State) :
    Keeps s (execAcornSaved d durationUs trailerMv s) := by
  refine keeps_onDie ?_
  (try dsimp only)
  (repeat' split) <;> simp

@[simp] theorem execAcornSaveFail_fixed (d : DieId) (reservoirLow : Bool) (s : State) :
    Keeps s (execAcornSaveFail d reservoirLow s) := by
  refine keeps_onDie ?_
  (try dsimp only)
  (repeat' split) <;> simp

@[simp] theorem execAcornAreaErase_fixed (d : DieId) (s : State) :
    Keeps s (execAcornAreaErase d s) := by simp [execAcornAreaErase]

end Sys2Proof.Machine
end

