-- ==== Sys2Proof/Laws/FixedObserve.lean ====
section
/-! SUPPORT. The operations and meanings of Machine/Observe.lean leave the part and the queue as they are. -/

namespace Sys2Proof.Machine

@[simp] theorem State.bwEnd_fixed (s : State) (d : DieId) (partly : Bool) :
    (State.bwEnd s d partly).fixed = s.fixed := (rfl)

@[simp] theorem execBwWindowEnd_fixed (d : DieId) (s : State) :
    Keeps s (execBwWindowEnd d s) := by simp [execBwWindowEnd]

@[simp] theorem State.latch_fixed (s : State) (d : DieId) (t : Nat) (action : BitVec 8) (late : Bool) :
    (State.latch s d t action late).fixed = s.fixed := by simp [State.latch]

@[simp] theorem State.snapWrite_fixed (s : State) (t : Nat) (action : BitVec 8) :
    (State.snapWrite s t action).fixed = s.fixed := by simp [State.snapWrite]

@[simp] theorem State.snapAnswer_fixed (s : State) (z0 : Option Nat) : (State.snapAnswer s z0).fixed = s.fixed := by
  unfold State.snapAnswer
  split <;> simp

@[simp] theorem State.snapSettle_fixed (s : State) (z0 : Nat) : (State.snapSettle s z0).fixed = s.fixed := by
  induction z0 generalizing s with
  | zero => simp [State.snapSettle]
  | succ n ih =>
    simp only [State.snapSettle]
    (repeat' split) <;> simp [ih]

@[simp] theorem State.snapDone_fixed (s : State) : (State.snapDone s).fixed = s.fixed := by simp [State.snapDone]

@[simp] theorem State.snapRequest_fixed (s : State) (action : BitVec 8) (verb : Option Nat) :
    (State.snapRequest s action verb).fixed = s.fixed := by simp [State.snapRequest]

@[simp] theorem State.snapVerb_fixed (s : State) (asn : Nat) (action : Nat) :
    (State.snapVerb s asn action).fixed = s.fixed := by
  unfold State.snapVerb
  split <;> simp

@[simp] theorem execSnapshotCountersSnapshot_fixed (asn : Nat) (s : State) :
    Keeps s (execSnapshotCountersSnapshot asn s) := by simp [execSnapshotCountersSnapshot]

@[simp] theorem execSnapshotCountersFreeze_fixed (asn : Nat) (s : State) :
    Keeps s (execSnapshotCountersFreeze asn s) := by simp [execSnapshotCountersFreeze]

@[simp] theorem execSnapshotCountersRelease_fixed (asn : Nat) (s : State) :
    Keeps s (execSnapshotCountersRelease asn s) := by simp [execSnapshotCountersRelease]

@[simp] theorem State.snapCommand_fixed (s : State) (action : BitVec 8) :
    (State.snapCommand s action).1.fixed = s.fixed := by
  unfold State.snapCommand
  split <;> simp

@[simp] theorem execSnapshotCommandSnapshot_fixed (s : State) :
    Keeps s (execSnapshotCommandSnapshot s) := by simp [execSnapshotCommandSnapshot]

@[simp] theorem execSnapshotCommandFreeze_fixed (s : State) :
    Keeps s (execSnapshotCommandFreeze s) := by simp [execSnapshotCommandFreeze]

@[simp] theorem execSnapshotCommandRelease_fixed (s : State) :
    Keeps s (execSnapshotCommandRelease s) := by simp [execSnapshotCommandRelease]

@[simp] theorem execCounterSnapshotMessage_fixed (d : DieId) (t : BitVec 64) (action : BitVec 8) (s : State) :
    Keeps s (execCounterSnapshotMessage d t action s) := by simp [execCounterSnapshotMessage]

@[simp] theorem execSnapshotLatch_fixed (d : DieId) (s : State) : Keeps s (execSnapshotLatch d s) := by
  refine keeps_onDie ?_
  (try dsimp only)
  (repeat' split) <;> simp

@[simp] theorem execSnapshotBlockReceive_fixed (d : DieId) (s : State) : Keeps s (execSnapshotBlockReceive d s) := by
  refine keeps_onDie ?_
  (try dsimp only)
  (repeat' split) <;> simp

end Sys2Proof.Machine
end

