-- ==== Sys2Proof/Laws/FixedFwOps.lean ====
section
/-! SUPPORT. The operations and meanings of Machine/FwOps.lean leave the part and the queue as they are. -/

namespace Sys2Proof.Machine

@[simp] theorem State.modFw_fixed (s : State) (g : FwState → FwState) : (State.modFw s g).fixed = s.fixed := (rfl)

@[simp] theorem State.loadUnits_fixed (s : State) (d : DieId) (slotFor : Nat → Bool) :
    (State.loadUnits s d slotFor).fixed = s.fixed := (rfl)

@[simp] theorem State.packageReset_fixed (s : State) (but : Option Nat) :
    (State.packageReset s but).fixed = s.fixed := by simp [State.packageReset]

@[simp] theorem State.startFallback_fixed (s : State) (cause : Nat) :
    (State.startFallback s cause).fixed = s.fixed := by simp [State.startFallback]

@[simp] theorem State.trialFault_fixed (s : State) :
    (State.trialFault s).fixed = s.fixed := by simp [State.trialFault]

@[simp] theorem State.fallbackDone_fixed (s : State) :
    (State.fallbackDone s).fixed = s.fixed := by simp [State.fallbackDone]

@[simp] theorem State.bootPrevious_fixed (s : State) (c : Bool) : (State.bootPrevious s c).1.fixed = s.fixed := by
  unfold State.bootPrevious
  split <;> simp

@[simp] theorem State.bootRom_fixed (s : State) : (State.bootRom s).fixed = s.fixed := by
  simp only [State.bootRom]
  (repeat' split) <;> simp

end Sys2Proof.Machine
end

