-- ==== Sys2Proof/Laws/FixedReset.lean ====
section
/-! SUPPORT. The operations and meanings of Machine/Reset.lean leave the part and the queue as they are. -/

namespace Sys2Proof.Machine

@[simp] theorem State.hostReset_fixed (s : State) : (State.hostReset s).fixed = s.fixed := (rfl)

@[simp] theorem State.settleStream_fixed (s : State) (d : DieId) (z : Nat) :
    (State.settleStream s d z).fixed = s.fixed := (rfl)

@[simp] theorem State.useImage_fixed (s : State) (d : DieId) (m : MapImage) :
    (State.useImage s d m).fixed = s.fixed := by simp [State.useImage]

@[simp] theorem State.restoreBlock_fixed (s : State) (d : DieId) (b : AcornBlock) :
    (State.restoreBlock s d b).fixed = s.fixed := by simp [State.restoreBlock]

@[simp] theorem State.saveLost_fixed (s : State) (d : DieId) :
    (State.saveLost s d).fixed = s.fixed := by simp [State.saveLost]

@[simp] theorem State.rebuild_fixed (s : State) (d : DieId) : (State.rebuild s d).1.fixed = s.fixed := by
  simp only [State.rebuild]
  (repeat' split) <;> simp

@[simp] theorem State.erasePending_fixed (s : State) (d : DieId) :
    (State.erasePending s d).fixed = s.fixed := by simp [State.erasePending]

@[simp] theorem State.failParts_fixed (s : State) (d : DieId) : (State.failParts s d).fixed = s.fixed := by
  refine foldl_fixed _ (fun s x => ?_) _ _
  (try dsimp only)
  (repeat' split) <;> simp

@[simp] theorem State.dropDraws_fixed (s : State) (d : DieId) : (State.dropDraws s d).fixed = s.fixed := (rfl)

@[simp] theorem State.isolate_fixed (s : State) (d : DieId) (cause : Nat) :
    (State.isolate s d cause).fixed = s.fixed := by simp [State.isolate]

@[simp] theorem State.applyRwr_fixed (s : State) (d : Option DieId) : (State.applyRwr s d).fixed = s.fixed := by
  unfold State.applyRwr
  split <;> simp

@[simp] theorem State.loadSaved_fixed (s : State) (k : Nat) (v : List Byte) :
    (State.loadSaved s k v).fixed = s.fixed := by
  unfold State.loadSaved
  (repeat' split) <;> simp

@[simp] theorem State.reloadObjs_fixed (s : State) (d : Option DieId) (keep : List ObjDef) :
    (State.reloadObjs s d keep).fixed = s.fixed := by simp [State.reloadObjs]

@[simp] theorem State.repairRecords_fixed (s : State) (d : DieId) : (State.repairRecords s d).fixed = s.fixed := by
  refine foldl_fixed _ (fun s x => ?_) _ _
  (try dsimp only)
  (repeat' split) <;> simp

@[simp] theorem State.loadRecords_fixed (s : State) (d : DieId) :
    (State.loadRecords s d).fixed = s.fixed := by simp [State.loadRecords]

@[simp] theorem State.useTables_fixed (s : State) (d : DieId) :
    (State.useTables s d).fixed = s.fixed := by simp [State.useTables]

@[simp] theorem State.resetDie_fixed (s : State) (d : DieId) (kind : ResetKind) :
    (State.resetDie s d kind).fixed = s.fixed := by simp [State.resetDie]

@[simp] theorem State.ringApply_fixed (s : State) (d : DieId) :
    (State.ringApply s d).fixed = s.fixed := by simp [State.ringApply]

@[simp] theorem State.ringReplay_fixed (s : State) (d : DieId) :
    (State.ringReplay s d).fixed = s.fixed := by simp [State.ringReplay]

@[simp] theorem State.resetPackage_fixed (s : State) (kind : ResetKind) :
    (State.resetPackage s kind).fixed = s.fixed := by simp [State.resetPackage]

@[simp] theorem State.warmReset_fixed (s : State) : (State.warmReset s).fixed = s.fixed := by simp [State.warmReset]

@[simp] theorem State.coldReset_fixed (s : State) (sa : BitVec 2) (boot : BitVec 2) :
    (State.coldReset s sa boot).fixed = s.fixed := by
  unfold State.coldReset
  split <;> simp

@[simp] theorem State.functionReset_fixed (s : State) :
    (State.functionReset s).fixed = s.fixed := by simp [State.functionReset]

end Sys2Proof.Machine
end

