-- ==== Sys2Proof/Laws/FixedPower.lean ====
section
/-! SUPPORT. The operations and meanings of Machine/Power.lean leave the part and the queue as they are. -/

namespace Sys2Proof.Machine

@[simp] theorem State.mirrorFill_fixed (s : State) (d : DieId) : (State.mirrorFill s d).fixed = s.fixed := (rfl)

@[simp] theorem State.adminRise_fixed (s : State) : (State.adminRise s).fixed = s.fixed := by simp [State.adminRise]

@[simp] theorem State.readyRise_fixed (s : State) : (State.readyRise s).fixed = s.fixed := by simp [State.readyRise]

@[simp] theorem State.bootStep3_fixed (s : State) (d : DieId) :
    (State.bootStep3 s d).fixed = s.fixed := by simp [State.bootStep3]

@[simp] theorem execMemoryFillDone_fixed (d : DieId) (region : FillRegion) (s : State) :
    Keeps s (execMemoryFillDone d region s) := by simp [execMemoryFillDone]

@[simp] theorem State.identCheck_fixed (s : State) (d : DieId) :
    (State.identCheck s d).fixed = s.fixed := by simp [State.identCheck]

@[simp] theorem execBootHeadLoad_fixed (d : DieId) (s : State) :
    Keeps s (execBootHeadLoad d s) := by simp [execBootHeadLoad]

@[simp] theorem execBootMediaReplay_fixed (d : DieId) (mediaReadable : Bool) (s : State) :
    Keeps s (execBootMediaReplay d mediaReadable s) := by simp [execBootMediaReplay]

@[simp] theorem State.reconcile_fixed (s : State) (d : DieId) :
    (State.reconcile s d).fixed = s.fixed := by simp [State.reconcile]

@[simp] theorem State.resetResult_fixed (s : State) (d : DieId) (code : Int) :
    (State.resetResult s d code).fixed = s.fixed := by simp [State.resetResult]

@[simp] theorem State.enterUnformatted_fixed (s : State) (d : DieId) (clear : Bool) :
    (State.enterUnformatted s d clear).fixed = s.fixed := by simp [State.enterUnformatted]

@[simp] theorem State.wakeSleep_fixed (s : State) (d : DieId) :
    (State.wakeSleep s d).fixed = s.fixed := by simp [State.wakeSleep]

@[simp] theorem State.actPower_fixed (s : State) (d : DieId) (a : Act) : (State.actPower s d a).fixed = s.fixed := by
  unfold State.actPower
  split <;> simp

@[simp] theorem State.spinFor_fixed (s : State) (d : DieId) (load : Bool) :
    (State.spinFor s d load).fixed = s.fixed := by simp [State.spinFor]

@[simp] theorem State.powerApply_fixed (s : State) (d : DieId) : (State.powerApply s d).fixed = s.fixed := by
  unfold State.powerApply
  (repeat' split) <;> simp

@[simp] theorem State.powerTarget_fixed (s : State) (d : DieId) (v : Nat) :
    (State.powerTarget s d v).1.fixed = s.fixed := by
  unfold State.powerTarget
  split <;> simp

@[simp] theorem execHdaPowerTargetWrite_fixed (d : DieId) (v : BitVec 8) (s : State) :
    Keeps s (execHdaPowerTargetWrite d v s) := by simp [execHdaPowerTargetWrite]

@[simp] theorem State.wake_fixed (s : State) (d : DieId) : (State.wake s d).fixed = s.fixed := by simp [State.wake]

@[simp] theorem State.bootEnd_fixed (s : State) (d : DieId) :
    (State.bootEnd s d).fixed = s.fixed := by simp [State.bootEnd]

@[simp] theorem execBootStalenessCheck_fixed (d : DieId) (s : State) :
    Keeps s (execBootStalenessCheck d s) := by simp [execBootStalenessCheck]

@[simp] theorem execReconciliation_fixed (d : DieId) (ringIntact : Bool) (mediaReadable : Bool) (s : State) :
    Keeps s (execReconciliation d ringIntact mediaReadable s) := by simp [execReconciliation]

@[simp] theorem State.bootReach_fixed (s : State) : (State.bootReach s).fixed = s.fixed := by simp [State.bootReach]

@[simp] theorem execBootReady_fixed (s : State) : Keeps s (execBootReady s) := by simp [execBootReady]

@[simp] theorem execReadyTimeout_fixed (s : State) : Keeps s (execReadyTimeout s) := by simp [execReadyTimeout]

@[simp] theorem execDieStartLimit_fixed (d : DieId) (s : State) :
    Keeps s (execDieStartLimit d s) := by simp [execDieStartLimit]

@[simp] theorem execPorstNRise_fixed (sa : BitVec 2) (boot : BitVec 2) (s : State) :
    Keeps s (execPorstNRise sa boot s) := by simp [execPorstNRise]

@[simp] theorem execPorstNAssert_fixed (s : State) : Keeps s (execPorstNAssert s) := by simp [execPorstNAssert]

@[simp] theorem State.snapGone_fixed (s : State) (d : DieId) :
    (State.snapGone s d).fixed = s.fixed := by simp [State.snapGone]

@[simp] theorem execSupplyMonitorReset_fixed (d : DieId) (s : State) :
    Keeps s (execSupplyMonitorReset d s) := by simp [execSupplyMonitorReset]

@[simp] theorem State.dieRejoin_fixed (s : State) (d : DieId) :
    (State.dieRejoin s d).fixed = s.fixed := by simp [State.dieRejoin]

@[simp] theorem State.dieReset1_fixed (s : State) (d : DieId) :
    (State.dieReset1 s d).fixed = s.fixed := by simp [State.dieReset1]

@[simp] theorem execDieResetRejoin_fixed (d : DieId) (s : State) :
    Keeps s (execDieResetRejoin d s) := by simp [execDieResetRejoin]

@[simp] theorem execDieResetIsolate_fixed (d : DieId) (s : State) :
    Keeps s (execDieResetIsolate d s) := by simp [execDieResetIsolate]

@[simp] theorem execPackageReset_fixed (s : State) : Keeps s (execPackageReset s) := by simp [execPackageReset]

@[simp] theorem State.warmFlush_fixed (s : State) (d : DieId) :
    (State.warmFlush s d).fixed = s.fixed := by simp [State.warmFlush]

@[simp] theorem execPackageWarmReset_fixed (s : State) : Keeps s (execPackageWarmReset s) := by
  unfold execPackageWarmReset
  split <;> simp

@[simp] theorem execWarmResetDestageLimit_fixed (d : DieId) (s : State) :
    Keeps s (execWarmResetDestageLimit d s) := by
  refine keeps_onDie ?_
  (try dsimp only)
  (repeat' split) <;> simp

@[simp] theorem execPowerReturn_fixed (s : State) : Keeps s (execPowerReturn s) := by simp [execPowerReturn]

end Sys2Proof.Machine
end

