-- ==== Sys2Proof/Laws/FixedAdmission.lean ====
section
/-! SUPPORT. The operations and meanings of Machine/Admission.lean leave the part and the queue as they are. -/

namespace Sys2Proof.Machine

@[simp] theorem State.zoneFill_fixed (s : State) (d : DieId) (z : Nat) (reason : Nat) (back : Bool) :
    (State.zoneFill s d z reason back).fixed = s.fixed := by simp [State.zoneFill]

@[simp] theorem State.implicitClose_fixed (s : State) (d : DieId) (z : Nat) :
    (State.implicitClose s d z).fixed = s.fixed := by
  unfold State.implicitClose
  (repeat' split) <;> simp

@[simp] theorem State.writeTake_fixed (s : State) (sl : Slot) (d : DieId) (z : Nat) :
    (State.writeTake s sl d z).fixed = s.fixed := by simp [State.writeTake]

@[simp] theorem State.reserve_fixed (s : State) (sl : Slot) :
    (State.reserve s sl).fixed = s.fixed := by simp [State.reserve]

@[simp] theorem State.dispatch_fixed (s : State) (sl : Slot) :
    (State.dispatch s sl).fixed = s.fixed := by simp [State.dispatch]

@[simp] theorem State.takeEntry_fixed (s : State) (sl : Slot) :
    (State.takeEntry s sl).fixed = s.fixed := by simp [State.takeEntry]

@[simp] theorem State.admitFail_fixed (s : State) (sl : Slot) (f : Fail) :
    (State.admitFail s sl f).fixed = s.fixed := by simp [State.admitFail]

@[simp] theorem State.admitOk_fixed (s : State) (sl : Slot) :
    (State.admitOk s sl).fixed = s.fixed := by simp [State.admitOk]

@[simp] theorem State.admitWait_fixed (s : State) (q : Nat) : (State.admitWait s q).fixed = s.fixed := by
  unfold State.admitWait
  split <;> simp

@[simp] theorem State.pushOldest_fixed (s : State) (sl : Slot) : (State.pushOldest s sl).fixed = s.fixed := by
  simp only [State.pushOldest]
  (repeat' split) <;> simp

@[simp] theorem State.askDraw_fixed (s : State) (q : Nat) (d : DieId) (z : Nat) (need : Nat) :
    (State.askDraw s q d z need).fixed = s.fixed := (rfl)

@[simp] theorem State.tryAdmit_fixed (s : State) (q : Nat) (x : Sq) (entry : BitVec 512) (lists : List DescList) (src : List (BitVec 128)) :
    (State.tryAdmit s q x entry lists src).fixed = s.fixed := by
  simp only [State.tryAdmit]
  (repeat' split) <;> simp

@[simp] theorem execAdmitVerb_fixed (q : Nat) (entry : BitVec 512) (lists : List DescList) (src : List (BitVec 128)) (s : State) :
    Keeps s (execAdmitVerb q entry lists src s) := by
  unfold execAdmitVerb
  split <;> simp

@[simp] theorem State.drawRoom_fixed (s : State) (d : DieId) (z : Nat) (need : Nat) (z0 : Nat) :
    (State.drawRoom s d z need z0).1.fixed = s.fixed := by
  induction z0 generalizing s with
  | zero => simp [State.drawRoom]
  | succ n ih =>
    simp only [State.drawRoom]
    (repeat' split) <;> simp [ih]

@[simp] theorem State.exhaust_fixed (s : State) (d : DieId) (z : Nat) :
    (State.exhaust s d z).fixed = s.fixed := by simp [State.exhaust]

@[simp] theorem State.setDrawFailed_fixed (s : State) (q : Nat) (st : BitVec 16) :
    (State.setDrawFailed s q st).fixed = s.fixed := (rfl)

@[simp] theorem execSegmentDrawRequest_fixed (q : Nat) (s : State) : Keeps s (execSegmentDrawRequest q s) := by
  simp only [execSegmentDrawRequest]
  (repeat' split) <;> simp

@[simp] theorem State.freed_fixed (s : State) : (State.freed s).fixed = s.fixed := (rfl)

@[simp] theorem State.allow_fixed (s : State) (d : DieId) (k : Allowance) (n : Nat) :
    (State.allow s d k n).fixed = s.fixed := by simp [State.allow]

@[simp] theorem execAllowanceUpdate_fixed (d : DieId) (kind : Allowance) (amount : Nat) (s : State) :
    Keeps s (execAllowanceUpdate d kind amount s) := by simp [execAllowanceUpdate]

@[simp] theorem execResourceRelease_fixed (d : DieId) (kind : Allowance) (amount : Nat) (s : State) :
    Keeps s (execResourceRelease d kind amount s) := by simp [execResourceRelease]

end Sys2Proof.Machine
end

