-- ==== Sys2Proof/Laws/FixedHost.lean ====
section
/-! SUPPORT. The operations and meanings of Machine/Host.lean leave the part and the queue as they are. -/

namespace Sys2Proof.Machine

@[simp] theorem hostDoes_fixed (f : State → State) (s : State) (hf : ∀ y0, (f y0).fixed = y0.fixed) :
    Keeps s (hostDoes f s) := by simp [hostDoes, *]

@[simp] theorem execPciePerstAssert_fixed (s : State) :
    Keeps s (execPciePerstAssert s) := by simp [execPciePerstAssert]

@[simp] theorem execFunctionLevelReset_fixed (s : State) :
    Keeps s (execFunctionLevelReset s) := by simp [execFunctionLevelReset]

@[simp] theorem execD3hotEntry_fixed (s : State) : Keeps s (execD3hotEntry s) := by simp [execD3hotEntry]

@[simp] theorem State.pkgEnable_fixed (s : State) : (State.pkgEnable s).fixed = s.fixed := by simp [State.pkgEnable]

@[simp] theorem execPkgEnable_fixed (s : State) : Keeps s (execPkgEnable s) := by simp [execPkgEnable]

@[simp] theorem State.pkgDisable_fixed (s : State) :
    (State.pkgDisable s).fixed = s.fixed := by simp [State.pkgDisable]

@[simp] theorem execPkgDisable_fixed (s : State) : Keeps s (execPkgDisable s) := by simp [execPkgDisable]

@[simp] theorem State.shortAll_fixed (s : State) (d : DieId) : (State.shortAll s d).fixed = s.fixed := (rfl)

@[simp] theorem State.shutDown_fixed (s : State) (kind : BitVec 2) :
    (State.shutDown s kind).fixed = s.fixed := by simp [State.shutDown]

@[simp] theorem execShutdownNormal_fixed (s : State) : Keeps s (execShutdownNormal s) := by simp [execShutdownNormal]

@[simp] theorem execShutdownAbrupt_fixed (s : State) : Keeps s (execShutdownAbrupt s) := by simp [execShutdownAbrupt]

@[simp] theorem execShutdownComplete_fixed (s : State) :
    Keeps s (execShutdownComplete s) := by simp [execShutdownComplete]

@[simp] theorem State.badDoorbell_fixed (s : State) :
    (State.badDoorbell s).fixed = s.fixed := by simp [State.badDoorbell]

@[simp] theorem State.sqTail_fixed (s : State) (q : Nat) (v : BitVec 32) : (State.sqTail s q v).fixed = s.fixed := by
  unfold State.sqTail
  split <;> simp

@[simp] theorem execSqTailDoorbell_fixed (q : Nat) (v : BitVec 32) (s : State) :
    Keeps s (execSqTailDoorbell q v s) := by simp [execSqTailDoorbell]

@[simp] theorem State.cqHead_fixed (s : State) (q : Nat) (v : BitVec 32) : (State.cqHead s q v).fixed = s.fixed := by
  unfold State.cqHead
  split <;> simp

@[simp] theorem execCqHeadDoorbell_fixed (q : Nat) (v : BitVec 32) (s : State) :
    Keeps s (execCqHeadDoorbell q v s) := by simp [execCqHeadDoorbell]

@[simp] theorem execCqCoalesceTimeout_fixed (cq : Nat) (s : State) : Keeps s (execCqCoalesceTimeout cq s) := by
  unfold execCqCoalesceTimeout
  split <;> simp

@[simp] theorem State.unmask_fixed (s : State) (v : Nat) :
    (State.unmask s v).fixed = s.fixed := by simp [State.unmask]

@[simp] theorem execMsixVectorUnmask_fixed (v : Nat) (s : State) :
    Keeps s (execMsixVectorUnmask v s) := by simp [execMsixVectorUnmask]

@[simp] theorem State.adminVerb_fixed (s : State) (asn : Nat) (op : Nat) (f : Slot → State) (hf : ∀ y0, (f y0).fixed = s.fixed) :
    (State.adminVerb s asn op f).fixed = s.fixed := by
  unfold State.adminVerb
  (repeat' split) <;> simp [hf]

@[simp] theorem State.createSq_fixed (s : State) (asn : Nat) (sl : Slot) :
    (State.createSq s asn sl).fixed = s.fixed := by simp [State.createSq]

@[simp] theorem execCreateSq_fixed (asn : Nat) (s : State) : Keeps s (execCreateSq asn s) := by simp [execCreateSq]

@[simp] theorem State.createCq_fixed (s : State) (asn : Nat) (sl : Slot) :
    (State.createCq s asn sl).fixed = s.fixed := by simp [State.createCq]

@[simp] theorem execCreateCq_fixed (asn : Nat) (s : State) : Keeps s (execCreateCq asn s) := by simp [execCreateCq]

@[simp] theorem execDeleteSq_fixed (asn : Nat) (s : State) : Keeps s (execDeleteSq asn s) := by
  refine (keeps_next _ _).2 (State.adminVerb_fixed _ _ _ _ fun sl => ?_)
  (try dsimp only)
  (repeat' split) <;> simp

@[simp] theorem execDeleteCq_fixed (asn : Nat) (s : State) : Keeps s (execDeleteCq asn s) := by
  refine (keeps_next _ _).2 (State.adminVerb_fixed _ _ _ _ fun sl => ?_)
  (try dsimp only)
  (repeat' split) <;> simp

@[simp] theorem State.cancelParts_fixed (s : State) (asn : Nat) : (State.cancelParts s asn).fixed = s.fixed := by
  unfold State.cancelParts
  split <;> simp

@[simp] theorem State.dropLadder_fixed (s : State) (d : DieId) (h : HeadId) (loc : SectorLoc) :
    (State.dropLadder s d h loc).fixed = s.fixed := by
  unfold State.dropLadder
  split <;> simp

@[simp] theorem State.dropLadders_fixed (s : State) (sl : Slot) :
    (State.dropLadders s sl).fixed = s.fixed := by simp [State.dropLadders]

@[simp] theorem execVerbTimeout_fixed (asn : Nat) (s : State) : Keeps s (execVerbTimeout asn s) := by
  unfold execVerbTimeout
  split <;> simp

@[simp] theorem execAbort_fixed (asn : Nat) (s : State) : Keeps s (execAbort asn s) := by
  refine (keeps_next _ _).2 (State.adminVerb_fixed _ _ _ _ fun sl => ?_)
  (try dsimp only)
  (repeat' split) <;> simp

@[simp] theorem State.resumeStart_fixed (s : State) (asn : Nat) (action : Nat) :
    (State.resumeStart s asn action).fixed = s.fixed := by
  refine State.adminVerb_fixed _ _ _ _ fun sl => ?_
  dsimp only
  (repeat' split) <;> simp

@[simp] theorem execQueueResumeEntry_fixed (asn : Nat) (s : State) :
    Keeps s (execQueueResumeEntry asn s) := by simp [execQueueResumeEntry]

@[simp] theorem execQueueResumeFlush_fixed (asn : Nat) (s : State) :
    Keeps s (execQueueResumeFlush asn s) := by simp [execQueueResumeFlush]

@[simp] theorem State.flushPost_fixed (s : State) (q : Nat) (x : Sq) (stop_ : Nat) (z0 : List (BitVec 512)) :
    (State.flushPost s q x stop_ z0).1.fixed = s.fixed := by
  induction z0 generalizing s with
  | nil => simp [State.flushPost]
  | cons x l ih =>
    simp only [State.flushPost]
    (repeat' split) <;> simp [ih]

@[simp] theorem State.resumeEnd_fixed (s : State) (q : Nat) (asn : Nat) (x : Sq) (stop_ : Nat) :
    (State.resumeEnd s q asn x stop_).fixed = s.fixed := by simp [State.resumeEnd]

@[simp] theorem execQueueResumeExecute_fixed (q : Nat) (entries : List (BitVec 512)) (s : State) :
    Keeps s (execQueueResumeExecute q entries s) := by
  unfold execQueueResumeExecute
  (repeat' split) <;> simp

end Sys2Proof.Machine
end

