-- ==== Sys2Proof/Laws/FixedMemory.lean ====
section
/-! SUPPORT. The operations and meanings of Machine/Memory.lean leave the part and the queue as they are. -/

namespace Sys2Proof.Machine

@[simp] theorem State.corrected_fixed (s : State) (d : DieId) (r : Nat) (addr : BitVec 64) :
    (State.corrected s d r addr).fixed = s.fixed := by simp [State.corrected]

@[simp] theorem State.foundUe_fixed (s : State) (d : DieId) (consumer : Nat) (w : BadWord) :
    (State.foundUe s d consumer w).fixed = s.fixed := by simp [State.foundUe]

@[simp] theorem State.scrubWord_fixed (s : State) (d : DieId) (w : ScrubWord) :
    (State.scrubWord s d w).fixed = s.fixed := by
  unfold State.scrubWord
  split <;> simp

@[simp] theorem State.demandCorrected_fixed (s : State) (d : DieId) (w : ScrubWord) :
    (State.demandCorrected s d w).fixed = s.fixed := by simp [State.demandCorrected]

@[simp] theorem State.scrubSide_fixed (s : State) (d : DieId) (dram : Bool) (ws : List ScrubWord) :
    (State.scrubSide s d dram ws).fixed = s.fixed := by simp [State.scrubSide]

@[simp] theorem execScrubTick_fixed (d : DieId) (onchip : List ScrubWord) (dram : List ScrubWord) (demand : List ScrubWord) (s : State) :
    Keeps s (execScrubTick d onchip dram demand s) := by simp [execScrubTick]

@[simp] theorem execCeLeakTick_fixed (d : DieId) (s : State) :
    Keeps s (execCeLeakTick d s) := by simp [execCeLeakTick]

@[simp] theorem State.readUe_fixed (s : State) (d : DieId) (asn : Nat) (lba : Nat) :
    (State.readUe s d asn lba).fixed = s.fixed := by
  unfold State.readUe
  (repeat' split) <;> simp

@[simp] theorem State.dirtyLost_fixed (s : State) (d : DieId) (blocks : List Nat) :
    (State.dirtyLost s d blocks).fixed = s.fixed := by
  simp only [State.dirtyLost, State.recheck_fixed]
  refine foldl_fixed _ (fun s x => ?_) _ _
  (try dsimp only)
  (repeat' split) <;> simp

@[simp] theorem State.dmaLost_fixed (s : State) (d : DieId) (z0 : DmaFault) :
    (State.dmaLost s d z0).fixed = s.fixed := by
  simp only [State.dmaLost]
  (repeat' split) <;> simp

@[simp] theorem execDmaUncorrectable_fixed (d : DieId) (w : BadWord) (x : DmaFault) (s : State) :
    Keeps s (execDmaUncorrectable d w x s) := by simp [execDmaUncorrectable]

@[simp] theorem State.mapCount_fixed (s : State) (d : DieId) (k : Nat) :
    (State.mapCount s d k).fixed = s.fixed := by simp [State.mapCount]

theorem State.mapFetch_fixed (s : State) (d : DieId) (off : Nat) :
    ∀ t, (State.mapFetch s d off) = some t → t.fixed = s.fixed := by
  simp only [State.mapFetch]
  (repeat' split) <;> simp

@[simp] theorem State.zoneLost_fixed (s : State) (d : DieId) (z : Nat) :
    (State.zoneLost s d z).fixed = s.fixed := by simp [State.zoneLost]

@[simp] theorem State.mapBad_fixed (s : State) (d : DieId) (off : Nat) (chk : MapCheck) :
    (State.mapBad s d off chk).fixed = s.fixed := by
  unfold State.mapBad
  extract_lets i first
  have hf : ∀ s, (first s).fixed = s.fixed := by
    intro s
    unfold first
    extract_lets
    split
    · simp +zetaDelta
    · dsimp only
      split <;> simp +zetaDelta
  split
  · rfl
  · rfl
  · exact hf s
  · simp [hf]
  · split
    · exact (State.zoneLost_fixed _ _ _).trans (by rw [State.raise_fixed, State.bump_fixed, State.modMem_fixed, hf])
    · exact (State.isolate_fixed _ _ _).trans (by rw [State.raise_fixed, State.bump_fixed, State.modMem_fixed, hf])

@[simp] theorem State.tagBad_fixed (s : State) (d : DieId) (off : Nat) (way : Fin 8) :
    (State.tagBad s d off way).fixed = s.fixed := by simp [State.tagBad]

@[simp] theorem State.mapServe_fixed (s : State) (d : DieId) (off : Nat) (wr : Option (BitVec 128)) (chk : MapCheck) :
    (State.mapServe s d off wr chk).fixed = s.fixed := by
  unfold State.mapServe
  split
  · rfl
  · next t h => split <;> simp [State.mapFetch_fixed _ _ _ _ h]

@[simp] theorem execMapCacheRequest_fixed (d : DieId) (off : Nat) (wr : Option (BitVec 128)) (chk : MapCheck) (s : State) :
    Keeps s (execMapCacheRequest d off wr chk s) := by
  unfold execMapCacheRequest
  (repeat' split) <;> simp

@[simp] theorem execMapEvictDone_fixed (d : DieId) (i : Fin 8) (s : State) :
    Keeps s (execMapEvictDone d i s) := by simp [execMapEvictDone]

@[simp] theorem execMapPrefetch_fixed (d : DieId) (off : Nat) (s : State) :
    Keeps s (execMapPrefetch d off s) := by simp [execMapPrefetch]

@[simp] theorem execMapLineLock_fixed (d : DieId) (off : Nat) (s : State) : Keeps s (execMapLineLock d off s) := by
  refine keeps_onDie ?_
  dsimp only
  split
  · rfl
  · split
    · rfl
    · next t h =>
      have ht : t.fixed = s.fixed := by
        split at h
        · cases h; rfl
        · exact State.mapFetch_fixed _ _ _ _ h
      split <;> simp [ht]

@[simp] theorem execMapLineUnlock_fixed (d : DieId) (off : Nat) (s : State) :
    Keeps s (execMapLineUnlock d off s) := by simp [execMapLineUnlock]

@[simp] theorem execMapRangeInvalidate_fixed (d : DieId) (start : Nat) (len : Nat) (s : State) :
    Keeps s (execMapRangeInvalidate d start len s) := by simp [execMapRangeInvalidate]

end Sys2Proof.Machine
end

