-- ==== Sys2Proof/Laws/FixedEngOps.lean ====
section
/-! SUPPORT. The operations and meanings of Machine/EngOps.lean leave the part and the queue as they are. -/

namespace Sys2Proof.Machine

@[simp] theorem State.modEngine_fixed (s : State) (d : DieId) (e : Nat) (f : Engine → Engine) :
    (State.modEngine s d e f).fixed = s.fixed := (rfl)

@[simp] theorem State.setVersion_fixed (s : State) (d : DieId) (e : Nat) (v : EngVersion) :
    (State.setVersion s d e v).fixed = s.fixed := (rfl)

@[simp] theorem State.sequencerStops_fixed (s : State) (d : DieId) (h : HeadId) :
    (State.sequencerStops s d h).fixed = s.fixed := by
  unfold State.sequencerStops
  split <;> simp

@[simp] theorem State.motorStops_fixed (s : State) (d : DieId) :
    (State.motorStops s d).fixed = s.fixed := by simp [State.motorStops]

@[simp] theorem State.engineStops_fixed (s : State) (d : DieId) (e : Nat) :
    (State.engineStops s d e).fixed = s.fixed := by simp [State.engineStops]

@[simp] theorem State.takeFault_fixed (s : State) (d : DieId) (e : Nat) (kind : Nat) (word : Nat) :
    (State.takeFault s d e kind word).fixed = s.fixed := by simp [State.takeFault]

@[simp] theorem State.engineReset_fixed (s : State) (d : DieId) (e : Nat) :
    (State.engineReset s d e).fixed = s.fixed := by simp [State.engineReset]

@[simp] theorem State.reloadStore_fixed (s : State) (d : DieId) (e : Nat) (v : EngVersion) :
    (State.reloadStore s d e v).fixed = s.fixed := (rfl)

@[simp] theorem State.loadBank_fixed (s : State) (d : DieId) (v : EngVersion) :
    (State.loadBank s d v).fixed = s.fixed := (rfl)

@[simp] theorem State.bankSwap_fixed (s : State) (d : DieId) : (State.bankSwap s d).fixed = s.fixed := (rfl)

@[simp] theorem State.clauseEnd_fixed (s : State) (d : DieId) (e : Nat) :
    (State.clauseEnd s d e).fixed = s.fixed := by
  simp only [State.clauseEnd]
  (repeat' split) <;> simp

end Sys2Proof.Machine
end

