-- ==== Sys2Proof/Laws/FixedFirmware.lean ====
section
/-! SUPPORT. The operations and meanings of Machine/Firmware.lean leave the part and the queue as they are. -/

namespace Sys2Proof.Machine

theorem State.lockFor_fixed (s : State) (src : Source) : ∀ t, (State.lockFor s src) = some t → t.fixed = s.fixed := by
  unfold State.lockFor
  split <;> simp

@[simp] theorem State.discardDownload_fixed (s : State) (b : Bool) :
    (State.discardDownload s b).fixed = s.fixed := by simp [State.discardDownload]

@[simp] theorem State.fwBlock_fixed (s : State) (b : Bool) (n : Nat) (bs : List Byte) :
    (State.fwBlock s b n bs).1.fixed = s.fixed := by
  simp only [State.fwBlock]
  (repeat' split) <;> simp

@[simp] theorem State.fwBlocks_fixed (s : State) (b : Bool) (z0 : Nat) (z1 : List (List Byte)) :
    (State.fwBlocks s b z0 z1).1.fixed = s.fixed := by
  induction z1 generalizing s z0 with
  | nil => simp [State.fwBlocks]
  | cons x l ih =>
    simp only [State.fwBlocks]
    (repeat' split) <;> simp [ih]

@[simp] theorem State.fwWhole_fixed (s : State) (b : Bool) : (State.fwWhole s b).1.fixed = s.fixed := by
  unfold State.fwWhole
  split <;> simp

@[simp] theorem State.fwTransfer_fixed (s : State) (src : Source) (off : Nat) (data : List Byte) (last : Option Bool) :
    (State.fwTransfer s src off data last).1.fixed = s.fixed := by
  unfold State.fwTransfer
  split
  · rfl
  · next t h =>
    have ht : t.fixed = s.fixed := State.lockFor_fixed _ _ _ h
    (try dsimp only)
    (repeat' split) <;> simp [ht]

@[simp] theorem execFwDownload_fixed (asn : Nat) (data : List Byte) (s : State) :
    Keeps s (execFwDownload asn data s) := by
  refine (keeps_next _ _).2 (State.adminVerb_fixed _ _ _ _ fun sl => ?_)
  (try dsimp only)
  (repeat' split) <;> simp

@[simp] theorem State.fwBlockWrite_fixed (s : State) (src : Source) (data : List Byte) :
    (State.fwBlockWrite s src data).1.fixed = s.fixed := by simp [State.fwBlockWrite]

@[simp] theorem execFwBlockWrite_fixed (src : Source) (data : List Byte) (s : State) :
    Keeps s (execFwBlockWrite src data s) := by simp [execFwBlockWrite]

@[simp] theorem State.activateSlot_fixed (s : State) (b : Bool) : (State.activateSlot s b).1.fixed = s.fixed := by
  simp only [State.activateSlot]
  (repeat' split) <;> simp

@[simp] theorem State.activateChecked_fixed (s : State) (b : Bool) :
    (State.activateChecked s b).1.fixed = s.fixed := by
  unfold State.activateChecked
  (repeat' split) <;> simp

@[simp] theorem State.fwActivate_fixed (s : State) (src : Source) : (State.fwActivate s src).1.fixed = s.fixed := by
  unfold State.fwActivate
  split
  · rfl
  · next t h =>
    have ht : t.fixed = s.fixed := State.lockFor_fixed _ _ _ h
    (try dsimp only)
    (repeat' split) <;> simp [ht]

@[simp] theorem State.fwRevert_fixed (s : State) (src : Source) : (State.fwRevert s src).1.fixed = s.fixed := by
  unfold State.fwRevert
  split
  · rfl
  · next t h =>
    have ht : t.fixed = s.fixed := State.lockFor_fixed _ _ _ h
    (try dsimp only)
    (repeat' split) <;> simp [ht]

@[simp] theorem execFwActivate_fixed (asn : Nat) (s : State) : Keeps s (execFwActivate asn s) := by
  refine (keeps_next _ _).2 (State.adminVerb_fixed _ _ _ _ fun sl => ?_)
  (try dsimp only)
  split
  · rfl
  · unfold fwVerb
    (repeat' split) <;> simp

@[simp] theorem execFwRevert_fixed (asn : Nat) (s : State) : Keeps s (execFwRevert asn s) := by
  refine (keeps_next _ _).2 (State.adminVerb_fixed _ _ _ _ fun sl => ?_)
  (try dsimp only)
  split
  · rfl
  · unfold fwVerb
    (repeat' split) <;> simp

@[simp] theorem State.fwCommand_fixed (s : State) (src : Source) (v : Nat) :
    (State.fwCommand s src v).1.fixed = s.fixed := by
  simp only [State.fwCommand]
  (repeat' split) <;> simp

@[simp] theorem execFwCommandActivate_fixed (src : Source) (s : State) :
    Keeps s (execFwCommandActivate src s) := by simp [execFwCommandActivate]

@[simp] theorem execFwCommandRevert_fixed (src : Source) (s : State) :
    Keeps s (execFwCommandRevert src s) := by simp [execFwCommandRevert]

@[simp] theorem State.changeUnits_fixed (s : State) (d : DieId) (t : Nat) (b : Bool) :
    (State.changeUnits s d t b).fixed = s.fixed := by simp [State.changeUnits]

@[simp] theorem State.fwAnswer_fixed (s : State) (obj : Option Int) : (State.fwAnswer s obj).fixed = s.fixed := by
  simp only [State.fwAnswer]
  (repeat' split) <;> simp

@[simp] theorem State.changeEnd_fixed (s : State) (b : Bool) (back : Bool) :
    (State.changeEnd s b back).fixed = s.fixed := by simp [State.changeEnd]

@[simp] theorem execFwClassChangeover_fixed (s : State) : Keeps s (execFwClassChangeover s) := by
  unfold execFwClassChangeover
  split <;> simp

@[simp] theorem execFwResetActivationReset_fixed (s : State) :
    Keeps s (execFwResetActivationReset s) := by simp [execFwResetActivationReset]

@[simp] theorem State.confirm_fixed (s : State) : (State.confirm s).fixed = s.fixed := by simp [State.confirm]

@[simp] theorem execFwConfirmed_fixed (s : State) : Keeps s (execFwConfirmed s) := by simp [execFwConfirmed]

@[simp] theorem execFwConfirmWindowExpiry_fixed (s : State) :
    Keeps s (execFwConfirmWindowExpiry s) := by simp [execFwConfirmWindowExpiry]

@[simp] theorem execFwLockLapsed_fixed (s : State) : Keeps s (execFwLockLapsed s) := by
  simp only [execFwLockLapsed]
  (repeat' split) <;> simp

@[simp] theorem State.attestStart_fixed (s : State) (nonce : List Byte) :
    (State.attestStart s nonce).fixed = s.fixed := by simp [State.attestStart]

@[simp] theorem execAttestNonceWrite_fixed (src : Source) (nonce : List Byte) (s : State) :
    Keeps s (execAttestNonceWrite src nonce s) := by
  unfold execAttestNonceWrite
  split <;> simp

@[simp] theorem execAttestReportReady_fixed (s : State) : Keeps s (execAttestReportReady s) := by
  unfold execAttestReportReady
  split <;> simp

@[simp] theorem State.dieFailed_fixed (s : State) (d : DieId) :
    (State.dieFailed s d).fixed = s.fixed := by simp [State.dieFailed]

@[simp] theorem execMonitorRestart_fixed (d : DieId) (s : State) :
    Keeps s (execMonitorRestart d s) := by simp [execMonitorRestart]

@[simp] theorem State.imagesDone_fixed (s : State) (d : DieId) :
    (State.imagesDone s d).fixed = s.fixed := by simp [State.imagesDone]

@[simp] theorem execBootImageBlock_fixed (d : DieId) (unit : Fin 7) (data : List Byte) (s : State) :
    Keeps s (execBootImageBlock d unit data s) := by simp [execBootImageBlock]

end Sys2Proof.Machine
end

