-- ==== Sys2Proof/Laws/FixedEngines.lean ====
section
/-! SUPPORT. The operations and meanings of Machine/Engines.lean leave the part and the queue as they are. -/

namespace Sys2Proof.Machine

@[simp] theorem State.coreRestart_fixed (s : State) (d : DieId) (c : Nat) :
    (State.coreRestart s d c).fixed = s.fixed := by simp [State.coreRestart]

@[simp] theorem State.fetchUe_fixed (s : State) (d : DieId) (w : BadWord) :
    (State.fetchUe s d w).fixed = s.fixed := by simp [State.fetchUe]

@[simp] theorem execCoreTrap_fixed (d : DieId) (c : Fin 32) (cause : TrapCause) (s : State) :
    Keeps s (execCoreTrap d c cause s) := by
  unfold execCoreTrap
  split <;> simp

@[simp] theorem execCoreWatchdog_fixed (d : DieId) (c : Fin 32) (s : State) :
    Keeps s (execCoreWatchdog d c s) := by simp [execCoreWatchdog]

@[simp] theorem State.freeReg_fixed (s : State) (d : DieId) (e : Nat) (n : Nat) (w : BitVec 64) :
    (State.freeReg s d e n w).fixed = s.fixed := (rfl)

@[simp] theorem State.aluWord_fixed (s : State) (d : DieId) (e : Nat) (w : BitVec 64) :
    (State.aluWord s d e w).fixed = s.fixed := (rfl)

@[simp] theorem State.reportWord_fixed (s : State) (d : DieId) (e : Nat) (w : BitVec 64) :
    (State.reportWord s d e w).fixed = s.fixed := (rfl)

@[simp] theorem State.wordNext_fixed (s : State) (d : DieId) (e : Nat) (w : BitVec 64) (sig : BitVec 8) (bad : Option (Bool × Nat)) :
    (State.wordNext s d e w sig bad).fixed = s.fixed := by simp [State.wordNext]

@[simp] theorem State.smallWord_fixed (s : State) (d : DieId) (e : Nat) (cls : Nat) (w : BitVec 64) (sig : BitVec 8) (op : State → State) (hop : ∀ y0, (op y0).fixed = y0.fixed) :
    (State.smallWord s d e cls w sig op).fixed = s.fixed := by simp [State.smallWord, *]

@[simp] theorem State.linesWord_fixed (s : State) (d : DieId) (h : HeadId) (w : BitVec 64) :
    (State.linesWord s d h w).fixed = s.fixed := by
  simp only [State.linesWord]
  (repeat' split) <;> simp

@[simp] theorem execSeqNop_fixed (d : DieId) (h : HeadId) (w : BitVec 64) (sig : BitVec 8) (s : State) :
    Keeps s (execSeqNop d h w sig s) := by simp [execSeqNop]

@[simp] theorem execSeqAlu_fixed (d : DieId) (h : HeadId) (w : BitVec 64) (sig : BitVec 8) (s : State) :
    Keeps s (execSeqAlu d h w sig s) := by simp [execSeqAlu]

@[simp] theorem execSeqArm_fixed (d : DieId) (h : HeadId) (w : BitVec 64) (sig : BitVec 8) (s : State) :
    Keeps s (execSeqArm d h w sig s) := by simp [execSeqArm]

@[simp] theorem execSeqLines_fixed (d : DieId) (h : HeadId) (w : BitVec 64) (sig : BitVec 8) (s : State) :
    Keeps s (execSeqLines d h w sig s) := by simp [execSeqLines]

@[simp] theorem execSeqStage_fixed (d : DieId) (h : HeadId) (w : BitVec 64) (sig : BitVec 8) (s : State) :
    Keeps s (execSeqStage d h w sig s) := by simp [execSeqStage]

@[simp] theorem execSeqReport_fixed (d : DieId) (h : HeadId) (w : BitVec 64) (sig : BitVec 8) (s : State) :
    Keeps s (execSeqReport d h w sig s) := by simp [execSeqReport]

@[simp] theorem execSeqWait_fixed (d : DieId) (h : HeadId) (w : BitVec 64) (sig : BitVec 8) (s : State) :
    Keeps s (execSeqWait d h w sig s) := by simp [execSeqWait]

@[simp] theorem execMotorNop_fixed (d : DieId) (w : BitVec 64) (sig : BitVec 8) (s : State) :
    Keeps s (execMotorNop d w sig s) := by simp [execMotorNop]

@[simp] theorem execMotorAlu_fixed (d : DieId) (w : BitVec 64) (sig : BitVec 8) (s : State) :
    Keeps s (execMotorAlu d w sig s) := by simp [execMotorAlu]

@[simp] theorem execMotorTable_fixed (d : DieId) (w : BitVec 64) (sig : BitVec 8) (s : State) :
    Keeps s (execMotorTable d w sig s) := by simp [execMotorTable]

@[simp] theorem execMotorPwm_fixed (d : DieId) (w : BitVec 64) (sig : BitVec 8) (s : State) :
    Keeps s (execMotorPwm d w sig s) := by simp [execMotorPwm]

@[simp] theorem execMotorSample_fixed (d : DieId) (w : BitVec 64) (sig : BitVec 8) (s : State) :
    Keeps s (execMotorSample d w sig s) := by simp [execMotorSample]

@[simp] theorem execMotorReport_fixed (d : DieId) (w : BitVec 64) (sig : BitVec 8) (s : State) :
    Keeps s (execMotorReport d w sig s) := by simp [execMotorReport]

@[simp] theorem execMotorWait_fixed (d : DieId) (w : BitVec 64) (sig : BitVec 8) (s : State) :
    Keeps s (execMotorWait d w sig s) := by simp [execMotorWait]

@[simp] theorem State.cleOps_fixed (s : State) (d : DieId) (w : BitVec 128) :
    (State.cleOps s d w).fixed = s.fixed := by simp [State.cleOps]

@[simp] theorem execCleMicroword_fixed (d : DieId) (w : BitVec 128) (sig : BitVec 8) (s : State) :
    Keeps s (execCleMicroword d w sig s) := by simp [execCleMicroword]

@[simp] theorem execEngineWaitRelease_fixed (d : DieId) (e : Fin 26) (cond : Fin 32) (s : State) :
    Keeps s (execEngineWaitRelease d e cond s) := by
  refine keeps_onDie ?_
  (try dsimp only)
  (repeat' split) <;> simp

@[simp] theorem execEngineFault_fixed (d : DieId) (e : Fin 26) (kind : EngFault) (s : State) :
    Keeps s (execEngineFault d e kind s) := by
  unfold execEngineFault
  split <;> simp

@[simp] theorem execClauseOverrun_fixed (d : DieId) (e : Fin 26) (s : State) :
    Keeps s (execClauseOverrun d e s) := by simp [execClauseOverrun]

@[simp] theorem execEngineReset_fixed (d : DieId) (e : Fin 26) (s : State) :
    Keeps s (execEngineReset d e s) := by simp [execEngineReset]

@[simp] theorem execEngineHalt_fixed (d : DieId) (e : Fin 26) (s : State) :
    Keeps s (execEngineHalt d e s) := by simp [execEngineHalt]

@[simp] theorem execEngineReload_fixed (d : DieId) (e : Fin 26) (s : State) :
    Keeps s (execEngineReload d e s) := by simp [execEngineReload]

@[simp] theorem execCleBankSwap_fixed (d : DieId) (s : State) :
    Keeps s (execCleBankSwap d s) := by simp [execCleBankSwap]

end Sys2Proof.Machine
end

