-- ==== Sys2Proof/Laws/FixedEvents.lean ====
section
/-! SUPPORT. The operations and meanings of Machine/Events.lean leave the part and the queue as they are. -/

namespace Sys2Proof.Machine

@[simp] theorem State.putRoute_fixed (s : State) (n : Nat) (v : BitVec 64) :
    (State.putRoute s n v).fixed = s.fixed := by simp [State.putRoute]

@[simp] theorem State.writeRoute_fixed (s : State) (n : Nat) (half : Option Bool) (v : BitVec 64) :
    (State.writeRoute s n half v).fixed = s.fixed := by simp [State.writeRoute]

@[simp] theorem execEvtRouteWrite_fixed (n : Nat) (half : Option Bool) (v : BitVec 64) (s : State) :
    Keeps s (execEvtRouteWrite n half v s) := by simp [execEvtRouteWrite]

@[simp] theorem execEventCoalesceTimeout_fixed (n : Nat) (s : State) :
    Keeps s (execEventCoalesceTimeout n s) := by simp [execEventCoalesceTimeout]

@[simp] theorem execEventForward_fixed (d : DieId) (s : State) : Keeps s (execEventForward d s) := by
  refine keeps_onDie ?_
  (try dsimp only)
  (repeat' split) <;> simp

end Sys2Proof.Machine
end

