-- ==== Sys2Proof/Laws/FixedHousekeeping.lean ====
section
/-! SUPPORT. The operations and meanings of Machine/Housekeeping.lean leave the part and the queue as they are. -/

namespace Sys2Proof.Machine

@[simp] theorem execHkSlot_fixed (d : DieId) (code : BitVec 12) (s : State) :
    Keeps s (execHkSlot d code s) := by simp [execHkSlot]

@[simp] theorem State.sensorOut_fixed (s : State) (d : DieId) (i : Nat) :
    (State.sensorOut s d i).fixed = s.fixed := by simp [State.sensorOut]

@[simp] theorem State.sensorStep_fixed (s : State) (d : DieId) (codes : List (BitVec 12)) (mask : BitVec 8) (i : Nat) :
    (State.sensorStep s d codes mask i).fixed = s.fixed := by simp [State.sensorStep]

@[simp] theorem State.sensorsStep_fixed (s : State) (d : DieId) (codes : List (BitVec 12)) :
    (State.sensorsStep s d codes).fixed = s.fixed := by simp [State.sensorsStep]

@[simp] theorem State.remoteStep_fixed (s : State) (d : DieId) (was : List (BitVec 12)) (codes : List (BitVec 12)) :
    (State.remoteStep s d was codes).fixed = s.fixed := by simp [State.remoteStep]

@[simp] theorem State.blindStep_fixed (s : State) (d : DieId) :
    (State.blindStep s d).fixed = s.fixed := by simp [State.blindStep]

@[simp] theorem State.hdaStep_fixed (s : State) (d : DieId) (codes : List (BitVec 12)) :
    (State.hdaStep s d codes).fixed = s.fixed := by simp [State.hdaStep]

@[simp] theorem State.headStep_fixed (s : State) (d : DieId) :
    (State.headStep s d).fixed = s.fixed := by simp [State.headStep]

@[simp] theorem State.railStep_fixed (s : State) (d : DieId) (codes : List (BitVec 12)) (n : Nat) (rail : Nat × Rat) :
    (State.railStep s d codes n rail).fixed = s.fixed := by simp [State.railStep]

@[simp] theorem State.supplyStep_fixed (s : State) (d : DieId) (codes : List (BitVec 12)) :
    (State.supplyStep s d codes).fixed = s.fixed := by simp [State.supplyStep]

@[simp] theorem State.thermalShutdown_fixed (s : State) (d : DieId) :
    (State.thermalShutdown s d).fixed = s.fixed := by simp [State.thermalShutdown]

@[simp] theorem State.thermalRestart_fixed (s : State) (d : DieId) :
    (State.thermalRestart s d).fixed = s.fixed := by simp [State.thermalRestart]

@[simp] theorem State.reducedSettle_fixed (s : State) (d : DieId) :
    (State.reducedSettle s d).fixed = s.fixed := by simp [State.reducedSettle]

@[simp] theorem State.thermalChange_fixed (s : State) (d : DieId) :
    (State.thermalChange s d).fixed = s.fixed := by simp [State.thermalChange]

@[simp] theorem State.roundClose_fixed (s : State) (d : DieId) : (State.roundClose s d).fixed = s.fixed := (rfl)

@[simp] theorem State.roundFlags_fixed (s : State) (d : DieId) : (State.roundFlags s d).fixed = s.fixed := (rfl)

@[simp] theorem execHkRoundEnd_fixed (d : DieId) (s : State) :
    Keeps s (execHkRoundEnd d s) := by simp [execHkRoundEnd]

end Sys2Proof.Machine
end

