-- ==== Sys2Proof/Laws/FixedObjWrite.lean ====
section
/-! SUPPORT. The operations and meanings of Machine/ObjWrite.lean leave the part and the queue as they are. -/

namespace Sys2Proof.Machine

@[simp] theorem refusedWith_fixed (s : State) (code : Nat) : (refusedWith s code).1.fixed = s.fixed := (rfl)

@[simp] theorem State.applied_fixed (s : State) (o : ObjDef) (i : Nat) (old : Int) (new : Int) :
    (State.applied s o i old new).fixed = s.fixed := by simp [State.applied]

@[simp] theorem State.pend_fixed (s : State) (k : Nat) (bs : List Byte) (inForce : List Byte) :
    (State.pend s k bs inForce).fixed = s.fixed := by simp [State.pend]

@[simp] theorem State.setScalar_fixed (s : State) (o : ObjDef) (sub : Nat) (i : Nat) (v : Int) :
    (State.setScalar s o sub i v).1.fixed = s.fixed := by
  simp only [State.setScalar]
  (repeat' split) <;> simp

@[simp] theorem State.actLoad_fixed (s : State) (d : DieId) (a : Act) : (State.actLoad s d a).1.fixed = s.fixed := by
  simp only [State.actLoad]
  (repeat' split) <;> simp

@[simp] theorem State.restoreOne_fixed (s : State) (o : ObjDef) (sub : Nat) (i : Nat) :
    (State.restoreOne s o sub i).1.fixed = s.fixed := by
  simp only [State.restoreOne]
  (repeat' split) <;> simp

@[simp] theorem State.restoreAll_fixed (s : State) : (State.restoreAll s).1.fixed = s.fixed := by
  simp only [State.restoreAll]
  (repeat' split) <;> simp_all

@[simp] theorem State.restore_fixed (s : State) : (State.restore s).fixed = s.fixed := by simp [State.restore]

@[simp] theorem State.command_fixed (s : State) (src : Source) (asn : Option Nat) (o : ObjDef) (i : Nat) (v : Nat) :
    (State.command s src asn o i v).1.fixed = s.fixed := by
  have hc : ∀ r, (ofCode r).1.fixed = r.1.fixed := by
    intro r
    unfold ofCode
    split <;> rfl
  unfold State.command
  (try dsimp only)
  (repeat' split) <;> simp [hc]

@[simp] theorem State.writeScalar_fixed (s : State) (src : Source) (asn : Option Nat) (o : ObjDef) (sub : Nat) (i : Nat) (len : Nat) (data : List Byte) :
    (State.writeScalar s src asn o sub i len data).1.fixed = s.fixed := by
  simp only [State.writeScalar]
  (repeat' split) <;> simp

@[simp] theorem State.applyDomain_fixed (s : State) (src : Source) (o : ObjDef) (sub : Nat) (i : Nat) (bs : List Byte) :
    (State.applyDomain s src o sub i bs).1.fixed = s.fixed := by
  have hp : ∀ (ws : List (BitVec 64)) (l : List Nat),
      (l.foldl (fun s n => State.putRoute s n (ws.getD n 0)) s).fixed = s.fixed := fun ws l =>
    foldl_fixed _ (fun s n => by simp) l s
  have it : ∀ (c : Prop) [Decidable c] (a b : ObjRes), a.1.fixed = s.fixed → b.1.fixed = s.fixed →
      (if c then a else b).1.fixed = s.fixed := by
    intro c _ a b ha hb
    split <;> assumption
  unfold State.applyDomain
  generalize List.range 1024 = l
  refine it _ _ _ (it _ _ _ rfl (hp _ _)) (it _ _ _ (State.fwBlockWrite_fixed _ _ _) (it _ _ _
    (it _ _ _ (State.attestStart_fixed _ _) rfl) (it _ _ _ (State.importRecord_fixed _ _ _ _ _) (it _ _ _
    (State.writeRecordObject_fixed _ _ _ _ _) (it _ _ _ (State.writeRecordObject_fixed _ _ _ _ _) (it _ _ _ rfl
    (it _ _ _ rfl (it _ _ _ (State.modAct_fixed _ _ _ _) (it _ _ _ (State.pend_fixed _ _ _ _)
    ((State.putDom_fixed _ _ _ _ _).trans (State.save_fixed _ _ _ _ _)))))))))))

@[simp] theorem State.dropSession_fixed (s : State) (src : Source) (k : Nat) :
    (State.dropSession s src k).fixed = s.fixed := (rfl)

@[simp] theorem State.segment_fixed (s : State) (src : Source) (o : ObjDef) (sub : Nat) (i : Nat) (sofar : List Byte) (data : List Byte) (last : Bool) :
    (State.segment s src o sub i sofar data last).1.fixed = s.fixed := by
  simp only [State.segment]
  (repeat' split) <;> simp

@[simp] theorem State.writeDomain_fixed (s : State) (src : Source) (o : ObjDef) (sub : Nat) (i : Nat) (off : Nat) (len : Nat) (last : Bool) (data : List Byte) :
    (State.writeDomain s src o sub i off len last data).1.fixed = s.fixed := by
  simp only [State.writeDomain]
  (repeat' split) <;> simp

@[simp] theorem State.objSet_fixed (s : State) (src : Source) (known : Bool) (asn : Option Nat) (index : Nat) (sub : Nat) (inst : Nat) (off : Nat) (len : Nat) (last : Bool) (data : List Byte) :
    (State.objSet s src known asn index sub inst off len last data).1.fixed = s.fixed := by
  unfold State.objSet
  (repeat' split) <;> simp

end Sys2Proof.Machine
end

