-- ==== Sys2Proof/Laws/FixedObjects.lean ====
section
/-! SUPPORT. The operations and meanings of Machine/Objects.lean leave the part and the queue as they are. -/

namespace Sys2Proof.Machine

@[simp] theorem State.objDo_fixed (s : State) (known : Bool) (asn : Option Nat) (a : ObjAccess) :
    (State.objDo s known asn a).1.fixed = s.fixed := by
  unfold State.objDo
  split <;> simp

@[simp] theorem State.forward_fixed (s : State) (d : DieId) (a : ObjAccess) :
    (State.forward s d a).fixed = s.fixed := by simp [State.forward]

@[simp] theorem State.objVerbEnd_fixed (s : State) (asn : Nat) (r : ObjAns) :
    (State.objVerbEnd s asn r).fixed = s.fixed := by simp [State.objVerbEnd]

@[simp] theorem State.objVerb_fixed (s : State) (asn : Nat) (sl : Slot) (a : ObjAccess) :
    (State.objVerb s asn sl a).fixed = s.fixed := by
  unfold State.objVerb
  split <;> simp

@[simp] theorem execGetObject_fixed (asn : Nat) (s : State) : Keeps s (execGetObject asn s) := by simp [execGetObject]

@[simp] theorem execSetObject_fixed (asn : Nat) (data : List Byte) (s : State) :
    Keeps s (execSetObject asn data s) := by simp [execSetObject]

@[simp] theorem State.winAnswer_fixed (s : State) (r : ObjAns) :
    (State.winAnswer s r).fixed = s.fixed := by simp [State.winAnswer]

@[simp] theorem State.windowGo_fixed (s : State) (data : List Byte) : (State.windowGo s data).fixed = s.fixed := by
  simp only [State.windowGo]
  (repeat' split) <;> simp

@[simp] theorem execObjectWindowGo_fixed (data : List Byte) (s : State) :
    Keeps s (execObjectWindowGo data s) := by simp [execObjectWindowGo]

@[simp] theorem execObjectWindowDone_fixed (s : State) : Keeps s (execObjectWindowDone s) := by
  unfold execObjectWindowDone
  split <;> simp

@[simp] theorem State.linkAnswer_fixed (s : State) (n : Nat) (body : List Byte) :
    (State.linkAnswer s n body).fixed = s.fixed := by
  unfold State.linkAnswer
  split <;> simp

@[simp] theorem State.linkAnswerObj_fixed (s : State) (n : Nat) (r : ObjAns) :
    (State.linkAnswerObj s n r).fixed = s.fixed := by
  unfold State.linkAnswerObj
  split <;> simp

@[simp] theorem execObjectAccessMessage_fixed (d : DieId) (s : State) : Keeps s (execObjectAccessMessage d s) := by
  refine keeps_onDie ?_
  (try dsimp only)
  (repeat' split) <;> simp

@[simp] theorem execDomainSessionTimeout_fixed (d : DieId) (key : Nat) (s : State) :
    Keeps s (execDomainSessionTimeout d key s) := by simp [execDomainSessionTimeout]

@[simp] theorem execRestoreDefaults_fixed (v : BitVec 8) (s : State) :
    Keeps s (execRestoreDefaults v s) := by simp [execRestoreDefaults]

end Sys2Proof.Machine
end

