-- ==== Sys2Proof/Laws/FixedAdmin.lean ====
section
/-! SUPPORT. The operations and meanings of Machine/Admin.lean leave the part and the queue as they are. -/

namespace Sys2Proof.Machine

@[simp] theorem execIdentifyDevice_fixed (asn : Nat) (s : State) :
    Keeps s (execIdentifyDevice asn s) := by simp [execIdentifyDevice]

@[simp] theorem execIdentifyDie_fixed (asn : Nat) (s : State) : Keeps s (execIdentifyDie asn s) := by
  refine (keeps_next _ _).2 (State.adminVerb_fixed _ _ _ _ fun sl => ?_)
  (try dsimp only)
  (repeat' split) <;> simp

@[simp] theorem State.getLog_fixed (s : State) (asn : Nat) (id : Nat) (dieOf : Slot → DieId) (page : DieId → List Byte) :
    (State.getLog s asn id dieOf page).fixed = s.fixed := by
  unfold State.getLog
  split <;> simp

@[simp] theorem execGetLogError_fixed (asn : Nat) (s : State) :
    Keeps s (execGetLogError asn s) := by simp [execGetLogError]

@[simp] theorem execGetLogEvent_fixed (asn : Nat) (s : State) :
    Keeps s (execGetLogEvent asn s) := by simp [execGetLogEvent]

@[simp] theorem execGetLogTrace_fixed (asn : Nat) (s : State) :
    Keeps s (execGetLogTrace asn s) := by simp [execGetLogTrace]

end Sys2Proof.Machine
end

