-- ==== Sys2Proof/Laws/FixedRegisters.lean ====
section
/-! SUPPORT. The operations and meanings of Machine/Registers.lean leave the part and the queue as they are. -/

namespace Sys2Proof.Machine

@[simp] theorem State.fwFlags_fixed (s : State) (v : BitVec 32) : (State.fwFlags s v).fixed = s.fixed := (rfl)

@[simp] theorem State.diagWriteWord_fixed (s : State) (d : DieId) (off : Nat) (v : BitVec 32) :
    (State.diagWriteWord s d off v).fixed = s.fixed := by simp [State.diagWriteWord]

@[simp] theorem State.diagLatch_fixed (s : State) (d : DieId) (off : Nat) :
    (State.diagLatch s d off).fixed = s.fixed := by simp [State.diagLatch]

@[simp] theorem State.diagDo_fixed (s : State) (d : DieId) (off : Nat) (size : AccessSize) (wr : Option (BitVec 64)) :
    (State.diagDo s d off size wr).fixed = s.fixed := by
  unfold State.diagDo
  split <;> simp

@[simp] theorem State.diagIsolated_fixed (s : State) (d : DieId) (off : Nat) (size : AccessSize) (wr : Option (BitVec 64)) :
    (State.diagIsolated s d off size wr).fixed = s.fixed := by simp [State.diagIsolated]

@[simp] theorem State.diagAccess_fixed (s : State) (d : DieId) (off : Nat) (size : AccessSize) (wr : Option (BitVec 64)) :
    (State.diagAccess s d off size wr).fixed = s.fixed := by simp [State.diagAccess]

@[simp] theorem execDiagWindowAccess_fixed (d : DieId) (off : Nat) (size : AccessSize) (wr : Option (BitVec 64)) (s : State) :
    Keeps s (execDiagWindowAccess d off size wr s) := by simp [execDiagWindowAccess]

@[simp] theorem execDiagWindowResponse_fixed (d : DieId) (s : State) : Keeps s (execDiagWindowResponse d s) := by
  refine keeps_onDie ?_
  (try dsimp only)
  (repeat' split) <;> simp

@[simp] theorem State.writeControl_fixed (s : State) (v : BitVec 32) :
    (State.writeControl s v).fixed = s.fixed := by simp [State.writeControl]

@[simp] theorem State.writeMsix_fixed (s : State) (v : Nat) (k : Nat) (w : BitVec 32) :
    (State.writeMsix s v k w).fixed = s.fixed := by simp [State.writeMsix]

@[simp] theorem State.clearPending_fixed (s : State) (i : Nat) (v : BitVec 32) :
    (State.clearPending s i v).fixed = s.fixed := by simp [State.clearPending]

@[simp] theorem State.writeWindow_fixed (s : State) (off : Nat) (v : BitVec 32) :
    (State.writeWindow s off v).fixed = s.fixed := by simp [State.writeWindow]

@[simp] theorem State.writeWord_fixed (s : State) (a : Nat) (v : BitVec 32) :
    (State.writeWord s a v).fixed = s.fixed := by simp [State.writeWord]

@[simp] theorem State.writeBar_fixed (s : State) (a : Nat) (size : AccessSize) (v : BitVec 64) :
    (State.writeBar s a size v).fixed = s.fixed := by simp [State.writeBar]

@[simp] theorem execRegisterWrite_fixed (addr : Nat) (size : AccessSize) (v : BitVec 64) (s : State) :
    Keeps s (execRegisterWrite addr size v s) := by simp [execRegisterWrite]

end Sys2Proof.Machine
end

