-- ==== Sys2Proof/Laws/FixedMgmt.lean ====
section
/-! SUPPORT. The operations and meanings of Machine/Mgmt.lean leave the part and the queue as they are. -/

namespace Sys2Proof.Machine

@[simp] theorem State.modMgmt_fixed (s : State) (f : MgmtState → MgmtState) :
    (State.modMgmt s f).fixed = s.fixed := (rfl)

@[simp] theorem execMctpPacketReceive_fixed (eid : BitVec 8) (pecOk : Bool) (som : Bool) (eom : Bool) (seq : BitVec 2) (tag : BitVec 3) (body : List Byte) (s : State) :
    Keeps s (execMctpPacketReceive eid pecOk som eom seq tag body s) := by simp [execMctpPacketReceive]

@[simp] theorem State.countStranger_fixed (s : State) (src : BitVec 8) :
    (State.countStranger s src).fixed = s.fixed := by simp [State.countStranger]

@[simp] theorem State.linkAccept_fixed (s : State) (src : BitVec 8) (op : BitVec 8) (tag : BitVec 8) :
    (State.linkAccept s src op tag).fixed = s.fixed := (rfl)

@[simp] theorem linkDoes_fixed (src : BitVec 8) (op : BitVec 8) (tag : BitVec 8) (f : Nat → State → State) (s : State) (hf : ∀ y0 y1, (f y0 y1).fixed = y1.fixed) :
    Keeps s (linkDoes src op tag f s) := by simp [linkDoes, *]

@[simp] theorem State.control_fixed (s : State) (n : Nat) (cmd : BitVec 8) (code : BitVec 8) (data : List Byte) :
    (State.control s n cmd code data).fixed = s.fixed := by simp [State.control]

@[simp] theorem execSetEndpointId_fixed (src : BitVec 8) (eid : BitVec 8) (z0 : State) :
    Keeps z0 (execSetEndpointId src eid z0) := by simp [execSetEndpointId]

@[simp] theorem execGetEndpointId_fixed (src : BitVec 8) (z0 : State) :
    Keeps z0 (execGetEndpointId src z0) := by simp [execGetEndpointId]

@[simp] theorem execGetEndpointUuid_fixed (src : BitVec 8) (z0 : State) :
    Keeps z0 (execGetEndpointUuid src z0) := by simp [execGetEndpointUuid]

@[simp] theorem execGetMctpVersionSupport_fixed (src : BitVec 8) (z0 : State) :
    Keeps z0 (execGetMctpVersionSupport src z0) := by simp [execGetMctpVersionSupport]

@[simp] theorem execGetMessageTypeSupport_fixed (src : BitVec 8) (z0 : State) :
    Keeps z0 (execGetMessageTypeSupport src z0) := by simp [execGetMessageTypeSupport]

@[simp] theorem execGetVendorDefinedMsgSupport_fixed (src : BitVec 8) (z0 : State) :
    Keeps z0 (execGetVendorDefinedMsgSupport src z0) := by simp [execGetVendorDefinedMsgSupport]

@[simp] theorem execMctpUnsupportedCommand_fixed (src : BitVec 8) (cmd : BitVec 8) (z0 : State) :
    Keeps z0 (execMctpUnsupportedCommand src cmd z0) := by simp [execMctpUnsupportedCommand]

@[simp] theorem State.linkReply_fixed (s : State) (n : Nat) (r : ObjAns) :
    (State.linkReply s n r).fixed = s.fixed := by simp [State.linkReply]

@[simp] theorem State.linkObject_fixed (s : State) (src : BitVec 8) (body : List Byte) (n : Nat) :
    (State.linkObject s src body n).fixed = s.fixed := by
  simp only [State.linkObject]
  (repeat' split) <;> simp

@[simp] theorem execMctpGetObject_fixed (src : BitVec 8) (body : List Byte) (s : State) :
    Keeps s (execMctpGetObject src body s) := by
  unfold execMctpGetObject
  split <;> simp

@[simp] theorem execMctpSetObject_fixed (src : BitVec 8) (body : List Byte) (s : State) :
    Keeps s (execMctpSetObject src body s) := by
  unfold execMctpSetObject
  split <;> simp

@[simp] theorem State.dropHeld_fixed (s : State) : (State.dropHeld s).fixed = s.fixed := (rfl)

@[simp] theorem execMctpResponseRead_fixed (z0 : State) : Keeps z0 (execMctpResponseRead z0) := by
  refine (keeps_next _ _).2 ?_
  unfold when
  split
  · cases h : z0.mgmt.held <;> simp [h]
  · rfl

@[simp] theorem execResponseHoldExpiry_fixed (s : State) : Keeps s (execResponseHoldExpiry s) := (rfl)

@[simp] theorem State.gatherAlerts_fixed (s : State) :
    (State.gatherAlerts s).fixed = s.fixed := by simp [State.gatherAlerts]

@[simp] theorem State.ibiAttempt_fixed (s : State) :
    (State.ibiAttempt s).fixed = s.fixed := by simp [State.ibiAttempt]

@[simp] theorem execIbiRaise_fixed (z0 : State) : Keeps z0 (execIbiRaise z0) := by simp [execIbiRaise]

@[simp] theorem execIbiFailed_fixed (z0 : State) : Keeps z0 (execIbiFailed z0) := by simp [execIbiFailed]

@[simp] theorem execIbiRetryWaitEnd_fixed (z0 : State) :
    Keeps z0 (execIbiRetryWaitEnd z0) := by simp [execIbiRetryWaitEnd]

@[simp] theorem execEntdaa_fixed (addr : BitVec 7) (z0 : State) :
    Keeps z0 (execEntdaa addr z0) := by simp [execEntdaa]

@[simp] theorem execSetdasa_fixed (static : BitVec 7) (addr : BitVec 7) (z0 : State) :
    Keeps z0 (execSetdasa static addr z0) := by simp [execSetdasa]

@[simp] theorem execRstdaa_fixed (z0 : State) : Keeps z0 (execRstdaa z0) := by simp [execRstdaa]

@[simp] theorem execEnec_fixed (events : BitVec 8) (z0 : State) : Keeps z0 (execEnec events z0) := by simp [execEnec]

@[simp] theorem execDisec_fixed (events : BitVec 8) (z0 : State) :
    Keeps z0 (execDisec events z0) := by simp [execDisec]

@[simp] theorem execGetpid_fixed (z0 : State) : Keeps z0 (execGetpid z0) := by simp [execGetpid]

@[simp] theorem execGetbcr_fixed (z0 : State) : Keeps z0 (execGetbcr z0) := by simp [execGetbcr]

@[simp] theorem execGetdcr_fixed (z0 : State) : Keeps z0 (execGetdcr z0) := by simp [execGetdcr]

@[simp] theorem execGetstatus_fixed (z0 : State) : Keeps z0 (execGetstatus z0) := by simp [execGetstatus]

@[simp] theorem execGetmrl_fixed (z0 : State) : Keeps z0 (execGetmrl z0) := by simp [execGetmrl]

@[simp] theorem execSetmrl_fixed (v : BitVec 16) (z0 : State) : Keeps z0 (execSetmrl v z0) := by simp [execSetmrl]

@[simp] theorem execGetmwl_fixed (z0 : State) : Keeps z0 (execGetmwl z0) := by simp [execGetmwl]

@[simp] theorem execSetmwl_fixed (v : BitVec 16) (z0 : State) : Keeps z0 (execSetmwl v z0) := by simp [execSetmwl]

@[simp] theorem execI3cOtherCcc_fixed (code0 : BitVec 8) (s : State) : Keeps s (execI3cOtherCcc code0 s) := (rfl)

end Sys2Proof.Machine
end

