-- ==== Sys2Proof/Laws/FixedFabric.lean ====
section
/-! SUPPORT. The operations and meanings of Machine/Fabric.lean leave the part and the queue as they are. -/

namespace Sys2Proof.Machine

@[simp] theorem execFabricInvalidMessage_fixed (d : DieId) (m : Fin 4) (hdr : BitVec 128) (s : State) :
    Keeps s (execFabricInvalidMessage d m hdr s) := by simp [execFabricInvalidMessage]

@[simp] theorem State.changeCredits_fixed (s : State) (d : DieId) (m : Fin 4) (cls : FabricClass) (vc : Bool) (f : Nat → Nat) :
    (State.changeCredits s d m cls vc f).fixed = s.fixed := (rfl)

@[simp] theorem execFabricCreditReturn_fixed (d : DieId) (m : Fin 4) (cls : FabricClass) (vc : Bool) (n : Nat) (s : State) :
    Keeps s (execFabricCreditReturn d m cls vc n s) := by simp [execFabricCreditReturn]

@[simp] theorem execFabricFlitForward_fixed (d : DieId) (m : Fin 4) (hdr : BitVec 128) (s : State) :
    Keeps s (execFabricFlitForward d m hdr s) := by
  refine keeps_onDie ?_
  (try dsimp only)
  (repeat' split) <;> simp

@[simp] theorem State.takeDown_fixed (s : State) (d : DieId) (m : Fin 4) :
    (State.takeDown s d m).fixed = s.fixed := by
  unfold State.takeDown
  split <;> simp

@[simp] theorem State.isolateUnrouted_fixed (s : State) :
    (State.isolateUnrouted s).fixed = s.fixed := by simp [State.isolateUnrouted]

@[simp] theorem execFabricLinkDown_fixed (d : DieId) (m : Fin 4) (s : State) :
    Keeps s (execFabricLinkDown d m s) := by simp [execFabricLinkDown]

@[simp] theorem execPcieLinkStateChange_fixed (gts : Nat) (width : Nat) (ppm : BitVec 16) (s : State) :
    Keeps s (execPcieLinkStateChange gts width ppm s) := (rfl)

end Sys2Proof.Machine
end

