-- ==== Sys2Proof/Laws/FixedTick.lean ====
section
/-! SUPPORT. The operations and meanings of Machine/Tick.lean leave the part and the queue as they are. -/

namespace Sys2Proof.Machine

@[simp] theorem State.tickClock_fixed (s : State) (d : DieId) :
    (State.tickClock s d).fixed = s.fixed := by simp [State.tickClock]

@[simp] theorem State.sleepCheck_fixed (s : State) (d : DieId) :
    (State.sleepCheck s d).fixed = s.fixed := by simp [State.sleepCheck]

@[simp] theorem State.rejoinCheck_fixed (s : State) (d : DieId) :
    (State.rejoinCheck s d).fixed = s.fixed := by simp [State.rejoinCheck]

@[simp] theorem State.tickDie_fixed (s : State) (d : DieId) :
    (State.tickDie s d).fixed = s.fixed := by simp [State.tickDie]

@[simp] theorem tick_fixed (s : State) : (tick s).fixed = s.fixed := by simp [tick]

end Sys2Proof.Machine
end

