-- ==== Sys2Proof/Laws/KMap.lean ====
section
/-! SUPPORT. Finite maps: reading after a change, and that every operation keeps the canonical form (log 20). -/

namespace Sys2Proof.Machine

variable {α β : Type}

/-- Every key of the list is greater than k. -/
def KMap.above (k : Nat) (l : List (Nat × α)) : Prop := ∀ e ∈ l, k < e.1

theorem KMap.sortedList_cons (k : Nat) (v : α) (l : List (Nat × α)) :
    KMap.sortedList ((k, v) :: l) = true ↔ KMap.above k l ∧ KMap.sortedList l = true := by
  induction l generalizing k v with
  | nil => simp [KMap.sortedList, KMap.above]
  | cons e l ih =>
    obtain ⟨j, w⟩ := e
    simp only [KMap.sortedList, Bool.and_eq_true, decide_eq_true_eq]
    constructor
    · rintro ⟨h, hs⟩
      refine ⟨?_, hs⟩
      intro e he
      rcases List.mem_cons.mp he with rfl | he
      · exact h
      · exact Nat.lt_trans h (((ih j w).mp hs).1 e he)
    · rintro ⟨h, hs⟩
      exact ⟨h (j, w) (by simp), hs⟩

theorem KMap.above_filter {k : Nat} {l : List (Nat × α)} (p : Nat × α → Bool) (h : KMap.above k l) :
    KMap.above k (l.filter p) := fun e he => h e (List.mem_filter.mp he).1

theorem KMap.sortedList_filter {l : List (Nat × α)} (p : Nat × α → Bool) (h : KMap.sortedList l = true) :
    KMap.sortedList (l.filter p) = true := by
  induction l with
  | nil => rfl
  | cons e l ih =>
    obtain ⟨k, v⟩ := e
    obtain ⟨ha, hs⟩ := (KMap.sortedList_cons k v l).mp h
    by_cases hp : p (k, v)
    · rw [List.filter_cons_of_pos hp]
      exact (KMap.sortedList_cons k v _).mpr ⟨KMap.above_filter p ha, ih hs⟩
    · rw [List.filter_cons_of_neg hp]; exact ih hs

theorem KMap.sortedList_map {l : List (Nat × α)} (f : Nat → α → β) (h : KMap.sortedList l = true) :
    KMap.sortedList (l.map fun e => (e.1, f e.1 e.2)) = true := by
  induction l with
  | nil => rfl
  | cons e l ih =>
    obtain ⟨k, v⟩ := e
    obtain ⟨ha, hs⟩ := (KMap.sortedList_cons k v l).mp h
    rw [List.map_cons]
    refine (KMap.sortedList_cons _ _ _).mpr ⟨?_, ih hs⟩
    intro e he
    obtain ⟨e', he', rfl⟩ := List.mem_map.mp he
    exact ha e' he'

theorem KMap.above_insertList {j k : Nat} (v : α) {l : List (Nat × α)} (hjk : j < k) (h : KMap.above j l) :
    KMap.above j (KMap.insertList k v l) := by
  induction l with
  | nil => intro e he; simp only [KMap.insertList, List.mem_singleton] at he; subst he; exact hjk
  | cons e l ih =>
    obtain ⟨i, w⟩ := e
    have hi : j < i := h (i, w) (by simp)
    have hl : KMap.above j l := fun e he => h e (by simp [he])
    intro e he
    simp only [KMap.insertList] at he
    split at he
    · rcases List.mem_cons.mp he with rfl | he
      · exact hjk
      · exact h e he
    · split at he
      · rcases List.mem_cons.mp he with rfl | he
        · exact hjk
        · exact hl e he
      · rcases List.mem_cons.mp he with rfl | he
        · exact hi
        · exact ih hl e he

theorem KMap.sortedList_insertList (k : Nat) (v : α) {l : List (Nat × α)} (h : KMap.sortedList l = true) :
    KMap.sortedList (KMap.insertList k v l) = true := by
  induction l with
  | nil => rfl
  | cons e l ih =>
    obtain ⟨j, w⟩ := e
    obtain ⟨ha, hs⟩ := (KMap.sortedList_cons j w l).mp h
    simp only [KMap.insertList]
    split
    · next hk =>
      refine (KMap.sortedList_cons _ _ _).mpr ⟨?_, h⟩
      intro e he
      rcases List.mem_cons.mp he with rfl | he
      · exact hk
      · exact Nat.lt_trans hk (ha e he)
    · split
      · next hk => subst hk; exact (KMap.sortedList_cons _ _ _).mpr ⟨ha, hs⟩
      · next h1 h2 =>
        exact (KMap.sortedList_cons _ _ _).mpr ⟨KMap.above_insertList v (by omega) ha, ih hs⟩

/-! ### The canonical form is kept -/

@[simp] theorem KMap.wf_empty : ({} : KMap α).wf = true := rfl

@[simp] theorem KMap.wf_insert (m : KMap α) (k : Nat) (v : α) (h : m.wf = true) : (m.insert k v).wf = true :=
  KMap.sortedList_insertList k v h

@[simp] theorem KMap.wf_erase (m : KMap α) (k : Nat) (h : m.wf = true) : (m.erase k).wf = true :=
  KMap.sortedList_filter _ h

@[simp] theorem KMap.wf_filter (m : KMap α) (p : Nat → α → Bool) (h : m.wf = true) : (m.filter p).wf = true :=
  KMap.sortedList_filter _ h

@[simp] theorem KMap.wf_mapVals (m : KMap α) (f : Nat → α → β) (h : m.wf = true) : (m.mapVals f).wf = true :=
  KMap.sortedList_map f h

/-! ### Reading after a change -/

theorem KMap.lookupList_insertList_self (k : Nat) (v : α) (l : List (Nat × α)) :
    KMap.lookupList k (KMap.insertList k v l) = some v := by
  induction l with
  | nil => simp [KMap.insertList, KMap.lookupList]
  | cons e l ih =>
    obtain ⟨j, w⟩ := e
    simp only [KMap.insertList]
    split
    · simp [KMap.lookupList]
    · split
      · simp [KMap.lookupList]
      · next h => simp [KMap.lookupList, h, ih]

theorem KMap.lookupList_insertList_ne {j k : Nat} (h : j ≠ k) (v : α) (l : List (Nat × α)) :
    KMap.lookupList j (KMap.insertList k v l) = KMap.lookupList j l := by
  induction l with
  | nil => simp [KMap.insertList, KMap.lookupList, h]
  | cons e l ih =>
    obtain ⟨i, w⟩ := e
    simp only [KMap.insertList]
    split
    · simp [KMap.lookupList, h]
    · split
      · next hk => subst hk; simp [KMap.lookupList, h]
      · simp [KMap.lookupList, ih]

@[simp] theorem KMap.find?_insert_self (m : KMap α) (k : Nat) (v : α) : (m.insert k v).find? k = some v :=
  KMap.lookupList_insertList_self k v m.entries

@[simp] theorem KMap.find?_insert_ne (m : KMap α) {j k : Nat} (v : α) (h : j ≠ k) : (m.insert k v).find? j = m.find? j :=
  KMap.lookupList_insertList_ne h v m.entries

theorem KMap.lookupList_filter_ne {j k : Nat} (l : List (Nat × α)) :
    KMap.lookupList j (l.filter fun e => e.1 != k) = if j = k then none else KMap.lookupList j l := by
  induction l with
  | nil => simp [KMap.lookupList]
  | cons e l ih =>
    obtain ⟨i, w⟩ := e
    by_cases hi : i = k
    · subst hi
      simp only [bne_self_eq_false, Bool.false_eq_true, not_false_eq_true, List.filter_cons_of_neg, ih]
      by_cases hj : j = i <;> simp [KMap.lookupList, hj]
    · have : (i != k) = true := by simp [hi]
      rw [List.filter_cons_of_pos (by simpa using hi)]
      simp only [KMap.lookupList, ih]
      by_cases hj : j = i
      · subst hj; simp [hi]
      · simp [hj]

@[simp] theorem KMap.find?_erase_self (m : KMap α) (k : Nat) : (m.erase k).find? k = none := by
  simp [KMap.erase, KMap.find?, KMap.lookupList_filter_ne]

@[simp] theorem KMap.find?_erase_ne (m : KMap α) {j k : Nat} (h : j ≠ k) : (m.erase k).find? j = m.find? j := by
  simp [KMap.erase, KMap.find?, KMap.lookupList_filter_ne, h]

@[simp] theorem KMap.getD_insert_self (m : KMap α) (k : Nat) (v x : α) : (m.insert k v).getD k x = v := by
  simp [KMap.getD]

@[simp] theorem KMap.getD_insert_ne (m : KMap α) {j k : Nat} (v x : α) (h : j ≠ k) : (m.insert k v).getD j x = m.getD j x := by
  simp [KMap.getD, h]

@[simp] theorem KMap.getD_erase_self (m : KMap α) (k : Nat) (x : α) : (m.erase k).getD k x = x := by simp [KMap.getD]

@[simp] theorem KMap.getD_erase_ne (m : KMap α) {j k : Nat} (x : α) (h : j ≠ k) : (m.erase k).getD j x = m.getD j x := by
  simp [KMap.getD, h]

end Sys2Proof.Machine
end

