-- ==== Sys2Proof/Laws/Report.lean ====
section
/-! SUPPORT. What reporting an event leaves alone: everything but the log, counters and event queue of the die that
raises it, and the flags, counts and messages of the router (16 R500, R501, 19 R548, R563). -/

namespace Sys2Proof.Machine

variable (cs : List ObjDef)

/-! ### Counter objects -/

theorem KMap.filterList_insertList {α : Type} (p : Nat × α → Bool) (k : Nat) (v : α) (hv : p (k, v) = false)
    (hk : ∀ w, p (k, w) = false) (l : List (Nat × α)) :
    (KMap.insertList k v l).filter p = l.filter p := by
  induction l with
  | nil => simp [KMap.insertList, hv]
  | cons e l ih =>
    obtain ⟨j, w⟩ := e
    simp only [KMap.insertList]
    split
    · simp [hv]
    · split
      · next h => subst h; simp [hv, hk]
      · by_cases hp : p (j, w) <;> simp [hp, ih]

theorem KMap.filter_insert {α : Type} (m : KMap α) (p : Nat → Bool) (k : Nat) (v : α) (h : p k = false) :
    (m.insert k v).filter (fun k _ => p k) = m.filter fun k _ => p k := by
  simp only [KMap.filter, KMap.insert]
  rw [KMap.filterList_insertList (fun e : Nat × α => p e.1) k v h fun _ => h]

theorem KMap.filter_erase {α : Type} (m : KMap α) (p : Nat → Bool) (k : Nat) (h : p k = false) :
    (m.erase k).filter (fun k _ => p k) = m.filter fun k _ => p k := by
  simp only [KMap.filter, KMap.erase, List.filter_filter]
  congr 1
  apply List.filter_congr
  intro e _
  by_cases he : e.1 = k
  · simp [he, h]
  · simp [he]

theorem State.putSub_side (s : State) (o : ObjDef) (sub inst : Nat) (v : Int)
    (h : ((Obj.eventLogOverwritten :: cs).map ObjDef.name).contains (objKey o.index sub inst / 256) = true) :
    (s.putSub o sub inst v).side cs = s.side cs := by
  unfold State.putSub
  split
  · simp only [State.side]
    rw [KMap.filter_erase]
    simp only [h, Bool.not_true]
  · simp only [State.side]
    rw [KMap.filter_insert]
    simp only [h, Bool.not_true]

theorem objKey_name (o : ObjDef) (inst : Nat) (h : inst < 256) : objKey o.index o.sub inst / 256 = o.name := by
  simp only [objKey, ObjDef.name]; omega

theorem State.bump_side (s : State) (o : ObjDef) (inst k : Nat) (hi : inst < 256) (h : o = Obj.eventLogOverwritten ∨ o ∈ cs) :
    (s.bump o inst k).side cs = s.side cs := by
  apply State.putSub_side
  rw [objKey_name o inst hi]
  simp only [List.contains_eq_mem, List.mem_map, decide_eq_true_eq]
  exact ⟨o, by simpa using h, rfl⟩

theorem dieInst_lt (d : DieId) : dieInst d < 256 := by have := d.isLt; simp only [dieInst]; omega

@[simp] theorem State.bump_dies (s : State) (o : ObjDef) (inst k : Nat) : (s.bump o inst k).dies = s.dies := by
  simp only [State.bump, State.bumpSub, State.putSub]; split <;> rfl

@[simp] theorem State.bump_die (s : State) (o : ObjDef) (inst k : Nat) (d : DieId) : (s.bump o inst k).die d = s.die d := by
  simp [State.die]

/-! ### Parts of the die -/

@[simp] theorem State.setDie_side (s : State) (d : DieId) (x : Die) : (s.setDie d x).side cs = s.side cs := rfl

@[simp] theorem State.modDie_side (s : State) (d : DieId) (f : Die → Die) : (s.modDie d f).side cs = s.side cs := rfl

@[simp] theorem State.emit_side (s : State) (o : Out) : (s.emit o).side cs = s.side cs := rfl

@[simp] theorem State.vector_side (s : State) (v : Nat) : (s.vector v).side cs = s.side cs := by
  simp only [State.vector]; split <;> rfl

@[simp] theorem State.vector_dies (s : State) (v : Nat) : (s.vector v).dies = s.dies := by
  simp only [State.vector]; split <;> rfl

@[simp] theorem State.evtSend_side (s : State) (n : Nat) : (s.evtSend n).side cs = s.side cs := by
  simp only [State.evtSend]
  (repeat' split) <;> first | rfl | exact State.vector_side cs _ _

@[simp] theorem State.evtSend_dies (s : State) (n : Nat) : (s.evtSend n).dies = s.dies := by
  simp only [State.evtSend]
  (repeat' split) <;> simp

@[simp] theorem State.route_side (s : State) (n : Nat) : (s.route n).side cs = s.side cs := by
  simp only [State.route]
  (repeat' split) <;> first | rfl | exact State.evtSend_side cs _ _

@[simp] theorem State.route_dies (s : State) (n : Nat) : (s.route n).dies = s.dies := by
  simp only [State.route]
  (repeat' split) <;> simp

/-! ### Reporting on a die -/

theorem Reported.refl (d : DieId) (s : State) : Reported cs d s s := ⟨rfl, rfl, fun _ _ => rfl⟩

variable {cs}

theorem Reported.trans {d : DieId} {s t u : State} (h : Reported cs d s t) (k : Reported cs d t u) : Reported cs d s u :=
  ⟨k.1.trans h.1, k.2.1.trans h.2.1, fun e he => (k.2.2 e he).trans (h.2.2 e he)⟩

theorem Reported.foldl {α : Type} {d : DieId} (f : State → α → State) (h : ∀ s x, Reported cs d s (f s x)) (l : List α)
    (s : State) : Reported cs d s (l.foldl f s) := by
  induction l generalizing s with
  | nil => exact Reported.refl cs d s
  | cons x l ih => exact (h s x).trans (ih _)

variable (cs)

theorem State.modObs_reported (s : State) (d : DieId) (f : ObsState → ObsState)
    (h : ∀ o, { f o with cnts := [], log := [], nextSeq := 0, evtOut := [] } =
      { o with cnts := [], log := [], nextSeq := 0, evtOut := [] }) : Reported cs d s (s.modObs d f) := by
  refine ⟨rfl, ?_, fun e he => ?_⟩
  · simp only [State.modObs, State.modDie_die_self, Die.unreported, h]
  · simp [State.modObs, he]

theorem State.bump_reported (s : State) (d : DieId) (o : ObjDef) (inst k : Nat) (hi : inst < 256)
    (h : o = Obj.eventLogOverwritten ∨ o ∈ cs) : Reported cs d s (s.bump o inst k) :=
  ⟨State.bump_side cs s o inst k hi h, by rw [State.bump_die], fun e _ => by rw [State.bump_die]⟩

theorem State.logEvent_reported (s : State) (d : DieId) (src : Nat) (k : EventKind) (data : List (Nat × Int)) :
    Reported cs d s (s.logEvent d src k data) := by
  simp only [State.logEvent]
  split
  · refine Reported.trans ?_ (State.bump_reported cs _ d _ _ _ (dieInst_lt d) (.inl rfl))
    exact State.modObs_reported cs s d _ fun o => rfl
  · exact State.modObs_reported cs s d _ fun o => rfl

theorem State.tally_reported (s : State) (d : DieId) (e k : Nat) : Reported cs d s (s.tally d e k).1 := by
  simp only [State.tally]
  split
  · exact Reported.refl cs d s
  · exact State.modObs_reported cs s d _ fun o => rfl

theorem State.route_reported (s : State) (d : DieId) (n : Nat) : Reported cs d s (s.route n) :=
  ⟨by simp, by simp [State.die], by simp [State.die]⟩

theorem State.raiseFuel_reported (s : State) (fuel : Nat) (d : DieId) (n : Nat) (k : EventKind) (data : List (Nat × Int))
    (h : n ≠ 119 ∨ d = 0) : Reported cs d s (s.raiseFuel fuel d n k data) := by
  induction fuel generalizing s n k data with
  | zero => exact Reported.refl cs d s
  | succ m ih =>
    simp only [State.raiseFuel]
    split
    · exact Reported.refl cs d s
    · have hd : (if n = 119 then 0 else d) = d := by
        rcases h with h | h
        · simp [h]
        · simp [h]
      rw [hd]
      refine Reported.trans (t := (if s.isolated d then s else s.logEvent d (128 * d.val + n) k data)) ?_ ?_
      · split
        · exact Reported.refl cs d s
        · exact State.logEvent_reported cs s d (128 * d.val + n) k data
      · refine Reported.trans ?_ (Reported.foldl _ (fun s i => ih s 48 _ _ (.inl (by decide))) _ _)
        refine Reported.trans ?_ (State.tally_reported cs _ d (256 + n) 1)
        by_cases h0 : d.val = 0
        · rw [if_pos h0]; exact State.route_reported cs ..
        · rw [if_neg h0]; exact State.modObs_reported cs _ d _ fun o => rfl

theorem State.raise_reported (s : State) (d : DieId) (k : EventKind) (data : List (Nat × Int)) (h : k.src ≠ 119 ∨ d = 0) :
    Reported cs d s (s.raise d k data) := State.raiseFuel_reported cs s 18 d k.src k data h

theorem State.raiseHead_reported (s : State) (d : DieId) (h : HeadId) (k : EventKind) (data : List (Nat × Int)) :
    Reported cs d s (s.raiseHead d h k data) :=
  State.raiseFuel_reported cs s 18 d h.val k data (.inl (by have := h.isLt; omega))

theorem State.raiseAct_reported (s : State) (d : DieId) (a : Act) (k : EventKind) (data : List (Nat × Int)) :
    Reported cs d s (s.raiseAct d a k data) :=
  State.raiseFuel_reported cs s 18 d _ k data (.inl (by cases a <;> decide))

theorem State.raiseModule_reported (s : State) (d : DieId) (m : Fin 4) (k : EventKind) (data : List (Nat × Int)) :
    Reported cs d s (s.raiseModule d m k data) :=
  State.raiseFuel_reported cs s 18 d _ k data (.inl (by have := m.isLt; omega))

theorem State.count_reported (s : State) (d : DieId) (e k : Nat) : Reported cs d s (s.count d e k) := by
  simp only [State.count]
  exact (State.tally_reported cs s d e k).trans
    (Reported.foldl (fun s (i : Int) => s.raise d Ev.counterOverflow [(4, i)])
      (fun s i => State.raise_reported cs s d Ev.counterOverflow [(4, i)] (.inl (by decide))) _ _)

/-! ### The record -/

theorem Cnt.count_other (c : Cnt) (e k : Nat) (h : c.event.toNat ≠ e) : c.count e k = (c, false) := by
  simp [Cnt.count, h]

theorem State.tally_other (s : State) (d : DieId) (e k : Nat) (h : ∀ c ∈ (s.die d).obs.cnts, c.event.toNat ≠ e) :
    (s.tally d e k).2 = [] ∧ ((s.tally d e k).1.die d).obs.log = (s.die d).obs.log ∧
      ((s.tally d e k).1.die d).obs.nextSeq = (s.die d).obs.nextSeq := by
  simp only [State.tally]
  split
  · simp
  · have hm : (s.die d).obs.cnts.map (·.count e k) = (s.die d).obs.cnts.map fun c => (c, false) :=
      List.map_congr_left fun c hc => Cnt.count_other c e k (h c hc)
    simp only [hm]
    refine ⟨?_, by simp [State.modObs], by simp [State.modObs]⟩
    rw [List.filter_eq_nil_iff]
    intro i _
    simp only [List.getD_eq_getElem?_getD, List.getElem?_map]
    cases (s.die d).obs.cnts[i]? <;> simp

theorem State.logEvent_obs (s : State) (d : DieId) (src : Nat) (k : EventKind) (data : List (Nat × Int)) :
    ∃ r : EvRec, ((s.logEvent d src k data).die d).obs =
        { (s.die d).obs with log := (r :: (s.die d).obs.log).take 4096, nextSeq := ((s.die d).obs.nextSeq + 1) % 2 ^ 32 } ∧
      r.source = src ∧ r.code = src % 128 * 256 + k.pos ∧ r.severity = k.severity ∧ r.seq = (s.die d).obs.nextSeq := by
  refine ⟨{ time := s.timeNs d, stamp := (s.die d).clock.stamp, source := src, code := src % 128 * 256 + k.pos
            severity := k.severity, coasting := (s.die d).clock.coasting, unaligned := !(s.aligned d)
            seq := (s.die d).obs.nextSeq, data := BitVec.ofNat 64 (packVals data) }, ?_, rfl, rfl, rfl, rfl⟩
  simp only [State.logEvent]
  split
  · rw [State.bump_die]; simp only [State.modObs, State.modDie_die_self]
  · simp only [State.modObs, State.modDie_die_self]

theorem State.raiseFuel_logged (s : State) (fuel : Nat) (d : DieId) (n : Nat) (k : EventKind) (data : List (Nat × Int))
    (h : n ≠ 119 ∨ d = 0) (hn : n < 128) : Logged d n k s (s.raiseFuel (fuel + 1) d n k data) := by
  intro hi hc
  obtain ⟨r, hr, h1, h2, h3, h4⟩ := State.logEvent_obs s d (128 * d.val + n) k data
  refine ⟨r, ?_⟩
  have hd : (if n = 119 then 0 else d) = d := by rcases h with h | h <;> simp [h]
  have hm : (128 * d.val + n) % 128 = n := by omega
  simp only [State.raiseFuel, hi, Bool.false_and, Bool.false_eq_true, if_false, hd]
  have hu : ∃ u : State, (if d.val = 0 then (s.logEvent d (128 * d.val + n) k data).route (128 * d.val + n)
      else (s.logEvent d (128 * d.val + n) k data).modObs d fun o => { o with evtOut := o.evtOut ++ [128 * d.val + n] }) =
      u ∧ (u.die d).obs.cnts = (s.die d).obs.cnts ∧ (u.die d).obs.log = (r :: (s.die d).obs.log).take 4096 ∧
      (u.die d).obs.nextSeq = ((s.die d).obs.nextSeq + 1) % 2 ^ 32 := by
    by_cases h0 : d.val = 0
    · refine ⟨_, if_pos h0, ?_⟩
      have : (((s.logEvent d (128 * d.val + n) k data).route (128 * d.val + n)).die d).obs =
          ((s.logEvent d (128 * d.val + n) k data).die d).obs := by simp only [State.die, State.route_dies]
      rw [this, hr]; exact ⟨rfl, rfl, rfl⟩
    · refine ⟨_, if_neg h0, ?_⟩
      simp only [State.modObs, State.modDie_die_self, hr, and_self]
  obtain ⟨u, hu, u1, u2, u3⟩ := hu
  rw [hu]
  obtain ⟨ht, htl, hts⟩ := State.tally_other u d (256 + n) 1 (by rw [u1]; exact hc)
  rw [ht]
  exact ⟨htl.trans u2, h1, by rw [h2, hm], h3, h4, hts.trans u3⟩

theorem State.raise_logged (s : State) (d : DieId) (k : EventKind) (data : List (Nat × Int)) (h : k.src ≠ 119 ∨ d = 0)
    (hn : k.src < 128) : Logged d k.src k s (s.raise d k data) := State.raiseFuel_logged s 17 d k.src k data h hn

end Sys2Proof.Machine
end

