-- ==== Sys2Proof/Laws/Gives.lean ====
section
/-! SUPPORT. What a command gives: rules to build it up from the operations a meaning is made of. -/

namespace Sys2Proof.Machine

variable {cs : List ObjDef} {d : DieId} {x y : Die} {s t u : State}

theorem Runs.intro {c : Instr} {P : State → Prop} (h : exec c s = .next t) (p : P t) : Runs c s P := ⟨t, h, p⟩

theorem onDie_fitted (f : State → State) (h : s.fitted d = true) : onDie d s f = .next (f s) := by simp [onDie, h]

theorem onDie_unfitted (f : State → State) (h : s.fitted d = false) : onDie d s f = .fault .noSuchDie := by
  simp [onDie, h]

theorem when_true {c : Bool} (f : State → State) (h : c = true) : when c f s = f s := by simp [when, h]

theorem when_false {c : Bool} (f : State → State) (h : c = false) : when c f s = s := by simp [when, h]

theorem Gives.refl : Gives cs d (s.die d) s s := ⟨rfl, rfl, fun _ _ => rfl⟩

/-- Die d replaced. -/
theorem Gives.setDie (h : Gives cs d x s t) : Gives cs d y s (t.setDie d y) :=
  ⟨h.1, by simp, fun e he => by simp [he, h.2.2 e he]⟩

/-- Die d changed by f, which carries dies like x to dies like y. -/
theorem Gives.modDie {f : Die → Die} (h : Gives cs d x s t)
    (k : ∀ z, z.unreported = x.unreported → (f z).unreported = y.unreported) : Gives cs d y s (t.modDie d f) :=
  ⟨h.1, by rw [State.modDie_die_self]; exact k _ h.2.1, fun e he => by simp [he, h.2.2 e he]⟩

/-- Reporting leaves what is given. -/
theorem Gives.reported (h : Gives cs d x s t) (k : Reported cs d t u) : Gives cs d x s u :=
  ⟨k.1.trans h.1, k.2.1.trans h.2.1, fun e he => (k.2.2 e he).trans (h.2.2 e he)⟩

theorem Gives.raise {k : EventKind} {data : List (Nat × Int)} (hk : k.src ≠ 119 ∨ d = 0) (h : Gives cs d x s t) :
    Gives cs d x s (t.raise d k data) := h.reported (State.raise_reported cs t d k data hk)

theorem Gives.raiseHead {k : EventKind} {data : List (Nat × Int)} {n : HeadId} (h : Gives cs d x s t) :
    Gives cs d x s (t.raiseHead d n k data) := h.reported (State.raiseHead_reported cs t d n k data)

theorem Gives.raiseAct {k : EventKind} {data : List (Nat × Int)} {a : Act} (h : Gives cs d x s t) :
    Gives cs d x s (t.raiseAct d a k data) := h.reported (State.raiseAct_reported cs t d a k data)

theorem Gives.count {e k : Nat} (h : Gives cs d x s t) : Gives cs d x s (t.count d e k) :=
  h.reported (State.count_reported cs t d e k)

theorem Gives.emit {o : Out} (h : Gives cs d x s t) : Gives cs d x s (t.emit o) := ⟨h.1, h.2.1, h.2.2⟩

theorem Gives.bump {o : ObjDef} {inst k : Nat} (ho : o ∈ cs) (hi : inst < 256) (h : Gives cs d x s t) :
    Gives cs d x s (t.bump o inst k) := h.reported (State.bump_reported cs t d o inst k hi (.inr ho))

theorem Gives.calRecheck (h : Gives cs d x s t) :
    Gives cs d { x with calRuns := ((t.calRecheck d).die d).calRuns } s (t.calRecheck d) := by
  refine ⟨h.1, ?_, fun e he => by simp [State.calRecheck, he, h.2.2 e he]⟩
  have := congrArg (fun z : Die => { z with calRuns := ((t.calRecheck d).die d).calRuns }) h.2.1
  simpa [State.calRecheck, Die.unreported] using this

/-- What is logged depends on the die's life and log alone. -/
theorem Logged.congr {n : Nat} {k : EventKind} {s' t' : State} (h : Logged d n k s' t')
    (hl : (s'.die d).life = (s.die d).life) (ho : (s'.die d).obs = (s.die d).obs)
    (ht : (t.die d).obs = (t'.die d).obs) : Logged d n k s t := by
  intro hi hc
  rw [ht, ← ho]
  exact h (by simpa [State.isolated, hl] using hi) (by rw [ho]; exact hc)

theorem State.raise_logs (u : State) (k : EventKind) (data : List (Nat × Int)) (h : k.src ≠ 119 ∨ d = 0)
    (hn : k.src < 128) (hl : (u.die d).life = (s.die d).life) (ho : (u.die d).obs = (s.die d).obs)
    (ht : (t.die d).obs = ((u.raise d k data).die d).obs) : Logged d k.src k s t :=
  (State.raise_logged u d k data h hn).congr hl ho ht

theorem State.setDie_setDie (s : State) (d : DieId) (x y : Die) : (s.setDie d x).setDie d y = s.setDie d y := by
  simp [State.setDie]

theorem State.setDie_die (s : State) (d : DieId) : s.setDie d (s.die d) = s := by simp [State.setDie, State.die]

/-- Changing heads one after the other leaves everything but the die's heads. -/
theorem State.foldl_modHead (d : DieId) (f : Head → Head) (l : List HeadId) (s : State) :
    ∃ v, l.foldl (fun s h => s.modHead d h f) s = s.setDie d { s.die d with heads := v } := by
  induction l generalizing s with
  | nil => exact ⟨(s.die d).heads, (State.setDie_die s d).symm⟩
  | cons h l ih =>
    obtain ⟨v, hv⟩ := ih (s.modHead d h f)
    refine ⟨v, ?_⟩
    rw [List.foldl_cons, hv]
    simp [State.modHead, State.modDie, State.setDie_setDie, Die.modHead, Die.setHead]

theorem Gives.foldl_modHead {f : Head → Head} (l : List HeadId) (h : Gives cs d x s t) :
    Gives cs d { x with heads := ((l.foldl (fun s n => s.modHead d n f) t).die d).heads } s
      (l.foldl (fun s n => s.modHead d n f) t) := by
  obtain ⟨v, hv⟩ := State.foldl_modHead d f l t
  rw [hv]
  refine ⟨h.1, ?_, fun e he => by simp [he, h.2.2 e he]⟩
  have := congrArg (fun z : Die => { z with heads := v }) h.2.1
  simpa [Die.unreported] using this

theorem Gives.modClock {f : AngleClock → AngleClock} (h : Gives cs d x s t) :
    Gives cs d { x with clock := f x.clock } s (t.modClock d f) :=
  h.modDie fun z hz => by
    have h1 : z.clock = x.clock := congrArg Die.clock (a₁ := z.unreported) (a₂ := x.unreported) hz
    have := congrArg (fun y : Die => { y with clock := f x.clock }) hz
    simpa [Die.unreported, h1] using this

theorem Gives.modSpin {f : Spindle → Spindle} (h : Gives cs d x s t) :
    Gives cs d { x with spin := f x.spin } s (t.modSpin d f) :=
  h.modDie fun z hz => by
    have h1 : z.spin = x.spin := congrArg Die.spin (a₁ := z.unreported) (a₂ := x.unreported) hz
    have := congrArg (fun y : Die => { y with spin := f x.spin }) hz
    simpa [Die.unreported, h1] using this

theorem Gives.within (h : Gives cs d x s t) : Within cs d s t := ⟨h.1, h.2.2⟩

end Sys2Proof.Machine
end

/-! PROOFS. The arming of an angle event far ahead of the clock (02 R65 to R67). -/

namespace Sys2Proof.Machine

/-- R66: only a stamp that lies less than the lead ahead is deferred. -/
theorem defer_of_lead_le {cur stamp : BitVec 48} {lead : Nat} (h : (lead : Int) ≤ stampDiff stamp cur) :
    defer cur stamp lead = stamp := by
  have hshort : (lead : Int) - stampDiff stamp cur ≤ 0 := by omega
  simp [defer, hshort]

/-- R67: an absolute stamp too far ahead is not deferred, so the bound sees it as it was asked for, and the owner gets
the event back whatever its class and whatever the lock state. -/
theorem State.armEvent_absolute_far (s : State) (d : DieId) (cls : AngleClass) (owner : AngleOwner) {r : BitVec 48}
    (hfar : 2 ^ 40 < stampDiff r (s.die d).clock.stamp) :
    s.armEvent d cls owner (.absolute r) = s.modClock d fun c => { c with cancelled := owner :: c.cancelled } := by
  have hlead : (minLead : Int) ≤ stampDiff r (s.die d).clock.stamp := by simp only [minLead]; omega
  have hstamp := defer_of_lead_le hlead
  simp only [State.armEvent, hstamp, hfar, decide_true, Bool.or_true, if_true]

/-- R65: the command arms the event on a fitted die. -/
theorem exec_angleEventArm {s : State} {d : DieId} (hd : s.fitted d = true) (cls : AngleClass) (owner : AngleOwner)
    (form : AngleForm) : exec (.angleEventArm d cls owner form) s = .next (s.armEvent d cls owner form) :=
  onDie_fitted (·.armEvent d cls owner form) hd

/-- Settles O7: a stamp beyond the bound is past the lead as well, so it reaches the refusal undeferred. -/
theorem farEventIsRefused : Obligations.FarEventIsRefused := by
  intro s d cls owner r hd x hfar
  have hbound : 2 ^ 40 < stampDiff r (s.die d).clock.stamp := hfar
  rw [exec_angleEventArm hd, State.armEvent_absolute_far s d cls owner hbound, State.modClock_eq]
  rfl

/-- The bound of R67 is met at its edge: after reset, a stamp one au past 2^16 revolutions goes back to its owner,
though no lock is asked of a paced event. -/
theorem reset_refuses_event_past_bound :
    exec (.angleEventArm 0 .paced (.servoWindow 0) (.absolute (2 ^ 40 + 1))) State.reset =
      .next (State.reset.setDie 0 { State.reset.die 0 with
        clock := { (State.reset.die 0).clock with
          cancelled := .servoWindow 0 :: (State.reset.die 0).clock.cancelled } }) :=
  farEventIsRefused State.reset 0 .paced (.servoWindow 0) (2 ^ 40 + 1) (by decide) (by decide)

end Sys2Proof.Machine

/-! PROOFS. The end of a calibration at its deadline (08 R243, R246, R247). -/

namespace Sys2Proof.Machine

/-! ### Stored objects -/

theorem KMap.lookupList_filter {α : Type} {p : Nat → Bool} {k : Nat} (hk : p k = true) (l : List (Nat × α)) :
    KMap.lookupList k (l.filter fun e => p e.1) = KMap.lookupList k l := by
  induction l with
  | nil => rfl
  | cons e l ih =>
    obtain ⟨j, v⟩ := e
    by_cases hj : p j = true
    · simp [hj, KMap.lookupList, ih]
    · have hne : k ≠ j := fun h => hj (h ▸ hk)
      simp [hj, KMap.lookupList, ih, hne]

/-- A key that the filter lets through reads as before. -/
theorem KMap.find?_filter_of_pos {α : Type} {p : Nat → Bool} {k : Nat} (hk : p k = true) (m : KMap α) :
    (m.filter fun k _ => p k).find? k = m.find? k := KMap.lookupList_filter hk m.entries

/-- What reporting may touch holds no other object's stored value. -/
theorem State.find?_of_side_eq {cs : List ObjDef} {s t : State} {k : Nat} (h : t.side cs = s.side cs)
    (hk : ∀ o ∈ Obj.eventLogOverwritten :: cs, k / 256 ≠ o.name) : t.objs.find? k = s.objs.find? k := by
  have hpass : (!((Obj.eventLogOverwritten :: cs).map ObjDef.name).contains (k / 256)) = true := by
    simp only [List.contains_eq_mem, Bool.not_eq_true', decide_eq_false_iff_not, List.mem_map, not_exists, not_and]
    exact fun o ho h => hk o ho h.symm
  have hobjs := congrArg (fun u : State => u.objs.find? k) h
  simp only [State.side] at hobjs
  rwa [KMap.find?_filter_of_pos hpass, KMap.find?_filter_of_pos hpass] at hobjs

theorem State.saved_of_side_eq {cs : List ObjDef} {s t : State} (h : t.side cs = s.side cs) : t.saved = s.saved := by
  simpa [State.side] using congrArg State.saved h

/-- Reporting touches the record alone of its die. -/
theorem Die.eq_of_unreported_eq {x y : Die} (h : x.unreported = y.unreported) : x = { y with obs := x.obs } := by
  simpa [Die.unreported] using congrArg (fun z : Die => { z with obs := x.obs }) h

theorem State.getSub_putSub_self (s : State) (o : ObjDef) (sub inst : Nat) (v : Int) :
    (s.putSub o sub inst v).getSub o sub inst = v := by
  by_cases hv : v = o.default sub <;> simp [State.putSub, State.getSub, hv]

theorem State.putSub_find?_ne (s : State) (o : ObjDef) (sub inst : Nat) (v : Int) {k : Nat}
    (hk : k ≠ objKey o.index sub inst) : (s.putSub o sub inst v).objs.find? k = s.objs.find? k := by
  by_cases hv : v = o.default sub <;> simp [State.putSub, hv, hk]

theorem State.get_congr {s t : State} {o : ObjDef} {inst : Nat}
    (h : t.objs.find? (objKey o.index o.sub inst) = s.objs.find? (objKey o.index o.sub inst)) :
    t.get o inst = s.get o inst := by
  simp [State.get, State.getSub, KMap.getD, h]

/-! ### What raising an event leaves -/

theorem State.raise_find? (s : State) (d : DieId) (k : EventKind) (data : List (Nat × Int)) {i : Nat}
    (hk : k.src ≠ 119 ∨ d = 0) (hi : i / 256 ≠ Obj.eventLogOverwritten.name) :
    (s.raise d k data).objs.find? i = s.objs.find? i := by
  obtain ⟨hside, -, -⟩ := State.raise_reported [] s d k data hk
  exact State.find?_of_side_eq hside (by simpa using hi)

theorem State.raise_get (s : State) (d : DieId) (k : EventKind) (data : List (Nat × Int)) {o : ObjDef} {inst : Nat}
    (hk : k.src ≠ 119 ∨ d = 0) (ho : o.name ≠ Obj.eventLogOverwritten.name) (hi : inst < 256) :
    (s.raise d k data).get o inst = s.get o inst :=
  State.get_congr (State.raise_find? s d k data hk (by rwa [objKey_name o inst hi]))

theorem State.raise_saved (s : State) (d : DieId) (k : EventKind) (data : List (Nat × Int))
    (hk : k.src ≠ 119 ∨ d = 0) : (s.raise d k data).saved = s.saved :=
  State.saved_of_side_eq (State.raise_reported [] s d k data hk).1

theorem State.raise_die_self (s : State) (d : DieId) (k : EventKind) (data : List (Nat × Int))
    (hk : k.src ≠ 119 ∨ d = 0) :
    (s.raise d k data).die d = { s.die d with obs := ((s.raise d k data).die d).obs } :=
  Die.eq_of_unreported_eq (State.raise_reported [] s d k data hk).2.1

theorem State.raise_die_ne (s : State) {d e : DieId} (k : EventKind) (data : List (Nat × Int))
    (hk : k.src ≠ 119 ∨ d = 0) (he : e ≠ d) : (s.raise d k data).die e = s.die e :=
  (State.raise_reported [] s d k data hk).2.2 e he

/-! ### The record an event leaves in the log -/

/-- The record of an occurrence (19 R563). -/
def State.eventRecord (s : State) (d : DieId) (src : Nat) (k : EventKind) (data : List (Nat × Int)) : EvRec where
  time := s.timeNs d
  stamp := (s.die d).clock.stamp
  source := src
  code := src % 128 * 256 + k.pos
  severity := k.severity
  coasting := (s.die d).clock.coasting
  unaligned := !(s.aligned d)
  seq := (s.die d).obs.nextSeq
  data := BitVec.ofNat 64 (packVals data)

theorem State.logEvent_cnts_log (s : State) (d : DieId) (src : Nat) (k : EventKind) (data : List (Nat × Int)) :
    ((s.logEvent d src k data).die d).obs.cnts = (s.die d).obs.cnts ∧
    ((s.logEvent d src k data).die d).obs.log = (s.eventRecord d src k data :: (s.die d).obs.log).take 4096 := by
  simp only [State.logEvent]
  split <;> simp [State.modObs, State.eventRecord]

/-- R500, R563: a source's event stands first in the log of its die, when no counter that counts it can add a record of
its own (R550). -/
theorem State.raise_log (s : State) (d : DieId) (k : EventKind) (data : List (Nat × Int)) (hsrc : k.src ≠ 119)
    (hi : s.isolated d = false) (hc : ∀ c ∈ (s.die d).obs.cnts, c.event.toNat ≠ 256 + k.src) :
    ((s.raise d k data).die d).obs.log =
      (s.eventRecord d (128 * d.val + k.src) k data :: (s.die d).obs.log).take 4096 := by
  obtain ⟨hcnts, hlog⟩ := State.logEvent_cnts_log s d (128 * d.val + k.src) k data
  simp only [State.raise, State.raiseFuel, hi, hsrc, Bool.false_and, Bool.false_eq_true, if_false]
  generalize hu : (if d.val = 0 then _ else _ : State) = u
  have hobs : (u.die d).obs.cnts = (s.die d).obs.cnts ∧
      (u.die d).obs.log = (s.eventRecord d (128 * d.val + k.src) k data :: (s.die d).obs.log).take 4096 := by
    subst hu
    split
    · simpa [State.die] using And.intro hcnts hlog
    · simpa [State.modObs] using And.intro hcnts hlog
  obtain ⟨hucnts, hulog⟩ := hobs
  obtain ⟨hnone, htally, -⟩ := State.tally_other u d (256 + k.src) 1 (hucnts ▸ hc)
  rw [hnone]
  exact htally.trans hulog

/-! ### Reports of ended calibrations -/

/-- t is s but for CAL_RESULT and DOMAIN values, as writing reports leaves it: no die, no saved value and no other
object differs. -/
structure CalReported (s t : State) : Prop where
  dies : t.dies = s.dies
  saved : t.saved = s.saved
  objs : ∀ k, k / 256 ≠ Obj.calResult.name → t.objs.find? k = s.objs.find? k

theorem CalReported.refl (s : State) : CalReported s s := ⟨rfl, rfl, fun _ _ => rfl⟩

theorem CalReported.trans {s t u : State} (h : CalReported s t) (k : CalReported t u) : CalReported s u :=
  ⟨k.dies.trans h.dies, k.saved.trans h.saved, fun i hi => (k.objs i hi).trans (h.objs i hi)⟩

theorem CalReported.die {s t : State} (h : CalReported s t) (d : DieId) : t.die d = s.die d := by
  simp [State.die, h.dies]

theorem State.calReport_reported (s : State) {inst : Nat} (kind code seq revs : Nat) (before after : BitVec 64)
    (hi : inst < 256) : CalReported s (s.calReport inst kind code seq revs before after) where
  dies := by simp [State.calReport, State.put_eq]
  saved := by simp [State.calReport, State.put_eq]
  objs k hk := State.putSub_find?_ne _ _ _ _ _ fun h => hk (h ▸ objKey_name Obj.calResult inst hi)

/-- R246: CAL_RESULT holds the code reported last. -/
theorem State.calReport_result (s : State) (inst kind code seq revs : Nat) (before after : BitVec 64) :
    (s.calReport inst kind code seq revs before after).get Obj.calResult inst = code :=
  State.getSub_putSub_self _ _ _ _ _

theorem State.calReport_result_ne (s : State) {inst j : Nat} (kind code seq revs : Nat) (before after : BitVec 64)
    (h : j ≠ inst) :
    (s.calReport inst kind code seq revs before after).get Obj.calResult j = s.get Obj.calResult j :=
  State.get_congr (State.putSub_find?_ne _ _ _ _ _ (by simp only [objKey]; omega))

/-- The instances reported one after the other, each with the same code, hold that code. -/
theorem State.foldl_calReport {α : Type} (inst : α → Nat) (kind code seq revs : Nat) (before : α → BitVec 64)
    (after : State → α → BitVec 64) (hi : ∀ a, inst a < 256) (l : List α) (s : State) :
    let t := l.foldl (fun s a => s.calReport (inst a) kind code seq revs (before a) (after s a)) s
    CalReported s t ∧ ∀ j, (s.get Obj.calResult j = code ∨ j ∈ l.map inst) → t.get Obj.calResult j = code := by
  induction l generalizing s with
  | nil => exact ⟨CalReported.refl s, fun j hj => by simpa using hj⟩
  | cons a l ih =>
    obtain ⟨hrest, hcodes⟩ := ih (s.calReport (inst a) kind code seq revs (before a) (after s a))
    refine ⟨(s.calReport_reported kind code seq revs (before a) (after s a) (hi a)).trans hrest, fun j hj => hcodes j ?_⟩
    by_cases hja : j = inst a
    · exact .inl (hja ▸ State.calReport_result ..)
    · rw [State.calReport_result_ne _ _ _ _ _ _ _ hja]
      simpa [hja] using hj

/-! ### The end of a run -/

theorem headInst_lt (d : DieId) (h : HeadId) : headInst d h < 256 := by
  have := d.isLt; have := h.isLt; simp only [headInst]; omega

theorem headInst_mod (d : DieId) (h : HeadId) : headInst d h % 32 < 24 := by
  have := h.isLt; simp only [headInst]; omega

theorem calInst_lt (sel : CalSel) : calInst sel < 256 := by
  cases sel with
  | head d h => exact headInst_lt d h
  | act d a => have := d.isLt; cases a <;> simp only [calInst, actInst] <;> omega
  | die d => exact dieInst_lt d

/-- The die after a run of the kind has ended at the selector's byte with the code. -/
def Die.calEnded (inst kind code : Nat) (x : Die) : Die :=
  { x with
    calRuns := x.calRuns.erase inst
    calFailed := x.calFailed || code == 2 || code == 7 || code == 8
    holdupTest := if kind = 9 then false else x.holdupTest
    data := if kind = 9 then { x.data with vEnd := none } else x.data }

/-- A run of a head kind on an actuator, which ends head by head (R247). -/
def CalRun.byHead (r : CalRun) (inst : Nat) : Bool := headKind r.kind.toNat && decide (24 ≤ inst % 32)

/-- R246, R247: the end of a run writes reports, then takes the run from its die. The code is the whole run's, or each
head's that has not ended. -/
theorem State.calEnd_reports {s : State} {d : DieId} {inst : Nat} {r : CalRun} (code seq : Nat) (hi : inst < 256)
    (hr : (s.die d).calRuns.find? inst = some r) :
    ∃ u, s.calEnd d inst code seq = u.modDie d (Die.calEnded inst r.kind.toNat code) ∧ CalReported s u ∧
      (r.byHead inst = false → u.get Obj.calResult inst = code) ∧
      (r.byHead inst = true → ∀ h ∈ r.heads, (∀ e ∈ r.outcomes, e.1 ≠ h) →
        u.get Obj.calResult (headInst d h) = code) := by
  unfold State.calEnd
  rw [hr]
  refine ⟨_, rfl, ?_⟩
  cases hact : r.byHead inst with
  | false =>
    have hcond : (headKind r.kind.toNat && decide (24 ≤ inst % 32)) = false := hact
    simp only [hcond, Bool.false_eq_true, if_false]
    exact ⟨State.calReport_reported _ _ _ _ _ _ _ hi, fun _ => State.calReport_result .., fun h => absurd h (by decide)⟩
  | true =>
    have hcond : (headKind r.kind.toNat && decide (24 ≤ inst % 32)) = true := hact
    have hinst : 24 ≤ inst % 32 := by simpa using (Bool.and_eq_true_iff.mp hcond).2
    simp only [hcond, if_true]
    obtain ⟨hheads, hcodes⟩ := State.foldl_calReport (headInst d) r.kind.toNat code seq
      (((s.die d).clock.rev + 16777216 - r.startRev) % 16777216) (fun h => r.before.getD (headInst d h) 0)
      (fun s h => s.quality d h) (headInst_lt d) (r.heads.filter fun h => !(r.outcomes.any fun e => e.1 == h)) s
    refine ⟨hheads.trans (State.calReport_reported _ _ _ _ _ _ _ hi), fun h => absurd h (by decide), fun _ h hh hout => ?_⟩
    have hne : headInst d h ≠ inst := fun heq => by have := headInst_mod d h; omega
    rw [State.calReport_result_ne _ _ _ _ _ _ _ hne]
    exact hcodes _ (.inr (List.mem_map_of_mem (List.mem_filter.mpr ⟨hh, by simpa using hout⟩)))

/-! ### The time-out -/

/-- The die after a run of the kind has timed out at the selector's byte, but for the event. -/
def Die.calTimedOut (inst kind : Nat) (x : Die) : Die := { x.calEnded inst kind 3 with calTimeout := true }

/-- What a die holds once the event is raised: the run is gone, and what is in force is as it was. -/
theorem Die.calTimedOut_keeps {inst kind : Nat} {x y : Die}
    (h : y = { x.calTimedOut inst kind with obs := y.obs }) :
    y.calRuns = x.calRuns.erase inst ∧ y.calTimeout = true ∧ y.heads = x.heads ∧ y.actA = x.actA ∧
      y.actB = x.actB ∧ y.spin = x.spin ∧ y.clock = x.clock ∧ y.calRecords = x.calRecords := by
  rw [h]
  exact ⟨rfl, rfl, rfl, rfl, rfl, rfl, rfl, rfl⟩

/-- What CAL_TIMEOUT carries. -/
def calTimeoutData (inst kind : Nat) : List (Nat × Int) := [(1, (kind : Int)), (1, (inst : Int))]

theorem packVals_calTimeoutData (kind : Nat) {inst : Nat} (hi : inst < 256) :
    packVals (calTimeoutData inst kind) = kind % 256 + 256 * inst := by
  simp only [calTimeoutData, packVals]; omega

/-- R243: once its deadline has passed the run ends with code 3, and the die raises CAL_TIMEOUT. -/
theorem exec_calTimeout_of_passed {s : State} {sel : CalSel} {r : CalRun} (hd : s.fitted (selDie sel) = true)
    (hr : (s.die (selDie sel)).calRuns.find? (calInst sel) = some r)
    (hlate : s.getSub Obj.calDeadline r.kind.toNat (dieInst (selDie sel)) ≤
      (((s.die (selDie sel)).clock.rev + 16777216 - r.startRev) % 16777216 : Nat)) :
    exec (.calTimeout sel) s = .next
      (((s.calEnd (selDie sel) (calInst sel) 3 0).modDie (selDie sel) fun x => { x with calTimeout := true }).raise
        (selDie sel) Ev.calTimeout (calTimeoutData (calInst sel) r.kind.toNat)) := by
  change execCalTimeout sel s = _
  rw [execCalTimeout, onDie_fitted _ hd]
  simp only [hr, hlate, if_true, calTimeoutData]

theorem State.calEnd_timeout {s u : State} {d : DieId} {inst kind : Nat}
    (h : s.calEnd d inst 3 0 = u.modDie d (Die.calEnded inst kind 3)) :
    ((s.calEnd d inst 3 0).modDie d fun x => { x with calTimeout := true }) = u.modDie d (Die.calTimedOut inst kind) := by
  rw [h]; simp [State.modDie, State.setDie_setDie, Die.calTimedOut]

/-- Settles O24: the reports and the taking of the run keep all that is in force, and so does raising the event, whose
record is the newest of the log. -/
theorem calibrationTimeoutKeepsValues : Obligations.CalibrationTimeoutKeepsValues := by
  intro s sel r d i x hd hr hlate
  have hi : i < 256 := calInst_lt sel
  have hsrc : Ev.calTimeout.src ≠ 119 ∨ d = 0 := .inl (by decide)
  obtain ⟨u, hend, hrep, hwhole, hheads⟩ := State.calEnd_reports 3 0 hi hr
  have hexec := exec_calTimeout_of_passed hd hr hlate
  rw [State.calEnd_timeout hend] at hexec
  refine Runs.intro hexec ?_
  set v := u.modDie d (Die.calTimedOut i r.kind.toNat) with hv
  have hvdie : v.die d = x.calTimedOut i r.kind.toNat := by rw [hv, State.modDie_die_self, hrep.die]
  have hcode : ∀ j < 256, (v.raise d Ev.calTimeout (calTimeoutData i r.kind.toNat)).get Obj.calResult j =
      u.get Obj.calResult j := fun j hj => v.raise_get d _ _ hsrc (by decide) hj
  have hdie := v.raise_die_self d _ (calTimeoutData i r.kind.toNat) hsrc
  rw [hvdie] at hdie
  obtain ⟨hruns, hraised, hkept⟩ := Die.calTimedOut_keeps hdie
  obtain ⟨hheadsKept, hactA, hactB, hspin, hclock, hrecords⟩ := hkept
  refine ⟨?_, hraised, fun hb => (hcode i hi).trans (hwhole hb),
    fun hb h hh hout => (hcode _ (headInst_lt d h)).trans (hheads hb h hh hout), hheadsKept, hactA, hactB, hspin,
    hclock, hrecords, (v.raise_saved d _ _ hsrc).trans hrep.saved, fun e he => ?_,
    fun k hres hlog => (v.raise_find? d _ _ hsrc hlog).trans (hrep.objs k hres), fun hiso hcnts => ?_⟩
  · rw [hruns, KMap.find?_erase_self]
  · rw [v.raise_die_ne _ _ hsrc he, hv, State.modDie_die_ne _ _ _ _ he, hrep.die]
  · have hviso : v.isolated d = false := by simpa [State.isolated, hvdie, Die.calTimedOut, Die.calEnded] using hiso
    have hlog := v.raise_log d Ev.calTimeout (calTimeoutData i r.kind.toNat) (by decide) hviso (by rw [hvdie]; exact hcnts)
    rw [hvdie] at hlog
    refine ⟨_, hlog, ?_, congrArg (BitVec.ofNat 64) (packVals_calTimeoutData _ hi)⟩
    simp only [State.eventRecord, Ev.calTimeout]
    omega

/-! ### A run at its deadline -/

/-- A head calibration of actuator A that started 1,600 revolutions, its deadline, before the clock's count 0: head 3 has
ended, head 2 has not. -/
def lateRun : CalRun := ⟨1, 16777216 - 1600, false, [2, 3], [(3, 0)], {}, [], none⟩

/-- The block after reset, but with that run on die 0. -/
def lateCalibration : State :=
  State.reset.modDie 0 fun x => { x with calRuns := ({} : KMap CalRun).insert 24 lateRun }

/-- The deadline of R243 is met at its edge: the run has ended, the head that had not ended has TIMEOUT, and
the log names kind 1 and the selector's byte 24. -/
theorem lateCalibration_times_out : Runs (.calTimeout (.act 0 .A)) lateCalibration fun t =>
    (t.die 0).calRuns.find? 24 = none ∧ (t.die 0).calTimeout = true ∧ t.get Obj.calResult 2 = 3 ∧
      ∃ v ∈ (t.die 0).obs.log, v.data = 1 + 256 * 24 := by
  have hrun : (lateCalibration.die 0).calRuns.find? 24 = some lateRun := by
    rw [lateCalibration, State.modDie_die_self, KMap.find?_insert_self]
  have hlate : lateCalibration.getSub Obj.calDeadline lateRun.kind.toNat (dieInst 0) ≤
      (((lateCalibration.die 0).clock.rev + 16777216 - lateRun.startRev) % 16777216 : Nat) := by
    rw [lateCalibration, State.modDie_die_self]
    decide
  obtain ⟨t, hexec, hended, hraised, -, hheads, -, -, -, -, -, -, -, -, -, hlogged⟩ :=
    calibrationTimeoutKeepsValues lateCalibration (.act 0 .A) lateRun (by decide) hrun hlate
  obtain ⟨v, hlog, -, hdata⟩ := hlogged (by decide) (by decide)
  exact ⟨t, hexec, hended, hraised, hheads (by decide) 2 (by decide) (by simp [lateRun]), v,
    (congrArg (v ∈ ·) hlog).mpr (by simp), hdata⟩

end Sys2Proof.Machine

/-! PROOFS. The raw rule at the end of a compression job (10 R306, R313 to R316). -/

namespace Sys2Proof.Machine

/-! ### The husk of a job -/

/-- The output of the encoder for a compression job, under the effort fixed at its start (R306, R308). -/
def Job.output (j : Job) : List Byte := Config.deflate j.depth j.lzy j.nice j.input

/-- The husk a compression job ends with in a zone of that key domain: raw when the output runs out of the chain (R316),
and not placed yet. -/
def Job.husk (j : Job) (keyDomain : Nat) : Husk :=
  let raw := decide (j.chain < j.output.length)
  { zone := j.zone, offset := j.offset, raw, keyDomain, short := j.short
    logicalLen := j.input.length, storedLen := if raw then j.input.length else j.output.length
    dataCrc := BitVec.ofNat 32 (crc32c j.input), seq := 0, start := 0, stored := if raw then j.input else j.output
    logical := j.input, clean := j.clean }

section
variable (j : Job) (k : Nat)

@[simp] theorem Job.husk_logicalLen : (j.husk k).logicalLen = j.input.length := rfl
@[simp] theorem Job.husk_dataCrc : (j.husk k).dataCrc = BitVec.ofNat 32 (crc32c j.input) := rfl

/-- R316: the output runs out of the chain, or it fits. -/
theorem Job.husk_raw_eq_false_iff : (j.husk k).raw = false ↔ j.output.length ≤ j.chain := by simp [Job.husk]

variable {j k}

theorem Job.husk_of_raw (h : (j.husk k).raw = true) :
    (j.husk k).stored = j.input ∧ (j.husk k).storedLen = j.input.length := by
  have hraw : j.chain < j.output.length := of_decide_eq_true h
  simp [Job.husk, hraw]

theorem Job.husk_of_not_raw (h : (j.husk k).raw = false) :
    (j.husk k).stored = j.output ∧ (j.husk k).storedLen = j.output.length := by
  have hraw : ¬ j.chain < j.output.length := of_decide_eq_false h
  simp [Job.husk, hraw]

/-! ### The end of a job -/

/-- Counting an occurrence touches none of the die's data. -/
theorem State.count_data (s : State) (d : DieId) (e n : Nat) : ((s.count d e n).die d).data = (s.die d).data :=
  congrArg Die.data (a₁ := ((s.count d e n).die d).unreported) (a₂ := (s.die d).unreported)
    (State.count_reported [] s d e n).2.1

/-- R309, R317: the lane's job adds its husk to those that wait for their places; what it counts leaves them alone. -/
theorem runs_compressJobEnd {s : State} {d : DieId} {lane : Fin 16} (hd : s.fitted d = true)
    (hl : (s.die d).data.lanes.getD lane.val none = some j) (hc : j.decomp = false) :
    Runs (.compressJobEnd d lane) s fun t => (t.die d).data.finished =
      (s.die d).data.finished ++ [j.husk (s.zone d j.zone).desc.content.keyDomain] := by
  have hexec : exec (.compressJobEnd d lane) s = execCompressJobEnd d lane s := rfl
  rw [execCompressJobEnd, onDie_fitted _ hd] at hexec
  refine Runs.intro hexec ?_
  simp only [hl, hc, Bool.false_eq_true, if_false, State.count_data, apply_ite (fun u : State => (u.die d).data),
    State.bump_die, ite_self, State.modData_eq, State.modDie_die_self]
  rfl

end

/-- Settles O27: the chain leaves 64 bytes of the input's length, so an output that fits it is shorter by as much, and
with nothing cut off the chain only such an output fits it. -/
theorem huskIsRawUnlessShorter : Obligations.HuskIsRawUnlessShorter := by
  intro s d lane j hd hl hc hchain out
  obtain ⟨t, hexec, hfin⟩ := runs_compressJobEnd hd hl hc
  refine Runs.intro hexec ⟨_, hfin, j.husk_logicalLen _, j.husk_dataCrc _, fun hdeflate => ?_, Job.husk_of_raw, fun hfull => ?_⟩
  · have hfits := (j.husk_raw_eq_false_iff _).mp hdeflate
    obtain ⟨hstored, hlen⟩ := Job.husk_of_not_raw hdeflate
    refine ⟨?_, hstored, hlen⟩
    rw [hlen, Job.husk_logicalLen]
    omega
  · rw [Job.husk_raw_eq_false_iff]
    change out.length ≤ j.chain ↔ _
    omega

/-! ### A job at the edge of the rule -/

/-- One block of zero bytes in compression, with all of its chain (R315). -/
def fullChainJob : Job :=
  { decomp := false, zone := 0, offset := 0, input := List.replicate 4096 0, short := true, chain := 4032
    shortChain := false, unit := 0, clean := [], depth := 32, lzy := true, nice := 258 }

/-- The block after reset, but with that job on lane 15 of die 0. -/
def compressing : State :=
  State.reset.modDie 0 fun x => { x with data := { x.data with lanes := x.data.lanes.set 15 (some fullChainJob) } }

/-- The raw rule is met at its edge: with a chain of 64 bytes less than its block, the job leaves one husk, DEFLATE if
and only if its output has at most 4,032 bytes. -/
theorem compressing_leaves_deflate_iff : Runs (.compressJobEnd 0 15) compressing fun t => ∃ h : Husk,
    (t.die 0).data.finished = [h] ∧ h.logicalLen = 4096 ∧ (h.raw = false ↔ fullChainJob.output.length ≤ 4032) := by
  have hlane : (compressing.die 0).data.lanes.getD (15 : Fin 16).val none = some fullChainJob := by
    rw [compressing, State.modDie_die_self]
    rfl
  have hlen : fullChainJob.input.length = 4096 := List.length_replicate
  obtain ⟨t, hexec, h, hfin, hlogical, -, -, -, hfull⟩ :=
    huskIsRawUnlessShorter compressing 0 15 fullChainJob (by decide) hlane rfl (by rw [hlen]; decide)
  refine Runs.intro hexec ⟨h, hfin, hlogical.trans hlen, (hfull hlen.symm).trans ?_⟩
  rw [hlen]
  exact Nat.add_le_add_iff_right (n := 64) (k := 4032)

end Sys2Proof.Machine

/-! PROOFS. The admission of a write to a zone whose key domain is ERASED (10 R331; 13 R402 check 9). -/

namespace Sys2Proof.Machine

/-! ### An attempt to admit -/

/-- The block with the effects of every earlier verb's admission (09 R279; 10 R328; 13 R410). -/
def State.caughtUp (s : State) : State := s.slots.keys.foldl (fun u a => u.sanitizeTake a) s.zonesCatchUp

/-- When the head entry of the queue was first tried. -/
def State.attemptStart (s : State) (x : Sq) : Nat := if x.headWaiting then x.attemptTime else s.caughtUp.now

/-- The block in which the head entry of queue q is checked. -/
def State.attempting (s : State) (q : Nat) (x : Sq) : State :=
  { s.caughtUp with
    offer := none
    sqs := s.caughtUp.sqs.insert q { x with attemptTime := s.attemptStart x, drawWait := none } }

/-- The verb that the entry is checked as, with the next ASN and no part yet. -/
def State.attemptSlot (s : State) (q : Nat) (x : Sq) (entry : BitVec 512) (lists : List DescList)
    (src : List (BitVec 128)) : Slot :=
  { asn := s.caughtUp.asn, sq := q, entry, lists, src, parts := [], lba := eLba entry, attemptTime := s.attemptStart x }

section
variable {s : State} {q : Nat} {x : Sq} {f : Fail}
variable (entry : BitVec 512) (lists : List DescList) (src : List (BitVec 128))

/-- R402: the first check that fails decides an entry for which a slot is free and no segment draw
failed. -/
theorem State.tryAdmit_of_firstFail (hroom : (s.attempting q x).slots.size < 65536) (hdraw : x.drawFailed = none)
    (hfail : (s.attempting q x).firstFail (s.attemptSlot q x entry lists src) = some f) :
    s.tryAdmit q x entry lists src = (s.attempting q x).admitFail (s.attemptSlot q x entry lists src) f := by
  unfold State.tryAdmit
  extract_lets c start u sl
  have hnotFull : ¬ 65536 ≤ u.slots.size := Nat.not_le.mpr hroom
  have hfirst : u.firstFail sl = some f := hfail
  simp only [hnotFull, if_false, hdraw, hfirst]
  rfl

/-- R341, R381: a queue that fetches tries its head entry, unless freed resources go to another one first. -/
theorem exec_admitVerb_of_fetches (hfetch : s.fetches q = true) (hoffer : s.offer = none) (hq : s.sqs.find? q = some x) :
    exec (.admitVerb q entry lists src) s = .next (s.tryAdmit q x entry lists src) := by
  change execAdmitVerb q entry lists src s = _
  simp [execAdmitVerb, hq, hoffer, hfetch]

end

/-! ### The checks before the key domain's, and the key domain's -/

section
variable {s : State} {sl : Slot}

/-- R414: a write verb does not wait for READY. -/
theorem needsReady_of_writeOp {op : Nat} (h : writeOp op = true) : needsReady op = false := by
  simp only [writeOp, Bool.or_eq_true, beq_iff_eq] at h
  rcases h with (rfl | rfl) | rfl <;> rfl

/-- R402: a write that meets checks 1 to 8 and fails check 9 fails with that. -/
theorem State.firstFail_of_check9 {f : Fail} (hop : opKnown sl.sq sl.op = true) (hwrite : writeOp sl.op = true)
    (hfields : (reservedOk sl.entry && commonOk sl.entry && ioRange sl.entry && s.adminRange sl.entry &&
      s.lbasFit sl.entry) = true)
    (hsrc : sl.op = 8 → s.sourcesOk sl.entry sl.src = true) (hdesc : walkDescs sl.entry sl.lists = none)
    (h5 : s.check5 sl = none) (h6 : s.check6 sl = none) (h7 : s.check7 sl = none) (h8 : s.check8 sl = none)
    (h9 : s.check9 sl = some f) : s.firstFail sl = some f := by
  have hcopy : (sl.op == 8 && !(s.sourcesOk sl.entry sl.src)) = false := by
    by_cases h : sl.op = 8
    · simp [hsrc h]
    · simp [h]
  simp [State.firstFail, hop, hfields, needsReady_of_writeOp hwrite, hdesc, hcopy, h5, h6, h7, h8, h9]

/-- R323, R331: with an ERASED domain among those written, check 9 fails at a zone written: at that zone, or at an
earlier one whose domain takes no writes either. -/
theorem State.check9_of_erased (h : ∃ e ∈ sl.dests, s.judged e.1 = true ∧
      (s.keyDom e.1 (s.attrs e.1 (s.zone e.1 e.2.1).top).keyDomain).state = .erased) :
    ∃ e ∈ sl.dests, s.check9 sl = some (s.failAt St.keyNotLoaded e.1 e.2.1 e.2.2 0) := by
  obtain ⟨e, he, hjudged, herased⟩ := h
  cases hcheck : s.check9 sl with
  | none =>
    have hpass := List.findSome?_eq_none_iff.mp hcheck e (List.mem_filter.mpr ⟨he, hjudged⟩)
    simp [herased] at hpass
  | some f =>
    obtain ⟨a, ha, hfail⟩ := List.exists_of_findSome?_eq_some hcheck
    obtain ⟨-, hf⟩ := Option.ite_none_right_eq_some.mp hfail
    exact ⟨a, (List.mem_filter.mp ha).1, hf.symm⟩

end

/-- Settles O35: the checks before the ninth let the write pass, and the ninth names the zone. -/
theorem erasedDomainRefusesWrites : Obligations.ErasedDomainRefusesWrites := by
  intro s q x entry lists src hfetch hoffer hq hdraw c at_ u sl hroom hop hwrite hfields hsrc hdesc h5 h6 h7 h8 herased
  obtain ⟨e, he, h9⟩ := State.check9_of_erased herased
  have hfail : u.firstFail sl = some _ := State.firstFail_of_check9 hop hwrite hfields hsrc hdesc h5 h6 h7 h8 h9
  refine ⟨e, he, ?_⟩
  rw [exec_admitVerb_of_fetches entry lists src hfetch hoffer hq,
    State.tryAdmit_of_firstFail entry lists src hroom hdraw hfail]
  rfl

/-! ### A write that is refused -/

/-- A queue with one entry to fetch. -/
def oneEntryQueue : Sq := { size := 16, base := 0, cq := 1, frozenModel := false, tail := 1 }

/-- Die 0 after reset, but in service with its key domain 0 ERASED. -/
def erasedDie : Die :=
  { Die.cold with life := .active, data := { keys := ({} : KMap KeyDomain).insert 0 { state := .erased } } }

/-- The block after reset, but open to the host, with that die 0 and that queue 1. -/
def erasedDomain : State :=
  { State.reset.setDie 0 erasedDie with
    host := { ready := true }, sqs := ({} : KMap Sq).insert 1 oneEntryQueue }

/-- A WRITE of block 0, in the conventional zone 0 of die 0, from 4,096 bytes at host address 0. -/
def writeOfBlock0 : BitVec 512 := (BitVec.ofNat 256 (2 + 4096 * 2 ^ 192)).setWidth 512

/-- R401: every VSPEC field of an entry that is 0 from DPTR1 on is 0. -/
theorem eVs_eq_zero {e : BitVec 512} (h : e.toNat < 2 ^ 256) (off n : Nat) : eVs e off n = 0 := by
  have hlt : e.toNat < 2 ^ (8 * (48 + off)) := h.trans (Nat.pow_lt_pow_right (by decide) (by omega))
  rw [eVs, eField, Nat.div_eq_of_lt hlt, Nat.zero_mod]

theorem reservedOk_writeOfBlock0 : reservedOk writeOfBlock0 = true := by
  have hlen : writeOfBlock0.toNat < 2 ^ 256 := by
    rw [writeOfBlock0, BitVec.toNat_setWidth_of_le (by decide)]
    exact BitVec.isLt _
  have hvspec : eVs writeOfBlock0 0 16 = 0 := eVs_eq_zero hlen 0 16
  rw [reservedOk, hvspec]
  decide

/-- R331 at work: the WRITE takes its ASN and completes with KEY_NOT_LOADED at its zone's first block. -/
theorem erasedDomain_refuses_write : exec (.admitVerb 1 writeOfBlock0 [] []) erasedDomain = .next
    (((erasedDomain.attempting 1 oneEntryQueue).takeEntry
        { erasedDomain.attemptSlot 1 oneEntryQueue writeOfBlock0 [] [] with
          fixed := some St.keyNotLoaded, parts := [] }).reject 0 St.keyNotLoaded { die := some 0, lba := some 0 }) := by
  have hdests : (erasedDomain.attemptSlot 1 oneEntryQueue writeOfBlock0 [] []).dests = [(0, 0, 0)] := by decide
  obtain ⟨e, he, hexec⟩ := erasedDomainRefusesWrites erasedDomain 1 oneEntryQueue writeOfBlock0 [] [] (by decide) rfl rfl
    rfl (by decide) (by decide) (by decide) (by rw [reservedOk_writeOfBlock0]; decide) (by decide) (by decide) rfl rfl
    rfl rfl ⟨(0, 0, 0), hdests ▸ List.mem_singleton_self _, by decide, by decide⟩
  obtain rfl : e = (0, 0, 0) := List.mem_singleton.mp (hdests ▸ he)
  exact hexec

end Sys2Proof.Machine

/-! PROOFS. Every command completes on fitted dies, and the block never stops (00 R2; log 5). -/

namespace Sys2Proof.Machine

/-- An outcome is what a command that needs that die, or none, answers with: a meaning on the die, which is for it to be
fitted, or a next state (log 5). -/
def Answers (s : State) (r : Res) : Option DieId → Prop
  | some d => ∃ f, r = onDie d s f
  | none => ∃ t, r = .next t

theorem objCommand_answers (d : DieId) (s : State) (f : State → State × Option Nat) :
    Answers s (objCommand d s f) (some d) := ⟨_, rfl⟩

theorem actCommand_answers (d : DieId) (s : State) (f : State → State × Option Nat) :
    Answers s (actCommand d s f) (some d) := ⟨_, rfl⟩

theorem statusCommand_answers (d : DieId) (s : State) (f : State → State × BitVec 16 × Nat) :
    Answers s (statusCommand d s f) (some d) := ⟨_, rfl⟩

theorem selDie_eq_owner (sel : CalSel) : selDie sel = sel.owner := by cases sel <;> rfl

theorem calStartCommand_answers (sel : CalSel) (kind : Nat) (s : State) :
    Answers s (calStartCommand sel kind s) (some sel.owner) :=
  selDie_eq_owner sel ▸ statusCommand_answers (selDie sel) s _

theorem execMctpGetObject_answers (src : BitVec 8) (body : List Byte) (s : State) :
    Answers s (execMctpGetObject src body s) none := by
  unfold execMctpGetObject
  split
  · exact ⟨_, rfl⟩
  · exact ⟨_, rfl⟩

theorem execMctpSetObject_answers (src : BitVec 8) (body : List Byte) (s : State) :
    Answers s (execMctpSetObject src body s) none := by
  unfold execMctpSetObject
  split
  · exact ⟨_, rfl⟩
  · exact ⟨_, rfl⟩

/-- Log 5: a command's outcome rests on the die that it needs. -/
theorem exec_answers (c : Instr) (s : State) : Answers s (exec c s) c.die := by
  cases c
  all_goals dsimp only [exec, Instr.die]
  case hdaPowerTargetWrite d v => exact statusCommand_answers d s _
  case spinStart d => exact objCommand_answers d s _
  case spinStop d => exact objCommand_answers d s _
  case actLoad d a => exact actCommand_answers d s _
  case actUnload d a => exact actCommand_answers d s _
  case formatCommand d => exact statusCommand_answers d s _
  case calChannelAdapt sel => exact calStartCommand_answers sel 1 s
  case calHeater sel => exact calStartCommand_answers sel 2 s
  case calAssistOpt sel => exact calStartCommand_answers sel 3 s
  case calChevronGeom sel => exact calStartCommand_answers sel 4 s
  case calMaGain sel => exact calStartCommand_answers sel 5 s
  case calVcmTorque sel => exact calStartCommand_answers sel 6 s
  case calSenseOffset sel => exact calStartCommand_answers sel 7 s
  case calBemfSymmetry sel => exact calStartCommand_answers sel 8 s
  case calHoldupCap sel => exact calStartCommand_answers sel 9 s
  case calAbort sel => exact calStartCommand_answers sel 0 s
  case mctpGetObject src body => exact execMctpGetObject_answers src body s
  case mctpSetObject src body => exact execMctpSetObject_answers src body s
  all_goals exact ⟨_, rfl⟩

/-- Whatever the command, what is fixed stays. -/
theorem exec_keeps (c : Instr) (s : State) : Keeps s (exec c s) := by
  cases c
  all_goals dsimp only [exec]
  all_goals simp

theorem exec_next_of_takes {c : Instr} {s : State} (h : s.takes c) : ∃ t, exec c s = .next t := by
  have hans := exec_answers c s
  cases hd : c.die with
  | none =>
    rw [hd] at hans
    exact hans
  | some d =>
    rw [hd] at hans
    obtain ⟨f, hf⟩ := hans
    exact ⟨f s, hf.trans (onDie_fitted f (h d hd))⟩

theorem exec_fault_of_not_takes {c : Instr} {s : State} (h : ¬ s.takes c) : exec c s = .fault .noSuchDie := by
  obtain ⟨d, hd, hfit⟩ : ∃ d, c.die = some d ∧ ¬ s.fitted d = true := by simpa [State.takes] using h
  have hans := exec_answers c s
  rw [hd] at hans
  obtain ⟨f, hf⟩ := hans
  exact hf.trans (onDie_unfitted f (eq_false_of_ne_true hfit))

theorem State.fixed_eq_iff {s t : State} : t.fixed = s.fixed ↔ t.part = s.part ∧ t.pending = s.pending :=
  Iff.of_eq (Fixed.mk.injEq ..)

/-- Settles O2: the outcome rests on the die alone, and every meaning keeps what is fixed. -/
theorem everyCommandCompletes : Obligations.EveryCommandCompletes := by
  intro c s
  refine ⟨fun h => ?_, exec_fault_of_not_takes⟩
  obtain ⟨t, ht⟩ := exec_next_of_takes h
  have hkeeps := exec_keeps c s
  rw [ht, keeps_next, State.fixed_eq_iff] at hkeeps
  exact ⟨t, ht, hkeeps⟩

/-- Whether a command is for a fitted die depends on the part alone. -/
theorem State.takes_congr {s t : State} (h : t.part = s.part) (c : Instr) : t.takes c ↔ s.takes c := by
  simp [State.takes, State.fitted, h]

/-- Settles O3: an empty queue lets the clocks run, which keeps what is fixed; else the front command completes. -/
theorem blockNeverStops : Obligations.BlockNeverStops := by
  intro s hall
  cases hq : s.pending with
  | nil =>
    obtain ⟨hpart, hpending⟩ := State.fixed_eq_iff.mp (tick_fixed s)
    refine ⟨tick s, by simp [step, hq], hpart, by simp [hpending, hq], ?_⟩
    simp [hpending, hq]
  | cons c rest =>
    have hc : { s with pending := rest }.takes c := hall c (by simp [hq])
    obtain ⟨t, ht, hpart, hpending⟩ := (everyCommandCompletes c { s with pending := rest }).1 hc
    refine ⟨t, by simp [step, hq, ht], hpart, hpending, fun e he => ?_⟩
    rw [State.takes_congr hpart]
    rw [hpending] at he
    exact hall e (hq ▸ List.mem_cons_of_mem c he)

/-- Settles O1. -/
theorem stepRunsTheFront : Obligations.StepRunsTheFront := by
  intro c s rest h
  simp [step, h]

end Sys2Proof.Machine

/-! PROOFS. The fields of a position record (04 R128). -/

namespace Sys2Proof.Machine

/-- The record as a number: each field has its own bits. -/
theorem packRecord_toNat (pos pes : Int) (valid predicted rro gray index : Bool) (group miss : Nat) (eye : Rat)
    (hg : group < 4) :
    (packRecord pos pes valid predicted group rro gray index miss eye).toNat =
      (BitVec.ofInt 34 pos).toNat + (BitVec.ofInt 16 pes).toNat * 2 ^ 34 + valid.toNat * 2 ^ 50 +
      predicted.toNat * 2 ^ 51 + group * 2 ^ 52 + rro.toNat * 2 ^ 54 + gray.toNat * 2 ^ 55 + index.toNat * 2 ^ 56 +
      min 7 miss * 2 ^ 57 + min 15 (eye * 8).floor.toNat * 2 ^ 60 := by
  have hbit : ∀ (b : Bool) (n : Nat), (if b then 2 ^ n else 0) = b.toNat * 2 ^ n := by
    intro b n
    cases b <;> simp
  simp only [packRecord, hbit, BitVec.toNat_ofNat]
  apply Nat.mod_eq_of_lt
  have hpos := (BitVec.ofInt 34 pos).isLt
  have hpes := (BitVec.ofInt 16 pes).isLt
  have := valid.toNat_le
  have := predicted.toNat_le
  have := rro.toNat_le
  have := gray.toNat_le
  have := index.toNat_le
  omega

theorem getLsbD_of_div {n i : Nat} {x : BitVec n} {b : Bool} (h : x.toNat / 2 ^ i % 2 = b.toNat) : x.getLsbD i = b := by
  rw [BitVec.getLsbD, Nat.testBit_eq_decide_div_mod_eq, h]
  cases b <;> rfl

/-- Settles O13: the fields are the digits of one number. -/
theorem positionRecordFields : Obligations.PositionRecordFields := by
  intro pos pes valid predicted rro gray index group miss eye hlo hhi hg r
  have hr : r.toNat = _ := packRecord_toNat pos pes valid predicted rro gray index group miss eye hg
  have hpos := (BitVec.ofInt 34 pos).isLt
  have hpes := (BitVec.ofInt 16 pes).isLt
  have := valid.toNat_le
  have := predicted.toNat_le
  have := rro.toNat_le
  have := gray.toNat_le
  have := index.toNat_le
  refine ⟨?_, ?_, getLsbD_of_div (by rw [hr]; omega), ?_, getLsbD_of_div (by rw [hr]; omega), ?_⟩
  · have hfield : recordPosition r = (BitVec.ofInt 34 pos).toNat := by
      rw [recordPosition, BitVec.extractLsb'_toNat, Nat.shiftRight_eq_div_pow, hr]
      omega
    rw [hfield, BitVec.toNat_ofInt]
    omega
  · have hfield : r.extractLsb' 34 16 = BitVec.ofInt 16 pes := by
      apply BitVec.eq_of_toNat_eq
      rw [BitVec.extractLsb'_toNat, Nat.shiftRight_eq_div_pow, hr]
      omega
    rw [recordPes, hfield, BitVec.toInt_ofInt]
    exact Int.bmod_eq_of_le (by omega) (by omega)
  · rw [BitVec.extractLsb'_toNat, Nat.shiftRight_eq_div_pow, hr]
    omega
  · rw [BitVec.extractLsb'_toNat, Nat.shiftRight_eq_div_pow, hr]
    omega

end Sys2Proof.Machine

/-! PROOFS. The block after reset (20 R570). -/

namespace Sys2Proof.Machine

/-- Every die is as at cold reset. -/
theorem State.reset_die (d : DieId) : State.reset.die d = Die.cold := by
  simp [State.die, State.reset]

theorem Die.cold_head (h : HeadId) : Die.cold.head h = {} := by
  simp [Die.head, Die.cold]

/-- Settles O4: all dies are the one cold die, and all its heads the one reset head. -/
theorem resetLeavesTheBlockIdle : Obligations.ResetLeavesTheBlockIdle := by
  refine ⟨rfl, rfl, rfl, rfl, rfl, rfl, rfl, rfl, rfl, rfl, rfl, rfl, rfl, rfl, ?_, fun d => ?_⟩
  · intro c hc
    cases hc
  · intro x
    have hx : x = Die.cold := State.reset_die d
    rw [hx]
    refine ⟨fun h => ?_, rfl, rfl, rfl, rfl, rfl, rfl, by decide, rfl, rfl, rfl, rfl, rfl⟩
    rw [Die.cold_head]
    exact ⟨rfl, rfl, rfl⟩

end Sys2Proof.Machine

/-! PROOFS. Rules for the outcome of a command, and for changes one after the other. -/

namespace Sys2Proof.Machine

section
variable {c : Instr} {s t : State} {d : DieId} {f : State → State} {P : State → Prop}

/-- A die command of a fitted die gives what its meaning makes of the block. -/
theorem exec_onDie (r : Res) (hc : exec c s = r) (hr : r = onDie d s f) (hd : s.fitted d = true) :
    exec c s = .next (f s) := hc.trans (hr.trans (onDie_fitted f hd))

theorem Runs.onDie (r : Res) (hc : exec c s = r) (hr : r = onDie d s f) (hd : s.fitted d = true) (h : P (f s)) :
    Runs c s P := ⟨f s, exec_onDie r hc hr hd, h⟩

/-- What a command gives does not depend on more than the state that it gives. -/
theorem Runs.mono {Q : State → Prop} (h : Runs c s P) (k : ∀ t, P t → Q t) : Runs c s Q := by
  obtain ⟨t, ht, hp⟩ := h
  exact ⟨t, ht, k t hp⟩

end

/-! ### Changing a part of a die -/

section
variable (s : State) (d e : DieId)

@[simp] theorem State.modData_die_self (f : DieData → DieData) :
    (s.modData d f).die d = { s.die d with data := f (s.die d).data } := State.modDie_die_self s d _

@[simp] theorem State.modData_die_ne (f : DieData → DieData) (he : e ≠ d) : (s.modData d f).die e = s.die e :=
  State.modDie_die_ne s d e _ he

@[simp] theorem State.modClock_die_self (f : AngleClock → AngleClock) :
    (s.modClock d f).die d = { s.die d with clock := f (s.die d).clock } := State.modDie_die_self s d _

@[simp] theorem State.modClock_die_ne (f : AngleClock → AngleClock) (he : e ≠ d) : (s.modClock d f).die e = s.die e :=
  State.modDie_die_ne s d e _ he

@[simp] theorem State.modSpin_die_self (f : Spindle → Spindle) :
    (s.modSpin d f).die d = { s.die d with spin := f (s.die d).spin } := State.modDie_die_self s d _

@[simp] theorem State.modSpin_die_ne (f : Spindle → Spindle) (he : e ≠ d) : (s.modSpin d f).die e = s.die e :=
  State.modDie_die_ne s d e _ he

@[simp] theorem State.modMem_die_self (f : MemState → MemState) :
    (s.modMem d f).die d = { s.die d with mem := f (s.die d).mem } := State.modDie_die_self s d _

@[simp] theorem State.modMem_die_ne (f : MemState → MemState) (he : e ≠ d) : (s.modMem d f).die e = s.die e :=
  State.modDie_die_ne s d e _ he

@[simp] theorem State.modEng_die_self (f : EngState → EngState) :
    (s.modEng d f).die d = { s.die d with eng := f (s.die d).eng } := State.modDie_die_self s d _

@[simp] theorem State.modEng_die_ne (f : EngState → EngState) (he : e ≠ d) : (s.modEng d f).die e = s.die e :=
  State.modDie_die_ne s d e _ he

@[simp] theorem State.modHk_die_self (f : HkState → HkState) :
    (s.modHk d f).die d = { s.die d with hk := f (s.die d).hk } := State.modDie_die_self s d _

@[simp] theorem State.modHk_die_ne (f : HkState → HkState) (he : e ≠ d) : (s.modHk d f).die e = s.die e :=
  State.modDie_die_ne s d e _ he

@[simp] theorem State.modObs_die_self (f : ObsState → ObsState) :
    (s.modObs d f).die d = { s.die d with obs := f (s.die d).obs } := State.modDie_die_self s d _

@[simp] theorem State.modObs_die_ne (f : ObsState → ObsState) (he : e ≠ d) : (s.modObs d f).die e = s.die e :=
  State.modDie_die_ne s d e _ he

@[simp] theorem State.modHead_die_self (h : HeadId) (f : Head → Head) :
    (s.modHead d h f).die d = (s.die d).modHead h f := State.modDie_die_self s d _

@[simp] theorem State.modHead_die_ne (h : HeadId) (f : Head → Head) (he : e ≠ d) : (s.modHead d h f).die e = s.die e :=
  State.modDie_die_ne s d e _ he

@[simp] theorem State.modAct_die_self (a : Act) (f : Actuator → Actuator) :
    (s.modAct d a f).die d = (s.die d).modAct a f := State.modDie_die_self s d _

@[simp] theorem State.modAct_die_ne (a : Act) (f : Actuator → Actuator) (he : e ≠ d) : (s.modAct d a f).die e = s.die e :=
  State.modDie_die_ne s d e _ he

end

/-! ### What is given of the die -/

section
variable {cs : List ObjDef} {d : DieId} {x : Die} {s t : State}

/-- Reporting aside, the die is the one given. -/
theorem Gives.die_eq (h : Gives cs d x s t) : t.die d = { x with obs := (t.die d).obs } :=
  Die.eq_of_unreported_eq h.2.1

theorem Gives.die_ne (h : Gives cs d x s t) {e : DieId} (he : e ≠ d) : t.die e = s.die e := h.2.2 e he

theorem Gives.clock (h : Gives cs d x s t) : (t.die d).clock = x.clock := by rw [h.die_eq]

theorem Gives.spin (h : Gives cs d x s t) : (t.die d).spin = x.spin := by rw [h.die_eq]

theorem Gives.heads (h : Gives cs d x s t) : (t.die d).heads = x.heads := by rw [h.die_eq]

theorem Gives.head (h : Gives cs d x s t) (n : HeadId) : (t.die d).head n = x.head n := by rw [h.die_eq]; rfl

theorem Gives.act (h : Gives cs d x s t) (a : Act) : (t.die d).act a = x.act a := by
  rw [h.die_eq]
  cases a <;> rfl

theorem Gives.data (h : Gives cs d x s t) : (t.die d).data = x.data := by rw [h.die_eq]

theorem Gives.life (h : Gives cs d x s t) : (t.die d).life = x.life := by rw [h.die_eq]

theorem Gives.mem (h : Gives cs d x s t) : (t.die d).mem = x.mem := by rw [h.die_eq]

theorem Gives.eng (h : Gives cs d x s t) : (t.die d).eng = x.eng := by rw [h.die_eq]

theorem Gives.calRuns (h : Gives cs d x s t) : (t.die d).calRuns = x.calRuns := by rw [h.die_eq]

end

/-! ### Changes within a die -/

section
variable {cs : List ObjDef} {d : DieId} {x : Die} {s t u : State}

theorem Within.refl : Within cs d s s := ⟨rfl, fun _ _ => rfl⟩

theorem Within.trans (h : Within cs d s t) (k : Within cs d t u) : Within cs d s u :=
  ⟨k.1.trans h.1, fun e he => (k.2 e he).trans (h.2 e he)⟩

theorem Within.die_ne (h : Within cs d s t) {e : DieId} (he : e ≠ d) : t.die e = s.die e := h.2 e he

theorem Within.setDie (h : Within cs d s t) : Within cs d s (t.setDie d x) :=
  ⟨h.1, fun e he => (State.setDie_die_ne t d e x he).trans (h.2 e he)⟩

theorem Within.modDie {f : Die → Die} (h : Within cs d s t) : Within cs d s (t.modDie d f) := h.setDie

theorem Within.reported (h : Within cs d s t) (k : Reported cs d t u) : Within cs d s u := h.trans k.within

theorem Within.emit {o : Out} (h : Within cs d s t) : Within cs d s (t.emit o) := ⟨h.1, h.2⟩

theorem Within.bump {o : ObjDef} {inst k : Nat} (ho : o ∈ cs) (hi : inst < 256) (h : Within cs d s t) :
    Within cs d s (t.bump o inst k) := h.reported (State.bump_reported cs t d o inst k hi (.inr ho))

theorem Within.calRecheck (h : Within cs d s t) : Within cs d s (t.calRecheck d) := h.modDie

end

/-- Changing heads one after the other by a change that is its own repetition changes each head named once. -/
theorem State.foldl_modHead_head (d : DieId) {f : Head → Head} (hf : ∀ y, f (f y) = f y) (l : List HeadId) (s : State)
    (h : HeadId) : ((l.foldl (fun s h => s.modHead d h f) s).die d).head h =
      if h ∈ l then f ((s.die d).head h) else (s.die d).head h := by
  induction l generalizing s with
  | nil => simp
  | cons k l ih =>
    rw [List.foldl_cons, ih, State.modHead_eq, State.modDie_die_self]
    by_cases hk : h = k
    · subst hk
      simp [hf]
    · simp [hk]

theorem State.modDie_modDie (s : State) (d : DieId) (f g : Die → Die) :
    (s.modDie d f).modDie d g = s.modDie d fun x => g (f x) := by
  simp [State.modDie, State.setDie_setDie]

end Sys2Proof.Machine

/-! PROOFS. The states of the angle clock and the entry to COASTING (02 R59, R63, R64). -/

namespace Sys2Proof.Machine

theorem Head.requeueUnstarted_requeueUnstarted (y : Head) :
    y.requeueUnstarted.requeueUnstarted = y.requeueUnstarted := by
  simp [Head.requeueUnstarted]

/-- The clock as entry to COASTING leaves it, but for its rate. -/
def AngleClock.coasted (c : AngleClock) (gone : List AngleOwner) : AngleClock :=
  { c.noPhase with
    state := .coasting, flywheel := false, lockRun := 0, unlockRun := 0, flyRun := 0, badRun := 0
    events := c.events.filter fun e => e.cls != .media, cancelled := gone ++ c.cancelled }

/-- The owners of the media events that are armed. -/
def AngleClock.mediaOwners (c : AngleClock) : List AngleOwner :=
  (c.events.filter fun e => e.cls == .media).map (·.owner)

/-- The block after the media events are handed back, before the coasting rate applies. -/
def State.coastCancelled (s : State) (d : DieId) : State :=
  ((s.die d).clock.mediaOwners.filterMap AngleOwner.head?).foldl (fun s h => s.modHead d h Head.requeueUnstarted)
    (s.modClock d fun c => c.coasted (s.die d).clock.mediaOwners)

theorem State.coastEntry_eq {s : State} {d : DieId} (h : (s.die d).clock.state ≠ .coasting) :
    s.coastEntry d =
      (((s.coastCancelled d).modObs d fun o => { o with bwCoast := true }).setCoastRate d).calRecheck d := by
  have hc : (s.die d).clock.coasting = false := by simpa [AngleClock.coasting] using h
  simp only [State.coastEntry, hc, Bool.false_eq_true, if_false]
  rfl

theorem State.coastCancelled_eq (s : State) (d : DieId) :
    s.coastCancelled d = s.setDie d { s.die d with
      clock := (s.die d).clock.coasted (s.die d).clock.mediaOwners, heads := ((s.coastCancelled d).die d).heads } := by
  obtain ⟨v, hv⟩ := State.foldl_modHead d Head.requeueUnstarted
    ((s.die d).clock.mediaOwners.filterMap AngleOwner.head?)
    (s.modClock d fun c => c.coasted (s.die d).clock.mediaOwners)
  have hv' : s.coastCancelled d = _ := hv
  rw [hv']
  simp [State.modClock_eq, State.modDie, State.setDie_setDie]

/-- The coasting rate rests on the spindle and COAST_RPM alone. -/
theorem State.coastIncr_congr {s t : State} {d : DieId} (hspin : (t.die d).spin = (s.die d).spin)
    (hobjs : t.objs = s.objs) : t.coastIncr d = s.coastIncr d := by
  simp [State.coastIncr, hspin, State.get, State.getSub, hobjs]

/-- Entry to COASTING changes its die alone, and of it the clock, the heads, the counter window and the paused runs. -/
theorem State.coastEntry_setDie {s : State} {d : DieId} (h : (s.die d).clock.state ≠ .coasting) :
    s.coastEntry d = s.setDie d { s.die d with
      clock := { (s.die d).clock.coasted (s.die d).clock.mediaOwners with
        incr := BitVec.ofNat 40 (s.coastIncr d), nominal := BitVec.ofNat 40 (s.coastIncr d) }
      heads := ((s.coastEntry d).die d).heads, calRuns := ((s.coastEntry d).die d).calRuns
      obs := { (s.die d).obs with bwCoast := true } } := by
  have hrate : ((s.coastCancelled d).modObs d fun o => { o with bwCoast := true }).coastIncr d = s.coastIncr d := by
    apply State.coastIncr_congr
    · rw [State.coastCancelled_eq]
      simp [State.modObs_eq]
    · rw [State.coastCancelled_eq]
      simp [State.modObs_eq]
  rw [State.coastEntry_eq h, State.setCoastRate, hrate, State.coastCancelled_eq]
  simp [State.calRecheck, State.modObs_eq, State.modClock_eq, State.modDie, State.setDie_setDie]

theorem State.coastEntry_head {s : State} {d : DieId} (h : (s.die d).clock.state ≠ .coasting) (n : HeadId) :
    ((s.coastEntry d).die d).head n =
      if n ∈ (s.die d).clock.mediaOwners.filterMap AngleOwner.head? then ((s.die d).head n).requeueUnstarted
      else (s.die d).head n := by
  have hhead : ((s.coastEntry d).die d).head n = ((s.coastCancelled d).die d).head n := by
    rw [State.coastEntry_eq h]
    simp [State.calRecheck, State.setCoastRate, State.modObs_eq, State.modClock_eq, Die.head]
  rw [hhead, State.coastCancelled, State.foldl_modHead_head d Head.requeueUnstarted_requeueUnstarted]
  simp [State.modClock_eq, Die.head]

/-- Settles O5: a change of state is one change of the clock, its event, and the pausing of calibrations. -/
theorem angleClockStates : Obligations.AngleClockStates := by
  refine ⟨fun s d hd => ?_, fun s d hc => ?_⟩
  · refine ⟨fun hstate hrun => ?_, fun hstate hrun => ?_, fun hstate hrun => ?_⟩
    · refine Runs.onDie (execAngleLocked d s) rfl rfl hd ?_
      rw [when_true _ (by simp [hstate, hrun])]
      refine ⟨((Gives.refl.modClock).raise (.inl (by decide))).calRecheck, ?_⟩
      exact State.raise_logs (s.modClock d _) Ev.angleLocked [] (.inl (by decide)) (by decide)
        (by simp [State.modClock_eq]) (by simp [State.modClock_eq]) (by simp [State.calRecheck]; rfl)
    · refine Runs.onDie (execAngleLockLost d s) rfl rfl hd ?_
      rw [when_true _ (by simpa [hstate] using hrun)]
      refine ⟨((Gives.refl.modClock).raise (.inl (by decide))).calRecheck, ?_⟩
      exact State.raise_logs (s.modClock d _) Ev.angleLockLost [] (.inl (by decide)) (by decide)
        (by simp [State.modClock_eq]) (by simp [State.modClock_eq]) (by simp [State.lockLost, State.calRecheck]; rfl)
    · rw [exec_onDie (execAngleAcquireTimeout d s) rfl rfl hd, when_true _ (by simp [hstate, hrun])]
  · refine ⟨?_, fun h => State.coastEntry_head hc h⟩
    have heq := State.coastEntry_setDie hc
    refine ⟨?_, ?_, fun e he => ?_⟩
    · rw [heq, State.setDie_side]
    · exact congrArg Die.unreported ((congrArg (·.die d) heq).trans (by simp only [State.setDie_die_self]; rfl))
    · rw [heq, State.setDie_die_ne _ _ _ _ he]

end Sys2Proof.Machine

/-! PROOFS. Arming, firing and reading on the angle clock (02 R63 to R68, R77). -/

namespace Sys2Proof.Machine

/-! ### Stamps -/

theorem stampDiff_add (a b k : BitVec 48) : stampDiff (a + k) b = (stampDiff a b + k.toInt).bmod (2 ^ 48) := by
  have h : a + k - b = (a - b) + k := by simp [BitVec.sub_eq_add_neg, BitVec.add_assoc, BitVec.add_comm k]
  rw [stampDiff, h, BitVec.toInt_add]
  rfl

theorem stampDiff_self (a : BitVec 48) : stampDiff a a = 0 := by simp [stampDiff]

theorem stampDiff_bounds (a b : BitVec 48) : -2 ^ 47 ≤ stampDiff a b ∧ stampDiff a b < 2 ^ 47 := by
  have h := (a - b).isLt
  simp only [stampDiff, BitVec.toInt_eq_toNat_cond]
  split <;> omega

/-- R66: the whole revolutions that a stamp is moved by. -/
def deferBy (cur stamp : BitVec 48) (lead : Nat) : Int :=
  ((lead : Int) - stampDiff stamp cur + 16777215) / 16777216 * 16777216

theorem defer_of_lt {cur stamp : BitVec 48} {lead : Nat} (h : stampDiff stamp cur < lead) :
    defer cur stamp lead = stamp + BitVec.ofInt 48 (deferBy cur stamp lead) := by
  have hshort : ¬ (lead : Int) - stampDiff stamp cur ≤ 0 := by omega
  simp [defer, hshort, deferBy]

/-- R66: a stamp that was short of the lead lies less than a revolution beyond it. -/
theorem stampDiff_defer_of_lt {cur stamp : BitVec 48} (h : stampDiff stamp cur < minLead) :
    32 ≤ stampDiff (defer cur stamp minLead) cur ∧ stampDiff (defer cur stamp minLead) cur < 32 + 2 ^ 24 := by
  obtain ⟨hlo, hhi⟩ := stampDiff_bounds stamp cur
  have hlt : stampDiff stamp cur < 32 := h
  have hby : deferBy cur stamp minLead = (32 - stampDiff stamp cur + 16777215) / 16777216 * 16777216 := rfl
  rw [defer_of_lt h, stampDiff_add, hby, BitVec.toInt_ofInt, Int.add_bmod_bmod]
  generalize stampDiff stamp cur = a at *
  rw [Int.bmod_eq_of_le (by omega) (by omega)]
  omega

/-- R66: moving by whole revolutions keeps the angle. -/
theorem defer_angle (cur stamp : BitVec 48) (lead : Nat) :
    (defer cur stamp lead).toNat % 2 ^ 24 = stamp.toNat % 2 ^ 24 := by
  by_cases h : (lead : Int) ≤ stampDiff stamp cur
  · rw [defer_of_lead_le h]
  · rw [defer_of_lt (by omega)]
    have hby : ∃ n : Int, deferBy cur stamp lead = n * 16777216 := ⟨_, rfl⟩
    obtain ⟨n, hn⟩ := hby
    rw [BitVec.toNat_add, BitVec.toNat_ofInt, hn]
    omega

/-- R65: a stamp ahead of the current one by less than half of the counter's range is that far ahead. -/
theorem stampDiff_ahead (cur : BitVec 48) {n : Nat} (h : n < 2 ^ 47) : stampDiff (cur + BitVec.ofNat 48 n) cur = n := by
  have hn : (BitVec.ofNat 48 n).toInt = (n : Int).bmod (2 ^ 48) := BitVec.toInt_ofNat' ..
  rw [stampDiff_add, stampDiff_self, hn, Int.zero_add, Int.bmod_bmod]
  exact Int.bmod_eq_of_le (by omega) (by omega)

/-- R65: how far ahead of the current stamp the earliest one at an angle lies. -/
def resolveLead (cur : BitVec 48) (angle : Nat) : Nat :=
  minLead + (angle + 16777216 - (cur + BitVec.ofNat 48 minLead).toNat % 16777216) % 16777216

theorem resolveLead_bounds (cur : BitVec 48) (angle : Nat) :
    32 ≤ resolveLead cur angle ∧ resolveLead cur angle < 32 + 2 ^ 24 := by
  simp only [resolveLead, minLead]
  omega

theorem resolveAt_eq (cur : BitVec 48) (angle : Nat) :
    resolveAt cur angle = cur + BitVec.ofNat 48 (resolveLead cur angle) := by
  simp [resolveAt, resolveLead, BitVec.add_assoc, BitVec.ofNat_add]

theorem stampDiff_resolveAt (cur : BitVec 48) (angle : Nat) :
    stampDiff (resolveAt cur angle) cur = resolveLead cur angle := by
  rw [resolveAt_eq]
  have := resolveLead_bounds cur angle
  exact stampDiff_ahead cur (by omega)

/-- R65: the resolved stamp is at the angle. -/
theorem resolveAt_angle (cur : BitVec 48) (angle : Nat) : (resolveAt cur angle).toNat % 2 ^ 24 = angle % 2 ^ 24 := by
  simp only [resolveAt]
  rw [BitVec.toNat_add, BitVec.toNat_ofNat]
  omega

/-- R63: the coasting bit stands above the stamp. -/
theorem AngleClock.stamped_setWidth (c : AngleClock) : c.stamped.setWidth 64 =
    BitVec.ofNat 64 (c.stamp.toNat + if c.state = .coasting then 2 ^ 48 else 0) := by
  have hlt := c.stamp.isLt
  apply BitVec.eq_of_toNat_eq
  by_cases h : c.state = .coasting
  · have hor : c.stamp.toNat ||| 281474976710656 = c.stamp.toNat + 281474976710656 := by
      rw [Nat.or_comm, Nat.add_comm]
      exact (Nat.two_pow_add_eq_or_of_lt hlt 1).symm
    have hmod : c.stamp.toNat % 18446744073709551616 = c.stamp.toNat := Nat.mod_eq_of_lt (by omega)
    simp [AngleClock.stamped, AngleClock.coasting, h, hmod, hor]
    omega
  · simp [AngleClock.stamped, AngleClock.coasting, h]

/-! ### Arming -/

/-- The stamp that a form resolves to (02 R65, R66). -/
def AngleClock.resolve (c : AngleClock) : AngleForm → BitVec 48
  | .absolute t => defer c.stamp t minLead
  | .relative w off => resolveAt c.stamp ((entryAngle c w + off.toNat) % 16777216)

/-- The angle that a form asks for. -/
def AngleClock.angleOf (c : AngleClock) : AngleForm → Nat
  | .absolute t => t.toNat % 2 ^ 24
  | .relative w off => (entryAngle c w + off.toNat) % 2 ^ 24

theorem AngleClock.resolve_angle (c : AngleClock) (form : AngleForm) :
    (c.resolve form).toNat % 2 ^ 24 = c.angleOf form := by
  cases form with
  | absolute t => exact defer_angle c.stamp t minLead
  | relative w off => exact (resolveAt_angle ..).trans (Nat.mod_mod ..)

/-- R66: whatever is asked for, the stamp lies at least the lead ahead. -/
theorem AngleClock.lead_le_resolve (c : AngleClock) (form : AngleForm) : 32 ≤ stampDiff (c.resolve form) c.stamp := by
  cases form with
  | absolute t =>
    by_cases h : stampDiff t c.stamp < minLead
    · exact (stampDiff_defer_of_lt h).1
    · have hlead : (minLead : Int) ≤ stampDiff t c.stamp := by omega
      simp only [AngleClock.resolve, defer_of_lead_le hlead]
      exact hlead
  | relative w off =>
    simp only [AngleClock.resolve, stampDiff_resolveAt]
    have := resolveLead_bounds c.stamp ((entryAngle c w + off.toNat) % 16777216)
    omega

/-- R67: only an absolute stamp that was itself too far ahead resolves to one that is. -/
theorem AngleClock.far_of_resolve_far {c : AngleClock} {form : AngleForm}
    (h : 2 ^ 40 < stampDiff (c.resolve form) c.stamp) : ∃ r, form = .absolute r ∧ 2 ^ 40 < stampDiff r c.stamp := by
  cases form with
  | absolute t =>
    refine ⟨t, rfl, ?_⟩
    by_cases hlt : stampDiff t c.stamp < minLead
    · have hnear := (stampDiff_defer_of_lt hlt).2
      simp only [AngleClock.resolve] at h
      omega
    · rwa [AngleClock.resolve, defer_of_lead_le (by omega)] at h
  | relative w off =>
    simp only [AngleClock.resolve, stampDiff_resolveAt] at h
    have := resolveLead_bounds c.stamp ((entryAngle c w + off.toNat) % 16777216)
    omega

/-- An event is refused outside LOCKED, when it is a media event, or too far ahead (02 R61, R67). -/
def AngleClock.refuses (c : AngleClock) (cls : AngleClass) (form : AngleForm) : Bool :=
  (cls == .media && c.state != .locked) || decide (2 ^ 40 < stampDiff (c.resolve form) c.stamp)

theorem State.armEvent_of_refuses {s : State} {d : DieId} {cls : AngleClass} {form : AngleForm} (owner : AngleOwner)
    (h : (s.die d).clock.refuses cls form = true) :
    s.armEvent d cls owner form = s.modClock d fun c => { c with cancelled := owner :: c.cancelled } := by
  cases form with
  | absolute t => exact if_pos h
  | relative w off => exact if_pos h

/-- An event that is not refused: a deferral is marked and counted, and the event is armed last. -/
theorem State.armEvent_of_not_refuses {s : State} {d : DieId} {cls : AngleClass} {form : AngleForm} (owner : AngleOwner)
    (h : (s.die d).clock.refuses cls form = false) : ∃ deferred : Bool,
    let c := (s.die d).clock
    Gives [Obj.deferralCount] d { s.die d with clock := { c with
      deferred := deferred, events := c.events ++ [⟨c.nextId, cls, owner, c.resolve form⟩], nextId := c.nextId + 1 } } s
      (s.armEvent d cls owner form) := by
  have hno : ¬ (s.die d).clock.refuses cls form = true := by simp [h]
  have harm : ∃ late : Bool, s.armEvent d cls owner form =
      (if late then (s.modClock d fun c => { c with deferred := true }).bump Obj.deferralCount (dieInst d) else s).modClock
        d fun c => { c with
          events := c.events ++ [⟨c.nextId, cls, owner, (s.die d).clock.resolve form⟩], nextId := c.nextId + 1 } := by
    cases form with
    | absolute t => exact ⟨decide (stampDiff t (s.die d).clock.stamp < minLead), if_neg hno⟩
    | relative w off => exact ⟨false, if_neg hno⟩
  obtain ⟨late, harm⟩ := harm
  rw [harm]
  cases late with
  | true => exact ⟨true, ((Gives.refl.modClock).bump (by simp) (dieInst_lt d)).modClock⟩
  | false => exact ⟨(s.die d).clock.deferred, Gives.refl.modClock⟩

/-- Settles O6: a refusal hands the event back; else it is armed at the stamp that it resolves to. -/
theorem angleEventsArmAndFire : Obligations.AngleEventsArmAndFire := by
  refine ⟨fun s d cls owner form hd => ?_, fun s d hd => ⟨fun id e he hreach => ?_, fun id e he hreach => ?_, ?_⟩⟩
  · intro c angle
    refine Runs.intro (exec_angleEventArm hd cls owner form) ?_
    cases hr : c.refuses cls form with
    | true =>
      rw [State.armEvent_of_refuses owner hr, State.modClock_eq, State.modDie_die_self]
      refine ⟨(Gives.refl.setDie).within, rfl, rfl, rfl, rfl, .inr ⟨rfl, ?_⟩⟩
      simp only [AngleClock.refuses, Bool.or_eq_true, Bool.and_eq_true, beq_iff_eq, bne_iff_ne, decide_eq_true_eq] at hr
      exact hr.imp_right AngleClock.far_of_resolve_far
    | false =>
      obtain ⟨deferred, harm⟩ := State.armEvent_of_not_refuses owner hr
      have hangle : (c.resolve form).toNat % 2 ^ 24 = angle := by
        rw [AngleClock.resolve_angle]
        cases form <;> rfl
      simp only [AngleClock.refuses, Bool.or_eq_false_iff, Bool.and_eq_false_iff, beq_eq_false_iff_ne, ne_eq,
        bne_eq_false_iff_eq, decide_eq_false_iff_not, Int.not_lt] at hr
      obtain ⟨hmedia, hfar⟩ := hr
      rw [harm.clock]
      exact ⟨harm.within, rfl, rfl, rfl, rfl, .inl ⟨_, rfl, rfl, rfl, rfl, rfl, rfl, hangle, c.lead_le_resolve form,
        hfar, hmedia.resolve_left ∘ not_not_intro⟩⟩
  · rw [exec_onDie (execAngleEventFire d id s) rfl rfl hd]
    simp only [he]
    rw [when_true _ (by simpa using hreach)]
    rfl
  · rw [exec_onDie (execAngleEventFire d id s) rfl rfl hd]
    simp only [he]
    rw [when_false _ (by simpa using hreach)]
  · rw [exec_onDie (execAngleStampRead d s) rfl rfl hd, ← AngleClock.stamped_setWidth]
    simp [State.modClock_eq, State.modDie, St.success]

end Sys2Proof.Machine

/-! PROOFS. What a wedge sample does to the angle clock (02 R55 to R62). -/

namespace Sys2Proof.Machine

/-! ### The speed loop changes the spindle alone -/

theorem State.speedLoop_eq (s : State) (d : DieId) (speed dt : Rat) :
    ∃ p, s.speedLoop d speed dt = s.modDie d fun x => { x with spin := p } := ⟨_, rfl⟩

/-- What a wedge ends with: the speed loop, where the drive commutates on a locked clock (03 R90). -/
def State.wedgeSpeed (s : State) (d : DieId) : State :=
  let x := s.die d
  if x.clock.state = .locked ∧ x.spin.src = .clock then
    let rpm := incrRpm x.clock.incr.toNat
    s.speedLoop d rpm (if rpm = 0 then 0 else 60 / (rpm * x.clock.table.length))
  else s

theorem State.wedgeSpeed_eq (s : State) (d : DieId) :
    ∃ p, s.wedgeSpeed d = s.modDie d fun x => { x with spin := p } := by
  unfold State.wedgeSpeed
  dsimp only
  split
  · exact State.speedLoop_eq ..
  · exact ⟨(s.die d).spin, (State.setDie_die s d).symm⟩

theorem State.wedgeSpeed_of_not_locked {s : State} {d : DieId} (h : (s.die d).clock.state ≠ .locked) :
    s.wedgeSpeed d = s := by
  simp [State.wedgeSpeed, h]

/-! ### Acquisition -/

/-- The step to the wedge's place, in 2^-8 au (02 R62). -/
def AngleClock.stepTo (c : AngleClock) (k : Nat) (x : WedgeArrival) : Nat :=
  (wedgeError c k x.arrival % (2 ^ 32 : Nat)).toNat

theorem AngleClock.stepTo_lt (c : AngleClock) (k : Nat) (x : WedgeArrival) : c.stepTo k x < 2 ^ 32 := by
  simp only [AngleClock.stepTo]
  omega

/-- R62: acquisition steps the clock, which counts and reports and changes nothing beyond its die. -/
theorem State.acquire_spec (s : State) (d : DieId) (k : Nat) (x : WedgeArrival) :
    let c := (s.die d).clock
    let c' := ((s.acquire d k x).die d).clock
    Within [Obj.deferralCount] d s (s.acquire d k x) ∧ c'.state = .acquiring ∧ c'.step = true ∧ c'.wedge = k ∧
      c'.incr = c.incr ∧ c'.acc = c.acc + BitVec.ofNat 80 (c.stepTo k x * 2 ^ 24) ∧
      c'.events.length = c.events.length := by
  intro c c'
  obtain ⟨f, g, n, revs, hacq, hf⟩ : ∃ (f : AngleClock → AngleClock) (g : ObsState → ObsState) (n revs : Nat),
      s.acquire d k x = (((((s.modClock d f).modObs d g).bump Obj.deferralCount (dieInst d) n).count d 0x002 revs).raise d
        Ev.angleStep [(4, ((c.stepTo k x / 256 : Nat) : Int))]) ∧
      (f c).state = .acquiring ∧ (f c).step = true ∧ (f c).wedge = k ∧ (f c).incr = c.incr ∧
      (f c).acc = c.acc + BitVec.ofNat 80 (c.stepTo k x * 2 ^ 24) ∧ (f c).events.length = c.events.length :=
    ⟨_, _, _, _, rfl, rfl, rfl, rfl, rfl, rfl, List.length_map ..⟩
  have hbump := State.bump_reported [Obj.deferralCount] ((s.modClock d f).modObs d g) d Obj.deferralCount (dieInst d) n
    (dieInst_lt d) (.inr (by simp))
  have hcount := State.count_reported [Obj.deferralCount]
    (((s.modClock d f).modObs d g).bump Obj.deferralCount (dieInst d) n) d 0x002 revs
  have hrep := (hbump.trans hcount).trans (State.raise_reported [Obj.deferralCount] _ d Ev.angleStep
    [(4, ((c.stepTo k x / 256 : Nat) : Int))] (.inl (by decide)))
  have hclock : c' = f c := by
    change ((s.acquire d k x).die d).clock = f c
    rw [hacq, hrep.clock]
    simp [State.modObs_eq, State.modClock_eq]
    rfl
  rw [hclock, hacq]
  exact ⟨((Within.refl.modDie).modDie).reported hrep, hf⟩

/-! ### The loop -/

/-- R51: with room above it, the increment is held within half of the nominal one on either side. -/
theorem clampIncr_bounds (nominal : BitVec 40) (i : Int) (h : nominal.toNat * 3 / 2 < 2 ^ 40) :
    nominal.toNat / 2 ≤ (clampIncr nominal i).toNat ∧ (clampIncr nominal i).toNat ≤ nominal.toNat * 3 / 2 := by
  have hlo : (nominal.toNat : Int) / 2 ≤ max ((nominal.toNat : Int) / 2) (min ((nominal.toNat : Int) * 3 / 2) i) := by omega
  have hhi : max ((nominal.toNat : Int) / 2) (min ((nominal.toNat : Int) * 3 / 2) i) ≤ (nominal.toNat : Int) * 3 / 2 := by
    omega
  simp only [clampIncr, BitVec.toNat_ofInt]
  generalize max ((nominal.toNat : Int) / 2) (min ((nominal.toNat : Int) * 3 / 2) i) = m at *
  rw [Int.emod_eq_of_lt (by omega) (by omega)]
  omega

/-- A wedge with a phase error changes the clock alone: it ends the flywheel, and leaves the angle and the state. -/
theorem State.loopSample_spec (s : State) (d : DieId) (k : Nat) (e : Rat) :
    ∃ c' : AngleClock, s.loopSample d k e = s.modDie d (fun x => { x with clock := c' }) ∧
      c'.flywheel = false ∧ c'.flyRun = 0 ∧ c'.state = (s.die d).clock.state ∧ c'.acc = (s.die d).clock.acc ∧
      (c'.nominal.toNat * 3 / 2 < 2 ^ 40 →
        c'.nominal.toNat / 2 ≤ c'.incr.toNat ∧ c'.incr.toNat ≤ c'.nominal.toNat * 3 / 2) :=
  ⟨_, rfl, rfl, rfl, rfl, rfl, clampIncr_bounds _ _⟩

theorem AngleClock.noSample_of_not_coasting (c : AngleClock) (k : Nat) (h : c.state ≠ .coasting) :
    c.noSample k = if c.state = .locked
      then { c with wedge := k, flywheel := true, flyRun := c.flyRun + 1, unlockRun := 0 }
      else { c with wedge := k, badRun := c.badRun + 1, lockRun := 0 } := by
  unfold AngleClock.noSample
  cases hs : c.state with
  | coasting => exact absurd hs h
  | acquiring => rfl
  | locked => rfl

/-! ### The command -/

/-- What a wedge does before the speed loop runs. -/
def State.wedgeClock (s : State) (d : DieId) (k : Nat) (xs : List WedgeArrival) : State :=
  match (s.die d).clock.state, xs with
  | .coasting, [] => s
  | .coasting, x :: _ => if (s.die d).clock.tableMatch then (s.acquire d k x).calRecheck d else s
  | _, _ =>
    match meanError (s.die d).clock k xs with
    | some e => s.loopSample d k e
    | none => s.modClock d (·.noSample k)

theorem State.wedgeClock_of_coasting_nil {s : State} {d : DieId} (k : Nat) (h : (s.die d).clock.state = .coasting) :
    s.wedgeClock d k [] = s := by
  simp only [State.wedgeClock, h]

theorem State.wedgeClock_of_coasting_cons {s : State} {d : DieId} (k : Nat) (x : WedgeArrival) (xs : List WedgeArrival)
    (h : (s.die d).clock.state = .coasting) :
    s.wedgeClock d k (x :: xs) = if (s.die d).clock.tableMatch then (s.acquire d k x).calRecheck d else s := by
  simp only [State.wedgeClock, h]

theorem State.wedgeClock_of_not_coasting {s : State} {d : DieId} (k : Nat) (xs : List WedgeArrival)
    (h : (s.die d).clock.state ≠ .coasting) :
    s.wedgeClock d k xs = match meanError (s.die d).clock k xs with
      | some e => s.loopSample d k e
      | none => s.modClock d (·.noSample k) := by
  unfold State.wedgeClock
  split
  · exact absurd ‹_› h
  · exact absurd ‹_› h
  · rfl

theorem exec_angleWedgeSample {s : State} {d : DieId} (hd : s.fitted d = true) (k : Nat) (samples : List WedgeArrival) :
    exec (.angleWedgeSample d k samples) s =
      .next ((s.wedgeClock d k (validArrivals (s.timingHeads d) samples)).wedgeSpeed d) := by
  rw [exec_onDie (execAngleWedgeSample d k samples s) rfl rfl hd]
  rfl

/-- Settles O8: by the state of the clock and whether the wedge has a valid sample. -/
theorem angleWedgeSampleEffects : Obligations.AngleWedgeSampleEffects := by
  intro s d k samples hd c xs
  have hexec := exec_angleWedgeSample hd k samples
  refine ⟨fun hc hxs hm => Runs.intro hexec ?_, fun hc hno => ?_, fun hc hxs => Runs.intro hexec ?_,
    fun hc hxs => Runs.intro hexec ?_⟩
  · obtain ⟨x, xs', hcons⟩ := List.exists_cons_of_ne_nil hxs
    change validArrivals _ _ = _ at hcons
    obtain ⟨hwithin, hstate, hstep, hwedge, hincr, hacc, hevents⟩ := State.acquire_spec s d k x
    rw [hcons, State.wedgeClock_of_coasting_cons k x xs' hc, if_pos hm]
    have hclock : (((s.acquire d k x).calRecheck d).die d).clock = ((s.acquire d k x).die d).clock := by
      simp [State.calRecheck]
    rw [State.wedgeSpeed_of_not_locked (by rw [hclock, hstate]; decide), hclock]
    exact ⟨hstate, hstep, hwedge, hincr, ⟨_, hacc, c.stepTo_lt k x⟩, hevents, hwithin.calRecheck⟩
  · have hidle : s.wedgeClock d k xs = s := by
      cases hcons : xs with
      | nil => exact State.wedgeClock_of_coasting_nil k hc
      | cons x xs' =>
        have hm : c.tableMatch = false := hno.resolve_left (by simp [hcons])
        rw [State.wedgeClock_of_coasting_cons k x xs' hc, if_neg (by rw [hm]; decide)]
    rw [hexec, hidle, State.wedgeSpeed_of_not_locked (by rw [hc]; decide)]
  · have hmean : meanError c k xs = none := by simp [meanError, hxs]
    rw [State.wedgeClock_of_not_coasting k _ hc]
    rw [hmean]
    obtain ⟨p, hp⟩ := State.wedgeSpeed_eq (s.modClock d (·.noSample k)) d
    rw [hp]
    refine ⟨?_, by simp [State.modClock_eq], by simp [State.modClock_eq], Within.refl.modDie.modDie⟩
    simp only [State.modClock_eq, State.modDie_die_self]
    exact c.noSample_of_not_coasting k hc
  · obtain ⟨e, hmean⟩ : ∃ e, meanError c k xs = some e := ⟨_, if_neg (by simpa using hxs)⟩
    rw [State.wedgeClock_of_not_coasting k _ hc]
    rw [hmean]
    obtain ⟨c', hloop, hfly, hrun, hstate, hacc, hincr⟩ := State.loopSample_spec s d k e
    obtain ⟨p, hp⟩ := State.wedgeSpeed_eq (s.loopSample d k e) d
    rw [hloop] at hp
    dsimp only
    rw [hloop, hp]
    simp only [State.modDie_die_self]
    exact ⟨hfly, hrun, hstate, hacc, hincr, trivial, Within.refl.modDie.modDie⟩

end Sys2Proof.Machine

/-! PROOFS. Package time and the spindle's phase reference (02 R69 to R75). -/

namespace Sys2Proof.Machine

theorem val_ne_zero {d : DieId} (h : d ≠ 0) : d.val ≠ 0 := fun h0 => h (Fin.ext h0)

/-! ### The anchor's messages -/

/-- Messages of the anchor to dies other than itself, one after the other. -/
theorem State.foldl_send (op : BitVec 8) (v : Nat) (l : List DieId) (hl : ∀ d ∈ l, d ≠ 0) (s : State) :
    l.foldl (fun t d => t.send 0 d op v) s =
      { s with out := (l.map fun d => Out.fabric 0 d op (BitVec.ofNat 64 v)).reverse ++ s.out } := by
  induction l generalizing s with
  | nil => rfl
  | cons d l ih =>
    have hd : (0 : DieId) ≠ d := (hl d List.mem_cons_self).symm
    rw [List.foldl_cons, ih (fun e he => hl e (List.mem_cons_of_mem d he))]
    simp [State.send, hd, State.emit]

/-- The member dies of the part. -/
def State.members (s : State) : List DieId := s.fittedDies.filter fun d => d.val != 0

theorem State.members_ne_zero (s : State) : ∀ d ∈ s.members, d ≠ 0 := by
  intro d hd h0
  subst h0
  simp [State.members] at hd

/-! ### The offset of a member die -/

/-- R71: a message's time is within 5 ns of the die's own count. -/
def AngleClock.nearTo (off : Int) : Bool := decide (off.natAbs ≤ 20)

/-- What a time message does to the clock in any case (02 R71). -/
def AngleClock.timed (c : AngleClock) (off : Int) : AngleClock :=
  { c with
    offsetNs := off / 4, alignRun := if AngleClock.nearTo off then c.alignRun + 1 else 0
    timeAligned := if AngleClock.nearTo off then
      c.timeAligned || decide (4 ≤ (if AngleClock.nearTo off then c.alignRun + 1 else 0)) else false }

theorem AngleClock.timed_eq (c : AngleClock) (off : Int) : c.timed off =
    { c with
      offsetNs := off / 4, alignRun := if -20 ≤ off ∧ off ≤ 20 then c.alignRun + 1 else 0
      timeAligned := decide (-20 ≤ off ∧ off ≤ 20) && (c.timeAligned || decide (3 ≤ c.alignRun)) } := by
  by_cases h : -20 ≤ off ∧ off ≤ 20
  · have hn : AngleClock.nearTo off = true := by simp only [AngleClock.nearTo, decide_eq_true_eq]; omega
    simp [AngleClock.timed, hn, h]
  · have hn : AngleClock.nearTo off = false := by simp only [AngleClock.nearTo, decide_eq_false_iff_not]; omega
    simp [AngleClock.timed, hn, h]

/-! ### The trim -/

/-- R73, R74: the trim stays within its bound and opposes the error. -/
theorem phaseTrim_bounds {top err : Int} (h : 0 ≤ top) :
    -(top : Rat) ≤ phaseTrim top err ∧ phaseTrim top err ≤ (top : Rat) ∧
      (0 < err → phaseTrim top err ≤ 0) ∧ (err < 0 → 0 ≤ phaseTrim top err) := by
  have htop : (0 : Rat) ≤ (top : Rat) := by exact_mod_cast h
  simp only [phaseTrim]
  refine ⟨?_, ?_, fun he => ?_, fun he => ?_⟩
  · rw [neg_le_neg_iff]
    exact max_le (by linarith) (min_le_left _ _)
  · rw [neg_le]
    exact le_max_left _ _
  · have he' : (0 : Rat) < (err : Rat) := by exact_mod_cast he
    rw [neg_nonpos]
    exact le_max_of_le_right (le_min htop (by positivity))
  · have he' : (err : Rat) < 0 := by exact_mod_cast he
    rw [neg_nonneg]
    refine max_le (by linarith) (min_le_of_right_le ?_)
    exact div_nonpos_of_nonpos_of_nonneg (by linarith) (by norm_num)

/-! ### The three parts -/

theorem toInt24_bounds (v : BitVec 24) : -8388608 ≤ v.toInt ∧ v.toInt < 8388608 := by
  have h := v.isLt
  rw [BitVec.toInt_eq_toNat_cond]
  split <;> omega

section
variable {s : State} {d : DieId} {count : BitVec 64} (hd : s.fitted d = true) (h0 : d ≠ 0)
include hd h0

/-- R71: what the message is off by. -/
theorem exec_packageTimeDistribution_near {off : Int}
    (hoff : off = ((s.die d).clock.time4 : Int) - (count.toNat * 4 + (s.die d).clock.latency4 : Nat))
    (hin : off.natAbs ≤ 4000) : exec (.packageTimeDistribution d count) s =
      .next (s.setDie d { s.die d with clock := { (s.die d).clock.timed off with slewLeft := -off } }) := by
  subst hoff
  rw [exec_onDie (execPackageTimeDistribution d count s) rfl rfl hd]
  dsimp only
  rw [if_neg (val_ne_zero h0), if_pos hin, State.modClock_eq, State.modClock_eq, State.modDie_modDie]
  rfl

/-- R70: a clock that is further off steps forward or is held. -/
theorem exec_packageTimeDistribution_far {off : Int}
    (hoff : off = ((s.die d).clock.time4 : Int) - (count.toNat * 4 + (s.die d).clock.latency4 : Nat))
    (hin : ¬ off.natAbs ≤ 4000) : exec (.packageTimeDistribution d count) s =
      .next ((s.setDie d { s.die d with clock := { (s.die d).clock.timed off with
        timeStep := true, slewLeft := 0
        time4 := if off < 0 then count.toNat * 4 + (s.die d).clock.latency4 else (s.die d).clock.time4
        hold4 := if off < 0 then 0 else off.natAbs } }).raise d Ev.timeStep) := by
  subst hoff
  rw [exec_onDie (execPackageTimeDistribution d count s) rfl rfl hd]
  dsimp only
  rw [if_neg (val_ne_zero h0), if_neg hin, State.modClock_eq, State.modClock_eq, State.modDie_modDie]
  rfl

end

theorem AngleClock.timed_of_far (c : AngleClock) {off : Int} (h : ¬ off.natAbs ≤ 4000) :
    c.timed off = { c with offsetNs := off / 4, alignRun := 0, timeAligned := false } := by
  have hno : ¬ (-20 ≤ off ∧ off ≤ 20) := by omega
  rw [AngleClock.timed_eq]
  simp [hno]

/-- What a die's clock takes from a reference that finds it off by err (02 R73, R74). -/
def AngleClock.phased (c : AngleClock) (top err : Int) : AngleClock :=
  let good := if err.natAbs ≤ 932 then c.phaseGood + 1 else 0
  let bad := if 1864 < err.natAbs then c.phaseBad + 1 else 0
  let lost := c.phaseLocked && decide (4 ≤ bad)
  { c with
    phaseErr := err, trimPpm := phaseTrim top err, phaseGood := good, phaseBad := bad
    phaseLocked := if lost then false else c.phaseLocked || decide (16 ≤ good), phaseLost := c.phaseLost || lost }

/-- R73 to R75: under the conditions for trim a reference sets it, by an error of 24 bits, and a lost lock is an event. -/
theorem exec_spindlePhaseReference_of_ready {s : State} {d : DieId} (hd : s.fitted d = true) (h0 : d ≠ 0)
    (hr : s.phaseReady d = true) (t0 : BitVec 64) (speed : BitVec 40) :
    ∃ e : BitVec 24, let c := (s.die d).clock
      let t := s.modClock d fun c => c.phased (s.get Obj.phaseTrimMax 0) e.toInt
      exec (.spindlePhaseReference d t0 speed) s = .next
        (if c.phaseLocked && decide (4 ≤ (c.phased (s.get Obj.phaseTrimMax 0) e.toInt).phaseBad) then t.raise d Ev.phaseLost
          else t) := by
  refine ⟨BitVec.ofInt 24 (Config.round ((((s.die d).clock.zeroCross4 : Rat) - t0.toNat * 4) / 4 * speed.toNat * 4 /
    (5 * 2 ^ 32)) - s.get Obj.phaseOffsetAu (dieInst d)), ?_⟩
  rw [exec_onDie (execSpindlePhaseReference d t0 speed s) rfl rfl hd]
  dsimp only
  rw [if_neg (val_ne_zero h0), if_neg (by simp [hr])]
  rfl

section
variable (c : AngleClock) (top err : Int)

theorem AngleClock.phased_good :
    (c.phased top err).phaseGood = if -932 ≤ err ∧ err ≤ 932 then c.phaseGood + 1 else 0 :=
  if_congr (by omega) rfl rfl

theorem AngleClock.phased_bad :
    (c.phased top err).phaseBad = if -1864 ≤ err ∧ err ≤ 1864 then 0 else c.phaseBad + 1 := by
  have hiff : 1864 < err.natAbs ↔ ¬ (-1864 ≤ err ∧ err ≤ 1864) := by omega
  exact (if_congr hiff rfl rfl).trans (ite_not ..)

theorem AngleClock.phased_locked_of_locked (h : c.phaseLocked = true) :
    (c.phased top err).phaseLocked = decide ((c.phased top err).phaseBad < 4) := by
  change (if c.phaseLocked && decide (4 ≤ (c.phased top err).phaseBad) then false else c.phaseLocked || _) = _
  by_cases hb : 4 ≤ (c.phased top err).phaseBad
  · simp [h, hb]
  · simp [h, hb, Nat.lt_of_not_le hb]

theorem AngleClock.phased_locked_of_not_locked (h : c.phaseLocked = false) :
    (c.phased top err).phaseLocked = decide (16 ≤ (c.phased top err).phaseGood) := by
  change (if c.phaseLocked && decide (4 ≤ (c.phased top err).phaseBad) then false
    else c.phaseLocked || decide (16 ≤ (c.phased top err).phaseGood)) = _
  simp [h]

end

/-! ### The three parts -/

/-- R70, R71: a member die's clock by the offset of a message; the anchor's is the reference. -/
theorem packageTime_member (s : State) (d : DieId) (count : BitVec 64) (rtt : Nat) (hd : s.fitted d = true) (h0 : d ≠ 0) :
    let x := s.die d
    let c := x.clock
    let anchor := count.toNat * 4 + c.latency4
    let off : Int := (c.time4 : Int) - anchor
    exec (.fabricLatencyMeasure d rtt) s = .next (s.setDie d { x with clock := { c with latency4 := rtt * 2 } }) ∧
    exec (.timeAlignTimeout d) s = .next (s.setDie d { x with clock := { c with timeAligned := false, alignRun := 0 } }) ∧
    (-4000 ≤ off → off ≤ 4000 → exec (.packageTimeDistribution d count) s = .next (s.setDie d { x with
      clock := { c with
        offsetNs := off / 4, slewLeft := -off, alignRun := if -20 ≤ off ∧ off ≤ 20 then c.alignRun + 1 else 0
        timeAligned := decide (-20 ≤ off ∧ off ≤ 20) && (c.timeAligned || decide (3 ≤ c.alignRun)) } })) ∧
    (off < -4000 ∨ 4000 < off → Runs (.packageTimeDistribution d count) s fun t =>
      Gives [] d { x with
        clock := { c with
          offsetNs := off / 4, slewLeft := 0, alignRun := 0, timeAligned := false, timeStep := true
          time4 := if off < 0 then anchor else c.time4, hold4 := if off < 0 then 0 else off.toNat } } s t ∧
      Logged d 116 Ev.timeStep s t) := by
  intro x c anchor off
  have hoff : off = (c.time4 : Int) - (count.toNat * 4 + c.latency4 : Nat) := rfl
  refine ⟨?_, ?_, fun hlo hhi => ?_, fun hout => ?_⟩
  · rw [exec_onDie (execFabricLatencyMeasure d rtt s) rfl rfl hd, when_true _ (by simpa using h0)]
    rfl
  · rw [exec_onDie (execTimeAlignTimeout d s) rfl rfl hd, when_true _ (by simpa using h0)]
    rfl
  · rw [exec_packageTimeDistribution_near hd h0 hoff (by omega), AngleClock.timed_eq]
  · have hin : ¬ off.natAbs ≤ 4000 := by omega
    have habs : (if off < 0 then 0 else off.natAbs) = if off < 0 then 0 else off.toNat := by
      split
      · rfl
      · omega
    refine Runs.intro (exec_packageTimeDistribution_far hd h0 hoff hin) ?_
    rw [AngleClock.timed_of_far _ hin, habs]
    exact ⟨(Gives.refl.setDie).raise (.inl (by decide)),
      State.raise_logs (s.setDie d _) Ev.timeStep [] (.inl (by decide)) (by decide) (by simp) (by simp) rfl⟩

theorem packageTime_anchor (s : State) (count : BitVec 64) (rtt : Nat) (hd : s.fitted 0 = true) :
    exec (.packageTimeDistribution 0 count) s = .next s ∧ exec (.fabricLatencyMeasure 0 rtt) s = .next s ∧
      exec (.timeAlignTimeout 0) s = .next s := by
  refine ⟨?_, ?_, ?_⟩
  · rw [exec_onDie (execPackageTimeDistribution 0 count s) rfl rfl hd]
    rfl
  · rw [exec_onDie (execFabricLatencyMeasure 0 rtt s) rfl rfl hd]
    rfl
  · rw [exec_onDie (execTimeAlignTimeout 0 s) rfl rfl hd]
    rfl

/-- Settles O9: messages find a member die's clock by their offset; the anchor only sends; a reference sets trim and
lock. -/
theorem packageTimeAndPhase : Obligations.PackageTimeAndPhase := by
  refine ⟨fun s d count rtt hd => ?_, fun s => ?_, fun s d t0 speed hd h0 => ?_⟩
  · by_cases h0 : d = 0
    · subst h0
      have habs : ∀ {p : Prop}, (0 : DieId) ≠ 0 → p := fun h => absurd rfl h
      exact ⟨habs, habs, habs, habs, fun _ => packageTime_anchor s count rtt hd⟩
    · obtain ⟨hlat, hlate, hnear, hfar⟩ := packageTime_member s d count rtt hd h0
      exact ⟨fun _ => hlat, fun _ => hlate, fun _ => hnear, fun _ => hfar, fun h => absurd h h0⟩
  · intro members
    have hsend : ∀ (op : BitVec 8) (v : Nat), members.foldl (fun t d => t.send 0 d op v) s = _ :=
      fun op v => State.foldl_send op v s.members s.members_ne_zero s
    refine ⟨congrArg Host.Outcome.next (hsend 0x21 s.now), ?_⟩
    change (Host.Outcome.next (when _ _ s) : Res) = _
    by_cases hp : s.getB Obj.phaseLockEnable 0 = true
    · rw [when_true _ hp, if_pos hp]
      exact congrArg Host.Outcome.next (hsend 0x26 _)
    · rw [when_false _ (by simpa using hp), if_neg hp]
  · intro x c
    refine ⟨fun hr => ?_, fun hr htop => ?_⟩
    · rw [exec_onDie (execSpindlePhaseReference d t0 speed s) rfl rfl hd]
      dsimp only
      rw [if_neg (val_ne_zero h0), if_pos (by simp [hr])]
      rfl
    · obtain ⟨e, hexec⟩ := exec_spindlePhaseReference_of_ready hd h0 hr t0 speed
      have hmod : Gives [] d { x with clock := c.phased (s.get Obj.phaseTrimMax 0) e.toInt } s
          (s.modClock d fun c => c.phased (s.get Obj.phaseTrimMax 0) e.toInt) := Gives.refl.modClock
      refine Runs.intro hexec ?_
      generalize hlost : (c.phaseLocked && decide (4 ≤ (c.phased (s.get Obj.phaseTrimMax 0) e.toInt).phaseBad)) = lost
      have hgives : Gives [] d { x with clock := c.phased (s.get Obj.phaseTrimMax 0) e.toInt } s
          (if lost = true then (s.modClock d fun c => c.phased (s.get Obj.phaseTrimMax 0) e.toInt).raise d Ev.phaseLost
            else s.modClock d fun c => c.phased (s.get Obj.phaseTrimMax 0) e.toInt) := by
        split
        · exact hmod.raise (.inl (by decide))
        · exact hmod
      obtain ⟨hbounds, hbounds'⟩ := toInt24_bounds e
      obtain ⟨htrim, htrim', hpos, hneg⟩ := phaseTrim_bounds (err := e.toInt) htop
      dsimp only
      rw [hgives.clock]
      refine ⟨hgives, rfl, rfl, rfl, hbounds, hbounds', htrim, htrim', hpos, hneg, c.phased_good .., c.phased_bad ..,
        c.phased_locked_of_locked _ _, c.phased_locked_of_not_locked _ _, fun hl hb => ?_⟩
      have hlost' : lost = true := by
        rw [← hlost]
        simp [hl, hb]
      refine ⟨?_, ?_⟩
      · change (c.phaseLost || (c.phaseLocked && decide (4 ≤ (c.phased (s.get Obj.phaseTrimMax 0) e.toInt).phaseBad))) = true
        rw [hlost, hlost', Bool.or_true]
      · rw [if_pos hlost']
        exact State.raise_logs (s.modClock d _) Ev.phaseLost [] (.inl (by decide)) (by decide)
          (by simp [State.modClock_eq]) (by simp [State.modClock_eq]) rfl

end Sys2Proof.Machine

/-! PROOFS. The PWM period, the observer and the predicted periods (03 R84 to R97). -/

namespace Sys2Proof.Machine

/-! ### What the spindle's operations leave alone -/

/-- Entry to COASTING changes the clock, the heads, the paused runs and the counter window of its die; the angle goes
on. -/
theorem State.coastEntry_shape (s : State) (d : DieId) : ∃ c hs rs b,
    s.coastEntry d = s.setDie d { s.die d with
      clock := c, heads := hs, calRuns := rs, obs := { (s.die d).obs with bwCoast := b } } ∧
      c.acc = (s.die d).clock.acc ∧ c.state = .coasting := by
  by_cases h : (s.die d).clock.state = .coasting
  · refine ⟨(s.die d).clock, (s.die d).heads, (s.die d).calRuns, (s.die d).obs.bwCoast, ?_, rfl, h⟩
    have hc : (s.die d).clock.coasting = true := by simp [AngleClock.coasting, h]
    simp only [State.coastEntry, hc, if_true]
    exact (State.setDie_die s d).symm
  · exact ⟨_, _, _, _, State.coastEntry_setDie h, rfl, rfl⟩

/-- What a PWM period leaves alone: the tables, the angle, the media, the actuators, the host's side, the other dies,
and MOD_MAX. -/
structure PwmFrame (d : DieId) (s t : State) : Prop where
  table : (t.die d).spin.table = (s.die d).spin.table
  acc : (t.die d).clock.acc = (s.die d).clock.acc
  data : (t.die d).data = (s.die d).data
  actA : (t.die d).actA = (s.die d).actA
  actB : (t.die d).actB = (s.die d).actB
  host : t.host = s.host
  slots : t.slots = s.slots
  others : ∀ e, e ≠ d → t.die e = s.die e
  modMax : t.getQ Obj.modMax (dieInst d) = s.getQ Obj.modMax (dieInst d)

theorem State.getQ_congr {s t : State} {o : ObjDef} {inst : Nat} (h : t.get o inst = s.get o inst) :
    t.getQ o inst = s.getQ o inst := by rw [State.getQ, State.getQ, h]

theorem State.get_of_objs_eq {s t : State} (h : t.objs = s.objs) (o : ObjDef) (inst : Nat) : t.get o inst = s.get o inst := by
  simp [State.get, State.getSub, h]

/-- A write of one object leaves another's value. -/
theorem State.putSub_get_ne (s : State) {o p : ObjDef} {sub i j : Nat} {v : Int}
    (h : objKey p.index p.sub j ≠ objKey o.index sub i) : (s.putSub o sub i v).get p j = s.get p j :=
  State.get_congr (State.putSub_find?_ne s o sub i v h)

theorem objKey_ne {i i' s s' n n' : Nat} (h : i * 256 + s ≠ i' * 256 + s') (hn : n < 256) (hn' : n' < 256) :
    objKey i s n ≠ objKey i' s' n' := by
  intro heq
  have hname : ∀ a b c : Nat, c < 256 → objKey a b c / 256 = a * 256 + b := by
    intro a b c hc
    simp only [objKey]
    omega
  exact h ((hname i s n hn).symm.trans ((congrArg (· / 256) heq).trans (hname i' s' n' hn')))

theorem State.bump_get_ne (s : State) {o p : ObjDef} {i j k : Nat} (h : p.name ≠ o.name) (hi : i < 256) (hj : j < 256) :
    (s.bump o i k).get p j = s.get p j :=
  State.putSub_get_ne s (objKey_ne h hj hi)

theorem State.put_get_ne (s : State) {o p : ObjDef} {i j : Nat} {v : Int} (h : p.name ≠ o.name) (hi : i < 256)
    (hj : j < 256) : (s.put o i v).get p j = s.get p j :=
  State.putSub_get_ne s (objKey_ne h hj hi)

namespace PwmFrame
variable {d : DieId} {s t u : State}

theorem refl : PwmFrame d s s := ⟨rfl, rfl, rfl, rfl, rfl, rfl, rfl, fun _ _ => rfl, rfl⟩

theorem trans (h : PwmFrame d s t) (k : PwmFrame d t u) : PwmFrame d s u :=
  ⟨k.table.trans h.table, k.acc.trans h.acc, k.data.trans h.data, k.actA.trans h.actA, k.actB.trans h.actB,
    k.host.trans h.host, k.slots.trans h.slots, fun e he => (k.others e he).trans (h.others e he),
    k.modMax.trans h.modMax⟩

/-- A change within the die. -/
theorem setDie {x : Die} (h1 : x.spin.table = (s.die d).spin.table) (h2 : x.clock.acc = (s.die d).clock.acc)
    (h3 : x.data = (s.die d).data) (h4 : x.actA = (s.die d).actA) (h5 : x.actB = (s.die d).actB) :
    PwmFrame d s (s.setDie d x) :=
  ⟨by simpa using h1, by simpa using h2, by simpa using h3, by simpa using h4, by simpa using h5, rfl, rfl,
    fun e he => State.setDie_die_ne s d e x he, rfl⟩

theorem modSpin {f : Spindle → Spindle} (h : (f (s.die d).spin).table = (s.die d).spin.table) :
    PwmFrame d s (s.modSpin d f) := setDie h rfl rfl rfl rfl

theorem modClock {f : AngleClock → AngleClock} (h : (f (s.die d).clock).acc = (s.die d).clock.acc) :
    PwmFrame d s (s.modClock d f) := setDie rfl h rfl rfl rfl

theorem calRecheck : PwmFrame d s (s.calRecheck d) := setDie rfl rfl rfl rfl rfl

theorem powerSettle : PwmFrame d s (s.powerSettle d) := setDie rfl rfl rfl rfl rfl

/-- A change of the objects other than MOD_MAX. -/
theorem of_objs (hd : t.dies = s.dies) (hh : t.host = s.host) (hs : t.slots = s.slots)
    (hm : t.get Obj.modMax (dieInst d) = s.get Obj.modMax (dieInst d)) : PwmFrame d s t := by
  have hdie : ∀ e, t.die e = s.die e := fun e => by simp [State.die, hd]
  exact ⟨by rw [hdie], by rw [hdie], by rw [hdie], by rw [hdie], by rw [hdie], hh, hs, fun e _ => hdie e,
    State.getQ_congr hm⟩

theorem bump {o : ObjDef} {i k : Nat} (ho : Obj.modMax.name ≠ o.name) (hi : i < 256) : PwmFrame d s (s.bump o i k) :=
  of_objs (State.bump_dies ..) (State.putSub_host ..) (State.putSub_slots ..)
    (State.bump_get_ne s ho hi (dieInst_lt d))

theorem spinResult {v : Int} : PwmFrame d s (s.spinResult d v) :=
  of_objs (State.putSub_dies ..) (State.putSub_host ..) (State.putSub_slots ..)
    (State.put_get_ne s (by decide) (dieInst_lt d) (dieInst_lt d))

theorem fresh {n : Nat} : PwmFrame d s { s with fresh := n } := of_objs rfl rfl rfl rfl

theorem coastEntry : PwmFrame d s (s.coastEntry d) := by
  obtain ⟨c, hs, rs, o, heq, hacc, -⟩ := State.coastEntry_shape s d
  rw [heq]
  exact setDie rfl hacc rfl rfl rfl

theorem floatDrive {st : SpinState} : PwmFrame d s (s.floatDrive d st) := (modSpin rfl).trans coastEntry

theorem setCoastRate : PwmFrame d s (s.setCoastRate d) := by
  unfold State.setCoastRate
  exact modClock rfl

theorem raise {k : EventKind} {data : List (Nat × Int)} (hk : k.src ≠ 119) : PwmFrame d s (s.raise d k data) := by
  have hr := State.raise_reported [] s d k data (.inl hk)
  have hside : ∀ {α : Type} (f : State → α), (∀ u : State, f (u.side []) = f u) → f (s.raise d k data) = f s := by
    intro α f hf
    rw [← hf, hr.1, hf]
  exact ⟨by rw [hr.spin], by rw [hr.clock], by rw [hr.data], hr.act .A, hr.act .B,
    hside State.host fun _ => rfl, hside State.slots fun _ => rfl, fun e he => hr.die_ne he,
    State.getQ_congr (State.raise_get s d k data (.inl hk) (by decide) (dieInst_lt d))⟩

theorem ite {c : Prop} [Decidable c] (h : PwmFrame d s t) (k : PwmFrame d s u) : PwmFrame d s (if c then t else u) := by
  split
  · exact h
  · exact k

theorem reacquire : PwmFrame d s (s.reacquire d) :=
  (((((floatDrive (st := .reacquiring)).trans (modSpin rfl)).trans setCoastRate).trans
    (bump (by decide) (dieInst_lt d))).trans (raise (by decide))).trans calRecheck

theorem requestSlot : PwmFrame d s (s.requestSlot d) := ite refl (of_objs rfl rfl rfl rfl)

theorem senseStart : PwmFrame d s (s.senseStart d) := floatDrive.trans (modSpin rfl)

theorem brake {why : BrakeFor} : PwmFrame d s (s.brake d why) := modSpin rfl

theorem alignStart : PwmFrame d s (s.alignStart d) := by
  unfold State.alignStart
  exact modSpin rfl

theorem spinStopped : PwmFrame d s (s.spinStopped d) :=
  ((floatDrive.trans (modSpin rfl)).trans (ite spinResult refl)).trans powerSettle

/-! ### The parts of a period -/

theorem angleSource : PwmFrame d s (s.angleSource d) := by
  unfold State.angleSource
  dsimp only
  split
  · exact ite (ite (modSpin rfl) (modSpin rfl)) (modSpin rfl)
  · exact ite refl (ite (modSpin rfl) (ite reacquire refl))
  · exact refl
  · exact refl

theorem sampleCurrents {x : PwmSample} : PwmFrame d s (s.sampleCurrents d x) := by
  unfold State.sampleCurrents
  dsimp only
  refine ite (modSpin ?_) (ite ?_ ?_)
  · rfl
  · refine (PwmFrame.trans (modSpin ?_) (bump (by decide) (dieInst_lt d))).trans (bump (by decide) (dieInst_lt d))
    rfl
  · refine (PwmFrame.trans ?_ (bump (by decide) (dieInst_lt d))).trans (bump (by decide) (dieInst_lt d))
    refine PwmFrame.trans (modSpin ?_) fresh
    rfl

theorem observe {x : PwmSample} {u v w : Rat} : PwmFrame d s (s.observe d x u v w) := by
  unfold State.observe
  dsimp only
  refine PwmFrame.trans (modSpin ?_) fresh
  rfl

theorem speedLoop {v dt : Rat} : PwmFrame d s (s.speedLoop d v dt) := by
  unfold State.speedLoop
  exact modSpin rfl

theorem observerCycle {b : BitVec 24} : PwmFrame d s (s.observerCycle d b) := by
  unfold State.observerCycle
  dsimp only
  refine ite (ite ?_ (modSpin rfl)) (ite (modSpin rfl) (ite (modSpin rfl) refl))
  exact speedLoop.trans (ite setCoastRate refl)

theorem slowedDown : PwmFrame d s (s.slowedDown d) := by
  unfold State.slowedDown
  dsimp only
  split
  · refine ite refl ?_
    split
    · exact alignStart
    · exact spinStopped
    · exact ite senseStart (floatDrive.trans requestSlot)
  · exact ite spinStopped refl
  · exact ite brake refl
  · exact refl

theorem rampStep : PwmFrame d s (s.rampStep d) := by
  unfold State.rampStep
  exact ite refl (modSpin rfl)

theorem currentLoop : PwmFrame d s (s.currentLoop d) := by
  unfold State.currentLoop
  exact modSpin rfl

theorem formDuties : PwmFrame d s (s.formDuties d) := by
  unfold State.formDuties
  exact modSpin rfl

theorem speedRevs : PwmFrame d s (s.speedRevs d) := by
  unfold State.speedRevs
  exact ite refl (modSpin rfl)

end PwmFrame

/-! ### The end of a period: ramp, current, duties -/

/-- The period up to what falling speed brings about (03 R86 to R99). -/
def State.pwmSensed (s : State) (d : DieId) (x : PwmSample) : State :=
  let p := (s.die d).spin
  ((((s.angleSource d).sampleCurrents d x).observe d x p.iU p.iV p.iW).observerCycle d p.obsTheta).slowedDown d

/-- The braking current (03 R98). -/
def State.pwmBraked (s : State) (d : DieId) : State :=
  let q := (s.die d).spin
  if q.state = .braking ∧ q.gates ≠ .floated ∨ q.state = .braking ∧ (s.die d).bothParked then
    s.modSpin d fun p => { p with
      gates := if p.obsValid then .opposing else .shortBrake
      iCmd := if p.speed < 0 then s.getQ Obj.iRunMax (dieInst d) else -s.getQ Obj.iRunMax (dieInst d) }
  else s

/-- The drive of the period (03 R84, R88, R92). -/
def State.pwmDriven (s : State) (d : DieId) : State :=
  let q := (s.die d).spin
  if q.state.driven then ((s.rampStep d).currentLoop d).formDuties d
  else if q.gates = .opposing then (s.currentLoop d).formDuties d
  else s

theorem exec_pwmPeriod {s : State} {d : DieId} (hd : s.fitted d = true) (x : PwmSample) :
    exec (.pwmPeriod d x) s = .next ((((s.pwmSensed d x).pwmBraked d).pwmDriven d).speedRevs d) := by
  have heq : execPwmPeriod d x s = onDie d s fun s => (((s.pwmSensed d x).pwmBraked d).pwmDriven d).speedRevs d := by
    unfold execPwmPeriod State.pwmDriven State.pwmBraked State.pwmSensed
    with_reducible rfl
  exact exec_onDie (execPwmPeriod d x s) rfl heq hd

theorem PwmFrame.pwmSensed {d : DieId} {s : State} {x : PwmSample} : PwmFrame d s (s.pwmSensed d x) :=
  (((PwmFrame.angleSource.trans PwmFrame.sampleCurrents).trans PwmFrame.observe).trans PwmFrame.observerCycle).trans
    PwmFrame.slowedDown

theorem PwmFrame.pwmBraked {d : DieId} {s : State} : PwmFrame d s (s.pwmBraked d) := by
  unfold State.pwmBraked
  exact PwmFrame.ite (PwmFrame.modSpin rfl) PwmFrame.refl

theorem PwmFrame.pwmDriven {d : DieId} {s : State} : PwmFrame d s (s.pwmDriven d) := by
  unfold State.pwmDriven
  exact PwmFrame.ite ((PwmFrame.rampStep.trans PwmFrame.currentLoop).trans PwmFrame.formDuties)
    (PwmFrame.ite (PwmFrame.currentLoop.trans PwmFrame.formDuties) PwmFrame.refl)

/-- The duties of a spindle follow from its angle, its modulation and its table (03 R84). -/
def Spindle.dutiesFormed (p : Spindle) : Prop :=
  p.dU = 1 / 2 + 1 / 2 * p.m * p.table.amplitude p.thetaE ∧
  p.dV = 1 / 2 + 1 / 2 * p.m * p.table.amplitude (p.thetaE - 5592405) ∧
  p.dW = 1 / 2 + 1 / 2 * p.m * p.table.amplitude (p.thetaE - 11184811)

theorem State.formDuties_formed (s : State) (d : DieId) : ((s.formDuties d).die d).spin.dutiesFormed := by
  simp only [State.formDuties, State.modSpin_eq, State.modDie_die_self]
  exact ⟨rfl, rfl, rfl⟩

theorem State.formDuties_kept (s : State) (d : DieId) :
    ((s.formDuties d).die d).spin.m = (s.die d).spin.m ∧ ((s.formDuties d).die d).spin.state = (s.die d).spin.state := by
  simp only [State.formDuties, State.modSpin_eq, State.modDie_die_self, and_self]

/-- R89: the modulation is cut at 0 and at MOD_MAX. -/
theorem State.currentLoop_m (s : State) (d : DieId) :
    0 ≤ ((s.currentLoop d).die d).spin.m ∧ (0 ≤ s.getQ Obj.modMax (dieInst d) →
      ((s.currentLoop d).die d).spin.m ≤ s.getQ Obj.modMax (dieInst d)) := by
  simp only [State.currentLoop, State.modSpin_eq, State.modDie_die_self]
  refine ⟨le_max_left _ _, fun h => max_le h (min_le_of_left_le ?_)⟩
  split
  · exact min_le_right _ _
  · exact le_refl _

theorem State.currentLoop_state (s : State) (d : DieId) :
    ((s.currentLoop d).die d).spin.state = (s.die d).spin.state := by
  simp only [State.currentLoop, State.modSpin_eq, State.modDie_die_self]

/-- What the drive of a period comes to where it is engaged after it: the duties and a modulation in its range. -/
theorem State.pwmDriven_spec (s : State) (d : DieId) (h : ((s.pwmDriven d).die d).spin.state.driven = true) :
    ((s.pwmDriven d).die d).spin.dutiesFormed ∧ 0 ≤ ((s.pwmDriven d).die d).spin.m ∧
      (0 ≤ s.getQ Obj.modMax (dieInst d) → ((s.pwmDriven d).die d).spin.m ≤ s.getQ Obj.modMax (dieInst d)) := by
  by_cases hdriven : (s.die d).spin.state.driven = true
  · have heq : s.pwmDriven d = ((s.rampStep d).currentLoop d).formDuties d := if_pos hdriven
    obtain ⟨hm, -⟩ := ((s.rampStep d).currentLoop d).formDuties_kept d
    obtain ⟨hlo, hhi⟩ := (s.rampStep d).currentLoop_m d
    rw [PwmFrame.rampStep.modMax] at hhi
    rw [heq, hm]
    exact ⟨State.formDuties_formed .., hlo, hhi⟩
  · exfalso
    have heq : s.pwmDriven d = if (s.die d).spin.gates = .opposing then (s.currentLoop d).formDuties d else s :=
      if_neg hdriven
    rw [heq] at h
    split at h
    · rw [((s.currentLoop d).formDuties_kept d).2, State.currentLoop_state] at h
      exact hdriven h
    · exact hdriven h

theorem State.modSpin_spin (s : State) (d : DieId) (f : Spindle → Spindle) :
    ((s.modSpin d f).die d).spin = f (s.die d).spin := by rw [State.modSpin_die_self]

/-- The revolution's count of near speed leaves what the drive has formed. -/
theorem State.speedRevs_spin (s : State) (d : DieId) : ∃ rev run,
    ((s.speedRevs d).die d).spin = { (s.die d).spin with speedRev := rev, speedRun := run } := by
  unfold State.speedRevs
  dsimp only
  split
  · exact ⟨_, _, rfl⟩
  · exact ⟨_, _, State.modSpin_spin s d _⟩

/-- R84, R88, R89: a PWM period. -/
theorem pwmPeriod_runs (s : State) (d : DieId) (x : PwmSample) (hd : s.fitted d = true) :
    Runs (.pwmPeriod d x) s fun t =>
      let p := (t.die d).spin
      (p.state.driven = true → p.dutiesFormed ∧
        0 ≤ p.m ∧ (0 ≤ s.getQ Obj.modMax (dieInst d) → p.m ≤ s.getQ Obj.modMax (dieInst d))) ∧
      PwmFrame d s t := by
  refine Runs.intro (exec_pwmPeriod hd x) ?_
  have hbraked : PwmFrame d s ((s.pwmSensed d x).pwmBraked d) := PwmFrame.pwmSensed.trans PwmFrame.pwmBraked
  generalize (s.pwmSensed d x).pwmBraked d = u at hbraked ⊢
  obtain ⟨rev, run, hspin⟩ := (u.pwmDriven d).speedRevs_spin d
  refine ⟨fun h => ?_, (hbraked.trans PwmFrame.pwmDriven).trans PwmFrame.speedRevs⟩
  rw [hspin] at h
  obtain ⟨hduties, hlo, hhi⟩ := u.pwmDriven_spec d h
  rw [hbraked.modMax] at hhi
  rw [hspin]
  exact ⟨hduties, hlo, hhi⟩

/-! ### The observer -/

/-- The drive engages on the observer (03 R92, R103): what it sets of the spindle. -/
theorem State.engage_spin (s : State) (d : DieId) (st : SpinState) (speed : Rat) : ∃ p,
    s.engage d st speed = s.setDie d { s.die d with spin := p } ∧ p.state = st ∧ p.src = .observer ∧ p.gates = .driven ∧
      p.obsValid = (s.die d).spin.obsValid ∧ p.speed = speed ∧ p.ramp = speed ∧
      p.obsTheta = (s.die d).spin.obsTheta ∧
      (st ≠ .stopping → p.setPoint = (s.get Obj.setRpm (dieInst d) : Rat)) :=
  ⟨_, rfl, rfl, rfl, rfl, rfl, rfl, rfl, rfl, fun h => if_neg h⟩

section
variable {s : State} {d : DieId}

/-- R95: the observer of a spindle that is valid now. -/
def Spindle.valid (p : Spindle) : Spindle := { p with obsValid := true }

theorem exec_observerValid_of_openLoop (hd : s.fitted d = true) (hv : (s.die d).spin.obsValid = false)
    (hg : 32 ≤ (s.die d).spin.obsGoodRun) (hst : (s.die d).spin.state = .openLoop) :
    exec (.observerValid d) s = .next ((s.modSpin d Spindle.valid).engage d .ramping (s.die d).spin.obsSpeed) := by
  rw [exec_onDie (execObserverValid d s) rfl rfl hd, when_true _ (by simp [hv, hg])]
  exact congrArg Host.Outcome.next (if_pos hst)

theorem exec_observerValid_of_reacquiring (hd : s.fitted d = true) (hv : (s.die d).spin.obsValid = false)
    (hg : 32 ≤ (s.die d).spin.obsGoodRun) (hst : (s.die d).spin.state = .reacquiring) (hc : 18 ≤ (s.die d).spin.cycles) :
    exec (.observerValid d) s = .next (((s.modSpin d Spindle.valid).engage d
      (if (s.die d).spin.stopping then .stopping else .ramping) (s.die d).spin.obsSpeed).calRecheck d) := by
  rw [exec_onDie (execObserverValid d s) rfl rfl hd, when_true _ (by simp [hv, hg])]
  exact congrArg Host.Outcome.next ((if_neg (by simp [hst])).trans (if_pos ⟨hst, hc⟩))

theorem exec_observerValid_of_not_waiting (hd : s.fitted d = true) (hv : (s.die d).spin.obsValid = false)
    (hg : 32 ≤ (s.die d).spin.obsGoodRun) (ho : (s.die d).spin.state ≠ .openLoop)
    (hr : (s.die d).spin.state ≠ .reacquiring) :
    exec (.observerValid d) s = .next (s.modSpin d Spindle.valid) := by
  rw [exec_onDie (execObserverValid d s) rfl rfl hd, when_true _ (by simp [hv, hg])]
  exact congrArg Host.Outcome.next ((if_neg ho).trans (if_neg (fun h => hr h.1)))

/-- R95: the observer's run counts cleared, and with them its validity. -/
def Spindle.unobserved (p : Spindle) : Spindle :=
  { p with obsValid := false, obsGoodRun := 0, obsBadRun := 0, obsCurRun := 0 }

theorem exec_observerDiverged_of_clock (hd : s.fitted d = true)
    (hb : 8 ≤ (s.die d).spin.obsBadRun ∨ 8 ≤ (s.die d).spin.obsCurRun) (hsrc : (s.die d).spin.src = .clock)
    (hl : (s.die d).clock.state = .locked) :
    exec (.observerDiverged d) s = .next ((s.modSpin d fun p => { p.unobserved with
      obsTheta := s.clockTheta d, obsSpeed := incrRpm (s.die d).clock.incr.toNat }).bump Obj.observerLossCount
        (dieInst d)) := by
  rw [exec_onDie (execObserverDiverged d s) rfl rfl hd, when_true _ (by simpa using hb)]
  exact congrArg Host.Outcome.next (if_pos ⟨hsrc, hl⟩)

theorem exec_observerDiverged_of_running (hd : s.fitted d = true)
    (hb : 8 ≤ (s.die d).spin.obsBadRun ∨ 8 ≤ (s.die d).spin.obsCurRun)
    (hl : (s.die d).clock.state ≠ .locked)
    (hst : (s.die d).spin.state = .ramping ∨ (s.die d).spin.state = .atSpeed ∨ (s.die d).spin.state = .stopping) :
    exec (.observerDiverged d) s = .next ((s.modSpin d Spindle.unobserved).reacquire d) := by
  rw [exec_onDie (execObserverDiverged d s) rfl rfl hd, when_true _ (by simpa using hb)]
  exact congrArg Host.Outcome.next ((if_neg fun h => hl h.2).trans (if_pos ⟨hst, hl⟩))

end

/-- The value of a counter after it has counted. -/
theorem State.bump_get_self (s : State) (o : ObjDef) (inst k : Nat) :
    (s.bump o inst k).get o inst = min o.typ.top (s.get o inst + k) := State.getSub_putSub_self ..

/-- The phases float: what it sets of the spindle and of the clock. -/
theorem State.floatDrive_shape (s : State) (d : DieId) (st : SpinState) : ∃ y,
    s.floatDrive d st = s.setDie d y ∧
    y.spin = { (s.die d).spin with
      state := st, gates := .floated, src := .none, m := 0, curInt := 0, spdInt := 0, iCmd := 0 } ∧
    y.clock.acc = (s.die d).clock.acc ∧ y.clock.state = .coasting := by
  unfold State.floatDrive
  generalize hu : s.modSpin d _ = u
  obtain ⟨c, hs, rs, o, heq, hacc, hst⟩ := State.coastEntry_shape u d
  subst hu
  refine ⟨_, heq.trans (State.setDie_setDie ..), State.modSpin_spin .., hacc.trans (by rw [State.modSpin_die_self]), hst⟩

/-- Turning at the coasting rate keeps the angle and the clock's state. -/
theorem Gives.setCoastRate {cs : List ObjDef} {d : DieId} {x : Die} {s t : State} (h : Gives cs d x s t) :
    ∃ c, Gives cs d { x with clock := c } s (t.setCoastRate d) ∧ c.acc = x.clock.acc ∧ c.state = x.clock.state := by
  unfold State.setCoastRate
  exact ⟨_, h.modClock, rfl, rfl⟩

/-- R99, R105: re-acquisition. -/
theorem State.reacquire_spec (s : State) (d : DieId) :
    let t := s.reacquire d
    (t.die d).spin = { (s.die d).spin with
      state := .reacquiring, gates := .floated, src := .none, m := 0, curInt := 0, spdInt := 0, iCmd := 0, obsLoss := true
      crossings := [], cycles := 0, obsValid := false, obsGoodRun := 0, obsBadRun := 0 } ∧
    (t.die d).clock.state = .coasting ∧ (t.die d).clock.acc = (s.die d).clock.acc ∧
    Within [Obj.observerLossCount] d s t := by
  obtain ⟨y, heq, hspin, hacc, hst⟩ := s.floatDrive_shape d .reacquiring
  have hmod : Gives [Obj.observerLossCount] d y s (s.floatDrive d .reacquiring) := by
    rw [heq]
    exact Gives.refl.setDie
  unfold State.reacquire
  dsimp only
  generalize s.floatDrive d .reacquiring = u at hmod
  obtain ⟨c, hrate, hacc', hst'⟩ := (hmod.modSpin (f := fun p => { p with
    obsLoss := true, crossings := [], cycles := 0, obsValid := false, obsGoodRun := 0, obsBadRun := 0 })).setCoastRate
  have hgives := ((hrate.bump (o := Obj.observerLossCount) (k := 1) (List.mem_singleton_self _) (dieInst_lt d)).raise
    (k := Ev.spinObserverLoss) (data := []) (.inl (by decide))).calRecheck
  refine ⟨hgives.spin.trans ?_, (congrArg AngleClock.state hgives.clock).trans (hst'.trans hst),
    (congrArg AngleClock.acc hgives.clock).trans (hacc'.trans hacc), hgives.within⟩
  rw [hspin]

/-- A spindle put in the place of a changed one. -/
theorem State.modSpin_setDie_spin (s : State) (d : DieId) (f : Spindle → Spindle) (q : Spindle) :
    (s.modSpin d f).setDie d { (s.modSpin d f).die d with spin := q } = s.setDie d { s.die d with spin := q } := by
  rw [State.modSpin_die_self, State.modSpin_eq]
  exact State.setDie_setDie ..

/-- R95 to R97, R99, R105: the observer becomes valid, and it diverges. -/
theorem observer_runs (s : State) (d : DieId) (hd : s.fitted d = true) :
    let x := s.die d
    let p := x.spin
    (p.obsValid = false → 32 ≤ p.obsGoodRun → p.state = .openLoop → Runs (.observerValid d) s fun t =>
      let q := (t.die d).spin
      q.state = .ramping ∧ q.src = .observer ∧ q.gates = .driven ∧ q.obsValid = true ∧ q.speed = p.obsSpeed ∧
      q.ramp = p.obsSpeed ∧ q.setPoint = (s.get Obj.setRpm (dieInst d) : Rat) ∧ q.obsTheta = p.obsTheta ∧
      t = s.setDie d { x with spin := q }) ∧
    (p.obsValid = false → 32 ≤ p.obsGoodRun → p.state = .reacquiring → 18 ≤ p.cycles → Runs (.observerValid d) s fun t =>
      (t.die d).spin.state = (if p.stopping then .stopping else .ramping) ∧ (t.die d).spin.src = .observer ∧
      (t.die d).spin.gates = .driven ∧ (t.die d).spin.obsValid = true ∧
      t = s.setDie d { x with spin := (t.die d).spin, calRuns := (t.die d).calRuns }) ∧
    (8 ≤ p.obsBadRun ∨ 8 ≤ p.obsCurRun → p.src = .clock → x.clock.state = .locked → Runs (.observerDiverged d) s fun t =>
      Gives [Obj.observerLossCount] d { x with
        spin := { p with
          obsValid := false, obsGoodRun := 0, obsBadRun := 0, obsCurRun := 0
          obsTheta := s.clockTheta d, obsSpeed := incrRpm x.clock.incr.toNat } } s t ∧
      t.get Obj.observerLossCount (dieInst d) = min 4294967295 (s.get Obj.observerLossCount (dieInst d) + 1)) ∧
    (8 ≤ p.obsBadRun ∨ 8 ≤ p.obsCurRun → x.clock.state ≠ .locked →
      p.state = .ramping ∨ p.state = .atSpeed ∨ p.state = .stopping → Runs (.observerDiverged d) s fun t =>
      let q := (t.die d).spin
      q.state = .reacquiring ∧ q.gates = .floated ∧ q.src = .none ∧ q.obsValid = false ∧ q.obsLoss = true ∧
      q.crossings = [] ∧ q.cycles = 0 ∧ (t.die d).clock.state = .coasting ∧ (t.die d).clock.acc = x.clock.acc ∧
      Within [Obj.observerLossCount] d s t) := by
  intro x p
  refine ⟨fun hv hg hst => ?_, fun hv hg hst hc => ?_, fun hb hsrc hl => ?_, fun hb hl hst => ?_⟩
  · refine Runs.intro (exec_observerValid_of_openLoop hd hv hg hst) ?_
    obtain ⟨q, heq, h1, h2, h3, h4, h5, h6, h7, h8⟩ := (s.modSpin d Spindle.valid).engage_spin d .ramping p.obsSpeed
    rw [State.modSpin_spin] at h4 h7
    rw [heq, State.setDie_die_self]
    exact ⟨h1, h2, h3, h4, h5, h6, h8 (by decide), h7, State.modSpin_setDie_spin ..⟩
  · refine Runs.intro (exec_observerValid_of_reacquiring hd hv hg hst hc) ?_
    generalize (if (s.die d).spin.stopping then SpinState.stopping else .ramping) = st
    obtain ⟨q, heq, h1, h2, h3, h4, -⟩ := (s.modSpin d Spindle.valid).engage_spin d st p.obsSpeed
    rw [State.modSpin_spin] at h4
    replace heq := heq.trans (State.modSpin_setDie_spin ..)
    rw [heq, State.calRecheck, State.modDie_die_self, State.setDie_die_self]
    exact ⟨h1, h2, h3, h4, (State.setDie_setDie ..).trans (by rw [State.setDie_die_self])⟩
  · refine Runs.intro (exec_observerDiverged_of_clock hd hb hsrc hl) ⟨?_, State.bump_get_self ..⟩
    exact (Gives.refl.modSpin).bump (List.mem_singleton_self _) (dieInst_lt d)
  · refine Runs.intro (exec_observerDiverged_of_running hd hb hl hst) ?_
    obtain ⟨hspin, hclock, hacc, hwithin⟩ := (s.modSpin d Spindle.unobserved).reacquire_spec d
    rw [hspin]
    exact ⟨rfl, rfl, rfl, rfl, rfl, rfl, rfl, hclock, hacc.trans (by rw [State.modSpin_die_self]),
      Within.refl.modDie.trans hwithin⟩

/-! ### Predicted periods and hand-over -/

theorem exec_predictClamp_of_run {s : State} {d : DieId} (hd : s.fitted d = true) (hc : (s.die d).spin.clamp = false)
    (hr : 16 ≤ (s.die d).spin.predictRun) : exec (.predictClamp d) s = .next
      ((s.modSpin d fun p => { p with clamp := true, predict := true, m := min p.m (9 / 10) }).raise d Ev.spinPredict) := by
  rw [exec_onDie (execPredictClamp d s) rfl rfl hd, when_true _ (by simp [hc, hr])]

theorem exec_predictClampRelease_of_run {s : State} {d : DieId} (hd : s.fitted d = true)
    (hc : (s.die d).spin.clamp = true) (hr : 256 ≤ (s.die d).spin.twoValidRun) :
    exec (.predictClampRelease d) s = .next (s.modSpin d fun p => { p with clamp := false }) := by
  rw [exec_onDie (execPredictClampRelease d s) rfl rfl hd, when_true _ (by simp [hc, hr])]

theorem exec_spinHandoverMismatch_of_late {s : State} {d : DieId} (hd : s.fitted d = true) {n : Nat}
    (hn : (s.die d).spin.mismatchSince = some n) (hsrc : (s.die d).spin.src = .observer)
    (hl : (s.die d).clock.state = .locked)
    (hlate : 2 ^ 24 ≤ stampDiff (s.die d).clock.stamp (BitVec.ofNat 48 n)) :
    exec (.spinHandoverMismatch d) s = .next
      ((s.modSpin d fun p => { p with
        handoverMismatch := true, mismatchSince := some (s.die d).clock.stamp.toNat }).raise d Ev.spinHandoverMismatch) := by
  rw [exec_onDie (execSpinHandoverMismatch d s) rfl rfl hd]
  dsimp only
  rw [hn]
  exact congrArg Host.Outcome.next (when_true _ (by simpa [hsrc, hl] using hlate))

/-- Settles O10: a period keeps what it does not drive and forms its duties from the modulation; the observer's validity
moves the spindle; runs of predicted periods move the clamp. -/
theorem pwmObserverAndPrediction : Obligations.PwmObserverAndPrediction := by
  refine ⟨fun s d x hd => ?_, fun s d hd => ?_, fun s d hd => ?_⟩
  · refine (pwmPeriod_runs s d x hd).mono fun t h => ?_
    obtain ⟨hdriven, hframe⟩ := h
    refine ⟨fun h => ?_, hframe.table, hframe.acc, hframe.data, hframe.actA, hframe.actB, hframe.host, hframe.slots,
      hframe.others⟩
    obtain ⟨⟨hu, hv, hw⟩, hlo, hhi⟩ := hdriven h
    exact ⟨hu, hv, hw, hlo, hhi⟩
  · exact ⟨exec_observerValid_of_not_waiting hd, observer_runs s d hd⟩
  · refine ⟨fun hc hr => Runs.intro (exec_predictClamp_of_run hd hc hr) ⟨(Gives.refl.modSpin).raise (.inl (by decide)), ?_⟩,
      exec_predictClampRelease_of_run hd, fun n hn hsrc hl hlate =>
        Runs.intro (exec_spinHandoverMismatch_of_late hd hn hsrc hl hlate) ⟨(Gives.refl.modSpin).raise (.inl (by decide)), ?_⟩⟩
    · exact State.raise_logs (s.modSpin d _) Ev.spinPredict [] (.inl (by decide)) (by decide) (by simp) (by simp) rfl
    · exact State.raise_logs (s.modSpin d _) Ev.spinHandoverMismatch [] (.inl (by decide)) (by decide) (by simp) (by simp) rfl

end Sys2Proof.Machine

/-! PROOFS. What the operations on actuators and calibration runs keep of their die. -/

namespace Sys2Proof.Machine

/-- What f shows of die d is as it was, and every other die is as it was. -/
structure KeptBy {α : Type} (f : Die → α) (d : DieId) (s t : State) : Prop where
  self : f (t.die d) = f (s.die d)
  others : ∀ e, e ≠ d → t.die e = s.die e

namespace KeptBy
variable {α : Type} {f : Die → α} {d : DieId} {s t u : State}

theorem refl : KeptBy f d s s := ⟨rfl, fun _ _ => rfl⟩

theorem trans (h : KeptBy f d s t) (k : KeptBy f d t u) : KeptBy f d s u :=
  ⟨k.self.trans h.self, fun e he => (k.others e he).trans (h.others e he)⟩

theorem of_dies (h : t.dies = s.dies) : KeptBy f d s t := by
  have hdie : ∀ e, t.die e = s.die e := fun e => by simp [State.die, h]
  exact ⟨by rw [hdie], fun e _ => hdie e⟩

theorem setDie {x : Die} (h : f x = f (s.die d)) : KeptBy f d s (s.setDie d x) :=
  ⟨by rw [State.setDie_die_self, h], fun _ he => State.setDie_die_ne s d _ x he⟩

theorem modDie {g : Die → Die} (h : ∀ x, f (g x) = f x) : KeptBy f d s (s.modDie d g) := setDie (h _)

theorem modSpin {g : Spindle → Spindle} (hf : ∀ x p, f { x with spin := p } = f x) : KeptBy f d s (s.modSpin d g) :=
  modDie fun _ => hf _ _

theorem modClock {g : AngleClock → AngleClock} (hf : ∀ x c, f { x with clock := c } = f x) : KeptBy f d s (s.modClock d g) :=
  modDie fun _ => hf _ _

theorem modData {g : DieData → DieData} (hf : ∀ x v, f { x with data := v } = f x) : KeptBy f d s (s.modData d g) :=
  modDie fun _ => hf _ _

theorem ite {c : Prop} [Decidable c] (h : KeptBy f d s t) (k : KeptBy f d s u) : KeptBy f d s (if c then t else u) := by
  split
  · exact h
  · exact k

theorem foldl {β : Type} {g : State → β → State} (h : ∀ s x, KeptBy f d s (g s x)) (l : List β) (s : State) :
    KeptBy f d s (l.foldl g s) := by
  induction l generalizing s with
  | nil => exact refl
  | cons x l ih => exact (h s x).trans (ih _)

theorem emit {o : Out} : KeptBy f d s (s.emit o) := of_dies rfl

theorem putSub {o : ObjDef} {sub i : Nat} {v : Int} : KeptBy f d s (s.putSub o sub i v) := of_dies (State.putSub_dies ..)

theorem put {o : ObjDef} {i : Nat} {v : Int} : KeptBy f d s (s.put o i v) := putSub

theorem actResult {b : DieId} {a : Act} {v : Int} : KeptBy f d s (s.actResult b a v) := put

theorem spinResult {b : DieId} {v : Int} : KeptBy f d s (s.spinResult b v) := put

theorem calReport {i kind code seq revs : Nat} {v w : BitVec 64} : KeptBy f d s (s.calReport i kind code seq revs v w) :=
  of_dies (by simp [State.calReport, State.put_eq])

theorem bump {o : ObjDef} {i k : Nat} : KeptBy f d s (s.bump o i k) := putSub

theorem reported {cs : List ObjDef} (hf : ∀ x o, f { x with obs := o } = f x) (h : Reported cs d s t) : KeptBy f d s t :=
  ⟨(congrArg f h.die_eq).trans (hf _ _), fun _ he => h.die_ne he⟩

theorem raise {k : EventKind} {data : List (Nat × Int)} (hf : ∀ x o, f { x with obs := o } = f x)
    (hk : k.src ≠ 119 ∨ d = 0) : KeptBy f d s (s.raise d k data) := reported hf (State.raise_reported [] s d k data hk)

theorem modHead {h : HeadId} {g : Head → Head} (hf : ∀ x v, f { x with heads := v } = f x) :
    KeptBy f d s (s.modHead d h g) := modDie fun _ => hf _ _

theorem modAct {a : Act} {g : Actuator → Actuator} (hf : ∀ x v w, f { x with actA := v, actB := w } = f x) :
    KeptBy f d s (s.modAct d a g) := by
  refine modDie fun x => ?_
  cases a
  · exact hf x (g x.actA) x.actB
  · exact hf x x.actA (g x.actB)

theorem calRecheck (hf : ∀ x r, f { x with calRuns := r } = f x) : KeptBy f d s (s.calRecheck d) := modDie fun _ => hf _ _

/-! ### Ends of calibration runs -/

section
variable (hf : ∀ x runs failed hold v, f { x with
  calRuns := runs, calFailed := failed, holdupTest := hold, data := { x.data with vEnd := v } } = f x)
include hf

theorem calEnd {i code seq : Nat} : KeptBy f d s (s.calEnd d i code seq) := by
  unfold State.calEnd
  split
  · exact refl
  · refine KeptBy.trans (KeptBy.trans ?_ calReport) (modDie fun x => ?_)
    · split
      · exact foldl (fun _ _ => calReport) _ _
      · exact refl
    · split
      · exact hf x _ _ _ _
      · exact hf x _ _ _ x.data.vEnd

theorem calAbortIf {p : Nat → CalRun → Bool} : KeptBy f d s (s.calAbortIf d p) := foldl (fun _ _ => calEnd hf) _ _

end

/-! ### Actuators -/

section
variable (ha : ∀ x v w, f { x with actA := v, actB := w } = f x)
include ha

theorem sendVcm {a : Act} {typ : BitVec 2} {cmd : Int} : KeptBy f d s (s.sendVcm d a typ cmd) := (modAct ha).trans emit

theorem retract {a : Act} {why : RetractFor} : KeptBy f d s (s.retract d a why) := (modAct ha).trans (sendVcm ha)

variable (hh : ∀ x v, f { x with heads := v } = f x)
include hh

theorem loadStart {a : Act} : KeptBy f d s (s.loadStart d a) :=
  ((foldl (fun _ _ => modHead hh) _ _).trans (modAct ha)).trans (sendVcm ha)

theorem loadCommand {a : Act} : KeptBy f d s (s.loadCommand d a).1 := by
  have hdone : KeptBy f d s (s.actResult d a 0) := actResult
  have hpend : ∀ t : State, KeptBy f d t (t.actResult d a 1) := fun t => actResult
  unfold State.loadCommand State.loadCheck
  split
  · split
    · exact (modAct ha).trans actResult
    · exact ((modAct ha).trans actResult).trans (loadStart ha hh)
  · split
    · exact (modAct ha).trans actResult
    · exact ((modAct ha).trans actResult).trans (loadStart ha hh)
  · exact hdone
  · exact hdone
  · exact hdone
  · exact hdone
  · exact (modAct ha).trans (hpend _)
  · exact (modAct ha).trans (hpend _)
  · exact (modAct ha).trans (hpend _)

theorem unloadStart {a : Act} : KeptBy f d s (s.unloadStart d a) := (foldl (fun _ _ => modHead hh) _ _).trans (modAct ha)

variable (hf : ∀ x runs failed hold v, f { x with
  calRuns := runs, calFailed := failed, holdupTest := hold, data := { x.data with vEnd := v } } = f x)
include hf

theorem unloadCommand {a : Act} : KeptBy f d s (s.unloadCommand d a) := by
  have hpend : ∀ t : State, KeptBy f d t ((t.modAct d a fun x => { x with
      unloadPending := true, loadPending := false, loadWaits := false }).actResult d a 1) :=
    fun t => (modAct ha).trans actResult
  unfold State.unloadCommand
  split
  · exact actResult
  · exact actResult
  · exact ((calAbortIf hf).trans (unloadStart ha hh)).trans (hpend _)
  · exact ((calAbortIf hf).trans (unloadStart ha hh)).trans (hpend _)
  · exact ((calAbortIf hf).trans (unloadStart ha hh)).trans (hpend _)
  · exact ((calAbortIf hf).trans (retract ha)).trans (hpend _)
  · exact ((calAbortIf hf).trans (retract ha)).trans (hpend _)
  · exact hpend _
  · exact hpend _

end

end KeptBy

section
variable {cs : List ObjDef} {d : DieId} {x : Die} {s t : State}

theorem Gives.modHead {n : HeadId} {f : Head → Head} (h : Gives cs d x s t) :
    Gives cs d (x.modHead n f) s (t.modHead d n f) :=
  h.modDie fun z hz => by
    have h1 : z.heads = x.heads := congrArg Die.heads (a₁ := z.unreported) (a₂ := x.unreported) hz
    have := congrArg (fun y : Die => { y with heads := x.heads.set n (f (x.head n)) }) hz
    simpa [Die.unreported, Die.modHead, Die.setHead, Die.head, h1] using this

theorem Gives.modAct {a : Act} {f : Actuator → Actuator} (h : Gives cs d x s t) :
    Gives cs d (x.modAct a f) s (t.modAct d a f) :=
  h.modDie fun z hz => by
    cases a with
    | A =>
      have h1 : z.actA = x.actA := congrArg Die.actA (a₁ := z.unreported) (a₂ := x.unreported) hz
      have := congrArg (fun y : Die => { y with actA := f x.actA }) hz
      simpa [Die.unreported, Die.modAct, Die.setAct, Die.act, h1] using this
    | B =>
      have h1 : z.actB = x.actB := congrArg Die.actB (a₁ := z.unreported) (a₂ := x.unreported) hz
      have := congrArg (fun y : Die => { y with actB := f x.actB }) hz
      simpa [Die.unreported, Die.modAct, Die.setAct, Die.act, h1] using this

theorem Gives.modData {f : DieData → DieData} (h : Gives cs d x s t) :
    Gives cs d { x with data := f x.data } s (t.modData d f) :=
  h.modDie fun z hz => by
    have h1 : z.data = x.data := congrArg Die.data (a₁ := z.unreported) (a₂ := x.unreported) hz
    have := congrArg (fun y : Die => { y with data := f x.data }) hz
    simpa [Die.unreported, h1] using this

theorem Gives.modMem {f : MemState → MemState} (h : Gives cs d x s t) :
    Gives cs d { x with mem := f x.mem } s (t.modMem d f) :=
  h.modDie fun z hz => by
    have h1 : z.mem = x.mem := congrArg Die.mem (a₁ := z.unreported) (a₂ := x.unreported) hz
    have := congrArg (fun y : Die => { y with mem := f x.mem }) hz
    simpa [Die.unreported, h1] using this

theorem Gives.modEng {f : EngState → EngState} (h : Gives cs d x s t) :
    Gives cs d { x with eng := f x.eng } s (t.modEng d f) :=
  h.modDie fun z hz => by
    have h1 : z.eng = x.eng := congrArg Die.eng (a₁ := z.unreported) (a₂ := x.unreported) hz
    have := congrArg (fun y : Die => { y with eng := f x.eng }) hz
    simpa [Die.unreported, h1] using this

theorem Gives.modHk {f : HkState → HkState} (h : Gives cs d x s t) :
    Gives cs d { x with hk := f x.hk } s (t.modHk d f) :=
  h.modDie fun z hz => by
    have h1 : z.hk = x.hk := congrArg Die.hk (a₁ := z.unreported) (a₂ := x.unreported) hz
    have := congrArg (fun y : Die => { y with hk := f x.hk }) hz
    simpa [Die.unreported, h1] using this

/-- What is given reads an object as before that reporting does not count in. -/
theorem Gives.get (h : Gives cs d x s t) {o : ObjDef} {i : Nat} (ho : ∀ p ∈ Obj.eventLogOverwritten :: cs, o.name ≠ p.name)
    (hi : i < 256) : t.get o i = s.get o i :=
  State.get_congr (State.find?_of_side_eq h.1 (by rwa [objKey_name o i hi]))

end

/-- What an event's record depends on, and where it goes. -/
def Die.record (x : Die) : DieLife × List Cnt × List EvRec × Nat := (x.life, x.obs.cnts, x.obs.log, x.obs.nextSeq)

/-- What is logged is logged as well from a state with the same record. -/
theorem Logged.of_kept {d : DieId} {n : Nat} {k : EventKind} {s u t : State} (h : Logged d n k u t)
    (hk : KeptBy Die.record d s u) : Logged d n k s t := by
  have hlife : (u.die d).life = (s.die d).life := congrArg (fun r => r.1) hk.self
  have hcnts : (u.die d).obs.cnts = (s.die d).obs.cnts := congrArg (fun r => r.2.1) hk.self
  have hlog : (u.die d).obs.log = (s.die d).obs.log := congrArg (fun r => r.2.2.1) hk.self
  have hseq : (u.die d).obs.nextSeq = (s.die d).obs.nextSeq := congrArg (fun r => r.2.2.2) hk.self
  intro hi hc
  have := h (by simpa [State.isolated, hlife] using hi) (by rw [hcnts]; exact hc)
  rwa [hlog, hseq] at this

/-- t is s but for its dies, its objects and its outputs. -/
def Local (s t : State) : Prop := ∃ v o w, t = { s with dies := v, objs := o, out := w }

namespace Local
variable {s t u : State} {d : DieId}

theorem refl : Local s s := ⟨s.dies, s.objs, s.out, rfl⟩

theorem trans (h : Local s t) (k : Local t u) : Local s u := by
  obtain ⟨v, o, w, rfl⟩ := h
  obtain ⟨v', o', w', rfl⟩ := k
  exact ⟨v', o', w', rfl⟩

theorem setDie {x : Die} : Local s (s.setDie d x) := ⟨_, _, _, rfl⟩

theorem modDie {g : Die → Die} : Local s (s.modDie d g) := setDie

theorem emit {o : Out} : Local s (s.emit o) := ⟨_, _, _, rfl⟩

theorem putSub {o : ObjDef} {sub i : Nat} {v : Int} : Local s (s.putSub o sub i v) := by
  unfold State.putSub
  split
  · exact ⟨_, _, _, rfl⟩
  · exact ⟨_, _, _, rfl⟩

theorem actResult {a : Act} {v : Int} : Local s (s.actResult d a v) := putSub

theorem spinResult {v : Int} : Local s (s.spinResult d v) := putSub

theorem foldl {β : Type} {g : State → β → State} (h : ∀ s x, Local s (g s x)) (l : List β) (s : State) :
    Local s (l.foldl g s) := by
  induction l generalizing s with
  | nil => exact refl
  | cons x l ih => exact (h s x).trans (ih _)

theorem sendVcm {a : Act} {typ : BitVec 2} {cmd : Int} : Local s (s.sendVcm d a typ cmd) := ⟨_, _, _, rfl⟩

theorem loadStart {a : Act} : Local s (s.loadStart d a) := ((foldl (fun _ _ => modDie) _ _).trans modDie).trans sendVcm

theorem loadCommand {a : Act} : Local s (s.loadCommand d a).1 := by
  have hcheck : Local s (s.loadCheck d a).1 := by
    unfold State.loadCheck
    split
    · exact modDie.trans actResult
    · exact (modDie.trans actResult).trans loadStart
  have hdone : Local s (s.actResult d a 0) := actResult
  have hpend : ∀ t : State, Local t (t.actResult d a 1) := fun t => actResult
  unfold State.loadCommand
  split
  · exact hcheck
  · exact hcheck
  · exact hdone
  · exact hdone
  · exact hdone
  · exact hdone
  · exact modDie.trans (hpend _)
  · exact modDie.trans (hpend _)
  · exact modDie.trans (hpend _)

end Local

end Sys2Proof.Machine

/-! PROOFS. Start and stop of a spindle, and the spin-up slots (03 R83, R99, R100, R104). -/

namespace Sys2Proof.Machine

/-! ### Commands written to CMD entries -/

section
variable {d : DieId} {s : State} {f : State → State × Option Nat} (hd : s.fitted d = true)
include hd

theorem objCommand_isolated (hi : s.isolated d = true) : objCommand d s f = .next (s.answer St.dieIsolated) := by
  simp [objCommand, onDie, hd, hi]

theorem objCommand_taken (hi : s.isolated d = false) (hf : (f s).2 = none) :
    objCommand d s f = .next ((f s).1.answer St.success) := by
  simp [objCommand, onDie, hd, hi, hf]

theorem objCommand_refused (hi : s.isolated d = false) {c : Nat} (hf : (f s).2 = some c) :
    objCommand d s f = .next ((f s).1.answer St.objectStateConflict (BitVec.ofNat 64 c)) := by
  simp [objCommand, onDie, hd, hi, hf]

end

section
variable (s : State) (st : BitVec 16) (r : BitVec 64) (v : List Byte)

@[simp] theorem State.answer_reply : (s.answer st r v).reply = ⟨st, r, v⟩ := rfl
@[simp] theorem State.answer_dies : (s.answer st r v).dies = s.dies := rfl
@[simp] theorem State.answer_die (e : DieId) : (s.answer st r v).die e = s.die e := rfl
@[simp] theorem State.answer_get (o : ObjDef) (i : Nat) : (s.answer st r v).get o i = s.get o i := rfl

end

/-! ### Spin-up slots -/

section
variable (s : State) (d : DieId)

@[simp] theorem State.requestSlot_dies : (s.requestSlot d).dies = s.dies := by
  unfold State.requestSlot
  split <;> rfl

@[simp] theorem State.requestSlot_die (e : DieId) : (s.requestSlot d).die e = s.die e := by simp [State.die]

/-- R104: a die that has asked for a slot waits for one or has one. -/
theorem State.requestSlot_asks : d ∈ (s.requestSlot d).spinReq ∨ d ∈ (s.requestSlot d).spinHeld := by
  unfold State.requestSlot
  split
  · next h => simpa [List.contains_iff_mem] using h
  · exact .inl (by simp)

@[simp] theorem State.releaseSlot_die (e : DieId) : (s.releaseSlot d).die e = s.die e := rfl

theorem State.releaseSlot_not_held : d ∉ (s.releaseSlot d).spinHeld := by simp [State.releaseSlot]

theorem State.releaseSlot_not_asked : d ∉ (s.releaseSlot d).spinReq := by simp [State.releaseSlot]

@[simp] theorem State.spinResult_die (v : Int) (e : DieId) : (s.spinResult d v).die e = s.die e := by
  simp [State.spinResult, State.put_eq, State.die]

@[simp] theorem State.spinResult_spinHeld (v : Int) : (s.spinResult d v).spinHeld = s.spinHeld := by
  simp [State.spinResult, State.put_eq]

@[simp] theorem State.spinResult_spinReq (v : Int) : (s.spinResult d v).spinReq = s.spinReq := by
  simp [State.spinResult, State.put_eq]

@[simp] theorem State.spinResult_get (v : Int) : (s.spinResult d v).get Obj.spinResult (dieInst d) = v :=
  State.getSub_putSub_self ..

end

theorem KeptBy.releaseSlot {α : Type} {f : Die → α} {d e : DieId} {s : State} : KeptBy f e s (s.releaseSlot d) :=
  KeptBy.of_dies rfl

/-- The phases float: the spindle, the clock, the heads, the runs and the counter window of the die are touched. -/
theorem KeptBy.floatDrive {α : Type} {f : Die → α} {d : DieId} {s : State} {st : SpinState}
    (hf : ∀ x p c hs rs b, f { x with
      spin := p, clock := c, heads := hs, calRuns := rs, obs := { x.obs with bwCoast := b } } = f x) :
    KeptBy f d s (s.floatDrive d st) := by
  unfold State.floatDrive
  generalize hu : s.modSpin d _ = u
  obtain ⟨c, hs, rs, o, heq, -, -⟩ := State.coastEntry_shape u d
  rw [heq]
  refine KeptBy.trans (t := u) ?_ (KeptBy.setDie (hf (u.die d) (u.die d).spin c hs rs o))
  rw [← hu]
  exact KeptBy.setDie (hf (s.die d) _ (s.die d).clock (s.die d).heads (s.die d).calRuns (s.die d).obs.bwCoast)

/-! ### Start -/

/-- A start that is under way (03 R99). -/
def State.startPend (s : State) (d : DieId) : State :=
  (s.modSpin d fun p => { p with startPending := true, stopPending := false, stopping := false }).spinResult d 1

/-- A start from rest: the phases float and a slot is asked for (03 R99 rows 1, 19, 29). -/
def State.startOver (s : State) (d : DieId) : State :=
  (((s.floatDrive d .staggerWait).modSpin d fun p => { p with retries := 0 }).requestSlot d).startPend d

theorem State.startPend_spec (s : State) (d : DieId) :
    (((s.startPend d).die d).spin =
      { (s.die d).spin with startPending := true, stopPending := false, stopping := false }) ∧
    (s.startPend d).get Obj.spinResult (dieInst d) = 1 ∧ ∀ e, e ≠ d → (s.startPend d).die e = s.die e := by
  unfold State.startPend
  refine ⟨?_, State.spinResult_get .., fun e he => ?_⟩
  · rw [State.spinResult_die, State.modSpin_spin]
  · rw [State.spinResult_die, State.modSpin_die_ne _ _ _ _ he]

theorem State.startOver_spec (s : State) (d : DieId) :
    let t := s.startOver d
    let q := (t.die d).spin
    (q.state = .staggerWait ∧ q.gates = .floated ∧ q.src = .none ∧ q.startPending = true ∧ q.stopPending = false ∧
      q.retries = 0 ∧ (d ∈ t.spinReq ∨ d ∈ t.spinHeld) ∧ (t.die d).clock.state = .coasting ∧
      t.get Obj.spinResult (dieInst d) = 1) ∧ ∀ e, e ≠ d → t.die e = s.die e := by
  intro t q
  obtain ⟨y, hfloat, hspin, -, hclock⟩ := s.floatDrive_shape d .staggerWait
  have ht : t = (((s.setDie d y).modSpin d fun p => { p with retries := 0 }).requestSlot d).startPend d := by
    rw [← hfloat]
    rfl
  generalize hv : (s.setDie d y).modSpin d _ = v at ht
  obtain ⟨hq, hres, hothers⟩ := (v.requestSlot d).startPend_spec d
  have hslot := v.requestSlot_asks d
  have hvdie : v.die d = { y with spin := { y.spin with retries := 0 } } := by
    rw [← hv, State.modSpin_die_self, State.setDie_die_self]
  have hq' : q = _ := (congrArg (fun u : State => (u.die d).spin) ht).trans hq
  rw [State.requestSlot_die, hvdie, hspin] at hq'
  rw [hq', ht]
  refine ⟨⟨rfl, rfl, rfl, rfl, rfl, rfl, ?_, ?_, hres⟩, fun e he => ?_⟩
  · unfold State.startPend
    rw [State.spinResult_spinReq, State.spinResult_spinHeld]
    exact hslot
  · rw [State.startPend, State.spinResult_die, State.modSpin_die_self, State.requestSlot_die, hvdie]
    exact hclock
  · rw [hothers e he, State.requestSlot_die, ← hv, State.modSpin_die_ne _ _ _ _ he, State.setDie_die_ne _ _ _ _ he]

/-- A table mismatch refuses a start (03 R83). -/
theorem State.spinStartCommand_refused {s : State} {d : DieId} (h : (s.die d).spin.tableMatch = false) :
    s.spinStartCommand d = ((s.raise d Ev.spinTableMismatch).spinResult d 5, some 5) := by
  unfold State.spinStartCommand
  simp only [h, Bool.not_false, if_true]

/-- What a start makes of the block, once it has ended the hold-up test's run, by the state it meets (03 R99). -/
def State.startBy (s : State) (d : DieId) (p : Spindle) : State :=
  match p.state with
  | .stopped | .fault | .stopping => s.startOver d
  | .braking => if p.brakeFor = .stop then s.startOver d else s.startPend d
  | .atSpeed => s.spinResult d 0
  | .retractBrake => s.spinResult d 2
  | .staggerWait | .sensing | .aligning | .openLoop | .ramping | .reacquiring => s.startPend d

theorem State.spinStartCommand_taken {s : State} {d : DieId} (h : (s.die d).spin.tableMatch = true) :
    ∃ u, KeptBy Die.spin d s u ∧ s.spinStartCommand d = (u.startBy d (s.die d).spin, none) := by
  refine ⟨s.calAbortIf d fun _ r => r.kind == 7, KeptBy.calAbortIf fun _ _ _ _ _ => rfl, ?_⟩
  unfold State.spinStartCommand State.startBy
  simp only [h, Bool.not_true, Bool.false_eq_true, if_false]
  cases (s.die d).spin.state
  case braking =>
    dsimp only
    split
    · rfl
    · rfl
  all_goals rfl

theorem exec_spinStart (s : State) (d : DieId) : exec (.spinStart d) s = objCommand d s (·.spinStartCommand d) := rfl

theorem exec_spinStop (s : State) (d : DieId) :
    exec (.spinStop d) s = objCommand d s fun s => (s.spinStopCommand d, none) := rfl

/-- A start of a die in service (03 R83, R99). -/
theorem runs_spinStart {s : State} {d : DieId} (hd : s.fitted d = true) (hi : s.isolated d = false)
    (h : (s.die d).spin.tableMatch = true) : ∃ u, KeptBy Die.spin d s u ∧
    exec (.spinStart d) s = .next ((u.startBy d (s.die d).spin).answer St.success) := by
  obtain ⟨u, hkept, heq⟩ := State.spinStartCommand_taken h
  have hexec := (exec_spinStart s d).trans (objCommand_taken hd hi (congrArg Prod.snd heq))
  rw [heq] at hexec
  exact ⟨u, hkept, hexec⟩

/-! ### Stop -/

/-- Every die's spindle is as it was. -/
def SpinsKept (s t : State) : Prop := ∀ e, (t.die e).spin = (s.die e).spin

theorem KeptBy.spins {d : DieId} {s t : State} (h : KeptBy Die.spin d s t) : SpinsKept s t := by
  intro e
  by_cases he : e = d
  · exact he ▸ h.self
  · rw [h.others e he]

theorem SpinsKept.trans {s t u : State} (h : SpinsKept s t) (k : SpinsKept t u) : SpinsKept s u :=
  fun e => (k e).trans (h e)

/-- What a lost phase reference touches of a member die is its clock (02 R75). -/
theorem State.phaseReferenceGone_spins (s : State) : SpinsKept s s.phaseReferenceGone := by
  unfold State.phaseReferenceGone
  split
  · next hlock =>
    clear hlock
    generalize s.fittedDies.filter _ = l
    induction l generalizing s with
    | nil => exact fun _ => rfl
    | cons d l ih =>
      have hstep : KeptBy Die.spin d s ((s.modClock d fun c => { c.noPhase with phaseLost := true }).raise d Ev.phaseLost) :=
        KeptBy.trans (KeptBy.modClock fun _ _ => rfl) (KeptBy.raise (k := Ev.phaseLost) (fun _ _ => rfl) (.inl (by decide)))
      exact hstep.spins.trans (ih _)
  · exact fun _ => rfl

/-- A stop that is under way (03 R99). -/
def State.stopPend (s : State) (d : DieId) : State :=
  (s.modSpin d fun p => { p with stopPending := true, startPending := false }).spinResult d 1

/-- What a stop makes of the block, once it has ended the runs that need the spindle, by the state it meets
(03 R99). -/
def State.stopBy (s : State) (d : DieId) (p : Spindle) : State :=
  match p.state with
  | .stopped => s.spinResult d 0
  | .staggerWait | .sensing =>
    (((s.floatDrive d .stopped).releaseSlot d).modSpin d fun p => { p with startPending := false, stopPending := false })
      |>.spinResult d 0
  | .braking => if p.brakeFor = .stop then s.stopPend d else ((s.brake d .stop).releaseSlot d).stopPend d
  | .aligning | .openLoop => ((s.brake d .stop).releaseSlot d).stopPend d
  | .fault => (s.brake d .stop).stopPend d
  | .stopping => s.stopPend d
  | .ramping | .atSpeed =>
    (((s.unloadBoth d).releaseSlot d).modSpin d fun p => { p with
      state := .stopping, setPoint := 0, stopping := true, staggerHold := false }).stopPend d
  | .reacquiring => (s.modSpin d fun p => { p with stopping := true }).stopPend d
  | .retractBrake => s.spinResult d 2

theorem State.spinStopCommand_eq (s : State) (d : DieId) :
    ∃ u, SpinsKept s u ∧ s.spinStopCommand d = u.stopBy d (s.die d).spin := by
  refine ⟨_, ?_, by unfold State.spinStopCommand State.stopBy; rfl⟩
  have habort : ∀ c : Prop, [Decidable c] → SpinsKept s (if c then s else s.calAbortIf d calTurning) := fun c _ =>
    (KeptBy.ite KeptBy.refl (KeptBy.calAbortIf fun _ _ _ _ _ => rfl)).spins
  split
  · exact (habort _).trans (State.phaseReferenceGone_spins _)
  · exact habort _

section
variable (s : State) (d : DieId)

theorem State.stopPend_spec :
    ((s.stopPend d).die d).spin = { (s.die d).spin with stopPending := true, startPending := false } ∧
    (s.stopPend d).get Obj.spinResult (dieInst d) = 1 ∧ (s.stopPend d).spinHeld = s.spinHeld := by
  unfold State.stopPend
  refine ⟨?_, State.spinResult_get .., State.spinResult_spinHeld ..⟩
  rw [State.spinResult_die, State.modSpin_spin]

theorem State.stopPend_kept : KeptBy (fun _ => ()) d s (s.stopPend d) := (KeptBy.modSpin fun _ _ => rfl).trans KeptBy.spinResult

/-- A stop touches no other die once the runs have ended. -/
theorem State.stopBy_kept (p : Spindle) : KeptBy (fun _ => ()) d s (s.stopBy d p) := by
  have hbrake : ∀ u : State, KeptBy (fun _ => ()) d u (((u.brake d .stop).releaseSlot d).stopPend d) := fun u =>
    ((KeptBy.modSpin fun _ _ => rfl).trans KeptBy.releaseSlot).trans (State.stopPend_kept ..)
  have hunload : ∀ (u : State) (a : Act), KeptBy (fun _ => ()) d u (u.unloadCommand d a) := fun _ _ =>
    KeptBy.unloadCommand (fun _ _ _ => rfl) (fun _ _ => rfl) (fun _ _ _ _ _ => rfl)
  unfold State.stopBy
  cases p.state
  case stopped => exact KeptBy.spinResult
  case staggerWait | sensing =>
    exact (((KeptBy.floatDrive fun _ _ _ _ _ _ => rfl).trans KeptBy.releaseSlot).trans
      (KeptBy.modSpin fun _ _ => rfl)).trans KeptBy.spinResult
  case braking => exact KeptBy.ite (s.stopPend_kept d) (hbrake s)
  case aligning | openLoop => exact hbrake s
  case fault => exact (KeptBy.modSpin fun _ _ => rfl).trans (State.stopPend_kept ..)
  case stopping => exact s.stopPend_kept d
  case ramping | atSpeed =>
    exact ((((hunload s .A).trans (hunload _ .B)).trans KeptBy.releaseSlot).trans
      (KeptBy.modSpin fun _ _ => rfl)).trans (State.stopPend_kept ..)
  case reacquiring => exact (KeptBy.modSpin fun _ _ => rfl).trans (State.stopPend_kept ..)
  case retractBrake => exact KeptBy.spinResult

end

section
variable {u : State} {d : DieId} {p : Spindle}

theorem State.stopBy_of_resting (h : p.state = .staggerWait ∨ p.state = .sensing) :
    let t := u.stopBy d p
    (t.die d).spin.state = .stopped ∧ (t.die d).spin.gates = .floated ∧ d ∉ t.spinReq ∧ d ∉ t.spinHeld ∧
      t.get Obj.spinResult (dieInst d) = 0 := by
  have heq : u.stopBy d p = (((u.floatDrive d .stopped).releaseSlot d).modSpin d fun p => { p with
      startPending := false, stopPending := false }).spinResult d 0 := by
    rcases h with h | h
    · simp only [State.stopBy, h]
    · simp only [State.stopBy, h]
  obtain ⟨y, hfloat, hspin, -⟩ := u.floatDrive_shape d .stopped
  dsimp only
  rw [heq, State.spinResult_die, State.modSpin_spin, State.spinResult_spinReq, State.spinResult_spinHeld]
  have hy : (((u.floatDrive d .stopped).releaseSlot d).die d).spin = y.spin := by
    rw [hfloat]
    exact congrArg Die.spin (State.setDie_die_self u d y)
  rw [hy, hspin]
  exact ⟨rfl, rfl, State.releaseSlot_not_asked _ _, State.releaseSlot_not_held _ _, State.spinResult_get ..⟩

theorem State.brake_spin (u : State) (d : DieId) (why : BrakeFor) : ((u.brake d why).die d).spin = { (u.die d).spin with
    state := .braking, brakeFor := why, gates := if (u.die d).spin.obsValid then .opposing else .shortBrake
    crossings := [] } := State.modSpin_spin ..

/-- Braking for a stop gives the slot back (03 R98, R99, R104). -/
theorem State.brakeStop_spec (u : State) (d : DieId) :
    let t := ((u.brake d .stop).releaseSlot d).stopPend d
    (t.die d).spin.state = .braking ∧ (t.die d).spin.brakeFor = .stop ∧ (t.die d).spin.stopPending = true ∧
      d ∉ t.spinHeld ∧ t.get Obj.spinResult (dieInst d) = 1 := by
  obtain ⟨hspin, hres, hheld⟩ := ((u.brake d .stop).releaseSlot d).stopPend_spec d
  dsimp only
  rw [hspin, State.releaseSlot_die, State.brake_spin, hheld]
  exact ⟨rfl, rfl, rfl, State.releaseSlot_not_held _ _, hres⟩

theorem State.stopBy_of_starting (h : p.state = .aligning ∨ p.state = .openLoop) :
    u.stopBy d p = ((u.brake d .stop).releaseSlot d).stopPend d := by
  rcases h with h | h
  · simp only [State.stopBy, h]
  · simp only [State.stopBy, h]

theorem State.stopBy_of_turning (h : p.state = .ramping ∨ p.state = .atSpeed) :
    let t := u.stopBy d p
    (t.die d).spin.state = .stopping ∧ (t.die d).spin.setPoint = 0 ∧ (t.die d).spin.stopping = true ∧
      (t.die d).spin.stopPending = true ∧ d ∉ t.spinHeld ∧ t.get Obj.spinResult (dieInst d) = 1 := by
  have heq : u.stopBy d p = (((u.unloadBoth d).releaseSlot d).modSpin d fun p => { p with
      state := .stopping, setPoint := 0, stopping := true, staggerHold := false }).stopPend d := by
    rcases h with h | h
    · simp only [State.stopBy, h]
    · simp only [State.stopBy, h]
  obtain ⟨hspin, hres, hheld⟩ := (((u.unloadBoth d).releaseSlot d).modSpin d fun p => { p with
      state := .stopping, setPoint := 0, stopping := true, staggerHold := false }).stopPend_spec d
  dsimp only
  rw [heq, hspin, State.modSpin_spin, hheld]
  exact ⟨rfl, rfl, rfl, rfl, State.releaseSlot_not_held _ _, hres⟩

/-- A stop of a faulted spindle brakes, and of a braking one goes on (03 R99 row 28). -/
theorem State.stopBy_of_braking (hp : (u.die d).spin = p) (h : p.state = .fault ∨ p.state = .braking) :
    let t := u.stopBy d p
    (t.die d).spin.state = .braking ∧ (t.die d).spin.brakeFor = .stop ∧ (t.die d).spin.stopPending = true ∧
      t.get Obj.spinResult (dieInst d) = 1 := by
  dsimp only
  rcases h with h | h
  · have heq : u.stopBy d p = (u.brake d .stop).stopPend d := by simp only [State.stopBy, h]
    obtain ⟨hspin, hres, -⟩ := (u.brake d .stop).stopPend_spec d
    rw [heq, hspin, State.brake_spin]
    exact ⟨rfl, rfl, rfl, hres⟩
  · by_cases hfor : p.brakeFor = .stop
    · have heq : u.stopBy d p = u.stopPend d := by simp only [State.stopBy, h, hfor, if_true]
      obtain ⟨hspin, hres, -⟩ := u.stopPend_spec d
      rw [heq, hspin, hp]
      exact ⟨h, hfor, rfl, hres⟩
    · have heq : u.stopBy d p = ((u.brake d .stop).releaseSlot d).stopPend d := by
        simp only [State.stopBy, h, hfor, if_false]
      obtain ⟨hst, hbf, hpend, -, hres⟩ := u.brakeStop_spec d
      rw [heq]
      exact ⟨hst, hbf, hpend, hres⟩

end

/-! ### The statement -/

theorem exec_spinupSlotGrant {s : State} {d : DieId} {rest : List DieId} (hreq : s.spinReq = d :: rest)
    (hfree : s.spinHeld.length < s.getN Obj.spinupMaxConcurrent 0) :
    let u := { s with spinReq := rest, spinHeld := s.spinHeld ++ [d] }
    exec .spinupSlotGrant s = .next (if (s.die d).spin.state = .staggerWait then u.senseStart d
      else if (s.die d).spin.staggerHold then u.modSpin d fun p => { p with
        staggerHold := false, setPoint := (s.get Obj.setRpm (dieInst d) : Rat) }
      else u) := by
  change execSpinupSlotGrant s = _
  unfold execSpinupSlotGrant
  simp only [hreq, hfree, if_true]
  rfl

theorem exec_spinupSlotGrant_of_none {s : State} (h : s.spinReq = [] ∨ s.getN Obj.spinupMaxConcurrent 0 ≤ s.spinHeld.length) :
    exec .spinupSlotGrant s = .next s := by
  change execSpinupSlotGrant s = _
  unfold execSpinupSlotGrant
  cases hreq : s.spinReq with
  | nil => rfl
  | cons d rest =>
    have hfull : ¬ s.spinHeld.length < s.getN Obj.spinupMaxConcurrent 0 := by simpa [hreq] using h
    simp only [hfull, if_false]

/-- SENSING: phases floated, no crossing yet (03 R101). -/
theorem State.senseStart_spec (s : State) (d : DieId) : ∃ y, s.senseStart d = s.setDie d y ∧
    y.spin.state = .sensing ∧ y.spin.gates = .floated ∧ y.spin.crossings = [] := by
  obtain ⟨y, hfloat, hspin, -⟩ := s.floatDrive_shape d .sensing
  unfold State.senseStart
  rw [hfloat]
  refine ⟨_, State.setDie_setDie .., ?_⟩
  rw [State.setDie_die_self]
  dsimp only
  rw [hspin]
  exact ⟨rfl, rfl, rfl⟩

section
variable {u : State} {d : DieId} {p : Spindle}

theorem State.startBy_kept : KeptBy (fun _ => ()) d u (u.startBy d p) := by
  have hover : KeptBy (fun _ => ()) d u (u.startOver d) := ⟨rfl, (u.startOver_spec d).2⟩
  have hpend : KeptBy (fun _ => ()) d u (u.startPend d) := (KeptBy.modSpin fun _ _ => rfl).trans KeptBy.spinResult
  unfold State.startBy
  cases p.state
  case stopped | fault | stopping => exact hover
  case braking => exact KeptBy.ite hover hpend
  case atSpeed | retractBrake => exact KeptBy.spinResult
  case staggerWait | sensing | aligning | openLoop | ramping | reacquiring => exact hpend

theorem State.startBy_of_resting (h : p.state = .stopped ∨ p.state = .fault ∨ p.state = .stopping ∨
    (p.state = .braking ∧ p.brakeFor = .stop)) : u.startBy d p = u.startOver d := by
  rcases h with h | h | h | ⟨h, hfor⟩
  · simp only [State.startBy, h]
  · simp only [State.startBy, h]
  · simp only [State.startBy, h]
  · simp only [State.startBy, h, hfor, if_true]

theorem State.startBy_of_starting (h : p.state = .staggerWait ∨ p.state = .sensing ∨ p.state = .aligning ∨
    p.state = .openLoop ∨ p.state = .ramping ∨ p.state = .reacquiring ∨ (p.state = .braking ∧ p.brakeFor ≠ .stop)) :
    u.startBy d p = u.startPend d := by
  rcases h with h | h | h | h | h | h | ⟨h, hfor⟩
  case inr.inr.inr.inr.inr.inr => simp only [State.startBy, h, hfor, if_false]
  all_goals simp only [State.startBy, h]

end

/-- R99: the start command by the state it meets. -/
theorem spinStart_runs {s : State} {d : DieId} (hd : s.fitted d = true) (hi : s.isolated d = false)
    (hm : (s.die d).spin.tableMatch = true) : Runs (.spinStart d) s fun t =>
    let x := s.die d
    let i := dieInst d
    let q := (t.die d).spin
    t.reply = ⟨St.success, 0, []⟩ ∧ (∀ e, e ≠ d → t.die e = s.die e) ∧
    (x.spin.state = .stopped ∨ x.spin.state = .fault ∨ x.spin.state = .stopping ∨
      (x.spin.state = .braking ∧ x.spin.brakeFor = .stop) → q.state = .staggerWait ∧ q.gates = .floated ∧ q.src = .none ∧
      q.startPending = true ∧ q.stopPending = false ∧ q.retries = 0 ∧ (d ∈ t.spinReq ∨ d ∈ t.spinHeld) ∧
      (t.die d).clock.state = .coasting ∧ t.get Obj.spinResult i = 1) ∧
    (x.spin.state = .atSpeed → q = x.spin ∧ t.get Obj.spinResult i = 0) ∧
    (x.spin.state = .retractBrake → q = x.spin ∧ t.get Obj.spinResult i = 2) ∧
    (x.spin.state = .staggerWait ∨ x.spin.state = .sensing ∨ x.spin.state = .aligning ∨ x.spin.state = .openLoop ∨
      x.spin.state = .ramping ∨ x.spin.state = .reacquiring ∨ (x.spin.state = .braking ∧ x.spin.brakeFor ≠ .stop) →
      q = { x.spin with startPending := true, stopPending := false, stopping := false } ∧
      t.get Obj.spinResult i = 1) := by
  obtain ⟨u, hkept, hexec⟩ := runs_spinStart hd hi hm
  have hresult : ∀ v, ((u.spinResult d v).die d).spin = (s.die d).spin ∧
      (u.spinResult d v).get Obj.spinResult (dieInst d) = v := fun v =>
    ⟨by rw [State.spinResult_die, hkept.self], State.spinResult_get ..⟩
  refine Runs.intro hexec ⟨rfl, fun e he => (State.startBy_kept.others e he).trans (hkept.others e he), fun hst => ?_,
    fun hst => ?_, fun hst => ?_, fun hst => ?_⟩
  · rw [State.startBy_of_resting hst]
    exact (u.startOver_spec d).1
  · have heq : u.startBy d (s.die d).spin = u.spinResult d 0 := by simp only [State.startBy, hst]
    rw [heq]
    exact hresult 0
  · have heq : u.startBy d (s.die d).spin = u.spinResult d 2 := by simp only [State.startBy, hst]
    rw [heq]
    exact hresult 2
  · obtain ⟨hspin, hres, -⟩ := u.startPend_spec d
    rw [State.startBy_of_starting hst]
    exact ⟨hspin.trans (by rw [hkept.self]), hres⟩

/-- R99, R100: the stop command by the state it meets. -/
theorem spinStop_runs {s : State} {d : DieId} (hd : s.fitted d = true) (hi : s.isolated d = false) :
    Runs (.spinStop d) s fun t =>
    let x := s.die d
    let i := dieInst d
    let q := (t.die d).spin
    t.reply = ⟨St.success, 0, []⟩ ∧ (∀ e, e ≠ d → (t.die e).spin = (s.die e).spin) ∧
    (x.spin.state = .stopped → q = x.spin ∧ t.get Obj.spinResult i = 0) ∧
    (x.spin.state = .staggerWait ∨ x.spin.state = .sensing → q.state = .stopped ∧ q.gates = .floated ∧ d ∉ t.spinReq ∧
      d ∉ t.spinHeld ∧ t.get Obj.spinResult i = 0) ∧
    (x.spin.state = .aligning ∨ x.spin.state = .openLoop → q.state = .braking ∧ q.brakeFor = .stop ∧
      q.stopPending = true ∧ d ∉ t.spinHeld ∧ t.get Obj.spinResult i = 1) ∧
    (x.spin.state = .ramping ∨ x.spin.state = .atSpeed → q.state = .stopping ∧ q.setPoint = 0 ∧ q.stopping = true ∧
      q.stopPending = true ∧ d ∉ t.spinHeld ∧ t.get Obj.spinResult i = 1) ∧
    (x.spin.state = .fault ∨ x.spin.state = .braking → q.state = .braking ∧ q.brakeFor = .stop ∧
      q.stopPending = true ∧ t.get Obj.spinResult i = 1) ∧
    (x.spin.state = .stopping → q = { x.spin with stopPending := true, startPending := false } ∧
      t.get Obj.spinResult i = 1) ∧
    (x.spin.state = .reacquiring →
      q = { x.spin with stopping := true, stopPending := true, startPending := false } ∧ t.get Obj.spinResult i = 1) ∧
    (x.spin.state = .retractBrake → q = x.spin ∧ t.get Obj.spinResult i = 2) := by
  obtain ⟨u, hkept, heq⟩ := s.spinStopCommand_eq d
  have hexec := (exec_spinStop s d).trans (objCommand_taken hd hi rfl)
  rw [heq] at hexec
  have hresult : ∀ v, ((u.spinResult d v).die d).spin = (s.die d).spin ∧
      (u.spinResult d v).get Obj.spinResult (dieInst d) = v := fun v =>
    ⟨by rw [State.spinResult_die, hkept d], State.spinResult_get ..⟩
  refine Runs.intro hexec ⟨rfl, fun e he => ?_, fun hst => ?_, State.stopBy_of_resting, fun hst => ?_,
    State.stopBy_of_turning, State.stopBy_of_braking (hkept d), fun hst => ?_, fun hst => ?_, fun hst => ?_⟩
  · exact (congrArg Die.spin ((u.stopBy_kept d _).others e he)).trans (hkept e)
  · have hby : u.stopBy d (s.die d).spin = u.spinResult d 0 := by simp only [State.stopBy, hst]
    rw [hby]
    exact hresult 0
  · rw [State.stopBy_of_starting hst]
    exact u.brakeStop_spec d
  · obtain ⟨hspin, hres, -⟩ := u.stopPend_spec d
    have hby : u.stopBy d (s.die d).spin = u.stopPend d := by simp only [State.stopBy, hst]
    rw [hby]
    exact ⟨hspin.trans (by rw [hkept d]), hres⟩
  · obtain ⟨hspin, hres, -⟩ := (u.modSpin d fun p => { p with stopping := true }).stopPend_spec d
    have hby : u.stopBy d (s.die d).spin = (u.modSpin d fun p => { p with stopping := true }).stopPend d := by
      simp only [State.stopBy, hst]
    rw [hby]
    exact ⟨hspin.trans (by rw [State.modSpin_spin, hkept d]), hres⟩
  · have hby : u.stopBy d (s.die d).spin = u.spinResult d 2 := by simp only [State.stopBy, hst]
    rw [hby]
    exact hresult 2

/-- Settles O11: the aborts that come first keep the spindle, so what a command does follows from the state it
meets. -/
theorem spinStartsAndSlots : Obligations.SpinStartsAndSlots := by
  refine ⟨fun s d hd => ⟨fun hi => ⟨(exec_spinStart s d).trans (objCommand_isolated hd hi),
    (exec_spinStop s d).trans (objCommand_isolated hd hi)⟩, fun hi hm => ?_, spinStart_runs hd, spinStop_runs hd⟩,
    fun s => ⟨fun h => exec_spinupSlotGrant_of_none (.inl h), fun h => exec_spinupSlotGrant_of_none (.inr h),
      fun d rest hreq hfree => ?_⟩⟩
  · have hcmd := State.spinStartCommand_refused hm
    have hexec := (exec_spinStart s d).trans (objCommand_refused hd hi (congrArg Prod.snd hcmd))
    rw [hcmd] at hexec
    have hkept : KeptBy (fun x => (x.spin, x.clock)) d s ((s.raise d Ev.spinTableMismatch).spinResult d 5) :=
      (KeptBy.raise (k := Ev.spinTableMismatch) (fun _ _ => rfl) (.inl (by decide))).trans KeptBy.spinResult
    exact Runs.intro hexec ⟨rfl, State.spinResult_get .., congrArg Prod.fst hkept.self, congrArg Prod.snd hkept.self,
      hkept.others⟩
  · have hlen : (s.spinHeld ++ [d]).length ≤ s.getN Obj.spinupMaxConcurrent 0 := by
      rw [List.length_append]
      exact hfree
    refine Runs.intro (exec_spinupSlotGrant hreq hfree) ?_
    by_cases hwait : (s.die d).spin.state = .staggerWait
    · rw [if_pos hwait]
      obtain ⟨y, heq, hst, hgates, hcross⟩ := State.senseStart_spec { s with spinReq := rest, spinHeld := s.spinHeld ++ [d] } d
      rw [heq, State.setDie_die_self]
      exact ⟨rfl, rfl, hlen, fun _ => ⟨hst, hgates, hcross⟩, fun h => absurd hwait h, fun e he => State.setDie_die_ne _ _ _ _ he,
        rfl, rfl⟩
    · rw [if_neg hwait]
      by_cases hhold : (s.die d).spin.staggerHold = true
      · rw [if_pos hhold]
        exact ⟨rfl, rfl, hlen, fun h => absurd h hwait, fun _ _ => State.modSpin_die_self ..,
          fun e he => State.modSpin_die_ne _ _ _ _ he, rfl, rfl⟩
      · rw [if_neg hhold]
        exact ⟨rfl, rfl, hlen, fun h => absurd h hwait, fun _ h => absurd h hhold, fun _ _ => rfl, rfl, rfl⟩

end Sys2Proof.Machine

/-! PROOFS. The spindle's way from standstill to speed (03 R99 to R107). -/

namespace Sys2Proof.Machine

section
variable {s : State} {d : DieId}

/-! ### Crossings -/

section
variable (hd : s.fitted d = true) (phase : Phase) (rising : Bool) (n : Nat)
include hd

theorem exec_bemfZeroCrossing_of_sensing (h : (s.die d).spin.state = .sensing) :
    let c : Crossing := ⟨phase, rising, 4 * n⟩
    let xs := (c :: (s.die d).spin.crossings).take 4
    exec (.bemfZeroCrossing d phase rising n) s = .next (if xs.length < 4 then s.modSpin d fun p => { p with crossings := xs }
      else match runDirection (xs.map fun c => crossIndex c.phase c.rising) with
        | none => s.modSpin d fun p => { p with crossings := [] }
        | some fwd => s.sensed d fwd (crossingRpm (s.die d).spin.table.polePairs 3 (c.t4 - (xs.getD 3 c).t4))
            (crossIndex phase rising)) := by
  rw [exec_onDie (execBemfZeroCrossing d phase rising n s) rfl rfl hd]
  simp only [h] <;> rfl

theorem exec_bemfZeroCrossing_of_reacquiring (h : (s.die d).spin.state = .reacquiring)
    (hc : (s.die d).spin.crossings = []) : exec (.bemfZeroCrossing d phase rising n) s =
      .next (s.modSpin d fun p => { p with crossings := [⟨phase, rising, 4 * n⟩], cycles := 0 }) := by
  rw [exec_onDie (execBemfZeroCrossing d phase rising n s) rfl rfl hd]
  simp only [h, State.reacqCrossing, hc]

theorem exec_bemfZeroCrossing_of_other (h : (s.die d).spin.state ≠ .sensing) (h' : (s.die d).spin.state ≠ .reacquiring) :
    exec (.bemfZeroCrossing d phase rising n) s = .next s := by
  rw [exec_onDie (execBemfZeroCrossing d phase rising n s) rfl rfl hd]
  dsimp only
  split
  · next hst => exact absurd hst h
  · next hst => exact absurd hst h'
  · rfl

end

/-- Reporting aside, only the spindle of die d differs. -/
def SpinOnly (d : DieId) (s t : State) : Prop := Gives [] d { s.die d with spin := (t.die d).spin } s t

theorem SpinOnly.refl : SpinOnly d s s := Gives.refl

theorem SpinOnly.modSpin {t : State} {f : Spindle → Spindle} (h : SpinOnly d s t) : SpinOnly d s (t.modSpin d f) := by
  unfold SpinOnly
  rw [State.modSpin_spin]
  exact Gives.modSpin h

theorem SpinOnly.raise {t : State} {k : EventKind} {data : List (Nat × Int)} (hk : k.src ≠ 119) (h : SpinOnly d s t) :
    SpinOnly d s (t.raise d k data) := by
  unfold SpinOnly
  rw [(State.raise_reported [] t d k data (.inl hk)).spin]
  exact Gives.raise (.inl hk) h

/-- What four crossings of one order have come to (03 R101). -/
def State.decided (s : State) (d : DieId) (fwd : Bool) (rpm : Rat) : State :=
  s.modSpin d fun p => { p with crossings := [], reverse := !fwd, speed := if fwd then rpm else -rpm }

theorem State.decided_spin (s : State) (d : DieId) (fwd : Bool) (rpm : Rat) : ((s.decided d fwd rpm).die d).spin =
    { (s.die d).spin with crossings := [], reverse := !fwd, speed := if fwd then rpm else -rpm } := State.modSpin_spin ..

section
variable (d) (s) {rpm : Rat} (idx : Nat)

theorem State.sensed_of_slow (fwd : Bool) (h : rpm < (s.get Obj.reversalRpm (dieInst d) : Rat)) :
    s.sensed d fwd rpm idx = (s.decided d fwd rpm).alignStart d := if_pos h

variable (h : ¬ rpm < (s.get Obj.reversalRpm (dieInst d) : Rat))
include h

theorem State.sensed_of_reverse : s.sensed d false rpm idx =
    (((s.decided d false rpm).modSpin d fun p => { p with reverseSeen := true }).brake d .start).raise d Ev.spinReverse :=
  if_neg h

theorem State.sensed_of_below_catch (hc : rpm < (s.get Obj.catchRpm (dieInst d) : Rat)) :
    s.sensed d true rpm idx = (s.decided d true rpm).brake d .start := (if_neg h).trans (if_pos hc)

theorem State.sensed_of_catch (hc : ¬ rpm < (s.get Obj.catchRpm (dieInst d) : Rat)) :
    s.sensed d true rpm idx = ((s.decided d true rpm).modSpin d fun p => { p with
      obsTheta := BitVec.ofNat 24 (idx * 16777216 / 6), obsSpeed := rpm, obsValid := false, obsGoodRun := 0
      obsBadRun := 0, obsCurRun := 0 }).engage d .ramping rpm := (if_neg h).trans (if_neg hc)

end

/-- Four crossings of one order: what follows from order and speed (03 R99 rows 4 to 7, R101). -/
theorem State.sensed_spec (s : State) (d : DieId) (fwd : Bool) (rpm : Rat) (idx : Nat) :
    let t := s.sensed d fwd rpm idx
    let q := (t.die d).spin
    let i := dieInst d
    q.crossings = [] ∧ q.reverse = (!fwd) ∧ SpinOnly d s t ∧
      (rpm < (s.get Obj.reversalRpm i : Rat) → q.state = .aligning ∧ q.src = .openLoop ∧ q.thetaE = 0) ∧
      ((s.get Obj.reversalRpm i : Rat) ≤ rpm → fwd = false → q.state = .braking ∧ q.brakeFor = .start ∧
        q.reverseSeen = true ∧ q.speed = -rpm ∧ Logged d Ev.spinReverse.src Ev.spinReverse s t) ∧
      ((s.get Obj.reversalRpm i : Rat) ≤ rpm → fwd = true → rpm < (s.get Obj.catchRpm i : Rat) →
        q.state = .braking ∧ q.brakeFor = .start ∧ q.speed = rpm) ∧
      ((s.get Obj.reversalRpm i : Rat) ≤ rpm → fwd = true → (s.get Obj.catchRpm i : Rat) ≤ rpm →
        q.state = .ramping ∧ q.src = .observer ∧ q.gates = .driven ∧ q.speed = rpm ∧ q.obsSpeed = rpm) := by
  have hdecided : SpinOnly d s (s.decided d fwd rpm) := SpinOnly.refl.modSpin
  have hspin := s.decided_spin d fwd rpm
  dsimp only
  by_cases hrev : rpm < (s.get Obj.reversalRpm (dieInst d) : Rat)
  · have hnot : ∀ {p : Prop}, (s.get Obj.reversalRpm (dieInst d) : Rat) ≤ rpm → p := fun h => absurd hrev (not_lt.mpr h)
    have hq : (((s.decided d fwd rpm).alignStart d).die d).spin = _ := State.modSpin_spin ..
    rw [hspin] at hq
    rw [State.sensed_of_slow s d idx fwd hrev, hq]
    exact ⟨rfl, rfl, hdecided.modSpin, fun _ => ⟨rfl, rfl, rfl⟩, hnot, hnot, hnot⟩
  · cases fwd with
    | false =>
      generalize hu : ((s.decided d false rpm).modSpin d fun p => { p with reverseSeen := true }).brake d .start = u
      have hq : ((u.raise d Ev.spinReverse).die d).spin = _ :=
        (State.raise_reported [] u d Ev.spinReverse [] (.inl (by decide))).spin.trans
          ((congrArg (fun u : State => (u.die d).spin) hu.symm).trans (State.brake_spin ..))
      rw [State.modSpin_spin, hspin] at hq
      have hrest : Gives [] d { s.die d with spin := (u.die d).spin } s u := by
        subst hu
        exact (hdecided.modSpin).modSpin
      rw [State.sensed_of_reverse s d idx hrev, hu, hq]
      refine ⟨rfl, rfl, SpinOnly.raise (by decide) hrest, fun h => absurd h hrev, fun _ _ => ⟨rfl, rfl, rfl, rfl, ?_⟩, fun _ h => absurd h (by decide),
        fun _ h => absurd h (by decide)⟩
      refine State.raise_logs u Ev.spinReverse [] (.inl (by decide)) (by decide) hrest.life ?_ rfl
      subst hu
      simp [State.brake, State.decided]
    | true =>
      by_cases hcatch : rpm < (s.get Obj.catchRpm (dieInst d) : Rat)
      · rw [State.sensed_of_below_catch s d idx hrev hcatch, State.brake_spin, hspin]
        exact ⟨rfl, rfl, hdecided.modSpin, fun h => absurd h hrev, fun _ h => absurd h (by decide), fun _ _ _ => ⟨rfl, rfl, rfl⟩,
          fun _ _ h => absurd hcatch (not_lt.mpr h)⟩
      · rw [State.sensed_of_catch s d idx hrev hcatch]
        generalize hu : (s.decided d true rpm).modSpin d _ = u
        have hq : ((u.engage d .ramping rpm).die d).spin = _ := State.modSpin_spin ..
        have hspinU : (u.die d).spin = _ :=
          (congrArg (fun u : State => (u.die d).spin) hu.symm).trans (State.modSpin_spin ..)
        rw [hspin] at hspinU
        rw [hspinU] at hq
        have hrest : SpinOnly d s u := hu ▸ hdecided.modSpin
        rw [hq]
        exact ⟨rfl, rfl, hrest.modSpin, fun h => absurd h hrev, fun _ h => absurd h (by decide),
          fun _ _ h => absurd h hcatch, fun _ _ _ => ⟨rfl, rfl, rfl, rfl, rfl⟩⟩

/-! ### The time limits of starting -/

/-- FAULT (03 R99 rows 9 and 16). -/
theorem State.spinFault_spec (s : State) (d : DieId) (code : Int) :
    let t := s.spinFault d code
    (t.die d).spin = { (s.die d).spin with
      state := .fault, gates := .floated, src := .none, m := 0, curInt := 0, spdInt := 0, iCmd := 0, startFail := true
      startPending := false } ∧
    (t.die d).clock.state = .coasting ∧ d ∉ t.spinHeld ∧ d ∉ t.spinReq ∧ t.get Obj.spinResult (dieInst d) = code ∧
    KeptBy Die.record d s t := by
  obtain ⟨y, hfloat, hspin, -, hclock⟩ := s.floatDrive_shape d .fault
  have hdie : ((s.floatDrive d .fault).releaseSlot d).die d = y := by
    rw [hfloat]
    exact State.setDie_die_self ..
  unfold State.spinFault
  refine ⟨?_, ?_, ?_, ?_, State.spinResult_get .., ?_⟩
  · rw [State.spinResult_die, State.modSpin_spin, hdie, hspin]
  · rw [State.spinResult_die, State.modSpin_die_self, hdie]
    exact hclock
  · rw [State.spinResult_spinHeld]
    exact State.releaseSlot_not_held _ _
  · rw [State.spinResult_spinReq]
    exact State.releaseSlot_not_asked _ _
  · exact (((KeptBy.floatDrive fun _ _ _ _ _ _ => rfl).trans KeptBy.releaseSlot).trans
      (KeptBy.modSpin fun _ _ => rfl)).trans KeptBy.spinResult

section
variable (hd : s.fitted d = true)
include hd

theorem exec_senseTimeout_of_sensing (h : (s.die d).spin.state = .sensing) :
    exec (.senseTimeout d) s = .next (s.alignStart d) := by
  rw [exec_onDie (execSenseTimeout d s) rfl rfl hd, when_true _ (by simp [h])]

theorem exec_alignTimeout_of_aligning (h : (s.die d).spin.state = .aligning) :
    exec (.alignTimeout d) s = .next (s.modSpin d fun p => { p with state := .openLoop, ramp := 0 }) := by
  rw [exec_onDie (execAlignTimeout d s) rfl rfl hd, when_true _ (by simp [h])]

theorem exec_brakeTimeout_of_start (h : (s.die d).spin.state = .braking) (h' : (s.die d).spin.brakeFor = .start) :
    exec (.brakeTimeout d) s = .next (s.spinFault d (if (s.die d).spin.reverse then 3 else 4)) := by
  rw [exec_onDie (execBrakeTimeout d s) rfl rfl hd, when_true _ (by simp [h, h'])]

/-- A failed start counts. -/
def State.retried (s : State) (d : DieId) : State := s.modSpin d fun p => { p with retries := p.retries + 1 }

theorem exec_openLoopTimeout_of_retry (h : (s.die d).spin.state = .openLoop) (hv : (s.die d).spin.obsValid = false)
    (hr : (s.die d).spin.retries < s.getN Obj.startRetries (dieInst d)) : exec (.openLoopTimeout d) s =
      .next (((s.retried d).modSpin d fun p => { p with reverse := false }).brake d .start) := by
  rw [exec_onDie (execOpenLoopTimeout d s) rfl rfl hd, when_true _ (by simp [h, hv])]
  exact congrArg Host.Outcome.next (if_neg (Nat.not_lt.mpr hr))

theorem exec_openLoopTimeout_of_last (h : (s.die d).spin.state = .openLoop) (hv : (s.die d).spin.obsValid = false)
    (hr : s.getN Obj.startRetries (dieInst d) ≤ (s.die d).spin.retries) : exec (.openLoopTimeout d) s =
      .next (((s.retried d).spinFault d 4).raise d Ev.spinStartFail) := by
  rw [exec_onDie (execOpenLoopTimeout d s) rfl rfl hd, when_true _ (by simp [h, hv])]
  exact congrArg Host.Outcome.next (if_pos (Nat.lt_succ_of_le hr))

end

/-- Heads come off at retract speed where they are loaded (03 R106). -/
def State.spinHeadsOff (s : State) (d : DieId) (a : Act) : State :=
  if ((s.die d).act a).loaded then s.retract d a .unload else s

theorem exec_spinReacqTimeout_of_reacquiring (hd : s.fitted d = true) (h : (s.die d).spin.state = .reacquiring) :
    exec (.spinReacqTimeout d) s = .next (((((s.spinHeadsOff d .A).spinHeadsOff d .B).modSpin d fun p => { p with
      state := .braking, brakeFor := if p.stopping then .stop else .restart, reacqFail := true, gates := .floated
      crossings := [], loadAtSpeed := if p.stopping then p.loadAtSpeed else true }).raise d Ev.spinReacqFail).calAbortIf d
        fun i r => calOfAct .A i r || calOfAct .B i r) := by
  rw [exec_onDie (execSpinReacqTimeout d s) rfl rfl hd, when_true _ (by simp [h])]
  rfl

theorem State.spinHeadsOff_kept (s : State) (d : DieId) (a : Act) : KeptBy Die.spin d s (s.spinHeadsOff d a) :=
  KeptBy.ite (KeptBy.retract fun _ _ _ => rfl) KeptBy.refl

theorem State.spinHeadsOff_act (s : State) (d : DieId) (a b : Act) : (((s.spinHeadsOff d a).die d).act b).state =
    if b = a ∧ ((s.die d).act a).loaded = true then .retracting else ((s.die d).act b).state := by
  unfold State.spinHeadsOff
  by_cases hl : ((s.die d).act a).loaded = true
  · rw [if_pos hl]
    simp only [State.retract, State.sendVcm, State.emit_die, State.modAct_die_self]
    by_cases hb : b = a
    · subst hb
      rw [Die.modAct_act_self, Die.modAct_act_self, if_pos ⟨rfl, hl⟩]
    · rw [Die.modAct_act_ne _ _ _ _ hb, Die.modAct_act_ne _ _ _ _ hb, if_neg (fun h => hb h.1)]
  · rw [if_neg hl, if_neg (fun h => hl h.2)]

/-! ### Speed and the retract brake -/

section
variable (hd : s.fitted d = true)
include hd

/-- AT_SPEED with the slot given back and the start's result written, before heads are reloaded (03 R99 row 17). -/
def State.atSpeed (s : State) (d : DieId) : State :=
  let t := (s.modSpin d fun p => { p with state := .atSpeed, startPending := false, loadAtSpeed := false }).releaseSlot d
  ((if (s.die d).spin.startPending then t.spinResult d 0 else t).raise d Ev.spinAtSpeed).calRecheck d

theorem exec_spinAtSpeed_of_run (h : (s.die d).spin.state = .ramping) (hr : 16 ≤ (s.die d).spin.speedRun)
    (hh : (s.die d).spin.staggerHold = false) : exec (.spinAtSpeed d) s =
      .next ((if (s.die d).spin.loadAtSpeed then (((s.atSpeed d).loadCommand d .A).1.loadCommand d .B).1
        else s.atSpeed d).powerSettle d) := by
  rw [exec_onDie (execSpinAtSpeed d s) rfl rfl hd, when_true _ (by simp [h, hr, hh])]
  rfl

theorem exec_spinAtSpeed_of_early (h : (s.die d).spin.speedRun < 16 ∨ (s.die d).spin.staggerHold = true) :
    exec (.spinAtSpeed d) s = .next s := by
  rw [exec_onDie (execSpinAtSpeed d s) rfl rfl hd, when_false]
  rcases h with h | h
  · simp [Nat.not_le.mpr h]
  · simp [h]

theorem exec_spinRetractBrake_of_ready (h : (s.die d).spin.state = .retractBrake) (hp : (s.die d).bothParked = true)
    (hs : (s.die d).data.pfail = none ∨ ((s.die d).data.frozen = true ∧ (s.die d).data.saving = none)) :
    exec (.spinRetractBrake d) s = .next (s.modSpin d fun p => { p with gates := .shortBrake }) := by
  rw [exec_onDie (execSpinRetractBrake d s) rfl rfl hd, when_true]
  rcases hs with hs | ⟨hf, hs⟩
  · simp [h, hp, hs]
  · simp [h, hp, hf, hs]

theorem exec_spinRetractBrake_of_saving (hf : (s.die d).data.frozen = false) (hp : (s.die d).data.pfail ≠ none) :
    exec (.spinRetractBrake d) s = .next s := by
  have hsome := Option.isSome_iff_ne_none.mpr hp
  rw [exec_onDie (execSpinRetractBrake d s) rfl rfl hd, when_false _ (by simp [hf, hsome])]

theorem exec_spinRetractBrakeTimeout_of_retract (h : (s.die d).spin.state = .retractBrake) :
    exec (.spinRetractBrakeTimeout d) s = .next (s.modSpin d fun p => { p with gates := .shortBrake }) := by
  rw [exec_onDie (execSpinRetractBrakeTimeout d s) rfl rfl hd, when_true _ (by simp [h])]

end

theorem State.atSpeed_spec (s : State) (d : DieId) :
    ((s.atSpeed d).die d).spin = { (s.die d).spin with state := .atSpeed, startPending := false, loadAtSpeed := false } ∧
    d ∉ (s.atSpeed d).spinHeld ∧
    ((s.die d).spin.startPending = true → (s.atSpeed d).get Obj.spinResult (dieInst d) = 0) ∧
    KeptBy (fun x => (x.actA, x.actB, x.clock, x.data)) d s (s.atSpeed d) := by
  unfold State.atSpeed
  dsimp only
  generalize ht : (s.modSpin d _).releaseSlot d = t
  have htspin : (t.die d).spin = { (s.die d).spin with
      state := .atSpeed, startPending := false, loadAtSpeed := false } := by
    rw [← ht, State.releaseSlot_die, State.modSpin_spin]
  have htheld : d ∉ t.spinHeld := ht ▸ State.releaseSlot_not_held _ _
  have htkept : KeptBy (fun x => (x.actA, x.actB, x.clock, x.data)) d s t :=
    ht ▸ (KeptBy.modSpin fun _ _ => rfl).trans KeptBy.releaseSlot
  generalize hu : (if (s.die d).spin.startPending = true then t.spinResult d 0 else t) = u
  have hudie : ∀ e, u.die e = t.die e := by
    intro e
    rw [← hu]
    split
    · exact State.spinResult_die ..
    · rfl
  have huheld : u.spinHeld = t.spinHeld := by
    rw [← hu]
    split
    · exact State.spinResult_spinHeld ..
    · rfl
  have hures : (s.die d).spin.startPending = true → u.get Obj.spinResult (dieInst d) = 0 := by
    intro h
    rw [← hu, if_pos h]
    exact State.spinResult_get ..
  have hrep := State.raise_reported [] u d Ev.spinAtSpeed [] (.inl (by decide))
  refine ⟨?_, ?_, fun h => ?_, ?_⟩
  · rw [State.calRecheck, State.modDie_die_self]
    exact hrep.spin.trans ((congrArg Die.spin (hudie d)).trans htspin)
  · have hheld : (u.raise d Ev.spinAtSpeed).spinHeld = u.spinHeld := by
      have := congrArg State.spinHeld hrep.1
      simpa [State.side] using this
    rw [State.calRecheck, State.modDie_spinHeld, hheld, huheld]
    exact htheld
  · refine Eq.trans ?_ (hures h)
    exact State.raise_get u d Ev.spinAtSpeed [] (.inl (by decide)) (by decide) (dieInst_lt d)
  · exact ((htkept.trans ⟨by rw [hudie], fun e _ => hudie e⟩).trans (KeptBy.reported (fun _ _ => rfl) hrep)).trans
      (KeptBy.calRecheck fun _ _ => rfl)

/-- A load writes no object but ACT_RESULT. -/
theorem State.loadStart_objs (s : State) (d : DieId) (a : Act) : (s.loadStart d a).objs = s.objs := by
  obtain ⟨v, hv⟩ := State.foldl_modHead d Head.goLive ((s.die d).loadHeads a) s
  unfold State.loadStart
  rw [hv]
  rfl

theorem State.actResult_get_ne (s : State) (d : DieId) (a : Act) (v : Int) {o : ObjDef} {i : Nat}
    (ho : o.name ≠ Obj.actResult.name) (hi : i < 256) : (s.actResult d a v).get o i = s.get o i :=
  State.put_get_ne s ho (calInst_lt (.act d a)) hi

theorem State.loadCommand_get (s : State) (d : DieId) (a : Act) {o : ObjDef} {i : Nat}
    (ho : o.name ≠ Obj.actResult.name) (hi : i < 256) : (s.loadCommand d a).1.get o i = s.get o i := by
  have hcheck : (s.loadCheck d a).1.get o i = s.get o i := by
    unfold State.loadCheck
    split
    · exact State.actResult_get_ne _ d a _ ho hi
    · exact (State.get_of_objs_eq (State.loadStart_objs ..) o i).trans (State.actResult_get_ne _ d a _ ho hi)
  unfold State.loadCommand
  split
  · exact hcheck
  · exact hcheck
  · exact s.actResult_get_ne d a 0 ho hi
  · exact s.actResult_get_ne d a 0 ho hi
  · exact s.actResult_get_ne d a 0 ho hi
  · exact s.actResult_get_ne d a 0 ho hi
  · exact State.actResult_get_ne _ d a 1 ho hi
  · exact State.actResult_get_ne _ d a 1 ho hi
  · exact State.actResult_get_ne _ d a 1 ho hi

theorem State.loadCommand_spinHeld (s : State) (d : DieId) (a : Act) : (s.loadCommand d a).1.spinHeld = s.spinHeld := by
  obtain ⟨v, o, w, h⟩ := Local.loadCommand (s := s) (d := d) (a := a)
  rw [h]

/-- R99 row 17: AT_SPEED. -/
theorem spinAtSpeed_runs (hd : s.fitted d = true) (h : (s.die d).spin.state = .ramping)
    (hr : 16 ≤ (s.die d).spin.speedRun) (hh : (s.die d).spin.staggerHold = false) : Runs (.spinAtSpeed d) s fun t =>
    let x := s.die d
    let p := x.spin
    (t.die d).spin = { p with state := .atSpeed, startPending := false, loadAtSpeed := false } ∧
    d ∉ t.spinHeld ∧ (p.startPending = true → t.get Obj.spinResult (dieInst d) = 0) ∧
    (p.loadAtSpeed = false → (t.die d).actA = x.actA ∧ (t.die d).actB = x.actB) ∧
    (t.die d).clock = x.clock ∧ (t.die d).data = x.data ∧ ∀ e, e ≠ d → t.die e = s.die e := by
  refine Runs.intro (exec_spinAtSpeed_of_run hd h hr hh) ?_
  obtain ⟨hspin, hheld, hres, hkept⟩ := s.atSpeed_spec d
  generalize s.atSpeed d = u at hspin hheld hres hkept ⊢
  obtain ⟨hA, hB, hclock, hdata⟩ := Prod.ext_iff.mp hkept.self |>.imp id fun h => Prod.ext_iff.mp h |>.imp id Prod.ext_iff.mp
  generalize hv : (if (s.die d).spin.loadAtSpeed = true then ((u.loadCommand d .A).1.loadCommand d .B).1 else u) = v
  have hload : ∀ (w : State) (a : Act), KeptBy (fun x => (x.spin, x.clock, x.data)) d w (w.loadCommand d a).1 :=
    fun _ _ => KeptBy.loadCommand (fun _ _ _ => rfl) (fun _ _ => rfl)
  have hvkept : KeptBy (fun x => (x.spin, x.clock, x.data)) d u v :=
    hv ▸ KeptBy.ite ((hload u .A).trans (hload _ .B)) KeptBy.refl
  have hvheld : v.spinHeld = u.spinHeld := by
    rw [← hv]
    split
    · rw [State.loadCommand_spinHeld, State.loadCommand_spinHeld]
    · rfl
  have hvres : v.get Obj.spinResult (dieInst d) = u.get Obj.spinResult (dieInst d) := by
    rw [← hv]
    split
    · rw [State.loadCommand_get _ _ _ (by decide) (dieInst_lt d), State.loadCommand_get _ _ _ (by decide) (dieInst_lt d)]
    · rfl
  obtain ⟨hvspin, hvclock, hvdata⟩ := Prod.ext_iff.mp hvkept.self |>.imp id Prod.ext_iff.mp
  have hsettle : (v.powerSettle d).die d = { v.die d with power := (v.die d).powerNow } := State.modDie_die_self ..
  dsimp only
  rw [hsettle]
  refine ⟨hvspin.trans hspin, ?_, fun h => hvres.trans (hres h), fun h => ?_, hvclock.trans hclock, hvdata.trans hdata,
    fun e he => ?_⟩
  · exact hvheld ▸ hheld
  · rw [if_neg (by simp [h])] at hv
    rw [← hv]
    exact ⟨hA, hB⟩
  · exact (State.modDie_die_ne _ _ _ _ he).trans ((hvkept.others e he).trans (hkept.others e he))

end

section
variable {s : State} {d : DieId}

theorem State.retried_brake (hv : (s.die d).spin.obsValid = false) :
    ((s.retried d).modSpin d fun p => { p with reverse := false }).brake d .start = s.setDie d { s.die d with
      spin := { (s.die d).spin with
        state := .braking, brakeFor := .start, gates := .shortBrake, crossings := [], reverse := false
        retries := (s.die d).spin.retries + 1 } } := by
  unfold State.brake State.retried
  simp only [State.modSpin_eq, State.modDie_modDie]
  simp [State.modDie, hv]

theorem openLoopTimeout_faults (hd : s.fitted d = true) (h : (s.die d).spin.state = .openLoop)
    (hv : (s.die d).spin.obsValid = false) (hr : s.getN Obj.startRetries (dieInst d) ≤ (s.die d).spin.retries) :
    Runs (.openLoopTimeout d) s fun t =>
      let q := (t.die d).spin
      q.state = .fault ∧ q.gates = .floated ∧ q.startFail = true ∧ q.retries = (s.die d).spin.retries + 1 ∧
      d ∉ t.spinHeld ∧ t.get Obj.spinResult (dieInst d) = 4 ∧ Logged d Ev.spinStartFail.src Ev.spinStartFail s t ∧
      ∀ e, e ≠ d → t.die e = s.die e := by
  refine Runs.intro (exec_openLoopTimeout_of_last hd h hv hr) ?_
  obtain ⟨hspin, -, hheld, -, hres, hkept⟩ := (s.retried d).spinFault_spec d 4
  have hretried : ((s.retried d).die d).spin = { (s.die d).spin with retries := (s.die d).spin.retries + 1 } :=
    State.modSpin_spin ..
  rw [hretried] at hspin
  generalize (s.retried d).spinFault d 4 = u at hspin hheld hres hkept
  have hrep := State.raise_reported [] u d Ev.spinStartFail [] (.inl (by decide))
  dsimp only
  rw [hrep.spin, hspin]
  refine ⟨rfl, rfl, rfl, rfl, ?_, ?_, ?_, fun e he => ?_⟩
  · have hsame : (u.raise d Ev.spinStartFail).spinHeld = u.spinHeld := by
      simpa [State.side] using congrArg State.spinHeld hrep.1
    exact hsame ▸ hheld
  · rw [State.raise_get u d Ev.spinStartFail [] (.inl (by decide)) (by decide) (dieInst_lt d), hres]
  · exact (State.raise_logged u d Ev.spinStartFail [] (.inl (by decide)) (by decide)).of_kept
      ((KeptBy.modSpin fun _ _ => rfl).trans hkept)
  · rw [hrep.die_ne he, hkept.others e he, State.retried, State.modSpin_die_ne _ _ _ _ he]

/-- R99 row 26, R106: no way back from re-acquisition. -/
theorem spinReacqTimeout_runs (hd : s.fitted d = true) (h : (s.die d).spin.state = .reacquiring) :
    Runs (.spinReacqTimeout d) s fun t =>
      (t.die d).spin = { (s.die d).spin with
        state := .braking, brakeFor := (if (s.die d).spin.stopping then .stop else .restart), reacqFail := true
        gates := .floated, crossings := []
        loadAtSpeed := (s.die d).spin.loadAtSpeed || !(s.die d).spin.stopping } ∧
      (∀ a, ((t.die d).act a).state = if ((s.die d).act a).loaded then .retracting else ((s.die d).act a).state) ∧
      ∀ e, e ≠ d → t.die e = s.die e := by
  refine Runs.intro (exec_spinReacqTimeout_of_reacquiring hd h) ?_
  have hoff : KeptBy Die.spin d s ((s.spinHeadsOff d .A).spinHeadsOff d .B) :=
    (s.spinHeadsOff_kept d .A).trans (State.spinHeadsOff_kept _ d .B)
  have hact : ∀ a, ((((s.spinHeadsOff d .A).spinHeadsOff d .B).die d).act a).state =
      if ((s.die d).act a).loaded then .retracting else ((s.die d).act a).state := by
    have hB : (((s.spinHeadsOff d .A).die d).act .B).loaded = ((s.die d).act .B).loaded := by
      unfold Actuator.loaded
      rw [State.spinHeadsOff_act, if_neg (fun h => nomatch h.1)]
    intro a
    rw [State.spinHeadsOff_act, hB, State.spinHeadsOff_act]
    cases a
    · simp
    · simp
  generalize (s.spinHeadsOff d .A).spinHeadsOff d .B = u at hoff hact ⊢
  generalize hv : u.modSpin d _ = v
  have hvspin : (v.die d).spin = { (s.die d).spin with
      state := .braking, brakeFor := (if (s.die d).spin.stopping then .stop else .restart), reacqFail := true
      gates := .floated, crossings := []
      loadAtSpeed := if (s.die d).spin.stopping then (s.die d).spin.loadAtSpeed else true } := by
    rw [← hv, State.modSpin_spin, hoff.self]
  have hvkept : KeptBy (fun x => (x.actA, x.actB)) d u v := hv ▸ KeptBy.modSpin fun _ _ => rfl
  have hend : KeptBy (fun x => (x.spin, x.actA, x.actB)) d v
      ((v.raise d Ev.spinReacqFail).calAbortIf d fun i r => calOfAct .A i r || calOfAct .B i r) :=
    (KeptBy.raise (k := Ev.spinReacqFail) (fun _ _ => rfl) (.inl (by decide))).trans (KeptBy.calAbortIf fun _ _ _ _ _ => rfl)
  obtain ⟨hspin, hA, hB⟩ := Prod.ext_iff.mp hend.self |>.imp id Prod.ext_iff.mp
  obtain ⟨hvA, hvB⟩ := Prod.ext_iff.mp hvkept.self
  refine ⟨hspin.trans (hvspin.trans ?_), fun a => ?_, fun e he => ?_⟩
  · cases (s.die d).spin.stopping
    · rw [Bool.not_false, Bool.or_true]
      rfl
    · rw [Bool.not_true, Bool.or_false]
      rfl
  · refine Eq.trans (congrArg Actuator.state ?_) (hact a)
    cases a
    · exact hA.trans hvA
    · exact hB.trans hvB
  · rw [hend.others e he, hvkept.others e he, hoff.others e he]

end

/-- Settles O12: crossings decide by order and speed; each time limit and each condition of the way to speed sets the
spindle's state. -/
theorem spinupSteps : Obligations.SpinupSteps := by
  refine ⟨fun s d phase rising n hd => ?_, fun s d hd => ?_, fun s d hd => ?_⟩
  · refine ⟨exec_bemfZeroCrossing_of_other hd phase rising n, exec_bemfZeroCrossing_of_reacquiring hd phase rising n,
      fun h hlen => ?_, fun h hlen hdir => ?_, fun h hlen fwd hdir => ?_⟩
    · rw [exec_bemfZeroCrossing_of_sensing hd phase rising n h]
      exact congrArg Host.Outcome.next (if_pos hlen)
    · rw [exec_bemfZeroCrossing_of_sensing hd phase rising n h]
      refine congrArg Host.Outcome.next ((if_neg (by omega)).trans ?_)
      rw [hdir]
      rfl
    · have hexec := exec_bemfZeroCrossing_of_sensing hd phase rising n h
      dsimp only at hexec hlen hdir
      rw [if_neg (by omega), hdir] at hexec
      exact Runs.intro hexec (s.sensed_spec d fwd _ _)
  · refine ⟨exec_senseTimeout_of_sensing hd, exec_alignTimeout_of_aligning hd, fun h h' => ?_, fun h hv hr => ?_,
      fun h hv hr => ?_, fun h => ?_⟩
    · refine Runs.intro (exec_brakeTimeout_of_start hd h h') ?_
      obtain ⟨hspin, hclock, hheld, hreq, hres, hkept⟩ := s.spinFault_spec d (if (s.die d).spin.reverse then 3 else 4)
      dsimp only
      rw [hspin]
      exact ⟨rfl, rfl, rfl, rfl, rfl, hheld, hreq, hres, hclock, hkept.others⟩
    · rw [exec_openLoopTimeout_of_retry hd h hv hr]
      exact congrArg Host.Outcome.next (State.retried_brake hv)
    · exact openLoopTimeout_faults hd h hv hr
    · exact spinReacqTimeout_runs hd h
  · exact ⟨spinAtSpeed_runs hd, fun _ => exec_spinAtSpeed_of_early hd, exec_spinRetractBrake_of_ready hd,
      fun _ => exec_spinRetractBrake_of_saving hd, exec_spinRetractBrakeTimeout_of_retract hd⟩

end Sys2Proof.Machine

/-! PROOFS. A demodulated wedge, and runs of missed and valid wedges (04 R117 to R132). -/

namespace Sys2Proof.Machine

/-! ### What a wedge makes of its head -/

/-- A head after an invalid wedge, with its record (04 R129, R130). -/
def Head.missed (y : Head) (a : Actuator) (r : BitVec 64) : Head :=
  { y with
    record := r, missRun := min 255 (y.missRun + 1), validRun := 0, recRun := 0, x2 := y.x1, x1 := y.predict a }

/-- A head after a wedge valid for position, with its record (04 R128 to R131, R133). -/
def Head.hit (y : Head) (p : Int) (join : Nat) (eye : Rat) (r : BitVec 64) : Head :=
  { y with
    record := r, missRun := 0, validRun := y.validRun + 1, recRun := y.recRun + 1, maHeld := false
    liveValid := y.liveValid + 1, joined := y.joined || decide (join ≤ y.liveValid + 1)
    x2 := if y.sam.isNone then p else y.x1, x1 := p, eye := eye }

/-- What the head keeps of the wedge itself (04 R117, R124). -/
def Head.noted (y : Head) (found : Bool) (sam : Option (BitVec 56)) (gray : Bool) : Head :=
  { y with
    delivered := true, samFound := found, sam := if found then sam else y.sam
    grayRun := if gray then y.grayRun + 1 else 0
    grayInvalid := y.grayInvalid && gray }

/-- The counters of mismatches (04 R124, R126, R127). -/
def State.wedgeCounted (s : State) (i : Nat) (gray idx rro : Bool) : State :=
  let s := if gray then s.bump Obj.grayMismatchCount i else s
  let s := if idx then s.bump Obj.indexMismatchCount i else s
  if rro then s.bump Obj.rroMissCount i else s

/-- t is s but for objects. -/
def ObjsOnly (s t : State) : Prop := ∃ o, t = { s with objs := o }

namespace ObjsOnly
variable {s t u : State}

theorem refl : ObjsOnly s s := ⟨_, rfl⟩

theorem trans (h : ObjsOnly s t) (k : ObjsOnly t u) : ObjsOnly s u := by
  obtain ⟨o, rfl⟩ := h
  obtain ⟨p, rfl⟩ := k
  exact ⟨p, rfl⟩

theorem putSub {o : ObjDef} {sub i : Nat} {v : Int} : ObjsOnly s (s.putSub o sub i v) := by
  unfold State.putSub
  split
  · exact ⟨_, rfl⟩
  · exact ⟨_, rfl⟩

theorem bump {o : ObjDef} {i k : Nat} : ObjsOnly s (s.bump o i k) := putSub

theorem ite {c : Prop} [Decidable c] (h : ObjsOnly s t) (k : ObjsOnly s u) : ObjsOnly s (if c then t else u) := by
  split
  · exact h
  · exact k

end ObjsOnly

theorem State.wedgeCounted_objs (s : State) (i : Nat) (gray idx rro : Bool) : ObjsOnly s (s.wedgeCounted i gray idx rro) :=
  ((ObjsOnly.ite .bump .refl).trans (ObjsOnly.ite .bump .refl)).trans (ObjsOnly.ite .bump .refl)

section
variable {s : State} {d : DieId} {h : HeadId}

/-- The head's part of a wedge: valid for position, or not. -/
def State.positioned (s : State) (d : DieId) (h : HeadId) (w : WedgeSignal) (m : Measured) (found gray idx bad : Bool) : State :=
  let t := match m.x with
    | some p => if found && !idx && !bad && !w.late then s.hitWedge d h m p.2.1 p.2.2 else s.missWedge d h gray idx
    | none => s.missWedge d h gray idx
  if w.late then t.bump Obj.lateCount (headInst d h) else t

theorem exec_demodWedge_of_live (hd : s.fitted d = true) (w : WedgeSignal) (hl : ((s.die d).head h).live = true) :
    let sk := s.samCheck d h w
    let m := s.measure d h w sk.2
    let gray := sk.1 && m.gray
    let idx := sk.1 && m.index
    exec (.demodWedge d h w) s = .next (((s.wedgeCounted (headInst d h) gray idx (sk.1 && m.rroMiss)).positioned d h w m sk.1
      gray idx (((s.die d).head h).grayInvalid && gray)).modHead d h fun y => y.noted sk.1 w.sam gray) := by
  rw [exec_onDie (execDemodWedge d h w s) rfl rfl hd, when_true _ hl]
  rfl

theorem exec_demodWedge_of_not_live (hd : s.fitted d = true) (w : WedgeSignal) (hl : ((s.die d).head h).live = false) :
    exec (.demodWedge d h w) s = .next s := by
  rw [exec_onDie (execDemodWedge d h w s) rfl rfl hd, when_false _ hl]

theorem ObjsOnly.die {s t : State} (h : ObjsOnly s t) (e : DieId) : t.die e = s.die e := by
  obtain ⟨o, rfl⟩ := h
  rfl

theorem State.hitWedge_eq (s : State) (d : DieId) (h : HeadId) (m : Measured) (group : Nat) (eye : Rat) : ∃ r : Head → BitVec 64,
    s.hitWedge d h m group eye = s.modHead d h fun y =>
      y.hit (roundNear m.corrected) (s.getN Obj.rejoinCount (dieInst d)) eye (r y) := ⟨_, rfl⟩

theorem State.missWedge_objs (s : State) (d : DieId) (h : HeadId) (gray index : Bool) :
    ∃ r : Head → BitVec 64, ObjsOnly (s.modHead d h fun y => y.missed ((s.die d).act h.act) (r y)) (s.missWedge d h gray index) := by
  refine ⟨fun y => packRecord (y.predict ((s.die d).act h.act)) (pesOf (y.predict ((s.die d).act h.act)) y.target) false true 0
    false gray index (min 255 (y.missRun + 1)) 0, ?_⟩
  unfold State.missWedge
  simp only [Head.missed, State.modHead_eq, State.modDie]
  exact ObjsOnly.bump

/-- A wedge changes its head by the rule for a missed one or by that for a valid one. -/
theorem State.positioned_spec (s : State) (d : DieId) (h : HeadId) (w : WedgeSignal) (m : Measured)
    (found gray idx bad : Bool) : ∃ f, ObjsOnly (s.modHead d h f) (s.positioned d h w m found gray idx bad) ∧
      ((∃ r : Head → BitVec 64, f = fun y => y.missed ((s.die d).act h.act) (r y)) ∧
        ¬ (found = true ∧ m.x.isSome = true ∧ idx = false ∧ bad = false ∧ w.late = false) ∨
      (∃ (join : Nat) (eye : Rat) (r : Head → BitVec 64), f = fun y => y.hit (roundNear m.corrected) join eye (r y)) ∧
        found = true ∧ m.x.isSome = true ∧ idx = false ∧ bad = false ∧ w.late = false) := by
  have hlate : ∀ t : State, ObjsOnly t (if w.late then t.bump Obj.lateCount (headInst d h) else t) := fun t =>
    ObjsOnly.ite .bump .refl
  obtain ⟨r, hmissed⟩ := s.missWedge_objs d h gray idx
  unfold State.positioned
  cases hm : m.x with
  | none => exact ⟨_, hmissed.trans (hlate _), .inl ⟨⟨r, rfl⟩, by simp⟩⟩
  | some p =>
    by_cases hok : (found && !idx && !bad && !w.late) = true
    · obtain ⟨q, hhit⟩ := s.hitWedge_eq d h m p.2.1 p.2.2
      dsimp only
      rw [if_pos hok, hhit]
      exact ⟨_, hlate _, .inr ⟨⟨_, _, q, rfl⟩, by simpa [and_assoc] using hok⟩⟩
    · dsimp only
      rw [if_neg hok]
      exact ⟨_, hmissed.trans (hlate _), .inl ⟨⟨r, rfl⟩, by simpa [and_assoc] using hok⟩⟩

/-- R117, R124, R128 to R132: a wedge of a live head. -/
theorem demodWedge_runs (hd : s.fitted d = true) (w : WedgeSignal) (hl : ((s.die d).head h).live = true) :
    let x := s.die d
    let y := x.head h
    let sk := s.samCheck d h w
    let m := s.measure d h w sk.2
    Runs (.demodWedge d h w) s fun t =>
      let z := (t.die d).head h
      z.delivered = true ∧ z.samFound = sk.1 ∧ z.live = true ∧ z.servo = y.servo ∧ z.permit = y.permit ∧
      (sk.1 = false ∨ m.x = none ∨ m.index = true ∨ (y.grayInvalid = true ∧ m.gray = true) ∨ w.late = true →
        z.missRun = min 255 (y.missRun + 1) ∧ z.validRun = 0 ∧ z.x1 = y.predict (x.act h.act) ∧ z.x2 = y.x1) ∧
      (sk.1 = true → m.x.isSome = true → m.index = false → (y.grayInvalid = false ∨ m.gray = false) → w.late = false →
        z.missRun = 0 ∧ z.validRun = y.validRun + 1 ∧ z.liveValid = y.liveValid + 1 ∧ z.x1 = roundNear m.corrected) ∧
      (∀ g, g ≠ h → (t.die d).head g = x.head g) ∧
      t.die d = { x with heads := (t.die d).heads } ∧ (∀ e, e ≠ d → t.die e = s.die e) ∧ t.out = s.out ∧ t.slots = s.slots := by
  intro x y sk m
  refine Runs.intro (exec_demodWedge_of_live hd w hl) ?_
  generalize hgray : (sk.1 && m.gray) = gray
  generalize hidx : (sk.1 && m.index) = idx
  have hu := s.wedgeCounted_objs (headInst d h) gray idx (sk.1 && m.rroMiss)
  generalize s.wedgeCounted (headInst d h) gray idx (sk.1 && m.rroMiss) = u at hu
  obtain ⟨f, hv, hf⟩ := u.positioned_spec d h w m sk.1 gray idx (y.grayInvalid && gray)
  generalize u.positioned d h w m sk.1 gray idx (y.grayInvalid && gray) = v at hv ⊢
  have hvdie : v.die d = x.modHead h f := by rw [hv.die, State.modHead_die_self, hu.die]
  have hz : ((v.modHead d h fun y => y.noted sk.1 w.sam gray).die d).head h = (f y).noted sk.1 w.sam gray := by
    rw [State.modHead_die_self, hvdie, Die.modHead_head_self, Die.modHead_head_self]
  have hkept : (f y).live = y.live ∧ (f y).servo = y.servo ∧ (f y).permit = y.permit := by
    rcases hf with ⟨⟨_, rfl⟩, -⟩ | ⟨⟨_, _, _, rfl⟩, -⟩
    · exact ⟨rfl, rfl, rfl⟩
    · exact ⟨rfl, rfl, rfl⟩
  obtain ⟨hlive, hservo, hpermit⟩ := hkept
  dsimp only
  rw [hz]
  refine ⟨rfl, rfl, hlive.trans hl, hservo, hpermit, fun hbad => ?_, fun h1 h2 h3 h4 h5 => ?_, fun g hg => ?_, ?_,
    fun e he => ?_, ?_, ?_⟩
  · rcases hf with ⟨⟨_, rfl⟩, -⟩ | ⟨-, h1, h2, h3, h4, h5⟩
    · rw [hu.die]
      exact ⟨rfl, rfl, rfl, rfl⟩
    · rw [← hidx, h1, Bool.true_and] at h3
      rw [← hgray, h1, Bool.true_and] at h4
      simp [h1, h3, h5, Option.isSome_iff_ne_none.mp h2] at hbad
      simp [hbad] at h4
  · rcases hf with ⟨-, hnot⟩ | ⟨⟨_, _, _, rfl⟩, -⟩
    · refine absurd ⟨h1, h2, ?_, ?_, h5⟩ hnot
      · rw [← hidx, h3, Bool.and_false]
      · rw [← hgray, h1, Bool.true_and]
        rcases h4 with h4 | h4
        · rw [h4, Bool.false_and]
        · rw [h4, Bool.and_false]
    · exact ⟨rfl, rfl, rfl, rfl⟩
  · rw [State.modHead_die_self, hvdie, Die.modHead_head_ne, Die.modHead_head_ne]
    · exact hg
    · exact hg
  · rw [State.modHead_die_self, hvdie]
    rfl
  · rw [State.modHead_die_ne _ _ _ _ _ he, hv.die, State.modHead_die_ne _ _ _ _ _ he, hu.die]
  · obtain ⟨o, rfl⟩ := hu
    obtain ⟨p, rfl⟩ := hv
    rfl
  · obtain ⟨o, rfl⟩ := hu
    obtain ⟨p, rfl⟩ := hv
    rfl

/-! ### Runs of missed and valid wedges -/

/-- A permit that drops turns the gate off and starts the re-arm again (05 R161). -/
def Head.unpermitted (y : Head) : Head := { y.gateOff with permit := false, rearmRun := 0, rearmed := false }

theorem Gives.dropPermit {cs : List ObjDef} : Gives cs d
    (if ((s.die d).head h).permit then (s.die d).modHead h Head.unpermitted else s.die d) s (s.dropPermit d h) := by
  unfold State.dropPermit
  split
  · have hmod : Gives cs d ((s.die d).modHead h Head.unpermitted) s (s.modHead d h Head.unpermitted) := Gives.refl.setDie
    exact hmod.count
  · exact Gives.refl

section
variable (hd : s.fitted d = true)
include hd

theorem exec_headMissWriteInhibit_of_run (hr : s.getN Obj.missWi (dieInst d) < ((s.die d).head h).missRun) :
    exec (.headMissWriteInhibit d h) s = .next (s.dropPermit d h) := by
  rw [exec_onDie (execHeadMissWriteInhibit d h s) rfl rfl hd, when_true _ (by simpa using hr)]

theorem exec_headMissDrop_of_run (hr : s.getN Obj.missDrop (dieInst d) < ((s.die d).head h).missRun) :
    exec (.headMissDrop d h) s = .next (s.modHead d h fun y => { y with maHeld := true, maNext := y.maCmd }) := by
  rw [exec_onDie (execHeadMissDrop d h s) rfl rfl hd, when_true _ (by simpa using hr)]

theorem exec_grayMismatchInvalid_of_run (hr : 3 ≤ ((s.die d).head h).grayRun) :
    exec (.grayMismatchInvalid d h) s = .next (s.modHead d h fun y => { y with grayInvalid := true }) := by
  rw [exec_onDie (execGrayMismatchInvalid d h s) rfl rfl hd, when_true _ (by simpa using hr)]

theorem exec_grayMismatchInvalid_of_short (hr : ((s.die d).head h).grayRun < 3) :
    exec (.grayMismatchInvalid d h) s = .next s := by
  rw [exec_onDie (execGrayMismatchInvalid d h s) rfl rfl hd, when_false _ (by simpa using hr)]

/-- A head that is LOST, before its actuator recovers (04 R130). -/
def State.headLost (s : State) (d : DieId) (h : HeadId) : State :=
  (((s.dropPermit d h).modHead d h fun y => { y.requeueUnstarted with
    servo := .lost, validRun := 0, request := none }).raiseHead d h Ev.headServoLost).calRecheck d

theorem exec_headServoLost_of_run (hl : ((s.die d).head h).live = true) (hs : ((s.die d).head h).servo = .tracking)
    (hr : s.getN Obj.missRecover (dieInst d) < ((s.die d).head h).missRun) (ha : ((s.die d).act h.act).loaded = true) :
    exec (.headServoLost d h) s = .next (if (((s.headLost d h).die d).act h.act).onDisk && (s.headLost d h).allLost d h.act
      then (s.headLost d h).recoverStart d h.act (some Ev.actRecover) else s.headLost d h) := by
  rw [exec_onDie (execHeadServoLost d h s) rfl rfl hd, when_true _ (by simp [hl, hs, hr, ha])]
  rfl

/-- A head that is back (04 R131). -/
def Head.rejoined (y : Head) : Head :=
  { y with servo := .tracking, joined := true, maHeld := false, maCmd := 0, maNext := 0, loop := {} }

theorem exec_headServoRejoin_of_run (hl : ((s.die d).head h).live = true) (hs : ((s.die d).head h).servo = .lost)
    (hr : s.getN Obj.rejoinCount (dieInst d) ≤ ((s.die d).head h).validRun) :
    exec (.headServoRejoin d h) s = .next ((((s.modHead d h Head.rejoined).raiseHead d h Ev.headServoRejoin).calRecheck
      d).recoverDone d h.act) := by
  rw [exec_onDie (execHeadServoRejoin d h s) rfl rfl hd, when_true _ (by simp [hl, hs, hr])]
  rfl

end

/-- R131: a head rejoins; its actuator stays in its state. -/
theorem headServoRejoin_runs (hd : s.fitted d = true) (hl : ((s.die d).head h).live = true)
    (hs : ((s.die d).head h).servo = .lost)
    (hr : s.getN Obj.rejoinCount (dieInst d) ≤ ((s.die d).head h).validRun)
    (ha : ((s.die d).act h.act).state ≠ .recovering) : Runs (.headServoRejoin d h) s fun t =>
      Gives [] d { (s.die d).modHead h Head.rejoined with calRuns := (t.die d).calRuns } s t ∧
      Logged d h.val Ev.headServoRejoin s t := by
  have hgives : Gives [] d ((s.die d).modHead h Head.rejoined) s (s.modHead d h Head.rejoined) := Gives.refl.setDie
  have hraised := (hgives.raiseHead (k := Ev.headServoRejoin) (data := []) (n := h)).calRecheck
  have hlog : Logged d h.val Ev.headServoRejoin s ((s.modHead d h Head.rejoined).raiseHead d h Ev.headServoRejoin) :=
    (State.raiseFuel_logged _ 17 d h.val Ev.headServoRejoin [] (.inl (by have := h.isLt; omega)) (by have := h.isLt; omega)).of_kept
      (KeptBy.modHead fun _ _ => rfl)
  refine Runs.intro (exec_headServoRejoin_of_run hd hl hs hr) ?_
  generalize (s.modHead d h Head.rejoined).raiseHead d h Ev.headServoRejoin = u at hraised hlog ⊢
  have hact : ((u.calRecheck d).die d).act h.act = (s.die d).act h.act := by
    rw [hraised.act]
    cases h.act
    · rfl
    · rfl
  have hstay : (u.calRecheck d).recoverDone d h.act = u.calRecheck d := by
    unfold State.recoverDone
    exact if_neg fun hrec => ha (hact ▸ hrec.1)
  rw [hstay]
  refine ⟨hraised, hlog.congr rfl rfl ?_⟩
  rw [State.calRecheck, State.modDie_die_self]

/-- The event of a recovery, and calibrations paused (05 R159 row 9). -/
def State.recoverNoted (s : State) (d : DieId) (a : Act) (k : EventKind) : State :=
  (((s.modDie d fun y => match a with
    | .A => { y with recoverA := true }
    | .B => { y with recoverB := true }).raiseAct d a k).calRecheck d)

theorem State.recoverNoted_spec (s : State) (d : DieId) (a : Act) (k : EventKind) :
    KeptBy (fun x => (x.heads, x.actA, x.actB)) d s (s.recoverNoted d a k) ∧ Within [] d s (s.recoverNoted d a k) := by
  have hrep := fun u : State => State.raiseAct_reported [] u d a k []
  refine ⟨((KeptBy.modDie fun x => ?_).trans (KeptBy.reported (fun _ _ => rfl) (hrep _))).trans (KeptBy.calRecheck fun _ _ => rfl),
    ((Within.refl.modDie).reported (hrep _)).calRecheck⟩
  cases a
  · rfl
  · rfl

/-- An actuator that recovers keeps its targets (05 R157). -/
def Actuator.recovering (rev : Nat) (targets : List Nat) (y : Actuator) : Actuator :=
  { y with state := .recovering, sinceRev := rev, settleRun := 0, settleWedges := 0, savedTargets := targets }

/-- Entry to RECOVERING: what it leaves of the heads, and the actuators (05 R159 row 9). -/
theorem State.recoverStart_spec (s : State) (d : DieId) (a : Act) (k : EventKind) :
    let t := s.recoverStart d a (some k)
    (∀ g, ∃ r o, (t.die d).head g = { (s.die d).head g with recRun := r, offset := o }) ∧
    ((t.die d).act a).state = .recovering ∧ (t.die d).act (Act.other a) = (s.die d).act (Act.other a) ∧ Within [] d s t := by
  intro t
  have hheads := State.foldl_modHead_head d (f := fun y => { y with recRun := 0, offset := 0 }) (fun _ => rfl) (headsOf a) s
  obtain ⟨v, hv⟩ := State.foldl_modHead d (fun y => { y with recRun := 0, offset := 0 }) (headsOf a) s
  generalize hu : (headsOf a).foldl (fun s h => s.modHead d h fun y => { y with recRun := 0, offset := 0 }) s = u at hheads hv
  have huact : ∀ b, (u.die d).act b = (s.die d).act b := by
    intro b
    rw [hv, State.setDie_die_self]
    cases b
    · rfl
    · rfl
  obtain ⟨f, ht, hf⟩ : ∃ f : Actuator → Actuator, t = (u.modAct d a f).recoverNoted d a k ∧ ∀ y, (f y).state = .recovering := by
    refine ⟨Actuator.recovering (s.die d).clock.rev ((headsOf a).map fun h => ((s.die d).head h).target), ?_, fun _ => rfl⟩
    rw [← hu]
    rfl
  obtain ⟨hkept, hwithin⟩ := (u.modAct d a f).recoverNoted_spec d a k
  obtain ⟨hhs, hA, hB⟩ := Prod.ext_iff.mp hkept.self |>.imp id Prod.ext_iff.mp
  have hact : ∀ b, (t.die d).act b = ((u.die d).modAct a f).act b := by
    intro b
    rw [ht, ← State.modAct_die_self]
    cases b
    · exact hA
    · exact hB
  have hwu : Within [] d s u := by
    rw [hv]
    exact Within.refl.setDie
  refine ⟨fun g => ?_, ?_, ?_, ?_⟩
  · have hg : (t.die d).head g = (u.die d).head g := by
      refine (congrArg (fun w : State => (w.die d).head g) ht).trans ((congrArg (·[g]) hhs).trans ?_)
      dsimp only
      rw [State.modAct_die_self]
      cases a
      · rfl
      · rfl
    rw [hg, hheads g]
    split
    · exact ⟨_, _, rfl⟩
    · exact ⟨_, _, rfl⟩
  · rw [hact, Die.modAct_act_self, hf]
  · rw [hact, Die.modAct_act_ne _ _ _ _ (by cases a <;> decide), huact]
  · exact ht ▸ hwu.modDie.trans hwithin

/-- The head's part of a loss (04 R130). -/
def Head.lost (y : Head) : Head := { y.requeueUnstarted with servo := .lost, validRun := 0, request := none }

theorem Die.modHead_of_fixed {x : Die} {h : HeadId} {f : Head → Head} (hf : f (x.head h) = x.head h) :
    x.modHead h f = x := by
  rw [Die.modHead, hf]
  simp [Die.setHead, Die.head]

/-- What a loss leaves of its head. -/
def Head.lostBy (y : Head) : Head := (if y.permit then y.unpermitted else y).lost

theorem State.headLost_gives (s : State) (d : DieId) (h : HeadId) : ∃ runs, Gives [] d
    { (s.die d).modHead h Head.lostBy with calRuns := runs } s (s.headLost d h) := by
  have hdrop : Gives [] d ((s.die d).modHead h fun y => if y.permit then y.unpermitted else y) s (s.dropPermit d h) := by
    have hgives : Gives [] d _ s (s.dropPermit d h) := Gives.dropPermit
    by_cases hp : ((s.die d).head h).permit = true
    · rw [if_pos hp] at hgives
      simpa [Die.modHead, hp] using hgives
    · rw [if_neg hp] at hgives
      rwa [Die.modHead_of_fixed (f := fun y => if y.permit then y.unpermitted else y) (if_neg hp)]
  have hlost : Gives [] d ((s.die d).modHead h Head.lostBy) s ((s.dropPermit d h).modHead d h Head.lost) := by
    simpa [Die.modHead, Die.setHead, Die.head, Head.lostBy] using hdrop.modHead (n := h) (f := Head.lost)
  exact ⟨_, (hlost.raiseHead (k := Ev.headServoLost) (data := []) (n := h)).calRecheck⟩

theorem Head.lostBy_spec (y : Head) : y.lostBy.servo = .lost ∧ y.lostBy.permit = false ∧ y.lostBy.validRun = 0 ∧
    y.lostBy.request = none ∧ (∀ j ∈ y.lostBy.jobs, j.started = true) ∧ y.lostBy.live = y.live := by
  have hjobs : ∀ z : Head, ∀ j ∈ z.lost.jobs, j.started = true := fun z j hj => (List.mem_filter.mp hj).2
  refine ⟨rfl, ?_, rfl, rfl, hjobs _, ?_⟩
  · unfold Head.lostBy
    split
    · rfl
    · next hp => simpa [Head.lost, Head.requeueUnstarted] using hp
  · unfold Head.lostBy
    split
    · rfl
    · rfl

/-- R130: a LOST head. -/
theorem headServoLost_runs (hd : s.fitted d = true) (hl : ((s.die d).head h).live = true)
    (hs : ((s.die d).head h).servo = .tracking)
    (hr : s.getN Obj.missRecover (dieInst d) < ((s.die d).head h).missRun) (ha : ((s.die d).act h.act).loaded = true) :
    Runs (.headServoLost d h) s fun t =>
      let x := s.die d
      let a := h.act
      let z := (t.die d).head h
      z.servo = .lost ∧ z.permit = false ∧ z.validRun = 0 ∧ z.request = none ∧ (∀ j ∈ z.jobs, j.started = true) ∧
      ((x.act a).onDisk = true → (∀ g ∈ x.liveHeads a, g = h ∨ (x.head g).servo = .lost ∨
          s.getN Obj.missRecover (dieInst d) < (x.head g).missRun) → ((t.die d).act a).state = .recovering) ∧
      (t.die d).act (Act.other a) = x.act (Act.other a) ∧ Within [] d s t := by
  refine Runs.intro (exec_headServoLost_of_run hd hl hs hr ha) ?_
  obtain ⟨runs, hu⟩ := s.headLost_gives d h
  generalize s.headLost d h = u at hu ⊢
  have hhead : ∀ g, (u.die d).head g = ((s.die d).modHead h Head.lostBy).head g := fun g => hu.head g
  have hact : ∀ b, (u.die d).act b = (s.die d).act b := by
    intro b
    rw [hu.act]
    cases b
    · rfl
    · rfl
  have hself : (u.die d).head h = ((s.die d).head h).lostBy := (hhead h).trans (Die.modHead_head_self ..)
  have hmiss : u.getN Obj.missRecover (dieInst d) = s.getN Obj.missRecover (dieInst d) :=
    congrArg Int.toNat (hu.get (by decide) (dieInst_lt d))
  obtain ⟨h1, h2, h3, h4, h5, h6⟩ := ((s.die d).head h).lostBy_spec
  rw [← hself] at h1 h2 h3 h4 h5 h6
  have hall : (∀ g ∈ (s.die d).liveHeads h.act, g = h ∨ ((s.die d).head g).servo = .lost ∨
      s.getN Obj.missRecover (dieInst d) < ((s.die d).head g).missRun) → u.allLost d h.act = true := by
    intro hlost
    have hlive : ∀ g, ((u.die d).head g).live = ((s.die d).head g).live := by
      intro g
      by_cases hg : g = h
      · rw [hg]
        exact h6
      · rw [hhead, Die.modHead_head_ne _ _ _ _ hg]
    have hlist : (u.die d).liveHeads h.act = (s.die d).liveHeads h.act := by
      simp only [Die.liveHeads, hlive]
    have hmem : h ∈ (s.die d).liveHeads h.act := by simp [Die.liveHeads, headsOf, hl]
    unfold State.allLost
    simp only [hlist, hmiss, Bool.and_eq_true, List.all_eq_true, Bool.or_eq_true, beq_iff_eq, decide_eq_true_eq]
    refine ⟨?_, fun g hg => ?_⟩
    · cases hl' : (s.die d).liveHeads h.act with
      | nil => simp [hl'] at hmem
      | cons => rfl
    · by_cases hgh : g = h
      · exact .inl (hgh ▸ h1)
      · rw [hhead, Die.modHead_head_ne _ _ _ _ hgh]
        exact (hlost g hg).resolve_left hgh
  by_cases hrec : (((u.die d).act h.act).onDisk && u.allLost d h.act) = true
  · obtain ⟨hheads, hst, hother, hwithin⟩ := u.recoverStart_spec d h.act Ev.actRecover
    obtain ⟨r, o, hz⟩ := hheads h
    rw [if_pos hrec]
    dsimp only
    rw [hz]
    exact ⟨h1, h2, h3, h4, h5, fun _ _ => hst, hother.trans (hact _), hu.within.trans hwithin⟩
  · rw [if_neg hrec]
    refine ⟨h1, h2, h3, h4, h5, fun hdisk hlost => absurd ?_ hrec, hact _, hu.within⟩
    rw [hact, hdisk, hall hlost, Bool.and_self]

/-- Settles O14: a live head takes a wedge by the rule for missed or for valid ones; runs of them set what the head and
its actuator hold. -/
theorem demodAndMissRuns : Obligations.DemodAndMissRuns := by
  refine ⟨fun s d h w hd => ⟨exec_demodWedge_of_not_live hd w, demodWedge_runs hd w⟩, fun s d h hd => ?_⟩
  exact ⟨fun hr => Runs.intro (exec_headMissWriteInhibit_of_run hd hr) Gives.dropPermit, exec_headMissDrop_of_run hd,
    exec_grayMismatchInvalid_of_run hd, exec_grayMismatchInvalid_of_short hd, headServoLost_runs hd, headServoRejoin_runs hd⟩

end

end Sys2Proof.Machine

/-! PROOFS. The collection point and shocks (05 R135 to R165). -/

namespace Sys2Proof.Machine

/-! ### What a step keeps of a die, of the host's side and of some objects -/

theorem State.putSub_rest (s : State) (o : ObjDef) (sub i : Nat) (v : Int) :
    ((s.putSub o sub i v).slots, (s.putSub o sub i v).linksDown) = (s.slots, s.linksDown) := by
  unfold State.putSub
  split <;> rfl

/-- What f shows of die d, every other die, the host's side, the slots, the links that are down and the objects os of the die
are as they were. -/
structure StepFrame {α : Type} (f : Die → α) (os : List ObjDef) (d : DieId) (s t : State) : Prop extends KeptBy f d s t where
  host : t.host = s.host
  rest : (t.slots, t.linksDown) = (s.slots, s.linksDown)
  objs : ∀ o ∈ os, t.get o (dieInst d) = s.get o (dieInst d)

namespace StepFrame
variable {α : Type} {f : Die → α} {os : List ObjDef} {d : DieId} {s t u : State}

theorem slots (h : StepFrame f os d s t) : t.slots = s.slots := congrArg Prod.fst h.rest

theorem links (h : StepFrame f os d s t) : t.linksDown = s.linksDown := congrArg Prod.snd h.rest

theorem refl : StepFrame f os d s s := ⟨KeptBy.refl, rfl, rfl, fun _ _ => rfl⟩

theorem trans (h : StepFrame f os d s t) (k : StepFrame f os d t u) : StepFrame f os d s u :=
  ⟨h.toKeptBy.trans k.toKeptBy, k.host.trans h.host, k.rest.trans h.rest, fun o ho => (k.objs o ho).trans (h.objs o ho)⟩

theorem ite {c : Prop} [Decidable c] (h : StepFrame f os d s t) (k : StepFrame f os d s u) :
    StepFrame f os d s (if c then t else u) := by
  split
  · exact h
  · exact k

theorem foldl {β : Type} {g : State → β → State} (h : ∀ s x, StepFrame f os d s (g s x)) (l : List β) (s : State) :
    StepFrame f os d s (l.foldl g s) := by
  induction l generalizing s with
  | nil => exact refl
  | cons x l ih => exact (h s x).trans (ih _)

theorem setDie {x : Die} (h : f x = f (s.die d)) : StepFrame f os d s (s.setDie d x) :=
  ⟨KeptBy.setDie h, rfl, rfl, fun _ _ => rfl⟩

theorem modDie {g : Die → Die} (h : ∀ x, f (g x) = f x) : StepFrame f os d s (s.modDie d g) := setDie (h _)

theorem modHead {h : HeadId} {g : Head → Head} (hf : ∀ x v, f { x with heads := v } = f x) :
    StepFrame f os d s (s.modHead d h g) := modDie fun _ => hf _ _

theorem modAct {a : Act} {g : Actuator → Actuator} (hf : ∀ x v w, f { x with actA := v, actB := w } = f x) :
    StepFrame f os d s (s.modAct d a g) := ⟨KeptBy.modAct hf, rfl, rfl, fun _ _ => rfl⟩

theorem emit {o : Out} : StepFrame f os d s (s.emit o) := ⟨KeptBy.emit, rfl, rfl, fun _ _ => rfl⟩

theorem bump {o : ObjDef} {i k : Nat} (ho : ∀ p ∈ os, p.name ≠ o.name) (hi : i < 256) :
    StepFrame f os d s (s.bump o i k) :=
  ⟨KeptBy.bump, State.putSub_host .., State.putSub_rest .., fun p hp => State.bump_get_ne s (ho p hp) hi (dieInst_lt d)⟩

theorem reported (hf : ∀ x o, f { x with obs := o } = f x) (ho : ∀ p ∈ os, p.name ≠ Obj.eventLogOverwritten.name)
    (h : Reported [] d s t) : StepFrame f os d s t :=
  ⟨KeptBy.reported hf h, by simpa [State.side] using congrArg State.host h.1,
    congrArg (fun u : State => (u.slots, u.linksDown)) (a₁ := t.side []) (a₂ := s.side []) h.1,
    fun p hp => Gives.get h (by simpa using ho p hp) (dieInst_lt d)⟩

theorem raise {k : EventKind} {data : List (Nat × Int)} (hf : ∀ x o, f { x with obs := o } = f x)
    (ho : ∀ p ∈ os, p.name ≠ Obj.eventLogOverwritten.name) (hk : k.src ≠ 119 ∨ d = 0) :
    StepFrame f os d s (s.raise d k data) := reported hf ho (State.raise_reported [] s d k data hk)

theorem count {e k : Nat} (hf : ∀ x o, f { x with obs := o } = f x)
    (ho : ∀ p ∈ os, p.name ≠ Obj.eventLogOverwritten.name) : StepFrame f os d s (s.count d e k) :=
  reported hf ho (State.count_reported [] s d e k)

theorem calRecheck (hf : ∀ x r, f { x with calRuns := r } = f x) : StepFrame f os d s (s.calRecheck d) := modDie fun _ => hf _ _

theorem of_objsOnly (h : ObjsOnly s t) (ho : ∀ p ∈ os, t.get p (dieInst d) = s.get p (dieInst d)) : StepFrame f os d s t := by
  obtain ⟨o, rfl⟩ := h
  exact ⟨⟨rfl, fun _ _ => rfl⟩, rfl, rfl, ho⟩

end StepFrame

/-! ### Marks on the verify list -/

section
variable {α : Type} {f : Die → α} {os : List ObjDef} {d : DieId} {s : State}
variable (hf : ∀ x wc v full, f { x with data := { x.data with wc := wc, verify := v, verifyFull := full } } = f x)
variable (hs : ∀ x b, f { x with verifyFullSeen := b } = f x) (hobs : ∀ x o, f { x with obs := o } = f x)
variable (ho : ∀ p ∈ os, p.name ≠ Obj.verifyMarkedCount.name ∧ p.name ≠ Obj.eventLogOverwritten.name)
include hf hs hobs ho

/-- A mark touches the verify list, the versions kept for it, and what an event touches (07 R231). -/
theorem StepFrame.mark {e : VerifyEntry} : StepFrame f os d s (s.mark d e) := by
  unfold State.mark
  refine StepFrame.trans (StepFrame.trans (StepFrame.bump (fun p hp => (ho p hp).1) (headInst_lt d e.head))
    (StepFrame.modDie fun x => hf x _ x.data.verify x.data.verifyFull)) (StepFrame.ite (StepFrame.modDie fun x =>
      hf x x.data.wc _ x.data.verifyFull) ?_)
  have hfull : ∀ u : State, StepFrame f os d u (u.modDie d fun x =>
      { x with verifyFullSeen := true, data := { x.data with verifyFull := true } }) := fun u =>
    StepFrame.modDie fun x => (hf { x with verifyFullSeen := true } x.data.wc x.data.verify true).trans (hs x true)
  exact StepFrame.ite ((hfull _).trans (StepFrame.raise hobs (fun p hp => (ho p hp).2) (.inl (by decide)))) (hfull _)

theorem StepFrame.servoMark {h : HeadId} {reason : Nat} : StepFrame f os d s (s.servoMark d h reason) :=
  StepFrame.ite StepFrame.refl (StepFrame.foldl (fun _ _ => StepFrame.mark hf hs hobs ho) _ _)

end

/-! ### The collection point -/

/-- Spindle and overruns, which a collection leaves to the end. -/
def Die.servoView (x : Die) : Spindle × Bool := (x.spin, x.overrunNow)

/-- The limits that permits are judged by (05 R161). -/
def permitObjs : List ObjDef := [Obj.missWi, Obj.wiLimit]

/-- The frame of a collection's steps. -/
def Servo (d : DieId) (s t : State) : Prop := StepFrame Die.servoView permitObjs d s t

namespace Servo
variable {d : DieId} {s t u : State} {a : Act} {h : HeadId}

theorem trans (h : Servo d s t) (k : Servo d t u) : Servo d s u := StepFrame.trans h k

theorem refl : Servo d s s := StepFrame.refl

theorem ite {c : Prop} [Decidable c] (h : Servo d s t) (k : Servo d s u) : Servo d s (if c then t else u) := StepFrame.ite h k

theorem foldl {β : Type} {g : State → β → State} (h : ∀ s x, Servo d s (g s x)) (l : List β) (s : State) :
    Servo d s (l.foldl g s) := StepFrame.foldl h l s

theorem modHead {g : Head → Head} : Servo d s (s.modHead d h g) := StepFrame.modHead fun _ _ => rfl

theorem modAct {g : Actuator → Actuator} : Servo d s (s.modAct d a g) := StepFrame.modAct fun _ _ _ => rfl

theorem calRecheck : Servo d s (s.calRecheck d) := StepFrame.calRecheck fun _ _ => rfl

theorem bump {o : ObjDef} {i k : Nat} (ho : ∀ p ∈ permitObjs, p.name ≠ o.name) (hi : i < 256) : Servo d s (s.bump o i k) :=
  StepFrame.bump ho hi

theorem mark {e : VerifyEntry} : Servo d s (s.mark d e) :=
  StepFrame.mark (fun _ _ _ _ => rfl) (fun _ _ => rfl) (fun _ _ => rfl) (by decide)

theorem servoMark {reason : Nat} : Servo d s (s.servoMark d h reason) :=
  StepFrame.servoMark (fun _ _ _ _ => rfl) (fun _ _ => rfl) (fun _ _ => rfl) (by decide)

theorem dropPermit : Servo d s (s.dropPermit d h) :=
  ite (modHead.trans (StepFrame.count (fun _ _ => rfl) (by decide))) refl

theorem missWedge {g i : Bool} : Servo d s (s.missWedge d h g i) := by
  unfold State.missWedge
  exact trans (StepFrame.modDie (by intro _; rfl)) (bump (by decide) (headInst_lt d h))

theorem collectRecords : Servo d s (s.collectRecords d) :=
  foldl (fun _ _ => (missWedge.trans (bump (by decide) (headInst_lt d _))).trans modHead) _ _

theorem sendVcm {typ : BitVec 2} {cmd : Int} : Servo d s (s.sendVcm d a typ cmd) := modAct.trans StepFrame.emit

theorem retract {why : RetractFor} : Servo d s (s.retract d a why) := modAct.trans sendVcm

theorem vcmFrameOut : Servo d s (s.vcmFrameOut d a) := by
  unfold State.vcmFrameOut
  dsimp only
  split
  · exact refl
  · exact refl
  · exact refl
  · exact sendVcm
  · exact sendVcm

theorem settle : Servo d s (s.settle d a) := (foldl (fun _ _ => modHead) _ _).trans modAct

theorem loaded : Servo d s (s.loaded d a) := by
  unfold State.loaded
  dsimp only
  split
  · exact refl
  · exact ((foldl (fun _ _ => modHead) _ _).trans modAct).trans calRecheck

theorem recoverDone : Servo d s (s.recoverDone d a) :=
  ite ((((foldl (fun _ _ => modHead) _ _).trans modAct).trans (bump (by decide) (calInst_lt (.act d a)))).trans calRecheck) refl

theorem actWedge : Servo d s (s.actWedge d a) := by
  unfold State.actWedge
  dsimp only
  split
  · exact modAct.trans loaded
  · exact (modAct.trans modAct).trans (ite settle refl)
  · exact (modAct.trans modAct).trans (ite retract refl)
  · exact modAct.trans modAct
  · exact modAct.trans modAct
  · exact modAct.trans recoverDone
  · exact modAct
  · exact modAct
  · exact modAct

theorem actError : Servo d s (s.actError d a) :=
  modAct.trans (ite (((foldl (fun _ _ => dropPermit) _ _).trans modAct).trans (settle.trans calRecheck)) refl)

theorem vcmFeedback : Servo d s (s.vcmFeedback d a) := ite modAct modAct

theorem vcmOutput : Servo d s (s.vcmOutput d a) := ite modAct modAct

theorem sendPcl {typ param : Nat} {words : List (BitVec 16)} : Servo d s (s.sendPcl d a typ param words) :=
  modAct.trans StepFrame.emit

theorem unmonitored : Servo d s (s.unmonitored d a) :=
  ite (foldl (fun _ _ => modHead) _ _) (foldl (fun _ _ => ite refl
    (((bump (by decide) (headInst_lt d _)).trans (foldl (fun _ _ => mark) _ _)).trans modHead)) _ _)

theorem maUpdate : Servo d s (s.maUpdate d a) := by
  unfold State.maUpdate
  dsimp only
  refine (foldl (fun _ _ => modHead) _ _).trans (ite refl ?_)
  exact (sendPcl.trans (ite unmonitored refl)).trans modAct

theorem maLoop : Servo d s (s.maLoop d h) := by
  unfold State.maLoop
  dsimp only
  refine ite modHead (ite modHead (ite refl ?_))
  split
  · exact modHead
  · exact modHead

theorem permitHead : Servo d s (s.permitHead d h) := by
  unfold State.permitHead
  dsimp only
  exact ite (ite refl (((ite (bump (by decide) (headInst_lt d h)) refl).trans (ite servoMark refl)).trans dropPermit)) modHead

theorem giveGrant {b p : Bool} {r : SlotRun} : Servo d s (s.giveGrant d b p r) := by
  unfold State.giveGrant
  dsimp only
  exact trans modHead (StepFrame.modDie (by intro _; rfl))

theorem slotHeld {p q : Rat} : Servo d s (s.modDie d fun x => { x with prevA := p, prevB := q }) :=
  StepFrame.modDie fun _ => rfl

theorem refuseRequest : Servo d s (s.refuseRequest d h) := by
  unfold State.refuseRequest
  dsimp only
  split
  · exact refl
  · refine trans (modHead.trans (bump (by decide) (headInst_lt d h))) (ite (ite refl ?_) modHead)
    refine trans (t := State.modDie _ d fun y => { y with blocked := true }) ?_ (StepFrame.reported (fun _ _ => rfl) (by decide)
      (State.raiseHead_reported [] _ d h _ _))
    exact modHead.trans (StepFrame.modDie (by intro _; rfl))

theorem grantSlot : Servo d s (s.grantSlot d) := by
  unfold State.grantSlot
  dsimp only
  refine trans ?_ (foldl (fun _ _ => refuseRequest) _ _)
  refine trans ?_ (foldl (fun _ _ => giveGrant) _ _)
  refine trans ?_ (foldl (fun _ _ => giveGrant) _ _)
  refine trans ?_ (foldl (fun _ _ => giveGrant) _ _)
  exact trans (foldl (fun _ _ => modHead) _ _) slotHeld

end Servo

/-! ### Permits -/

/-- What the permit of head h and its conditions rest on (05 R161). -/
def Die.permitView (h : HeadId) (x : Die) :
    (Bool × Bool × HeadServo × Nat × BitVec 64) × ActState × ClockState × Bool × Nat :=
  (((x.head h).permit, (x.head h).live, (x.head h).servo, (x.head h).missRun, (x.head h).record), (x.act h.act).state,
    x.clock.state, x.shock, x.holdoff)

/-- Where head h has its permit, its conditions hold, by the limits m and w (05 R161). -/
def PermitSafe (m w : Nat) (h : HeadId) (x : Die) : Prop :=
  (x.head h).permit = true →
    (x.act h.act).state = .tracking ∧ x.clock.state = .locked ∧ (x.head h).live = true ∧ (x.head h).servo ≠ .lost ∧
    (x.head h).missRun ≤ m ∧ (recordPes (x.head h).record).natAbs ≤ w ∧ x.shock = false ∧ x.holdoff = 0

theorem PermitSafe.of_view {m w : Nat} {h : HeadId} {x y : Die} (hv : y.permitView h = x.permitView h)
    (hs : PermitSafe m w h x) : PermitSafe m w h y := by
  simp only [Die.permitView, Prod.mk.injEq] at hv
  obtain ⟨⟨h1, h2, h3, h4, h5⟩, h6, h7, h8, h9⟩ := hv
  unfold PermitSafe
  rwa [h1, h2, h3, h4, h5, h6, h7, h8, h9]

/-- What the view shows of a head. -/
def Head.permitView (y : Head) : Bool × Bool × HeadServo × Nat × BitVec 64 :=
  (y.permit, y.live, y.servo, y.missRun, y.record)

section
variable {d : DieId} {s t : State} {h k : HeadId}

theorem KeptBy.modHead_view {g : Head → Head} (hg : h ≠ k ∨ ∀ y, (g y).permitView = y.permitView) :
    KeptBy (Die.permitView h) d s (s.modHead d k g) := by
  refine KeptBy.modDie fun x => ?_
  have hhead : ((x.modHead k g).head h).permitView = (x.head h).permitView := by
    by_cases hk : h = k
    · rw [hk, Die.modHead_head_self]
      exact (hg.resolve_left fun hne => hne hk) _
    · rw [Die.modHead_head_ne _ _ _ _ hk]
  exact congrArg (fun v => (v, (x.act h.act).state, x.clock.state, x.shock, x.holdoff)) hhead

theorem KeptBy.dropPermit_view (hk : h ≠ k) : KeptBy (Die.permitView h) d s (s.dropPermit d k) :=
  KeptBy.ite ((KeptBy.modHead_view (.inl hk)).trans (KeptBy.reported (fun _ _ => rfl) (State.count_reported [] _ d _ _)))
    KeptBy.refl

theorem KeptBy.servoMark_view {reason : Nat} : KeptBy (Die.permitView h) d s (s.servoMark d k reason) :=
  (StepFrame.servoMark (os := []) (fun _ _ _ _ => rfl) (fun _ _ => rfl) (fun _ _ => rfl) (by decide)).toKeptBy

theorem KeptBy.permitHead_view (hk : h ≠ k) : KeptBy (Die.permitView h) d s (s.permitHead d k) := by
  unfold State.permitHead
  dsimp only
  refine KeptBy.ite (KeptBy.ite KeptBy.refl (KeptBy.trans (KeptBy.trans (KeptBy.ite KeptBy.bump KeptBy.refl)
    (KeptBy.ite KeptBy.servoMark_view KeptBy.refl)) (KeptBy.dropPermit_view hk))) (KeptBy.modHead_view (.inl hk))

theorem KeptBy.giveGrant_view {b p : Bool} {r : SlotRun} : KeptBy (Die.permitView h) d s (s.giveGrant d b p r) := by
  unfold State.giveGrant
  dsimp only
  exact KeptBy.trans (KeptBy.modHead_view (.inr (by intro _; rfl))) (KeptBy.modDie (by intro _; rfl))

theorem KeptBy.refuseRequest_view : KeptBy (Die.permitView h) d s (s.refuseRequest d k) := by
  have hmod : ∀ (u : State) (g : Head → Head), (∀ y, (g y).permitView = y.permitView) →
      KeptBy (Die.permitView h) d u (u.modHead d k g) := fun _ _ hg => KeptBy.modHead_view (.inr hg)
  unfold State.refuseRequest
  dsimp only
  split
  · exact KeptBy.refl
  · refine KeptBy.trans ((hmod _ _ (by intro _; rfl)).trans KeptBy.bump) (KeptBy.ite (KeptBy.ite KeptBy.refl ?_)
      (hmod _ _ (by intro _; rfl)))
    refine KeptBy.trans (t := State.modDie _ d fun y => { y with blocked := true }) ?_
      (KeptBy.reported (fun _ _ => rfl) (State.raiseHead_reported [] _ d k _ _))
    exact (hmod _ _ (by intro _; rfl)).trans (KeptBy.modDie (by intro _; rfl))

theorem KeptBy.slotHeld_view {p q : Rat} :
    KeptBy (Die.permitView h) d s (s.modDie d fun x => { x with prevA := p, prevB := q }) := KeptBy.modDie fun _ => rfl

theorem KeptBy.grantSlot_view : KeptBy (Die.permitView h) d s (s.grantSlot d) := by
  unfold State.grantSlot
  dsimp only
  refine KeptBy.trans ?_ (KeptBy.foldl (fun _ _ => KeptBy.refuseRequest_view) _ _)
  refine KeptBy.trans ?_ (KeptBy.foldl (fun _ _ => KeptBy.giveGrant_view) _ _)
  refine KeptBy.trans ?_ (KeptBy.foldl (fun _ _ => KeptBy.giveGrant_view) _ _)
  refine KeptBy.trans ?_ (KeptBy.foldl (fun _ _ => KeptBy.giveGrant_view) _ _)
  exact KeptBy.trans (KeptBy.foldl (fun _ _ => KeptBy.modHead_view (.inr (by intro _; rfl))) _ _) KeptBy.slotHeld_view

/-- The conditions of the permit's base hold the ones that a permit rests on. -/
theorem State.permitBase_spec (hb : s.permitBase d h = true) :
    ((s.die d).act h.act).state = .tracking ∧ (s.die d).clock.state = .locked ∧ ((s.die d).head h).live = true ∧
    ((s.die d).head h).servo ≠ .lost ∧ ((s.die d).head h).missRun ≤ s.getN Obj.missWi (dieInst d) ∧
    (recordPes ((s.die d).head h).record).natAbs ≤ s.getN Obj.wiLimit (dieInst d) ∧ (s.die d).shock = false ∧
    (s.die d).holdoff = 0 := by
  unfold State.permitBase at hb
  simp only [Bool.and_eq_true, beq_iff_eq, bne_iff_ne, ne_eq, decide_eq_true_eq, Bool.not_eq_true'] at hb
  obtain ⟨⟨⟨⟨⟨⟨⟨⟨⟨h1, h2⟩, h3⟩, h4⟩, h5⟩, h6⟩, -⟩, h7⟩, h8⟩, -⟩ := hb
  exact ⟨h1, h2, h3, h4, h5, h6, h7, h8⟩

theorem State.dropPermit_permit (s : State) (d : DieId) (h : HeadId) : (((s.dropPermit d h).die d).head h).permit = false := by
  have hgives : Gives [] d _ s (s.dropPermit d h) := Gives.dropPermit
  rw [hgives.head]
  split
  · rw [Die.modHead_head_self]
    rfl
  · next hp => simpa using hp

/-- R161: a head's permit is safe once it has been judged. -/
theorem State.permitHead_safe (s : State) (d : DieId) (h : HeadId) :
    PermitSafe (s.getN Obj.missWi (dieInst d)) (s.getN Obj.wiLimit (dieInst d)) h ((s.permitHead d h).die d) := by
  unfold State.permitHead
  dsimp only
  split
  · split
    · next hb => exact fun _ => State.permitBase_spec hb
    · exact fun hp => absurd hp (by rw [State.dropPermit_permit]; decide)
  · intro hp
    rw [State.modHead_die_self, Die.modHead_head_self] at hp
    have hb : s.permitBase d h = true := (Bool.and_eq_true_iff.mp hp).2
    have hspec := State.permitBase_spec hb
    rw [State.modHead_die_self, Die.modHead_head_self]
    exact hspec

theorem Servo.limits (hs : Servo d s t) : t.getN Obj.missWi (dieInst d) = s.getN Obj.missWi (dieInst d) ∧
    t.getN Obj.wiLimit (dieInst d) = s.getN Obj.wiLimit (dieInst d) :=
  ⟨congrArg Int.toNat (hs.objs _ (by decide)), congrArg Int.toNat (hs.objs _ (by decide))⟩

/-- R161: a head that has been judged stays safe while the others are judged. -/
theorem State.foldl_permitHead_safe (d : DieId) (h : HeadId) (l : List HeadId) (s : State)
    (hs : h ∈ l ∨ PermitSafe (s.getN Obj.missWi (dieInst d)) (s.getN Obj.wiLimit (dieInst d)) h (s.die d)) :
    PermitSafe (s.getN Obj.missWi (dieInst d)) (s.getN Obj.wiLimit (dieInst d)) h
      ((l.foldl (fun s h => s.permitHead d h) s).die d) := by
  induction l generalizing s with
  | nil => exact hs.resolve_left (by simp)
  | cons k l ih =>
    obtain ⟨hm, hw⟩ := (Servo.permitHead : Servo d s (s.permitHead d k)).limits
    rw [List.foldl_cons, ← hm, ← hw]
    refine ih _ ?_
    rw [hm, hw]
    by_cases hk : h = k
    · exact .inr (hk ▸ s.permitHead_safe d k)
    · rcases hs with hs | hs
      · exact .inl ((List.mem_cons.mp hs).resolve_left hk)
      · exact .inr (hs.of_view (KeptBy.permitHead_view hk).self)

end

/-! ### The whole of a collection -/

/-- A collection up to the loops (05 R135 to R143, R151 to R159). -/
def State.servoStepped (s : State) (d : DieId) : State :=
  let s := s.collectRecords d
  let s := ((s.vcmFrameOut d .A).vcmFrameOut d .B)
  let s := (s.actWedge d .A).actWedge d .B
  let s := (s.actError d .A).actError d .B
  let s := (s.vcmFeedback d .A).vcmFeedback d .B
  let s := (s.vcmOutput d .A).vcmOutput d .B
  let s := (s.maUpdate d .A).maUpdate d .B
  allHeads.foldl (fun s h => s.maLoop d h) s

/-- Permits judged, then the slot's grants (05 R161, 07 R224 to R226). -/
def State.servoJudged (s : State) (d : DieId) : State := (allHeads.foldl (fun s h => s.permitHead d h) s).grantSlot d

/-- What the end of a collection sets of its die. -/
def Die.collected (x : Die) : Die :=
  { x with
    holdoff := if x.shock then x.holdoff else if 1 < x.holdoff then x.holdoff - 1 else x.holdoff
    overrunPrev := x.overrunNow, overrunNow := false
    obs := if x.obs.frozen then x.obs else { x.obs with wedges := (x.obs.wedges + 1) % 2 ^ 64 } }

/-- A head whose record is collected. -/
def Head.undelivered (y : Head) : Head := { y with delivered := false }

/-- The end of a collection. -/
def State.servoEnded (s : State) (d : DieId) : State :=
  (allHeads.foldl (fun s h => s.modHead d h Head.undelivered) (s.modDie d Die.collected)).count d 0x003

theorem exec_servoCollect {s : State} {d : DieId} (hd : s.fitted d = true) :
    exec (.servoCollect d) s = .next (((s.servoStepped d).servoJudged d).servoEnded d) := by
  have heq : execServoCollect d s = onDie d s fun s => ((s.servoStepped d).servoJudged d).servoEnded d := by
    unfold execServoCollect State.servoStepped State.servoJudged State.servoEnded Die.collected Head.undelivered
    with_reducible rfl
  exact exec_onDie (f := fun s => ((s.servoStepped d).servoJudged d).servoEnded d) (execServoCollect d s) rfl heq hd

section
variable {d : DieId} {s : State}

theorem Servo.servoStepped : Servo d s (s.servoStepped d) := by
  unfold State.servoStepped
  dsimp only
  refine trans ?_ (foldl (fun _ _ => maLoop) _ _)
  refine trans ?_ (maUpdate.trans maUpdate)
  refine trans ?_ (vcmOutput.trans vcmOutput)
  refine trans ?_ (vcmFeedback.trans vcmFeedback)
  refine trans ?_ (actError.trans actError)
  refine trans ?_ (actWedge.trans actWedge)
  exact trans collectRecords (vcmFrameOut.trans vcmFrameOut)

theorem Servo.servoJudged : Servo d s (s.servoJudged d) := (foldl (fun _ _ => permitHead) _ _).trans grantSlot

theorem State.servoJudged_safe (s : State) (d : DieId) (h : HeadId) :
    PermitSafe (s.getN Obj.missWi (dieInst d)) (s.getN Obj.wiLimit (dieInst d)) h ((s.servoJudged d).die d) :=
  (State.foldl_permitHead_safe d h allHeads s (.inl (by simp [allHeads]))).of_view KeptBy.grantSlot_view.self

/-- The end of a collection: the heads' records are collected, and the rest follows from the die alone. -/
theorem State.servoEnded_spec (s : State) (d : DieId) :
    (∀ h, ((s.servoEnded d).die d).head h = ((s.die d).head h).undelivered) ∧
    ((s.servoEnded d).die d).overrunNow = false ∧ ((s.servoEnded d).die d).overrunPrev = (s.die d).overrunNow ∧
    ((s.servoEnded d).die d).shock = (s.die d).shock ∧ ((s.servoEnded d).die d).holdoff = (s.die d).collected.holdoff ∧
    StepFrame (fun x => (x.spin, x.actA, x.actB, x.clock)) [] d s (s.servoEnded d) := by
  unfold State.servoEnded
  have hheads := State.foldl_modHead_head d (f := Head.undelivered) (fun _ => rfl) allHeads (s.modDie d Die.collected)
  have hkeep : KeptBy (fun x => (x.overrunNow, x.overrunPrev, x.shock, x.holdoff)) d (s.modDie d Die.collected)
      (allHeads.foldl (fun s h => s.modHead d h Head.undelivered) (s.modDie d Die.collected)) :=
    KeptBy.foldl (fun _ _ => KeptBy.modHead fun _ _ => rfl) _ _
  have hframe : StepFrame (fun x => (x.spin, x.actA, x.actB, x.clock)) [] d s
      (allHeads.foldl (fun s h => s.modHead d h Head.undelivered) (s.modDie d Die.collected)) :=
    StepFrame.trans (t := s.modDie d Die.collected) (StepFrame.modDie (g := Die.collected) fun _ => rfl)
      (StepFrame.foldl (fun _ _ => StepFrame.modHead fun _ _ => rfl) _ _)
  generalize allHeads.foldl (fun s h => s.modHead d h Head.undelivered) (s.modDie d Die.collected) = u at hheads hkeep hframe ⊢
  have hrep := State.count_reported [] u d 3 1
  have hcount : KeptBy (fun x => (x.overrunNow, x.overrunPrev, x.shock, x.holdoff)) d u (u.count d 3) :=
    KeptBy.reported (fun _ _ => rfl) hrep
  have hall := hcount.self.trans hkeep.self
  rw [State.modDie_die_self] at hall
  refine ⟨fun h => ?_, congrArg (·.1) hall, congrArg (·.2.1) hall, congrArg (·.2.2.1) hall, congrArg (·.2.2.2) hall,
    hframe.trans (StepFrame.reported (fun _ _ => rfl) (by decide) hrep)⟩
  rw [Gives.head hrep, hheads, State.modDie_die_self]
  exact if_pos (by simp [allHeads])

end

/-- R161: a collection point. -/
theorem servoCollect_runs (s : State) (d : DieId) (hd : s.fitted d = true) :
    Runs (.servoCollect d) s fun t =>
      let x := t.die d
      (∀ h, (x.head h).permit = true →
        (x.act h.act).state = .tracking ∧ x.clock.state = .locked ∧ (x.head h).live = true ∧ (x.head h).servo ≠ .lost ∧
        (x.head h).missRun ≤ s.getN Obj.missWi (dieInst d) ∧
        (recordPes (x.head h).record).natAbs ≤ s.getN Obj.wiLimit (dieInst d) ∧ x.shock = false ∧ x.holdoff = 0) ∧
      (∀ h, (x.head h).delivered = false) ∧ x.overrunNow = false ∧ x.overrunPrev = (s.die d).overrunNow ∧
      x.spin = (s.die d).spin ∧ (∀ e, e ≠ d → t.die e = s.die e) ∧ t.host = s.host ∧ t.slots = s.slots := by
  refine Runs.intro (exec_servoCollect hd) ?_
  have hstep : Servo d s (s.servoStepped d) := Servo.servoStepped
  have hjudge : Servo d s ((s.servoStepped d).servoJudged d) := hstep.trans Servo.servoJudged
  obtain ⟨hm, hw⟩ := hstep.limits
  have hsafe := (s.servoStepped d).servoJudged_safe d
  rw [hm, hw] at hsafe
  generalize (s.servoStepped d).servoJudged d = u at hjudge hsafe ⊢
  obtain ⟨hheads, hnow, hprev, hshock, hhold, hframe⟩ := u.servoEnded_spec d
  generalize u.servoEnded d = t at hheads hnow hprev hshock hhold hframe ⊢
  have hspin : (t.die d).spin = (u.die d).spin := congrArg (·.1) hframe.self
  have hA : (t.die d).actA = (u.die d).actA := congrArg (·.2.1) hframe.self
  have hB : (t.die d).actB = (u.die d).actB := congrArg (·.2.2.1) hframe.self
  have hclock : (t.die d).clock = (u.die d).clock := congrArg (·.2.2.2) hframe.self
  have hspin' : (u.die d).spin = (s.die d).spin := congrArg (·.1) hjudge.self
  have hnow' : (u.die d).overrunNow = (s.die d).overrunNow := congrArg (·.2) hjudge.self
  refine ⟨fun h hp => ?_, fun h => by rw [hheads]; rfl, hnow, hprev.trans hnow', hspin.trans hspin',
    fun e he => (hframe.others e he).trans (hjudge.others e he), hframe.host.trans hjudge.host, hframe.slots.trans hjudge.slots⟩
  rw [hheads] at hp ⊢
  obtain ⟨h1, h2, h3, h4, h5, h6, h7, h8⟩ := hsafe h hp
  have hact : (t.die d).act h.act = (u.die d).act h.act := by
    cases h.act
    · exact hA
    · exact hB
  rw [hact, hclock, hshock, hhold]
  refine ⟨h1, h2, h3, h4, h5, h6, h7, ?_⟩
  simp [Die.collected, h7, h8]

/-! ### Shocks -/

section
variable {s : State} {d : DieId} (hd : s.fitted d = true)
include hd

/-- The gates of a die that a shock turns off (05 R163, R165). -/
def State.gatesShut (s : State) (d : DieId) : State :=
  allHeads.foldl (fun s h => s.modHead d h Head.gateOff)
    (((s.die d).writing.foldl (fun s h => s.servoMark d h 5) s).dropPermits d allHeads)

theorem exec_shockTrip_of_calm (h : (s.die d).shock = false) : exec (.shockTrip d) s =
    .next ((((s.gatesShut d).modDie d fun x => { x with shock := true, shockTrip := true, holdoff := 0 }).bump
      Obj.wiShockCount (dieInst d)).raise d Ev.shockDetect) := by
  rw [exec_onDie (execShockTrip d s) rfl rfl hd, when_true _ (by simp [h])]
  rfl

theorem exec_shockTrip_of_shock (h : (s.die d).shock = true) : exec (.shockTrip d) s = .next s := by
  rw [exec_onDie (execShockTrip d s) rfl rfl hd, when_false _ (by simp [h])]

theorem exec_shockClear_of_shock (h : (s.die d).shock = true) : exec (.shockClear d) s =
    .next (s.modDie d fun x => { x with shock := false, holdoff := s.getN Obj.shockHoldoffWedges (dieInst d) + 1 }) := by
  rw [exec_onDie (execShockClear d s) rfl rfl hd, when_true _ h]

theorem exec_shockHoldoffEnd_of_one (h : (s.die d).shock = false) (h1 : (s.die d).holdoff = 1) :
    exec (.shockHoldoffEnd d) s = .next (s.modDie d fun x => { x with holdoff := 0 }) := by
  rw [exec_onDie (execShockHoldoffEnd d s) rfl rfl hd, when_true _ (by simp [h, h1])]

theorem exec_shockHoldoffEnd_of_more (h1 : (s.die d).holdoff ≠ 1) : exec (.shockHoldoffEnd d) s = .next s := by
  rw [exec_onDie (execShockHoldoffEnd d s) rfl rfl hd, when_false _ (by simp [h1])]

end

/-- Dropping permits one after the other leaves none of the heads named with one. -/
theorem State.dropPermits_permit (d : DieId) (h : HeadId) (l : List HeadId) (s : State)
    (hp : h ∈ l ∨ ((s.die d).head h).permit = false) : (((s.dropPermits d l).die d).head h).permit = false := by
  unfold State.dropPermits
  induction l generalizing s with
  | nil => exact hp.resolve_left (by simp)
  | cons k l ih =>
    refine ih _ ?_
    by_cases hk : h = k
    · exact .inr (hk ▸ s.dropPermit_permit d k)
    · rcases hp with hp | hp
      · exact .inl ((List.mem_cons.mp hp).resolve_left hk)
      · have hkept : KeptBy (Die.permitView h) d s (s.dropPermit d k) := KeptBy.dropPermit_view hk
        exact .inr ((congrArg (·.1.1) hkept.self).trans hp)

theorem Head.gateOff_gateOff (y : Head) : y.gateOff.gateOff = y.gateOff := by
  have hjobs : y.gateOff.gateOff.jobs = y.gateOff.jobs := by
    unfold Head.gateOff
    cases y.jobs with
    | nil => rfl
    | cons j l =>
      by_cases hj : j.started = true
      · simp [hj]
      · simp [hj]
  calc y.gateOff.gateOff = { y.gateOff with lines := .park, jobs := y.gateOff.gateOff.jobs } := rfl
    _ = y.gateOff := by rw [hjobs]; rfl

/-- R163: with the gates shut no head has its permit, and every head's lines stand at PARK. -/
theorem State.gatesShut_spec (s : State) (d : DieId) :
    (∀ h, (((s.gatesShut d).die d).head h).permit = false ∧ (((s.gatesShut d).die d).head h).lines = .park) ∧
    KeptBy (fun x => (x.actA, x.actB, x.clock, x.data.media)) d s (s.gatesShut d) := by
  unfold State.gatesShut
  have hmarks : KeptBy (fun x => (x.actA, x.actB, x.clock, x.data.media)) d s
      ((s.die d).writing.foldl (fun s h => s.servoMark d h 5) s) :=
    KeptBy.foldl (fun _ _ => (StepFrame.servoMark (os := []) (fun _ _ _ _ => rfl) (fun _ _ => rfl) (fun _ _ => rfl)
      (by decide)).toKeptBy) _ _
  generalize (s.die d).writing.foldl (fun s h => s.servoMark d h 5) s = u at hmarks ⊢
  have hdrop : KeptBy (fun x => (x.actA, x.actB, x.clock, x.data.media)) d u (u.dropPermits d allHeads) :=
    KeptBy.foldl (fun _ _ => KeptBy.ite ((KeptBy.modHead fun _ _ => rfl).trans
      (KeptBy.reported (fun _ _ => rfl) (State.count_reported [] _ d _ _))) KeptBy.refl) _ _
  have hpermit : ∀ h, (((u.dropPermits d allHeads).die d).head h).permit = false := fun h =>
    State.dropPermits_permit d h allHeads u (.inl (by simp [allHeads]))
  generalize u.dropPermits d allHeads = v at hdrop hpermit ⊢
  have hheads := State.foldl_modHead_head d Head.gateOff_gateOff allHeads v
  refine ⟨fun h => ?_, (hmarks.trans hdrop).trans (KeptBy.foldl (fun _ _ => KeptBy.modHead fun _ _ => rfl) _ _)⟩
  rw [hheads, if_pos (by simp [allHeads])]
  exact ⟨hpermit h, rfl⟩

/-- R163, R165: a shock. -/
theorem shockTrip_runs {s : State} {d : DieId} (hd : s.fitted d = true) (h : (s.die d).shock = false) :
    Runs (.shockTrip d) s fun t =>
      let x := s.die d
      (t.die d).shock = true ∧ (t.die d).shockTrip = true ∧ (t.die d).holdoff = 0 ∧
      (∀ h, ((t.die d).head h).permit = false ∧ ((t.die d).head h).lines = .park) ∧
      (t.die d).actA = x.actA ∧ (t.die d).actB = x.actB ∧ (t.die d).clock = x.clock ∧
      (t.die d).data.media = x.data.media ∧ ∀ e, e ≠ d → t.die e = s.die e := by
  refine Runs.intro (exec_shockTrip_of_calm hd h) ?_
  obtain ⟨hheads, hkept⟩ := s.gatesShut_spec d
  generalize s.gatesShut d = u at hheads hkept ⊢
  have hgives : Gives [Obj.wiShockCount] d { u.die d with shock := true, shockTrip := true, holdoff := 0 } u
      (((u.modDie d fun x => { x with shock := true, shockTrip := true, holdoff := 0 }).bump Obj.wiShockCount
        (dieInst d)).raise d Ev.shockDetect) :=
    ((Gives.refl.setDie).bump (List.mem_singleton_self _) (dieInst_lt d)).raise (.inl (by decide))
  have hdie := hgives.die_eq
  generalize State.raise _ d Ev.shockDetect = t at hgives hdie ⊢
  dsimp only
  rw [hdie]
  exact ⟨rfl, rfl, rfl, hheads, congrArg (·.1) hkept.self, congrArg (·.2.1) hkept.self, congrArg (·.2.2.1) hkept.self,
    congrArg (·.2.2.2) hkept.self, fun e he => (hgives.die_ne he).trans (hkept.others e he)⟩

/-- Settles O15: a permit is judged at every collection by conditions that hold until its end; a shock drops them
all. -/
theorem collectGivesPermitSafely : Obligations.CollectGivesPermitSafely := by
  refine ⟨servoCollect_runs, fun s d hd => ?_⟩
  exact ⟨shockTrip_runs hd, exec_shockTrip_of_shock hd, exec_shockClear_of_shock hd, exec_shockHoldoffEnd_of_one hd,
    fun _ => exec_shockHoldoffEnd_of_more hd⟩

end Sys2Proof.Machine

/-! PROOFS. Overruns of the control-law engine and the swap of its coefficients (05 R144, R147). -/

namespace Sys2Proof.Machine

section
variable {s : State} {d : DieId} {a : Act}

/-! ### Overruns -/

/-- The outputs in force stay, and the overrun is marked (05 R144). -/
def State.outputsHeld (s : State) (d : DieId) : State :=
  ((((allHeads.foldl (fun s h => s.modHead d h fun x => { x with maNext := x.maCmd }) s).modAct d .A fun y =>
    { y with vcmNext := y.vcmCmd }).modAct d .B fun y => { y with vcmNext := y.vcmCmd }).modDie d fun x =>
      { x with overrun := true, overrunNow := true })

/-- An overrun but for the fault that a second one is (05 R144). -/
def State.overrunNoted (s : State) (d : DieId) : State :=
  (((s.outputsHeld d).dropPermits d allHeads).bump Obj.overrunCount (dieInst d)).raise d Ev.servoOverrun

theorem exec_servoOverrun (hd : s.fitted d = true) : exec (.servoOverrun d) s =
    .next (if ((s.die d).overrunPrev && !(s.die d).overrunNow) = true then (s.overrunNoted d).controlLawFault d
      else s.overrunNoted d) := by
  rw [exec_onDie (execServoOverrun d s) rfl rfl hd]
  rfl

/-- What a drop of permits keeps of its die. -/
theorem KeptBy.dropPermits {α : Type} {f : Die → α} (hh : ∀ x v, f { x with heads := v } = f x)
    (ho : ∀ x o, f { x with obs := o } = f x) {l : List HeadId} : KeptBy f d s (s.dropPermits d l) :=
  KeptBy.foldl (fun _ _ => KeptBy.ite ((KeptBy.modHead hh).trans (KeptBy.reported ho (State.count_reported [] _ d _ _)))
    KeptBy.refl) _ _

/-- The microactuator command that a head computes next is not touched by a drop of permits. -/
theorem KeptBy.dropPermits_maNext {h : HeadId} {l : List HeadId} :
    KeptBy (fun x => (x.head h).maNext) d s (s.dropPermits d l) := by
  refine KeptBy.foldl (fun u k => KeptBy.ite (KeptBy.trans ?_ (KeptBy.reported (fun _ _ => rfl) (State.count_reported [] _ d _ _)))
    KeptBy.refl) _ _
  refine KeptBy.modDie fun x => ?_
  by_cases hk : h = k
  · rw [hk, Die.modHead_head_self]
    rfl
  · rw [Die.modHead_head_ne _ _ _ _ hk]

theorem State.outputsHeld_spec (s : State) (d : DieId) :
    ((s.outputsHeld d).die d).overrun = true ∧ ((s.outputsHeld d).die d).overrunNow = true ∧
    (∀ h, (((s.outputsHeld d).die d).head h).maNext = ((s.die d).head h).maCmd) ∧
    (∀ a, ((s.outputsHeld d).die d).act a = { (s.die d).act a with vcmNext := ((s.die d).act a).vcmCmd }) ∧
    ∀ e, e ≠ d → (s.outputsHeld d).die e = s.die e := by
  unfold State.outputsHeld
  have hheads := State.foldl_modHead_head d (f := fun x => { x with maNext := x.maCmd }) (fun _ => rfl) allHeads s
  obtain ⟨v, hv⟩ := State.foldl_modHead d (fun x => { x with maNext := x.maCmd }) allHeads s
  have hothers : ∀ e, e ≠ d → (allHeads.foldl (fun s h => s.modHead d h fun x => { x with maNext := x.maCmd }) s).die e =
      s.die e := fun e he => by rw [hv, State.setDie_die_ne _ _ _ _ he]
  have hacts : ∀ a, ((allHeads.foldl (fun s h => s.modHead d h fun x => { x with maNext := x.maCmd }) s).die d).act a =
      (s.die d).act a := by
    intro a
    rw [hv, State.setDie_die_self]
    cases a
    · rfl
    · rfl
  generalize allHeads.foldl (fun s h => s.modHead d h fun x => { x with maNext := x.maCmd }) s = u at hheads hothers hacts ⊢
  rw [State.modDie_die_self, State.modAct_die_self, State.modAct_die_self]
  refine ⟨rfl, rfl, fun h => ?_, fun a => ?_, fun e he => ?_⟩
  · exact (congrArg Head.maNext ((hheads h).trans (if_pos (by simp [allHeads])))).trans rfl
  · cases a
    · exact congrArg (fun y : Actuator => { y with vcmNext := y.vcmCmd }) (hacts .A)
    · exact congrArg (fun y : Actuator => { y with vcmNext := y.vcmCmd }) (hacts .B)
  · rw [State.modDie_die_ne _ _ _ _ he, State.modAct_die_ne _ _ _ _ _ he, State.modAct_die_ne _ _ _ _ _ he, hothers e he]

theorem State.overrunNoted_spec (s : State) (d : DieId) :
    let t := s.overrunNoted d
    (t.die d).overrun = true ∧ (t.die d).overrunNow = true ∧
    (∀ h, ((t.die d).head h).permit = false ∧ ((t.die d).head h).maNext = ((s.die d).head h).maCmd) ∧
    (∀ a, (t.die d).act a = { (s.die d).act a with vcmNext := ((s.die d).act a).vcmCmd }) ∧
    ∀ e, e ≠ d → t.die e = s.die e := by
  obtain ⟨h1, h2, h3, h4, h5⟩ := s.outputsHeld_spec d
  have hdrop : KeptBy (fun x => (x.overrun, x.overrunNow, x.actA, x.actB)) d (s.outputsHeld d)
      ((s.outputsHeld d).dropPermits d allHeads) := KeptBy.dropPermits (fun _ _ => rfl) fun _ _ => rfl
  have hpermit : ∀ h, ((((s.outputsHeld d).dropPermits d allHeads).die d).head h).permit = false := fun h =>
    State.dropPermits_permit d h allHeads _ (.inl (by simp [allHeads]))
  have hnext : ∀ h, ((((s.outputsHeld d).dropPermits d allHeads).die d).head h).maNext =
      (((s.outputsHeld d).die d).head h).maNext := fun h =>
    (KeptBy.dropPermits_maNext (s := s.outputsHeld d) (d := d) (h := h) (l := allHeads)).self
  unfold State.overrunNoted
  dsimp only
  generalize (s.outputsHeld d).dropPermits d allHeads = u at hdrop hpermit hnext ⊢
  generalize s.outputsHeld d = v at hdrop hnext h1 h2 h3 h4 h5
  have hnote : KeptBy (fun x => (x.overrun, x.overrunNow, x.actA, x.actB, x.heads)) d u
      ((u.bump Obj.overrunCount (dieInst d)).raise d Ev.servoOverrun) :=
    KeptBy.trans KeptBy.bump (KeptBy.raise (k := Ev.servoOverrun) (fun _ _ => rfl) (.inl (by decide)))
  generalize State.raise _ d Ev.servoOverrun = t at hnote ⊢
  have hheads : ∀ h, (t.die d).head h = (u.die d).head h := fun h => congrArg (fun v => v.2.2.2.2[h]) hnote.self
  refine ⟨?_, ?_, fun h => ?_, fun a => Eq.trans ?_ (h4 a), fun e he => ?_⟩
  · exact (congrArg (·.1) hnote.self).trans ((congrArg (·.1) hdrop.self).trans h1)
  · exact (congrArg (·.2.1) hnote.self).trans ((congrArg (·.2.1) hdrop.self).trans h2)
  · rw [hheads]
    exact ⟨hpermit h, (hnext h).trans (h3 h)⟩
  · cases a
    · exact (congrArg (·.2.2.1) hnote.self).trans (congrArg (·.2.2.1) hdrop.self)
    · exact (congrArg (·.2.2.2.1) hnote.self).trans (congrArg (·.2.2.2) hdrop.self)
  · exact (hnote.others e he).trans ((hdrop.others e he).trans (h5 e he))

/-! ### A fault of the engine -/

/-- An actuator of a faulted control-law engine (05 R159 row 19). -/
def State.engineFaulted (s : State) (d : DieId) (a : Act) : State :=
  if ((s.die d).act a).running then
    let s := s.calAbortIf d (calOfAct a)
    let y := (s.die d).act a
    let s := if y.loadPending then s.actResult d a 2 else s
    let s := s.modAct d a fun y =>
      { y with loadPending := false, seekPending := false, seekResult := if y.seekPending then 2 else y.seekResult }
    if y.state = .retracting then s.modAct d a fun y => { y with retractFor := .engineFault }
    else s.retract d a .engineFault
  else s

theorem State.controlLawFault_eq (s : State) (d : DieId) :
    s.controlLawFault d = (s.engineFaulted d .A).engineFaulted d .B := rfl

/-- What a retract leaves of the actuators. -/
theorem State.retract_act (s : State) (d : DieId) (a : Act) (why : RetractFor) :
    (((s.retract d a why).die d).act a).state = .retracting ∧
    ∀ b, b ≠ a → ((s.retract d a why).die d).act b = (s.die d).act b := by
  simp only [State.retract, State.sendVcm, State.emit_die, State.modAct_die_self]
  refine ⟨?_, fun b hb => ?_⟩
  · rw [Die.modAct_act_self, Die.modAct_act_self]
  · rw [Die.modAct_act_ne _ _ _ _ hb, Die.modAct_act_ne _ _ _ _ hb]

theorem State.engineFaulted_spec (s : State) (d : DieId) (a : Act) :
    (((s.die d).act a).running = true → (((s.engineFaulted d a).die d).act a).state = .retracting) ∧
    (∀ b, b ≠ a → ((s.engineFaulted d a).die d).act b = (s.die d).act b) ∧
    KeptBy (fun x => (x.overrun, x.overrunNow, x.heads)) d s (s.engineFaulted d a) := by
  unfold State.engineFaulted
  by_cases hrun : ((s.die d).act a).running = true
  · rw [if_pos hrun]
    have habort : KeptBy (fun x => (x.overrun, x.overrunNow, x.heads, x.actA, x.actB)) d s (s.calAbortIf d (calOfAct a)) :=
      KeptBy.calAbortIf fun _ _ _ _ _ => rfl
    generalize s.calAbortIf d (calOfAct a) = u at habort ⊢
    have hact : ∀ b, (u.die d).act b = (s.die d).act b := by
      intro b
      cases b
      · exact congrArg (·.2.2.2.1) habort.self
      · exact congrArg (·.2.2.2.2) habort.self
    have hkept : KeptBy (fun x => (x.overrun, x.overrunNow, x.heads)) d s u :=
      ⟨congrArg (fun v => (v.1, v.2.1, v.2.2.1)) habort.self, habort.others⟩
    dsimp only
    generalize hv : (if ((u.die d).act a).loadPending = true then u.actResult d a 2 else u) = v
    have hvkept : KeptBy id d u v := hv ▸ KeptBy.ite KeptBy.actResult KeptBy.refl
    have hvdie : v.die d = u.die d := hvkept.self
    generalize hw : v.modAct d a _ = w
    have hwother : ∀ b, b ≠ a → (w.die d).act b = (u.die d).act b := by
      intro b hb
      rw [← hw, State.modAct_die_self, Die.modAct_act_ne _ _ _ _ hb, hvdie]
    have hwstate : ((w.die d).act a).state = ((u.die d).act a).state := by
      rw [← hw, State.modAct_die_self, Die.modAct_act_self, hvdie]
    have hwkept : KeptBy (fun x => (x.overrun, x.overrunNow, x.heads)) d u w :=
      hw ▸ KeptBy.trans ⟨congrArg (fun x : Die => (x.overrun, x.overrunNow, x.heads)) hvkept.self, hvkept.others⟩ (KeptBy.modAct fun _ _ _ => rfl)
    split
    · next hst =>
      refine ⟨fun _ => ?_, fun b hb => ?_, (hkept.trans hwkept).trans (KeptBy.modAct fun _ _ _ => rfl)⟩
      · rw [State.modAct_die_self, Die.modAct_act_self]
        exact hwstate.trans hst
      · rw [State.modAct_die_self, Die.modAct_act_ne _ _ _ _ hb, hwother b hb, hact]
    · obtain ⟨hret, hother⟩ := w.retract_act d a .engineFault
      exact ⟨fun _ => hret, fun b hb => (hother b hb).trans ((hwother b hb).trans (hact b)),
        (hkept.trans hwkept).trans (KeptBy.retract fun _ _ _ => rfl)⟩
  · rw [if_neg hrun]
    exact ⟨fun h => absurd h hrun, fun _ _ => rfl, KeptBy.refl⟩

theorem State.controlLawFault_spec (s : State) (d : DieId) :
    (∀ a, ((s.die d).act a).running = true → (((s.controlLawFault d).die d).act a).state = .retracting) ∧
    KeptBy (fun x => (x.overrun, x.overrunNow, x.heads)) d s (s.controlLawFault d) := by
  rw [State.controlLawFault_eq]
  obtain ⟨hA, hAo, hAk⟩ := s.engineFaulted_spec d .A
  obtain ⟨hB, hBo, hBk⟩ := (s.engineFaulted d .A).engineFaulted_spec d .B
  refine ⟨fun a hrun => ?_, hAk.trans hBk⟩
  cases a with
  | A =>
    rw [hBo .A (by decide)]
    exact hA hrun
  | B => exact hB ((hAo .B (by decide)).symm ▸ hrun)

/-- R144: an overrun. -/
theorem servoOverrun_runs (s : State) (d : DieId) (hd : s.fitted d = true) : Runs (.servoOverrun d) s fun t =>
    let x := s.die d
    let y := t.die d
    y.overrun = true ∧ y.overrunNow = true ∧ (∀ h, (y.head h).permit = false ∧ (y.head h).maNext = (x.head h).maCmd) ∧
    (x.overrunPrev = false ∨ x.overrunNow = true → ∀ a, (y.act a).vcmNext = (x.act a).vcmCmd ∧
      (y.act a).vcmCmd = (x.act a).vcmCmd ∧ (y.act a).state = (x.act a).state) ∧
    (x.overrunPrev = true → x.overrunNow = false → ∀ a, (x.act a).running = true → (y.act a).state = .retracting) ∧
    ∀ e, e ≠ d → t.die e = s.die e := by
  refine Runs.intro (exec_servoOverrun hd) ?_
  obtain ⟨h1, h2, h3, h4, h5⟩ := s.overrunNoted_spec d
  generalize s.overrunNoted d = u at h1 h2 h3 h4 h5 ⊢
  by_cases hagain : ((s.die d).overrunPrev && !(s.die d).overrunNow) = true
  · rw [if_pos hagain]
    obtain ⟨hstates, hkept⟩ := u.controlLawFault_spec d
    have hover : ((u.controlLawFault d).die d).overrun = (u.die d).overrun := congrArg (·.1) hkept.self
    have hnow : ((u.controlLawFault d).die d).overrunNow = (u.die d).overrunNow := congrArg (·.2.1) hkept.self
    have hheads : ∀ h, ((u.controlLawFault d).die d).head h = (u.die d).head h := fun h =>
      congrArg (fun v => v.2.2[h]) hkept.self
    obtain ⟨hp, hn⟩ : (s.die d).overrunPrev = true ∧ (s.die d).overrunNow = false := by simpa using hagain
    refine ⟨hover.trans h1, hnow.trans h2, fun h => ?_, fun hnot => ?_, fun _ _ a hrun => hstates a ?_,
      fun e he => (hkept.others e he).trans (h5 e he)⟩
    · rw [hheads]
      exact h3 h
    · rw [hp, hn] at hnot
      exact absurd hnot (by decide)
    · rw [h4]
      exact hrun
  · rw [if_neg hagain]
    refine ⟨h1, h2, h3, fun _ a => ?_, fun hp hn => absurd (by simp [hp, hn]) hagain, h5⟩
    rw [h4]
    exact ⟨rfl, rfl, rfl⟩

/-! ### The swap of the coefficients -/

section
variable (hd : s.fitted d = true)
include hd

theorem exec_coeffSwap_isolated (hi : s.isolated d = true) :
    exec (.coeffSwap d a) s = .next { s with reply := ⟨St.dieIsolated, 0, []⟩ } := by
  rw [exec_onDie (execCoeffSwap d a s) rfl rfl hd]
  exact congrArg Host.Outcome.next (if_pos hi)

theorem exec_coeffSwap_waiting (hi : s.isolated d = false) (hw : ((s.die d).act a).swapReq = true) :
    exec (.coeffSwap d a) s =
      .next { s with reply := ⟨St.objectStateConflict, Refuse.commandPending.setWidth 64, []⟩ } := by
  rw [exec_onDie (execCoeffSwap d a s) rfl rfl hd]
  exact congrArg Host.Outcome.next ((if_neg (by simp [hi])).trans (if_pos hw))

/-- The answer to a command that may refuse (13 R429). -/
def State.answered (r : State × Option Nat) : State :=
  match r.2 with
  | none => { r.1 with reply := {} }
  | some c => { r.1 with reply := { status := St.objectStateConflict, result := BitVec.ofNat 64 c } }

theorem exec_coeffSwap_answered (hi : s.isolated d = false) (hw : ((s.die d).act a).swapReq = false) :
    exec (.coeffSwap d a) s = .next (State.answered (s.swapCommand d a)) := by
  rw [exec_onDie (execCoeffSwap d a s) rfl rfl hd]
  exact congrArg Host.Outcome.next ((if_neg (by simp [hi])).trans (if_neg (by simp [hw])))

theorem exec_coeffSwapApply_of_not_due (h : (s.die d).eng.swapPending = true ∨ ((s.die d).act a).swapReq = false) :
    exec (.coeffSwapApply d a) s = .next s := by
  rw [exec_onDie (execCoeffSwapApply d a s) rfl rfl hd, when_false]
  rcases h with h | h
  · simp [h]
  · simp [h]

end

/-- The swapped bank with its loop (05 R147, R148). -/
def Actuator.swapped (y : Actuator) (loop : LoopState) : Actuator :=
  { y with bank := !y.bank, pendingOk := false, swapReq := false, loop }

theorem Actuator.swapped_coeff (y : Actuator) (loop : LoopState) : (y.swapped loop).coeff = y.pendingSet := by
  unfold Actuator.coeff Actuator.pendingSet Actuator.swapped
  cases y.bank
  · rfl
  · rfl

/-- The banks and loops of a swap (05 R147, R148). -/
def State.banksSwapped (s : State) (d : DieId) (a : Act) : State :=
  let y := (s.die d).act a
  let c := fun (b : CoeffSet) n => b.loops.getD n {}
  (headsOf a).foldl (fun s h => s.modHead d h fun z =>
      { z with loop := carryLoop (c y.coeff (1 + h.val % 12)) (c y.pendingSet (1 + h.val % 12)) z.loop })
    (s.modAct d a fun z => z.swapped (carryLoop (c y.coeff 0) (c y.pendingSet 0) z.loop))

/-- A saturated loop of a swap is counted and reported (05 R149, R150). -/
def State.swapSaturated (s : State) (d : DieId) (a : Act) (data : List (Nat × Int)) : State :=
  ((s.modDie d fun x => match a with
    | .A => { x with swapSatA := true }
    | .B => { x with swapSatB := true }).bump Obj.swapSatCount (actInst d a)).raiseAct d a Ev.servoSwapSat data

theorem exec_coeffSwapApply_of_due (hd : s.fitted d = true) (hreq : ((s.die d).act a).swapReq = true)
    (hpend : (s.die d).eng.swapPending = false) :
    let u := (s.banksSwapped d a).put Obj.coeffSwapResult (actInst d a) 0
    ∃ data, exec (.coeffSwapApply d a) s = .next u ∨ exec (.coeffSwapApply d a) s = .next (u.swapSaturated d a data) := by
  rw [exec_onDie (execCoeffSwapApply d a s) rfl rfl hd, when_true _ (by simp [hreq, hpend])]
  dsimp only
  generalize (List.range 13).find? (fun n => ((s.die d).loopAt a n).sat) = sat
  cases sat with
  | none => exact ⟨[], .inl rfl⟩
  | some n => exact ⟨_, .inr rfl⟩

theorem State.swapSaturated_spec (s : State) (d : DieId) (a : Act) (data : List (Nat × Int)) :
    KeptBy Die.act d s (s.swapSaturated d a data) ∧
    (s.swapSaturated d a data).get Obj.coeffSwapResult (actInst d a) = s.get Obj.coeffSwapResult (actInst d a) := by
  unfold State.swapSaturated
  generalize hu : (s.modDie d fun x => match a with
    | .A => { x with swapSatA := true }
    | .B => { x with swapSatB := true }) = u
  have hkept : KeptBy Die.act d s u := by
    rw [← hu]
    refine KeptBy.modDie fun x => ?_
    cases a
    · funext b
      cases b <;> rfl
    · funext b
      cases b <;> rfl
  have hobjs : u.objs = s.objs := hu ▸ rfl
  have hact : ∀ (x : Die) o, Die.act { x with obs := o } = x.act := fun x o => by
    funext b
    cases b <;> rfl
  have hrep := State.raiseAct_reported [] (u.bump Obj.swapSatCount (actInst d a)) d a Ev.servoSwapSat data
  have hi : actInst d a < 256 := calInst_lt (.act d a)
  refine ⟨(hkept.trans KeptBy.bump).trans (KeptBy.reported hact hrep), ?_⟩
  rw [Gives.get hrep (by decide) hi, State.bump_get_ne u (by decide) hi hi, State.get_of_objs_eq hobjs]

theorem State.banksSwapped_spec (s : State) (d : DieId) (a : Act) :
    (∃ loop, ((s.banksSwapped d a).die d).act a = ((s.die d).act a).swapped loop) ∧
    ((s.banksSwapped d a).die d).act (Act.other a) = (s.die d).act (Act.other a) ∧
    ∀ e, e ≠ d → (s.banksSwapped d a).die e = s.die e := by
  unfold State.banksSwapped
  dsimp only
  generalize hu : s.modAct d a _ = u
  have hheads : ∀ (x : Die) v, Die.act { x with heads := v } = x.act := fun x v => by
    funext b
    cases b <;> rfl
  have hfold : ∀ (g : HeadId → Head → Head) (l : List HeadId), KeptBy Die.act d u (l.foldl (fun s h => s.modHead d h (g h)) u) :=
    fun g l => KeptBy.foldl (fun _ _ => KeptBy.modHead hheads) l u
  refine ⟨?_, ?_, fun e he => ?_⟩
  · have hact : ∃ loop, (u.die d).act a = ((s.die d).act a).swapped loop := by
      rw [← hu, State.modAct_die_self, Die.modAct_act_self]
      exact ⟨_, rfl⟩
    obtain ⟨loop, hact⟩ := hact
    exact ⟨loop, (congrFun (hfold _ _).self a).trans hact⟩
  · refine (congrFun (hfold _ _).self (Act.other a)).trans ?_
    rw [← hu, State.modAct_die_self, Die.modAct_act_ne _ _ _ _ (by cases a <;> decide)]
  · refine ((hfold _ _).others e he).trans ?_
    rw [← hu, State.modAct_die_ne _ _ _ _ _ he]

/-- R147: a swap takes place. -/
theorem coeffSwapApply_runs (hd : s.fitted d = true) (hreq : ((s.die d).act a).swapReq = true)
    (hpend : (s.die d).eng.swapPending = false) : Runs (.coeffSwapApply d a) s fun t =>
      let y := (s.die d).act a
      let z := (t.die d).act a
      z.bank = (!y.bank) ∧ z.pendingOk = false ∧ z.swapReq = false ∧ z.coeff = y.pendingSet ∧ z.state = y.state ∧
      t.get Obj.coeffSwapResult (actInst d a) = 0 ∧ (t.die d).act (Act.other a) = (s.die d).act (Act.other a) ∧
      ∀ e, e ≠ d → t.die e = s.die e := by
  obtain ⟨data, hexec⟩ := exec_coeffSwapApply_of_due hd hreq hpend
  obtain ⟨⟨loop, hact⟩, hother, hothers⟩ := s.banksSwapped_spec d a
  generalize s.banksSwapped d a = u at hact hother hothers hexec
  have hres : (u.put Obj.coeffSwapResult (actInst d a) 0).get Obj.coeffSwapResult (actInst d a) = 0 :=
    State.getSub_putSub_self ..
  have hput : KeptBy id d u (u.put Obj.coeffSwapResult (actInst d a) 0) := KeptBy.put
  have hdie : ∀ e, (u.put Obj.coeffSwapResult (actInst d a) 0).die e = u.die e := fun e => by simp [State.put_eq, State.die]
  have hswap := ((s.die d).act a).swapped_coeff loop
  rcases hexec with hexec | hexec
  · refine Runs.intro hexec ?_
    dsimp only
    rw [hdie, hact]
    exact ⟨rfl, rfl, rfl, hswap, rfl, hres, hother, fun e he => (hdie e).trans (hothers e he)⟩
  · refine Runs.intro hexec ?_
    generalize u.put Obj.coeffSwapResult (actInst d a) 0 = v at hres hdie ⊢
    obtain ⟨hacts, hget⟩ := v.swapSaturated_spec d a data
    dsimp only
    rw [hacts.self, hdie, hact]
    exact ⟨rfl, rfl, rfl, hswap, rfl, hget.trans hres, hother,
      fun e he => (hacts.others e he).trans ((hdie e).trans (hothers e he))⟩

/-- Settles O16: an overrun holds the outputs and drops the permits, a second one in a row retracts; a swap is refused
by code or applied at the next point. -/
theorem controlLawOverrunAndSwap : Obligations.ControlLawOverrunAndSwap := by
  refine ⟨servoOverrun_runs, fun s d a hd => ?_⟩
  refine ⟨exec_coeffSwap_isolated hd, exec_coeffSwap_waiting hd, fun hi hw hp => ?_, fun hi hw hp hc => ?_,
    fun hi hw hp hc => ?_, coeffSwapApply_runs hd, exec_coeffSwapApply_of_not_due hd⟩
  · have hcmd : s.swapCommand d a = (s.put Obj.coeffSwapResult (actInst d a) 8, some 8) := by
      simp only [State.swapCommand, hp, Bool.not_false, if_true]
    rw [exec_coeffSwap_answered hd hi hw, hcmd]
    rfl
  · have hcmd : s.swapCommand d a = (s.put Obj.coeffSwapResult (actInst d a) 4, some 4) := by
      simp only [State.swapCommand, hp, Bool.not_true, Bool.false_eq_true, if_false, hc, ne_eq, not_false_eq_true, if_true]
    rw [exec_coeffSwap_answered hd hi hw, hcmd]
    rfl
  · have hcmd : s.swapCommand d a =
        ((s.modAct d a fun y => { y with swapReq := true }).put Obj.coeffSwapResult (actInst d a) 1, none) := by
      simp only [State.swapCommand, hp, Bool.not_true, Bool.false_eq_true, if_false, hc, ne_eq, not_true_eq_false]
    rw [exec_coeffSwap_answered hd hi hw, hcmd]
    rfl

end

end Sys2Proof.Machine

/-! PROOFS. The actuators' commands and what their limits bring about (05 R156 to R159). -/

namespace Sys2Proof.Machine

/-! ### Changing heads by a rule of their own -/

/-- Changing heads one after the other, each by a change that is its own repetition, changes each head named once. -/
theorem State.foldl_modHead_heads (d : DieId) {f : HeadId → Head → Head} (hf : ∀ h y, f h (f h y) = f h y)
    (l : List HeadId) (s : State) (h : HeadId) : ((l.foldl (fun s h => s.modHead d h (f h)) s).die d).head h =
      if h ∈ l then f h ((s.die d).head h) else (s.die d).head h := by
  induction l generalizing s with
  | nil => simp
  | cons k l ih =>
    rw [List.foldl_cons, ih, State.modHead_die_self]
    by_cases hk : h = k
    · subst hk
      simp [hf]
    · simp [hk]

/-- Changing heads leaves everything but the die's heads. -/
theorem State.foldl_modHead_setDie (d : DieId) (f : HeadId → Head → Head) (l : List HeadId) (s : State) :
    ∃ v, l.foldl (fun s h => s.modHead d h (f h)) s = s.setDie d { s.die d with heads := v } := by
  induction l generalizing s with
  | nil => exact ⟨(s.die d).heads, (State.setDie_die s d).symm⟩
  | cons h l ih =>
    obtain ⟨v, hv⟩ := ih (s.modHead d h (f h))
    refine ⟨v, ?_⟩
    rw [List.foldl_cons, hv]
    simp [State.modHead, State.modDie, State.setDie_setDie, Die.modHead, Die.setHead]

theorem Gives.foldl_modHeads {cs : List ObjDef} {d : DieId} {x : Die} {s t : State} (f : HeadId → Head → Head)
    (l : List HeadId) (h : Gives cs d x s t) :
    ∃ v, Gives cs d { x with heads := v } s (l.foldl (fun s h => s.modHead d h (f h)) t) := by
  obtain ⟨v, hv⟩ := State.foldl_modHead_setDie d f l t
  refine ⟨v, ?_⟩
  rw [hv]
  refine ⟨h.1, ?_, fun e he => by simp [he, h.2.2 e he]⟩
  have := congrArg (fun z : Die => { z with heads := v }) h.2.1
  simpa [Die.unreported] using this

@[simp] theorem mem_headsOf {a : Act} {h : HeadId} : h ∈ headsOf a ↔ h.act = a := by simp [headsOf]

theorem Die.act_heads (x : Die) (v : Vector Head 24) : Die.act { x with heads := v } = x.act := by
  funext b
  cases b <;> rfl

theorem Die.act_obs (x : Die) (o : ObsState) : Die.act { x with obs := o } = x.act := by
  funext b
  cases b <;> rfl

/-! ### Commands to an actuator's CMD entry -/

section
variable {s : State} {d : DieId} {a : Act} {f : State → State × Option Nat} (hd : s.fitted d = true)
include hd

theorem actCommand_isolated (hi : s.isolated d = true) :
    actCommand d s f = .next { s with reply := ⟨St.dieIsolated, 0, []⟩ } := by
  rw [actCommand, onDie_fitted _ hd]
  exact congrArg Host.Outcome.next (if_pos hi)

theorem actCommand_answered (hi : s.isolated d = false) : actCommand d s f = .next (State.answered (f s)) := by
  rw [actCommand, onDie_fitted _ hd]
  exact congrArg Host.Outcome.next (if_neg (by simp [hi]))

end

section
variable {s : State} {d : DieId} {a : Act}

theorem exec_actUnload : exec (.actUnload d a) s = actCommand d s fun s => (s.unloadCommand d a, none) := rfl

/-- A load, and the regions over the rate limit reported where it starts (05 R158; 06 R176). -/
def State.loadReported (s : State) (d : DieId) (a : Act) : State × Option Nat :=
  let r := s.loadCommand d a
  if ((r.1.die d).act a).state = .loading ∧ ((s.die d).act a).state ≠ .loading then (r.1.rateLimits d a, r.2) else r

theorem exec_actLoad : exec (.actLoad d a) s = actCommand d s fun s => s.loadReported d a := rfl

theorem State.rateLimits_reported (s : State) (d : DieId) (a : Act) : Reported [] d s (s.rateLimits d a) := by
  refine Reported.foldl _ (fun u h => ?_) _ _
  split
  · exact State.raiseHead_reported ..
  · exact Reported.refl ..

/-- What a frame to the coil leaves of the actuators. -/
theorem State.sendVcm_act (s : State) (d : DieId) (a b : Act) (typ : BitVec 2) (cmd : Int) :
    ((s.sendVcm d a typ cmd).die d).act b = if b = a then
      { (s.die d).act a with vcmSeq := ((s.die d).act a).vcmSeq + 1, vcmCmd := cmd } else (s.die d).act b := by
  simp only [State.sendVcm, State.emit_die, State.modAct_die_self]
  by_cases hb : b = a
  · subst hb
    rw [Die.modAct_act_self, if_pos rfl]
  · rw [Die.modAct_act_ne _ _ _ _ hb, if_neg hb]

/-- LOADING (05 R159 row 1). -/
theorem State.loadStart_spec (s : State) (d : DieId) (a : Act) :
    let t := s.loadStart d a
    (∃ rev seq cmd, (t.die d).act a = { (s.die d).act a with
      state := .loading, sinceRev := rev, noSam := 0, settleRun := 0, loadWaits := false, vcmSeq := seq, vcmCmd := cmd }) ∧
    (t.die d).act (Act.other a) = (s.die d).act (Act.other a) ∧
    (∀ h ∈ (s.die d).loadHeads a, ((t.die d).head h).live = true) ∧ ∀ e, e ≠ d → t.die e = s.die e := by
  have hother : Act.other a ≠ a := by cases a <;> decide
  have hheads := State.foldl_modHead_head d (f := Head.goLive) (fun _ => rfl) ((s.die d).loadHeads a) s
  have hkept : KeptBy Die.act d s (((s.die d).loadHeads a).foldl (fun s h => s.modHead d h Head.goLive) s) :=
    KeptBy.foldl (fun _ _ => KeptBy.modHead Die.act_heads) _ _
  unfold State.loadStart
  dsimp only
  generalize ((s.die d).loadHeads a).foldl (fun s h => s.modHead d h Head.goLive) s = u at hheads hkept ⊢
  have hframe : ∀ g typ cmd, KeptBy Die.heads d u ((u.modAct d a g).sendVcm d a typ cmd) := fun _ _ _ =>
    (KeptBy.modAct fun _ _ _ => rfl).trans (KeptBy.sendVcm fun _ _ _ => rfl)
  refine ⟨?_, ?_, fun h hh => ?_, fun e he => ?_⟩
  · rw [State.sendVcm_act, if_pos rfl, State.modAct_die_self, Die.modAct_act_self, hkept.self]
    exact ⟨_, _, _, rfl⟩
  · rw [State.sendVcm_act, if_neg hother, State.modAct_die_self, Die.modAct_act_ne _ _ _ _ hother, hkept.self]
  · refine (congrArg (fun v : Vector Head 24 => v[h].live) (hframe _ _ _).self).trans ?_
    refine (congrArg Head.live ((hheads h).trans (if_pos hh))).trans rfl
  · rw [(hframe _ _ _).others e he, hkept.others e he]

@[simp] theorem State.actResult_die (s : State) (d e : DieId) (a : Act) (v : Int) : (s.actResult d a v).die e = s.die e := by
  simp [State.actResult, State.put_eq, State.die]

@[simp] theorem State.actResult_get (s : State) (d : DieId) (a : Act) (v : Int) :
    (s.actResult d a v).get Obj.actResult (actInst d a) = v := State.getSub_putSub_self ..

theorem actInst_lt (d : DieId) (a : Act) : actInst d a < 256 := calInst_lt (.act d a)

theorem Act.other_ne (a : Act) : Act.other a ≠ a := by cases a <;> decide

/-- A load of an actuator at rest (05 R158, R159 row 1). -/
theorem State.loadReported_of_rest {s : State} {d : DieId} {a : Act}
    (h : ((s.die d).act a).state = .parked ∨ ((s.die d).act a).state = .fault) :
    (∀ c, (s.die d).loadRefusal a = some c → s.loadReported d a =
      ((s.modAct d a fun x => { x with loadPending := false, loadWaits := false }).actResult d a c, some c)) ∧
    ((s.die d).loadRefusal a = none → s.loadReported d a =
      ((((s.modAct d a fun x => { x with loadTries := 0, recTries := 0, loadPending := true }).actResult d a 1).loadStart
        d a).rateLimits d a, none)) := by
  have hcmd : s.loadCommand d a = s.loadCheck d a := by
    unfold State.loadCommand
    rcases h with h | h
    · rw [h]
    · rw [h]
  have hnot : ((s.die d).act a).state ≠ .loading := by
    rcases h with h | h
    · rw [h]
      decide
    · rw [h]
      decide
  unfold State.loadReported
  rw [hcmd]
  refine ⟨fun c hc => ?_, fun hc => ?_⟩
  · have hcheck : s.loadCheck d a =
        ((s.modAct d a fun x => { x with loadPending := false, loadWaits := false }).actResult d a c, some c) := by
      unfold State.loadCheck
      rw [hc]
    rw [hcheck]
    refine if_neg fun hl => hnot ?_
    have hl' := hl.1
    rwa [State.actResult_die, State.modAct_die_self, Die.modAct_act_self] at hl'
  · have hcheck : s.loadCheck d a = (((s.modAct d a fun x => { x with
        loadTries := 0, recTries := 0, loadPending := true }).actResult d a 1).loadStart d a, none) := by
      unfold State.loadCheck
      rw [hc]
    rw [hcheck]
    refine if_pos ⟨?_, hnot⟩
    obtain ⟨⟨_, _, _, hact⟩, -⟩ := ((s.modAct d a fun x => { x with
      loadTries := 0, recTries := 0, loadPending := true }).actResult d a 1).loadStart_spec d a
    exact congrArg Actuator.state hact

theorem State.answered_some (s : State) (c : Nat) :
    State.answered (s, some c) = s.answer St.objectStateConflict (BitVec.ofNat 64 c) := rfl

theorem State.answered_none (s : State) : State.answered (s, none) = s.answer St.success := rfl

/-- R158: a load command of an actuator at rest. -/
theorem actLoad_runs {s : State} {d : DieId} {a : Act} (hd : s.fitted d = true) (hi : s.isolated d = false)
    (h : ((s.die d).act a).state = .parked ∨ ((s.die d).act a).state = .fault) : Runs (.actLoad d a) s fun t =>
      let x := s.die d
      let y := x.act a
      let i := actInst d a
      let z := (t.die d).act a
      (∀ c, x.loadRefusal a = some c → t.reply = ⟨St.objectStateConflict, BitVec.ofNat 64 c, []⟩ ∧
        z.state = y.state ∧ t.get Obj.actResult i = c) ∧
      (x.loadRefusal a = none → t.reply = ⟨St.success, 0, []⟩ ∧ z.state = .loading ∧ z.loadPending = true ∧
        z.loadTries = 0 ∧ t.get Obj.actResult i = 1 ∧ ∀ h ∈ x.loadHeads a, ((t.die d).head h).live = true) ∧
      (t.die d).act (Act.other a) = x.act (Act.other a) ∧ ∀ e, e ≠ d → t.die e = s.die e := by
  obtain ⟨hrefused, htaken⟩ := State.loadReported_of_rest h
  have hexec : exec (.actLoad d a) s = .next (State.answered (s.loadReported d a)) := exec_actLoad.trans (actCommand_answered hd hi)
  have hother : Act.other a ≠ a := Act.other_ne a
  cases hr : (s.die d).loadRefusal a with
  | some c =>
    rw [hrefused c hr, State.answered_some] at hexec
    refine Runs.intro hexec ⟨fun c' hc' => ?_, fun hc' => (Option.some_ne_none c (hr.symm.trans hc')).elim, ?_, fun e he => ?_⟩
    · obtain rfl : c = c' := Option.some.inj (hr.symm.trans hc')
      exact ⟨rfl, by simp, by simp⟩
    · simp [Die.modAct_act_ne _ _ _ _ hother]
    · simp [he]
  | none =>
    rw [htaken hr, State.answered_none] at hexec
    generalize hv : (s.modAct d a fun x => { x with loadTries := 0, recTries := 0, loadPending := true }).actResult d a 1 = v
      at hexec
    have hvdie : ∀ e, v.die e = (s.modAct d a fun x => { x with loadTries := 0, recTries := 0, loadPending := true }).die e :=
      fun e => hv ▸ State.actResult_die ..
    obtain ⟨⟨rev, seq, cmd, hact⟩, hoth, hlive, hne⟩ := v.loadStart_spec d a
    have hrep := (v.loadStart d a).rateLimits_reported d a
    have hget : ((v.loadStart d a).rateLimits d a).get Obj.actResult (actInst d a) = 1 := by
      rw [Gives.get hrep (by decide) (actInst_lt d a), State.get_of_objs_eq (v.loadStart_objs d a), ← hv, State.actResult_get]
    have hheads : (v.die d).loadHeads a = (s.die d).loadHeads a := by
      rw [hvdie, State.modAct_die_self]
      cases a <;> rfl
    refine Runs.intro hexec ⟨fun c hc => (Option.some_ne_none c (hc.symm.trans hr)).elim, fun _ => ⟨rfl, ?_, ?_, ?_, hget, fun k hk => ?_⟩, ?_, fun e he => ?_⟩
    · rw [State.answer_die, hrep.act, hact]
    · rw [State.answer_die, hrep.act, hact, hvdie, State.modAct_die_self, Die.modAct_act_self]
    · rw [State.answer_die, hrep.act, hact, hvdie, State.modAct_die_self, Die.modAct_act_self]
    · rw [State.answer_die, hrep.head]
      exact hlive k (hheads ▸ hk)
    · rw [State.answer_die, hrep.act, hoth, hvdie, State.modAct_die_self, Die.modAct_act_ne _ _ _ _ hother]
    · rw [State.answer_die, hrep.die_ne he, hne e he, hvdie, State.modAct_die_ne _ _ _ _ _ he]

/-- R158: a load command of an actuator whose heads are on the disk. -/
theorem exec_actLoad_of_loaded {s : State} {d : DieId} {a : Act} (hd : s.fitted d = true) (hi : s.isolated d = false)
    (h : ((s.die d).act a).onDisk = true ∨ ((s.die d).act a).state = .recovering) :
    exec (.actLoad d a) s = .next { s.put Obj.actResult (actInst d a) 0 with reply := ⟨St.success, 0, []⟩ } := by
  have hcases : ((s.die d).act a).state = .seeking ∨ ((s.die d).act a).state = .settling ∨
      ((s.die d).act a).state = .tracking ∨ ((s.die d).act a).state = .recovering := by
    simpa [Actuator.onDisk, or_assoc] using h
  have hcmd : s.loadCommand d a = (s.actResult d a 0, none) := by
    unfold State.loadCommand
    rcases hcases with h | h | h | h
    · rw [h]
    · rw [h]
    · rw [h]
    · rw [h]
  have hrep : s.loadReported d a = (s.actResult d a 0, none) := by
    unfold State.loadReported
    rw [hcmd]
    refine if_neg fun hl => ?_
    have hl' := hl.1
    rw [State.actResult_die] at hl'
    exact hl.2 hl'
  rw [exec_actLoad, actCommand_answered hd hi, hrep]
  rfl

/-! ### Unloading -/

/-- What ends a calibration run leaves of the heads and the actuators. -/
theorem State.calAbortIf_kept (s : State) (d : DieId) (p : Nat → CalRun → Bool) :
    KeptBy (fun x => (x.heads, x.actA, x.actB, x.spin, x.clock)) d s (s.calAbortIf d p) := KeptBy.calAbortIf fun _ _ _ _ _ => rfl

/-- The heads and the actuators are as they were. -/
structure ArmsKept (d : DieId) (s t : State) : Prop where
  head : ∀ h, (t.die d).head h = (s.die d).head h
  act : ∀ a, (t.die d).act a = (s.die d).act a
  others : ∀ e, e ≠ d → t.die e = s.die e

def Die.arms (x : Die) : Vector Head 24 × Actuator × Actuator := (x.heads, x.actA, x.actB)

theorem KeptBy.arms {d : DieId} {s t : State} (h : KeptBy Die.arms d s t) : ArmsKept d s t := by
  obtain ⟨hh, hacts⟩ := Prod.ext_iff.mp h.self
  obtain ⟨hA, hB⟩ := Prod.ext_iff.mp hacts
  refine ⟨fun h => congrArg (fun v : Vector Head 24 => v[h]) hh, fun a => ?_, h.others⟩
  cases a
  · exact hA
  · exact hB

/-- UNLOADING (05 R159 row 12). -/
theorem State.unloadStart_spec (s : State) (d : DieId) (a : Act) :
    let t := s.unloadStart d a
    ((t.die d).act a).state = .unloading ∧ ((t.die d).act a).seekPending = false ∧
    (∀ h, h.act = a → ((t.die d).head h).target = 0) ∧ (t.die d).act (Act.other a) = (s.die d).act (Act.other a) ∧
    ∀ e, e ≠ d → t.die e = s.die e := by
  have hheads := State.foldl_modHead_head d (f := fun x => { x with target := 0 }) (fun _ => rfl) (headsOf a) s
  have hkept : KeptBy Die.act d s ((headsOf a).foldl (fun s h => s.modHead d h fun x => { x with target := 0 }) s) :=
    KeptBy.foldl (fun _ _ => KeptBy.modHead Die.act_heads) _ _
  have hother := Act.other_ne a
  unfold State.unloadStart
  dsimp only
  generalize (headsOf a).foldl (fun s h => s.modHead d h fun x => { x with target := 0 }) s = u at hheads hkept ⊢
  refine ⟨?_, ?_, fun h hh => ?_, ?_, fun e he => ?_⟩
  · rw [State.modAct_die_self, Die.modAct_act_self]
  · rw [State.modAct_die_self, Die.modAct_act_self]
  · rw [State.modAct_die_self, Die.head, Die.modAct_heads]
    exact congrArg Head.target ((hheads h).trans (if_pos (by simpa using hh)))
  · rw [State.modAct_die_self, Die.modAct_act_ne _ _ _ _ hother, hkept.self]
  · rw [State.modAct_die_ne _ _ _ _ _ he, hkept.others e he]

/-- What a command that unloads leaves waiting (05 R158). -/
def State.unloadPends (s : State) (d : DieId) (a : Act) : State :=
  (s.modAct d a fun x => { x with unloadPending := true, loadPending := false, loadWaits := false }).actResult d a 1

theorem State.unloadPends_act (s : State) (d : DieId) (a b : Act) : ((s.unloadPends d a).die d).act b = if b = a then
    { (s.die d).act a with unloadPending := true, loadPending := false, loadWaits := false } else (s.die d).act b := by
  rw [State.unloadPends, State.actResult_die, State.modAct_die_self]
  by_cases hb : b = a
  · subst hb
    rw [Die.modAct_act_self, if_pos rfl]
  · rw [Die.modAct_act_ne _ _ _ _ hb, if_neg hb]

theorem State.unloadPends_head (s : State) (d : DieId) (a : Act) (h : HeadId) :
    ((s.unloadPends d a).die d).head h = (s.die d).head h := by
  rw [State.unloadPends, State.actResult_die, State.modAct_die_self, Die.head, Die.modAct_heads]
  rfl

theorem State.unloadPends_die_ne (s : State) {d e : DieId} (a : Act) (he : e ≠ d) : (s.unloadPends d a).die e = s.die e := by
  rw [State.unloadPends, State.actResult_die, State.modAct_die_ne _ _ _ _ _ he]

theorem State.unloadPends_get (s : State) (d : DieId) (a : Act) : (s.unloadPends d a).get Obj.actResult (actInst d a) = 1 :=
  State.actResult_get ..

/-- The unload command by the state it meets (05 R158). -/
theorem State.unloadCommand_eq (s : State) (d : DieId) (a : Act) : s.unloadCommand d a = match ((s.die d).act a).state with
    | .parked | .fault => s.actResult d a 0
    | .seeking | .settling | .tracking => ((s.calAbortIf d (calOfAct a)).unloadStart d a).unloadPends d a
    | .loading | .recovering => ((s.calAbortIf d (calOfAct a)).retract d a .unload).unloadPends d a
    | .unloading | .retracting => s.unloadPends d a := by
  unfold State.unloadCommand
  cases ((s.die d).act a).state <;> rfl

theorem State.calAborted_arms (s : State) (d : DieId) (p : Nat → CalRun → Bool) : ArmsKept d s (s.calAbortIf d p) :=
  (KeptBy.calAbortIf fun _ _ _ _ _ => rfl : KeptBy Die.arms d s (s.calAbortIf d p)).arms

theorem Actuator.onDisk_iff {y : Actuator} : y.onDisk = true ↔ y.state = .seeking ∨ y.state = .settling ∨ y.state = .tracking := by
  simp [Actuator.onDisk, or_assoc]

/-- R158: an unload command. -/
theorem actUnload_runs {s : State} {d : DieId} {a : Act} (hd : s.fitted d = true) (hi : s.isolated d = false) :
    Runs (.actUnload d a) s fun t =>
      let x := s.die d
      let y := x.act a
      let i := actInst d a
      let z := (t.die d).act a
      t.reply = ⟨St.success, 0, []⟩ ∧
      (y.state = .parked ∨ y.state = .fault → z = y ∧ t.get Obj.actResult i = 0) ∧
      (y.onDisk = true → z.state = .unloading ∧ z.unloadPending = true ∧ z.seekPending = false ∧
        t.get Obj.actResult i = 1 ∧ ∀ h, h.act = a → ((t.die d).head h).target = 0) ∧
      (y.state = .loading ∨ y.state = .recovering → z.state = .retracting ∧ z.unloadPending = true ∧
        t.get Obj.actResult i = 1) ∧
      (y.state = .unloading ∨ y.state = .retracting → z.state = y.state ∧ z.unloadPending = true ∧
        z.loadWaits = false ∧ t.get Obj.actResult i = 1) ∧
      (t.die d).act (Act.other a) = x.act (Act.other a) ∧ ∀ e, e ≠ d → t.die e = s.die e := by
  have hexec : exec (.actUnload d a) s = .next ((s.unloadCommand d a).answer St.success) :=
    exec_actUnload.trans (actCommand_answered hd hi)
  have hother : Act.other a ≠ a := Act.other_ne a
  refine Runs.intro hexec ⟨rfl, ?_⟩
  simp only [State.answer_die, State.answer_get]
  rw [State.unloadCommand_eq]
  have haborted := s.calAborted_arms d (calOfAct a)
  generalize s.calAbortIf d (calOfAct a) = u at haborted ⊢
  simp only [Actuator.onDisk_iff]
  have hrest : ((((s.actResult d a 0).die d).act a = (s.die d).act a) ∧ (s.actResult d a 0).get Obj.actResult (actInst d a) = 0) ∧
      ((s.actResult d a 0).die d).act (Act.other a) = (s.die d).act (Act.other a) ∧
      ∀ e, e ≠ d → (s.actResult d a 0).die e = s.die e := by simp
  obtain ⟨hu1, hu2, hu3, hu4, hu5⟩ := u.unloadStart_spec d a
  have hunload : (((((u.unloadStart d a).unloadPends d a).die d).act a).state = .unloading ∧
      ((((u.unloadStart d a).unloadPends d a).die d).act a).unloadPending = true ∧
      ((((u.unloadStart d a).unloadPends d a).die d).act a).seekPending = false ∧
      ((u.unloadStart d a).unloadPends d a).get Obj.actResult (actInst d a) = 1 ∧
      ∀ h, h.act = a → ((((u.unloadStart d a).unloadPends d a).die d).head h).target = 0) ∧
      (((u.unloadStart d a).unloadPends d a).die d).act (Act.other a) = (s.die d).act (Act.other a) ∧
      ∀ e, e ≠ d → ((u.unloadStart d a).unloadPends d a).die e = s.die e := by
    simp only [State.unloadPends_act, if_true, State.unloadPends_head, State.unloadPends_get, if_neg hother]
    refine ⟨⟨hu1, trivial, hu2, trivial, hu3⟩, hu4.trans (haborted.act _), fun e he => ?_⟩
    rw [State.unloadPends_die_ne _ _ he, hu5 e he, haborted.others e he]
  obtain ⟨hr1, hr2⟩ := u.retract_act d a .unload
  have hretract : (((((u.retract d a .unload).unloadPends d a).die d).act a).state = .retracting ∧
      ((((u.retract d a .unload).unloadPends d a).die d).act a).unloadPending = true ∧
      ((u.retract d a .unload).unloadPends d a).get Obj.actResult (actInst d a) = 1) ∧
      (((u.retract d a .unload).unloadPends d a).die d).act (Act.other a) = (s.die d).act (Act.other a) ∧
      ∀ e, e ≠ d → ((u.retract d a .unload).unloadPends d a).die e = s.die e := by
    have hkept : KeptBy (fun _ => ()) d u (u.retract d a .unload) := KeptBy.retract fun _ _ _ => rfl
    simp only [State.unloadPends_act, if_true, State.unloadPends_get, if_neg hother]
    refine ⟨⟨hr1, trivial, trivial⟩, (hr2 _ hother).trans (haborted.act _), fun e he => ?_⟩
    rw [State.unloadPends_die_ne _ _ he, hkept.others e he, haborted.others e he]
  have hpend : ((((s.unloadPends d a).die d).act a).state = ((s.die d).act a).state ∧
      (((s.unloadPends d a).die d).act a).unloadPending = true ∧ (((s.unloadPends d a).die d).act a).loadWaits = false ∧
      (s.unloadPends d a).get Obj.actResult (actInst d a) = 1) ∧
      ((s.unloadPends d a).die d).act (Act.other a) = (s.die d).act (Act.other a) ∧
      ∀ e, e ≠ d → (s.unloadPends d a).die e = s.die e := by
    simp only [State.unloadPends_act, if_true, State.unloadPends_get, if_neg hother]
    exact ⟨⟨trivial, trivial, trivial, trivial⟩, trivial, fun e he => State.unloadPends_die_ne _ _ he⟩
  cases hst : ((s.die d).act a).state with
  | parked => simp
  | fault => simp
  | seeking => simpa using hunload
  | settling => simpa using hunload
  | tracking => simpa using hunload
  | loading => simpa using hretract
  | recovering => simpa using hretract
  | unloading => simpa [hst] using hpend
  | retracting => simpa [hst] using hpend

/-! ### Seeks -/

/-- The target a seek gives a head (05 R156). -/
def Head.aimed (tracks : Nat) (targets : List Nat) (h : HeadId) (y : Head) : Head :=
  { y with target := if y.live then min (targets.getD (h.val % 12) y.target) (tracks - 1) else y.target }

theorem Head.aimed_aimed (tracks : Nat) (targets : List Nat) (h : HeadId) (y : Head) :
    (y.aimed tracks targets h).aimed tracks targets h = y.aimed tracks targets h := by
  unfold Head.aimed
  cases hl : y.live with
  | false => simp
  | true =>
    cases hg : targets[h.val % 12]? with
    | none => simp [hg]
    | some g => simp [hg]

theorem Head.aimed_of_not_live {tracks : Nat} {targets : List Nat} {h : HeadId} {y : Head} (hl : y.live = false) :
    y.aimed tracks targets h = y := by
  cases y
  simp_all [Head.aimed]

/-- The heads of an actuator aimed at their targets. -/
def State.aimed (s : State) (d : DieId) (a : Act) (targets : List Nat) : State :=
  (headsOf a).foldl (fun s h => s.modHead d h fun x =>
    { x with target := if x.live then min (targets.getD (h.val % 12) x.target) ((s.die d).tracks - 1) else x.target }) s

/-- The number of tracks is the medium's: aiming a head leaves it. -/
theorem State.aimed_eq (s : State) (d : DieId) (a : Act) (targets : List Nat) : s.aimed d a targets =
    (headsOf a).foldl (fun s h => s.modHead d h (Head.aimed (s.die d).tracks targets h)) s := rfl

theorem State.foldl_aimed (d : DieId) (targets : List Nat) (l : List HeadId) (s : State) (n : Nat) (hn : (s.die d).tracks = n) :
    l.foldl (fun s h => s.modHead d h (Head.aimed (s.die d).tracks targets h)) s =
      l.foldl (fun s h => s.modHead d h (Head.aimed n targets h)) s := by
  induction l generalizing s with
  | nil => rfl
  | cons h l ih =>
    rw [List.foldl_cons, List.foldl_cons, hn]
    refine ih _ ?_
    rw [State.modHead_die_self]
    exact hn

theorem State.aimed_head (s : State) (d : DieId) (a : Act) (targets : List Nat) (h : HeadId) :
    ((s.aimed d a targets).die d).head h =
      if h.act = a then Head.aimed (s.die d).tracks targets h ((s.die d).head h) else (s.die d).head h := by
  rw [State.aimed_eq, State.foldl_aimed _ _ _ _ _ rfl, State.foldl_modHead_heads d (Head.aimed_aimed _ _)]
  simp only [mem_headsOf]

theorem State.aimed_kept (s : State) (d : DieId) (a : Act) (targets : List Nat) : KeptBy Die.act d s (s.aimed d a targets) :=
  KeptBy.foldl (fun _ _ => KeptBy.modHead Die.act_heads) _ _

theorem State.aimed_within (s : State) (d : DieId) (a : Act) (targets : List Nat) : Within cs d s (s.aimed d a targets) := by
  rw [State.aimed_eq, State.foldl_aimed _ _ _ _ _ rfl]
  obtain ⟨v, hv⟩ := State.foldl_modHead_setDie d (Head.aimed (s.die d).tracks targets) (headsOf a) s
  rw [hv]
  exact Within.refl.setDie

/-- A seek taken: the heads aimed and the actuator changed, the seek counted. -/
def State.seekStart (s : State) (d : DieId) (a : Act) (targets : List Nat) (f : Actuator → Actuator) : State :=
  ((s.aimed d a targets).modAct d a f).bump Obj.seekCount (actInst d a)

theorem exec_actSeek_of_onDisk {s : State} {d : DieId} {a : Act} (targets : List Nat) (hd : s.fitted d = true)
    (h : ((s.die d).act a).onDisk = true) : ∃ f, exec (.actSeek d a targets) s = .next (s.seekStart d a targets f) ∧
      ∀ y, (y.state = .seeking ∨ ((s.die d).act a).state ≠ .seeking → (f y).state = .seeking) ∧
        (f y).seekPending = true ∧ (f y).seekResult = 1 := by
  have hexec := exec_onDie (c := .actSeek d a targets) (execActSeek d a targets s) rfl rfl hd
  rcases Actuator.onDisk_iff.mp h with h | h | h
  · simp only [h] at hexec
    exact ⟨_, hexec, fun y => ⟨fun hy => hy.elim id (fun hn => (hn h).elim), rfl, rfl⟩⟩
  · simp only [h] at hexec
    exact ⟨_, hexec, fun y => ⟨fun _ => rfl, rfl, rfl⟩⟩
  · simp only [h] at hexec
    exact ⟨_, hexec, fun y => ⟨fun _ => rfl, rfl, rfl⟩⟩

/-- R156, R159 row 5: a seek of an actuator whose heads are on the disk. -/
theorem actSeek_runs {s : State} {d : DieId} {a : Act} (targets : List Nat) (hd : s.fitted d = true)
    (h : ((s.die d).act a).onDisk = true) : Runs (.actSeek d a targets) s fun t =>
      let x := s.die d
      let z := (t.die d).act a
      z.state = .seeking ∧ z.seekPending = true ∧ z.seekResult = 1 ∧
      (∀ h, h.act = a → (x.head h).live = true → ((t.die d).head h).target =
        min (targets.getD (h.val % 12) (x.head h).target) (x.tracks - 1)) ∧
      (∀ h, h.act ≠ a ∨ (x.head h).live = false → (t.die d).head h = x.head h) ∧
      Within [Obj.seekCount] d s t := by
  obtain ⟨f, hexec, hf⟩ := exec_actSeek_of_onDisk targets hd h
  have hact : ((s.aimed d a targets).die d).act = (s.die d).act := (s.aimed_kept d a targets).self
  have hhead := s.aimed_head d a targets
  have hwithin := s.aimed_within (cs := [Obj.seekCount]) d a targets
  unfold State.seekStart at hexec
  generalize s.aimed d a targets = u at hexec hact hhead hwithin
  obtain ⟨hst, hpend, hres⟩ := hf ((s.die d).act a)
  have hdie : ((((u.modAct d a f).bump Obj.seekCount (actInst d a)).die d).act a) = f ((s.die d).act a) := by
    rw [State.bump_die, State.modAct_die_self, Die.modAct_act_self, hact]
  have hheads : ∀ k, (((u.modAct d a f).bump Obj.seekCount (actInst d a)).die d).head k = (u.die d).head k := by
    intro k
    rw [State.bump_die, State.modAct_die_self, Die.head, Die.modAct_heads]
    rfl
  refine Runs.intro hexec ⟨?_, ?_, ?_, fun k hk hl => ?_, fun k hk => ?_, hwithin.modDie.bump (by simp) (actInst_lt d a)⟩
  · rw [hdie]
    exact hst (by by_cases hs : ((s.die d).act a).state = .seeking <;> simp [hs])
  · rw [hdie, hpend]
  · rw [hdie, hres]
  · rw [hheads, hhead, if_pos hk]
    exact if_pos hl
  · rw [hheads, hhead]
    rcases hk with hk | hk
    · exact if_neg hk
    · split
      · exact Head.aimed_of_not_live hk
      · rfl

/-- R159 row 25: a seek of an actuator that recovers, and of one whose heads are not on the disk. -/
theorem exec_actSeek_of_other {s : State} {d : DieId} {a : Act} (targets : List Nat) (hd : s.fitted d = true)
    (h : ((s.die d).act a).onDisk = false) (h' : ((s.die d).act a).state ≠ .recovering) :
    exec (.actSeek d a targets) s = .next s := by
  have hexec := exec_onDie (c := .actSeek d a targets) (execActSeek d a targets s) rfl rfl hd
  rw [hexec]
  cases hst : ((s.die d).act a).state with
  | parked => simp only [hst]
  | fault => simp only [hst]
  | loading => simp only [hst]
  | unloading => simp only [hst]
  | retracting => simp only [hst]
  | recovering => exact absurd hst h'
  | seeking => simp [Actuator.onDisk, hst] at h
  | settling => simp [Actuator.onDisk, hst] at h
  | tracking => simp [Actuator.onDisk, hst] at h

theorem exec_actSeek_of_recovering {s : State} {d : DieId} {a : Act} (targets : List Nat) (hd : s.fitted d = true)
    (h : ((s.die d).act a).state = .recovering) : exec (.actSeek d a targets) s = .next (s.modAct d a fun y => { y with
      savedTargets := (headsOf a).map fun h => targets.getD (h.val % 12) (y.savedTargets.getD (h.val % 12) 0)
      seekPending := true, seekResult := 1 }) := by
  rw [exec_onDie (c := .actSeek d a targets) (execActSeek d a targets s) rfl rfl hd]
  simp only [h]

/-! ### Limits and counts of the actuators -/

/-- The event source of an actuator. -/
def actSource : Act → Nat
  | .A => 24
  | .B => 25

theorem State.raiseAct_logged (s : State) (d : DieId) (a : Act) (k : EventKind) :
    Logged d (actSource a) k s (s.raiseAct d a k) := by
  cases a
  · exact State.raiseFuel_logged s 17 d 24 k [] (.inl (by decide)) (by decide)
  · exact State.raiseFuel_logged s 17 d 25 k [] (.inl (by decide)) (by decide)

theorem Logged.kept_after {d : DieId} {n : Nat} {k : EventKind} {s t u : State} (h : Logged d n k s t)
    (hk : KeptBy Die.obs d t u) : Logged d n k s u := h.congr rfl rfl hk.self

theorem State.recoverNoted_logged (s : State) (d : DieId) (a : Act) (k : EventKind) :
    Logged d (actSource a) k s (s.recoverNoted d a k) := by
  unfold State.recoverNoted
  refine ((State.raiseAct_logged _ d a k).kept_after (KeptBy.calRecheck fun _ _ => rfl)).of_kept (KeptBy.modDie fun x => ?_)
  cases a
  · rfl
  · rfl

/-- Entry to RECOVERING (05 R159 row 7). -/
theorem State.recoverStart_exact (s : State) (d : DieId) (a : Act) (k : EventKind) :
    let t := s.recoverStart d a (some k)
    (t.die d).act a = ((s.die d).act a).recovering (s.die d).clock.rev ((headsOf a).map fun h => ((s.die d).head h).target) ∧
    (∀ h, h.act = a → (t.die d).head h = { (s.die d).head h with recRun := 0, offset := 0 }) ∧
    Within [] d s t ∧ Logged d (actSource a) k s t := by
  intro t
  have hheads := State.foldl_modHead_head d (f := fun y => { y with recRun := 0, offset := 0 }) (fun _ => rfl) (headsOf a) s
  obtain ⟨v, hv⟩ := State.foldl_modHead d (fun y => { y with recRun := 0, offset := 0 }) (headsOf a) s
  have ht : t = (((headsOf a).foldl (fun s h => s.modHead d h fun y => { y with recRun := 0, offset := 0 }) s).modAct d a
      (Actuator.recovering (s.die d).clock.rev ((headsOf a).map fun h => ((s.die d).head h).target))).recoverNoted d a k := rfl
  clear_value t
  generalize (headsOf a).foldl (fun s h => s.modHead d h fun y => { y with recRun := 0, offset := 0 }) s = u at hheads hv ht
  have hact : (u.die d).act = (s.die d).act := by
    rw [hv, State.setDie_die_self]
    exact Die.act_heads _ _
  have hrecord : KeptBy Die.record d s u := hv ▸ KeptBy.setDie rfl
  have hwithin : Within [] d s u := hv ▸ Within.refl.setDie
  have hchange : KeptBy Die.record d u (u.modAct d a
      (Actuator.recovering (s.die d).clock.rev ((headsOf a).map fun h => ((s.die d).head h).target))) :=
    KeptBy.modAct fun _ _ _ => rfl
  have hself : ((u.modAct d a (Actuator.recovering (s.die d).clock.rev
      ((headsOf a).map fun h => ((s.die d).head h).target))).die d) = (u.die d).modAct a (Actuator.recovering
      (s.die d).clock.rev ((headsOf a).map fun h => ((s.die d).head h).target)) := State.modAct_die_self ..
  have hstep : Within [] d s (u.modAct d a (Actuator.recovering (s.die d).clock.rev
      ((headsOf a).map fun h => ((s.die d).head h).target))) := hwithin.modDie
  generalize u.modAct d a (Actuator.recovering (s.die d).clock.rev
      ((headsOf a).map fun h => ((s.die d).head h).target)) = w at ht hchange hself hstep
  obtain ⟨hkept, hnoted⟩ := w.recoverNoted_spec d a k
  have harms := KeptBy.arms hkept
  subst ht
  refine ⟨?_, fun h hh => ?_, hstep.trans hnoted, ?_⟩
  · rw [harms.act, hself, Die.modAct_act_self, hact]
  · rw [harms.head, hself, Die.head, Die.modAct_heads]
    exact (hheads h).trans (if_pos (by simpa using hh))
  · exact (w.recoverNoted_logged d a k).of_kept (hrecord.trans hchange)

/-- What a retract leaves of its actuator. -/
theorem State.retract_exact (s : State) (d : DieId) (a : Act) (why : RetractFor) : ∃ seq cmd,
    ((s.retract d a why).die d).act a = { (s.die d).act a with
      state := .retracting, retractFor := why, noSam := 0, vcmSeq := seq, vcmCmd := cmd } := by
  have hact : ((s.retract d a why).die d).act a = _ := (State.sendVcm_act ..).trans (if_pos rfl)
  rw [State.modAct_die_self, Die.modAct_act_self] at hact
  exact ⟨_, _, hact⟩

section
variable {s : State} {d : DieId} {a : Act} (hd : s.fitted d = true)
include hd

/-- The revolutions since the actuator's state began. -/
def Die.revsSince (x : Die) (a : Act) : Nat := (x.clock.rev + 16777216 - (x.act a).sinceRev) % 16777216

/-- R159 row 3. -/
theorem actLoadTimeout_runs (h : ((s.die d).act a).state = .loading)
    (hr : s.getN Obj.loadRevs (actInst d a) ≤ (s.die d).revsSince a) : Runs (.actLoadTimeout d a) s fun t =>
      ((t.die d).act a).state = .retracting ∧ ((t.die d).act a).loadTries = ((s.die d).act a).loadTries + 1 ∧
      ((t.die d).act a).retractFor = .loadFail ∧ (t.die d).loadFail = true ∧ Within [] d s t ∧
      (t.die d).heads = (s.die d).heads ∧ (t.die d).act (Act.other a) = (s.die d).act (Act.other a) ∧
      Logged d (actSource a) Ev.actLoadFail s t := by
  have hexec := exec_onDie (c := .actLoadTimeout d a) (execActLoadTimeout d a s) rfl rfl hd
  rw [when_true _ (by simp only [h, beq_self_eq_true, Bool.true_and, decide_eq_true_eq]; exact hr)] at hexec
  refine Runs.intro hexec ?_
  dsimp only
  have hother := Act.other_ne a
  have hchange : KeptBy (fun x => (x.record, x.heads)) d s (s.modDie d fun x =>
      { (x.modAct a fun y => { y with loadTries := y.loadTries + 1 }) with loadFail := true }) :=
    KeptBy.modDie fun x => by cases a <;> rfl
  have hself : ((s.modDie d fun x => { (x.modAct a fun y => { y with loadTries := y.loadTries + 1 }) with
      loadFail := true }).die d) = { ((s.die d).modAct a fun y => { y with loadTries := y.loadTries + 1 }) with
      loadFail := true } := State.modDie_die_self ..
  have hwithin : Within [] d s (s.modDie d fun x =>
      { (x.modAct a fun y => { y with loadTries := y.loadTries + 1 }) with loadFail := true }) := Within.refl.modDie
  generalize s.modDie d (fun x => { (x.modAct a fun y => { y with loadTries := y.loadTries + 1 }) with loadFail := true }) = u
    at hchange hself hwithin ⊢
  have hlogged := (u.raiseAct_logged d a Ev.actLoadFail).of_kept ⟨congrArg (·.1) hchange.self, hchange.others⟩
  have hrep := u.raiseAct_reported [] d a Ev.actLoadFail []
  generalize u.raiseAct d a Ev.actLoadFail = v at hlogged hrep ⊢
  obtain ⟨seq, cmd, hact⟩ := v.retract_exact d a .loadFail
  have hoth := (v.retract_act d a .loadFail).2
  have hkept : KeptBy (fun x => (x.obs, x.heads, x.loadFail)) d v (v.retract d a .loadFail) := KeptBy.retract fun _ _ _ => rfl
  have hw : Within [] d v (v.retract d a .loadFail) := (Within.refl.modDie).modDie.emit
  generalize v.retract d a .loadFail = t at hact hoth hkept hw ⊢
  have hfail : (t.die d).loadFail = (v.die d).loadFail := congrArg (fun r => r.2.2) hkept.self
  have hheads : (t.die d).heads = (v.die d).heads := congrArg (fun r => r.2.1) hkept.self
  have hheads' : (u.die d).heads = (s.die d).heads := congrArg (fun r => r.2) hchange.self
  have hactA : (u.die d).act a = { (s.die d).act a with loadTries := ((s.die d).act a).loadTries + 1 } := by
    rw [hself, ← Die.modAct_act_self (s.die d) a fun y => { y with loadTries := y.loadTries + 1 }]
    cases a <;> rfl
  have hactO : (u.die d).act (Act.other a) = (s.die d).act (Act.other a) := by
    refine Eq.trans ?_ (Die.modAct_act_ne (s.die d) a (fun y : Actuator => { y with loadTries := y.loadTries + 1 }) _ hother)
    rw [hself]
    cases a <;> rfl
  rw [hrep.act, hactA] at hact
  refine ⟨by rw [hact], by rw [hact], by rw [hact], ?_, (hwithin.reported hrep).trans hw, ?_, ?_, ?_⟩
  · rw [hfail, hrep.die_eq, hself]
  · rw [hheads, hrep.heads, hheads']
  · rw [hoth _ hother, hrep.act, hactO]
  · exact hlogged.kept_after ⟨congrArg (·.1) hkept.self, hkept.others⟩

/-- R159 row 6. -/
theorem actSettled_runs (h : ((s.die d).act a).state = .settling)
    (hr : s.getN Obj.settleWedges (actInst d a) ≤ ((s.die d).act a).settleRun) : Runs (.actSettled d a) s fun t =>
      let y := (s.die d).act a
      ((t.die d).act a) = { y with
        state := .tracking, seekPending := false, loadPending := false
        seekResult := if y.seekPending then 0 else y.seekResult } ∧
      (y.loadPending = true → t.get Obj.actResult (actInst d a) = 0) ∧
      (t.die d).heads = (s.die d).heads ∧ (t.die d).act (Act.other a) = (s.die d).act (Act.other a) ∧ t.out = s.out ∧
      ∀ e, e ≠ d → t.die e = s.die e := by
  have hexec := exec_onDie (c := .actSettled d a) (execActSettled d a s) rfl rfl hd
  rw [when_true _ (by simp [h, hr])] at hexec
  refine Runs.intro hexec ?_
  dsimp only
  have hother := Act.other_ne a
  generalize hu : (if ((s.die d).act a).loadPending then State.actResult _ d a 0 else _) = u
  have hdie : ∀ e, u.die e = (s.modAct d a fun y => { y with
      state := .tracking, seekPending := false, seekResult := if y.seekPending then 0 else y.seekResult
      loadPending := false }).die e := by
    intro e
    rw [← hu]
    split
    · exact State.actResult_die ..
    · rfl
  have hout : u.out = s.out := by
    rw [← hu]
    split
    · exact State.putSub_out ..
    · rfl
  have hkept : KeptBy (fun x => (x.heads, x.actA, x.actB)) d u ((u.calRecheck d).powerSettle d) :=
    (KeptBy.calRecheck fun _ _ => rfl).trans (KeptBy.modDie fun _ => rfl)
  have harms := KeptBy.arms hkept
  refine ⟨?_, fun hp => ?_, ?_, ?_, hout, fun e he => ?_⟩
  · rw [harms.act, hdie, State.modAct_die_self, Die.modAct_act_self]
  · have hget : ((u.calRecheck d).powerSettle d).get Obj.actResult (actInst d a) = u.get Obj.actResult (actInst d a) := rfl
    rw [hget, ← hu, if_pos hp, State.actResult_get]
  · refine (congrArg (fun r => r.1) hkept.self).trans ?_
    dsimp only
    rw [hdie, State.modAct_die_self, Die.modAct_heads]
  · rw [harms.act, hdie, State.modAct_die_self, Die.modAct_act_ne _ _ _ _ hother]
  · rw [harms.others e he, hdie, State.modAct_die_ne _ _ _ _ _ he]

/-- R159 row 7. -/
theorem exec_actSettleFail_of_settling (h : ((s.die d).act a).state = .settling) (hr : 256 ≤ ((s.die d).act a).settleWedges) :
    exec (.actSettleFail d a) s = .next (s.recoverStart d a (some Ev.actSettleFail)) := by
  rw [exec_onDie (c := .actSettleFail d a) (execActSettleFail d a s) rfl rfl hd, when_true _ (by simp [h, hr])]

/-- R159 row 11. -/
theorem actRecoverTimeout_runs (h : ((s.die d).act a).state = .recovering)
    (hr : s.getN Obj.recoverRevs (actInst d a) ≤ (s.die d).revsSince a) : Runs (.actRecoverTimeout d a) s fun t =>
      ((t.die d).act a).state = .retracting ∧ ((t.die d).act a).recTries = ((s.die d).act a).recTries + 1 ∧
      ((t.die d).act a).retractFor = .recoverFail ∧ (t.die d).heads = (s.die d).heads ∧ ∀ e, e ≠ d → t.die e = s.die e := by
  have hexec := exec_onDie (c := .actRecoverTimeout d a) (execActRecoverTimeout d a s) rfl rfl hd
  rw [when_true _ (by simp only [h, beq_self_eq_true, Bool.true_and, decide_eq_true_eq]; exact hr)] at hexec
  refine Runs.intro hexec ?_
  dsimp only
  have haborted : KeptBy Die.arms d s (s.calAbortIf d (calOfAct a)) := KeptBy.calAbortIf fun _ _ _ _ _ => rfl
  generalize s.calAbortIf d (calOfAct a) = u at haborted ⊢
  generalize hv : u.modAct d a (fun y => { y with recTries := y.recTries + 1 }) = v
  obtain ⟨seq, cmd, hact⟩ := v.retract_exact d a .recoverFail
  have hkept : KeptBy Die.heads d v (v.retract d a .recoverFail) := KeptBy.retract fun _ _ _ => rfl
  have hva : (v.die d).act a = { (s.die d).act a with recTries := ((s.die d).act a).recTries + 1 } := by
    rw [← hv, State.modAct_die_self, Die.modAct_act_self, haborted.arms.act]
  have hvh : (v.die d).heads = (s.die d).heads := by
    rw [← hv, State.modAct_die_self, Die.modAct_heads]
    exact congrArg (fun r => r.1) haborted.self
  rw [hva] at hact
  refine ⟨by rw [hact], by rw [hact], by rw [hact], hkept.self.trans hvh, fun e he => ?_⟩
  rw [hkept.others e he, ← hv, State.modAct_die_ne _ _ _ _ _ he, haborted.others e he]

end

end

/-! ### The end of a retract -/

theorem KeptBy.setCoastRate {α : Type} {f : Die → α} {d : DieId} {s : State} (hc : ∀ x c, f { x with clock := c } = f x) :
    KeptBy f d s (s.setCoastRate d) := by
  unfold State.setCoastRate
  exact KeptBy.modClock hc

theorem KeptBy.powerSettle {α : Type} {f : Die → α} {d : DieId} {s : State} (hp : ∀ x p, f { x with power := p } = f x) :
    KeptBy f d s (s.powerSettle d) := KeptBy.modDie fun x => hp x x.powerNow

/-- What entry to COASTING leaves alone: a function of the die that reads neither its clock, its calibrations nor its
counter window, nor the queues of its heads. -/
theorem KeptBy.coastEntry {α : Type} {f : Die → α} {d : DieId} {s : State} (hc : ∀ x c, f { x with clock := c } = f x)
    (hh : ∀ x h, f (x.modHead h Head.requeueUnstarted) = f x) (ho : ∀ x o, f { x with obs := o } = f x)
    (hr : ∀ x r, f { x with calRuns := r } = f x) : KeptBy f d s (s.coastEntry d) := by
  unfold State.coastEntry
  dsimp only
  split
  · exact KeptBy.refl
  · refine KeptBy.trans ?_ (KeptBy.calRecheck hr)
    refine KeptBy.trans ?_ (KeptBy.setCoastRate hc)
    refine KeptBy.trans ?_ (KeptBy.modDie fun _ => ho _ _)
    refine KeptBy.trans ?_ (KeptBy.foldl (fun s h => ?_) _ _)
    · exact KeptBy.modClock hc
    · exact KeptBy.modDie fun x => hh x h

/-- What a head writes with. -/
def Die.headGates (h : HeadId) (x : Die) : Bool × Bool × Lines := ((x.head h).live, (x.head h).permit, (x.head h).lines)

theorem Die.headGates_requeue (h k : HeadId) (x : Die) : (x.modHead k Head.requeueUnstarted).headGates h = x.headGates h := by
  by_cases hk : h = k
  · subst hk
    simp only [Die.headGates, Die.modHead_head_self]
    rfl
  · simp only [Die.headGates, Die.modHead_head_ne _ _ _ _ hk]

theorem Head.gated_gated (y : Head) : y.requeueUnstarted.gate.requeueUnstarted.gate = y.requeueUnstarted.gate := by
  simp [Head.gate, Head.requeueUnstarted]

/-- PARKED (05 R159 row 15). -/
theorem State.park_spec (s : State) (d : DieId) (a : Act) :
    let t := s.park d a
    ((t.die d).act a).state = .parked ∧ ((t.die d).act a).unloadPending = false ∧
    (((s.die d).act a).unloadPending = true → t.get Obj.actResult (actInst d a) = 0) ∧
    (∀ h, h.act = a → (t.die d).headGates h = (false, false, .park)) ∧
    (t.die d).act (Act.other a) = (s.die d).act (Act.other a) ∧ ∀ e, e ≠ d → t.die e = s.die e := by
  have hother := Act.other_ne a
  have hheads := State.foldl_modHead_head d (f := fun x => x.requeueUnstarted.gate) Head.gated_gated (headsOf a) s
  have hacts : KeptBy Die.act d s ((headsOf a).foldl (fun s h => s.modHead d h fun x => x.requeueUnstarted.gate) s) :=
    KeptBy.foldl (fun _ _ => KeptBy.modHead Die.act_heads) _ _
  unfold State.park
  dsimp only
  generalize (headsOf a).foldl (fun s h => s.modHead d h fun x => x.requeueUnstarted.gate) s = u at hheads hacts ⊢
  rw [hacts.self]
  generalize hw : (if ((s.die d).act a).unloadPending then State.actResult _ d a 0 else _) = w
  have hdie : ∀ e, w.die e = (u.modAct d a fun y => { y with
      state := .parked, loop := {}, v := 0, a := 0, uFb := 0, uFbPrev := 0, vcmNext := 0, unloadPending := false }).die e := by
    intro e
    rw [← hw]
    split
    · exact State.actResult_die ..
    · rfl
  have hrep := w.raiseAct_reported [] d a Ev.actParked []
  refine ⟨?_, ?_, fun hp => ?_, fun h hh => ?_, ?_, fun e he => ?_⟩
  · rw [hrep.act, hdie, State.modAct_die_self, Die.modAct_act_self]
  · rw [hrep.act, hdie, State.modAct_die_self, Die.modAct_act_self]
  · rw [Gives.get hrep (by decide) (actInst_lt d a), ← hw, if_pos hp, State.actResult_get]
  · have hhead : ((w.die d).head h) = ((s.die d).head h).requeueUnstarted.gate := by
      rw [hdie, State.modAct_die_self, Die.head, Die.modAct_heads]
      exact (hheads h).trans (if_pos (by simpa using hh))
    rw [Die.headGates, hrep.head, hhead]
    rfl
  · rw [hrep.act, hdie, State.modAct_die_self, Die.modAct_act_ne _ _ _ _ hother, hacts.self]
  · rw [hrep.die_ne he, hdie, State.modAct_die_ne _ _ _ _ _ he, hacts.others e he]

/-- What follows the end of a retract: the clock, the spindle, the calibrations and the power state. -/
def State.parkedOn (s : State) (d : DieId) : State := (((s.unloadedClock d).headsOff d).calRecheck d).powerSettle d

theorem KeptBy.headsOff {α : Type} {f : Die → α} {d : DieId} {s : State} (hs : ∀ x p, f { x with spin := p } = f x) :
    KeptBy f d s (s.headsOff d) := KeptBy.ite (KeptBy.modSpin hs) KeptBy.refl

theorem KeptBy.unloadedClock {α : Type} {f : Die → α} {d : DieId} {s : State} (hc : ∀ x c, f { x with clock := c } = f x)
    (hh : ∀ x h, f (x.modHead h Head.requeueUnstarted) = f x) (ho : ∀ x o, f { x with obs := o } = f x)
    (hr : ∀ x r, f { x with calRuns := r } = f x) : KeptBy f d s (s.unloadedClock d) := by
  unfold State.unloadedClock
  split
  · exact KeptBy.coastEntry hc hh ho hr
  · exact KeptBy.refl

theorem KeptBy.parkedOn {α : Type} {f : Die → α} {d : DieId} {s : State} (hc : ∀ x c, f { x with clock := c } = f x)
    (hh : ∀ x h, f (x.modHead h Head.requeueUnstarted) = f x) (ho : ∀ x o, f { x with obs := o } = f x)
    (hr : ∀ x r, f { x with calRuns := r } = f x) (hs : ∀ x p, f { x with spin := p } = f x)
    (hp : ∀ x p, f { x with power := p } = f x) : KeptBy f d s (s.parkedOn d) := by
  unfold State.parkedOn
  have hclock : KeptBy f d s (s.unloadedClock d) := KeptBy.unloadedClock hc hh ho hr
  generalize s.unloadedClock d = u at hclock ⊢
  exact ((hclock.trans (KeptBy.headsOff hs)).trans (KeptBy.calRecheck hr)).trans (KeptBy.powerSettle hp)

theorem State.parkedOn_clock (s : State) (d : DieId) (h : (s.die d).bothParked = true) :
    ((s.parkedOn d).die d).clock.state = .coasting := by
  have hkept : ∀ u : State, KeptBy Die.clock d u (((u.headsOff d).calRecheck d).powerSettle d) := fun u =>
    ((KeptBy.headsOff fun _ _ => rfl).trans (KeptBy.calRecheck fun _ _ => rfl)).trans (KeptBy.powerSettle fun _ _ => rfl)
  rw [State.parkedOn, (hkept _).self]
  unfold State.unloadedClock
  by_cases hc : (s.die d).clock.coasting = true
  · rw [if_neg (by simp [hc])]
    simpa [AngleClock.coasting] using hc
  · rw [if_pos (by simp [h, hc])]
    obtain ⟨c, hs, rs, b, heq, -, hstate⟩ := s.coastEntry_shape d
    rw [heq, State.setDie_die_self]
    exact hstate

theorem State.parkedOn_objs (s : State) (d : DieId) : (s.parkedOn d).objs = s.objs := by
  have hentry : (s.unloadedClock d).objs = s.objs := by
    unfold State.unloadedClock
    split
    · obtain ⟨c, hs, rs, b, heq, -⟩ := s.coastEntry_shape d
      rw [heq]
      rfl
    · rfl
  have hrest : (s.parkedOn d).objs = ((s.unloadedClock d).headsOff d).objs := rfl
  rw [hrest, ← hentry]
  generalize s.unloadedClock d = u
  unfold State.headsOff
  dsimp only
  split
  · rfl
  · rfl

/-- R159 row 15: a retract that ends an unload. -/
theorem actRetractDone_runs {s : State} {d : DieId} {a : Act} (hd : s.fitted d = true)
    (h : ((s.die d).act a).state = .retracting) (hw : ((s.die d).act a).loadWaits = false)
    (hp : ((s.die d).act a).unloadPending = true) : Runs (.actRetractDone d a) s fun t =>
      ((t.die d).act a).state = .parked ∧ ((t.die d).act a).unloadPending = false ∧ t.get Obj.actResult (actInst d a) = 0 ∧
      (∀ h, h.act = a → ((t.die d).head h).live = false ∧ ((t.die d).head h).permit = false ∧
        ((t.die d).head h).lines = .park) ∧
      (((s.die d).act (Act.other a)).loaded = false → (t.die d).clock.state = .coasting) ∧
      ∀ e, e ≠ d → t.die e = s.die e := by
  have hexec := exec_onDie (c := .actRetractDone d a) (execActRetractDone d a s) rfl rfl hd
  rw [when_true _ (by simp [h])] at hexec
  have hrest : exec (.actRetractDone d a) s = .next ((s.park d a).parkedOn d) :=
    hexec.trans (congrArg Host.Outcome.next ((if_neg (by simp [hw])).trans (if_pos hp)))
  refine Runs.intro hrest ?_
  obtain ⟨hstate, hpend, hget, hgates, hoth, hne⟩ := s.park_spec d a
  generalize s.park d a = u at hstate hpend hget hgates hoth hne ⊢
  have hacts : KeptBy Die.act d u (u.parkedOn d) := KeptBy.parkedOn (fun x c => by funext b; cases b <;> rfl)
    (fun x k => by funext b; cases b <;> rfl) (fun x c => by funext b; cases b <;> rfl) (fun x c => by funext b; cases b <;> rfl)
    (fun x c => by funext b; cases b <;> rfl) (fun x c => by funext b; cases b <;> rfl)
  have hheads : ∀ k, KeptBy (Die.headGates k) d u (u.parkedOn d) := fun k =>
    KeptBy.parkedOn (fun _ _ => rfl) (fun x j => x.headGates_requeue k j) (fun _ _ => rfl) (fun _ _ => rfl)
      (fun _ _ => rfl) (fun _ _ => rfl)
  have hobjs := u.parkedOn_objs d
  have hclock := u.parkedOn_clock d
  generalize u.parkedOn d = t at hacts hheads hobjs hclock ⊢
  refine ⟨?_, ?_, ?_, fun k hk => ?_, fun ho => hclock ?_, fun e he => ?_⟩
  · rw [hacts.self, hstate]
  · rw [hacts.self, hpend]
  · rw [State.get_of_objs_eq hobjs, hget hp]
  · have hview : (((t.die d).head k).live, ((t.die d).head k).permit, ((t.die d).head k).lines) = (false, false, Lines.park) :=
      (hheads k).self.trans (hgates k hk)
    simpa using hview
  · rw [← hoth] at ho
    cases a
    · have hA : (u.die d).actA.state = .parked := hstate
      have hB : (u.die d).actB.loaded = false := ho
      simp [Die.bothParked, Actuator.loaded.eq_def (u.die d).actA, hA, hB]
    · have hB : (u.die d).actB.state = .parked := hstate
      have hA : (u.die d).actA.loaded = false := ho
      simp [Die.bothParked, Actuator.loaded.eq_def (u.die d).actB, hA, hB]
  · rw [hacts.others e he, hne e he]

/-- Settles O17: the load, unload and seek commands by the state they meet, and the limits of each state. -/
theorem actuatorStates : Obligations.ActuatorStates := by
  unfold Obligations.ActuatorStates
  refine ⟨fun s d a targets hd => ⟨fun hi => ⟨exec_actLoad.trans (actCommand_isolated hd hi),
      exec_actUnload.trans (actCommand_isolated hd hi)⟩, fun hi h => actLoad_runs hd hi h,
    fun hi h => exec_actLoad_of_loaded hd hi h, fun hi => actUnload_runs hd hi, fun h => actSeek_runs targets hd h,
    fun h => exec_actSeek_of_recovering targets hd h, fun h h' => exec_actSeek_of_other targets hd h h'⟩,
    fun s d a hd => ⟨fun h hr => ?_, fun h hr => actSettled_runs hd h hr, fun h hr => ?_,
    fun h hr => actRecoverTimeout_runs hd h hr, fun h hw hp => actRetractDone_runs hd h hw hp⟩⟩
  · have hruns := actLoadTimeout_runs hd h hr
    cases a
    · exact hruns
    · exact hruns
  · obtain ⟨hact, hheads, hwithin, hlogged⟩ := s.recoverStart_exact d a Ev.actSettleFail
    refine Runs.intro (exec_actSettleFail_of_settling hd h hr) ⟨hact, hheads, hwithin, ?_⟩
    cases a
    · exact hlogged
    · exact hlogged

end Sys2Proof.Machine

/-! PROOFS. Reading a sector and the recovery ladder (06 R173 to R200). -/

namespace Sys2Proof.Machine

/-! ### What a read changes -/

/-- What a head holds of the sectors it reads. -/
structure Captures where
  results : List (SectorLoc × ChannelResult × Nat)
  ladders : List Ladder
  wait : List SectorLoc

def Head.captures (y : Head) : Captures := ⟨y.results, y.ladders, y.ladderWait⟩

/-- What the reads of head h leave of a die: the medium, the actuators and the other heads. -/
def Die.readFrame (h : HeadId) (x : Die) : DieData × Actuator × Actuator × (HeadId → Option Head) :=
  (x.data, x.actA, x.actB, fun g => if g = h then none else some (x.head g))

/-- The limits a read is judged by (06 R187, R190). -/
def readObjs : List ObjDef := [Obj.syncTolerance, Obj.ldpcIterNormal, Obj.ldpcIterExt]

/-- From s to t head h's reads have left it with v, and with it the medium, the actuators and the other heads as they
were. -/
structure Reads (d : DieId) (h : HeadId) (s t : State) (v : Captures) : Prop extends
    StepFrame (Die.readFrame h) readObjs d s t where
  captures : ((t.die d).head h).captures = v

namespace Reads
variable {d : DieId} {h : HeadId} {s t u : State} {v : Captures}

theorem refl : Reads d h s s ((s.die d).head h).captures := ⟨StepFrame.refl, rfl⟩

theorem modHead {g : Head → Head} {G : Captures → Captures} (hr : Reads d h s t v) (hg : ∀ y, (g y).captures = G y.captures) :
    Reads d h s (t.modHead d h g) (G v) := by
  refine ⟨hr.toStepFrame.trans (StepFrame.modDie fun x => ?_), ?_⟩
  · have hothers : ∀ k, (if k = h then none else some ((x.modHead h g).head k)) = if k = h then none else some (x.head k) := by
      intro k
      by_cases hk : k = h
      · rw [if_pos hk, if_pos hk]
      · rw [if_neg hk, if_neg hk, Die.modHead_head_ne _ _ _ _ hk]
    exact congrArg (fun w => (x.data, x.actA, x.actB, w)) (funext hothers)
  · rw [State.modHead_die_self, Die.modHead_head_self, hg, hr.captures]

/-- A change of the head that leaves what it has read. -/
theorem modHead_same {g : Head → Head} (hr : Reads d h s t v) (hg : ∀ y, (g y).captures = y.captures) :
    Reads d h s (t.modHead d h g) v := hr.modHead (G := id) hg

theorem bump {o : ObjDef} {i k : Nat} (hr : Reads d h s t v) (ho : ∀ p ∈ readObjs, p.name ≠ o.name) (hi : i < 256) :
    Reads d h s (t.bump o i k) v :=
  ⟨hr.toStepFrame.trans (StepFrame.bump ho hi), by rw [State.bump_die, hr.captures]⟩

theorem put {o : ObjDef} {i : Nat} {z : Int} (hr : Reads d h s t v) (ho : ∀ p ∈ readObjs, p.name ≠ o.name) (hi : i < 256) :
    Reads d h s (t.put o i z) v := by
  have hdie : ∀ e, (t.put o i z).die e = t.die e := fun e => by simp [State.put_eq, State.die]
  exact ⟨hr.toStepFrame.trans ⟨KeptBy.put, State.putSub_host .., State.putSub_rest ..,
    fun p hp => State.put_get_ne t (ho p hp) hi (dieInst_lt d)⟩, by rw [hdie, hr.captures]⟩

theorem reported (hr : Reads d h s t v) (hrep : Reported [] d t u) : Reads d h s u v :=
  ⟨hr.toStepFrame.trans (StepFrame.reported (fun _ _ => rfl) (by decide) hrep), by rw [hrep.head, hr.captures]⟩

theorem count {e k : Nat} (hr : Reads d h s t v) : Reads d h s (t.count d e k) v := hr.reported (State.count_reported [] t d e k)

theorem monitor {p n : Nat} (hr : Reads d h s t v) : Reads d h s (t.monitor d p n) v :=
  ⟨hr.toStepFrame.trans (by
    unfold State.monitor State.modObs
    exact StepFrame.modDie fun _ => rfl), by
    rw [← hr.captures, State.monitor, State.modObs_die_self]
    rfl⟩

theorem useFresh (hr : Reads d h s t v) : Reads d h s t.useFresh v :=
  ⟨hr.toStepFrame.trans ⟨⟨rfl, fun _ _ => rfl⟩, rfl, rfl, fun _ _ => rfl⟩, hr.captures⟩

theorem ite {c : Prop} [Decidable c] (hr : Reads d h s t v) (k : Reads d h s u v) : Reads d h s (if c then t else u) v := by
  split
  · exact hr
  · exact k

theorem countMarks {x : ReadAttempt} (hr : Reads d h s t v) : Reads d h s (t.countMarks d h x) v := by
  have hsync : Reads d h s (if (t.syncOf d x).isNone then t.bump Obj.syncMissCount (headInst d h) else t) v :=
    ite (hr.bump (by decide) (headInst_lt d h)) hr
  exact ite (hsync.bump (by decide) (headInst_lt d h)) hsync

theorem startTaps {r : Nat} (hr : Reads d h s t v) : Reads d h s (t.startTaps d h r) v := hr.modHead_same fun _ => rfl

theorem endTaps {b : Bool} (hr : Reads d h s t v) : Reads d h s (t.endTaps d h b) v :=
  ite ((hr.modHead_same (by intro _; rfl)).useFresh) (hr.modHead_same (by intro _; rfl))

theorem countIterations {n : Nat} (hr : Reads d h s t v) : Reads d h s (t.countIterations d h n) v := by
  refine modHead_same ?_ fun _ => rfl
  exact ite hr ((hr.modHead_same (by intro _; rfl)).put (by decide) (headInst_lt d h))

/-- The limit on a mark's errors and on the iterations are as they were. -/
theorem getN (hr : Reads d h s t v) {o : ObjDef} (ho : o ∈ readObjs) : t.getN o (dieInst d) = s.getN o (dieInst d) :=
  congrArg Int.toNat (hr.objs o ho)

theorem decoded (hr : Reads d h s t v) (w : ReadAttempt) (n : Nat) : t.decoded d w n = s.decoded d w n := by
  have hsync : t.syncOf d w = s.syncOf d w := congrArg (pickMark w.sync 64) (hr.getN (by simp [readObjs]))
  rw [State.decoded, State.decoded, hsync]

/-- The end of one sector's read (06 R189). -/
theorem chanResult {loc : SectorLoc} {r : ChannelResult} {n : Nat} (hr : Reads d h s t v) :
    Reads d h s (t.chanResult d h loc r n) { v with results := (loc, r, n) :: v.results } := by
  have hhead : Reads d h s (t.modHead d h fun x => { x with results := (loc, r, n) :: x.results })
      { v with results := (loc, r, n) :: v.results } :=
    hr.modHead (G := fun v => { v with results := (loc, r, n) :: v.results }) fun _ => rfl
  have hi := headInst_lt d h
  cases r with
  | ok => exact ((hhead.bump (by decide) hi).monitor).count
  | recovered => exact (((hhead.bump (by decide) hi).bump (by decide) hi).monitor).count
  | unrecovered => exact hhead.bump (by decide) hi
  | addressMismatch => exact hhead.bump (by decide) hi
  | noSignal => exact hhead
  | written => exact ((hhead.bump (by decide) hi).monitor).count
  | abandoned => exact hhead.bump (by decide) hi

/-- A sector that leaves the ladder leaves the results as they were. -/
theorem leaveLadder {loc : SectorLoc} (hr : Reads d h s t v) :
    ∃ w, Reads d h s (t.leaveLadder d h loc) w ∧ w.results = v.results := by
  have hleft : Reads d h s (t.modHead d h fun x => { x with ladders := x.ladders.filter fun l => l.loc != loc, offset := 0 })
      { v with ladders := v.ladders.filter fun l => l.loc != loc } :=
    hr.modHead (G := fun v => { v with ladders := v.ladders.filter fun l => l.loc != loc }) fun _ => rfl
  unfold State.leaveLadder
  dsimp only
  generalize t.modHead d h (fun x => { x with ladders := x.ladders.filter fun l => l.loc != loc, offset := 0 }) = u at hleft ⊢
  split
  · exact ⟨_, hleft, rfl⟩
  · next k rest _ =>
    split
    · exact ⟨_, (hleft.modHead (G := fun v => ⟨v.results, v.ladders ++ [freshLadder k], rest⟩) fun _ => rfl).count, rfl⟩
    · exact ⟨_, hleft, rfl⟩

theorem endLadder {l : Ladder} {r : ChannelResult} (hr : Reads d h s t v) :
    ∃ w, Reads d h s (t.endLadder d h l r) w ∧ w.results = (l.loc, r, l.step) :: v.results := by
  obtain ⟨w, hw, heq⟩ := (hr.chanResult (loc := l.loc) (r := r) (n := l.step)).leaveLadder (loc := l.loc)
  exact ⟨w, hw, heq⟩

/-- A sector that fails on the fly enters the ladder, or waits for a capture buffer (06 R190, R200). -/
theorem failOnTheFly {l : Ladder} (hr : Reads d h s t v) : Reads d h s (t.failOnTheFly d h l)
    (if (v.ladders.filter Ladder.inLadder).length < 2 then
      { v with ladders := (v.ladders.filter fun m => m.loc != l.loc) ++ [{ l with step := 1 }] }
    else { v with ladders := v.ladders.filter fun m => m.loc != l.loc, wait := v.wait ++ [l.loc] }) := by
  have hcapt : ((t.die d).head h).captured = (v.ladders.filter Ladder.inLadder).length := by
    rw [← hr.captures]
    rfl
  have hleft : Reads d h s (t.modHead d h fun x => { x with ladders := x.ladders.filter fun m => m.loc != l.loc })
      { v with ladders := v.ladders.filter fun m => m.loc != l.loc } :=
    hr.modHead (G := fun v => { v with ladders := v.ladders.filter fun m => m.loc != l.loc }) fun _ => rfl
  unfold State.failOnTheFly
  dsimp only
  rw [hcapt]
  split
  · exact (hleft.modHead (G := fun v => { v with ladders := v.ladders ++ [{ l with step := 1 }] }) fun _ => rfl).count
  · exact hleft.modHead (G := fun v => { v with wait := v.wait ++ [l.loc] }) fun _ => rfl

/-- What the frame of a read says of the die. -/
theorem frame (hr : Reads d h s t v) : (∀ g, g ≠ h → (t.die d).head g = (s.die d).head g) ∧ (t.die d).data = (s.die d).data ∧
    (t.die d).actA = (s.die d).actA ∧ (t.die d).actB = (s.die d).actB ∧ ∀ e, e ≠ d → t.die e = s.die e := by
  have hself := hr.self
  refine ⟨fun g hg => ?_, congrArg (fun r => r.1) hself, congrArg (fun r => r.2.1) hself, congrArg (fun r => r.2.2.1) hself,
    hr.others⟩
  have hheads : (if g = h then none else some ((t.die d).head g)) = if g = h then none else some ((s.die d).head g) :=
    congrArg (fun r => r.2.2.2 g) hself
  rw [if_neg hg, if_neg hg] at hheads
  exact Option.some.inj hheads

end Reads

/-! ### One sector's read -/

section
variable {s : State} {d : DieId} {h : HeadId} {loc : SectorLoc} {w : ReadAttempt}

/-- The read up to its judgement: taps, marks and iterations (06 R172, R187, R213). -/
def State.sectorSeen (s : State) (d : DieId) (h : HeadId) (loc : SectorLoc) (w : ReadAttempt) : State :=
  let u := (s.startTaps d h (s.regionAt d h loc.track.toNat)).countMarks d h w
  u.countIterations d h (min w.iterations (u.getN Obj.ldpcIterNormal (dieInst d)))

theorem Reads.sectorSeen : Reads d h s (s.sectorSeen d h loc w) ((s.die d).head h).captures :=
  Reads.refl.startTaps.countMarks.countIterations

/-- The head's ladder and re-read of the sector dropped. -/
def State.dropped (s : State) (d : DieId) (h : HeadId) (loc : SectorLoc) : State :=
  s.modHead d h fun y => { y with ladders := y.ladders.filter fun m => m.loc != loc }

theorem Reads.dropped {t : State} {v : Captures} (hr : Reads d h s t v) :
    Reads d h s (t.dropped d h loc) { v with ladders := v.ladders.filter fun m => m.loc != loc } :=
  hr.modHead (G := fun v => { v with ladders := v.ladders.filter fun m => m.loc != loc }) fun _ => rfl

/-- How a read ends (06 R189, R190): `l` the sector's ladder, `ok` decoded, `again` read before. -/
def State.sectorJudged (s : State) (d : DieId) (h : HeadId) (l : Ladder) (w : ReadAttempt) (ok again : Bool) : State :=
  if !ok then (s.endTaps d h false).failOnTheFly d h l
  else if !w.crcOk then ((s.endTaps d h false).bump Obj.miscorrectCount (headInst d h)).failOnTheFly d h l
  else
    let s := s.endTaps d h true
    if w.tagOk then (s.dropped d h l.loc).chanResult d h l.loc .ok 0
    else if again then (s.dropped d h l.loc).chanResult d h l.loc .addressMismatch 0
    else (s.dropped d h l.loc).modHead d h fun y => { y with ladders := y.ladders ++ [{ l with step := 0, reread := true }] }

theorem exec_sectorRead (hd : s.fitted d = true) (hm : s.mayRead d h loc = true) : ∃ l : Ladder, l.loc = loc ∧
    exec (.sectorRead d h loc w) s = .next ((s.sectorSeen d h loc w).sectorJudged d h l w
      (s.decoded d w (s.getN Obj.ldpcIterNormal (dieInst d)))
      (((s.die d).head h).ladders.any fun l => l.loc == loc && l.step == 0)) := by
  have hexec := exec_onDie (c := .sectorRead d h loc w) (execSectorRead d h loc w s) rfl rfl hd
  rw [when_true _ hm] at hexec
  have hmarks : Reads d h s ((s.startTaps d h (s.regionAt d h loc.track.toNat)).countMarks d h w) ((s.die d).head h).captures :=
    Reads.refl.startTaps.countMarks
  have hseen : Reads d h s (s.sectorSeen d h loc w) ((s.die d).head h).captures := Reads.sectorSeen
  rw [← hmarks.decoded, ← hmarks.getN (o := Obj.ldpcIterNormal) (by simp [readObjs])]
  have hladders : ((s.die d).head h).ladders = (((s.sectorSeen d h loc w).die d).head h).ladders :=
    (congrArg Captures.ladders hseen.captures).symm
  rw [hladders]
  exact ⟨_, rfl, hexec⟩

/-- What a sector that fails leaves of the head's captures (06 R190, R200). -/
def Captures.failed (v : Captures) (l : Ladder) : Captures :=
  if (v.ladders.filter Ladder.inLadder).length < 2 then
    { v with ladders := (v.ladders.filter fun m => m.loc != l.loc) ++ [{ l with step := 1 }] }
  else { v with ladders := v.ladders.filter fun m => m.loc != l.loc, wait := v.wait ++ [l.loc] }

/-- What one read leaves of the head's captures (06 R189, R190). -/
def Captures.judged (v : Captures) (l : Ladder) (w : ReadAttempt) (ok again : Bool) : Captures :=
  let u := { v with ladders := v.ladders.filter fun m => m.loc != l.loc }
  if !(ok && w.crcOk) then v.failed l
  else if w.tagOk then { u with results := (l.loc, .ok, 0) :: v.results }
  else if again then { u with results := (l.loc, .addressMismatch, 0) :: v.results }
  else { u with ladders := u.ladders ++ [{ l with step := 0, reread := true }] }

section
variable {v : Captures} {l : Ladder} {ok again : Bool}

theorem Captures.failed_room (hc : (v.ladders.filter Ladder.inLadder).length < 2) : v.failed l =
    { v with ladders := (v.ladders.filter fun m => m.loc != l.loc) ++ [{ l with step := 1 }] } := if_pos hc

theorem Captures.failed_full (hc : ¬ (v.ladders.filter Ladder.inLadder).length < 2) : v.failed l =
    { v with ladders := v.ladders.filter fun m => m.loc != l.loc, wait := v.wait ++ [l.loc] } := if_neg hc

theorem Captures.judged_failed (hb : ok = false ∨ w.crcOk = false) : v.judged l w ok again = v.failed l :=
  if_pos (by rcases hb with hb | hb <;> simp [hb])

theorem Captures.judged_ok (ho : ok = true) (hc : w.crcOk = true) (ht : w.tagOk = true) : v.judged l w ok again =
    { v with ladders := v.ladders.filter fun m => m.loc != l.loc, results := (l.loc, .ok, 0) :: v.results } := by
  simp [Captures.judged, ho, hc, ht]

theorem Captures.judged_mismatch (ho : ok = true) (hc : w.crcOk = true) (ht : w.tagOk = false) (ha : again = true) :
    v.judged l w ok again = { v with
      ladders := v.ladders.filter fun m => m.loc != l.loc, results := (l.loc, .addressMismatch, 0) :: v.results } := by
  simp [Captures.judged, ho, hc, ht, ha]

theorem Captures.judged_again (ho : ok = true) (hc : w.crcOk = true) (ht : w.tagOk = false) (ha : again = false) :
    v.judged l w ok again = { v with
      ladders := (v.ladders.filter fun m => m.loc != l.loc) ++ [{ l with step := 0, reread := true }] } := by
  simp [Captures.judged, ho, hc, ht, ha]

end

theorem Reads.sectorJudged {t : State} {v : Captures} {l : Ladder} {ok again : Bool} (hr : Reads d h s t v) :
    Reads d h s (t.sectorJudged d h l w ok again) (v.judged l w ok again) := by
  unfold State.sectorJudged Captures.judged
  cases ok
  · exact hr.endTaps.failOnTheFly
  cases w.crcOk
  · exact (hr.endTaps.bump (by decide) (headInst_lt d h)).failOnTheFly
  cases w.tagOk
  · cases again
    · exact hr.endTaps.dropped.modHead
        (G := fun v => { v with ladders := v.ladders ++ [{ l with step := 0, reread := true }] }) fun _ => rfl
    · exact (hr.endTaps (b := true)).dropped.chanResult (loc := l.loc) (r := .addressMismatch) (n := 0)
  · exact (hr.endTaps (b := true)).dropped.chanResult (loc := l.loc) (r := .ok) (n := 0)

theorem sectorRead_runs (hd : s.fitted d = true) (hm : s.mayRead d h loc = true) :
    let x := s.die d
    let y := x.head h
    let ok := s.decoded d w (s.getN Obj.ldpcIterNormal (dieInst d))
    let again := y.ladders.any fun l => l.loc == loc && l.step == 0
    Runs (.sectorRead d h loc w) s fun t =>
     let z := (t.die d).head h
     (ok = true → w.crcOk = true → w.tagOk = true → z.results = (loc, .ok, 0) :: y.results ∧ ∀ l ∈ z.ladders, l.loc ≠ loc) ∧
     (ok = true → w.crcOk = true → w.tagOk = false → again = true → z.results = (loc, .addressMismatch, 0) :: y.results) ∧
     (ok = true → w.crcOk = true → w.tagOk = false → again = false → z.results = y.results ∧
       ∃ l ∈ z.ladders, l.loc = loc ∧ l.step = 0 ∧ l.reread = true) ∧
     (ok = false ∨ w.crcOk = false → z.results = y.results ∧
       (if y.captured < 2 then ∃ l ∈ z.ladders, l.loc = loc ∧ l.step = 1 else z.ladderWait = y.ladderWait ++ [loc])) ∧
     (∀ g, g ≠ h → (t.die d).head g = x.head g) ∧ (t.die d).data = x.data ∧ (t.die d).actA = x.actA ∧
     (t.die d).actB = x.actB ∧ ∀ e, e ≠ d → t.die e = s.die e := by
  intro x y ok again
  obtain ⟨l, rfl, hexec⟩ := exec_sectorRead (w := w) hd hm
  have hread : Reads d h s ((s.sectorSeen d h l.loc w).sectorJudged d h l w ok again) (y.captures.judged l w ok again) :=
    Reads.sectorSeen.sectorJudged
  refine Runs.intro hexec ?_
  dsimp only
  change Reads d h s (State.sectorJudged _ d h l w _ _) _ at hread
  generalize State.sectorJudged _ d h l w _ _ = t at hread
  have hresults := congrArg Captures.results hread.captures
  have hladders := congrArg Captures.ladders hread.captures
  have hwait := congrArg Captures.wait hread.captures
  refine ⟨fun hok hcrc htag => ?_, fun hok hcrc htag hag => ?_, fun hok hcrc htag hag => ?_, fun hbad => ?_, hread.frame⟩
  · rw [Captures.judged_ok hok hcrc htag] at hresults hladders
    refine ⟨hresults, fun m hm => ?_⟩
    have hmem : m ∈ y.ladders.filter fun m => m.loc != l.loc := (congrArg (m ∈ ·) hladders).mp hm
    simpa using (List.mem_filter.mp hmem).2
  · rw [Captures.judged_mismatch hok hcrc htag hag] at hresults
    exact hresults
  · rw [Captures.judged_again hok hcrc htag hag] at hresults hladders
    refine ⟨hresults, { l with step := 0, reread := true }, (congrArg (_ ∈ ·) hladders).mpr ?_, rfl, rfl, rfl⟩
    exact List.mem_append_right _ (List.mem_singleton.mpr rfl)
  · rw [Captures.judged_failed hbad] at hresults hladders hwait
    by_cases hc : y.captured < 2
    · rw [Captures.failed_room (v := y.captures) hc] at hresults hladders
      refine ⟨hresults, ?_⟩
      rw [if_pos hc]
      exact ⟨{ l with step := 1 }, (congrArg (_ ∈ ·) hladders).mpr (List.mem_append_right _ (List.mem_singleton.mpr rfl)), rfl, rfl⟩
    · rw [Captures.failed_full (v := y.captures) hc] at hresults hwait
      refine ⟨hresults, ?_⟩
      rw [if_neg hc]
      exact hwait

end

/-! ### The ladder -/

section
variable {s : State} {d : DieId} {h : HeadId} {w : ReadAttempt}

/-- A decode that succeeds ends the ladder (06 R190). -/
theorem State.ladderVerdict_won (t : State) (l : Ladder) (hc : w.crcOk = true) (ht : w.tagOk = true) :
    t.ladderVerdict d h l w true = (t.endLadder d h l .recovered, none) := by
  simp [State.ladderVerdict, hc, ht]

/-- A ladder after one more attempt (06 R190 to R194). -/
def Ladder.readOnce (l : Ladder) (x : ReadAttempt) (seen misframed : Bool) : Ladder :=
  { l with
    revs := l.revs + 1
    captures := if l.captures.length < 8 then l.captures ++ [x] else l.captures
    syncSeen := l.syncSeen || seen
    misframe := l.misframe || misframed
    noSignal := l.noSignal && (!x.signal || l.step != 1)
    offsets := if l.step = 6 then l.offsets + 1 else l.offsets }

/-- How the ladder goes on after a verdict (06 R190). -/
def State.ladderGoes (d : DieId) (h : HeadId) (r : State × Option Ladder) : State :=
  match r.2 with
  | none => r.1
  | some l =>
    let s := r.1.modHead d h fun y => y.putLadder l
    if l.step = 1 ∧ l.revs < 2 then s
    else if l.step = 1 ∧ l.noSignal then s.endLadder d h l .noSignal
    else if l.step = 6 ∧ l.offsets < 4 then s.modHead d h fun y => { y with offset := s.offsetOf d l.offsets }
    else s.nextStep d h l

theorem State.ladderGoes_ended (t : State) : State.ladderGoes d h (t, none) = t := rfl

/-- The iterations a reading step may take (06 R190). -/
def State.stepLimit (s : State) (d : DieId) (l : Ladder) : Nat :=
  if l.step = 1 ∨ l.step = 4 then s.getN Obj.ldpcIterNormal (dieInst d) else s.getN Obj.ldpcIterExt (dieInst d)

theorem State.ladderRead_eq (t : State) (l : Ladder) : ∃ b, t.ladderRead d h l w =
    State.ladderGoes d h ((t.countMarks d h w).ladderVerdict d h (l.readOnce w ((t.countMarks d h w).syncOf d w).isSome b) w
      ((t.countMarks d h w).decoded d w ((t.countMarks d h w).stepLimit d l))) := by
  refine ⟨(t.countMarks d h w).misframed d w ((t.countMarks d h w).decoded d w ((t.countMarks d h w).stepLimit d l)), ?_⟩
  unfold State.ladderRead State.ladderGoes Ladder.readOnce State.stepLimit
  generalize t.countMarks d h w = u
  rfl

/-- A reading step that decodes. -/
theorem State.ladderRead_won {l : Ladder} {t : State} {v : Captures} (hr : Reads d h s t v)
    (hok : s.decoded d w (s.stepLimit d l) = true) (hc : w.crcOk = true) (ht : w.tagOk = true) :
    ∃ m : Captures, Reads d h s (t.ladderRead d h l w) m ∧ m.results = (l.loc, .recovered, l.step) :: v.results := by
  have hmarks := hr.countMarks (x := w)
  have hlimit : (t.countMarks d h w).stepLimit d l = s.stepLimit d l := by
    rw [State.stepLimit, hmarks.getN (by simp [readObjs]), hmarks.getN (by simp [readObjs])]
    rfl
  obtain ⟨b, heq⟩ := t.ladderRead_eq (d := d) (h := h) (w := w) l
  rw [heq, hlimit, hmarks.decoded, hok, State.ladderVerdict_won _ _ hc ht, State.ladderGoes_ended]
  exact hmarks.endLadder (l := l.readOnce w ((t.countMarks d h w).syncOf d w).isSome b)

theorem exec_ladderStep_none (ws : List ReadAttempt) (hd : s.fitted d = true) (hn : ((s.die d).head h).reading = none) :
    exec (.ladderStep d h ws) s = .next s := by
  rw [exec_onDie (c := .ladderStep d h ws) (execLadderStep d h ws s) rfl rfl hd, hn]

theorem exec_ladderStep_barred (ws : List ReadAttempt) {l : Ladder} (hd : s.fitted d = true)
    (hl : ((s.die d).head h).reading = some l) (hm : s.mayRead d h l.loc = false) : exec (.ladderStep d h ws) s = .next s := by
  rw [exec_onDie (c := .ladderStep d h ws) (execLadderStep d h ws s) rfl rfl hd, hl]
  exact congrArg Host.Outcome.next (when_false _ hm)

theorem exec_ladderStep_one {l : Ladder} (hd : s.fitted d = true) (hl : ((s.die d).head h).reading = some l)
    (hm : s.mayRead d h l.loc = true) : exec (.ladderStep d h [w]) s = .next (s.ladderRead d h l w) := by
  rw [exec_onDie (c := .ladderStep d h [w]) (execLadderStep d h [w] s) rfl rfl hd, hl]
  refine congrArg Host.Outcome.next ((when_true _ hm).trans ?_)
  have hloop : ∀ u : State, u.ladderReads d h l.loc l.step [] = u := fun _ => rfl
  unfold State.ladderReads
  rw [hl]
  exact (if_pos ⟨rfl, rfl⟩).trans (hloop _)

end

section
variable {s : State} {d : DieId} {h : HeadId} {a : Act} {w : ReadAttempt}

theorem exec_recoveryDecodeDone_none (hd : s.fitted d = true) (hq : ((s.die d).act a).rdecQueue = []) :
    exec (.recoveryDecodeDone d a w) s = .next s := by
  rw [exec_onDie (c := .recoveryDecodeDone d a w) (execRecoveryDecodeDone d a w s) rfl rfl hd, hq]

/-- The recovery decoder takes the next capture. -/
def State.decoderTurns (s : State) (d : DieId) (a : Act) (rest : List HeadId) : State :=
  s.modAct d a fun y => { y with rdecQueue := rest, rdecBusy := !rest.isEmpty }

/-- A decode of the recovery decoder that succeeds, once the decoder has turned (06 R192). -/
def State.reframed (s : State) (d : DieId) (h : HeadId) (l : Ladder) : State :=
  (if l.step != 5 then s.bump Obj.reframeCount (headInst d h) else s).endLadder d h l .recovered

/-- The decode in front is done, the decoder having turned (06 R190 steps 2, 3 and 5, R192). -/
def State.decoderDone (s : State) (d : DieId) (h : HeadId) (w : ReadAttempt) : State :=
  match ((s.die d).head h).ladders.find? Ladder.decoding with
  | none => s
  | some l =>
    let ok := w.parityOk && decide (w.iterations ≤ s.getN Obj.ldpcIterExt (dieInst d))
    let won := ok && w.crcOk && w.tagOk
    let s := if won && l.step != 5 then s.bump Obj.reframeCount (headInst d h) else s
    let r := s.ladderVerdict d h l w ok
    match r.2 with
    | none => r.1
    | some l => r.1.nextStep d h l

theorem State.decoderDone_won {u : State} {l : Ladder} (hl : ((u.die d).head h).ladders.find? Ladder.decoding = some l)
    (hp : w.parityOk = true) (hi : w.iterations ≤ u.getN Obj.ldpcIterExt (dieInst d)) (hc : w.crcOk = true)
    (ht : w.tagOk = true) : u.decoderDone d h w = u.reframed d h l := by
  unfold State.decoderDone
  simp only [hl, hp, hi, hc, ht, decide_true, Bool.and_true, Bool.true_and, State.ladderVerdict_won _ _ hc ht]
  rfl

theorem exec_recoveryDecodeDone_won {rest : List HeadId} {l : Ladder} (hd : s.fitted d = true)
    (hq : ((s.die d).act a).rdecQueue = h :: rest) (hl : ((s.die d).head h).ladders.find? Ladder.decoding = some l)
    (hp : w.parityOk = true) (hi : w.iterations ≤ s.getN Obj.ldpcIterExt (dieInst d)) (hc : w.crcOk = true)
    (ht : w.tagOk = true) : exec (.recoveryDecodeDone d a w) s = .next ((s.decoderTurns d a rest).reframed d h l) := by
  rw [exec_onDie (c := .recoveryDecodeDone d a w) (execRecoveryDecodeDone d a w s) rfl rfl hd, hq]
  have hhead : (((s.decoderTurns d a rest).die d).head h).ladders.find? Ladder.decoding = some l := by
    rw [State.decoderTurns, State.modAct_die_self, Die.head, Die.modAct_heads]
    exact hl
  refine congrArg Host.Outcome.next ?_
  have hdecode := State.decoderDone_won (u := s.decoderTurns d a rest) hhead hp hi hc ht
  exact hdecode

/-- R192, R200: a decode of the recovery decoder that succeeds. -/
theorem recoveryDecodeDone_runs {rest : List HeadId} {l : Ladder} (hd : s.fitted d = true)
    (hq : ((s.die d).act a).rdecQueue = h :: rest) (hl : ((s.die d).head h).ladders.find? Ladder.decoding = some l)
    (hp : w.parityOk = true) (hi : w.iterations ≤ s.getN Obj.ldpcIterExt (dieInst d)) (hc : w.crcOk = true)
    (ht : w.tagOk = true) : Runs (.recoveryDecodeDone d a w) s fun t =>
      ((t.die d).head h).results = (l.loc, .recovered, l.step) :: ((s.die d).head h).results ∧
      ((t.die d).act a).rdecQueue = rest ∧ (t.die d).data = (s.die d).data ∧
      (∀ g, g ≠ h → (t.die d).head g = (s.die d).head g) ∧ ∀ e, e ≠ d → t.die e = s.die e := by
  refine Runs.intro (exec_recoveryDecodeDone_won hd hq hl hp hi hc ht) ?_
  have hheads : ∀ g, ((s.decoderTurns d a rest).die d).head g = (s.die d).head g := fun g => by
    rw [State.decoderTurns, State.modAct_die_self, Die.head, Die.modAct_heads]
    rfl
  have hqueue : (((s.decoderTurns d a rest).die d).act a).rdecQueue = rest := by
    rw [State.decoderTurns, State.modAct_die_self, Die.modAct_act_self]
  have hkept : KeptBy Die.data d s (s.decoderTurns d a rest) := KeptBy.modAct fun _ _ _ => rfl
  generalize s.decoderTurns d a rest = u at hheads hqueue hkept ⊢
  have hstart : Reads d h u (if l.step != 5 then u.bump Obj.reframeCount (headInst d h) else u) ((u.die d).head h).captures :=
    Reads.ite (Reads.refl.bump (by decide) (headInst_lt d h)) Reads.refl
  obtain ⟨m, hm, hres⟩ := hstart.endLadder (l := l) (r := .recovered)
  have hm' : Reads d h u (u.reframed d h l) m := hm
  generalize u.reframed d h l = t at hm' ⊢
  obtain ⟨hothers, hdata, hA, hB, hdies⟩ := hm'.frame
  have hacts : (t.die d).act a = (u.die d).act a := by
    cases a
    · exact hA
    · exact hB
  refine ⟨?_, by rw [hacts, hqueue], hdata.trans hkept.self, fun g hg => (hothers g hg).trans (hheads g),
    fun e he => (hdies e he).trans (hkept.others e he)⟩
  rw [← hheads]
  exact (congrArg Captures.results hm'.captures).trans hres

end

/-- Settles O18: one sector's read, and the steps of the recovery ladder. -/
theorem sectorReadsAndLadder : Obligations.SectorReadsAndLadder := by
  unfold Obligations.SectorReadsAndLadder
  refine ⟨fun s d h loc w hd => ⟨fun hm => ?_, fun hm => sectorRead_runs hd hm⟩, fun s d h a w ws hd =>
    ⟨fun hn => exec_ladderStep_none ws hd hn, fun l hl hm => exec_ladderStep_barred ws hd hl hm,
      fun l hl hm hok hc ht => ?_, fun hq => exec_recoveryDecodeDone_none hd hq,
      fun rest l hq hl hp hi hc ht => recoveryDecodeDone_runs hd hq hl hp hi hc ht⟩⟩
  · rw [exec_onDie (c := .sectorRead d h loc w) (execSectorRead d h loc w s) rfl rfl hd, when_false _ hm]
  · obtain ⟨m, hm', hres⟩ := State.ladderRead_won (Reads.refl (s := s)) hok hc ht
    obtain ⟨hothers, hdata, -, -, hdies⟩ := hm'.frame
    exact Runs.intro (exec_ladderStep_one hd hl hm)
      ⟨(congrArg Captures.results hm'.captures).trans hres, hdata, hothers, hdies⟩

end Sys2Proof.Machine

/-! PROOFS. A sector's write: its start, its ends, preheat and the request for a slot (01 R44; 06 R195, R197; 07 R225). -/

namespace Sys2Proof.Machine

theorem Die.modHead_congr {x : Die} {h : HeadId} {f g : Head → Head} (hfg : f (x.head h) = g (x.head h)) :
    x.modHead h f = x.modHead h g := by
  rw [Die.modHead, Die.modHead, hfg]

theorem State.modHead_congr {s : State} {d : DieId} {h : HeadId} {f g : Head → Head}
    (hfg : f ((s.die d).head h) = g ((s.die d).head h)) : s.modHead d h f = s.modHead d h g := by
  rw [State.modHead, State.modHead, State.modDie, State.modDie, Die.modHead_congr hfg]

/-- A change of one head is known by the head it leaves. -/
theorem State.modHead_known (s : State) (d : DieId) (h : HeadId) (f : Head → Head) :
    s.modHead d h f = s.modHead d h fun _ => ((s.modHead d h f).die d).head h :=
  State.modHead_congr (by rw [State.modHead_die_self, Die.modHead_head_self])

section
variable {s : State} {d : DieId} {h : HeadId}

/-- The end of a sector's operation touches its head's results, and what an event touches (06 R189). -/
theorem State.chanResult_kept {α : Type} {f : Die → α} (hf : ∀ x o, f { x with obs := o } = f x) (loc : SectorLoc)
    (r : ChannelResult) (n : Nat) :
    KeptBy f d (s.modHead d h fun x => { x with results := (loc, r, n) :: x.results }) (s.chanResult d h loc r n) := by
  have hcount : ∀ (u : State) (p e : Nat), KeptBy f d u ((u.monitor d p 4096).count d e) := fun u p e =>
    (KeptBy.modDie fun x => hf x _).trans (KeptBy.reported hf (State.count_reported [] _ d e 1))
  cases r with
  | ok => exact KeptBy.bump.trans (hcount ..)
  | recovered => exact (KeptBy.bump.trans KeptBy.bump).trans (hcount ..)
  | unrecovered => exact KeptBy.bump
  | addressMismatch => exact KeptBy.bump
  | noSignal => exact KeptBy.refl
  | written => exact KeptBy.bump.trans (hcount ..)
  | abandoned => exact KeptBy.bump

/-- What the end of a sector's operation leaves of the heads, the medium and the other dies. -/
theorem State.chanResult_spec (s : State) (d : DieId) (h : HeadId) (loc : SectorLoc) (r : ChannelResult) (n : Nat) :
    let t := s.chanResult d h loc r n
    (t.die d).head h = { (s.die d).head h with results := (loc, r, n) :: ((s.die d).head h).results } ∧
    (∀ g, g ≠ h → (t.die d).head g = (s.die d).head g) ∧ (t.die d).data = (s.die d).data ∧
    ∀ e, e ≠ d → t.die e = s.die e := by
  have hkept : KeptBy (fun x => (x.head, x.data)) d _ (s.chanResult d h loc r n) := State.chanResult_kept (fun _ _ => rfl) loc r n
  have hhead : ∀ g, ((s.chanResult d h loc r n).die d).head g = _ := fun g => congrArg (fun p => p.1 g) hkept.self
  have hdata : ((s.chanResult d h loc r n).die d).data = _ := congrArg (fun p => p.2) hkept.self
  have hothers := hkept.others
  generalize s.chanResult d h loc r n = t at hhead hdata hothers
  refine ⟨?_, fun g hg => ?_, ?_, fun e he => ?_⟩
  · refine (hhead h).trans ?_
    dsimp only
    rw [State.modHead_die_self, Die.modHead_head_self]
  · refine (hhead g).trans ?_
    dsimp only
    rw [State.modHead_die_self, Die.modHead_head_ne _ _ _ _ hg]
  · rw [hdata, State.modHead_die_self]
    rfl
  · rw [hothers e he, State.modHead_die_ne _ _ _ _ _ he]

end

/-! ### The start of a sector -/

section
variable {s : State} {d : DieId} {h : HeadId} {j : WriteJob} {rest : List WriteJob} (ovs : BitVec 8)

/-- A sector that may not start waits again (06 R195, 07 R225). -/
def State.writeWaits (s : State) (d : DieId) (h : HeadId) (j : WriteJob) (rest : List WriteJob) : State :=
  s.modHead d h fun y => { y with lines := .park, requeue := j :: y.requeue, jobs := rest }

/-- The start of a sector once no grant needs revoking (01 R44). -/
def State.writeStarts (s : State) (d : DieId) (h : HeadId) (j : WriteJob) (rest : List WriteJob) (ovs : BitVec 8) : State :=
  if s.mayStart d h j.loc then s.driveData d h { j with fragment := 1 } rest ovs else s.writeWaits d h j rest

/-- A sector of the granted run not yet started, where the charges in force fit. -/
theorem exec_sectorWriteStart_of_waiting (hd : s.fitted d = true) (hj : ((s.die d).head h).jobs = j :: rest)
    (hs : j.started = false)
    (hfit : ∀ next, ((s.die d).head h).slotOf j.loc = some next → (s.die d).slotCharges next allHeads ≤ s.bEff d) :
    exec (.sectorWriteStart d h ovs) s = .next (s.writeStarts d h j rest ovs) := by
  have hwaits : (s.modHead d h fun x => { x with
      lines := .park, requeue := x.jobs.take 1 ++ x.requeue, jobs := x.jobs.drop 1 }) = s.writeWaits d h j rest :=
    State.modHead_congr (by simp [hj])
  rw [exec_onDie (c := .sectorWriteStart d h ovs) (execSectorWriteStart d h ovs s) rfl rfl hd]
  refine congrArg Host.Outcome.next ?_
  cases hslot : ((s.die d).head h).slotOf j.loc with
  | none => simp only [hj, hs, hslot, hwaits, State.writeStarts, List.drop_succ_cons, List.drop_zero, Bool.false_eq_true, if_false]
  | some next =>
    have hrevoke : s.revokeLoop d next 24 = s := if_pos (hfit next hslot)
    simp only [hj, hs, hslot, hrevoke, hwaits, State.writeStarts, List.drop_succ_cons, List.drop_zero, Bool.false_eq_true, if_false]

theorem State.mayStart_slot (h0 : s.mayStart d h j.loc = true) : (((s.die d).head h).slotOf j.loc).isSome = true := by
  simp only [State.mayStart, Bool.and_eq_true] at h0
  tauto

/-- What a start rests on (01 R44). -/
theorem State.mayStart_needs {loc : SectorLoc} (h0 : s.mayStart d h loc = true) :
    ((s.die d).head h).permit = true ∧ ((s.die d).head h).samFound = true ∧ (s.die d).data.pfail = none ∧
    (s.die d).hk.state ≠ .stopWrites ∧ (s.die d).hk.state ≠ .shutdown := by
  simp only [State.mayStart, Bool.and_eq_true, bne_iff_ne, Option.isNone_iff_eq_none] at h0
  tauto

theorem State.fineDelayOf_bounds (s : State) (d : DieId) (h : HeadId) (loc : SectorLoc) (n : Nat) (ovs : BitVec 8) :
    0 ≤ s.fineDelayOf d h loc n ovs ∧ s.fineDelayOf d h loc n ovs ≤ 2047 := by
  simp only [State.fineDelayOf]
  omega

/-- What the start of a sector leaves of its head (06 R195, R197). -/
theorem State.driveData_head (s : State) (d : DieId) (h : HeadId) (j : WriteJob) (rest : List WriteJob) (ovs : BitVec 8) :
    ((s.driveData d h j rest ovs).die d).head h = { (s.die d).head h with
      lines := .data, fineDelay := s.fineDelayOf d h j.loc j.fragment ovs, jobs := { j with started := true } :: rest } := by
  rw [State.driveData, State.modHead_die_self, Die.modHead_head_self]

/-- R44, R197: a sector that may start. -/
theorem sectorWriteStart_starts (hd : s.fitted d = true) (hj : ((s.die d).head h).jobs = j :: rest) (hs : j.started = false)
    {next : Bool} (hslot : ((s.die d).head h).slotOf j.loc = some next)
    (hfit : (s.die d).slotCharges next allHeads ≤ s.bEff d) (hm : s.mayStart d h j.loc = true) :
    Runs (.sectorWriteStart d h ovs) s fun t =>
      ((s.die d).head h).permit = true ∧ ((s.die d).head h).samFound = true ∧ (s.die d).data.pfail = none ∧
      (s.die d).hk.state ≠ .stopWrites ∧ (s.die d).hk.state ≠ .shutdown ∧ ((t.die d).head h).lines = .data ∧
      ((t.die d).head h).jobs = { j with started := true, fragment := 1 } :: rest ∧
      0 ≤ ((t.die d).head h).fineDelay ∧ ((t.die d).head h).fineDelay ≤ 2047 ∧
      t = s.modHead d h fun _ => (t.die d).head h := by
  have hexec := exec_sectorWriteStart_of_waiting ovs hd hj hs fun n hn =>
    (Option.some.inj (hslot.symm.trans hn)) ▸ hfit
  have hstart : s.writeStarts d h j rest ovs = s.driveData d h { j with fragment := 1 } rest ovs := if_pos hm
  rw [hstart] at hexec
  obtain ⟨hp, hsam, hpf, h1, h2⟩ := State.mayStart_needs hm
  have hhead := s.driveData_head d h { j with fragment := 1 } rest ovs
  obtain ⟨hlow, hhigh⟩ := s.fineDelayOf_bounds d h j.loc 1 ovs
  refine Runs.intro hexec ⟨hp, hsam, hpf, h1, h2, ?_, ?_, ?_, ?_, State.modHead_known ..⟩
  · rw [hhead]
  · rw [hhead]
  · rw [hhead]
    exact hlow
  · rw [hhead]
    exact hhigh

/-- R197: the second fragment of a sector. -/
theorem sectorWriteStart_continues (hd : s.fitted d = true) (hj : ((s.die d).head h).jobs = j :: rest) (hs : j.started = true)
    (hf : j.fragment = 2) (hl : ((s.die d).head h).lines ≠ .data) : Runs (.sectorWriteStart d h ovs) s fun t =>
      (s.mayContinue d h j = true → ((t.die d).head h).lines = .data ∧ ((t.die d).head h).jobs = j :: rest) ∧
      (s.mayContinue d h j = false → ((t.die d).head h).lines = .park ∧ ((t.die d).head h).jobs = [] ∧
        ((t.die d).head h).results = (j.loc, .abandoned, 0) :: ((s.die d).head h).results) ∧
      (t.die d).data = (s.die d).data := by
  have hexec := exec_onDie (c := .sectorWriteStart d h ovs) (execSectorWriteStart d h ovs s) rfl rfl hd
  simp only [hj, hs, hf, hl, ne_eq, not_false_eq_true, and_self, if_true] at hexec
  cases hm : s.mayContinue d h j with
  | true =>
    rw [hm, if_pos rfl] at hexec
    have hhead := s.driveData_head d h j rest ovs
    have hjob : ({ j with started := true } : WriteJob) = j := by
      cases j
      simp_all
    refine Runs.intro hexec ⟨fun _ => ⟨by rw [hhead], by rw [hhead, hjob]⟩, fun hn => absurd hn (by decide), ?_⟩
    rw [State.driveData, State.modHead_die_self]
    rfl
  | false =>
    rw [hm, if_neg (by decide)] at hexec
    obtain ⟨hhead, -, hdata, -⟩ := State.chanResult_spec (s.modHead d h fun x => { x with
      lines := .park, jobs := []
      requeue := { j with started := false, gateOff := false, fragment := 1 } :: rest ++ x.requeue }) d h j.loc .abandoned 0
    rw [State.modHead_die_self, Die.modHead_head_self] at hhead
    refine Runs.intro hexec ⟨fun hn => absurd hn (by decide), fun _ => ⟨?_, ?_, ?_⟩, ?_⟩
    · exact congrArg Head.lines hhead
    · exact congrArg Head.jobs hhead
    · exact congrArg Head.results hhead
    · exact hdata.trans (by rw [State.modHead_die_self]; rfl)

theorem exec_sectorWriteStart_of_running (hd : s.fitted d = true) (hj : ((s.die d).head h).jobs = j :: rest)
    (hs : j.started = true) (hf : j.fragment ≠ 2 ∨ ((s.die d).head h).lines = .data) :
    exec (.sectorWriteStart d h ovs) s = .next s := by
  rw [exec_onDie (c := .sectorWriteStart d h ovs) (execSectorWriteStart d h ovs s) rfl rfl hd]
  refine congrArg Host.Outcome.next ?_
  simp only [hj, hs, if_true]
  exact if_neg fun hn => hf.elim (fun h2 => h2 hn.1) hn.2

end

/-! ### The ends of a sector -/

section
variable {s : State} {d : DieId} {h : HeadId} {j : WriteJob} {rest : List WriteJob} (hd : s.fitted d = true)
include hd

theorem exec_sectorWriteEnd_of_idle (hj : ((s.die d).head h).jobs = []) :
    exec (.sectorWriteEnd d h) s = .next s ∧ exec (.sectorAbandon d h) s = .next s := by
  refine ⟨?_, ?_⟩
  · rw [exec_onDie (c := .sectorWriteEnd d h) (execSectorWriteEnd d h s) rfl rfl hd]
    simp only [hj]
  · rw [exec_onDie (c := .sectorAbandon d h) (execSectorAbandon d h s) rfl rfl hd]
    simp only [hj]

section
variable (hj : ((s.die d).head h).jobs = j :: rest) (hs : j.started = true)
include hj hs

/-- R182: the end of the first of two fragments. -/
theorem exec_sectorWriteEnd_of_fragment (hg : j.gateOff = false) (hl : ((s.die d).head h).lines = .data)
    (hsp : j.split = true) (hf : j.fragment = 1) : exec (.sectorWriteEnd d h) s = .next (s.modHead d h fun y =>
      { y with lines := .park, wrote := y.wrote ++ [j], jobs := { j with fragment := 2 } :: rest }) := by
  rw [exec_onDie (c := .sectorWriteEnd d h) (execSectorWriteEnd d h s) rfl rfl hd]
  simp only [hj, hs, hg, hl, hsp, hf, beq_self_eq_true, Bool.not_false, Bool.and_self, and_self, if_true, when]
  exact congrArg Host.Outcome.next (State.modHead_congr rfl)

/-- R182, R189: the end of a sector. -/
theorem sectorWriteEnd_runs (hg : j.gateOff = false) (hl : ((s.die d).head h).lines = .data)
    (hsp : j.split = false ∨ j.fragment ≠ 1) : Runs (.sectorWriteEnd d h) s fun t =>
      (t.die d).head h = { (s.die d).head h with
        lines := .park, wrote := ((s.die d).head h).wrote ++ [j], jobs := rest
        results := (j.loc, .written, 0) :: ((s.die d).head h).results } ∧
      (∀ g, g ≠ h → (t.die d).head g = (s.die d).head g) ∧ (t.die d).data = (s.die d).data ∧
      ∀ e, e ≠ d → t.die e = s.die e := by
  have hexec := exec_onDie (c := .sectorWriteEnd d h) (execSectorWriteEnd d h s) rfl rfl hd
  have hwhole : ¬ (j.split = true ∧ j.fragment = 1) := fun hn => hsp.elim (fun h0 => by simp [h0] at hn) fun h1 => h1 hn.2
  simp only [hj, hs, hg, hl, beq_self_eq_true, Bool.not_false, Bool.and_self, if_true, when, if_neg hwhole] at hexec
  obtain ⟨hhead, hothers, hdata, hdies⟩ := State.chanResult_spec (s.modHead d h fun x => { x with
    lines := .park, wrote := ((s.die d).head h).wrote ++ [j], jobs := rest }) d h j.loc .written 0
  rw [State.modHead_die_self, Die.modHead_head_self] at hhead
  refine Runs.intro hexec ⟨hhead, fun g hg => ?_, ?_, fun e he => ?_⟩
  · rw [hothers g hg, State.modHead_die_self, Die.modHead_head_ne _ _ _ _ hg]
  · rw [hdata, State.modHead_die_self]
    rfl
  · rw [hdies e he, State.modHead_die_ne _ _ _ _ _ he]

/-- R164: a sector whose gate went off. -/
theorem sectorAbandon_runs (hg : j.gateOff = true) : Runs (.sectorAbandon d h) s fun t =>
      (t.die d).head h = { (s.die d).head h with
        lines := .park, jobs := [], results := (j.loc, .abandoned, 0) :: ((s.die d).head h).results
        requeue := { j with started := false, gateOff := false, fragment := 1 } :: rest ++ ((s.die d).head h).requeue } ∧
      (∀ g, g ≠ h → (t.die d).head g = (s.die d).head g) ∧ (t.die d).data = (s.die d).data ∧
      ∀ e, e ≠ d → t.die e = s.die e := by
  have hexec := exec_onDie (c := .sectorAbandon d h) (execSectorAbandon d h s) rfl rfl hd
  simp only [hj, hs, hg, Bool.and_self, if_true, when, State.abandonJob] at hexec
  obtain ⟨hhead, hothers, hdata, hdies⟩ := State.chanResult_spec (s.modHead d h fun x => { x with
    lines := .park, jobs := []
    requeue := { j with started := false, gateOff := false, fragment := 1 } :: rest ++ x.requeue }) d h j.loc .abandoned 0
  rw [State.modHead_die_self, Die.modHead_head_self] at hhead
  refine Runs.intro hexec ⟨hhead, fun g hg => ?_, ?_, fun e he => ?_⟩
  · rw [hothers g hg, State.modHead_die_self, Die.modHead_head_ne _ _ _ _ hg]
  · rw [hdata, State.modHead_die_self]
    rfl
  · rw [hdies e he, State.modHead_die_ne _ _ _ _ _ he]

end

end

/-! ### Preheat and the request for a slot -/

section
variable {s : State} {d : DieId} {h : HeadId} (hd : s.fitted d = true)
include hd

/-- R214: PARK to HEAT ahead of a run. -/
theorem exec_assistPreheatStart_of_ready {j : WriteJob} {rest : List WriteJob} (hj : ((s.die d).head h).jobs = j :: rest)
    (hm : s.assistMode d = 1) (hp : s.preheatFrac d h (s.headRegion d h) ≠ 0) (hlead : 0 < s.get Obj.preheatLeadAu (dieInst d))
    (hl : ((s.die d).head h).lines = .park) (hs : j.started = false) (hslot : (((s.die d).head h).slotOf j.loc).isSome = true)
    (hw : ((s.die d).act h.act).wenMask.getLsbD (h.val % 12) = true) :
    exec (.assistPreheatStart d h) s = .next (s.modHead d h fun y => { y with lines := .heat }) := by
  rw [exec_onDie (c := .assistPreheatStart d h) (execAssistPreheatStart d h s) rfl rfl hd]
  refine congrArg Host.Outcome.next (when_true _ ?_)
  simp only [hj, hm, hp, hlead, hl, hs, hslot, hw, beq_self_eq_true, bne_iff_ne, ne_eq, not_false_eq_true, decide_true,
    Bool.and_self, Bool.not_false, Bool.true_or, Bool.and_true, Bool.true_and]

theorem exec_assistPreheatStart_of_other (hm : s.assistMode d ≠ 1) : exec (.assistPreheatStart d h) s = .next s := by
  rw [exec_onDie (c := .assistPreheatStart d h) (execAssistPreheatStart d h s) rfl rfl hd]
  exact congrArg Host.Outcome.next (when_false _ (by simp [hm]))

/-- A write job of a requested sector (07 R225). -/
def State.requestedJob (s : State) (d : DieId) (h : HeadId) (l : SectorLoc) : WriteJob where
  loc := l
  split := ((s.place d h l).map Placed.split).getD false
  fragment := 1
  started := false
  gateOff := false
  marked := false

/-- A head after a request: sectors that have no job yet get one. -/
def Head.requests (job : SectorLoc → WriteJob) (locs : List SectorLoc) (y : Head) : Head :=
  { y with
    request := some locs, jobs := y.jobs ++ (locs.filter fun l => !(y.jobs.any fun j => j.loc == l)).map job
    requeue := y.requeue.filter fun j => !(locs.contains j.loc) }

omit hd in
theorem Head.requests_covers {job : SectorLoc → WriteJob} (hjob : ∀ l, (job l).loc = l) {locs : List SectorLoc} (y : Head)
    {l : SectorLoc} (hl : l ∈ locs) : ∃ j ∈ (y.requests job locs).jobs, j.loc = l := by
  by_cases hold : ∃ j ∈ y.jobs, j.loc = l
  · obtain ⟨j, hj, heq⟩ := hold
    exact ⟨j, List.mem_append_left _ hj, heq⟩
  · have hnew : l ∈ locs.filter fun l => !(y.jobs.any fun j => j.loc == l) := by
      refine List.mem_filter.mpr ⟨hl, ?_⟩
      simpa using hold
    exact ⟨job l, List.mem_append_right _ (List.mem_map_of_mem hnew), hjob l⟩

/-- R225: a request for the next slot. -/
theorem assistRequest_runs {locs : List SectorLoc} (hl : ((s.die d).head h).live = true) (hne : locs ≠ [])
    (hplace : ∀ l ∈ locs, (s.place d h l).isSome = true) : Runs (.assistRequest d h locs) s fun t =>
      ((t.die d).head h).request = some locs ∧ (∀ l ∈ locs, ∃ j ∈ ((t.die d).head h).jobs, j.loc = l) ∧
      (∃ new, ((t.die d).head h).jobs = ((s.die d).head h).jobs ++ new ∧ ∀ j ∈ new, j.started = false ∧ j.fragment = 1) ∧
      t = s.modHead d h fun _ => (t.die d).head h := by
  have hexec := exec_onDie (c := .assistRequest d h locs) (execAssistRequest d h locs s) rfl rfl hd
  rw [when_true _ (by simpa [hl, hne] using hplace)] at hexec
  have hexec' : exec (.assistRequest d h locs) s = .next (s.modHead d h (Head.requests (s.requestedJob d h) locs)) := hexec
  refine Runs.intro hexec' ⟨?_, fun l hl => ?_, ?_, State.modHead_known ..⟩
  · rw [State.modHead_die_self, Die.modHead_head_self]
    rfl
  · rw [State.modHead_die_self, Die.modHead_head_self]
    exact Head.requests_covers (fun _ => rfl) _ hl
  · rw [State.modHead_die_self, Die.modHead_head_self]
    refine ⟨_, rfl, fun j hj => ?_⟩
    obtain ⟨l, -, rfl⟩ := List.mem_map.mp hj
    exact ⟨rfl, rfl⟩

theorem exec_assistRequest_of_gated (locs : List SectorLoc) (hl : ((s.die d).head h).live = false) :
    exec (.assistRequest d h locs) s = .next s := by
  rw [exec_onDie (c := .assistRequest d h locs) (execAssistRequest d h locs s) rfl rfl hd]
  exact congrArg Host.Outcome.next (when_false _ (by simp [hl]))

end

theorem State.writeStarts_of_barred {s : State} {d : DieId} {h : HeadId} {j : WriteJob} {rest : List WriteJob}
    {ovs : BitVec 8} (hm : s.mayStart d h j.loc = false) : s.writeStarts d h j rest ovs = s.writeWaits d h j rest :=
  if_neg (by simp [hm])

theorem State.mayStart_of_no_slot {s : State} {d : DieId} {h : HeadId} {loc : SectorLoc}
    (hslot : ((s.die d).head h).slotOf loc = none) : s.mayStart d h loc = false := by
  simp [State.mayStart, hslot]

/-- Settles O19: the start of a sector, its ends, preheat, and the request for the next slot. -/
theorem writePath : Obligations.WritePath := by
  unfold Obligations.WritePath
  refine ⟨fun s d h ovs j rest hd hj => ⟨fun hs hslot => ?_, fun hs next hslot hfit hm =>
      sectorWriteStart_starts ovs hd hj hs hslot hfit hm, fun hs next hslot hfit hm => ?_,
      fun hs hf hl => sectorWriteStart_continues ovs hd hj hs hf hl,
      fun hs hf => exec_sectorWriteStart_of_running ovs hd hj hs hf⟩,
    fun s d h locs hd => ⟨fun j rest hj hs hg hl hsp hf => exec_sectorWriteEnd_of_fragment hd hj hs hg hl hsp hf,
      fun j rest hj hs hg hl hsp => sectorWriteEnd_runs hd hj hs hg hl hsp,
      fun j rest hj hs hg => sectorAbandon_runs hd hj hs hg, fun hj => exec_sectorWriteEnd_of_idle hd hj,
      fun j rest hj hm hp hlead hl hs hslot hw => exec_assistPreheatStart_of_ready hd hj hm hp hlead hl hs hslot hw,
      fun hm => exec_assistPreheatStart_of_other hd hm, fun hl hne hplace => assistRequest_runs hd hl hne hplace,
      fun hl => exec_assistRequest_of_gated hd locs hl⟩⟩
  · have hexec := exec_sectorWriteStart_of_waiting ovs hd hj hs fun n hn => absurd (hslot.symm.trans hn) (by simp)
    rw [hexec, State.writeStarts_of_barred (State.mayStart_of_no_slot hslot)]
    rfl
  · have hexec := exec_sectorWriteStart_of_waiting ovs hd hj hs fun n hn => (Option.some.inj (hslot.symm.trans hn)) ▸ hfit
    rw [hexec, State.writeStarts_of_barred hm]
    rfl

end Sys2Proof.Machine

/-! PROOFS. The frames sent down to a preamplifier (06 R198, R202, R203; 07 R217, R218). -/

namespace Sys2Proof.Machine

/-- One frame of a type, a length and a parameter has gone down actuator a's link, with the next sequence number; the other
actuator, the medium and the other dies are as they were. -/
structure PclSent (d : DieId) (a : Act) (typ len param : Nat) (s t : State) : Prop where
  frame : ∃ ws crc, ws.length = len ∧
    t.out = .pcl d a (BitVec.ofNat 32 (pclHeader typ ((s.die d).act a).pclSeq.toNat len param)) ws crc :: s.out
  seq : ((t.die d).act a).pclSeq = ((s.die d).act a).pclSeq + 1
  other : (t.die d).act (Act.other a) = (s.die d).act (Act.other a)
  data : (t.die d).data = (s.die d).data
  others : ∀ e, e ≠ d → t.die e = s.die e

namespace PclSent
variable {d : DieId} {a : Act} {typ len param : Nat} {s t : State}

theorem sendPcl (words : List (BitVec 16)) (hlen : words.length = len) :
    PclSent d a typ len param s (s.sendPcl d a typ param words) := by
  subst hlen
  have hother := Act.other_ne a
  refine ⟨⟨words, _, rfl, rfl⟩, ?_, ?_, ?_, fun e he => ?_⟩
  · rw [State.sendPcl, State.emit_die, State.modAct_die_self, Die.modAct_act_self]
  · rw [State.sendPcl, State.emit_die, State.modAct_die_self, Die.modAct_act_ne _ _ _ _ hother]
  · rw [State.sendPcl, State.emit_die, State.modAct_die_self]
    cases a
    · rfl
    · rfl
  · rw [State.sendPcl, State.emit_die, State.modAct_die_ne _ _ _ _ _ he]

theorem modAct {f : Actuator → Actuator} (h : PclSent d a typ len param s t) (hf : ∀ y, (f y).pclSeq = y.pclSeq) :
    PclSent d a typ len param s (t.modAct d a f) := by
  refine ⟨h.frame, ?_, ?_, ?_, fun e he => ?_⟩
  · rw [State.modAct_die_self, Die.modAct_act_self, hf, h.seq]
  · rw [State.modAct_die_self, Die.modAct_act_ne _ _ _ _ (Act.other_ne a), h.other]
  · rw [← h.data, State.modAct_die_self]
    cases a
    · rfl
    · rfl
  · rw [State.modAct_die_ne _ _ _ _ _ he, h.others e he]

theorem foldl_modHead {f : HeadId → Head → Head} {l : List HeadId} (h : PclSent d a typ len param s t) :
    PclSent d a typ len param s (l.foldl (fun t h => t.modHead d h (f h)) t) := by
  obtain ⟨v, hv⟩ := State.foldl_modHead_setDie d f l t
  rw [hv]
  refine ⟨h.frame, ?_, ?_, ?_, fun e he => ?_⟩
  · rw [State.setDie_die_self, Die.act_heads, h.seq]
  · rw [State.setDie_die_self, Die.act_heads, h.other]
  · rw [State.setDie_die_self, ← h.data]
  · rw [State.setDie_die_ne _ _ _ _ he, h.others e he]

end PclSent

theorem headsOf_length (a : Act) : (headsOf a).length = 12 := by cases a <;> decide

section
variable {s : State} {d : DieId} {a : Act} (hd : s.fitted d = true)
include hd

section
variable (ho : ((s.die d).act a).pcl.open = false)
include ho

theorem exec_headModeSend_closed (write : Bool) : exec (.headModeSend d a write) s = .next s := by
  rw [exec_onDie (c := .headModeSend d a write) (execHeadModeSend d a write s) rfl rfl hd]
  exact congrArg Host.Outcome.next (when_false _ (by simp [ho]))

theorem exec_heaterSend_closed (mask : BitVec 12) : exec (.heaterSend d a mask) s = .next s := by
  rw [exec_onDie (c := .heaterSend d a mask) (execHeaterSend d a mask s) rfl rfl hd]
  exact congrArg Host.Outcome.next (when_false _ ho)

theorem exec_assistFrameSend_closed : exec (.assistFrameSend d a) s = .next s := by
  rw [exec_onDie (c := .assistFrameSend d a) (execAssistFrameSend d a s) rfl rfl hd]
  exact congrArg Host.Outcome.next (when_false _ (by simp [ho]))

theorem exec_writeLevelSend_closed : exec (.writeLevelSend d a) s = .next s := by
  rw [exec_onDie (c := .writeLevelSend d a) (execWriteLevelSend d a s) rfl rfl hd]
  exact congrArg Host.Outcome.next (if_neg (by simp [ho]))

theorem exec_preampRegWrite_closed (reg : BitVec 8) (words : List (BitVec 16)) :
    exec (.preampRegWrite d a reg words) s = .next s := by
  have hshut : s.sendOpen d a 6 reg.toNat words = s := if_neg (by simp [ho])
  rw [exec_onDie (c := .preampRegWrite d a reg words) (execPreampRegWrite d a reg words s) rfl rfl hd]
  refine congrArg Host.Outcome.next ?_
  unfold when
  split
  · exact hshut
  · rfl

theorem exec_preampRegRead_closed (reg : BitVec 8) : exec (.preampRegRead d a reg) s = .next s := by
  rw [exec_onDie (c := .preampRegRead d a reg) (execPreampRegRead d a reg s) rfl rfl hd]
  exact congrArg Host.Outcome.next (when_false _ ho)

end

theorem exec_assistFrameSend_off (hm : s.assistMode d = 0) : exec (.assistFrameSend d a) s = .next s := by
  rw [exec_onDie (c := .assistFrameSend d a) (execAssistFrameSend d a s) rfl rfl hd]
  exact congrArg Host.Outcome.next (when_false _ (by simp [hm]))

variable (ho : ((s.die d).act a).pcl.open = true)
include ho

/-- R198, R203: HEAD_MODE. -/
theorem headModeSend_runs (write : Bool)
    (hw : write = ((s.die d).act a).dirWrite ∨ ∀ h ∈ headsOf a, ((s.die d).head h).inProgress = false)
    (hr : write = false ∨ ∀ h ∈ headsOf a, ((s.die d).head h).offset = 0) : Runs (.headModeSend d a write) s fun t =>
      PclSent d a 2 2 (if write then 1 else 0) s t ∧ ((t.die d).act a).dirWrite = write ∧ (t.die d).heads = (s.die d).heads := by
  have hexec := exec_onDie (c := .headModeSend d a write) (execHeadModeSend d a write s) rfl rfl hd
  have hbusy : (write == ((s.die d).act a).dirWrite || !((headsOf a).any fun h => ((s.die d).head h).inProgress)) = true := by
    rcases hw with hw | hw
    · simp [hw]
    · have : ((headsOf a).any fun h => ((s.die d).head h).inProgress) = false := by simpa using hw
      simp [this]
  have hoffs : (!(write && (headsOf a).any fun h => ((s.die d).head h).offset != 0)) = true := by
    rcases hr with hr | hr
    · simp [hr]
    · have : ((headsOf a).any fun h => ((s.die d).head h).offset != 0) = false := by simpa using hr
      simp [this]
  rw [when_true _ (by rw [ho, hbusy, hoffs]; rfl)] at hexec
  refine Runs.intro hexec ⟨PclSent.modAct (PclSent.sendPcl _ rfl) ?_, ?_, ?_⟩
  · exact fun _ => rfl
  · rw [State.modAct_die_self, Die.modAct_act_self]
  · rw [State.modAct_die_self, Die.modAct_heads, State.sendPcl, State.emit_die, State.modAct_die_self, Die.modAct_heads]

/-- R203, R206: HEATER. -/
theorem heaterSend_runs (mask : BitVec 12) : Runs (.heaterSend d a mask) s (PclSent d a 3 12 0 s) := by
  have hexec := exec_onDie (c := .heaterSend d a mask) (execHeaterSend d a mask s) rfl rfl hd
  rw [when_true _ ho] at hexec
  exact Runs.intro hexec (PclSent.sendPcl _ (by rw [List.length_map, headsOf_length])).foldl_modHead

/-- R218: ASSIST. -/
theorem assistFrameSend_runs (hm : s.assistMode d ≠ 0) :
    Runs (.assistFrameSend d a) s (PclSent d a 4 24 (if s.assistMode d = 2 then 1 else 0) s) := by
  have hexec := exec_onDie (c := .assistFrameSend d a) (execAssistFrameSend d a s) rfl rfl hd
  rw [when_true _ (by simp [ho, hm])] at hexec
  refine Runs.intro hexec (PclSent.sendPcl _ ?_).foldl_modHead
  simp [List.length_flatMap, headsOf_length]

/-- R203: WRITE_LEVEL. -/
theorem writeLevelSend_runs : Runs (.writeLevelSend d a) s (PclSent d a 5 12 0 s) := by
  have hexec := (exec_onDie (c := .writeLevelSend d a) (execWriteLevelSend d a s) rfl rfl hd).trans
    (congrArg Host.Outcome.next (if_pos ho))
  exact Runs.intro hexec (PclSent.sendPcl _ (by rw [List.length_map, headsOf_length]))

/-- R203: a register write. -/
theorem preampRegWrite_runs (reg : BitVec 8) (words : List (BitVec 16)) (h1 : 1 ≤ words.length) (h64 : words.length ≤ 64) :
    Runs (.preampRegWrite d a reg words) s (PclSent d a 6 words.length reg.toNat s) := by
  have hexec := exec_onDie (c := .preampRegWrite d a reg words) (execPreampRegWrite d a reg words s) rfl rfl hd
  rw [when_true _ (by simp [h1, h64])] at hexec
  exact Runs.intro (hexec.trans (congrArg Host.Outcome.next (if_pos ho))) (PclSent.sendPcl _ rfl)

/-- R203: a register read. -/
theorem preampRegRead_runs (reg : BitVec 8) : Runs (.preampRegRead d a reg) s fun t =>
    PclSent d a 7 0 reg.toNat s t ∧ ((t.die d).act a).regRead = some reg := by
  have hexec := exec_onDie (c := .preampRegRead d a reg) (execPreampRegRead d a reg s) rfl rfl hd
  rw [when_true _ ho] at hexec
  refine Runs.intro hexec ⟨PclSent.modAct (PclSent.sendPcl _ rfl) ?_, ?_⟩
  · exact fun _ => rfl
  · rw [State.regReadSend, State.modAct_die_self, Die.modAct_act_self]

end

/-- R217: WRITE_CODE is held to MAX_CODE. -/
theorem State.assistWords_code (s : State) (d : DieId) (h : HeadId) :
    (s.assistWords d h).1.toNat % 1024 ≤ fieldU (s.assistBytes d h) 20 2 := by
  unfold State.assistWords
  dsimp only
  generalize s.writeCode d h (s.headRegion d h) = w
  generalize fieldU (s.assistBytes d h) 20 2 = m
  rw [BitVec.toNat_ofNat]
  omega

theorem PclSent.all {d : DieId} {a : Act} {typ len param : Nat} {s t : State} (h : PclSent d a typ len param s t) :
    (∃ ws crc, ws.length = len ∧
      t.out = .pcl d a (BitVec.ofNat 32 (pclHeader typ ((s.die d).act a).pclSeq.toNat len param)) ws crc :: s.out) ∧
    ((t.die d).act a).pclSeq = ((s.die d).act a).pclSeq + 1 ∧ (t.die d).act (Act.other a) = (s.die d).act (Act.other a) ∧
    (t.die d).data = (s.die d).data ∧ ∀ e, e ≠ d → t.die e = s.die e := ⟨h.frame, h.seq, h.other, h.data, h.others⟩

/-- Settles O20: the frames down an open link, none down a closed one, and WRITE_CODE held to MAX_CODE. -/
theorem preampFramesDown : Obligations.PreampFramesDown := by
  unfold Obligations.PreampFramesDown
  refine ⟨fun s d a write mask reg words hd => ⟨fun ho => ⟨exec_headModeSend_closed hd ho write, exec_heaterSend_closed hd ho mask,
      exec_assistFrameSend_closed hd ho, exec_writeLevelSend_closed hd ho, exec_preampRegWrite_closed hd ho reg words,
      exec_preampRegRead_closed hd ho reg⟩, fun ho => ⟨fun hw hr => ?_, ?_, fun hm => ?_, fun hm => exec_assistFrameSend_off hd hm,
      ?_, fun h1 h64 => ?_, ?_⟩⟩, State.assistWords_code⟩
  · exact (headModeSend_runs hd ho write hw hr).mono fun t ht => ⟨ht.1.all, ht.2⟩
  · exact (heaterSend_runs hd ho mask).mono fun t ht => ht.all
  · exact (assistFrameSend_runs hd ho hm).mono fun t ht => ht.all
  · exact (writeLevelSend_runs hd ho).mono fun t ht => ht.all
  · exact (preampRegWrite_runs hd ho reg words h1 h64).mono fun t ht => ht.all
  · exact (preampRegRead_runs hd ho reg).mono fun t ht => ⟨ht.1.all, ht.2⟩

end Sys2Proof.Machine

/-! PROOFS. What the operations on the medium, the calibrations and the links leave alone. -/

namespace Sys2Proof.Machine

namespace KeptBy
variable {α β : Type} {f : Die → α} {d : DieId} {s t : State}

/-- A change of an actuator that keeps what v shows of it. -/
theorem modAct_view {v : Actuator → β} {a b : Act} {g : Actuator → Actuator} (hg : ∀ y, v (g y) = v y) :
    KeptBy (fun x => v (x.act b)) d s (s.modAct d a g) := by
  refine ⟨?_, fun e he => State.modAct_die_ne _ _ _ _ _ he⟩
  by_cases hb : b = a
  · subst hb
    rw [State.modAct_die_self, Die.modAct_act_self, hg]
  · rw [State.modAct_die_self, Die.modAct_act_ne _ _ _ _ hb]

/-- A change of a head that keeps what v shows of it. -/
theorem modHead_head {v : Head → β} {h k : HeadId} {g : Head → Head} (hg : ∀ y, v (g y) = v y) :
    KeptBy (fun x => v (x.head k)) d s (s.modHead d h g) := by
  refine ⟨?_, fun e he => State.modHead_die_ne _ _ _ _ _ he⟩
  by_cases hb : k = h
  · subst hb
    rw [State.modHead_die_self, Die.modHead_head_self, hg]
  · rw [State.modHead_die_self, Die.modHead_head_ne _ _ _ _ hb]

/-! ### The medium -/

section
variable (hdata : ∀ x v, f { x with data := v } = f x)
include hdata

theorem modZone {z : Nat} {g : Zone → Zone} : KeptBy f d s (s.modZone d z g) := by
  unfold State.modZone State.putZone
  exact modData hdata

theorem applyItem {j : Nat} {i : JItem} : KeptBy f d s (s.applyItem d j i) := by
  unfold State.applyItem
  cases i with
  | zone z v => exact modZone hdata
  | seg n v => exact modData hdata
  | frame k v => exact modData hdata
  | bitmap w v => exact modData hdata

variable (hmem : ∀ x v, f { x with mem := v } = f x)
include hmem

theorem flushJournal : KeptBy f d s (s.flushJournal d) :=
  KeptBy.trans (modDie fun x => hmem x _) (modData hdata)

theorem journalFlags {asn : Nat} {flags : BitVec 8} {items : List JItem} : KeptBy f d s (s.journalFlags d asn flags items) :=
  KeptBy.trans (KeptBy.trans (ite (flushJournal hdata hmem) refl) (modData hdata)) (foldl (fun _ _ => applyItem hdata) _ _)

theorem journal {asn : Nat} {items : List JItem} : KeptBy f d s (s.journal d asn items) :=
  ite refl (journalFlags hdata hmem)

variable (hobs : ∀ x o, f { x with obs := o } = f x)
include hobs

theorem makeReadOnly {z : Nat} : KeptBy f d s (s.makeReadOnly d z) :=
  ((journal hdata hmem).trans (modZone hdata)).trans (raise hobs (.inl (by decide)))

omit hmem in
theorem poolCheck {a : Act} : KeptBy f d s (s.poolCheck d a) :=
  ite (ite ((modData hdata).trans (raise hobs (.inl (by decide)))) refl) (ite (modData hdata) refl)

theorem writeFailed {h : HeadId} : KeptBy f d s (s.writeFailed d h) :=
  ite refl ((((put.trans (journal hdata hmem)).trans (foldl (fun _ _ => makeReadOnly hdata hmem hobs) _ _)).trans
    (poolCheck hdata hobs)).trans (poolCheck hdata hobs))

end

end KeptBy

/-! ### Calibrations, actuators and links -/

/-- A key lies above those of an entry with a smaller name, whatever their places (14 R431). -/
theorem objKey_below {i i' s s' n n' : Nat} (h : i * 256 + s < i' * 256 + s') (hn : n < 256) :
    objKey i s n ≠ objKey i' s' n' := by
  simp only [objKey]
  omega

namespace StepFrame
variable {α : Type} {f : Die → α} {os : List ObjDef} {d : DieId} {s t u : State}

theorem put {o : ObjDef} {i : Nat} {v : Int} (ho : ∀ p ∈ os, p.name ≠ o.name) (hi : i < 256) :
    StepFrame f os d s (s.put o i v) :=
  ⟨KeptBy.put, State.putSub_host .., State.putSub_rest .., fun p hp => State.put_get_ne s (ho p hp) hi (dieInst_lt d)⟩

theorem calReport {i kind code seq revs : Nat} {v w : BitVec 64} (ho : ∀ p ∈ os, p.name < Obj.calResult.name) :
    StepFrame f os d s (s.calReport i kind code seq revs v w) :=
  ⟨KeptBy.calReport, State.putSub_host .., State.putSub_rest ..,
    fun p hp => State.putSub_get_ne _ (objKey_below (ho p hp) (dieInst_lt d))⟩

theorem actResult {a : Act} {v : Int} (ho : ∀ p ∈ os, p.name ≠ Obj.actResult.name) : StepFrame f os d s (s.actResult d a v) :=
  put ho (actInst_lt d a)

theorem calEnd {i code seq : Nat} (hf : ∀ x runs failed hold v, f { x with
      calRuns := runs, calFailed := failed, holdupTest := hold, data := { x.data with vEnd := v } } = f x)
    (ho : ∀ p ∈ os, p.name < Obj.calResult.name) : StepFrame f os d s (s.calEnd d i code seq) := by
  unfold State.calEnd
  split
  · exact refl
  · refine StepFrame.trans (StepFrame.trans ?_ (calReport ho)) (modDie fun x => ?_)
    · split
      · exact foldl (fun _ _ => calReport ho) _ _
      · exact refl
    · split
      · exact hf x _ _ _ _
      · exact hf x _ _ _ x.data.vEnd

theorem calAbortIf {p : Nat → CalRun → Bool} (hf : ∀ x runs failed hold v, f { x with
      calRuns := runs, calFailed := failed, holdupTest := hold, data := { x.data with vEnd := v } } = f x)
    (ho : ∀ p ∈ os, p.name < Obj.calResult.name) : StepFrame f os d s (s.calAbortIf d p) := foldl (fun _ _ => calEnd hf ho) _ _

end StepFrame

end Sys2Proof.Machine

/-! PROOFS. The reports of a preamplifier and the states of its link (06 R204, R207, R208; 07 R228). -/

namespace Sys2Proof.Machine

/-! ### What a link's operations leave alone -/

/-- A link reset, up to what follows it: the pairs parked, the link started again (06 R207). -/
def State.linkCleared (s : State) (d : DieId) (a : Act) (n : Nat) : State :=
  ((headsOf a).foldl (fun s h => s.modHead d h Head.gateOff) (s.bump Obj.pclResetCount (actInst d a))).modAct d a fun y =>
    { y with
      pcl := .init, pclErrRun := 0, pclOkRun := 0, pclResets := n, pclResetRev := (s.die d).clock.rev, resetSeen := true
      pclIdOk := false, pclSent := [], regRead := none, dirWrite := false, wenMask := 0, liveMask := 0, upFault := false }

/-- The resets of the link within the present revolution (06 R207). -/
def Die.resetsNow (x : Die) (a : Act) : Nat :=
  if (x.act a).pclResetRev = x.clock.rev then (x.act a).pclResets + 1 else 1

theorem State.pclReset_eq (s : State) (d : DieId) (a : Act) : s.pclReset d a =
    let n := (s.die d).resetsNow a
    let u := s.linkCleared d a n
    if 3 ≤ n then ((u.pclFault d a).unloadCommand d a).raiseAct d a Ev.preampFault
    else ((u.sendPcl d a 15 0 []).regReadSend d a 0).calRecheck d := rfl

/-- A step of a preamplifier link: only die d differs, and the host's side and the assist mode are as they were. -/
def LinkStep (d : DieId) (s t : State) : Prop := StepFrame (fun _ => ()) [Obj.assistMode] d s t

namespace LinkStep
variable {d : DieId} {s t u : State} {a : Act}

theorem refl : LinkStep d s s := StepFrame.refl

theorem trans (h : LinkStep d s t) (k : LinkStep d t u) : LinkStep d s u := StepFrame.trans h k

theorem ite {c : Prop} [Decidable c] (h : LinkStep d s t) (k : LinkStep d s u) : LinkStep d s (if c then t else u) :=
  StepFrame.ite h k

theorem foldl {β : Type} {g : State → β → State} (h : ∀ s x, LinkStep d s (g s x)) (l : List β) (s : State) :
    LinkStep d s (l.foldl g s) := StepFrame.foldl h l s

theorem modDie {g : Die → Die} : LinkStep d s (s.modDie d g) := StepFrame.modDie fun _ => rfl

theorem modHead {h : HeadId} {g : Head → Head} : LinkStep d s (s.modHead d h g) := modDie

theorem modAct {g : Actuator → Actuator} : LinkStep d s (s.modAct d a g) := modDie

theorem sendPcl {typ param : Nat} {words : List (BitVec 16)} : LinkStep d s (s.sendPcl d a typ param words) :=
  trans modAct StepFrame.emit

theorem sendVcm {typ : BitVec 2} {cmd : Int} : LinkStep d s (s.sendVcm d a typ cmd) := trans modAct StepFrame.emit

theorem raised {t : State} (h : Reported [] d s t) : LinkStep d s t := StepFrame.reported (fun _ _ => rfl) (by decide) h

theorem raiseAct {k : EventKind} {data : List (Nat × Int)} : LinkStep d s (s.raiseAct d a k data) :=
  raised (State.raiseAct_reported [] s d a k data)

theorem bump {o : ObjDef} {i k : Nat} (ho : Obj.assistMode.name ≠ o.name) (hi : i < 256) : LinkStep d s (s.bump o i k) :=
  StepFrame.bump (by simpa using ho) hi

theorem put {o : ObjDef} {i : Nat} {v : Int} (ho : Obj.assistMode.name ≠ o.name) (hi : i < 256) : LinkStep d s (s.put o i v) :=
  StepFrame.put (by simpa using ho) hi

theorem calAbortIf {p : Nat → CalRun → Bool} : LinkStep d s (s.calAbortIf d p) :=
  StepFrame.calAbortIf (fun _ _ _ _ _ => rfl) (by decide)

theorem calRecheck : LinkStep d s (s.calRecheck d) := StepFrame.calRecheck fun _ _ => rfl

theorem mark {e : VerifyEntry} : LinkStep d s (s.mark d e) :=
  StepFrame.mark (fun _ _ _ _ => rfl) (fun _ _ => rfl) (fun _ _ => rfl) (by decide)

theorem actResult {v : Int} : LinkStep d s (s.actResult d a v) := put (by decide) (actInst_lt d a)

theorem unloadPends : LinkStep d s (s.unloadPends d a) := trans modAct actResult

theorem unloadCommand : LinkStep d s (s.unloadCommand d a) := by
  rw [State.unloadCommand_eq]
  have hrest : LinkStep d s (s.actResult d a 0) := put (by decide) (actInst_lt d a)
  have hunload : LinkStep d s (((s.calAbortIf d (calOfAct a)).unloadStart d a).unloadPends d a) :=
    trans (trans calAbortIf (trans (foldl (fun _ _ => modHead) _ _) modAct)) unloadPends
  have hretract : LinkStep d s (((s.calAbortIf d (calOfAct a)).retract d a .unload).unloadPends d a) :=
    trans (trans calAbortIf (trans modAct sendVcm)) unloadPends
  split
  · exact hrest
  · exact hrest
  · exact hunload
  · exact hunload
  · exact hunload
  · exact hretract
  · exact hretract
  · exact unloadPends
  · exact unloadPends

theorem regReadSend {r : BitVec 8} : LinkStep d s (s.regReadSend d a r) := trans sendPcl modAct

theorem pclFault : LinkStep d s (s.pclFault d a) := trans (trans modAct calAbortIf) calRecheck

theorem linkCleared {n : Nat} : LinkStep d s (s.linkCleared d a n) :=
  trans (trans (bump (o := Obj.pclResetCount) (by decide) (actInst_lt d a)) (foldl (fun _ _ => modHead) _ _)) modAct

theorem pclReset : LinkStep d s (s.pclReset d a) := by
  rw [State.pclReset_eq]
  exact trans linkCleared (ite (trans (trans pclFault unloadCommand) raiseAct) (trans (trans sendPcl regReadSend) calRecheck))

theorem pclError : LinkStep d s (s.pclError d a) := trans modAct (ite (trans raiseAct pclReset) refl)

theorem upstream {param : BitVec 8} : LinkStep d s (s.upstream d a param) := by
  unfold State.upstream
  dsimp only
  refine trans modAct (ite modAct ?_)
  exact trans (trans (trans (trans (bump (o := Obj.pclNakCount) (by decide) (actInst_lt d a)) modAct) (ite modAct refl))
    (foldl (fun _ _ => sendPcl) _ _)) pclError

theorem unmonitored : LinkStep d s (s.unmonitored d a) :=
  ite (foldl (fun _ _ => modHead) _ _) (foldl (fun _ _ => ite refl
    (((bump (by decide) (headInst_lt d _)).trans (foldl (fun _ _ => mark) _ _)).trans modHead)) _ _)

theorem assistMode (h : LinkStep d s t) : t.assistMode d = s.assistMode d :=
  congrArg Int.toNat (StepFrame.objs h Obj.assistMode (by simp))

end LinkStep

/-! ### A link reset -/

/-- What the link's reset has to say of the actuator beside its frames. -/
def Actuator.link (y : Actuator) : PclState × Bool × Bool × Nat × Bool := (y.pcl, y.preampFault, y.crcErr, y.pclOkRun, y.pclIdOk)

theorem Actuator.link_eq {y : Actuator} {p : PclState} {f c i : Bool} {n : Nat} (h : y.link = (p, f, c, n, i)) :
    y.pcl = p ∧ y.preampFault = f ∧ y.crcErr = c ∧ y.pclOkRun = n ∧ y.pclIdOk = i := by
  simpa [Actuator.link] using h

section
variable {s : State} {d : DieId} {a : Act}

theorem State.unloadCommand_link (s : State) (d : DieId) (a : Act) :
    (((s.unloadCommand d a).die d).act a).link = ((s.die d).act a).link := by
  have haborted : (((s.calAbortIf d (calOfAct a)).die d).act a) = (s.die d).act a := (s.calAborted_arms d _).act a
  have hpend : ∀ u : State, (((u.unloadPends d a).die d).act a).link = ((u.die d).act a).link := fun u => by
    rw [State.unloadPends_act, if_pos rfl]
    rfl
  have hunload : ((((s.calAbortIf d (calOfAct a)).unloadStart d a).die d).act a).link = ((s.die d).act a).link := by
    rw [← haborted]
    generalize s.calAbortIf d (calOfAct a) = u
    have hheads : KeptBy Die.act d u ((headsOf a).foldl (fun s h => s.modHead d h fun x => { x with target := 0 }) u) :=
      KeptBy.foldl (fun _ _ => KeptBy.modHead Die.act_heads) _ _
    rw [State.unloadStart, State.modAct_die_self, Die.modAct_act_self, hheads.self]
    rfl
  have hretract : ((((s.calAbortIf d (calOfAct a)).retract d a .unload).die d).act a).link = ((s.die d).act a).link := by
    obtain ⟨seq, cmd, hact⟩ := (s.calAbortIf d (calOfAct a)).retract_exact d a .unload
    rw [hact, haborted]
    rfl
  rw [State.unloadCommand_eq]
  split
  · rw [State.actResult_die]
  · rw [State.actResult_die]
  · rw [hpend, hunload]
  · rw [hpend, hunload]
  · rw [hpend, hunload]
  · rw [hpend, hretract]
  · rw [hpend, hretract]
  · exact hpend s
  · exact hpend s

theorem State.unloadCommand_onDisk (h : ((s.die d).act a).onDisk = true) :
    (((s.unloadCommand d a).die d).act a).state = .unloading := by
  obtain ⟨hstate, -⟩ := (s.calAbortIf d (calOfAct a)).unloadStart_spec d a
  have hpend : ((((s.calAbortIf d (calOfAct a)).unloadStart d a).unloadPends d a).die d).act a = _ := State.unloadPends_act ..
  rw [if_pos rfl] at hpend
  rw [State.unloadCommand_eq]
  rcases Actuator.onDisk_iff.mp h with h | h | h
  · rw [h, hpend]
    exact hstate
  · rw [h, hpend]
    exact hstate
  · rw [h, hpend]
    exact hstate

/-- FAULT of a link (06 R207). -/
theorem State.pclFault_act (s : State) (d : DieId) (a : Act) :
    ((s.pclFault d a).die d).act a = { (s.die d).act a with pcl := .fault, preampFault := true } := by
  have harms : ∀ u : State, KeptBy Die.arms d u ((u.calAbortIf d (calOfAct a)).calRecheck d) := fun u =>
    (KeptBy.calAbortIf fun _ _ _ _ _ => rfl).trans (KeptBy.calRecheck fun _ _ => rfl)
  rw [State.pclFault, (harms _).arms.act, State.modAct_die_self, Die.modAct_act_self]

theorem State.linkCleared_spec (s : State) (d : DieId) (a : Act) (n : Nat) :
    ((s.linkCleared d a n).die d).act a = { (s.die d).act a with
      pcl := .init, pclErrRun := 0, pclOkRun := 0, pclResets := n, pclResetRev := (s.die d).clock.rev, resetSeen := true
      pclIdOk := false, pclSent := [], regRead := none, dirWrite := false, wenMask := 0, liveMask := 0, upFault := false } ∧
    ∀ h, h.act = a → (((s.linkCleared d a n).die d).head h).lines = .park := by
  have hheads := State.foldl_modHead_head d Head.gateOff_gateOff (headsOf a) (s.bump Obj.pclResetCount (actInst d a))
  have hacts : KeptBy Die.act d (s.bump Obj.pclResetCount (actInst d a))
      ((headsOf a).foldl (fun s h => s.modHead d h Head.gateOff) (s.bump Obj.pclResetCount (actInst d a))) :=
    KeptBy.foldl (fun _ _ => KeptBy.modHead Die.act_heads) _ _
  refine ⟨?_, fun h hh => ?_⟩
  · rw [State.linkCleared, State.modAct_die_self, Die.modAct_act_self, hacts.self, State.bump_die]
  · rw [State.linkCleared, State.modAct_die_self, Die.head, Die.modAct_heads]
    exact congrArg Head.lines ((hheads h).trans (if_pos (by simpa using hh)))

/-- R207: a reset that starts the link again. -/
theorem State.pclReset_starts (hn : (s.die d).resetsNow a < 3) :
    let z := ((s.pclReset d a).die d).act a
    z.link = (.init, ((s.die d).act a).preampFault, ((s.die d).act a).crcErr, 0, false) ∧ z.regRead = some 0 ∧ z.wenMask = 0 ∧
    z.liveMask = 0 ∧ z.dirWrite = false ∧ z.resetSeen = true ∧
    ∀ h, h.act = a → (((s.pclReset d a).die d).head h).lines = .park := by
  have heq : s.pclReset d a = (((s.linkCleared d a ((s.die d).resetsNow a)).sendPcl d a 15 0 []).regReadSend d a 0).calRecheck d :=
    (s.pclReset_eq d a).trans (if_neg (by omega))
  obtain ⟨hact, hheads⟩ := s.linkCleared_spec d a ((s.die d).resetsNow a)
  rw [heq]
  generalize s.linkCleared d a ((s.die d).resetsNow a) = u at hact hheads ⊢
  have hsent : ∃ seq sent, (((((u.sendPcl d a 15 0 []).regReadSend d a 0).calRecheck d).die d).act a) =
      { (u.die d).act a with pclSeq := seq, pclSent := sent, regRead := some 0 } := by
    have hkept : ∀ v : State, KeptBy Die.arms d v (v.calRecheck d) := fun v => KeptBy.calRecheck fun _ _ => rfl
    rw [(hkept _).arms.act]
    simp only [State.regReadSend, State.sendPcl, State.emit_die, State.modAct_die_self, Die.modAct_act_self]
    exact ⟨_, _, rfl⟩
  have hkept : KeptBy Die.heads d u (((u.sendPcl d a 15 0 []).regReadSend d a 0).calRecheck d) :=
    (((KeptBy.modAct fun _ _ _ => rfl).trans KeptBy.emit).trans (((KeptBy.modAct fun _ _ _ => rfl).trans KeptBy.emit).trans
      (KeptBy.modAct fun _ _ _ => rfl))).trans (KeptBy.calRecheck fun _ _ => rfl)
  generalize ((u.sendPcl d a 15 0 []).regReadSend d a 0).calRecheck d = t at hsent hkept ⊢
  obtain ⟨seq, sent, hz⟩ := hsent
  rw [hact] at hz
  dsimp only
  refine ⟨by rw [hz]; rfl, by rw [hz], by rw [hz], by rw [hz], by rw [hz], by rw [hz], fun h hh => ?_⟩
  rw [← hheads h hh]
  exact congrArg (fun v : Vector Head 24 => v[h].lines) hkept.self

/-- R207: the third reset within a revolution faults the link. -/
theorem State.pclReset_faults (hn : 3 ≤ (s.die d).resetsNow a) :
    let z := ((s.pclReset d a).die d).act a
    z.link = (.fault, true, ((s.die d).act a).crcErr, 0, false) ∧ (((s.die d).act a).onDisk = true → z.state = .unloading) := by
  have heq : s.pclReset d a = (((s.linkCleared d a ((s.die d).resetsNow a)).pclFault d a).unloadCommand d a).raiseAct d a
      Ev.preampFault := (s.pclReset_eq d a).trans (if_pos hn)
  obtain ⟨hact, -⟩ := s.linkCleared_spec d a ((s.die d).resetsNow a)
  rw [heq]
  generalize s.linkCleared d a ((s.die d).resetsNow a) = u at hact ⊢
  have hfault := u.pclFault_act d a
  generalize u.pclFault d a = v at hfault ⊢
  have hlink := v.unloadCommand_link d a
  have hunload := State.unloadCommand_onDisk (s := v) (d := d) (a := a)
  generalize v.unloadCommand d a = w at hlink hunload ⊢
  have hrep := w.raiseAct_reported [] d a Ev.preampFault []
  rw [hact] at hfault
  dsimp only
  rw [hrep.act]
  refine ⟨?_, fun hdisk => hunload ?_⟩
  · rw [hlink, hfault]
    rfl
  · rw [hfault]
    exact hdisk

end

/-! ### Reports -/

section
variable {s : State} {d : DieId} {a : Act} (hd : s.fitted d = true)
include hd

theorem onReport_closed {f : State → State} (ho : ((s.die d).act a).pcl.open = false) : onReport d a s f = .next s := by
  rw [onReport, onDie_fitted _ hd]
  exact congrArg Host.Outcome.next (when_false _ ho)

theorem onReport_open {f : State → State} (ho : ((s.die d).act a).pcl.open = true) : onReport d a s f = .next (f s) := by
  rw [onReport, onDie_fitted _ hd]
  exact congrArg Host.Outcome.next (when_true _ ho)

end

section
variable {s : State} {d : DieId} {a : Act}

/-- A head that has reported an open or a short does not write (06 R208; 09 R281). -/
def State.openShort (s : State) (d : DieId) (h : HeadId) : State :=
  let again := ((s.die d).head h).openShortSeen
  let s := s.modHead d h fun x => { x with noWrite := true }
  if again then s.writeFailed d h else s

theorem State.openShort_noWrite (s : State) (d : DieId) (h k : HeadId) :
    (((s.openShort d h).die d).head k).noWrite = (decide (k = h) || ((s.die d).head k).noWrite) := by
  have hfailed : ∀ u : State, KeptBy Die.heads d u (u.writeFailed d h) := fun u =>
    KeptBy.writeFailed (fun _ _ => rfl) (fun _ _ => rfl) fun _ _ => rfl
  have hmarked : (((s.modHead d h fun x => { x with noWrite := true }).die d).head k).noWrite =
      (decide (k = h) || ((s.die d).head k).noWrite) := by
    rw [State.modHead_die_self]
    by_cases hk : k = h
    · subst hk
      rw [Die.modHead_head_self]
      simp
    · rw [Die.modHead_head_ne _ _ _ _ hk]
      simp [hk]
  rw [← hmarked]
  unfold State.openShort
  dsimp only
  generalize s.modHead d h (fun x => { x with noWrite := true }) = u
  split
  · exact congrArg (fun v : Vector Head 24 => v[k].noWrite) (hfailed u).self
  · rfl

theorem State.foldl_openShort_noWrite (d : DieId) (l : List HeadId) (s : State) (k : HeadId)
    (h : k ∈ l ∨ ((s.die d).head k).noWrite = true) :
    (((l.foldl (fun s h => s.openShort d h) s).die d).head k).noWrite = true := by
  induction l generalizing s with
  | nil => simpa using h
  | cons j l ih =>
    refine ih (s.openShort d j) ?_
    rw [State.openShort_noWrite]
    rcases h with h | h
    · rcases List.mem_cons.mp h with rfl | h
      · simp
      · exact .inl h
    · simp [h]

/-- What a status report leaves, its frame taken (06 R204, R208). -/
def State.statusTaken (s : State) (d : DieId) (a : Act) (w0 w1 : BitVec 16) (old v : Int) : State :=
  let hs := if w0.getLsbD 0 || w0.getLsbD 1 then (headsOf a).filter fun h => w1.getLsbD (h.val % 12) else []
  let s := (hs.foldl (fun s h => s.openShort d h) (s.put Obj.preampStatus (actInst d a) v)).modAct d a fun y =>
    { y with writeStop := w0.getLsbD 4 || w0.getLsbD 5 }
  if w0 = 0 then s
  else
    let s := s.modAct d a fun y => { y with preampFault := true }
    if v = old then s else s.raiseAct d a Ev.preampFault [(2, (w0.toNat : Int))]

theorem exec_preampStatusReport (hd : s.fitted d = true) (ho : ((s.die d).act a).pcl.open = true) (param : BitVec 8)
    (w0 w1 : BitVec 16) : exec (.preampStatusReport d a param w0 w1) s = .next ((s.upstream d a param).statusTaken d a w0 w1
      (s.get Obj.preampStatus (actInst d a)) ((w1 ++ w0 : BitVec 32).toNat : Int)) := onReport_open hd ho

theorem State.statusTaken_spec (s : State) (d : DieId) (a : Act) (w0 w1 : BitVec 16) (old v : Int) :
    let t := s.statusTaken d a w0 w1 old v
    ((t.die d).act a).writeStop = (w0.getLsbD 4 || w0.getLsbD 5) ∧ (w0 ≠ 0 → ((t.die d).act a).preampFault = true) ∧
    ∀ h, h.act = a → (w0.getLsbD 0 || w0.getLsbD 1) = true → w1.getLsbD (h.val % 12) = true →
      ((t.die d).head h).noWrite = true := by
  have hnoted : ∀ h, h.act = a → (w0.getLsbD 0 || w0.getLsbD 1) = true → w1.getLsbD (h.val % 12) = true →
      ((((if w0.getLsbD 0 || w0.getLsbD 1 then (headsOf a).filter fun h => w1.getLsbD (h.val % 12) else []).foldl
        (fun s h => s.openShort d h) (s.put Obj.preampStatus (actInst d a) v)).die d).head h).noWrite = true := by
    intro h hh hbad hw
    refine State.foldl_openShort_noWrite d _ _ h (.inl ?_)
    rw [if_pos hbad]
    exact List.mem_filter.mpr ⟨mem_headsOf.mpr hh, hw⟩
  unfold State.statusTaken
  dsimp only
  generalize (if w0.getLsbD 0 || w0.getLsbD 1 then (headsOf a).filter fun h => w1.getLsbD (h.val % 12) else []).foldl
    (fun s h => s.openShort d h) (s.put Obj.preampStatus (actInst d a) v) = u at hnoted ⊢
  have hact : ∀ f : Actuator → Actuator, ((u.modAct d a f).die d).act a = f ((u.die d).act a) := fun f => by
    rw [State.modAct_die_self, Die.modAct_act_self]
  have hheads : ∀ (f : Actuator → Actuator) (w : State) h, ((w.modAct d a f).die d).head h = (w.die d).head h := fun f w h => by
    rw [State.modAct_die_self, Die.head, Die.modAct_heads]
    rfl
  by_cases h0 : w0 = 0
  · rw [if_pos h0, hact]
    refine ⟨rfl, fun hne => absurd h0 hne, fun h hh hbad hw => ?_⟩
    rw [hheads]
    exact hnoted h hh hbad hw
  · rw [if_neg h0]
    have hstop := hact fun y => { y with writeStop := w0.getLsbD 4 || w0.getLsbD 5 }
    have hhead := hheads (fun y => { y with writeStop := w0.getLsbD 4 || w0.getLsbD 5 }) u
    generalize u.modAct d a (fun y => { y with writeStop := w0.getLsbD 4 || w0.getLsbD 5 }) = v' at hstop hhead ⊢
    have hfault : ((v'.modAct d a fun y => { y with preampFault := true }).die d).act a =
        { (v'.die d).act a with preampFault := true } := by
      rw [State.modAct_die_self, Die.modAct_act_self]
    have hhead' := hheads (fun y => { y with preampFault := true }) v'
    generalize v'.modAct d a (fun y => { y with preampFault := true }) = w at hfault hhead' ⊢
    have hrep : Reported [] d w (if v = old then w else w.raiseAct d a Ev.preampFault [(2, (w0.toNat : Int))]) := by
      split
      · exact Reported.refl ..
      · exact State.raiseAct_reported ..
    generalize (if v = old then w else w.raiseAct d a Ev.preampFault [(2, (w0.toNat : Int))]) = t at hrep ⊢
    rw [hrep.act, hfault, hstop]
    refine ⟨rfl, fun _ => rfl, fun h hh hbad hw => ?_⟩
    rw [hrep.head, hhead', hhead]
    exact hnoted h hh hbad hw

/-- R204: a temperature report. -/
theorem preampTempReport_runs (hd : s.fitted d = true) (ho : ((s.die d).act a).pcl.open = true) (param : BitVec 8)
    (words : List (BitVec 16)) : Runs (.preampTempReport d a param words) s fun t =>
      ((t.die d).act a).preampTemp = (words.getD 0 0).toInt ∧
      (∀ h, h.act = a → ((t.die d).head h).temp = some (words.getD (1 + h.val % 12) 0).toInt ∧
        ((t.die d).head h).tempRound = (s.die d).hk.rounds) ∧ ∀ e, e ≠ d → t.die e = s.die e := by
  have hexec : exec (.preampTempReport d a param words) s = .next ((headsOf a).foldl (fun s' h => s'.modHead d h fun x => { x with
      temp := some (words.getD (1 + h.val % 12) 0).toInt, tempRound := (s.die d).hk.rounds })
      ((s.upstream d a param).modAct d a fun y => { y with preampTemp := (words.getD 0 0).toInt })) := onReport_open hd ho
  refine Runs.intro hexec ?_
  generalize hu : (s.upstream d a param).modAct d a (fun y => { y with preampTemp := (words.getD 0 0).toInt }) = u
  have hstep : LinkStep d s u := hu ▸ LinkStep.trans LinkStep.upstream LinkStep.modAct
  have hact : ((u.die d).act a).preampTemp = (words.getD 0 0).toInt := by
    rw [← hu, State.modAct_die_self, Die.modAct_act_self]
  have hheads := State.foldl_modHead_heads d (f := fun h x => { x with
    temp := some (words.getD (1 + h.val % 12) 0).toInt, tempRound := (s.die d).hk.rounds }) (fun _ _ => rfl) (headsOf a) u
  have hkept : KeptBy Die.act d u ((headsOf a).foldl (fun s' h => s'.modHead d h fun x => { x with
      temp := some (words.getD (1 + h.val % 12) 0).toInt, tempRound := (s.die d).hk.rounds }) u) :=
    KeptBy.foldl (fun _ _ => KeptBy.modHead Die.act_heads) _ _
  refine ⟨?_, fun h hh => ?_, fun e he => (hkept.others e he).trans (hstep.others e he)⟩
  · rw [hkept.self, hact]
  · have hhead := (hheads h).trans (if_pos (mem_headsOf.mpr hh))
    exact ⟨congrArg Head.temp hhead, congrArg Head.tempRound hhead⟩

/-- Not yet judged windows of a head. -/
def Die.wroteOf (k : HeadId) (x : Die) : List WriteJob := (x.head k).wrote

theorem KeptBy.mark_wrote {k : HeadId} {e : VerifyEntry} : KeptBy (Die.wroteOf k) d s (s.mark d e) :=
  (StepFrame.mark (os := []) (fun _ _ _ _ => rfl) (fun _ _ => rfl) (fun _ _ => rfl) (by simp)).toKeptBy

/-- A head whose hops within a revolution exceed the limit is taken out of service (07 R230). -/
def State.unstable (s : State) (d : DieId) (h : HeadId) (n : Nat) : State :=
  if s.getN Obj.modehopBurst (dieInst d) < n ∧ s.getB Obj.assistHeadEnable (headInst d h) then
    ((s.put Obj.assistHeadEnable (headInst d h) 0).modDie d fun x => { x with unstable := true }).raiseHead d h Ev.assistUnstable
  else s

/-- A photodiode word judged: what it leaves of its head (07 R229, R230). -/
theorem State.pdWord_shape (s : State) (d : DieId) (h : HeadId) (w : BitVec 16) : ∃ v : Int,
    let u := s.put Obj.pdMean (headInst d h) v
    (((s.die d).head h).wrote.isEmpty = true ∧ s.pdWord d h w = u) ∨
    (∃ g : Head → Head, (∀ y, (g y).wrote = []) ∧ s.pdWord d h w = u.modHead d h g) ∨
    (∃ (g : Head → Head) (js : List WriteJob) (reason n : Nat), (∀ y, (g y).wrote = []) ∧
      s.pdWord d h w = ((js.foldl (fun s j => s.mark d ⟨h, j.loc, reason⟩)
        (((u.bump Obj.modeHopCount (headInst d h)).modDie d fun x => { x with modeHop := true }).raiseHead d h
          Ev.assistModeHop)).modHead d h g).unstable d h n) := by
  generalize ht : s.pdWord d h w = t
  unfold State.pdWord at ht
  extract_lets i x r pd u e off reason hist s1 s2 s3 rev n at ht
  refine ⟨pd, ?_⟩
  split at ht
  · next hempty => exact .inl ⟨hempty, ht.symm⟩
  · refine .inr ?_
    split at ht
    · exact .inl ⟨fun x => { x with wrote := [], pdRegion := r, pdHist := (pd :: hist).take 16 }, fun _ => rfl, ht.symm⟩
    · exact .inr ⟨fun x => { x with wrote := [], pdRegion := r, pdHist := hist, hops := n, hopRev := rev }, x.wrote, reason, n,
        fun _ => rfl, ht.symm⟩

theorem KeptBy.raiseHead_wrote {k h : HeadId} {e : EventKind} : KeptBy (Die.wroteOf k) d s (s.raiseHead d h e) :=
  KeptBy.reported (fun _ _ => rfl) (State.raiseHead_reported [] s d h e [])

theorem KeptBy.unstable {k h : HeadId} {n : Nat} : KeptBy (Die.wroteOf k) d s (s.unstable d h n) := by
  unfold State.unstable
  split
  · refine KeptBy.trans ?_ KeptBy.raiseHead_wrote
    refine KeptBy.trans KeptBy.put (KeptBy.modDie fun _ => rfl)
  · exact KeptBy.refl

theorem State.modHead_wrote (u : State) {h : HeadId} {g : Head → Head} (hg : ∀ y, (g y).wrote = []) (k : HeadId) :
    Die.wroteOf k ((u.modHead d h g).die d) = if k = h then [] else Die.wroteOf k (u.die d) := by
  unfold Die.wroteOf
  rw [State.modHead_die_self]
  by_cases hk : k = h
  · subst hk
    rw [if_pos rfl, Die.modHead_head_self, hg]
  · rw [if_neg hk, Die.modHead_head_ne _ _ _ _ hk]

theorem State.pdWord_wrote (s : State) (d : DieId) (h k : HeadId) (w : BitVec 16) :
    Die.wroteOf k ((s.pdWord d h w).die d) = if k = h then [] else Die.wroteOf k (s.die d) := by
  obtain ⟨v, hshape⟩ := s.pdWord_shape d h w
  have hput : KeptBy (Die.wroteOf k) d s (s.put Obj.pdMean (headInst d h) v) := KeptBy.put
  dsimp only at hshape
  rcases hshape with ⟨hempty, heq⟩ | ⟨g, hg, heq⟩ | ⟨g, js, reason, n, hg, heq⟩
  · rw [heq, hput.self]
    split
    · next hk =>
      subst hk
      exact List.isEmpty_iff.mp hempty
    · rfl
  · rw [heq, State.modHead_wrote _ hg, hput.self]
  · have hhopped : KeptBy (Die.wroteOf k) d s (js.foldl (fun s j => s.mark d ⟨h, j.loc, reason⟩)
        ((((s.put Obj.pdMean (headInst d h) v).bump Obj.modeHopCount (headInst d h)).modDie d fun x =>
          { x with modeHop := true }).raiseHead d h Ev.assistModeHop)) := by
      refine KeptBy.trans ?_ (KeptBy.foldl (fun _ _ => KeptBy.mark_wrote) _ _)
      refine KeptBy.trans ?_ KeptBy.raiseHead_wrote
      exact (hput.trans KeptBy.bump).trans (KeptBy.modDie fun _ => rfl)
    rw [heq, KeptBy.unstable.self, State.modHead_wrote _ hg, hhopped.self]

theorem LinkStep.pdWord {h : HeadId} {w : BitVec 16} : LinkStep d s (s.pdWord d h w) := by
  obtain ⟨v, hshape⟩ := s.pdWord_shape d h w
  have hput : LinkStep d s (s.put Obj.pdMean (headInst d h) v) := LinkStep.put (by decide) (headInst_lt d h)
  have hraise : ∀ (u : State) (k : EventKind), LinkStep d u (u.raiseHead d h k) := fun u k =>
    LinkStep.raised (State.raiseHead_reported [] u d h k [])
  dsimp only at hshape
  rcases hshape with ⟨-, heq⟩ | ⟨g, -, heq⟩ | ⟨g, js, reason, n, -, heq⟩
  · exact heq ▸ hput
  · exact heq ▸ hput.trans LinkStep.modHead
  · refine heq ▸ LinkStep.trans (LinkStep.trans (LinkStep.trans (LinkStep.trans (LinkStep.trans hput
      (LinkStep.bump (by decide) (headInst_lt d h))) LinkStep.modDie) (hraise _ _)) (LinkStep.foldl (fun _ _ => LinkStep.mark) _ _))
      (LinkStep.trans LinkStep.modHead (LinkStep.ite ?_ LinkStep.refl))
    exact LinkStep.trans (LinkStep.trans (LinkStep.put (by decide) (headInst_lt d h)) LinkStep.modDie) (hraise _ _)

theorem State.foldl_pdWord_wrote (d : DieId) (f : HeadId → BitVec 16) (l : List HeadId) (s : State) (k : HeadId)
    (h : k ∈ l ∨ Die.wroteOf k (s.die d) = []) : Die.wroteOf k ((l.foldl (fun s h => s.pdWord d h (f h)) s).die d) = [] := by
  induction l generalizing s with
  | nil => simpa using h
  | cons j l ih =>
    refine ih (s.pdWord d j (f j)) ?_
    rw [State.pdWord_wrote]
    by_cases hk : k = j
    · exact .inr (if_pos hk)
    · rw [if_neg hk]
      rcases h with h | h
      · exact .inl ((List.mem_cons.mp h).resolve_left hk)
      · exact .inr h

/-- R228 to R230: a photodiode report. -/
theorem preampPdReport_runs (hd : s.fitted d = true) (ho : ((s.die d).act a).pcl.open = true) (param : BitVec 8)
    (words : List (BitVec 16)) : Runs (.preampPdReport d a param words) s fun t =>
      (s.assistMode d = 1 → ∀ h, h.act = a → ((t.die d).head h).wrote = []) ∧ ∀ e, e ≠ d → t.die e = s.die e := by
  have hexec := onReport_open (f := fun s =>
    let s := s.upstream d a param
    if s.assistMode d = 1 then (headsOf a).foldl (fun s h => s.pdWord d h (words.getD (h.val % 12) 0)) s else s) hd ho
  refine Runs.intro (c := .preampPdReport d a param words) hexec ?_
  dsimp only
  have hup : LinkStep d s (s.upstream d a param) := LinkStep.upstream
  rw [hup.assistMode]
  generalize s.upstream d a param = u at hup ⊢
  have hall : LinkStep d u ((headsOf a).foldl (fun s h => s.pdWord d h (words.getD (h.val % 12) 0)) u) :=
    LinkStep.foldl (fun _ _ => LinkStep.pdWord) _ _
  refine ⟨fun hm h hh => ?_, fun e he => ((LinkStep.ite hall LinkStep.refl).others e he).trans (hup.others e he)⟩
  rw [if_pos hm]
  exact State.foldl_pdWord_wrote d (fun h => words.getD (h.val % 12) 0) _ u h (.inl (mem_headsOf.mpr hh))

/-- R204: register data. -/
theorem preampRegDataReport_runs (hd : s.fitted d = true) (ho : ((s.die d).act a).pcl.open = true) (param : BitVec 8)
    (v : BitVec 16) : Runs (.preampRegDataReport d a param v) s fun t =>
      ((t.die d).act a).regData = v ∧ ((t.die d).act a).regRead = none ∧ ∀ e, e ≠ d → t.die e = s.die e := by
  have hexec : exec (.preampRegDataReport d a param v) s = _ := onReport_open hd ho
  refine Runs.intro hexec ?_
  dsimp only
  have hup : LinkStep d s (s.upstream d a param) := LinkStep.upstream
  generalize s.upstream d a param = u at hup ⊢
  generalize hw : u.modAct d a (fun y => { y with regData := v, regRead := none }) = w
  have hdie : ∀ e, (if ((s.die d).act a).regRead = some 0 then w.put Obj.preampId (actInst d a) v.toNat else w).die e = w.die e := by
    intro e
    split
    · simp [State.put_eq, State.die]
    · rfl
  rw [hdie, ← hw]
  refine ⟨?_, ?_, fun e he => ?_⟩
  · rw [State.modAct_die_self, Die.modAct_act_self]
  · rw [State.modAct_die_self, Die.modAct_act_self]
  · rw [hw, hdie, ← hw, State.modAct_die_ne _ _ _ _ _ he, hup.others e he]

/-! ### Errors of a link -/

theorem KeptBy.unmonitored_act : KeptBy Die.act d s (s.unmonitored d a) := by
  have hhead : ∀ (u : State) (h : HeadId), KeptBy Die.act d u (u.modHead d h fun x => { x with wrote := [] }) := fun _ _ =>
    KeptBy.modHead Die.act_heads
  have hmark : ∀ (u : State) (e : VerifyEntry), KeptBy Die.act d u (u.mark d e) := fun u e =>
    (StepFrame.mark (os := []) (fun _ _ _ _ => by funext b; cases b <;> rfl) (fun _ _ => by funext b; cases b <;> rfl)
      (fun _ _ => by funext b; cases b <;> rfl) (by simp)).toKeptBy
  unfold State.unmonitored
  split
  · exact KeptBy.foldl hhead _ _
  · refine KeptBy.foldl (fun u h => KeptBy.ite KeptBy.refl ?_) _ _
    exact (KeptBy.bump.trans (KeptBy.foldl (fun _ _ => hmark _ _) _ _)).trans (hhead _ _)

theorem State.pclError_noted (h : ((s.die d).act a).pclErrRun < 2) : ((s.pclError d a).die d).act a =
    { (s.die d).act a with pclErrRun := ((s.die d).act a).pclErrRun + 1 } := by
  unfold State.pclError
  dsimp only
  rw [if_neg (by omega), State.modAct_die_self, Die.modAct_act_self]

theorem State.pclError_resets (h : 2 ≤ ((s.die d).act a).pclErrRun) :
    let z := ((s.pclError d a).die d).act a
    z.crcErr = ((s.die d).act a).crcErr ∧ z.pclOkRun = 0 ∧ (z.pcl = .init ∨ z.pcl = .fault) := by
  have heq : s.pclError d a = ((s.modAct d a fun y => { y with pclErrRun := ((s.die d).act a).pclErrRun + 1 }).raiseAct d a
      Ev.pclLinkFault).pclReset d a := if_pos (by omega)
  have hrep := (s.modAct d a fun y => { y with pclErrRun := ((s.die d).act a).pclErrRun + 1 }).raiseAct_reported [] d a
    Ev.pclLinkFault []
  have hact := hrep.act a
  rw [State.modAct_die_self, Die.modAct_act_self] at hact
  rw [heq]
  generalize (s.modAct d a fun y => { y with pclErrRun := ((s.die d).act a).pclErrRun + 1 }).raiseAct d a Ev.pclLinkFault = u
    at hact ⊢
  have hcrc : ((u.die d).act a).crcErr = ((s.die d).act a).crcErr := by rw [hact]
  by_cases hn : (u.die d).resetsNow a < 3
  · obtain ⟨hlink, -⟩ := State.pclReset_starts hn
    obtain ⟨hpcl, -, hc, hok, -⟩ := Actuator.link_eq hlink
    exact ⟨hc.trans hcrc, hok, .inl hpcl⟩
  · obtain ⟨hlink, -⟩ := State.pclReset_faults (by omega : 3 ≤ (u.die d).resetsNow a)
    obtain ⟨hpcl, -, hc, hok, -⟩ := Actuator.link_eq hlink
    exact ⟨hc.trans hcrc, hok, .inr hpcl⟩

/-- R208: a bad or missing report. -/
theorem preampReportMissing_runs (hd : s.fitted d = true) (ho : ((s.die d).act a).pcl.open = true) :
    Runs (.preampReportMissing d a) s fun t =>
      let y := (s.die d).act a
      ((t.die d).act a).crcErr = true ∧ ((t.die d).act a).pclOkRun = 0 ∧
      (y.pclErrRun < 2 → ((t.die d).act a).pclErrRun = y.pclErrRun + 1 ∧ ((t.die d).act a).pcl = y.pcl) ∧
      (2 ≤ y.pclErrRun → ((t.die d).act a).pcl = .init ∨ ((t.die d).act a).pcl = .fault) ∧
      ∀ e, e ≠ d → t.die e = s.die e := by
  have hexec : exec (.preampReportMissing d a) s = _ := onReport_open hd ho
  refine Runs.intro hexec ?_
  dsimp only
  generalize hu : (s.bump Obj.pclCrcErrors (actInst d a)).modAct d a (fun y => { y with crcErr := true, pclOkRun := 0 }) = u
  have hact : (u.die d).act a = { (s.die d).act a with crcErr := true, pclOkRun := 0 } := by
    rw [← hu, State.modAct_die_self, Die.modAct_act_self, State.bump_die]
  have hstep : LinkStep d s u := hu ▸ LinkStep.trans (LinkStep.bump (by decide) (actInst_lt d a)) LinkStep.modAct
  have hkept : KeptBy Die.act d u (if (((s.die d).act a).selected == 2) = true then u.unmonitored d a else u) :=
    KeptBy.ite (KeptBy.unmonitored_act) KeptBy.refl
  have hstep' : LinkStep d u (if (((s.die d).act a).selected == 2) = true then u.unmonitored d a else u) :=
    LinkStep.ite LinkStep.unmonitored LinkStep.refl
  generalize (if (((s.die d).act a).selected == 2) = true then u.unmonitored d a else u) = v at hkept hstep' ⊢
  have hvact : (v.die d).act a = { (s.die d).act a with crcErr := true, pclOkRun := 0 } := by rw [hkept.self, hact]
  have hothers : ∀ e, e ≠ d → (v.pclError d a).die e = s.die e := fun e he =>
    (LinkStep.pclError.others e he).trans ((hstep'.others e he).trans (hstep.others e he))
  by_cases hrun : ((s.die d).act a).pclErrRun < 2
  · obtain hz := State.pclError_noted (s := v) (d := d) (a := a) (by rw [hvact]; exact hrun)
    rw [hvact] at hz
    exact ⟨by rw [hz], by rw [hz], fun _ => ⟨by rw [hz], by rw [hz]⟩, fun hn => by omega, hothers⟩
  · obtain ⟨hcrc, hok, hpcl⟩ := State.pclError_resets (s := v) (d := d) (a := a) (by rw [hvact]; dsimp only; omega)
    exact ⟨by rw [hcrc, hvact], hok, fun hn => absurd hn hrun, fun _ => hpcl, hothers⟩

end

/-! ### States of the link -/

section
variable {s : State} {d : DieId} {a : Act} (hd : s.fitted d = true)
include hd

theorem exec_pclLinkReset_of_fault (hf : ((s.die d).act a).pcl = .fault) : exec (.pclLinkReset d a) s = .next s := by
  rw [exec_onDie (c := .pclLinkReset d a) (execPclLinkReset d a s) rfl rfl hd]
  exact congrArg Host.Outcome.next (when_false _ (by simp [hf]))

theorem exec_pclLinkReset (hf : ((s.die d).act a).pcl ≠ .fault) :
    exec (.pclLinkReset d a) s = .next (s.pclReset d a) := by
  rw [exec_onDie (c := .pclLinkReset d a) (execPclLinkReset d a s) rfl rfl hd]
  exact congrArg Host.Outcome.next (when_true _ (by simp [hf]))

/-- R207: a link reset, the first two within a revolution. -/
theorem pclLinkReset_starts (hf : ((s.die d).act a).pcl ≠ .fault)
    (hr : ((s.die d).act a).pclResetRev ≠ (s.die d).clock.rev ∨ ((s.die d).act a).pclResets < 2) :
    Runs (.pclLinkReset d a) s fun t =>
      let z := (t.die d).act a
      z.pcl = .init ∧ z.pclIdOk = false ∧ z.regRead = some 0 ∧ z.wenMask = 0 ∧ z.liveMask = 0 ∧ z.dirWrite = false ∧
      z.resetSeen = true ∧ (∀ h, h.act = a → ((t.die d).head h).lines = .park) ∧ ∀ e, e ≠ d → t.die e = s.die e := by
  have hn : (s.die d).resetsNow a < 3 := by
    unfold Die.resetsNow
    split
    · next heq => exact hr.elim (fun hne => absurd heq hne) fun hlt => by omega
    · omega
  obtain ⟨hlink, h1, h2, h3, h4, h5, h6⟩ := State.pclReset_starts hn
  obtain ⟨hpcl, -, -, -, hid⟩ := Actuator.link_eq hlink
  exact Runs.intro (exec_pclLinkReset hd hf) ⟨hpcl, hid, h1, h2, h3, h4, h5, h6, LinkStep.pclReset.others⟩

/-- R207: the third link reset within a revolution. -/
theorem pclLinkReset_faults (hf : ((s.die d).act a).pcl ≠ .fault)
    (hr : ((s.die d).act a).pclResetRev = (s.die d).clock.rev) (hn : 2 ≤ ((s.die d).act a).pclResets) :
    Runs (.pclLinkReset d a) s fun t =>
      ((t.die d).act a).pcl = .fault ∧ ((t.die d).act a).preampFault = true ∧
      (((s.die d).act a).onDisk = true → ((t.die d).act a).state = .unloading) ∧ ∀ e, e ≠ d → t.die e = s.die e := by
  have hthree : 3 ≤ (s.die d).resetsNow a := by
    rw [Die.resetsNow, if_pos hr]
    omega
  obtain ⟨hlink, hunload⟩ := State.pclReset_faults hthree
  obtain ⟨hpcl, hfault, -, -, -⟩ := Actuator.link_eq hlink
  exact Runs.intro (exec_pclLinkReset hd hf) ⟨hpcl, hfault, hunload, LinkStep.pclReset.others⟩

theorem exec_pclIdCheck_of_other (id : BitVec 16) (hp : ((s.die d).act a).pcl ≠ .init) :
    exec (.pclIdCheck d a id) s = .next s := by
  rw [exec_onDie (c := .pclIdCheck d a id) (execPclIdCheck d a id s) rfl rfl hd]
  exact congrArg Host.Outcome.next (when_false _ (by simp [hp]))

theorem exec_pclLinkUp_of_other (hp : ((s.die d).act a).pcl ≠ .init) : exec (.pclLinkUp d a) s = .next s := by
  rw [exec_onDie (c := .pclLinkUp d a) (execPclLinkUp d a s) rfl rfl hd]
  exact congrArg Host.Outcome.next (when_false _ (by simp [hp]))

/-- R207: eight intact reports bring the link up. -/
theorem pclLinkUp_runs (hp : ((s.die d).act a).pcl = .init) (hi : ((s.die d).act a).pclIdOk = true)
    (hr : 8 ≤ ((s.die d).act a).pclOkRun) : Runs (.pclLinkUp d a) s fun t =>
      t = s.setDie d { (s.die d).setAct a { (s.die d).act a with pcl := .up, pclResets := 0 } with
        calRuns := (t.die d).calRuns } := by
  have hexec := exec_onDie (c := .pclLinkUp d a) (execPclLinkUp d a s) rfl rfl hd
  rw [when_true _ (by simp [hp, hi, hr])] at hexec
  refine Runs.intro hexec ?_
  simp [State.calRecheck, State.modAct, State.modDie, State.setDie_setDie, Die.modAct]

end

/-! ### The check of the preamplifier's identity -/

section
variable {s : State} {d : DieId} {a : Act} {p : ObjDef} {j : Nat}

/-- The end of a calibration writes CAL_RESULT and nothing of an entry below it. -/
theorem State.calReport_get (s : State) {i kind code seq revs : Nat} {v w : BitVec 64} (hp : p.name < Obj.calResult.name)
    (hj : j < 256) : (s.calReport i kind code seq revs v w).get p j = s.get p j :=
  State.putSub_get_ne _ (objKey_below hp hj)

theorem State.foldl_get {β : Type} {g : State → β → State} (h : ∀ s x, (g s x).get p j = s.get p j) (l : List β) (s : State) :
    (l.foldl g s).get p j = s.get p j := by
  induction l generalizing s with
  | nil => rfl
  | cons x l ih => exact (ih _).trans (h s x)

theorem State.foldl_objs {β : Type} {g : State → β → State} (h : ∀ s x, (g s x).objs = s.objs) (l : List β) (s : State) :
    (l.foldl g s).objs = s.objs := by
  induction l generalizing s with
  | nil => rfl
  | cons x l ih => exact (ih _).trans (h s x)

theorem State.calEnd_get (s : State) (d : DieId) {i code seq : Nat} (hp : p.name < Obj.calResult.name) (hj : j < 256) :
    (s.calEnd d i code seq).get p j = s.get p j := by
  unfold State.calEnd
  split
  · rfl
  · refine (State.calReport_get _ hp hj).trans ?_
    split
    · exact State.foldl_get (fun u _ => u.calReport_get hp hj) _ _
    · rfl

theorem State.calAbortIf_get (s : State) (d : DieId) {q : Nat → CalRun → Bool} (hp : p.name < Obj.calResult.name)
    (hj : j < 256) : (s.calAbortIf d q).get p j = s.get p j :=
  State.foldl_get (fun u _ => u.calEnd_get d hp hj) _ _

/-- What the identity check shows of the actuator. -/
def Actuator.identity (y : Actuator) : BitVec 16 × Option (BitVec 8) × PclState × Bool := (y.regData, y.regRead, y.pcl, y.pclIdOk)

/-- The identity read: PREAMP_ID and the register (06 R207 step 2). -/
def State.idRead (s : State) (d : DieId) (a : Act) (id : BitVec 16) : State :=
  (s.put Obj.preampId (actInst d a) id.toNat).modAct d a fun y => { y with regRead := none, regData := id }

/-- The identity accepted: the table's writes and a HEAD_MODE with all masks 0 (06 R207 step 3). -/
def State.idAccepted (s : State) (d : DieId) (a : Act) : State :=
  let s := (initWrites (s.dom Obj.preampInit 0 (actInst d a) [])).foldl (fun s w => s.sendPcl d a 6 w.1 [w.2]) s
  (s.sendPcl d a 2 0 [0, 0]).modAct d a fun y => { y with pclIdOk := true, dirWrite := false, liveMask := 0, wenMask := 0 }

theorem State.idRead_dom (s : State) (d : DieId) (a : Act) (id : BitVec 16) :
    (s.idRead d a id).dom Obj.preampInit 0 (actInst d a) [] = s.dom Obj.preampInit 0 (actInst d a) [] := by
  have hdoms : (s.idRead d a id).doms = s.doms := by
    show (s.putSub Obj.preampId _ _ _).doms = s.doms
    unfold State.putSub
    split
    · rfl
    · rfl
  rw [State.dom, State.dom, hdoms]

theorem State.idRead_act (s : State) (d : DieId) (a : Act) (id : BitVec 16) :
    ((s.idRead d a id).die d).act a = { (s.die d).act a with regRead := none, regData := id } := by
  rw [State.idRead, State.modAct_die_self, Die.modAct_act_self]
  simp [State.put_eq, State.die]

theorem State.idRead_get (s : State) (d : DieId) (a : Act) (id : BitVec 16) :
    (s.idRead d a id).get Obj.preampId (actInst d a) = id.toNat := State.getSub_putSub_self ..

theorem exec_pclIdCheck (id : BitVec 16) (hd : s.fitted d = true) (hp : ((s.die d).act a).pcl = .init)
    (hi : ((s.die d).act a).pclIdOk = false) : exec (.pclIdCheck d a id) s = .next
      (if id.toNat = fieldU (s.dom Obj.preampInit 0 (actInst d a) []) 2 2 then (s.idRead d a id).idAccepted d a
       else ((s.idRead d a id).pclFault d a).raiseAct d a Ev.preampIdMismatch) := by
  have hexec := exec_onDie (c := .pclIdCheck d a id) (execPclIdCheck d a id s) rfl rfl hd
  rw [when_true _ (by simp [hp, hi])] at hexec
  rw [← s.idRead_dom d a id]
  exact hexec

/-- The frames of an accepted identity leave the register and the state of the link (06 R207 step 3). -/
theorem State.idAccepted_spec (s : State) (d : DieId) (a : Act) :
    let t := s.idAccepted d a
    ((t.die d).act a).regData = ((s.die d).act a).regData ∧ ((t.die d).act a).regRead = ((s.die d).act a).regRead ∧
    ((t.die d).act a).pcl = ((s.die d).act a).pcl ∧ ((t.die d).act a).pclIdOk = true ∧ ((t.die d).act a).wenMask = 0 ∧
    t.objs = s.objs ∧ ∀ e, e ≠ d → t.die e = s.die e := by
  have hsend : ∀ (u : State) (typ param : Nat) (ws : List (BitVec 16)),
      KeptBy (fun x => (x.act a).identity) d u (u.sendPcl d a typ param ws) := fun u typ param ws =>
    KeptBy.trans (KeptBy.modAct_view (v := Actuator.identity) (g := fun x => { x with
      pclSeq := x.pclSeq + 1, pclSent := ((x.pclSeq, typ, param, ws) :: x.pclSent).take 16 }) fun _ => rfl) KeptBy.emit
  have hwrites : KeptBy (fun x => (x.act a).identity) d s
      ((initWrites (s.dom Obj.preampInit 0 (actInst d a) [])).foldl (fun s w => s.sendPcl d a 6 w.1 [w.2]) s) :=
    KeptBy.foldl (fun _ _ => hsend ..) _ _
  have hobjs : ((initWrites (s.dom Obj.preampInit 0 (actInst d a) [])).foldl (fun s w => s.sendPcl d a 6 w.1 [w.2]) s).objs =
      s.objs := State.foldl_objs (by exact fun _ _ => rfl) _ _
  unfold State.idAccepted
  dsimp only
  generalize (initWrites (s.dom Obj.preampInit 0 (actInst d a) [])).foldl (fun s w => s.sendPcl d a 6 w.1 [w.2]) s = u
    at hwrites hobjs ⊢
  have hall := hwrites.trans (hsend u 2 0 [0, 0])
  have hobjs' : (u.sendPcl d a 2 0 [0, 0]).objs = s.objs := hobjs
  generalize u.sendPcl d a 2 0 [0, 0] = v at hall hobjs' ⊢
  have hview : ((v.die d).act a).identity = ((s.die d).act a).identity := hall.self
  simp only [Actuator.identity, Prod.mk.injEq] at hview
  obtain ⟨hdata, hread, hpcl, -⟩ := hview
  rw [State.modAct_die_self, Die.modAct_act_self]
  exact ⟨hdata, hread, hpcl, rfl, rfl, hobjs', fun e he => (State.modAct_die_ne _ _ _ _ _ he).trans (hall.others e he)⟩

/-- R207 steps 2 and 3: the identity read against EXPECTED_ID. -/
theorem pclIdCheck_runs (id : BitVec 16) (hd : s.fitted d = true) (hp : ((s.die d).act a).pcl = .init)
    (hi : ((s.die d).act a).pclIdOk = false) : Runs (.pclIdCheck d a id) s fun t =>
      let z := (t.die d).act a
      let i := actInst d a
      z.regData = id ∧ z.regRead = none ∧ t.get Obj.preampId i = id.toNat ∧
      (id.toNat = fieldU (s.dom Obj.preampInit 0 i []) 2 2 → z.pclIdOk = true ∧ z.pcl = .init ∧ z.wenMask = 0) ∧
      (id.toNat ≠ fieldU (s.dom Obj.preampInit 0 i []) 2 2 → z.pclIdOk = false ∧ z.pcl = .fault ∧ z.preampFault = true) ∧
      ∀ e, e ≠ d → t.die e = s.die e := by
  refine Runs.intro (exec_pclIdCheck id hd hp hi) ?_
  have hread := s.idRead_act d a id
  have hget := s.idRead_get d a id
  have hothers : LinkStep d s (s.idRead d a id) := LinkStep.trans (LinkStep.put (by decide) (actInst_lt d a)) LinkStep.modAct
  dsimp only
  generalize s.idRead d a id = u at hread hget hothers ⊢
  by_cases hid : id.toNat = fieldU (s.dom Obj.preampInit 0 (actInst d a) []) 2 2
  · rw [if_pos hid]
    obtain ⟨h1, h2, h3, h4, h5, h6, h7⟩ := u.idAccepted_spec d a
    rw [hread] at h1 h2 h3
    exact ⟨h1, h2, (State.get_of_objs_eq h6 _ _).trans hget, fun _ => ⟨h4, h3.trans hp, h5⟩, fun hne => absurd hid hne,
      fun e he => (h7 e he).trans (hothers.others e he)⟩
  · rw [if_neg hid]
    have hfault := u.pclFault_act d a
    have hfget : (u.pclFault d a).get Obj.preampId (actInst d a) = u.get Obj.preampId (actInst d a) :=
      State.calAbortIf_get _ d (by decide) (actInst_lt d a)
    have hfstep : LinkStep d u (u.pclFault d a) := LinkStep.pclFault
    rw [hread] at hfault
    generalize u.pclFault d a = v at hfault hfget hfstep ⊢
    have hrep := v.raiseAct_reported [] d a Ev.preampIdMismatch []
    refine ⟨?_, ?_, ?_, fun heq => absurd heq hid, fun _ => ⟨?_, ?_, ?_⟩, fun e he => ?_⟩
    · rw [hrep.act, hfault]
    · rw [hrep.act, hfault]
    · rw [Gives.get hrep (by decide) (actInst_lt d a), hfget, hget]
    · rw [hrep.act, hfault]
      exact hi
    · rw [hrep.act, hfault]
    · rw [hrep.act, hfault]
    · rw [hrep.die_ne he, hfstep.others e he, hothers.others e he]

end

/-- Settles O21: what the reports leave behind, and the states of a link. -/
theorem preampLinkAndReports : Obligations.PreampLinkAndReports := by
  unfold Obligations.PreampLinkAndReports
  refine ⟨fun s d a param w0 w1 v words hd => ⟨fun ho => ⟨onReport_closed hd ho, onReport_closed hd ho, onReport_closed hd ho,
      onReport_closed hd ho, onReport_closed hd ho⟩, fun ho => ⟨?_, preampTempReport_runs hd ho param words,
      preampPdReport_runs hd ho param words, preampRegDataReport_runs hd ho param v, preampReportMissing_runs hd ho⟩⟩,
    fun s d a id hd => ⟨fun hf => exec_pclLinkReset_of_fault hd hf, fun hf hr => pclLinkReset_starts hd hf hr,
      fun hf hr hn => pclLinkReset_faults hd hf hr hn, fun hp hi => pclIdCheck_runs id hd hp hi,
      fun hp => ⟨exec_pclIdCheck_of_other hd id hp, exec_pclLinkUp_of_other hd hp⟩, fun hp hi hr => pclLinkUp_runs hd hp hi hr⟩⟩
  exact Runs.intro (exec_preampStatusReport hd ho param w0 w1) (State.statusTaken_spec ..)

end Sys2Proof.Machine

/-! PROOFS. Starting a calibration, and the steps that act on the drive (08 R238 to R240, R255, R256, R262, R263). -/

namespace Sys2Proof.Machine

/-! ### The command that starts a run -/

section
variable {s : State} {d : DieId} {f : State → State × BitVec 16 × Nat} (hd : s.fitted d = true)
include hd

theorem statusCommand_isolated (hi : s.isolated d = true) : statusCommand d s f = .next (s.answer St.dieIsolated) := by
  rw [statusCommand, onDie_fitted _ hd]
  exact congrArg Host.Outcome.next (if_pos hi)

theorem statusCommand_answered (hi : s.isolated d = false) :
    statusCommand d s f = .next ((f s).1.answer (f s).2.1 (BitVec.ofNat 64 (f s).2.2)) := by
  rw [statusCommand, onDie_fitted _ hd]
  exact congrArg Host.Outcome.next (if_neg (by simp [hi]))

end

/-- The nine commands that start a calibration, with their kinds (08 R238). -/
def calStarts (sel : CalSel) : List (Instr × Nat) :=
  [(Instr.calChannelAdapt sel, 1), (.calHeater sel, 2), (.calAssistOpt sel, 3), (.calChevronGeom sel, 4),
   (.calMaGain sel, 5), (.calVcmTorque sel, 6), (.calSenseOffset sel, 7), (.calBemfSymmetry sel, 8), (.calHoldupCap sel, 9)]

theorem exec_calStart {sel : CalSel} {c : Instr} {kind : Nat} (h : (c, kind) ∈ calStarts sel) (s : State) :
    exec c s = calStartCommand sel kind s ∧ kind ≠ 0 ∧ kind < 256 := by
  simp only [calStarts, List.mem_cons, Prod.mk.injEq, List.not_mem_nil, or_false] at h
  rcases h with ⟨rfl, rfl⟩ | ⟨rfl, rfl⟩ | ⟨rfl, rfl⟩ | ⟨rfl, rfl⟩ | ⟨rfl, rfl⟩ | ⟨rfl, rfl⟩ | ⟨rfl, rfl⟩ | ⟨rfl, rfl⟩ | ⟨rfl, rfl⟩
  · exact ⟨rfl, by decide, by decide⟩
  · exact ⟨rfl, by decide, by decide⟩
  · exact ⟨rfl, by decide, by decide⟩
  · exact ⟨rfl, by decide, by decide⟩
  · exact ⟨rfl, by decide, by decide⟩
  · exact ⟨rfl, by decide, by decide⟩
  · exact ⟨rfl, by decide, by decide⟩
  · exact ⟨rfl, by decide, by decide⟩
  · exact ⟨rfl, by decide, by decide⟩

section
variable {s : State} {d : DieId} {i kind : Nat} (h0 : kind ≠ 0)
include h0

theorem State.calCommand_barred (ha : calAllowed kind i = false) : s.calCommand d i kind = (s, St.instanceInvalid, 0) :=
  (if_neg h0).trans (if_pos (by simp [ha]))

variable (ha : calAllowed kind i = true)
include ha

theorem State.calCommand_busy (hc : (s.die d).calRuns.entries.any (calConflict kind i) = true) :
    s.calCommand d i kind = (s, St.objectBusy, 0) :=
  (if_neg h0).trans ((if_neg (by simp [ha])).trans (if_pos hc))

variable (hc : (s.die d).calRuns.entries.any (calConflict kind i) = false)
include hc

theorem State.calCommand_unready {code : Nat} (hcode : s.calCommon d kind i = some code) :
    s.calCommand d i kind = s.calRefuse i kind code := by
  refine (if_neg h0).trans ((if_neg (by simp [ha])).trans ((if_neg (by simp [hc])).trans ?_))
  rw [hcode]

/-- A command whose conditions hold starts the run (08 R239). -/
theorem State.calCommand_starts (hcode : s.calCommon d kind i = none)
    (hhead : headKind kind = true → (s.calHeads d kind i).1 ≠ []) (hvcm : kind = 6 → (selAct i).bind (s.calVcm d) = none)
    (hhold : kind = 9 → s.holdupMayStart d (s.vEndOf d) = true) :
    ∃ hs bad, s.calCommand d i kind = (s.calStart d i kind hs bad, St.success, 0) := by
  have hgo : s.calCommand d i kind = _ := (if_neg h0).trans ((if_neg (by simp [ha])).trans (if_neg (by simp [hc])))
  rw [hcode] at hgo
  rw [hgo]
  dsimp only
  by_cases hk : headKind kind = true
  · rw [if_pos hk, if_neg (by simpa using hhead hk)]
    exact ⟨_, _, rfl⟩
  · rw [if_neg hk]
    by_cases h6 : kind = 6
    · rw [if_pos h6, hvcm h6]
      exact ⟨_, _, rfl⟩
    · rw [if_neg h6, if_neg (by rintro ⟨h9, hn⟩; simp [hhold h9] at hn)]
      exact ⟨_, _, rfl⟩

end

/-! ### The run that starts -/

theorem State.put_dies (s : State) (o : ObjDef) (i : Nat) (v : Int) : (s.put o i v).dies = s.dies := State.putSub_dies ..

theorem State.calReport_dies (s : State) (i kind code seq revs : Nat) (v w : BitVec 64) :
    (s.calReport i kind code seq revs v w).dies = s.dies := State.putSub_dies ..

theorem State.foldl_dies {β : Type} {g : State → β → State} (h : ∀ s x, (g s x).dies = s.dies) (l : List β) (s : State) :
    (l.foldl g s).dies = s.dies := by
  induction l generalizing s with
  | nil => rfl
  | cons x l ih => exact (ih _).trans (h s x)

/-- Values put at several instances: the first one holds. -/
theorem State.foldl_put_result (l : List Nat) (s : State) (i : Nat) (h : i ∈ l ∨ s.get Obj.calResult i = 1) :
    (l.foldl (fun s i => s.put Obj.calResult i 1) s).get Obj.calResult i = 1 := by
  induction l generalizing s with
  | nil => simpa using h
  | cons j l ih =>
    refine ih _ ?_
    by_cases hij : i = j
    · exact .inr (hij ▸ State.getSub_putSub_self ..)
    · rcases h with h | h
      · exact .inl ((List.mem_cons.mp h).resolve_left hij)
      · refine .inr ((State.putSub_get_ne s ?_).trans h)
        simp only [objKey]
        omega

section
variable {s : State} {d : DieId} {i : Nat}

theorem State.calEnd_of_idle {code seq : Nat} (h : (s.die d).calRuns.find? i = none) : s.calEnd d i code seq = s := by
  unfold State.calEnd
  rw [h]

/-- The end of a run leaves the runs at other instances, and the other dies. -/
theorem State.calEnd_others (code seq : Nat) (hi : i < 256) :
    (∀ j, j ≠ i → ((s.calEnd d i code seq).die d).calRuns.find? j = (s.die d).calRuns.find? j) ∧
    ∀ e, e ≠ d → (s.calEnd d i code seq).die e = s.die e := by
  cases hr : (s.die d).calRuns.find? i with
  | none =>
    rw [State.calEnd_of_idle hr]
    exact ⟨fun _ _ => rfl, fun _ _ => rfl⟩
  | some r =>
    obtain ⟨u, hend, hrep, -⟩ := State.calEnd_reports code seq hi hr
    rw [hend]
    refine ⟨fun j hj => ?_, fun e he => ?_⟩
    · rw [State.modDie_die_self, hrep.die]
      exact KMap.find?_erase_ne _ hj
    · rw [State.modDie_die_ne _ _ _ _ he, hrep.die]

/-- R252: what the references of MA_GAIN change stays at the run's own place. -/
theorem State.maReference_others (hi : i < 256) :
    (∀ j, j ≠ i → ((s.maReference d i).die d).calRuns.find? j = (s.die d).calRuns.find? j) ∧
    ∀ e, e ≠ d → (s.maReference d i).die e = s.die e := by
  unfold State.maReference
  split
  · exact ⟨fun _ _ => rfl, fun _ _ => rfl⟩
  · next r _ =>
    dsimp only
    split
    · exact ⟨fun _ _ => rfl, fun _ _ => rfl⟩
    · split
      · exact State.calEnd_others 5 0 hi
      · have hdies : ∀ (l : List HeadId) (e : DieId), ((l.foldl (fun s h =>
            s.calReport (headInst d h) 5 5 0 0 (r.before.getD (headInst d h) 0) (s.quality d h)) s).die e) = s.die e :=
          fun l e => congrArg (fun v : Vector Die 8 => v[e]) (State.foldl_dies (fun _ _ => State.calReport_dies ..) l s)
        refine ⟨fun j hj => ?_, fun e he => ?_⟩
        · rw [State.modDie_die_self, hdies]
          exact KMap.find?_insert_ne _ _ hj
        · rw [State.modDie_die_ne _ _ _ _ he, hdies]

/-- The run a command starts, before MA_GAIN's references are looked at (08 R247). -/
theorem State.calStart_eq (s : State) (d : DieId) (i kind : Nat) (hs : List HeadId) (bad : List (HeadId × BitVec 16)) :
    ∃ (insts : List Nat) (heads : List HeadId) (before : KMap (BitVec 64)) (hold : Die → Bool) (data : Die → DieData),
      let u := (i :: insts).foldl (fun s i => s.put Obj.calResult i 1)
        (bad.foldl (fun s e => s.calReport (headInst d e.1) kind e.2.toNat 0 0 0 0) s)
      let r : CalRun := ⟨BitVec.ofNat 8 kind, (s.die d).clock.rev, false, heads, bad, before, [], none⟩
      let t := u.modDie d fun x => { x with calRuns := x.calRuns.insert i r, holdupTest := hold x, data := data x }
      s.calStart d i kind hs bad = if kind = 5 then t.maReference d i else t := by
  have hdies : ∀ insts : List Nat, ((i :: insts).foldl (fun s i => s.put Obj.calResult i 1)
      (bad.foldl (fun s e => s.calReport (headInst d e.1) kind e.2.toNat 0 0 0 0) s)).dies = s.dies := fun insts =>
    (State.foldl_dies (fun _ _ => State.put_dies ..) _ _).trans (State.foldl_dies (fun _ _ => State.calReport_dies ..) _ _)
  generalize ht : s.calStart d i kind hs bad = t
  unfold State.calStart at ht
  extract_lets insts over_ before u w r v y at ht
  refine ⟨insts, over_, before, fun x => x.holdupTest || kind == 9,
    fun x => if kind = 9 then { x.data with vEnd := some v } else x.data, ?_⟩
  have hr : r = ⟨BitVec.ofNat 8 kind, (s.die d).clock.rev, false, over_, bad, before, [], none⟩ := by
    have hclock : (w.die d).clock.rev = (s.die d).clock.rev :=
      congrArg (fun v : Vector Die 8 => v[d].clock.rev) (hdies insts)
    simp only [r, hclock]
  rw [← ht]
  simp only [y, hr]
  rfl

theorem State.calStart_spec (s : State) (d : DieId) {i kind : Nat} (hs : List HeadId) (bad : List (HeadId × BitVec 16))
    (hi : i < 256) : let t := s.calStart d i kind hs bad
      (∀ e, e ≠ d → t.die e = s.die e) ∧ (∀ j, j ≠ i → (t.die d).calRuns.find? j = (s.die d).calRuns.find? j) ∧
      (kind ≠ 5 → t.get Obj.calResult i = 1 ∧ ∃ r, (t.die d).calRuns.find? i = some r ∧ r.kind = BitVec.ofNat 8 kind ∧
        r.startRev = (s.die d).clock.rev ∧ r.paused = false) := by
  obtain ⟨insts, heads, before, hold, data, heq⟩ := s.calStart_eq d i kind hs bad
  dsimp only at heq ⊢
  generalize hu : (i :: insts).foldl (fun s i => s.put Obj.calResult i 1)
    (bad.foldl (fun s e => s.calReport (headInst d e.1) kind e.2.toNat 0 0 0 0) s) = u at heq
  have hdies : u.dies = s.dies := hu ▸
    (State.foldl_dies (fun _ _ => State.put_dies ..) _ _).trans (State.foldl_dies (fun _ _ => State.calReport_dies ..) _ _)
  have hdie : ∀ e, u.die e = s.die e := fun e => congrArg (fun v : Vector Die 8 => v[e]) hdies
  have hres : u.get Obj.calResult i = 1 := hu ▸ State.foldl_put_result _ _ i (.inl (List.mem_cons_self ..))
  generalize ht : (⟨BitVec.ofNat 8 kind, (s.die d).clock.rev, false, heads, bad, before, [], none⟩ : CalRun) = r at heq
  generalize hw : u.modDie d (fun x => { x with calRuns := x.calRuns.insert i r, holdupTest := hold x, data := data x }) = w
    at heq
  have hothers : ∀ e, e ≠ d → w.die e = s.die e := fun e he => by rw [← hw, State.modDie_die_ne _ _ _ _ he, hdie]
  have hruns : (w.die d).calRuns = (s.die d).calRuns.insert i r := by rw [← hw, State.modDie_die_self, hdie]
  have hget : w.get Obj.calResult i = 1 := by rw [← hw]; exact hres
  rw [heq]
  obtain ⟨href, hrefd⟩ := State.maReference_others (s := w) (d := d) hi
  refine ⟨fun e he => ?_, fun j hj => ?_, fun h5 => ?_⟩
  · split
    · rw [hrefd e he, hothers e he]
    · exact hothers e he
  · split
    · rw [href j hj, hruns, KMap.find?_insert_ne _ _ hj]
    · rw [hruns, KMap.find?_insert_ne _ _ hj]
  · rw [if_neg h5, hruns]
    refine ⟨hget, r, KMap.find?_insert_self .., ?_, ?_, ?_⟩
    · rw [← ht]
    · rw [← ht]
    · rw [← ht]

end

/-! ### Steps that act on the drive -/

section
variable {s : State} {d : DieId} (hd : s.fitted d = true)
include hd

theorem exec_bemfFloat_of_idle (xs : List (Phase × BitVec 24)) (hr : (s.die d).calRuns.find? (dieInst d) = none) :
    exec (.bemfFloat d xs) s = .next s := by
  rw [exec_onDie (c := .bemfFloat d xs) (execBemfFloat d xs s) rfl rfl hd, hr]

theorem exec_holdupTestEnd_of_idle (curve : List (Nat × Nat)) (hr : (s.die d).calRuns.find? (dieInst d) = none) :
    exec (.holdupTestEnd d curve) s = .next s := by
  rw [exec_onDie (c := .holdupTestEnd d curve) (execHoldupTestEnd d curve s) rfl rfl hd, hr]

/-- R255: one float of four. -/
theorem bemfFloat_runs (xs : List (Phase × BitVec 24)) {r : CalRun} (hr : (s.die d).calRuns.find? (dieInst d) = some r)
    (hk : r.kind = 8) (hp : r.paused = false) (hl : r.floats.length < 4) : Runs (.bemfFloat d xs) s fun t =>
      (t.die d).calRuns = (s.die d).calRuns.insert (dieInst d) { r with floats := r.floats ++ [xs] } ∧
      (t.die d).spin.holdStart = some (((s.die d).clock.stamp.toNat + 2 ^ 24) % 2 ^ 48) ∧
      t = s.setDie d { s.die d with calRuns := (t.die d).calRuns, spin := (t.die d).spin } := by
  have hexec := exec_onDie (c := .bemfFloat d xs) (execBemfFloat d xs s) rfl rfl hd
  rw [hr] at hexec
  dsimp only at hexec
  rw [if_neg (by simp [hk, hp, hl])] at hexec
  refine Runs.intro hexec ⟨?_, ?_, ?_⟩
  · simp
  · simp
  · simp [State.modSpin, State.modDie, State.setDie_setDie]

theorem exec_bemfFloat_of_full (xs : List (Phase × BitVec 24)) {r : CalRun}
    (hr : (s.die d).calRuns.find? (dieInst d) = some r) (hl : 4 ≤ r.floats.length) : exec (.bemfFloat d xs) s = .next s := by
  rw [exec_onDie (c := .bemfFloat d xs) (execBemfFloat d xs s) rfl rfl hd, hr]
  exact congrArg Host.Outcome.next (if_pos (.inr (.inr hl)))

/-- R256: the end of the discharge. -/
theorem exec_holdupTestEnd_of_test (curve : List (Nat × Nat)) {r : CalRun}
    (hr : (s.die d).calRuns.find? (dieInst d) = some r) (hk : r.kind = 9) (ht : (s.die d).holdupTest = true) :
    exec (.holdupTestEnd d curve) s = .next (s.setDie d { s.die d with
      holdupTest := false
      calRuns := (s.die d).calRuns.insert (dieInst d) { r with fit := some (s.holdupFit d curve) } }) := by
  rw [exec_onDie (c := .holdupTestEnd d curve) (execHoldupTestEnd d curve s) rfl rfl hd, hr]
  exact congrArg Host.Outcome.next (if_neg (by simp [hk, ht]))

/-! ### Quality figures and hours -/

omit hd in
/-- R262: figures are written to objects; a head that is not live has none. -/
theorem State.figures_spec (s : State) (d : DieId) (f : HeadFigures) :
    (s.figures d f).dies = s.dies ∧ (s.figures d f).out = s.out ∧
    (((s.die d).head f.head).live = false → s.figures d f = s) := by
  have hput : ∀ (u : State) (o : ObjDef) (i : Nat) (v : Int), (u.put o i v).dies = u.dies ∧ (u.put o i v).out = u.out :=
    fun u o i v => ⟨State.putSub_dies .., State.putSub_out ..⟩
  refine ⟨?_, ?_, fun hl => if_pos (by simp [hl])⟩
  · unfold State.figures
    split
    · rfl
    · dsimp only
      split
      · rw [(hput _ _ _ _).1, (hput _ _ _ _).1]
        split
        · rw [(hput _ _ _ _).1, (hput _ _ _ _).1]
        · rfl
      · split
        · rw [(hput _ _ _ _).1, (hput _ _ _ _).1]
        · rfl
  · unfold State.figures
    split
    · rfl
    · dsimp only
      split
      · rw [(hput _ _ _ _).2, (hput _ _ _ _).2]
        split
        · rw [(hput _ _ _ _).2, (hput _ _ _ _).2]
        · rfl
      · split
        · rw [(hput _ _ _ _).2, (hput _ _ _ _).2]
        · rfl

theorem qualityWindowEnd_runs (figs : List HeadFigures) : Runs (.qualityWindowEnd d figs) s fun t =>
    t.dies = s.dies ∧ t.out = s.out ∧ ((∀ f ∈ figs, ((s.die d).head f.head).live = false) → t = s) := by
  refine Runs.intro (exec_onDie (c := .qualityWindowEnd d figs) (execQualityWindowEnd d figs s) rfl rfl hd) ?_
  clear hd
  induction figs generalizing s with
  | nil => exact ⟨rfl, rfl, fun _ => rfl⟩
  | cons f figs ih =>
    obtain ⟨hdies, hout, hdead⟩ := s.figures_spec d f
    obtain ⟨h1, h2, h3⟩ := ih (s := s.figures d f)
    refine ⟨h1.trans hdies, h2.trans hout, fun hall => ?_⟩
    have hf := hdead (hall f (List.mem_cons_self ..))
    rw [hf] at h3
    rw [List.foldl_cons, hf]
    exact h3 fun g hg => hall g (List.mem_cons_of_mem _ hg)

theorem powerOnHour_runs : Runs (.powerOnHour d) s fun t =>
    t.get Obj.powerOnHours (dieInst d) = min 4294967295 (s.get Obj.powerOnHours (dieInst d) + 1) ∧ t.dies = s.dies ∧
    t.out = s.out :=
  Runs.intro (exec_onDie (c := .powerOnHour d) (execPowerOnHour d s) rfl rfl hd)
    ⟨State.bump_get_self .., State.putSub_dies .., State.putSub_out ..⟩

end

/-- Settles O22: the commands that start a calibration, and the steps that act on the drive. -/
theorem calibrationStartsAndSteps : Obligations.CalibrationStartsAndSteps := by
  unfold Obligations.CalibrationStartsAndSteps
  refine ⟨fun s sel c kind hc hd => ?_, fun s d xs curve figs hd => ⟨fun hr => ⟨exec_bemfFloat_of_idle hd xs hr,
      exec_holdupTestEnd_of_idle hd curve hr⟩, fun r hr hk hp hl => bemfFloat_runs hd xs hr hk hp hl,
    fun r hr _ hl => exec_bemfFloat_of_full hd xs hr hl, fun r hr hk ht => exec_holdupTestEnd_of_test hd curve hr hk ht,
    qualityWindowEnd_runs hd figs, powerOnHour_runs hd⟩⟩
  obtain ⟨hexec, h0, -⟩ := exec_calStart hc s
  have hi : calInst sel < 256 := calInst_lt sel
  refine ⟨fun his => hexec.trans (statusCommand_isolated hd his), fun his ha => ?_, fun his ha hconf => ?_,
    fun his ha hconf code hcode => ?_, fun his ha hconf hcode hhead hvcm hhold => ?_⟩
  · rw [hexec, calStartCommand, statusCommand_answered hd his, State.calCommand_barred h0 ha]
    rfl
  · rw [hexec, calStartCommand, statusCommand_answered hd his, State.calCommand_busy h0 ha hconf]
    rfl
  · rw [calStartCommand, statusCommand_answered hd his, State.calCommand_unready h0 ha hconf hcode] at hexec
    exact Runs.intro hexec ⟨rfl, State.getSub_putSub_self .., State.putSub_dies .., State.putSub_out ..⟩
  · obtain ⟨hs, bad, hgo⟩ := State.calCommand_starts h0 ha hconf hcode hhead hvcm hhold
    rw [calStartCommand, statusCommand_answered hd his, hgo] at hexec
    obtain ⟨hothers, hruns, hnew⟩ := s.calStart_spec (selDie sel) (kind := kind) hs bad hi
    exact Runs.intro hexec ⟨rfl, hothers, hruns, hnew⟩

end Sys2Proof.Machine

/-! PROOFS. The ends of a calibration and the two copies of its record (08 R238, R242 to R246, R259). -/

namespace Sys2Proof.Machine

/-! ### The two copies of a record -/

/-- Of two sequence numbers that differ, and not by half the range, one is above the other (08 R259). -/
theorem seqAbove_flip {a b : BitVec 32} (hne : a ≠ b) (hhalf : a - b ≠ 0x80000000#32) : seqAbove b a = !seqAbove a b := by
  have hneg : b - a = -(a - b) := by
    rw [BitVec.neg_sub]
    bv_omega
  have hmin : a - b ≠ BitVec.intMin 32 := hhalf
  have hzero : (a - b).toInt ≠ 0 := by
    intro h
    have h0 : a - b = 0#32 := BitVec.eq_of_toInt_eq (by simpa using h)
    exact hne (by bv_omega)
  rw [seqAbove, seqAbove, hneg, BitVec.toInt_neg_of_ne_intMin hmin]
  by_cases h : 0 < (a - b).toInt
  · simp only [h, decide_true, Bool.not_true, decide_eq_false_iff_not]
    omega
  · simp only [h, decide_false, Bool.not_false, decide_eq_true_eq]
    omega

/-- R259: the copy that a record's next write goes to is never the newest valid one. -/
theorem TwoCopy.next_keeps (t : TwoCopy) (kind inst : Nat)
    (h : ∀ a b, t.a = some a → t.b = some b → a.seq ≠ b.seq ∧ a.seq - b.seq ≠ 0x80000000#32) :
    (if (t.next kind inst).1 then t.b else t.a).filter (copyValid kind inst) = t.newest kind inst ∧
    ∀ c, t.newest kind inst = some c → (t.next kind inst).2 = c.seq + 1 := by
  unfold TwoCopy.next TwoCopy.newest
  cases ha : t.a.filter (copyValid kind inst) with
  | none =>
    cases hb : t.b.filter (copyValid kind inst) with
    | none => simp [hb]
    | some b => simp [hb]
  | some a =>
    cases hb : t.b.filter (copyValid kind inst) with
    | none => simp [ha]
    | some b =>
      obtain ⟨hne, hhalf⟩ := h a b (Option.filter_eq_some_iff.mp ha).1 (Option.filter_eq_some_iff.mp hb).1
      have hflip := seqAbove_flip hne hhalf
      cases habove : seqAbove a.seq b.seq with
      | true => simp [hflip, habove, ha]
      | false => simp [hflip, habove, hb]

/-! ### Aborts and deadlines -/

section
variable {s : State} {sel : CalSel} (hd : s.fitted (selDie sel) = true)
include hd

theorem exec_calAbort (hi : s.isolated (selDie sel) = false) :
    exec (.calAbort sel) s = .next ((s.calEnd (selDie sel) (calInst sel) 2 0).answer St.success) :=
  statusCommand_answered (f := fun s => s.calCommand (selDie sel) (calInst sel) 0) hd hi

theorem exec_calTimeout_of_idle (hr : (s.die (selDie sel)).calRuns.find? (calInst sel) = none) :
    exec (.calTimeout sel) s = .next s := by
  rw [exec_onDie (c := .calTimeout sel) (execCalTimeout sel s) rfl rfl hd]
  dsimp only
  rw [hr]

theorem exec_calTimeout_of_early {r : CalRun} (hr : (s.die (selDie sel)).calRuns.find? (calInst sel) = some r)
    (he : (((s.die (selDie sel)).clock.rev + 16777216 - r.startRev) % 16777216 : Nat) <
      s.getSub Obj.calDeadline r.kind.toNat (dieInst (selDie sel))) : exec (.calTimeout sel) s = .next s := by
  rw [exec_onDie (c := .calTimeout sel) (execCalTimeout sel s) rfl rfl hd]
  dsimp only
  rw [hr]
  exact congrArg Host.Outcome.next (if_neg (by omega))

omit hd in
theorem CalRun.byHead_of_not {r : CalRun} {i : Nat} (h : headKind r.kind.toNat = false) : r.byHead i = false := by
  rw [CalRun.byHead, h, Bool.false_and]

/-- R238, R242: an abort of a run. -/
theorem calAbort_runs (hi : s.isolated (selDie sel) = false) {r : CalRun}
    (hr : (s.die (selDie sel)).calRuns.find? (calInst sel) = some r) : Runs (.calAbort sel) s fun t =>
      t.reply = ⟨St.success, 0, []⟩ ∧ (t.die (selDie sel)).calRuns.find? (calInst sel) = none ∧
      (∀ j, j ≠ calInst sel → (t.die (selDie sel)).calRuns.find? j = (s.die (selDie sel)).calRuns.find? j) ∧
      (headKind r.kind.toNat = false → t.get Obj.calResult (calInst sel) = 2) ∧
      ∀ e, e ≠ selDie sel → t.die e = s.die e := by
  obtain ⟨u, hend, hrep, hwhole, -⟩ := State.calEnd_reports 2 0 (calInst_lt sel) hr
  have hexec := exec_calAbort hd hi
  rw [hend] at hexec
  refine Runs.intro hexec ⟨rfl, ?_, fun j hj => ?_, fun hk => hwhole (CalRun.byHead_of_not hk), fun e he => ?_⟩
  · rw [State.answer_die, State.modDie_die_self]
    exact KMap.find?_erase_self ..
  · rw [State.answer_die, State.modDie_die_self, hrep.die]
    exact KMap.find?_erase_ne _ hj
  · rw [State.answer_die, State.modDie_die_ne _ _ _ _ he, hrep.die]

/-- R243: a passed deadline. -/
theorem calTimeout_runs {r : CalRun} (hr : (s.die (selDie sel)).calRuns.find? (calInst sel) = some r)
    (hlate : s.getSub Obj.calDeadline r.kind.toNat (dieInst (selDie sel)) ≤
      (((s.die (selDie sel)).clock.rev + 16777216 - r.startRev) % 16777216 : Nat)) : Runs (.calTimeout sel) s fun t =>
      (t.die (selDie sel)).calTimeout = true ∧ (t.die (selDie sel)).calRuns.find? (calInst sel) = none ∧
      (headKind r.kind.toNat = false → t.get Obj.calResult (calInst sel) = 3) ∧
      Logged (selDie sel) Ev.calTimeout.src Ev.calTimeout s t ∧ ∀ e, e ≠ selDie sel → t.die e = s.die e := by
  have hsrc : Ev.calTimeout.src ≠ 119 ∨ selDie sel = 0 := .inl (by decide)
  obtain ⟨u, hend, hrep, hwhole, -⟩ := State.calEnd_reports 3 0 (calInst_lt sel) hr
  have hexec := exec_calTimeout_of_passed hd hr hlate
  rw [State.calEnd_timeout hend] at hexec
  have hdie : ∀ e, u.die e = s.die e := hrep.die
  generalize hv : u.modDie (selDie sel) (Die.calTimedOut (calInst sel) r.kind.toNat) = v at hexec
  have hvself : v.die (selDie sel) = (s.die (selDie sel)).calTimedOut (calInst sel) r.kind.toNat := by
    rw [← hv, State.modDie_die_self, hdie]
  have hvget : v.get Obj.calResult (calInst sel) = u.get Obj.calResult (calInst sel) := hv ▸ rfl
  have hreport := State.raise_reported [] v (selDie sel) Ev.calTimeout (calTimeoutData (calInst sel) r.kind.toNat) hsrc
  have hlog := State.raise_logs (s := s) v Ev.calTimeout (calTimeoutData (calInst sel) r.kind.toNat) hsrc (by decide)
    (by rw [hvself]; rfl) (by rw [hvself]; rfl) rfl
  refine Runs.intro hexec ⟨?_, ?_, fun hk => ?_, hlog, fun e he => ?_⟩
  · rw [hreport.die_eq, hvself]
    rfl
  · rw [hreport.calRuns, hvself]
    exact KMap.find?_erase_self ..
  · rw [Gives.get hreport (by decide) (calInst_lt sel), hvget]
    exact hwhole (CalRun.byHead_of_not hk)
  · rw [hreport.die_ne he, ← hv, State.modDie_die_ne _ _ _ _ he, hdie]

end

/-! ### A run that has converged -/

section
variable {s : State} {d : DieId} {kind inst revs : Nat} {p : List Byte}

/-- What of a die a record's values and its evaluation leave: the records, the runs, and what the shutdown state rests
on. -/
def Die.calFiles (x : Die) : KMap TwoCopy × KMap CalRun := (x.calRecords, x.calRuns)

theorem KeptBy.applyPayload : KeptBy Die.calFiles d s (s.applyPayload d kind inst p) := by
  unfold State.applyPayload
  split
  · exact KeptBy.put
  · exact KeptBy.of_dies rfl
  · exact KeptBy.of_dies rfl
  · exact KeptBy.put
  · exact KeptBy.put
  · exact KeptBy.put
  · exact KeptBy.put.trans (KeptBy.modSpin fun _ _ => rfl)
  · exact KeptBy.refl

theorem KeptBy.evalRecord : KeptBy Die.calFiles d s (s.evalRecord d kind inst) := by
  unfold State.evalRecord
  split
  · exact KeptBy.modDie fun _ => rfl
  · refine KeptBy.trans KeptBy.putSub (KeptBy.ite ?_ KeptBy.refl)
    refine KeptBy.trans ?_ (KeptBy.raise (k := Ev.calStale) (fun _ _ => rfl) (.inl (by decide)))
    exact KeptBy.modDie fun _ => rfl

/-- The record's copies after its next write (08 R259). -/
def TwoCopy.written (t : TwoCopy) (kind inst : Nat) (c : Copy) : TwoCopy :=
  if (t.next kind inst).1 then { t with a := some c } else { t with b := some c }

/-- One copy of a record written (08 R259). -/
def State.recordPut (s : State) (d : DieId) (kind inst : Nat) (c : Copy) : State :=
  s.modDie d fun x => { x with
    calRecords := x.calRecords.insert (kind * 256 + inst) (((s.die d).calRecords.getD (kind * 256 + inst) {}).written kind inst c) }

theorem State.recordPut_die (s : State) (d : DieId) (kind inst : Nat) (c : Copy) :
    (s.recordPut d kind inst c).die d = { s.die d with
      calRecords := (s.die d).calRecords.insert (kind * 256 + inst) (((s.die d).calRecords.getD (kind * 256 + inst) {}).written kind inst c) } :=
  State.modDie_die_self ..

theorem State.storeCopy_eq (make : Nat → List Byte) (h : (s.die d).hk.state ≠ .shutdown) : ∃ c : Copy,
    c.seq = (((s.die d).calRecords.getD (kind * 256 + inst) {}).next kind inst).2 ∧
    s.storeCopy d kind inst make = some (s.recordPut d kind inst c, c.seq.toNat) :=
  ⟨⟨_, _⟩, rfl, if_neg h⟩

/-- R244, R259: a record written, outside thermal shutdown. -/
theorem State.writeRecord_spec (origin : Nat) (h : (s.die d).hk.state ≠ .shutdown) :
    ∃ u n c, s.writeRecord d kind inst origin revs p = some (u, n) ∧
      c.seq = (((s.die d).calRecords.getD (kind * 256 + inst) {}).next kind inst).2 ∧
      (u.die d).calRecords = (s.die d).calRecords.insert (kind * 256 + inst)
        (((s.die d).calRecords.getD (kind * 256 + inst) {}).written kind inst c) ∧
      (u.die d).calRuns = (s.die d).calRuns ∧ ∀ e, e ≠ d → u.die e = s.die e := by
  generalize ht : s.writeRecord d kind inst origin revs p = t
  unfold State.writeRecord at ht
  extract_lets temp serial q at ht
  obtain ⟨c, hseq, hstore⟩ := State.storeCopy_eq (kind := kind) (inst := inst) (fun seq =>
    recordBytes kind inst origin seq temp (s.getN Obj.powerOnHours (dieInst d)) serial revs q p) h
  rw [hstore] at ht
  have hself := s.recordPut_die d kind inst c
  have hothers : ∀ e, e ≠ d → (s.recordPut d kind inst c).die e = s.die e := fun e he => State.modDie_die_ne _ _ _ _ he
  dsimp only at ht
  generalize s.recordPut d kind inst c = v at ht hself hothers
  have hkept : KeptBy Die.calFiles d v ((v.applyPayload d kind inst p).evalRecord d kind inst) :=
    KeptBy.applyPayload.trans KeptBy.evalRecord
  generalize (v.applyPayload d kind inst p).evalRecord d kind inst = u at ht hkept
  have hrecords : (u.die d).calRecords = (v.die d).calRecords := congrArg (fun q => q.1) hkept.self
  have hruns : (u.die d).calRuns = (v.die d).calRuns := congrArg (fun q => q.2) hkept.self
  refine ⟨u, _, c, ht.symm, hseq, ?_, ?_, fun e he => (hkept.others e he).trans (hothers e he)⟩
  · rw [hrecords, hself]
  · rw [hruns, hself]

end

/-! ### A run that has converged -/

section
variable {s : State} {d : DieId} {kind inst revs : Nat} {p : List Byte}

theorem State.calCommit_bad (h : s.payloadOk d kind inst p = false) : s.calCommit d kind inst revs p = (s, 7, 0) :=
  if_pos (by simp [h])

/-- R244: values that pass their checks are stored in one copy of the record. -/
theorem State.calCommit_good (h : s.payloadOk d kind inst p = true) (hs : (s.die d).hk.state ≠ .shutdown) :
    ∃ u n c, s.calCommit d kind inst revs p = (u, 0, n) ∧
      c.seq = (((s.die d).calRecords.getD (kind * 256 + inst) {}).next kind inst).2 ∧
      (u.die d).calRecords = (s.die d).calRecords.insert (kind * 256 + inst)
        (((s.die d).calRecords.getD (kind * 256 + inst) {}).written kind inst c) ∧
      (u.die d).calRuns = (s.die d).calRuns ∧ ∀ e, e ≠ d → u.die e = s.die e := by
  obtain ⟨u, n, c, hwrite, hseq, hrecords, hruns, hothers⟩ := State.writeRecord_spec (revs := revs) (p := p) 1 hs
  have hput : ∀ (v : Int) e, (u.put Obj.assistHeadEnable inst v).die e = u.die e := fun v e => by simp [State.put_eq, State.die]
  have hcommit : s.calCommit d kind inst revs p = _ := if_neg (by simp [h])
  rw [hwrite] at hcommit
  dsimp only at hcommit
  refine ⟨_, n, c, hcommit, hseq, ?_, ?_, fun e he => ?_⟩
  · rw [← hrecords]
    split
    · split
      · rw [hput]
      · rfl
    · rfl
  · rw [← hruns]
    split
    · split
      · rw [hput]
      · rfl
    · rfl
  · rw [← hothers e he]
    split
    · split
      · rw [hput]
      · rfl
    · rfl

end

section
variable {s : State} {sel : CalSel} {m : CalMeasure} {r : CalRun} (hd : s.fitted (selDie sel) = true)
variable (hr : (s.die (selDie sel)).calRuns.find? (calInst sel) = some r)
variable (hk : headKind r.kind.toNat = true → calInst sel % 32 < 24)

/-- How a run at its own place ends on a measurement's values (08 R244). -/
def State.runCommits (s : State) (sel : CalSel) (r : CalRun) (p : List Byte) : State :=
  let d := selDie sel
  let i := calInst sel
  let k := r.kind.toNat
  let c := s.calCommit d k i (((s.die d).clock.rev + 16777216 - r.startRev) % 16777216) p
  let u := c.1.calEnd d i c.2.1 c.2.2
  if c.2.1 = 0 then u.calDoneEvent d k i else u

include hd hr hk

theorem exec_calConverge : exec (.calConverge sel m) s = .next (if r.paused then s
    else match s.measured (selDie sel) r.kind.toNat (calInst sel) r m with
      | none => s
      | some p => s.runCommits sel r p) := by
  have hfor : (s.die (selDie sel)).calRunFor (selDie sel) sel = some (calInst sel, r) := by
    unfold Die.calRunFor
    dsimp only
    rw [hr]
    exact if_neg fun h => by have := hk h.1; omega
  rw [exec_onDie (c := .calConverge sel m) (execCalConverge sel m s) rfl rfl hd]
  refine congrArg Host.Outcome.next ?_
  unfold State.calConverged
  rw [hfor]
  dsimp only
  split
  · rfl
  · cases s.measured (selDie sel) r.kind.toNat (calInst sel) r m with
    | none => rfl
    | some p => exact if_pos rfl

omit hd hr in
theorem CalRun.byHead_of_own : r.byHead (calInst sel) = false := by
  unfold CalRun.byHead
  cases h : headKind r.kind.toNat with
  | false => rfl
  | true =>
    have := hk h
    simp only [Bool.true_and, decide_eq_false_iff_not]
    omega

/-- R244: values that fail their checks leave every record as it was. -/
theorem calConverge_refuses {p : List Byte} (hp : r.paused = false)
    (hm : s.measured (selDie sel) r.kind.toNat (calInst sel) r m = some p)
    (hbad : s.payloadOk (selDie sel) r.kind.toNat (calInst sel) p = false) : Runs (.calConverge sel m) s fun t =>
      (t.die (selDie sel)).calRuns.find? (calInst sel) = none ∧ t.get Obj.calResult (calInst sel) = 7 ∧
      (t.die (selDie sel)).calFailed = true ∧ (t.die (selDie sel)).calRecords = (s.die (selDie sel)).calRecords ∧
      ∀ e, e ≠ selDie sel → t.die e = s.die e := by
  have hexec := exec_calConverge (m := m) hd hr hk
  rw [hp, hm] at hexec
  have hcommit : s.runCommits sel r p = s.calEnd (selDie sel) (calInst sel) 7 0 := by
    unfold State.runCommits
    dsimp only
    rw [State.calCommit_bad hbad]
    exact if_neg (show ¬ (7 : Nat) = 0 by decide)
  obtain ⟨u, hend, hrep, hwhole, -⟩ := State.calEnd_reports 7 0 (calInst_lt sel) hr
  refine Runs.intro (hexec.trans (congrArg Host.Outcome.next (hcommit.trans hend))) ⟨?_, ?_, ?_, ?_, fun e he => ?_⟩
  · rw [State.modDie_die_self]
    exact KMap.find?_erase_self ..
  · exact hwhole (CalRun.byHead_of_own hk)
  · rw [State.modDie_die_self]
    simp [Die.calEnded]
  · rw [State.modDie_die_self, hrep.die]
    rfl
  · rw [State.modDie_die_ne _ _ _ _ he, hrep.die]

/-- R244, R246, R259: values that pass their checks. -/
theorem calConverge_commits {p : List Byte} (hp : r.paused = false)
    (hm : s.measured (selDie sel) r.kind.toNat (calInst sel) r m = some p)
    (hgood : s.payloadOk (selDie sel) r.kind.toNat (calInst sel) p = true)
    (hs : (s.die (selDie sel)).hk.state ≠ .shutdown) : Runs (.calConverge sel m) s fun t =>
      let key := r.kind.toNat * 256 + calInst sel
      let old : TwoCopy := (s.die (selDie sel)).calRecords.getD key {}
      (t.die (selDie sel)).calRuns.find? (calInst sel) = none ∧ t.get Obj.calResult (calInst sel) = 0 ∧
      (t.die (selDie sel)).calDone = true ∧
      (∃ c : Copy, c.seq = (old.next r.kind.toNat (calInst sel)).2 ∧ (t.die (selDie sel)).calRecords.getD key {} =
        if (old.next r.kind.toNat (calInst sel)).1 then { old with a := some c } else { old with b := some c }) ∧
      (∀ j, j ≠ key → (t.die (selDie sel)).calRecords.find? j = (s.die (selDie sel)).calRecords.find? j) ∧
      ∀ e, e ≠ selDie sel → t.die e = s.die e := by
  have hexec := exec_calConverge (m := m) hd hr hk
  rw [hp, hm] at hexec
  obtain ⟨u, n, c, hcommit, hseq, hrecords, hruns, hothers⟩ := State.calCommit_good
    (revs := ((s.die (selDie sel)).clock.rev + 16777216 - r.startRev) % 16777216) hgood hs
  have hdone : s.runCommits sel r p =
      (u.calEnd (selDie sel) (calInst sel) 0 n).calDoneEvent (selDie sel) r.kind.toNat (calInst sel) := by
    unfold State.runCommits
    dsimp only
    rw [hcommit]
    exact if_pos rfl
  obtain ⟨v, hend, hrep, hwhole, -⟩ := State.calEnd_reports (s := u) (d := selDie sel) 0 n (calInst_lt sel) (hruns ▸ hr)
  rw [hend] at hdone
  have hres := hwhole (CalRun.byHead_of_own hk)
  unfold State.calDoneEvent at hdone
  generalize hw : (v.modDie (selDie sel) (Die.calEnded (calInst sel) r.kind.toNat 0)).modDie (selDie sel)
    (fun x => { x with calDone := true }) = w at hdone
  have hself : w.die (selDie sel) = { (u.die (selDie sel)).calEnded (calInst sel) r.kind.toNat 0 with calDone := true } := by
    rw [← hw, State.modDie_die_self, State.modDie_die_self, hrep.die]
  have hwothers : ∀ e, e ≠ selDie sel → w.die e = s.die e := fun e he => by
    rw [← hw, State.modDie_die_ne _ _ _ _ he, State.modDie_die_ne _ _ _ _ he, hrep.die, hothers e he]
  have hwget : w.get Obj.calResult (calInst sel) = 0 := by
    rw [← hw]
    exact hres
  have hreport := State.raise_reported [] w (selDie sel) Ev.calDone
    [(1, (r.kind.toNat : Int)), (1, (calInst sel : Int))] (.inl (by decide))
  refine Runs.intro (hexec.trans (congrArg Host.Outcome.next hdone)) ?_
  generalize w.raise (selDie sel) Ev.calDone [(1, (r.kind.toNat : Int)), (1, (calInst sel : Int))] = t at hreport
  have hdie := hreport.die_eq
  have htrecords : (t.die (selDie sel)).calRecords = (u.die (selDie sel)).calRecords := by
    rw [hdie, hself]
    rfl
  refine ⟨?_, ?_, ?_, ⟨c, hseq, ?_⟩, fun j hj => ?_, fun e he => (hreport.die_ne he).trans (hwothers e he)⟩
  · rw [hreport.calRuns, hself]
    exact KMap.find?_erase_self ..
  · rw [Gives.get hreport (by decide) (calInst_lt sel), hwget]
  · rw [hdie, hself]
  · rw [htrecords, hrecords, KMap.getD_insert_self]
    rfl
  · rw [htrecords, hrecords, KMap.find?_insert_ne _ _ hj]

end

/-- Settles O23: the ends of a calibration, and the two copies of its record. -/
theorem calibrationEndsAndRecords : Obligations.CalibrationEndsAndRecords := by
  unfold Obligations.CalibrationEndsAndRecords
  refine ⟨fun s sel hd => ⟨fun hi hr => ⟨?_, exec_calTimeout_of_idle hd hr⟩, fun r hr => ⟨fun hi => calAbort_runs hd hi hr,
      fun hlate => calTimeout_runs hd hr hlate, fun he => exec_calTimeout_of_early hd hr he⟩⟩,
    fun s sel m r hd hr hk => ⟨fun hp => ?_, fun hp hm => ?_, fun p hp hm hbad => calConverge_refuses hd hr hk hp hm hbad,
      fun p hp hm hgood hs => calConverge_commits hd hr hk hp hm hgood hs⟩, TwoCopy.next_keeps⟩
  · rw [exec_calAbort hd hi, State.calEnd_of_idle hr]
  · rw [exec_calConverge hd hr hk, hp]
    rfl
  · rw [exec_calConverge hd hr hk, hp, hm]
    rfl

end Sys2Proof.Machine

/-! PROOFS. O25: destaging a zone by its kind. -/

namespace Sys2Proof.Machine

/-! ### Where a block of a conventional zone stands -/

/-- t has the objects and tables of s, and the format, the defects, the track count and the wedge table of its die d. -/
structure SameLayout (d : DieId) (s t : State) : Prop where
  objs : t.objs = s.objs
  doms : t.doms = s.doms
  table : (t.die d).clock.table = (s.die d).clock.table
  tracks : (t.die d).tracks = (s.die d).tracks
  formatted : (t.die d).data.formatted = (s.die d).data.formatted
  nb : (t.die d).data.nb = (s.die d).data.nb
  bandTracks : (t.die d).data.bandTracks = (s.die d).data.bandTracks
  bandGuard : (t.die d).data.bandGuard = (s.die d).data.bandGuard
  convBands : (t.die d).data.convBands = (s.die d).data.convBands
  defects : (t.die d).data.defects = (s.die d).data.defects

namespace SameLayout
variable {d : DieId} {s t : State} (h : SameLayout d s t)
include h

theorem getN (o : ObjDef) (i : Nat) : t.getN o i = s.getN o i := by
  simp only [State.getN, State.get, State.getSub, h.objs]

theorem sectorsPerTrack (n : HeadId) (k : Nat) : t.sectorsPerTrack d n k = s.sectorsPerTrack d n k := by
  simp only [State.sectorsPerTrack, State.layout, State.guardAu, State.region, State.regionAt, State.regions, State.dom,
    h.getN, h.doms, h.table]

theorem goodSectors (n : HeadId) (k : Nat) : t.goodSectors d n k = s.goodSectors d n k := by
  simp only [State.goodSectors, h.sectorsPerTrack, h.defects]

theorem bandTracksOf : t.bandTracksOf d = s.bandTracksOf d := by
  simp only [State.bandTracksOf, h.formatted, h.bandTracks, h.getN]

theorem bandSectors (c : Bool) (n : HeadId) (b : Nat) : t.bandSectors d c n b = s.bandSectors d c n b := by
  simp only [State.bandSectors, State.bandGuardOf, h.bandTracksOf, h.formatted, h.bandGuard, h.getN, h.goodSectors]

theorem convSlots (a : Act) (n : Nat) : t.convSlots d a n = s.convSlots d a n := by
  have hb : t.bandSectors d true = s.bandSectors d true := funext fun n => funext (h.bandSectors true n)
  simp only [State.convSlots, hb]

theorem convBandsOf : t.convBandsOf d = s.convBandsOf d := by
  simp only [State.convBandsOf, State.formatConvBands, State.numBands, h.formatted, h.convBands, h.tracks, h.nb, h.getN,
    h.convSlots]

theorem rowSlots (hs : List HeadId) (k : Nat) : t.rowSlots d hs k = s.rowSlots d hs k := by
  simp only [State.rowSlots, h.goodSectors, h.sectorsPerTrack]

theorem findSlot (hs : List HeadId) (base : Nat) (taus : List Nat) (slot : Nat) :
    t.findSlot d hs base taus slot = s.findSlot d hs base taus slot := by
  induction taus generalizing slot with
  | nil => rfl
  | cons tau rest ih => simp only [State.findSlot, h.rowSlots, ih]

theorem convFind (a : Act) (bs : List Nat) (slot : Nat) : t.convFind d a bs slot = s.convFind d a bs slot := by
  induction bs generalizing slot with
  | nil => rfl
  | cons b rest ih => simp only [State.convFind, h.bandSectors, h.bandTracksOf, h.findSlot, ih]

/-- The place of a block of a conventional zone is a matter of the layout. -/
theorem convPlace (b : Nat) : t.convPlace d b = s.convPlace d b := by
  simp only [State.convPlace, h.convBandsOf, h.convFind]

end SameLayout

theorem State.pendOpen_sameLayout (s : State) (d : DieId) : SameLayout d s (s.pendOpen d) := by
  have hd : (s.pendOpen d).die d = { s.die d with data := { (s.die d).data with
    jq := (s.die d).data.jq ++ [⟨0, [], [], []⟩] } } := State.modData_die_self s d _
  constructor <;> first | rfl | rw [hd]

/-! ### Conventional zones -/

section
variable {s : State} {d : DieId} {z o : Nat} {v : CacheVer} {h : HeadId} {loc : SectorLoc}

/-- A block put in place: its sector, its marks dropped, and a record that waits with it. -/
def DieData.placed (x : DieData) (b : Nat) (h : HeadId) (loc : SectorLoc) (sec : Sector) (asn : Nat) : DieData :=
  { x with
    media := x.media.insert (mediaKey h loc.track.toNat loc.sector.toNat) sec
    unreadable := x.unreadable.erase b, rc := x.rc.erase b
    jq := x.jq ++ [⟨0, [], [], [(b, asn)]⟩] }

/-- What putBlock writes to the medium. -/
def State.blockSector (s : State) (d : DieId) (b dom resets : Nat) (seg : Option Nat) (data : Block) : Sector :=
  ⟨if (s.keyDom d dom).state = .keyed then blockOfBytes (s.stored d dom b resets (blockBytes data)) else data, data, 0,
    s.writeSeq d seg⟩

theorem State.putBlock_eq (s : State) (d : DieId) (b dom resets : Nat) (seg : Option Nat) (h : HeadId) (loc : SectorLoc)
    (data : Block) : s.putBlock d b dom resets seg h loc data =
      (s.putSector d h loc (s.blockSector d b dom resets seg data)).modData d fun x =>
        { x with unreadable := x.unreadable.erase b } := rfl

/-- The block is put in place with its record to come. -/
theorem State.destageConv_one (hread : s.readPending d (z * zoneSpan + o) v.asn = false)
    (hplace : s.convPlace d (z * zoneSpan + o) = some (h, loc)) (hw : s.headWritable d h = true) :
    ∃ sec : Sector, sec.payload = v.data ∧ ((s.pendOpen d).destageConv d z (o, v)).pendClose d =
      s.modData d fun x => x.placed (z * zoneSpan + o) h loc sec v.asn := by
  have hread' : (s.pendOpen d).readPending d (z * zoneSpan + o) v.asn = false := hread
  have hw' : (s.pendOpen d).headWritable d h = true := hw
  have hplace' := (s.pendOpen_sameLayout d).convPlace (z * zoneSpan + o)
  rw [hplace] at hplace'
  refine ⟨(s.pendOpen d).blockSector d (z * zoneSpan + o) ((s.pendOpen d).zone d z).desc.content.keyDomain
    ((s.pendOpen d).zone d z).desc.content.resetCount none v.data, rfl, ?_⟩
  simp only [State.destageConv, hread', hplace', hw', Bool.false_eq_true, if_false, Bool.not_true, State.putBlock_eq]
  generalize (s.pendOpen d).blockSector d _ _ _ none v.data = sec
  simp only [State.pendClose, State.pendItem, State.pendOpen, State.putSector, State.modData, State.modDie_modDie]
  simp [DieData.placed]

end

/-! ### Compressed zones -/

section
variable {s t : State} {d : DieId} {z : Nat}

/-- t is s but for compression jobs of zone z behind those that wait, and for what the zones say. -/
def QueuesJobs (d : DieId) (z : Nat) (s t : State) : Prop :=
  ∃ js : List Job, (∀ k ∈ js, k.zone = z ∧ k.decomp = false) ∧ t = s.modData d fun x =>
    { x with compQ := x.compQ ++ js, zones := (t.die d).data.zones }

theorem QueuesJobs.refl : QueuesJobs d z s s :=
  ⟨[], fun _ hk => absurd hk List.not_mem_nil, by
    simp only [List.append_nil]
    exact (State.setDie_die s d).symm⟩

theorem QueuesJobs.modZone {f : Zone → Zone} : QueuesJobs d z s (s.modZone d z f) :=
  ⟨[], fun _ hk => absurd hk List.not_mem_nil, by
    rw [State.modZone, State.putZone, State.modData_die_self]
    simp only [List.append_nil]
    rfl⟩

theorem QueuesJobs.cons {j : Job} (hz : j.zone = z) (hj : j.decomp = false)
    (h : QueuesJobs d z (s.modData d fun x => { x with compQ := x.compQ ++ [j] }) t) : QueuesJobs d z s t := by
  obtain ⟨js, hjs, ht⟩ := h
  refine ⟨j :: js, ?_, ?_⟩
  · simp only [List.mem_cons, forall_eq_or_imp]
    exact ⟨⟨hz, hj⟩, hjs⟩
  · rw [State.modData, State.modData, State.modDie_modDie] at ht
    simpa [State.modData] using ht

/-- The queueing of jobs does nothing else. -/
theorem State.queueJobs_spec (fuel : Nat) (s : State) : QueuesJobs d z s (s.queueJobs d z fuel) := by
  induction fuel generalizing s with
  | zero => exact QueuesJobs.refl
  | succ fuel ih =>
    simp only [State.queueJobs]
    split
    · split
      · exact QueuesJobs.modZone
      · exact QueuesJobs.refl
    · split
      · exact QueuesJobs.refl
      · split
        · exact QueuesJobs.refl
        · exact QueuesJobs.cons rfl rfl (ih _)

/-- The job of a whole husk. -/
def huskJob (z e : Nat) (vs : List (Nat × CacheVer)) : Job :=
  { decomp := false, zone := z, offset := e, input := vs.flatMap fun p => blockBytes p.2.data, short := false
    chain := 0, shortChain := false, unit := 0, clean := vs.map fun p => (z * zoneSpan + p.1, p.2.asn)
    depth := 0, lzy := false, nice := 0 }

/-- A whole husk whose blocks are all there is queued, and then whatever else is ready. -/
theorem State.queueJobs_whole {vs : List (Nat × CacheVer)} (fuel : Nat)
    (hwp : (s.compEnd d z / max 1 (s.zone d z).desc.content.huskBlocks + 1) * max 1 (s.zone d z).desc.content.huskBlocks ≤
      (s.zone d z).desc.content.wp)
    (hvs : s.runVers d z (s.compEnd d z)
      ((s.compEnd d z / max 1 (s.zone d z).desc.content.huskBlocks + 1) * max 1 (s.zone d z).desc.content.huskBlocks -
        s.compEnd d z) = some vs) :
    ∃ j : Job, j.zone = z ∧ j.offset = s.compEnd d z ∧ j.decomp = false ∧ j.short = false ∧
      j.input = vs.flatMap (fun p => blockBytes p.2.data) ∧ s.queueJobs d z (fuel + 1) =
        (s.modData d fun x => { x with compQ := x.compQ ++ [j] }).queueJobs d z fuel := by
  have hlt : s.compEnd d z < (s.compEnd d z / max 1 (s.zone d z).desc.content.huskBlocks + 1) *
      max 1 (s.zone d z).desc.content.huskBlocks := by
    rw [Nat.mul_comm]
    exact Nat.lt_mul_div_succ _ (by omega)
  refine ⟨huskJob z (s.compEnd d z) vs, rfl, rfl, rfl, rfl, rfl, ?_⟩
  simp only [State.queueJobs, Nat.min_eq_right hwp, Nat.not_le.2 hlt, decide_true, Bool.true_or, Bool.not_true,
    Bool.false_eq_true, if_false, hvs]
  rfl

end

/-- Settles O25: by the kind of the zone; the queue of jobs by induction on the jobs of the command. -/
theorem destageByZoneKind : Obligations.DestageByZoneKind := by
  intro s d z hd
  have hexec : exec (.destage d z) s = _ := exec_onDie (execDestage d z s) rfl rfl hd
  refine ⟨fun hm => ?_, fun o v h loc hm hc hv hread hplace hw => ?_, fun vs hm hc => ?_⟩
  · rw [hexec, hm]
    rfl
  · simp only [hm, hc, hv, Bool.not_true, Bool.false_eq_true, if_false, if_true, List.foldl_cons, List.foldl_nil] at hexec
    obtain ⟨sec, hsec, ht⟩ := State.destageConv_one hread hplace hw
    exact ⟨_, hexec, sec, hsec, ht⟩
  · intro c hb e hk hwp hvs
    have hk' : (s.zone d z).desc.content.huskKib ≠ 0 := hk
    simp only [hm, hc, Bool.not_true, Bool.false_eq_true, if_false, if_pos hk'] at hexec
    obtain ⟨j, hz, ho, hdec, hs, hin, hq⟩ := State.queueJobs_whole 8191 hwp hvs
    obtain ⟨js, hjs, ht⟩ := State.queueJobs_spec (d := d) (z := z) 8191 (s.modData d fun x => { x with compQ := x.compQ ++ [j] })
    rw [hq] at hexec
    generalize (s.modData d fun x => { x with compQ := x.compQ ++ [j] }).queueJobs d z 8191 = t at hexec ht
    rw [State.modData, State.modData, State.modDie_modDie] at ht
    have hcomp : t = s.setDie d { s.die d with data := { (s.die d).data with
        compQ := (s.die d).data.compQ ++ j :: js, zones := (t.die d).data.zones } } := by
      simpa [State.modDie] using ht
    refine ⟨t, hexec, j, js, ?_, hz, ho, hdec, hs, hin, hjs, hcomp⟩
    rw [hcomp]
    simp

end Sys2Proof.Machine

/-! PROOFS. O26: compression jobs, decompression jobs, and the placing of husks. -/

namespace Sys2Proof.Machine

/-! ### Jobs -/

section
variable {s : State} {d : DieId} {l : Nat} {j : Job} {rest : List Job}

/-- The chain given to a job: its input less 64 bytes, less where staging space is tight. -/
def State.chainFor (s : State) (d : DieId) (buffers : Option Nat) (full : Nat) : Nat :=
  match buffers with
  | some n => if s.stagingTight d then min full (max 1 n * 4096) else full
  | none => full

theorem State.chainFor_le (s : State) (d : DieId) (buffers : Option Nat) (full : Nat) :
    s.chainFor d buffers full ≤ full := by
  unfold State.chainFor
  split
  · split
    · exact Nat.min_le_left _ _
    · exact le_rfl
  · exact le_rfl

theorem State.chainFor_full {buffers : Option Nat} (h : buffers = none ∨ s.stagingTight d = false) (full : Nat) :
    s.chainFor d buffers full = full := by
  cases buffers with
  | none => rfl
  | some n => simp [State.chainFor, h.resolve_left (by simp)]

/-- A free lane takes the first compression job that waits. -/
theorem compressJob_taken (hd : s.fitted d = true) (hl : (s.die d).data.freeLane = some l)
    (hq : (s.die d).data.compQ = j :: rest) (ht : s.takesDecomp d = false) (hp : (s.die d).data.pfail = none)
    (buffers : Option Nat) :
    exec (.compressJob d buffers) s = .next (s.modData d fun x => { x with
      compQ := rest
      lanes := x.lanes.set l (some { j with
        chain := s.chainFor d buffers (j.input.length - 64)
        shortChain := decide (s.chainFor d buffers (j.input.length - 64) < j.input.length - 64)
        depth := s.getN Obj.chainDepth (dieInst d), lzy := s.getB Obj.lazy (dieInst d)
        nice := s.getN Obj.niceLength (dieInst d) }) }) := by
  have hexec : exec (.compressJob d buffers) s = _ := exec_onDie (execCompressJob d buffers s) rfl rfl hd
  dsimp only at hexec
  simp only [hl, hq, ht, hp, Option.isSome_none, Bool.or_self, Bool.false_eq_true, if_false] at hexec
  exact hexec

/-- The job at the head of the queue goes to the free lane when decompression has its turn. -/
theorem decompressJob_taken (hd : s.fitted d = true) (hl : (s.die d).data.freeLane = some l)
    (hq : (s.die d).data.decompQ = j :: rest) (ht : s.takesDecomp d = true) :
    exec (.decompressJob d) s = .next (s.modData d fun x => { x with
      decompQ := rest, lanes := x.lanes.set l (some j) }) := by
  have hexec : exec (.decompressJob d) s = _ := exec_onDie (execDecompressJob d s) rfl rfl hd
  dsimp only at hexec
  simp only [hl, hq, ht, if_true] at hexec
  exact hexec

end

section
variable {s : State} {d : DieId} {lane : Fin 16} {j : Job}

theorem Job.husk_storedLen (j : Job) (domain : Nat) : (j.husk domain).storedLen = (j.husk domain).stored.length := by
  simp only [Job.husk]
  split <;> rfl

/-- What the end of a compression job counts: the chain's overflows, and a husk stored raw. -/
def Job.tally (j : Job) (i : Nat) (d : DieId) (s : State) : State :=
  let raw := decide (j.chain < j.output.length)
  let moves := if raw then (j.chain + 4095) / 4096 - 1 else (j.output.length - 1) / 4096
  let s := s.bump Obj.overflowCount i moves
  let s := if !raw then s
    else (if j.shortChain then s.bump Obj.rawChainShortCount i else s.bump Obj.rawIncompressibleCount i).count d 0x092
  s.count d 0x090

theorem Gives.tally {x : Die} {t : State} (j : Job)
    (h : Gives [Obj.overflowCount, Obj.rawChainShortCount, Obj.rawIncompressibleCount] d x s t) :
    Gives [Obj.overflowCount, Obj.rawChainShortCount, Obj.rawIncompressibleCount] d x s (j.tally (dieInst d) d t) := by
  have hi := dieInst_lt d
  unfold Job.tally
  dsimp only
  refine Gives.count ?_
  split
  · exact h.bump (by simp) hi
  · split
    · exact ((h.bump (by simp) hi).bump (by simp) hi).count
    · exact ((h.bump (by simp) hi).bump (by simp) hi).count

theorem compressJobEnd_done (hd : s.fitted d = true) (hl : (s.die d).data.lanes.getD lane.val none = some j)
    (hj : j.decomp = false) : ∃ rec_, exec (.compressJobEnd d lane) s = .next (j.tally (dieInst d) d (s.modData d fun x =>
      { x with
        lanes := x.lanes.set lane.val none, finished := x.finished ++ [j.husk (s.zone d j.zone).desc.content.keyDomain]
        jobRecord := rec_ })) := by
  have hexec : exec (.compressJobEnd d lane) s = _ := exec_onDie (execCompressJobEnd d lane s) rfl rfl hd
  dsimp only at hexec
  simp only [hl] at hexec
  rw [if_neg (by simp [hj])] at hexec
  exact ⟨_, hexec⟩

theorem decompressJobEnd_done {h : Husk} (hd : s.fitted d = true) (hl : (s.die d).data.lanes.getD lane.val none = some j)
    (hj : j.decomp = true) (hh : (s.die d).data.husks.find? (huskKey j.zone j.unit) = some h) :
    ∃ rec_, exec (.decompressJobEnd d lane) s = .next ((s.modData d fun x =>
      { x with
        lanes := x.lanes.set lane.val none, jobRecord := rec_
        rc := if j.fill then h.blocks.foldl (fun m e => m.insert e.1 e.2) x.rc else x.rc }).count d 0x091) := by
  have hexec : exec (.decompressJobEnd d lane) s = _ := exec_onDie (execDecompressJobEnd d lane s) rfl rfl hd
  dsimp only at hexec
  simp only [hl, hh] at hexec
  rw [if_neg (by simp [hj])] at hexec
  exact ⟨_, hexec⟩

end

/-! ### Husks in the stream -/

theorem State.zone_of_find {s : State} {d : DieId} {z : Nat} {v : Zone} (h : (s.die d).data.zones.find? z = some v) :
    s.zone d z = v := by
  unfold State.zone
  rw [h]

/-- A zone's entry is read from the zones, the format and the objects. -/
theorem State.zone_congr {s t : State} {d : DieId} (ho : t.objs = s.objs)
    (hz : (t.die d).data.zones = (s.die d).data.zones) (hf : (t.die d).data.formatted = (s.die d).data.formatted)
    (hc : (t.die d).data.convZones = (s.die d).data.convZones)
    (hk : (t.die d).data.convKeyDomain = (s.die d).data.convKeyDomain) (z : Nat) : t.zone d z = s.zone d z := by
  simp only [State.zone, State.isConv, State.convCount, State.getN, State.get, State.getSub, ho, hz, hf, hc, hk]
  split <;> rfl

section
variable {s u : State} {d : DieId}

/-- The bytes of a stored form go to the medium and nowhere else. -/
theorem State.putForm_spec (s : State) (d : DieId) (c : Content) (unit : Nat) (bs : List Byte) :
    ∃ m, s.putForm d c unit bs = s.modData d fun x => { x with media := m } := by
  unfold State.putForm
  induction slotsOf unit bs.length generalizing s with
  | nil => exact ⟨(s.die d).data.media, (State.setDie_die s d).symm⟩
  | cons q qs ih =>
    rw [List.foldl_cons]
    cases s.streamPlace d c q with
    | none => exact ih s
    | some e =>
      obtain ⟨m, hm⟩ := ih (s.putSector d e.2.1 e.2.2 _)
      refine ⟨m, hm.trans ?_⟩
      simp only [State.putSector, State.modData, State.modDie_modDie]

/-- The zone with a husk more in its stream. -/
def Zone.grown (v : Zone) (units settle : Nat) : Zone :=
  { v with desc := { v.desc with content := { v.desc.content with
      streamEnd := v.desc.content.streamEnd + units, reserved := v.desc.content.reserved - settle } } }

/-- A placed husk is on the medium and in its zone's stream, and nothing else has changed. -/
theorem State.placeHusk_spec {h : Husk} {seq settle : Nat} (hu : s.placeHusk d h seq settle = some u) :
    ∃ m, u = s.modData d fun x => { x with
      media := m
      husks := x.husks.insert (huskKey h.zone (s.zone d h.zone).desc.content.streamEnd)
        { h with seq := seq, start := (s.zone d h.zone).desc.content.streamEnd }
      zones := x.zones.insert h.zone ((s.zone d h.zone).grown h.units settle) } := by
  unfold State.placeHusk at hu
  extract_lets c k bs t at hu
  split at hu
  · exact absurd hu.symm (Option.some_ne_none u)
  · obtain ⟨m, hm⟩ := s.putForm_spec d c c.streamEnd bs
    have ht : t = s.modData d fun x => { x with media := m, husks := x.husks.insert (huskKey h.zone c.streamEnd) k } := by
      simp only [t, hm, State.modData, State.modDie_modDie]
      rfl
    have hz : t.zone d h.zone = s.zone d h.zone := by
      have hdie : t.die d = { s.die d with data := { (s.die d).data with
          media := m, husks := (s.die d).data.husks.insert (huskKey h.zone c.streamEnd) k } } := by
        rw [ht, State.modData_die_self]
      refine State.zone_congr (s := s) ((congrArg State.objs ht).trans rfl) ?_ ?_ ?_ ?_ _
      all_goals rw [hdie]
    refine ⟨m, (Option.some.inj hu).symm.trans ?_⟩
    have hk : k.zone = h.zone := rfl
    rw [State.modZone, hk, hz, State.putZone, ht]
    simp only [State.modData, State.modDie_modDie]
    rfl

/-- The zone with the next sequence number for its husks. -/
def Zone.nextSeq (v : Zone) : Zone :=
  { v with desc := { v.desc with content := { v.desc.content with huskSeq := v.desc.content.huskSeq + 1 } } }

/-- The first husk of a frame is placed by itself. -/
theorem State.huskPlace_first {z f : Nat} {h : Husk}
    (hh : ((s.die d).data.finished.find? fun h => h.zone == z && h.offset ==
      (((s.die d).data.husks.entries.filter fun e => e.1 / 536870912 == z).map fun e =>
        e.2.offset + e.2.logicalLen / 4096).foldl max 0) = some h)
    (hf : f = h.offset / 64) (hlen : (s.frameLive d z f).len = 0) (hhusks : (s.frameLive d z f).husks = 0)
    (hu : s.placeHusk d h (s.zone d z).desc.content.huskSeq (h.logicalLen + 48 * (h.clean.map (·.2)).eraseDups.length) = some u) :
    s.huskPlace d z = (((u.modZone d z Zone.nextSeq).modData d fun x => { x with
        finished := x.finished.filter (· != h)
        jq := x.jq ++ [⟨0, [], [State.frameEntry z f (s.zone d z).desc.content.streamEnd [h]], h.clean⟩] }).bump
      Obj.logicalBytesIn (dieInst d) h.logicalLen).bump Obj.storedBytesOut (dieInst d) (h.units * 16) := by
  subst hf
  unfold State.huskPlace
  dsimp only
  simp only [hh, hlen, hhusks, State.frameHusks, beq_self_eq_true, Bool.true_or, if_true, State.placeHusks, List.length_nil,
    Nat.lt_irrefl, if_false, hu, Bool.not_true, true_or, List.nil_append, List.map_nil]
  rfl

/-- What the placing of the first husk of a frame leaves of the zones: its own, grown, with the next sequence number. -/
theorem State.huskPlace_zones {z seq settle : Nat} {h : Husk} (hu : s.placeHusk d h seq settle = some u) (hz : h.zone = z) :
    ∃ m, u.modZone d z Zone.nextSeq = s.modData d fun x => { x with
      media := m
      husks := x.husks.insert (huskKey z (s.zone d z).desc.content.streamEnd)
        { h with seq := seq, start := (s.zone d z).desc.content.streamEnd }
      zones := (x.zones.insert z ((s.zone d z).grown h.units settle)).insert z
        ((s.zone d z).grown h.units settle).nextSeq } := by
  subst hz
  obtain ⟨m, hm⟩ := State.placeHusk_spec hu
  have hzone : u.zone d h.zone = (s.zone d h.zone).grown h.units settle := by
    refine State.zone_of_find ?_
    rw [hm, State.modData_die_self]
    exact KMap.find?_insert_self _ _ _
  refine ⟨m, ?_⟩
  rw [State.modZone, hzone, State.putZone, hm]
  simp only [State.modData, State.modDie_modDie]

end

/-- Settles O26: the jobs by the cases of their commands, the placing of a husk through what it leaves of the die. -/
theorem compressionJobs : Obligations.CompressionJobs := by
  intro s d hd x i
  refine ⟨fun l j rest buffers hl hq ht hp => ?_, fun lane j hl hj => ?_, fun l j rest hl hq ht => ?_,
    fun lane j h hl hj hh => ?_, fun z h f hm hh hf hlen hhusks => ?_⟩
  · exact ⟨_, compressJob_taken hd hl hq ht hp buffers, s.chainFor d buffers (j.input.length - 64), s.chainFor_le d buffers _,
      fun hb => State.chainFor_full hb _, rfl⟩
  · obtain ⟨rec_, hexec⟩ := compressJobEnd_done hd hl hj
    exact ⟨_, hexec, _, rec_, Gives.refl.modData.tally j, rfl, rfl, rfl, rfl, rfl, rfl,
      j.husk_storedLen _, rfl, rfl, rfl, rfl⟩
  · exact decompressJob_taken hd hl hq ht
  · obtain ⟨rec_, hexec⟩ := decompressJobEnd_done hd hl hj hh
    exact ⟨_, hexec, rec_, Gives.refl.modData.count⟩
  · intro c hp
    have hexec : exec (.huskPlace d z) s = _ := exec_onDie (execHuskPlace d z s) rfl rfl hd
    rw [when, hm, if_pos rfl] at hexec
    obtain ⟨u, hu⟩ := Option.isSome_iff_exists.1 hp
    have hz : h.zone = z := by
      have := List.find?_some hh
      simp only [Bool.and_eq_true, beq_iff_eq] at this
      exact this.1
    rw [State.huskPlace_first hh hf hlen hhusks hu] at hexec
    obtain ⟨m, hzones⟩ := State.huskPlace_zones hu hz
    rw [hzones, State.modData, State.modData, State.modDie_modDie] at hexec
    refine ⟨_, hexec, ((Within.refl.modDie).bump (by simp) (dieInst_lt d)).bump (by simp) (dieInst_lt d), ?_⟩
    generalize hf : (fun x : Die => _) = g at hexec
    generalize ht : ((s.modDie d g).bump _ _ _).bump _ _ _ = t
    have hdie : t.die d = g (s.die d) := by
      rw [← ht, State.bump_die, State.bump_die, State.modDie_die_self]
    have hzone := State.zone_of_find (s := t) (d := d) (z := z) (by rw [hdie, ← hf]; exact KMap.find?_insert_self _ _ _)
    rw [hzone, hdie, ← hf]
    refine ⟨KMap.find?_insert_self _ _ _, rfl, rfl, rfl, rfl, fun y hy => ?_, rfl, rfl⟩
    exact (KMap.find?_insert_ne _ _ hy).trans (KMap.find?_insert_ne _ _ hy)

end Sys2Proof.Machine

/-! PROOFS. O28: appends to the journal, its flushes and checkpoints, verify reads, and the format. -/

namespace Sys2Proof.Machine

section
variable {s : State} {d : DieId}

/-! ### Appends -/

theorem journalAppend_first (hd : s.fitted d = true) {p : JPend} (hp : (s.die d).data.jq.find? (s.pendReady d) = some p) :
    exec (.journalAppend d) s = .next (s.appendPend d p) := by
  have hexec : exec (.journalAppend d) s = _ := exec_onDie (execJournalAppend d s) rfl rfl hd
  simp only [hp] at hexec
  exact hexec

/-- Nothing waits for clean data where no verb is outstanding. -/
theorem State.recheck_of_no_slots (h : s.slots = {}) : s.recheck d = s := by
  unfold State.recheck
  rw [h]
  rfl

/-! ### Flushes and checkpoints -/

/-- Due for the log: JOURNAL_FLUSH_KIB of records, or the tail's first record 64 revolutions old. -/
def State.flushDue (s : State) (d : DieId) : Bool :=
  decide (s.getN Obj.journalFlushKib (dieInst d) * 1024 ≤ tailBytes (s.die d).data) ||
    (!(s.die d).data.ring.isEmpty && decide (64 ≤ ((s.die d).clock.rev + 16777216 - (s.die d).data.tailRev) % 16777216))

theorem State.flushDue_iff : s.flushDue d = true ↔
    s.getN Obj.journalFlushKib (dieInst d) * 1024 ≤ tailBytes (s.die d).data ∨ ((s.die d).data.ring ≠ [] ∧
      64 ≤ ((s.die d).clock.rev + 16777216 - (s.die d).data.tailRev) % 16777216) := by
  simp [State.flushDue]

theorem journalFlush_due (hd : s.fitted d = true) (h : s.flushDue d = true) :
    exec (.journalFlush d) s = .next (s.flushJournal d) :=
  (exec_onDie (execJournalFlush d s) rfl rfl hd).trans (congrArg Host.Outcome.next (if_pos h))

/-- t is s but for the memories of die d and its data, which are y. -/
def HasData (d : DieId) (y : DieData) (s t : State) : Prop :=
  t = s.setDie d { s.die d with data := y, mem := (t.die d).mem }

namespace HasData
variable {y : DieData} {t : State}

theorem refl : HasData d (s.die d).data s s := (State.setDie_die s d).symm

theorem data (h : HasData d y s t) : (t.die d).data = y := by
  rw [h]
  simp

theorem modData {g : DieData → DieData} (h : HasData d y s t) : HasData d (g y) s (t.modData d g) := by
  unfold HasData
  rw [State.modData_die_self]
  conv_lhs => rw [h]
  simp [State.modData, State.modDie, State.setDie_setDie]

theorem modMem {g : MemState → MemState} (h : HasData d y s t) : HasData d y s (t.modMem d g) := by
  unfold HasData
  rw [State.modMem_die_self]
  conv_lhs => rw [h]
  simp [State.modMem, State.modDie, State.setDie_setDie]

/-- The ring goes to the log. -/
theorem flushJournal (h : HasData d y s t) :
    HasData d { y with log := y.log ++ y.ring, ring := [], head := y.tail + 1 } s (t.flushJournal d) := h.modMem.modData

end HasData

/-- What the journal's own writes keep of a die's data. -/
def DieData.beyondLog (x : DieData) : MapImage × KMap Zone × KMap Sector × KMap (List CacheVer) × MapImage × List (Nat × Bool) :=
  (x.image, x.zones, x.media, x.wc, x.checkpoint, x.pages)

/-- A record without items changes the log, the ring and the journal's pointers only; the tail moves by one. -/
theorem HasData.journalFlags {y : DieData} {t : State} (h : HasData d y s t) (asn : Nat) (flags : BitVec 8) :
    ∃ z : DieData, HasData d z s (t.journalFlags d asn flags []) ∧ z.tail = y.tail + 1 ∧ z.beyondLog = y.beyondLog := by
  unfold State.journalFlags
  extract_lets j r u rev v
  have hj : j = y.tail + 1 := by rw [← h.data]
  have hu : ∃ log ring head, HasData d { y with log := log, ring := ring, head := head } s u := by
    by_cases hfull : t.tailLimit d < tailBytes (t.die d).data + r.bytes
    · exact ⟨_, _, _, by rw [show u = t.flushJournal d from if_pos hfull]; exact h.flushJournal⟩
    · exact ⟨_, _, _, by rw [show u = t from if_neg hfull]; exact h⟩
  obtain ⟨log, ring, head, hu⟩ := hu
  have hv : HasData d { y with
    log := log, head := head, ring := ring ++ [r], tail := j, tailRev := if ring.isEmpty then rev else y.tailRev } s v := hu.modData
  exact ⟨_, hv, hj, rfl⟩

/-- The map becomes the checkpoint, its dirty pages going home. -/
def DieData.mapSaved (x : DieData) : DieData :=
  { x with
    checkpoint := x.image, homePages := x.pages.foldl (fun l e => if e.2 then insertNat e.1 l else l) x.homePages
    pages := x.pages.map fun e => (e.1, false) }

/-- The log from the record of that number. -/
def DieData.logFrom (base : Nat) (x : DieData) : DieData :=
  { x with cpBase := base, log := x.log.filter fun r => decide (base ≤ r.jseq) }

theorem State.takeCheckpoint_eq (s : State) (d : DieId) : s.takeCheckpoint d =
    ((((s.journalFlags d 0 1 []).modData d DieData.mapSaved).journalFlags d 0 2 []).flushJournal d).modData d
      (DieData.logFrom ((s.journalFlags d 0 1 []).die d).data.tail) := by
  unfold State.takeCheckpoint
  dsimp only
  generalize s.journalFlags d 0 1 [] = u
  rfl

/-- A checkpoint: the map as it stands, and a log that begins with the checkpoint's first record. -/
theorem State.takeCheckpoint_spec (s : State) (d : DieId) : ∃ y : DieData, HasData d y s (s.takeCheckpoint d) ∧
    (∀ r ∈ y.log, (s.die d).data.tail + 1 ≤ r.jseq) ∧ y.cpBase = (s.die d).data.tail + 1 ∧ y.ring = [] ∧
    y.checkpoint = (s.die d).data.image ∧ (∀ e ∈ y.pages, e.2 = false) ∧ y.media = (s.die d).data.media ∧
    y.wc = (s.die d).data.wc ∧ y.zones = (s.die d).data.zones := by
  rw [State.takeCheckpoint_eq]
  obtain ⟨y, hy, htail, hkept⟩ := HasData.refl.journalFlags (s := s) (d := d) 0 1
  generalize s.journalFlags d 0 1 [] = u at *
  obtain ⟨z, hz, -, hkept'⟩ := (hy.modData (g := DieData.mapSaved)).journalFlags 0 2
  generalize (u.modData d DieData.mapSaved).journalFlags d 0 2 [] = v at *
  simp only [DieData.beyondLog, DieData.mapSaved, Prod.mk.injEq] at hkept hkept'
  obtain ⟨himage, hzones, hmedia, hwc, -, -⟩ := hkept
  obtain ⟨-, hzones', hmedia', hwc', hcp, hpages⟩ := hkept'
  rw [hy.data, htail]
  refine ⟨_, hz.flushJournal.modData, fun r hr => of_decide_eq_true (List.mem_filter.1 hr).2, rfl, rfl, hcp.trans himage, ?_,
    hmedia'.trans hmedia, hwc'.trans hwc, hzones'.trans hzones⟩
  intro e he
  have he' : e ∈ y.pages.map fun e => (e.1, false) := by rwa [← hpages]
  obtain ⟨p, -, rfl⟩ := List.mem_map.1 he'
  rfl

theorem mapCheckpoint_runs (hd : s.fitted d = true) (h : 805306368 < logBytes (s.die d).data) :
    exec (.mapCheckpoint d) s = .next (s.takeCheckpoint d) :=
  (exec_onDie (execMapCheckpoint d s) rfl rfl hd).trans (congrArg Host.Outcome.next (when_true _ (decide_eq_true h)))

/-! ### Verify reads -/

section
variable {e : VerifyEntry} {rest : List VerifyEntry} (hd : s.fitted d = true) (he : (s.die d).data.verify = e :: rest)
include hd he

theorem verifyRead_good {iters : Nat} (hi : iters ≤ s.getN Obj.verifyIterLimit (dieInst d)) :
    exec (.verifyRead d .ok 0 iters) s = .next (s.closeEntry d e (s.blocksAt d e.head e.loc)) := by
  have hexec : exec (.verifyRead d .ok 0 iters) s = _ := exec_onDie (execVerifyRead d .ok 0 iters s) rfl rfl hd
  simp only [he, hi, decide_true, beq_self_eq_true, Bool.and_self, if_true] at hexec
  exact hexec

/-- Data lost with a sector that nothing cached covers is recorded and reported. -/
theorem verifyRead_lost {res : ChannelResult} {step iters : Nat} (hc : s.blocksAt d e.head e.loc = [])
    (hres : res = .unrecovered ∨ res = .addressMismatch ∨ res = .noSignal) :
    exec (.verifyRead d res step iters) s = .next (((s.modData d fun x => { x with
      unreadable := (s.lostBlocks d e.head e.loc).foldl (fun m b => m.insert b St.integrityError) x.unreadable }).raise d
        Ev.verifyLost).closeEntry d e []) := by
  have hexec : exec (.verifyRead d res step iters) s = _ := exec_onDie (execVerifyRead d res step iters s) rfl rfl hd
  have hok : res ≠ .ok := by
    rintro rfl
    simp at hres
  simp only [he, hc, hok, hres, decide_false, Bool.false_and, Bool.false_eq_true, if_false, decide_true, List.isEmpty_nil,
    Bool.and_self, if_true] at hexec
  exact hexec

end

/-! ### The format -/

/-- What a format leaves of a die; its segments, its log and its memories aside. -/
def Die.Formatted (x : Die) (cb : Nat) (y : Die) : Prop :=
  y.data.formatted = true ∧ y.data.formatSeq = (x.data.formatSeq + 1) % 2 ^ 32 ∧ y.data.convBands = cb ∧
    y.data.bitmap = {} ∧ y.data.frames = {} ∧ y.data.husks = {} ∧ y.data.wc = {} ∧ y.data.rc = {} ∧ y.data.verify = [] ∧
    y.data.media = x.data.media ∧ y.life ≠ .unformatted ∧ y.heads = x.heads

/-- Steps 2 to 4 keep what step 1 leaves. -/
theorem Die.Formatted.steps {x y : Die} {cb : Nat} (h : x.Formatted cb y) (segs : KMap SegEntry) (m : MemState) :
    x.Formatted cb { y with
      mem := m
      data := { y.data with
        segs := segs, checkpoint := DieData.image { y.data with segs := segs }, cpBase := y.data.tail + 1, log := []
        ring := [], head := y.data.tail + 1 } } := h

theorem State.formatSteps_spec (s : State) (d : DieId) (cb : Nat) :
    (s.die d).Formatted cb ((s.formatSteps d cb).die d) ∧ ∀ e, e ≠ d → (s.formatSteps d cb).die e = s.die e := by
  generalize ht : s.formatSteps d cb = t
  unfold State.formatSteps at ht
  extract_lets i nb cz bt bg ck df u bad bands v at ht
  have hu : (s.die d).Formatted cb (u.die d) := by
    simp only [u, State.modDie_die_self]
    refine ⟨rfl, rfl, rfl, rfl, rfl, rfl, rfl, rfl, rfl, rfl, ?_, rfl⟩
    dsimp only
    split
    · decide
    · assumption
  refine ⟨?_, fun e he => ?_⟩
  · rw [← ht, State.modData_die_self, State.modMem_die_self, State.modData_die_self]
    exact hu.steps _ _
  · rw [← ht, State.modData_die_ne _ _ _ _ he, State.modMem_die_ne _ _ _ _ he, State.modData_die_ne _ _ _ _ he,
      State.modDie_die_ne _ _ _ _ he]

end

/-- Settles O28. -/
theorem journalAndVerify : Obligations.JournalAndVerify := by
  intro s d hd x
  refine ⟨fun p hp ha => ?_, fun p hp ha => ?_, fun p hp ha hs hi hc => ?_, fun h => ?_, fun h => ?_, fun page h => ?_,
    fun e rest iters he hi => verifyRead_good hd he hi, fun e rest res step iters he hc hres => ?_, fun hi => ?_,
    fun hi hr => ?_, fun cb hi hr hcb => ?_⟩
  · rw [journalAppend_first hd hp, State.appendPend]
    simp only [ha, if_true]
    rfl
  · rw [journalAppend_first hd hp, State.appendPend]
    simp only [ha, if_false]
    rfl
  · rw [journalAppend_first hd hp, State.appendPend]
    simp only [ha, if_true, hi, hc]
    exact congrArg Host.Outcome.next (State.recheck_of_no_slots hs)
  · have hexec := journalFlush_due hd (State.flushDue_iff.2 h)
    have hdata := (HasData.refl (s := s) (d := d)).flushJournal
    exact ⟨_, hexec, hdata.data, by rw [hdata.data]; exact hdata⟩
  · obtain ⟨y, hy, hlog, hbase, hring, hcp, hpages, hmedia, hwc, hzones⟩ := s.takeCheckpoint_spec d
    refine ⟨_, mapCheckpoint_runs hd h, ?_⟩
    dsimp only
    rw [hy.data]
    exact ⟨hlog, hbase, hring, hcp, hpages, hmedia, hwc, hzones, hy⟩
  · have hexec : exec (.framePageWriteback d page) s = _ := exec_onDie (execFramePageWriteback d page s) rfl rfl hd
    rw [hexec, State.modData, State.modDie, if_pos h]
  · exact verifyRead_lost hd he hc hres
  · exact (show exec (.formatCommand d) s = execFormatCommand d s from rfl).trans (statusCommand_isolated hd hi)
  · have hexec : exec (.formatCommand d) s = _ :=
      (show exec (.formatCommand d) s = execFormatCommand d s from rfl).trans (statusCommand_answered hd hi)
    rw [hexec, State.formatCommand]
    simp only [hr, Bool.not_false, if_true]
    rfl
  · have hexec : exec (.formatCommand d) s = _ :=
      (show exec (.formatCommand d) s = execFormatCommand d s from rfl).trans (statusCommand_answered hd hi)
    rw [State.formatCommand] at hexec
    simp only [hr, hcb, Bool.not_true, Bool.false_eq_true, if_false] at hexec
    obtain ⟨⟨hf, hseq, hcb', hb, hfr, hhusks, hwc, hrc, hv, hm, hlife, hheads⟩, hothers⟩ := s.formatSteps_spec d cb
    refine ⟨_, hexec, State.getSub_putSub_self .., ?_⟩
    simp only [State.answer_die, State.put_eq, State.putSub_die]
    exact ⟨hf, hseq, hcb', hb, hfr, hhusks, hwc, hrc, hv, hm, hlife, hheads, hothers⟩

end Sys2Proof.Machine

/-! PROOFS. O29: reading and verifying a block. -/

namespace Sys2Proof.Machine

/-! ### The slot of a verb -/

theorem KMap.insertList_insertList {α : Type} (k : Nat) (v w : α) (l : List (Nat × α)) :
    KMap.insertList k w (KMap.insertList k v l) = KMap.insertList k w l := by
  induction l with
  | nil => simp [KMap.insertList]
  | cons e rest ih =>
    obtain ⟨j, u⟩ := e
    by_cases hlt : k < j
    · simp [KMap.insertList, hlt]
    · by_cases heq : k = j
      · simp [KMap.insertList, heq]
      · simp [KMap.insertList, hlt, heq, ih]

/-- Of two values inserted under one key, the second one stays. -/
@[simp] theorem KMap.insert_insert {α : Type} (m : KMap α) (k : Nat) (v w : α) : (m.insert k v).insert k w = m.insert k w :=
  congrArg KMap.mk (KMap.insertList_insertList k v w m.entries)

section
variable {s : State} {asn : Nat} {sl : Slot}

theorem State.modSlot_eq (h : s.slots.find? asn = some sl) (f : Slot → Slot) :
    s.modSlot asn f = { s with slots := s.slots.insert asn (f sl) } := by
  rw [State.modSlot, h]

theorem State.modSlot_find? (h : s.slots.find? asn = some sl) (f : Slot → Slot) :
    (s.modSlot asn f).slots.find? asn = some (f sl) := by
  rw [State.modSlot_eq h]
  exact KMap.find?_insert_self _ _ _

/-- The second of two changes of a slot is made on top of the first. -/
theorem State.modSlot_modSlot (h : s.slots.find? asn = some sl) (f g : Slot → Slot) :
    (s.modSlot asn f).modSlot asn g = s.modSlot asn fun x => g (f x) := by
  rw [State.modSlot_eq (s.modSlot_find? h f), State.modSlot_eq h, State.modSlot_eq h, KMap.insert_insert]

/-- A change of a slot depends on what it makes of that slot only. -/
theorem State.modSlot_congr (h : s.slots.find? asn = some sl) {f g : Slot → Slot} (hfg : f sl = g sl) :
    s.modSlot asn f = s.modSlot asn g := by
  rw [State.modSlot_eq h, State.modSlot_eq h, hfg]

theorem modPartList_modPartList (d : DieId) {f g : VPart → VPart} (hf : ∀ p, (f p).die = p.die) (ps : List VPart) :
    modPartList d g (modPartList d f ps) = modPartList d (fun p => g (f p)) ps := by
  simp only [modPartList, List.map_map]
  refine List.map_congr_left fun p _ => ?_
  by_cases hp : p.die = d
  · simp [hp, hf]
  · simp [hp]

theorem State.modPart_modPart (h : s.slots.find? asn = some sl) (d : DieId) {f g : VPart → VPart}
    (hf : ∀ p, (f p).die = p.die) : (s.modPart asn d f).modPart asn d g = s.modPart asn d fun p => g (f p) := by
  unfold State.modPart
  rw [State.modSlot_modSlot h]
  exact State.modSlot_congr h (by simp [modPartList_modPartList d hf])

/-- A part changed ahead of its end. -/
theorem State.ends_modPart (h : s.slots.find? asn = some sl) (d : DieId) {f g : VPart → VPart}
    (hf : ∀ p, (f p).die = p.die) : (s.modPart asn d f).ends asn d g = s.ends asn d fun p => g (f p) := by
  unfold State.ends
  rw [State.modPart_modPart h d hf]

/-- The stages of a verb that is not traced are not stamped. -/
theorem State.stage_of_untraced (h : s.slots.find? asn = some sl) (ht : sl.traced = false) (d : DieId) (k : Nat) :
    s.stage asn d k = s.modSlot asn id :=
  State.modSlot_congr h (by simp [ht])

theorem State.modPart_stage (h : s.slots.find? asn = some sl) (ht : sl.traced = false) (d e : DieId) (k : Nat)
    (f : VPart → VPart) : (s.stage asn d k).modPart asn e f = s.modPart asn e f := by
  rw [State.stage_of_untraced h ht]
  exact State.modSlot_modSlot h _ _

theorem State.stage_modPart (h : s.slots.find? asn = some sl) (ht : sl.traced = false) (d e : DieId) (k : Nat)
    (f : VPart → VPart) : (s.modPart asn e f).stage asn d k = s.modPart asn e f := by
  have hp : (s.modPart asn e f).slots.find? asn = some { sl with parts := modPartList e f sl.parts } := s.modSlot_find? h _
  rw [State.stage_of_untraced hp ht]
  exact State.modSlot_modSlot h _ _

/-- The end of a part of a verb that is not traced. -/
theorem State.partEnd_of_untraced (h : s.slots.find? asn = some sl) (ht : sl.traced = false) (d : DieId) (f : VPart → VPart) :
    s.partEnd asn d f = s.ends asn d f := by
  unfold State.partEnd State.ends
  rw [State.stage_modPart h ht]

theorem State.partEnd_stage (h : s.slots.find? asn = some sl) (ht : sl.traced = false) (d e : DieId) (k : Nat)
    (f : VPart → VPart) : (s.stage asn e k).partEnd asn d f = s.partEnd asn d f := by
  unfold State.partEnd
  rw [State.modPart_stage h ht]

theorem State.stage_find? (h : s.slots.find? asn = some sl) (ht : sl.traced = false) (d : DieId) (k : Nat) :
    (s.stage asn d k).slots.find? asn = some sl := by
  rw [State.stage_of_untraced h ht]
  exact s.modSlot_find? h id

theorem State.partEnd_readStages (h : s.slots.find? asn = some sl) (ht : sl.traced = false) (d e : DieId) (media : Bool)
    (f : VPart → VPart) : (s.readStages asn e media).partEnd asn d f = s.ends asn d f := by
  have h4 := State.stage_find? h ht e 4
  have h5 := State.stage_find? h4 ht e 5
  have h6 := State.stage_find? h5 ht e 6
  have h7 := State.stage_find? h6 ht e 7
  unfold State.readStages
  dsimp only
  split
  · rw [State.partEnd_stage h7 ht, State.partEnd_stage h6 ht, State.partEnd_stage h5 ht, State.partEnd_stage h4 ht,
      State.partEnd_stage h ht, State.partEnd_of_untraced h ht]
  · rw [State.partEnd_stage h4 ht, State.partEnd_stage h ht, State.partEnd_of_untraced h ht]

end

/-! ### One block -/

section
variable {s : State} {asn : Nat} {d : DieId} {sl : Slot} {b : Nat}

/-- What a part ends with after a run of reads. -/
def ReadSum.ends (r : ReadSum) (data : Bool) (p : VPart) : VPart :=
  let p := { p with result := r.result, data := if data then r.bytes else [] }
  match r.bad with
  | none => { p with status := St.success }
  | some f => { p with status := f.status, lba := some f.lba, head := f.head, step := f.step, chan := f.chan }

theorem withOuts_one (o : List BlockOutcome) : withOuts ([b].map fun b => (d, b)) o = [(d, b, o.getD 0 (.good 0))] := rfl

/-- A run of one block is what that block gives. -/
theorem State.readRun_one (direct : Bool) (o : BlockOutcome) :
    s.readRun asn direct [(d, b, o)] {} = s.readOne d asn b direct o {} := by
  simp only [State.readRun]
  split <;> rfl

variable (hd : s.fitted d = true) (hs : s.slots.find? asn = some sl) (hr : sl.ready d = true) (ht : sl.traced = false)
  (hb : sl.blocksOn d = [b])
include hd hs hr ht hb

/-- A READ part of one block that is to be had ends with what the block gives. -/
theorem read_one {outs : List BlockOutcome} {r : ReadSum} (hop : sl.op = 1)
    (hready : s.blockReady d asn b (eFua sl.entry) = true)
    (hone : s.readOne d asn b (eFua sl.entry) (outs.getD 0 (.good 0)) {} = (s, r)) :
    exec (.read asn d outs) s = .next (s.ends asn d (r.ends true)) := by
  have hexec : exec (.read asn d outs) s = _ := exec_onDie (execRead asn d outs s) rfl rfl hd
  simp only [hs] at hexec
  rw [if_pos ⟨hop, hr, by rw [hb]; simp [hready]⟩, hb, withOuts_one, State.readRun_one, hone] at hexec
  exact hexec.trans (congrArg Host.Outcome.next (State.partEnd_readStages hs ht d d r.media _))

/-- A VERIFY part of one block that waits for nothing ends with what the block gives, without its data. -/
theorem verify_one {outs : List BlockOutcome} {r : ReadSum} (hop : sl.op = 5) (hdirty : s.rangeDirty d asn [b] = false)
    (hready : s.blockReady d asn b true = true) (hone : s.readOne d asn b true (outs.getD 0 (.good 0)) {} = (s, r)) :
    exec (.verify asn d outs) s = .next (s.ends asn d (r.ends false)) := by
  have hexec : exec (.verify asn d outs) s = _ := exec_onDie (execVerify asn d outs s) rfl rfl hd
  simp only [hs] at hexec
  rw [if_neg (by simp [hop, hr]), hb, if_neg (by simp [hdirty]), if_pos (by simp [hready]), withOuts_one, State.readRun_one,
    hone] at hexec
  exact hexec.trans (congrArg Host.Outcome.next (State.partEnd_readStages hs ht d d r.media _))

omit ht in
/-- A VERIFY part begins and waits while an earlier write of its range is not on the media. -/
theorem verify_waits (outs : List BlockOutcome) (hop : sl.op = 5) (hdirty : s.rangeDirty d asn [b] = true) :
    exec (.verify asn d outs) s = .next (s.modPart asn d fun p => { p with begun := true }) := by
  have hexec : exec (.verify asn d outs) s = _ := exec_onDie (execVerify asn d outs s) rfl rfl hd
  simp only [hs] at hexec
  rw [if_neg (by simp [hop, hr]), hb, if_pos hdirty] at hexec
  exact hexec

end

section
variable {s : State} {asn : Nat} {d : DieId} {b : Nat} {x : Block} {direct : Bool}

theorem State.readOne_cache (h : s.blockView d asn b direct = .cache x) (k : Nat) :
    s.readOne d asn b direct (.good k) {} = (s, { data := [x] }) := by
  simp [State.readOne, h, cacheStatus]

/-- A block without data gives zeros, or UNWRITTEN_BLOCK. -/
theorem State.readOne_unwritten (h : s.blockView d asn b direct = .unwritten) (k : Nat) :
    s.readOne d asn b direct (.good k) {} = (s,
      if s.get Obj.unwrittenRead (dieInst d) = 1 then { bad := some ⟨St.unwrittenBlock, d, dieLba d b, none, 0, none⟩ }
      else { data := [zeroBlock], unwritten := true }) := by
  simp only [State.readOne, h, cacheStatus, if_true]
  split <;> rfl

theorem State.readOne_good (h : s.blockView d asn b true = .medium x none) (k : Nat) :
    s.readOne d asn b true (.good k) {} = (s, { data := [x], step := k, media := true }) := by
  simp [State.readOne, h, outFit, mediumStatus, outStep]

theorem State.readOne_unrecovered (h : s.blockView d asn b true = .medium x none) (k : Nat) :
    s.readOne d asn b true (.channel .unrecovered k) {} = (s, { step := k, media := true, bad := some (ReadFail.mk
      St.unrecovered d (dieLba d b) ((s.blockPlace d b).map (·.2.1)) k (some .unrecovered)) }) := by
  have hne : St.unrecovered ≠ St.success := by decide
  simp [State.readOne, h, outFit, mediumStatus, chanStatus, outStep, outChan, State.huskEvent, hne]

end

/-- Settles O29: by what the block is found as. -/
theorem readAndVerifyBlock : Obligations.ReadAndVerifyBlock := by
  intro s asn d sl b hd hs hr ht hb
  refine ⟨fun x hop hready hv => ?_, fun hop hready hv => ?_, fun x k hop hfua hready hv => ?_,
    fun x k hop hfua hready hv => ?_, fun hop hdirty outs => verify_waits hd hs hr hb outs hop hdirty,
    fun x k hop hdirty hready hv => ?_⟩
  · rw [read_one (outs := []) hd hs hr ht hb hop hready (State.readOne_cache hv 0)]
    refine congrArg Host.Outcome.next (congrArg (s.ends asn d) (funext fun p => ?_))
    simp [ReadSum.ends, ReadSum.bytes, ReadSum.result]
  · rw [read_one (outs := []) hd hs hr ht hb hop hready (State.readOne_unwritten hv 0)]
    refine congrArg Host.Outcome.next (congrArg (s.ends asn d) (funext fun p => ?_))
    split
    · rfl
    · simp [ReadSum.ends, ReadSum.bytes, ReadSum.result]
  · rw [read_one (outs := [_]) hd hs hr ht hb hop (hfua ▸ hready) (hfua ▸ State.readOne_good hv k)]
    refine congrArg Host.Outcome.next (congrArg (s.ends asn d) (funext fun p => ?_))
    simp [ReadSum.ends, ReadSum.bytes, ReadSum.result]
  · rw [read_one (outs := [_]) hd hs hr ht hb hop (hfua ▸ hready) (hfua ▸ State.readOne_unrecovered hv k)]
    refine congrArg Host.Outcome.next (congrArg (s.ends asn d) (funext fun p => ?_))
    simp [ReadSum.ends, ReadSum.bytes, ReadSum.result]
  · rw [verify_one (outs := [_]) hd hs hr ht hb hop hdirty hready (State.readOne_good hv k)]
    refine congrArg Host.Outcome.next (congrArg (s.ends asn d) (funext fun p => ?_))
    simp [ReadSum.ends, ReadSum.result]

end Sys2Proof.Machine

/-! PROOFS. The posting of completions: the entry, the message, and what both leave alone. -/

namespace Sys2Proof.Machine

/-! ### Outputs are added to those that wait -/

section
variable {s t u : State}

theorem List.suffix_foldl {β : Type} {g : State → β → State} (h : ∀ s x, s.out <:+ (g s x).out) (l : List β) (s : State) :
    s.out <:+ (l.foldl g s).out := by
  induction l generalizing s with
  | nil => exact List.suffix_rfl
  | cons x l ih => exact (h s x).trans (ih _)

theorem State.vector_out (s : State) (v : Nat) : s.out <:+ (s.vector v).out := by
  unfold State.vector
  dsimp only
  split
  · exact List.suffix_rfl
  · exact List.suffix_cons _ s.out

theorem State.evtSend_out (s : State) (n : Nat) : s.out <:+ (s.evtSend n).out := by
  unfold State.evtSend
  dsimp only
  split
  · exact State.vector_out { s with coal := s.coal.erase n } _
  · split <;> exact List.suffix_rfl

theorem State.route_out (s : State) (n : Nat) : s.out <:+ (s.route n).out := by
  unfold State.route
  extract_lets u r
  split
  · split
    · exact State.evtSend_out u n
    · exact List.suffix_rfl
  · exact List.suffix_rfl

@[simp] theorem State.bump_out (s : State) (o : ObjDef) (i k : Nat) : (s.bump o i k).out = s.out := State.putSub_out (s := s) ..

theorem State.logEvent_out (s : State) (d : DieId) (n : Nat) (k : EventKind) (data : List (Nat × Int)) :
    (s.logEvent d n k data).out = s.out := by
  unfold State.logEvent
  dsimp only
  split
  · exact State.bump_out ..
  · rfl

theorem State.tally_out (s : State) (d : DieId) (e k : Nat) : (s.tally d e k).1.out = s.out := by
  unfold State.tally
  dsimp only
  split <;> rfl

theorem State.raiseFuel_out (fuel : Nat) (s : State) (d : DieId) (n : Nat) (k : EventKind) (data : List (Nat × Int)) :
    s.out <:+ (s.raiseFuel fuel d n k data).out := by
  induction fuel generalizing s d n k data with
  | zero => exact List.suffix_rfl
  | succ fuel ih =>
    unfold State.raiseFuel
    extract_lets src by_ u v r
    split
    · exact List.suffix_rfl
    · refine List.IsSuffix.trans ?_ (List.suffix_foldl (fun s i => ih s by_ 48 _ _) _ _)
      have hu : u.out = s.out := by
        simp only [u]
        split
        · rfl
        · exact State.logEvent_out ..
      rw [State.tally_out, ← hu]
      simp only [v]
      split
      · exact State.route_out u src
      · exact List.suffix_rfl

theorem State.raise_out (s : State) (d : DieId) (k : EventKind) (data : List (Nat × Int)) :
    s.out <:+ (s.raise d k data).out := State.raiseFuel_out ..

theorem State.count_out (s : State) (d : DieId) (e k : Nat) : s.out <:+ (s.count d e k).out := by
  unfold State.count
  dsimp only
  rw [← State.tally_out s d e k]
  exact List.suffix_foldl (fun s i => State.raise_out ..) _ _

end

/-! ### What reporting leaves of the host's side -/

section
variable {cs : List ObjDef} {d : DieId} {s t : State} (h : Reported cs d s t)
include h

theorem Reported.slots : t.slots = s.slots := congrArg State.slots (a₁ := t.side cs) (a₂ := s.side cs) h.1

theorem Reported.sqs : t.sqs = s.sqs := congrArg State.sqs (a₁ := t.side cs) (a₂ := s.side cs) h.1

theorem Reported.cqs : t.cqs = s.cqs := congrArg State.cqs (a₁ := t.side cs) (a₂ := s.side cs) h.1

theorem Reported.errors : t.errors = s.errors := congrArg State.errors (a₁ := t.side cs) (a₂ := s.side cs) h.1

theorem Reported.asn : t.asn = s.asn := congrArg State.asn (a₁ := t.side cs) (a₂ := s.side cs) h.1

theorem Reported.mirror (e : DieId) : (t.die e).mirror = (s.die e).mirror := by
  by_cases he : e = d
  · subst he
    rw [h.die_eq]
  · rw [h.die_ne he]

end

/-! ### One entry -/

section
variable {s : State} {q : Nat} {c : Cq}

/-- What posting an entry makes of its queue: the next place, the phase, and the count of entries since the last message. -/
structure Cq.Advanced (c c' : Cq) : Prop where
  tail : c'.tail = (c.tail + 1) % max 1 c.size
  head : c'.head = c.head
  phase : c'.phase = if c'.tail = 0 then !c.phase else c.phase
  count : c'.count = 0 ∨ c'.count = c.count + 1

theorem State.vector_cqs (s : State) (v : Nat) : Reported [] 0 s (s.vector v) := by
  unfold State.vector
  dsimp only
  split <;> exact ⟨rfl, rfl, fun _ _ => rfl⟩

/-- An entry at the tail of its queue, and at most a message and a count besides. -/
theorem State.putEntry_spec (hc : s.cqs.find? q = some c) (sq head : Nat) (result : BitVec 64) (status cid : BitVec 16) :
    ∃ c' : Cq, c.Advanced c' ∧
      Reported [] 0 { s with cqs := s.cqs.insert q c' } (s.putEntry q sq head result status cid) ∧
      Out.cqe q c.tail (cqeBits result head sq status c.phase cid) :: s.out <:+
        (s.putEntry q sq head result status cid).out := by
  unfold State.putEntry
  simp only [hc]
  generalize ho : Out.cqe q c.tail (cqeBits result head sq status c.phase cid) = o
  have hadv : c.Advanced (c.advance s.now) := ⟨rfl, rfl, rfl, .inr rfl⟩
  have hzero : c.Advanced { c.advance s.now with count := 0 } := ⟨rfl, rfl, rfl, .inl rfl⟩
  have hcount : ∀ t : State, Reported [] 0 t (t.count 0 0x0A2) ∧ t.out <:+ (t.count 0 0x0A2).out :=
    fun t => ⟨State.count_reported _ t 0 _ _, State.count_out ..⟩
  have hput : ∀ c', Reported [] 0 { s with cqs := s.cqs.insert q c' } { s.emit o with cqs := s.cqs.insert q c' } :=
    fun c' => ⟨rfl, rfl, fun _ _ => rfl⟩
  unfold State.cqSignal
  split
  · exact ⟨_, hzero, (hput _).trans (hcount _).1, (hcount { s.emit o with cqs := s.cqs.insert q _ }).2⟩
  · split
    · exact ⟨_, hzero, ((hput _).trans (State.vector_cqs _ _)).trans (hcount _).1,
        (State.vector_out { s.emit o with cqs := s.cqs.insert q { c.advance s.now with count := 0 } } _).trans (hcount _).2⟩
    · exact ⟨_, hadv, (hput _).trans (hcount _).1, (hcount { s.emit o with cqs := s.cqs.insert q _ }).2⟩

end

/-! ### A verb's entry -/

theorem KMap.mem_insertList {α : Type} {k : Nat} {v : α} {e : Nat × α} {l : List (Nat × α)} (h : e ∈ KMap.insertList k v l) :
    e = (k, v) ∨ e ∈ l := by
  induction l with
  | nil => exact .inl (List.mem_singleton.1 h)
  | cons x l ih =>
    obtain ⟨j, w⟩ := x
    unfold KMap.insertList at h
    split at h
    · exact List.mem_cons.1 h
    · split at h
      · exact (List.mem_cons.1 h).imp id (List.mem_cons_of_mem _)
      · rcases List.mem_cons.1 h with rfl | h
        · exact .inr List.mem_cons_self
        · exact (ih h).imp id (List.mem_cons_of_mem _)

theorem KMap.mem_insert {α : Type} {m : KMap α} {k : Nat} {v : α} {e : Nat × α} (h : e ∈ (m.insert k v).entries) :
    e = (k, v) ∨ e ∈ m.entries := KMap.mem_insertList h

theorem KMap.mem_erase {α : Type} {m : KMap α} {k : Nat} {e : Nat × α} (h : e ∈ (m.erase k).entries) : e ∈ m.entries :=
  (List.mem_filter.1 h).1

theorem State.sqSweep_of_kept {s : State} {q : Nat} {y : Sq} (hq : s.sqs.find? q = some y) (hy : y.deleting = false) :
    s.sqSweep q = s := by
  unfold State.sqSweep
  simp [hq, hy]

/-- The sweep of a deleted queue takes the queue away and nothing else. -/
theorem State.sqSweep_shape (s : State) (q : Nat) : ∃ v, s.sqSweep q = { s with sqs := v } := by
  unfold State.sqSweep
  split
  · exact ⟨s.sqs, rfl⟩
  · split
    · exact ⟨_, rfl⟩
    · exact ⟨s.sqs, rfl⟩

@[simp] theorem Sq.freeze_deleting (y : Sq) (st : BitVec 16) (n : Nat) : (y.freeze st n).deleting = y.deleting := by
  unfold Sq.freeze
  split <;> rfl

/-- A verb's slot once its entry is posted: gone, or an orphan while parts of it run. -/
def State.slotBack (s : State) (asn : Nat) (sl : Slot) : State :=
  if sl.parts.all (·.delivered) then { s with slots := s.slots.erase asn }
  else s.modSlot asn fun sl => { sl with orphan := true }

theorem State.slotBack_shape (s : State) (asn : Nat) (sl : Slot) : ∃ m, s.slotBack asn sl = { s with slots := m } := by
  unfold State.slotBack State.modSlot
  split
  · exact ⟨_, rfl⟩
  · split
    · exact ⟨s.slots, rfl⟩
    · exact ⟨_, rfl⟩

section
variable {s : State} {asn : Nat} {sl : Slot} {y : Sq} {c : Cq} (hs : s.slots.find? asn = some sl) (ht : sl.traced = false)
include hs

theorem State.slotBack_find? : (s.slotBack asn sl).slots.find? asn =
    if sl.parts.all (·.delivered) then none else some { sl with orphan := true } := by
  unfold State.slotBack
  split
  · exact KMap.find?_erase_self _ _
  · exact s.modSlot_find? hs _

theorem State.slotBack_entries {e : Nat × Slot} (he : e ∈ (s.slotBack asn sl).slots.entries) :
    e = (asn, { sl with orphan := true }) ∨ e ∈ s.slots.entries := by
  unfold State.slotBack at he
  split at he
  · exact .inr (KMap.mem_erase he)
  · rw [State.modSlot_eq hs] at he
    exact KMap.mem_insert he

/-- What the posting of an entry leaves behind. -/
structure PostedEntry (s : State) (asn : Nat) (sl : Slot) (y : Sq) (c : Cq) (t : State) : Prop where
  cqs : ∃ c' : Cq, c.Advanced c' ∧ t.cqs = s.cqs.insert y.cq c'
  out : Out.cqe y.cq c.tail (cqeBits sl.result y.head sl.sq sl.status c.phase (eCid sl.entry)) :: s.out <:+ t.out
  errors : t.errors = s.errors
  sqs : y.deleting = false → t.sqs = s.sqs.insert sl.sq (y.freeze sl.status s.asn)
  slot : t.slots.find? asn = if sl.parts.all (·.delivered) then none else some { sl with orphan := true }
  entries : ∀ e ∈ t.slots.entries, e = (asn, { sl with orphan := true }) ∨ e = (asn, sl) ∨ e ∈ s.slots.entries
  mirror : ∀ d, (t.die d).mirror = (s.die d).mirror

include ht

theorem State.writeCqe_spec (hq : s.sqs.find? sl.sq = some y) (hc : s.cqs.find? y.cq = some c) :
    PostedEntry s asn sl y c (s.writeCqe asn) := by
  have hstage : s.stage asn 0 11 = { s with slots := s.slots.insert asn sl } := by
    rw [State.stage_of_untraced hs ht, State.modSlot_eq hs]
    rfl
  have hget : (s.slots.insert asn sl).getD asn sl = sl := KMap.getD_insert_self _ _ _ _
  unfold State.writeCqe
  simp only [hs, hq, hstage, hget]
  obtain ⟨c', hadv, hrep, hout⟩ := State.putEntry_spec (s := { s with slots := s.slots.insert asn sl }) hc sl.sq y.head
    sl.result sl.status (eCid sl.entry)
  generalize State.putEntry _ y.cq sl.sq y.head sl.result sl.status (eCid sl.entry) = u at hrep hout ⊢
  have htrace : u.traceRecord sl = u := by
    unfold State.traceRecord
    simp [ht]
  rw [htrace]
  have hfind : u.slots.find? asn = some sl := by
    rw [hrep.slots]
    exact KMap.find?_insert_self _ _ _
  have hback : PostedEntry s asn sl y c
      (({ u with sqs := u.sqs.insert sl.sq (y.freeze sl.status u.asn) }.slotBack asn sl).sqSweep sl.sq) := by
    generalize hv : ({ u with sqs := u.sqs.insert sl.sq (y.freeze sl.status u.asn) } : State) = v
    have hvfind : v.slots.find? asn = some sl := by rw [← hv]; exact hfind
    have hvsqs : v.sqs.find? sl.sq = some (y.freeze sl.status u.asn) := by rw [← hv]; exact KMap.find?_insert_self _ _ _
    have hslot := State.slotBack_find? hvfind
    have hentries := fun e => State.slotBack_entries (e := e) hvfind
    obtain ⟨m, hm⟩ := v.slotBack_shape asn sl
    rw [hm] at hslot hentries ⊢
    obtain ⟨qs, hqs⟩ := State.sqSweep_shape { v with slots := m } sl.sq
    have hsqs : y.deleting = false → State.sqSweep { v with slots := m } sl.sq = { v with slots := m } := fun hy =>
      State.sqSweep_of_kept hvsqs ((Sq.freeze_deleting ..).trans hy)
    rw [hqs] at hsqs ⊢
    refine ⟨⟨c', hadv, ?_⟩, ?_, ?_, fun hy => ?_, hslot, fun e he => ?_, fun d => ?_⟩
    · rw [← hv]
      exact hrep.cqs
    · rw [← hv]
      exact hout
    · rw [← hv]
      exact hrep.errors
    · rw [hsqs hy, ← hv]
      dsimp only
      rw [hrep.sqs, hrep.asn]
    · refine (hentries e he).imp id fun hmem => KMap.mem_insert (m := s.slots) ?_
      have : v.slots = s.slots.insert asn sl := by rw [← hv]; exact hrep.slots
      rwa [← this]
    · rw [← hv]
      exact hrep.mirror d
  exact hback

end

end Sys2Proof.Machine

/-! PROOFS. O54: the posting of a completion. -/

namespace Sys2Proof.Machine

/-- The error log takes an entry of the statuses that are errors; nothing else changes. -/
theorem State.logError_spec (s : State) (sl : Slot) (status : BitVec 16) (x : ErrInfo) :
    ∃ (l : List ErrEntry) (n : Nat), s.logError sl status x = { s with errors := l, errorCount := n } ∧
      (statusMore status = true → ∃ e : ErrEntry, l = (e :: s.errors).take 256 ∧ e.status = status ∧ e.asn = sl.asn ∧
        e.sq = sl.sq ∧ e.count = s.errorCount + 1) ∧
      (statusMore status = false → l = s.errors) := by
  unfold State.logError
  by_cases h : statusMore status = true
  · rw [if_neg (by simp [h])]
    exact ⟨_, _, rfl, fun _ => ⟨_, rfl, rfl, rfl, rfl, rfl⟩, fun hn => absurd (hn.symm.trans h) Bool.false_ne_true⟩
  · rw [if_pos (by simp [h])]
    exact ⟨_, _, rfl, fun hy => absurd hy h, fun _ => rfl⟩

/-- No ABORT waits for the completion. -/
theorem State.postAborts_of_none {s : State} {asn : Nat} (h : ∀ e ∈ s.slots.entries, e.2.waitsFor ≠ some asn) :
    s.postAborts asn = s := by
  have hws : (s.slots.entries.filter fun e => e.2.waitsFor == some asn && e.2.decided) = [] :=
    List.filter_eq_nil_iff.2 fun e he => by simp [h e he]
  unfold State.postAborts
  split
  · rfl
  · rw [hws]
    rfl

/-- A slot with its outcome. -/
def Slot.decide (sl : Slot) (status : BitVec 16) (result : BitVec 64) : Slot :=
  { sl with decided := true, status, result }

section
variable {s : State} {asn : Nat} {sl : Slot} {y : Sq} {c : Cq}

/-- A verb that is neither decided nor waits for another posts its outcome, with an error log entry unless an orphan. -/
theorem State.settleVerb_posts (hs : s.slots.find? asn = some sl) (hd : sl.decided = false) (ho : sl.orphan = false)
    (hw : sl.waitsFor = none) (status : BitVec 16) (result : BitVec 64) (x : ErrInfo) :
    ∃ (l : List ErrEntry) (n : Nat), s.logError sl status x = { s with errors := l, errorCount := n } ∧
      s.settleVerb asn status result x =
        { s with errors := l, errorCount := n, slots := s.slots.insert asn (sl.decide status result) }.post asn := by
  obtain ⟨l, n, hlog, -⟩ := s.logError_spec sl status x
  refine ⟨l, n, hlog, ?_⟩
  unfold State.settleVerb
  simp only [hs, hd, ho, hw, hlog, Bool.false_eq_true, if_false, Option.isSome_none]
  have hmod := State.modSlot_eq (s := { s with errors := l, errorCount := n }) hs fun sl => sl.decide status result
  exact congrArg (State.post · asn) hmod

/-- The entry waits while its queue is full or others wait before it. -/
theorem State.postOne_held (hs : s.slots.find? asn = some sl) (ho : sl.orphan = false) (hq : s.sqs.find? sl.sq = some y)
    (hc : s.cqs.find? y.cq = some c) (hfull : c.full = true ∨ c.held ≠ []) :
    s.postOne asn = { s with cqs := s.cqs.insert y.cq { c with held := c.held ++ [asn] } }.bump Obj.cqFullWaits 0 := by
  unfold State.postOne
  simp only [hs, ho, hq, hc, Option.bind_some, Option.map_some, Bool.false_eq_true, if_false]
  exact if_pos (by simpa using hfull)

theorem State.postOne_writes (hs : s.slots.find? asn = some sl) (ho : sl.orphan = false) (hq : s.sqs.find? sl.sq = some y)
    (hc : s.cqs.find? y.cq = some c) (hfull : c.full = false) (hheld : c.held = []) : s.postOne asn = s.writeCqe asn := by
  unfold State.postOne
  simp only [hs, ho, hq, hc, Option.bind_some, Option.map_some, Bool.false_eq_true, if_false, hfull, hheld, List.isEmpty_nil,
    Bool.not_true, Bool.or_self]

end

/-- Settles O54: the entry waits or is written; no ABORT follows it. -/
theorem completionsPost : Obligations.CompletionsPost := by
  intro s asn sl y c status result info hs hd ho hw ht hq hc hy hnone t
  obtain ⟨l, n, hlog, hpost⟩ := State.settleVerb_posts hs hd ho hw status result info
  obtain ⟨l', n', hlog', hmore, hless⟩ := s.logError_spec sl status info
  have hl : l' = l := congrArg State.errors (hlog'.symm.trans hlog)
  rw [hl] at hmore hless
  generalize hu : ({ s with errors := l, errorCount := n, slots := s.slots.insert asn (sl.decide status result) } : State) = u
    at hpost
  have hus : u.slots = s.slots.insert asn (sl.decide status result) := by rw [← hu]
  have hfind : u.slots.find? asn = some (sl.decide status result) := by
    rw [hus]
    exact KMap.find?_insert_self _ _ _
  have huq : u.sqs = s.sqs := by rw [← hu]
  have huc : u.cqs = s.cqs := by rw [← hu]
  have hue : u.errors = l := by rw [← hu]
  have huo : u.out = s.out := by rw [← hu]
  have hua : u.asn = s.asn := by rw [← hu]
  have hnone' : ∀ e ∈ u.slots.entries, e.2.waitsFor ≠ some asn := by
    intro e he
    rw [hus] at he
    rcases KMap.mem_insert he with rfl | he
    · exact fun h => Option.some_ne_none _ (h.symm.trans hw)
    · exact hnone e he
  by_cases hfull : c.full = true ∨ c.held ≠ []
  · have ht' : t = { u with cqs := u.cqs.insert y.cq { c with held := c.held ++ [asn] } }.bump Obj.cqFullWaits 0 := by
      rw [show t = u.post asn from hpost, State.post, State.postOne_held hfind ho (huq ▸ hq) (huc ▸ hc) hfull,
        State.postAborts_of_none (by simpa [State.bump, State.bumpSub] using hnone')]
    have hto : t.errors = l := by simp [ht', hue, State.bump, State.bumpSub]
    refine ⟨hto ▸ hmore, hto ▸ hless, fun _ => ?_, fun hf hh => absurd hfull (by simp [hf, hh])⟩
    simp [ht', huq, huc, huo, hus, Slot.decide, State.bump, State.bumpSub]
  · have hempty : c.full = false ∧ c.held = [] := by simpa using hfull
    have hposted := State.writeCqe_spec hfind ht (huq ▸ hq) (huc ▸ hc)
    have ht' : t = u.writeCqe asn := by
      rw [show t = u.post asn from hpost, State.post,
        State.postOne_writes hfind ho (huq ▸ hq) (huc ▸ hc) hempty.1 hempty.2, State.postAborts_of_none]
      intro e he
      rcases hposted.entries e he with rfl | rfl | he
      · exact fun h => Option.some_ne_none _ (h.symm.trans hw)
      · exact fun h => Option.some_ne_none _ (h.symm.trans hw)
      · exact hnone' e he
    rw [← ht'] at hposted
    have hto : t.errors = l := hposted.errors.trans hue
    obtain ⟨c', hadv, hcqs⟩ := hposted.cqs
    refine ⟨hto ▸ hmore, hto ▸ hless, fun hf => absurd hf hfull, fun _ _ => ⟨hposted.out.subset List.mem_cons_self, ?_,
      fun hall => ?_, fun hall => ?_, c', huc ▸ hcqs, hadv.tail, hadv.head, hadv.phase, hadv.count⟩⟩
    · rw [hposted.sqs hy, huq, hua]
      rfl
    · rw [hposted.slot]
      exact if_pos hall
    · rw [hposted.slot]
      exact if_neg (Bool.eq_false_iff.1 hall)

end Sys2Proof.Machine

/-! PROOFS. O30: written data enters the write cache; the parts of a verb go to their dies and back. -/

namespace Sys2Proof.Machine

/-! ### Written data -/

theorem State.modSlot_shape (s : State) (asn : Nat) (f : Slot → Slot) : ∃ m, s.modSlot asn f = { s with slots := m } := by
  unfold State.modSlot
  split
  · exact ⟨s.slots, rfl⟩
  · exact ⟨_, rfl⟩

theorem State.modPart_shape (s : State) (asn : Nat) (d : DieId) (f : VPart → VPart) :
    ∃ m, s.modPart asn d f = { s with slots := m } := s.modSlot_shape asn _

theorem State.stage_shape (s : State) (asn : Nat) (d : DieId) (k : Nat) : ∃ m, s.stage asn d k = { s with slots := m } :=
  s.modSlot_shape asn _

theorem State.modZone_shape (s : State) (d : DieId) (z : Nat) (f : Zone → Zone) :
    ∃ zs, s.modZone d z f = s.modData d fun x => { x with zones := zs } := ⟨_, rfl⟩

theorem mem_insertVer (v : CacheVer) (vs : List CacheVer) : v ∈ insertVer v vs := by simp [insertVer]

theorem State.putVersions_insert (s : State) (d : DieId) (b : Nat) (v : CacheVer) (vs : List CacheVer) :
    s.putVersions d b (insertVer v vs) = s.modData d fun x => { x with wc := x.wc.insert b (insertVer v vs) } := by
  have h : (insertVer v vs).isEmpty = false := List.isEmpty_eq_false_iff.2 (List.ne_nil_of_mem (mem_insertVer v vs))
  unfold State.putVersions
  rw [h]
  rfl

/-- Versions put one after the other from a first block on: each block has its own. -/
theorem State.putVersions_run (s : State) (d : DieId) (first n : Nat) (f : Nat → CacheVer) :
    ∃ w, ((List.range n).foldl (fun s i => s.putVersions d (first + i) (insertVer (f i) (s.versions d (first + i)))) s) =
        (s.modData d fun x => { x with wc := w }) ∧ ∀ i < n, f i ∈ w.getD (first + i) [] := by
  induction n with
  | zero => exact ⟨(s.die d).data.wc, (State.setDie_die s d).symm, fun i hi => absurd hi (Nat.not_lt_zero i)⟩
  | succ n ih =>
    obtain ⟨w, hw, hin⟩ := ih
    refine ⟨w.insert (first + n) (insertVer (f n) (w.getD (first + n) [])), ?_, fun i hi => ?_⟩
    · rw [List.range_succ, List.foldl_append, hw, List.foldl_cons, List.foldl_nil, State.putVersions_insert]
      have hv : (s.modData d fun x => { x with wc := w }).versions d (first + n) = w.getD (first + n) [] := by
        simp [State.versions]
      rw [hv]
      simp only [State.modData, State.modDie_modDie]
    · by_cases hn : i = n
      · subst hn
        rw [KMap.getD_insert_self]
        exact mem_insertVer _ _
      · rw [KMap.getD_insert_ne _ _ _ (by omega)]
        exact hin i (by omega)

/-- Everything that a write which has come whole changes: the cache, the zones, a record behind those that wait, the slot. -/
theorem State.storeWrite_spec (s : State) (asn : Nat) (d : DieId) (sl : Slot) (xs : List Block) :
    ∃ w zs m, s.storeWrite asn d sl xs = { s.modData d (fun x => { x with
        wc := w, zones := zs, jq := x.jq ++ [⟨asn, zoneRuns (lbaBlock sl.lba) xs.length, [], []⟩]
        arriving := x.arriving.erase asn }) with slots := m } ∧
      ∀ i, i < xs.length → ∃ v ∈ w.getD (lbaBlock sl.lba + i) [], v.asn = asn ∧ v.data = xs.getD i zeroBlock ∧
        v.dirty = !sl.writeThrough ∧ v.staging = sl.writeThrough := by
  unfold State.storeWrite
  extract_lets first rc wt u runs z c fills v u2
  obtain ⟨w, hw, hin⟩ := s.putVersions_run d first xs.length fun i =>
    { asn, data := xs.getD i zeroBlock, dirty := !wt, staging := wt, resetCount := rc, marked := false }
  have hu : u = s.modData d fun x => { x with wc := w } := hw
  have hv : ∃ zs, v = s.modData d fun x => { x with wc := w, zones := zs } := by
    obtain ⟨zs, hzs⟩ := u.modZone_shape d z fun v => { v with short := true }
    by_cases hz : ((eFua sl.entry || fills) && c.huskKib != 0) = true
    · refine ⟨zs, (if_pos hz).trans ?_⟩
      rw [hzs, hu]
      simp only [State.modData, State.modDie_modDie]
    · refine ⟨(s.die d).data.zones, (if_neg hz).trans ?_⟩
      rw [hu]
      rfl
  obtain ⟨zs, hv⟩ := hv
  have hu2 : u2 = s.modData d fun x => { x with
      wc := w, zones := zs, jq := x.jq ++ [⟨asn, runs, [], []⟩], arriving := x.arriving.erase asn } := by
    simp only [u2, hv, State.modData, State.modDie_modDie]
  obtain ⟨m, hm⟩ := u2.modPart_shape asn d fun p => { p with dataSent := true }
  obtain ⟨m', hm'⟩ := State.stage_shape { u2 with slots := m } asn d 5
  refine ⟨w, zs, m', ?_, fun i hi => ⟨_, hin i hi, rfl, rfl, rfl, rfl⟩⟩
  rw [hm, hm', hu2]

/-! ### The data of a whole write -/

theorem KMap.insertList_append {α : Type} {k : Nat} (v : α) {l : List (Nat × α)} (h : ∀ e ∈ l, e.1 < k) :
    KMap.insertList k v l = l ++ [(k, v)] := by
  induction l with
  | nil => rfl
  | cons e l ih =>
    obtain ⟨j, w⟩ := e
    have hj : j < k := h _ List.mem_cons_self
    rw [KMap.insertList, if_neg (by omega), if_neg (by omega), ih fun e he => h e (List.mem_cons_of_mem _ he)]
    rfl

/-- Blocks taken in their order are all there, in that order. -/
theorem takeAll_entries (f : Nat → Block) (count n : Nat) (hn : n ≤ count) :
    (((List.range n).map fun i => (i, f i)).foldl (fun m e => if e.1 < count then KMap.insert m e.1 e.2 else m) {}).entries =
      (List.range n).map fun i => (i, f i) := by
  induction n with
  | zero => rfl
  | succ n ih =>
    rw [List.range_succ, List.map_append, List.foldl_append, List.map_singleton, List.foldl_cons, List.foldl_nil,
      if_pos (by omega), KMap.insert, ih (by omega)]
    refine KMap.insertList_append _ fun e he => ?_
    obtain ⟨i, hi, rfl⟩ := List.mem_map.1 he
    exact List.mem_range.1 hi

theorem map_getD_range {α : Type} (l : List α) (x : α) : ((List.range l.length).map fun i => l.getD i x) = l := by
  refine List.ext_getElem (by simp) fun i h1 h2 => ?_
  simp [List.getD_eq_getElem?_getD, h2]

/-- A write whose blocks come all at once is stored. -/
theorem State.takeData_whole {s : State} {asn : Nat} {d : DieId} {sl : Slot} {data : List Block}
    (harr : s.arrivals d asn = {}) (hlen : data.length = sl.count) :
    s.takeData asn d sl ((List.range data.length).map fun i => (i, data.getD i zeroBlock)) = s.storeWrite asn d sl data := by
  have hent := takeAll_entries (fun i => data.getD i zeroBlock) sl.count data.length hlen.le
  unfold State.takeData
  rw [harr]
  dsimp only
  rw [if_pos, hent]
  · congr 1
    rw [List.map_map]
    exact map_getD_range data zeroBlock
  · rw [KMap.size, hent]
    simp [hlen]

/-! ### WRITE, ZONE APPEND and COPY -/

section
variable {s : State} {asn : Nat} {sl : Slot}

/-- The anchor takes note of the data and hands them to the owning die. -/
def State.handOver (s : State) (asn bytes : Nat) (d : DieId) : State := (s.monitor 0 0 bytes).send 0 d 0x02 asn

theorem State.handOver_shape (s : State) (asn bytes : Nat) (d : DieId) :
    ∃ o out, s.handOver asn bytes d = { s.modObs 0 o with out := out } := by
  refine ⟨fun o => if o.frozen then o else { o with mons := o.mons.modify 0 fun m => { m with bytes := m.bytes + bytes } }, ?_⟩
  unfold State.handOver State.send
  split
  · exact ⟨s.out, rfl⟩
  · exact ⟨_, rfl⟩

theorem State.handOver_data (s : State) (asn bytes : Nat) (d e : DieId) :
    ((s.handOver asn bytes d).die e).data = (s.die e).data ∧ ((s.handOver asn bytes d).die e).heads = (s.die e).heads ∧
      (e ≠ 0 → (s.handOver asn bytes d).die e = s.die e) := by
  obtain ⟨o, out, h⟩ := s.handOver_shape asn bytes d
  have hdie : (s.handOver asn bytes d).die e = (s.modObs 0 o).die e := by rw [h]; rfl
  rw [hdie]
  by_cases he : e = 0
  · subst he
    rw [State.modObs_die_self]
    exact ⟨rfl, rfl, fun h => absurd rfl h⟩
  · rw [State.modObs_die_ne _ _ _ _ he]
    exact ⟨rfl, rfl, fun _ => rfl⟩

theorem writeData_stored {op : Nat} {data : List Block} (hs : s.slots.find? asn = some sl) (hop : sl.op = op)
    (htakes : sl.takes (lbaDie sl.lba) = true) (harr : (s.die (lbaDie sl.lba)).data.arriving.find? asn = none)
    (hlen : data.length = sl.count) : s.writeData asn op data =
      (s.handOver asn (4096 * data.length) (lbaDie sl.lba)).storeWrite asn (lbaDie sl.lba) sl data := by
  unfold State.writeData
  simp only [hs]
  rw [if_pos ⟨hop, htakes⟩]
  refine State.takeData_whole (s := s.handOver asn (4096 * data.length) (lbaDie sl.lba)) ?_ hlen
  unfold State.arrivals
  rw [(s.handOver_data asn (4096 * data.length) (lbaDie sl.lba) (lbaDie sl.lba)).1, KMap.getD, harr]
  rfl

/-- What a whole write leaves behind. -/
theorem writeData_spec {op : Nat} {data : List Block} (hs : s.slots.find? asn = some sl) (hop : sl.op = op)
    (htakes : sl.takes (lbaDie sl.lba) = true) (harr : (s.die (lbaDie sl.lba)).data.arriving.find? asn = none)
    (hlen : data.length = sl.count) :
    let d := lbaDie sl.lba
    let t := s.writeData asn op data
    (∀ i, i < data.length → ∃ v ∈ t.versions d (lbaBlock sl.lba + i), v.asn = asn ∧ v.data = data.getD i zeroBlock ∧
      v.dirty = !sl.writeThrough ∧ v.staging = sl.writeThrough) ∧
    (t.die d).data.jq = (s.die d).data.jq ++ [⟨asn, zoneRuns (lbaBlock sl.lba) data.length, [], []⟩] ∧
    (t.die d).data.media = (s.die d).data.media ∧ (t.die d).heads = (s.die d).heads ∧
    (∀ e, e ≠ 0 → e ≠ d → t.die e = s.die e) ∧ t.host = s.host ∧ t.objs = s.objs := by
  intro d t
  have ht : t = _ := writeData_stored hs hop htakes harr hlen
  obtain ⟨hdata, hheads, -⟩ := s.handOver_data asn (4096 * data.length) d d
  have hother := fun e => (s.handOver_data asn (4096 * data.length) d e).2.2
  have hhost : (s.handOver asn (4096 * data.length) d).host = s.host ∧ (s.handOver asn (4096 * data.length) d).objs = s.objs := by
    obtain ⟨o, out, h⟩ := s.handOver_shape asn (4096 * data.length) d
    rw [h]
    exact ⟨rfl, rfl⟩
  generalize s.handOver asn (4096 * data.length) d = u at *
  obtain ⟨w, zs, m, hu, hin⟩ := u.storeWrite_spec asn d sl data
  rw [hu] at ht
  generalize hg : (fun x : DieData => _) = g at ht
  have hdie : t.die d = { u.die d with data := g (u.die d).data } := by rw [ht]; exact State.modData_die_self u d g
  refine ⟨?_, ?_, ?_, ?_, fun e he hed => ?_, ?_, ?_⟩
  · intro i hi
    have hver : t.versions d (lbaBlock sl.lba + i) = w.getD (lbaBlock sl.lba + i) [] := by
      rw [State.versions, hdie, ← hg]
    rw [hver]
    exact hin i hi
  · rw [hdie, ← hg, ← hdata]
  · rw [hdie, ← hg, ← hdata]
  · rw [hdie, ← hheads]
  · rw [← hother e he, ht]
    exact State.modData_die_ne u d e g hed
  · rw [ht]
    exact hhost.1
  · rw [ht]
    exact hhost.2

/-- A block on its own is kept until the rest of a longer write is there. -/
theorem writeDataToOwner_one {d : DieId} {i : Nat} {block : Block} (hd : s.fitted d = true) (hs : s.slots.find? asn = some sl)
    (htakes : sl.takes d = true) (harr : (s.die d).data.arriving.find? asn = none) (hcount : 1 < sl.count)
    (hi : i < sl.count) : exec (.writeDataToOwner asn d i block) s = .next ((s.handOver asn 4096 d).modData d fun x =>
      { x with arriving := x.arriving.insert asn (({} : KMap Block).insert i block) }) := by
  have hexec : exec (.writeDataToOwner asn d i block) s = _ := exec_onDie (execWriteDataToOwner asn d i block s) rfl rfl hd
  have harr' : (s.handOver asn 4096 d).arrivals d asn = {} := by
    rw [State.arrivals, (s.handOver_data asn 4096 d d).1, KMap.getD, harr]
    rfl
  simp only [hs, htakes, if_true] at hexec
  rw [hexec]
  refine congrArg Host.Outcome.next ?_
  change (s.handOver asn 4096 d).takeData asn d sl [(i, block)] = _
  unfold State.takeData
  rw [harr']
  simp only [List.foldl_cons, List.foldl_nil, hi, if_true]
  exact if_neg (by simp [KMap.size, KMap.insert, KMap.insertList]; omega)

/-! ### COPY -/

section
variable {p : VPart} {outs : List BlockOutcome} (hs : s.slots.find? asn = some sl) (hop : sl.op = 8) (hparts : sl.parts = [p])
  (hp : p.die = lbaDie sl.lba) (hr : sl.ready (lbaDie sl.lba) = true) (harr : sl.arrived (lbaDie sl.lba) = false)
  (hblocks : ∀ l ∈ sl.sources, s.blockReady (lbaDie l) asn (lbaBlock l) false = true)
include hs hop hparts hp hr harr hblocks

/-- The sources as they are read. -/
def Slot.copyRun (sl : Slot) (s : State) (asn : Nat) (outs : List BlockOutcome) : State × ReadSum :=
  s.readRun asn false (withOuts (sl.sources.map fun l => (lbaDie l, lbaBlock l)) outs) {}

omit hs in
theorem copy_ready : (decide (sl.op = 8) && sl.parts.all (fun p => sl.ready p.die) && !(sl.arrived (lbaDie sl.lba)) &&
    (sl.sources.map fun l => (lbaDie l, lbaBlock l)).all fun b => s.blockReady b.1 asn b.2 false) = true := by
  simpa [hop, hparts, hp, hr, harr] using hblocks

/-- A COPY that has read its sources stores them as a write does. -/
theorem copy_stored (hbad : (sl.copyRun s asn outs).2.bad = none) : ∃ u : State,
    exec (.copy asn outs) s = .next (u.storeWrite asn (lbaDie sl.lba) sl (sl.copyRun s asn outs).2.data.reverse) := by
  have hexec : exec (.copy asn outs) s = execCopy asn outs s := rfl
  unfold execCopy at hexec
  simp only [hs] at hexec
  rw [if_neg (by rw [copy_ready hop hparts hp hr harr hblocks]; decide)] at hexec
  rw [show (s.readRun asn false (withOuts (sl.sources.map fun l => (lbaDie l, lbaBlock l)) outs) {}) = sl.copyRun s asn outs
    from rfl] at hexec
  simp only [hbad, hparts, hp, List.map_cons, List.map_nil, bne_self_eq_false, Bool.false_eq_true, not_false_eq_true,
    List.filter_cons_of_neg, List.filter_nil, List.foldl_nil] at hexec
  exact ⟨_, hexec⟩

/-- A COPY whose source failed gives the destination's reservation back and ends with the failure. -/
theorem copy_failed {f : ReadFail} (hbad : (sl.copyRun s asn outs).2.bad = some f) (hf : f.die = lbaDie sl.lba) :
    exec (.copy asn outs) s = .next ((((sl.copyRun s asn outs).1.readStages asn (lbaDie sl.lba)
      (sl.copyRun s asn outs).2.media).copyUndo sl).partEnd asn (lbaDie sl.lba) fun p =>
        { p with status := f.status, lba := some f.lba, head := f.head, step := f.step, chan := f.chan }) := by
  have hexec : exec (.copy asn outs) s = execCopy asn outs s := rfl
  unfold execCopy at hexec
  simp only [hs] at hexec
  rw [if_neg (by rw [copy_ready hop hparts hp hr harr hblocks]; decide)] at hexec
  rw [show (s.readRun asn false (withOuts (sl.sources.map fun l => (lbaDie l, lbaBlock l)) outs) {}) = sl.copyRun s asn outs
    from rfl] at hexec
  simp only [hbad, hparts, hp, hf, List.map_cons, List.map_nil, List.foldl_cons, List.foldl_nil, if_true] at hexec
  exact hexec

end

theorem State.storeWrite_versions (u : State) (asn : Nat) (d : DieId) (sl : Slot) (xs : List Block) (i : Nat)
    (hi : i < xs.length) : ∃ v ∈ (u.storeWrite asn d sl xs).versions d (lbaBlock sl.lba + i),
      v.asn = asn ∧ v.data = xs.getD i zeroBlock := by
  obtain ⟨w, zs, m, hu, hin⟩ := u.storeWrite_spec asn d sl xs
  obtain ⟨v, hv, hasn, hdata, -⟩ := hin i hi
  refine ⟨v, ?_, hasn, hdata⟩
  generalize hg : (fun x : DieData => _) = g at hu
  have hdie : (u.storeWrite asn d sl xs).die d = { u.die d with data := g (u.die d).data } := by
    rw [hu]
    exact State.modData_die_self u d g
  rw [State.versions, hdie, ← hg]
  exact hv

/-! ### FLUSH -/

/-- A verb without writes among those outstanding holds no flush up. -/
theorem State.flushDone_congr {t : State} {d : DieId} {u : Slot} (hdie : t.die d = s.die d)
    (hs : ∀ e ∈ s.slots.entries, writeOp e.2.op = false) (ht : ∀ e ∈ t.slots.entries, writeOp e.2.op = false)
    (hasn : u.asn = sl.asn) (hentry : u.entry = sl.entry) (hlba : u.lba = sl.lba) : t.flushDone d u = s.flushDone d sl := by
  unfold State.flushDone
  refine congrArg₂ and ?_ ((congrArg not (a₂ := false) ?_).trans (congrArg not (a₂ := false) ?_).symm)
  · simp only [Slot.flushZone?, hasn, hentry, hlba, hdie]
  · exact List.any_eq_false.2 fun e he => by simp [ht e he]
  · exact List.any_eq_false.2 fun e he => by simp [hs e he]

/-- A FLUSH alone on the host's side ends where nothing it covers is dirty. -/
theorem flushBegin_done {p : VPart} (hop : sl.op = 4) (hparts : sl.parts = [p]) (hr : sl.ready p.die = true)
    (ht : sl.traced = false) (hslots : s.slots = ({} : KMap Slot).insert asn sl) (hdone : s.flushDone p.die sl = true)
    {scope : Nat} (hscope : eVs sl.entry 0 1 % 2 = scope) : s.flushBegin asn scope =
      s.ends asn p.die fun p => { p with begun := true, status := St.success, result := 0, data := [] } := by
  have hs : s.slots.find? asn = some sl := by
    rw [hslots]
    exact KMap.find?_insert_self _ _ _
  have happlied : p.applied = false := by
    have := hr
    simp only [Slot.ready, Slot.part?, hparts, List.find?_cons, beq_self_eq_true] at this
    simp at this
    exact this.2.2
  unfold State.flushBegin
  simp only [hs, hop, hscope, hparts, List.map_cons, List.map_nil, List.filter_cons_of_pos hr, List.filter_nil, List.foldl_cons,
    List.foldl_nil, and_self, if_true]
  generalize hu : s.modPart asn p.die (fun p => { p with begun := true }) = u
  generalize hsl : ({ sl with parts := modPartList p.die (fun p => { p with begun := true }) sl.parts } : Slot) = sl'
  have hu' : u = { s with slots := ({} : KMap Slot).insert asn sl' } := by
    rw [← hu, State.modPart, State.modSlot_eq hs, hslots, KMap.insert_insert, hsl]
  have hfind : u.slots.find? asn = some sl' := by
    rw [hu']
    exact KMap.find?_insert_self _ _ _
  have hpart : sl'.part? p.die = some { p with begun := true } := by
    rw [← hsl, Slot.part?, hparts]
    simp [modPartList]
  have hop' : sl'.op = 4 := by rw [← hsl]; exact hop
  have ht' : sl'.traced = false := by rw [← hsl]; exact ht
  have hdone' : u.flushDone p.die sl' = true := by
    have hwrites : writeOp 4 = false := rfl
    rw [State.flushDone_congr (s := s) (sl := sl) ?_ ?_ ?_ ?_ ?_ ?_]
    · exact hdone
    · rw [hu']
      rfl
    · rw [hslots]
      simp [KMap.insert, KMap.insertList, hop, hwrites]
    · rw [hu']
      simp [KMap.insert, KMap.insertList, hop', hwrites]
    · rw [← hsl]
    · rw [← hsl]
    · rw [← hsl]
  have hkeys : u.slots.keys = [asn] := by
    rw [hu']
    rfl
  unfold State.recheck
  rw [hkeys, List.foldl_cons, List.foldl_nil]
  simp only [hfind, hpart, happlied, hop', hdone', Bool.not_false, Bool.and_self, Bool.not_true, Bool.false_eq_true, if_false,
    and_self, if_true]
  rw [if_neg (by simp [show writeOp 4 = false from rfl]), State.partOk, State.partEnd_of_untraced hfind ht', ← hu]
  exact State.ends_modPart hs p.die fun _ => rfl

end

end Sys2Proof.Machine

/-! PROOFS. O30: the way of a verb's parts to their dies and back. -/

namespace Sys2Proof.Machine

/-! ### What follows a posted completion -/

/-- Outputs are only added, a slot that is gone stays gone, and no dispatch slot of the die moves. -/
structure Beside (asn : Nat) (d : DieId) (s t : State) : Prop where
  out : s.out <:+ t.out
  gone : s.slots.find? asn = none → t.slots.find? asn = none
  mirror : (t.die d).mirror.slots = (s.die d).mirror.slots

namespace Beside
variable {asn : Nat} {d : DieId} {s t u : State}

theorem refl : Beside asn d s s := ⟨List.suffix_rfl, id, rfl⟩

theorem trans (h : Beside asn d s t) (k : Beside asn d t u) : Beside asn d s u :=
  ⟨h.out.trans k.out, fun hs => k.gone (h.gone hs), k.mirror.trans h.mirror⟩

theorem same (ho : t.out = s.out) (hs : t.slots = s.slots) (hd : t.dies = s.dies) : Beside asn d s t :=
  ⟨ho ▸ List.suffix_rfl, fun h => hs ▸ h, by rw [State.die, hd]; rfl⟩

theorem ite {c : Prop} [Decidable c] (h : Beside asn d s t) (k : Beside asn d s u) : Beside asn d s (if c then t else u) := by
  split
  · exact h
  · exact k

theorem foldl {β : Type} {g : State → β → State} (h : ∀ s x, Beside asn d s (g s x)) (l : List β) (s : State) :
    Beside asn d s (l.foldl g s) := by
  induction l generalizing s with
  | nil => exact refl
  | cons x l ih => exact (h s x).trans (ih _)

theorem reported {cs : List ObjDef} {e : DieId} (h : Reported cs e s t) (ho : s.out <:+ t.out) : Beside asn d s t :=
  ⟨ho, fun hs => h.slots ▸ hs, congrArg _ (h.mirror d)⟩

theorem modSlot {w : Nat} {f : Slot → Slot} : Beside asn d s (s.modSlot w f) := by
  unfold State.modSlot
  cases hw : s.slots.find? w with
  | none => exact refl
  | some sl =>
    refine ⟨List.suffix_rfl, fun hs => ?_, rfl⟩
    have hne : asn ≠ w := by
      rintro rfl
      exact Option.some_ne_none _ (hw.symm.trans hs)
    exact (KMap.find?_insert_ne _ _ hne).trans hs

theorem erase {w : Nat} : Beside asn d s { s with slots := s.slots.erase w } := by
  refine ⟨List.suffix_rfl, fun hs => ?_, rfl⟩
  by_cases hw : asn = w
  · subst hw
    exact KMap.find?_erase_self _ _
  · exact (KMap.find?_erase_ne _ hw).trans hs

theorem bump {o : ObjDef} {i k : Nat} : Beside asn d s (s.bump o i k) := by
  refine ⟨?_, fun hs => ?_, ?_⟩
  · rw [State.bump_out]
  · simpa [State.bump, State.bumpSub] using hs
  · rw [State.bump_die]

theorem putEntry {q sq head : Nat} {r : BitVec 64} {st cid : BitVec 16} : Beside asn d s (s.putEntry q sq head r st cid) := by
  cases hq : s.cqs.find? q with
  | none =>
    unfold State.putEntry
    rw [hq]
    exact refl
  | some c =>
    obtain ⟨c', -, hrep, hout⟩ := State.putEntry_spec hq sq head r st cid
    have hset : Beside asn d s { s with cqs := s.cqs.insert q c' } := ⟨List.suffix_rfl, id, rfl⟩
    exact hset.trans (reported hrep ((List.suffix_cons _ _).trans hout))

theorem raise {e : DieId} {k : EventKind} {data : List (Nat × Int)} (hk : k.src ≠ 119 ∨ e = 0) :
    Beside asn d s (s.raise e k data) := reported (State.raise_reported [] s e k data hk) (State.raise_out s e k data)

theorem traceRecord {sl : Slot} : Beside asn d s (s.traceRecord sl) := by
  unfold State.traceRecord
  split
  · exact refl
  · extract_lets t0 n flags r room full u
    have hfull : Beside asn d s { s with traceFullSeen := true } := same rfl rfl rfl
    have hu : Beside asn d s u := ite (hfull.trans (raise (.inl (by decide)))) refl
    have hring : Beside asn d u { u with trace := (r :: u.trace).take room } := same rfl rfl rfl
    split
    · exact hu.trans bump
    · exact hu.trans (hring.trans bump)

theorem sqSweep {q : Nat} : Beside asn d s (s.sqSweep q) := by
  obtain ⟨v, hv⟩ := s.sqSweep_shape q
  rw [hv]
  exact ⟨List.suffix_rfl, id, rfl⟩

theorem writeCqe {w : Nat} : Beside asn d s (s.writeCqe w) := by
  unfold State.writeCqe
  split
  · exact refl
  · split
    · exact erase
    · extract_lets u sl' v x next y z
      have hy : Beside asn d s y :=
        (((modSlot.trans putEntry).trans traceRecord)).trans ⟨List.suffix_rfl, id, rfl⟩
      exact (hy.trans (ite erase modSlot)).trans sqSweep

theorem postOne {w : Nat} : Beside asn d s (s.postOne w) := by
  unfold State.postOne
  split
  · exact refl
  · split
    · exact erase
    · split
      · exact erase
      · refine ite (trans ?_ bump) writeCqe
        exact same rfl rfl rfl

theorem postAborts {w : Nat} : Beside asn d s (s.postAborts w) := by
  unfold State.postAborts
  exact ite refl (foldl (fun _ _ => modSlot.trans postOne) _ _)

end Beside

/-! ### A part on its way -/

section
variable {s : State} {asn : Nat} {d : DieId} {sl : Slot} {p : VPart}

theorem Slot.part?_die (h : sl.part? d = some p) : p.die = d := by simpa using List.find?_some h

/-- A slot that has just been put there is not stamped unless it is traced. -/
theorem State.stage_of_inserted {m : KMap Slot} (hm : s.slots = m.insert asn sl) (ht : sl.traced = false) (e : DieId) (k : Nat) :
    s.stage asn e k = s := by
  have hs : s.slots.find? asn = some sl := by
    rw [hm]
    exact KMap.find?_insert_self _ _ _
  rw [State.stage_of_untraced hs ht, State.modSlot_eq hs, hm, id, KMap.insert_insert, ← hm]

/-- A part that has come to its die. -/
def VPart.arrive (p : VPart) : VPart := { p with received := true }

section
variable (hd : s.fitted d = true) (hs : s.slots.find? asn = some sl) (hp : sl.part? d = some p)
include hd hs hp

theorem verbDispatch_runs (ht : sl.traced = false) (hr : p.received = false) (hin : (s.die d).inService = true) :
    exec (.verbDispatch asn d) s = .next (((s.modPart asn d fun p => { p with received := true }).modData d fun x =>
      { x with dispatch := x.dispatch ++ [asn] }).count d 0x0A1) := by
  have hexec : exec (.verbDispatch asn d) s = _ := exec_onDie (execVerbDispatch asn d s) rfl rfl hd
  simp only [hs, Option.bind_some, hp, hr, hin, Bool.not_true, Bool.or_self, Bool.false_eq_true, if_false] at hexec
  rw [State.stage_of_inserted (m := s.slots) (sl := { sl with parts := modPartList d VPart.arrive sl.parts }) ?_ ht] at hexec
  · exact hexec
  · rw [State.modPart, State.modSlot_eq hs]
    rfl

theorem readDataToAnchor_sends (ha : p.applied = true) (hdel : p.delivered = false) (hsent : p.dataSent = false)
    (hdata : p.data ≠ []) (h0 : d.val ≠ 0) : exec (.readDataToAnchor asn d) s =
      .next { s.modPart asn d (fun p => { p with dataSent := true }) with
        out := .fabric d 0 0x12 (BitVec.ofNat 64 asn) :: s.out } := by
  have hexec : exec (.readDataToAnchor asn d) s = _ := exec_onDie (execReadDataToAnchor asn d s) rfl rfl hd
  simp only [hs, Option.bind_some, hp] at hexec
  have hne : d ≠ 0 := fun h => h0 (congrArg Fin.val h)
  rw [if_pos (by simp [ha, hdel, hsent, hdata]), State.send, if_neg hne] at hexec
  rw [hexec, State.modPart, State.modSlot_eq hs]
  rfl

theorem verbPartCompletion_delivers (ha : p.applied = true) (hdel : p.delivered = false)
    (hsent : p.dataSent = true ∨ p.data = []) :
    exec (.verbPartCompletion asn d) s = .next ((s.send d 0 0x11 asn).deliver asn d) := by
  have hexec : exec (.verbPartCompletion asn d) s = _ := exec_onDie (execVerbPartCompletion asn d s) rfl rfl hd
  simp only [hs, Option.bind_some, hp] at hexec
  rw [if_pos (by simpa [ha, hdel] using hsent)] at hexec
  exact hexec

end

/-- A part that has reached the anchor. -/
def VPart.done (p : VPart) : VPart := { p with applied := true, delivered := true }

/-- The only part of a verb reaches the anchor: what it held returns, and the verb is concluded. -/
theorem State.deliver_one (hs : s.slots.find? asn = some sl) (hparts : sl.parts = [p]) (hp : p.die = d)
    (hdel : p.delivered = false) : s.deliver asn d =
      (({ s.partBack sl d with slots := s.slots.insert asn { sl with parts := [p.done] } } : State).ingressBack sl).conclude asn := by
  subst hp
  have hmod : (s.partBack sl p.die).modPart asn p.die (fun p => { p with applied := true, delivered := true }) =
      { s.partBack sl p.die with slots := s.slots.insert asn { sl with parts := [p.done] } } := by
    rw [State.modPart, State.modSlot_eq (s := s.partBack sl p.die) hs]
    simp only [modPartList, hparts, List.map_cons, List.map_nil, if_true]
    rfl
  unfold State.deliver
  simp only [hs, hmod]
  rw [if_neg (by simp [hparts, hdel]), if_pos]
  simp [KMap.getD_insert_self, VPart.done]

theorem State.partBack_slots (hsl : sl.takesSlot d = true) :
    ((s.partBack sl d).die d).mirror.slots = (s.die d).mirror.slots + 1 := by
  rw [State.partBack, State.modDie_die_self]
  simp [hsl]

theorem State.ingressBack_slots (e : DieId) : ((s.ingressBack sl).die e).mirror.slots = (s.die e).mirror.slots := by
  unfold State.ingressBack
  split
  · by_cases he : e = 0
    · subst he
      rw [State.modDie_die_self]
    · rw [State.modDie_die_ne _ _ _ _ he]
  · rfl

theorem State.ingressBack_shape (s : State) (sl : Slot) : ∃ v, s.ingressBack sl = { s with dies := v } := by
  unfold State.ingressBack
  split
  · exact ⟨_, rfl⟩
  · exact ⟨s.dies, rfl⟩

end

/-! ### The conclusion of a verb of one part -/

section
variable {s : State} {asn : Nat} {sl : Slot} {p : VPart} {y : Sq} {c : Cq}

/-- The data of a verb on their way to the host. -/
def State.hostGets (s : State) (asn : Nat) (data : List Byte) : State :=
  if data.isEmpty then s else ((s.emit (.hostData asn data)).monitor 0 1 data.length).stage asn 0 10

theorem State.hostGets_spec {m : KMap Slot} (hs : s.slots = m.insert asn sl) (ht : sl.traced = false) (data : List Byte) :
    ∃ v o, s.hostGets asn data = { s with dies := v, out := o } ∧ (data ≠ [] → Out.hostData asn data ∈ o) ∧
      ∀ d, ((s.hostGets asn data).die d).mirror = (s.die d).mirror := by
  unfold State.hostGets
  cases hdata : data with
  | nil => exact ⟨s.dies, s.out, rfl, fun h => absurd rfl h, fun _ => rfl⟩
  | cons b bs =>
    rw [if_neg (by simp), State.stage_of_inserted (s := (s.emit (.hostData asn (b :: bs))).monitor 0 1 (b :: bs).length)
      (m := m) (sl := sl) hs ht]
    refine ⟨_, _, rfl, fun _ => List.mem_cons_self, fun d => ?_⟩
    unfold State.monitor
    by_cases hd : d = 0
    · subst hd
      rw [State.modObs_die_self]
      rfl
    · rw [State.modObs_die_ne _ _ _ _ hd]
      rfl

theorem partsData_one (p : VPart) : partsData [p] = p.data := by
  simp [partsData]

/-- A verb of one part whose queue has room is concluded with that part's status. -/
theorem State.conclude_one {m : KMap Slot} (hs : s.slots = m.insert asn sl) (ht : sl.traced = false) (hparts : sl.parts = [p])
    (hdel : p.delivered = true) (ho : sl.orphan = false) (hd : sl.decided = false) (hw : sl.waitsFor = none)
    (hq : s.sqs.find? sl.sq = some y) (hc : s.cqs.find? y.cq = some c) (hfull : c.full = false) (hheld : c.held = []) :
    let t := s.conclude asn
    (∃ r, Out.cqe y.cq c.tail (cqeBits r y.head sl.sq p.status c.phase (eCid sl.entry)) ∈ t.out) ∧
    (p.data ≠ [] → Out.hostData asn p.data ∈ t.out) ∧ t.slots.find? asn = none ∧
    ∀ d, (t.die d).mirror.slots = (s.die d).mirror.slots := by
  have hfind : s.slots.find? asn = some sl := by
    rw [hs]
    exact KMap.find?_insert_self _ _ _
  intro t
  have ht' : ∃ x, t = (s.hostGets asn p.data).settleVerb asn p.status (sl.combine p.status) x := by
    simp only [t, State.conclude, hfind, ho, hd, Bool.false_eq_true, if_false, hparts, partsData_one]
    by_cases h : p.status = St.success
    · simp only [List.find?_cons, List.find?_nil, h, bne_self_eq_false]
      exact ⟨_, rfl⟩
    · simp only [List.find?_cons, bne_iff_ne.2 h]
      exact ⟨_, rfl⟩
  obtain ⟨x, ht'⟩ := ht'
  obtain ⟨v, o, hu, hout, hmir⟩ := State.hostGets_spec hs ht p.data
  generalize s.hostGets asn p.data = u at *
  have hufind : u.slots.find? asn = some sl := by rw [hu]; exact hfind
  obtain ⟨l, n, -, hpost⟩ := State.settleVerb_posts hufind hd ho hw p.status (sl.combine p.status) x
  generalize hz : ({ u with errors := l, errorCount := n, slots := u.slots.insert asn (sl.decide p.status (sl.combine p.status)) } : State) =
    z at hpost
  have hzfind : z.slots.find? asn = some (sl.decide p.status (sl.combine p.status)) := by
    rw [← hz]
    exact KMap.find?_insert_self _ _ _
  have hzq : z.sqs.find? (sl.decide p.status (sl.combine p.status)).sq = some y := by
    rw [← hz, hu]
    exact hq
  have hzc : z.cqs.find? y.cq = some c := by
    rw [← hz, hu]
    exact hc
  have hposted := State.writeCqe_spec hzfind ht hzq hzc
  have hone : t = (z.writeCqe asn).postAborts asn := by
    rw [ht', hpost, State.post, State.postOne_writes hzfind ho hzq hzc hfull hheld]
  generalize z.writeCqe asn = w at hposted hone
  have hbeside := fun d => Beside.postAborts (asn := asn) (d := d) (s := w) (w := asn)
  rw [← hone] at hbeside
  have hzout : z.out = o := by rw [← hz, hu]
  refine ⟨⟨_, (hbeside 0).out.subset (hposted.out.subset List.mem_cons_self)⟩, fun hne => ?_, (hbeside 0).gone ?_, fun d => ?_⟩
  · exact (hbeside 0).out.subset (hposted.out.subset (List.mem_cons_of_mem _ (hzout ▸ hout hne)))
  · rw [hposted.slot]
    exact if_pos (by simp [Slot.decide, hparts, hdel])
  · rw [(hbeside d).mirror, hposted.mirror d, ← hmir d, ← hz]
    rfl

/-- Once its only part has reached the anchor, the verb's entry is posted with the part's status and data, and its slot and
its dispatch slot are free. -/
theorem State.deliver_one_spec {d : DieId} (hs : s.slots.find? asn = some sl) (ht : sl.traced = false) (hparts : sl.parts = [p])
    (hp : p.die = d) (hdel : p.delivered = false) (ho : sl.orphan = false) (hd : sl.decided = false) (hw : sl.waitsFor = none)
    (hq : s.sqs.find? sl.sq = some y) (hc : s.cqs.find? y.cq = some c) (hfull : c.full = false) (hheld : c.held = []) :
    let t := s.deliver asn d
    (∃ r, Out.cqe y.cq c.tail (cqeBits r y.head sl.sq p.status c.phase (eCid sl.entry)) ∈ t.out) ∧
    (p.data ≠ [] → Out.hostData asn p.data ∈ t.out) ∧
    (sl.takesSlot d = true → (t.die d).mirror.slots = (s.die d).mirror.slots + 1) ∧ t.slots.find? asn = none := by
  rw [State.deliver_one hs hparts hp hdel]
  generalize hu : ({ s.partBack sl d with slots := s.slots.insert asn { sl with parts := [p.done] } } : State) = u
  obtain ⟨v, hv⟩ := u.ingressBack_shape sl
  have hslots : (u.ingressBack sl).slots = s.slots.insert asn { sl with parts := [p.done] } := by rw [hv, ← hu]
  have hq' : (u.ingressBack sl).sqs.find? sl.sq = some y := by
    rw [hv, ← hu]
    exact hq
  have hc' : (u.ingressBack sl).cqs.find? y.cq = some c := by
    rw [hv, ← hu]
    exact hc
  obtain ⟨hcqe, hdata, hgone, hmir⟩ := State.conclude_one hslots ht rfl rfl ho hd hw hq' hc' hfull hheld
  refine ⟨hcqe, hdata, fun htakes => ?_, hgone⟩
  rw [hmir, State.ingressBack_slots, ← hu]
  exact State.partBack_slots htakes

end

/-- Settles O30: what each command does with the data or the part, by the lemmas above. -/
theorem writesCacheAndParts : Obligations.WritesCacheAndParts := by
  refine ⟨fun s asn sl hs => ?_, fun s asn d sl p hd hs hp ht => ?_⟩
  · refine ⟨fun data hop htakes harr hlen => ?_, fun data hop htakes harr hlen => ?_,
      fun i block hd htakes harr hcount hi => ?_, fun p outs hop hparts hp hr harr hblocks => ⟨fun hbad => ?_, fun f hbad hf => ?_⟩,
      fun p hop hparts hr ht hslots hdone => ⟨fun hscope => ?_, fun hscope => ?_⟩⟩
    · obtain ⟨h1, h2, h3, h4, h5, h6, h7⟩ := writeData_spec hs hop htakes harr hlen
      exact ⟨_, rfl, ⟨h1, h2, h3, h4, h5⟩, h6, h7⟩
    · obtain ⟨h1, h2, h3, h4, h5, h6, h7⟩ := writeData_spec hs hop htakes harr hlen
      exact ⟨_, rfl, ⟨h1, h2, h3, h4, h5⟩, h6, h7⟩
    · refine ⟨_, writeDataToOwner_one hd hs htakes harr hcount hi, ?_⟩
      obtain ⟨hdata, -, -⟩ := s.handOver_data asn 4096 (lbaDie sl.lba) (lbaDie sl.lba)
      have hslots : (s.handOver asn 4096 (lbaDie sl.lba)).slots = s.slots := by
        obtain ⟨o, out, h⟩ := s.handOver_shape asn 4096 (lbaDie sl.lba)
        rw [h]
        rfl
      generalize s.handOver asn 4096 (lbaDie sl.lba) = u at *
      simp only [State.arrivals, State.modData_die_self, KMap.getD_insert_self, KMap.find?_insert_self, ← hdata, true_and]
      exact ⟨fun k hk => KMap.find?_insert_ne _ _ hk, hslots⟩
    · obtain ⟨u, hexec⟩ := copy_stored hs hop hparts hp hr harr hblocks hbad
      exact ⟨_, hexec, fun i hi => u.storeWrite_versions asn _ sl _ i (by rw [List.length_reverse]; exact hi)⟩
    · exact copy_failed hs hop hparts hp hr harr hblocks hbad hf
    · exact congrArg Host.Outcome.next (flushBegin_done hop hparts hr ht hslots hdone hscope)
    · exact congrArg Host.Outcome.next (flushBegin_done hop hparts hr ht hslots hdone hscope)
  · refine ⟨fun hr hin => ?_, fun ha hdel hsent hdata h0 => readDataToAnchor_sends hd hs hp ha hdel hsent hdata h0,
      fun q c ha hdel hsent hparts ho hdec hw hq hc hfull hheld => ?_⟩
    · refine ⟨_, verbDispatch_runs hd hs hp ht hr hin, ?_⟩
      have hu : ∀ u : State, u.die d = s.die d → Gives [] d { s.die d with data := { (s.die d).data with
          dispatch := (s.die d).data.dispatch ++ [asn] } } u
          ((u.modData d fun x => { x with dispatch := x.dispatch ++ [asn] }).count d 0x0A1) := by
        intro u hu
        rw [← hu]
        exact Gives.refl.modData.count
      refine hu _ ?_
      obtain ⟨m, hm⟩ := s.modPart_shape asn d fun p => { p with received := true }
      rw [hm]
      rfl
    · refine ⟨_, verbPartCompletion_delivers hd hs hp ha hdel hsent, ?_⟩
      have hsend : ∃ o, s.send d 0 0x11 asn = { s with out := o } := by
        unfold State.send
        split
        · exact ⟨s.out, rfl⟩
        · exact ⟨_, rfl⟩
      obtain ⟨o, ho'⟩ := hsend
      rw [ho']
      exact State.deliver_one_spec (s := { s with out := o }) hs ht hparts (Slot.part?_die hp) hdel ho hdec hw hq hc hfull hheld

end Sys2Proof.Machine

/-! PROOFS. O32: the execution of zone actions. -/

namespace Sys2Proof.Machine

/-! ### What the journal leaves of a zone, the medium and the caches -/

/-- The slots are as they were, and of die d the medium, the write cache and what is known of zone z. -/
structure ZoneKept (d : DieId) (z : Nat) (s t : State) : Prop where
  slots : t.slots = s.slots
  media : (t.die d).data.media = (s.die d).data.media
  wc : (t.die d).data.wc = (s.die d).data.wc
  zone : (t.die d).data.zones.find? z = (s.die d).data.zones.find? z

namespace ZoneKept
variable {d : DieId} {z : Nat} {s t u : State}

theorem refl : ZoneKept d z s s := ⟨rfl, rfl, rfl, rfl⟩

theorem trans (h : ZoneKept d z s t) (k : ZoneKept d z t u) : ZoneKept d z s u :=
  ⟨k.slots.trans h.slots, k.media.trans h.media, k.wc.trans h.wc, k.zone.trans h.zone⟩

theorem ite {c : Prop} [Decidable c] (h : ZoneKept d z s t) (k : ZoneKept d z s u) : ZoneKept d z s (if c then t else u) := by
  split
  · exact h
  · exact k

theorem modData {f : DieData → DieData} (hm : ∀ x, (f x).media = x.media) (hw : ∀ x, (f x).wc = x.wc)
    (hz : ∀ x, (f x).zones.find? z = x.zones.find? z) : ZoneKept d z s (s.modData d f) := by
  refine ⟨rfl, ?_, ?_, ?_⟩
  all_goals rw [State.modData_die_self]
  · exact hm _
  · exact hw _
  · exact hz _

theorem modMem {f : MemState → MemState} : ZoneKept d z s (s.modMem d f) := by
  refine ⟨rfl, ?_, ?_, ?_⟩
  all_goals rw [State.modMem_die_self]

theorem reported {cs : List ObjDef} (h : Reported cs d s t) : ZoneKept d z s t := by
  have hslots : t.slots = s.slots := congrArg State.slots (a₁ := t.side cs) (a₂ := s.side cs) h.1
  exact ⟨hslots, by rw [h.die_eq], by rw [h.die_eq], by rw [h.die_eq]⟩

theorem flushJournal : ZoneKept d z s (s.flushJournal d) := modMem.trans (modData (fun _ => rfl) (fun _ => rfl) fun _ => rfl)

theorem poolCheck {a : Act} : ZoneKept d z s (s.poolCheck d a) := by
  have hset : ∀ v : Bool, ZoneKept d z s (s.modData d fun x => match a with
      | .A => { x with poolArmedA := v }
      | .B => { x with poolArmedB := v }) := fun v => by
    cases a
    · exact modData (fun _ => rfl) (fun _ => rfl) fun _ => rfl
    · exact modData (fun _ => rfl) (fun _ => rfl) fun _ => rfl
  exact ite (ite ((hset false).trans (reported (State.raise_reported [] _ d _ _ (.inl (by decide))))) refl) (ite (hset true) refl)

end ZoneKept

/-- The item is no descriptor of a zone. -/
def JItem.offZones : JItem → Bool
  | .zone _ _ => false
  | _ => true

section
variable {s : State} {d : DieId} {z : Nat}

theorem ZoneKept.applyItem {j : Nat} {i : JItem} (hi : i.offZones = true) : ZoneKept d z s (s.applyItem d j i) := by
  cases i with
  | zone y v => exact absurd hi (by simp [JItem.offZones])
  | seg n v =>
    unfold State.applyItem
    exact modData (fun _ => rfl) (fun _ => rfl) fun _ => rfl
  | frame k v =>
    unfold State.applyItem
    exact modData (fun _ => rfl) (fun _ => rfl) fun _ => rfl
  | bitmap w v =>
    unfold State.applyItem
    exact modData (fun _ => rfl) (fun _ => rfl) fun _ => rfl

theorem ZoneKept.applyItems {j : Nat} {l : List JItem} (hl : ∀ i ∈ l, i.offZones = true) :
    ZoneKept d z s (l.foldl (fun s i => s.applyItem d j i) s) := by
  induction l generalizing s with
  | nil => exact refl
  | cons i l ih => exact (applyItem (hl i List.mem_cons_self)).trans (ih fun i hi => hl i (List.mem_cons_of_mem _ hi))

theorem State.returnItems_offZones (s : State) (d : DieId) (leads : List Nat) : ∀ i ∈ s.returnItems d leads, i.offZones = true := by
  intro i hi
  obtain ⟨n, -, hi⟩ := List.mem_flatMap.1 hi
  obtain ⟨h, -, rfl⟩ := List.mem_map.1 hi
  rfl

theorem frameItems_offZones (l : List Nat) : ∀ i ∈ l.map fun k => JItem.frame k {}, i.offZones = true := by
  intro i hi
  obtain ⟨k, -, rfl⟩ := List.mem_map.1 hi
  rfl

/-- A record goes to the ring, and then its items to the map. -/
theorem State.journalFlags_applies (s : State) (d : DieId) (z asn : Nat) (flags : BitVec 8) (items : List JItem) :
    ∃ j u, ZoneKept d z s u ∧ s.journalFlags d asn flags items = items.foldl (fun s i => s.applyItem d j i) u := by
  unfold State.journalFlags
  extract_lets j r u rev v
  have hu : ZoneKept d z s u := ZoneKept.ite ZoneKept.flushJournal ZoneKept.refl
  have hv : ZoneKept d z u v := ZoneKept.modData (fun _ => rfl) (fun _ => rfl) fun _ => rfl
  exact ⟨j, v, hu.trans hv, rfl⟩

/-- The slots are as they were, and of die d the medium and the write cache; zone z is w. -/
structure ZoneSet (d : DieId) (z : Nat) (w : Zone) (s t : State) : Prop where
  slots : t.slots = s.slots
  media : (t.die d).data.media = (s.die d).data.media
  wc : (t.die d).data.wc = (s.die d).data.wc
  zone : (t.die d).data.zones.find? z = some w

theorem ZoneKept.set {w : Zone} {t u : State} (h : ZoneKept d z s t) (k : ZoneSet d z w t u) : ZoneSet d z w s u :=
  ⟨k.slots.trans h.slots, k.media.trans h.media, k.wc.trans h.wc, k.zone⟩

theorem ZoneSet.kept {w : Zone} {t u : State} (h : ZoneSet d z w s t) (k : ZoneKept d z t u) : ZoneSet d z w s u :=
  ⟨k.slots.trans h.slots, k.media.trans h.media, k.wc.trans h.wc, k.zone.trans h.zone⟩

theorem ZoneSet.modZone {w : Zone} {t : State} {f : Zone → Zone} (h : ZoneSet d z w s t) : ZoneSet d z (f w) s (t.modZone d z f) := by
  have hdie : (t.modZone d z f).die d = { t.die d with data := { (t.die d).data with
      zones := (t.die d).data.zones.insert z (f w) } } := by
    rw [State.modZone, State.zone_of_find h.zone]
    exact State.modData_die_self t d _
  refine ⟨h.slots, ?_, ?_, ?_⟩
  · rw [hdie, ← h.media]
  · rw [hdie, ← h.wc]
  · rw [hdie]
    exact KMap.find?_insert_self _ _ _

/-- A record of one zone's descriptor: the descriptor with the record's epoch, all else of the zone as it was. -/
theorem State.journal_zone {v : Zone} (w : ZDesc) {rest : List JItem} (asn : Nat)
    (hz : (s.die d).data.zones.find? z = some v) (hrest : ∀ i ∈ rest, i.offZones = true) :
    ∃ e, ZoneSet d z { v with desc := { w with epoch := e } } s (s.journal d asn (.zone z w :: rest)) := by
  obtain ⟨j, u, hsu, hj⟩ := s.journalFlags_applies d z asn 0 (.zone z w :: rest)
  have hset : ZoneSet d z v s u := ⟨hsu.slots, hsu.media, hsu.wc, hsu.zone.trans hz⟩
  refine ⟨j % 281474976710656, ?_⟩
  rw [State.journal, List.isEmpty_cons, if_neg Bool.false_ne_true, hj, List.foldl_cons]
  exact (hset.modZone (f := fun o => { o with desc := { w with epoch := j % 281474976710656 } })).kept
    (ZoneKept.applyItems hrest)

end

/-! ### The three executions -/

section
variable {s : State} {d : DieId} {z : Nat} {v : Zone} (hz : (s.die d).data.zones.find? z = some v)
include hz

theorem State.zoneFinishExec_spec (asn : Nat) : ∃ w, ZoneSet d z w s (s.zoneFinishExec d z asn) ∧ w.desc.state = .full ∧
    w.desc.finishReason = 2 ∧ w.finishes = v.finishes.filter (· != asn) ∧ w.desc.content.wp = v.desc.content.wp := by
  unfold State.zoneFinishExec
  simp only [State.zone_of_find hz, List.singleton_append]
  obtain ⟨e, hset⟩ := State.journal_zone (s := s) (d := d) { v.desc with
    state := .full, finishReason := 2, content := { v.desc.content with
      segs := v.desc.content.segs.filter fun n => !((s.emptySegs d v.desc.content).contains n) } } asn hz
    (s.returnItems_offZones d (s.emptySegs d v.desc.content))
  exact ⟨_, hset.modZone, rfl, rfl, rfl, rfl⟩

/-- What the caches and the queues hold of a zone's contents goes; the medium and the zones stay. -/
theorem State.dropContents_spec (rc : Nat) : ((s.modData d (dropContents z rc)).die d).data.zones.find? z = some v ∧
    (s.modData d (dropContents z rc)).slots = s.slots ∧
    ((s.modData d (dropContents z rc)).die d).data.media = (s.die d).data.media ∧
    ((s.modData d (dropContents z rc)).die d).data.wc = (dropContents z rc (s.die d).data).wc := by
  rw [State.modData_die_self]
  exact ⟨hz, rfl, rfl, rfl⟩

theorem State.zoneOfflineExec_spec (asn : Nat) :
    let u := s.zoneOfflineExec d z asn
    u.slots = s.slots ∧ (u.zone d z).desc.state = .offline ∧ (u.zone d z).desc.content.segs = [] ∧
      (u.die d).data.media = (s.die d).data.media := by
  unfold State.zoneOfflineExec
  simp only [State.zone_of_find hz, List.cons_append, List.nil_append]
  obtain ⟨hz', hslots, hmedia, -⟩ := State.dropContents_spec hz v.desc.content.resetCount
  obtain ⟨e, hset⟩ := State.journal_zone (d := d) { v.desc with
    state := .offline, content := { v.desc.content with segs := [], reserved := 0 } } asn hz'
    (rest := ((zoneFrames (s.die d).data z).map fun k => JItem.frame k {}) ++ s.returnItems d v.desc.content.segs)
    (fun i hi => (List.mem_append.1 hi).elim (frameItems_offZones _ i) (s.returnItems_offZones d _ i))
  rw [State.zone_of_find hset.zone]
  exact ⟨hset.slots.trans hslots, rfl, rfl, hset.media.trans hmedia⟩

theorem State.zoneResetExec_spec {c : Content} {rest : List Content} (asn : Nat) (hnew : v.newer = c :: rest) :
    ∃ w, ∃ t, ZoneSet d z w t (s.zoneResetExec d z asn) ∧ t = s.modData d (dropContents z v.desc.content.resetCount) ∧
      w.desc.state = .empty ∧ w.desc.content = c ∧ w.newer = rest ∧ w.resets = v.resets.drop 1 := by
  unfold State.zoneResetExec
  simp only [State.zone_of_find hz, hnew, List.cons_append, List.nil_append]
  obtain ⟨hz', -⟩ := State.dropContents_spec hz v.desc.content.resetCount
  obtain ⟨e, hset⟩ := State.journal_zone (d := d) { v.desc with state := .empty, finishReason := 0, content := c } asn hz'
    (rest := ((zoneFrames (s.die d).data z).map fun k => JItem.frame k {}) ++ s.returnItems d v.desc.content.segs)
    (fun i hi => (List.mem_append.1 hi).elim (frameItems_offZones _ i) (s.returnItems_offZones d _ i))
  exact ⟨_, _, (hset.modZone.kept ZoneKept.poolCheck).kept ZoneKept.poolCheck, rfl, rfl, rfl, rfl, rfl⟩

end

theorem KMap.lookupList_mem {α : Type} {k : Nat} {v : α} {l : List (Nat × α)} (h : KMap.lookupList k l = some v) :
    (k, v) ∈ l := by
  induction l with
  | nil => exact absurd h.symm (Option.some_ne_none v)
  | cons e l ih =>
    obtain ⟨j, w⟩ := e
    by_cases hk : k = j
    · subst hk
      rw [KMap.lookupList, if_pos rfl] at h
      rw [Option.some.inj h]
      exact List.mem_cons_self
    · rw [KMap.lookupList, if_neg hk] at h
      exact List.mem_cons_of_mem _ (ih h)

theorem KMap.mem_of_find? {α : Type} {m : KMap α} {k : Nat} {v : α} (h : m.find? k = some v) : (k, v) ∈ m.entries :=
  KMap.lookupList_mem h

/-- No version of the dropped contents is left in the zone's blocks. -/
theorem dropContents_versions (z rc : Nat) (x : DieData) {b : Nat} (hb : zoneOf b = z) {w : CacheVer}
    (hw : w ∈ (dropContents z rc x).wc.getD b []) : w.resetCount ≠ rc := by
  cases hf : (dropContents z rc x).wc.find? b with
  | none => exact absurd hw (by simp [KMap.getD, hf])
  | some vs =>
    have hvs : w ∈ vs := by simpa [KMap.getD, hf] using hw
    obtain ⟨hmem, -⟩ := List.mem_filter.1 (KMap.mem_of_find? hf)
    obtain ⟨e, -, he⟩ := List.mem_map.1 hmem
    obtain ⟨hkey, hval⟩ := Prod.mk.inj he
    rw [hkey] at hval
    dsimp only at hval
    rw [if_pos (by simp [hb])] at hval
    rw [← hval] at hvs
    simpa using (List.mem_filter.1 hvs).2

/-! ### The verb -/

section
variable {s : State} {asn : Nat} {sl : Slot} {p : VPart} {v : Zone}

theorem State.partOk_ends {u : State} {d : DieId} (hs : s.slots.find? asn = some sl) (ht : sl.traced = false)
    (hu : u.slots = s.slots) (r : BitVec 64) : u.partOk asn d r =
      u.ends asn d fun q => { q with status := St.success, result := r, data := [] } :=
  State.partEnd_of_untraced (hu ▸ hs) ht d _

theorem Slot.ready_applied {d : DieId} (hp : sl.part? d = some p) (hr : sl.ready d = true) : p.applied = false := by
  simp only [Slot.ready, hp, Bool.and_eq_true, Bool.not_eq_true'] at hr
  exact hr.2.2

variable (hs : s.slots.find? asn = some sl) (hop : sl.op = 6) (hall : sl.zall = false) (ht : sl.traced = false)
  (hp : sl.part? (lbaDie sl.lba) = some p) (hb : p.begun = true) (hr : sl.ready (lbaDie sl.lba) = true)
include hs hop hall hp hb hr

omit hop hall hr in
/-- An action that has begun takes nothing further. -/
theorem State.zoneTake_of_begun : s.zoneTake asn = s := by
  unfold State.zoneTake
  simp [hs, hp, hb]

/-- The begun action of one zone is executed once the verbs before it are through. -/
theorem State.zoneExecute_one {act : Nat} {waits : State → DieId → Nat → Bool} {f : State → DieId → Nat → State}
    (hact : sl.zact = act) (hz : (s.die (lbaDie sl.lba)).data.zones.find? sl.zone = some v)
    (hdone : s.earlierDone (lbaDie sl.lba) sl.zone asn = true) (hrec : s.earlierRecorded (lbaDie sl.lba) sl.zone asn = true)
    (hw : waits s (lbaDie sl.lba) sl.zone = true) :
    s.zoneExecute asn act waits f = (f s (lbaDie sl.lba) sl.zone).partOk asn (lbaDie sl.lba) p.result := by
  have hnamed : (s.die (lbaDie sl.lba)).data.zones.contains sl.zone = true := by simp [KMap.contains, hz]
  unfold State.zoneExecute
  simp only [hs, hp, hall, hnamed, Bool.false_eq_true, if_false, if_true, List.filter_cons_of_pos hw, List.filter_nil]
  rw [if_pos (by simp [hop, hact, hb, hr, hdone, hrec])]
  rfl

/-- The descriptor of an OPEN, CLOSE or SET_ATTRIBUTES is journalled. -/
theorem State.zoneSettle_one {act : Nat} (hact : sl.zact = act) (hconv : s.isConv (lbaDie sl.lba) sl.zone = false)
    (hres : (s.zone (lbaDie sl.lba) sl.zone).resets = []) (hrec : s.earlierRecorded (lbaDie sl.lba) sl.zone asn = true) :
    s.zoneSettle asn act = (s.journal (lbaDie sl.lba) asn
      [.zone sl.zone ((s.zone (lbaDie sl.lba) sl.zone).settle act)]).partOk asn (lbaDie sl.lba) p.result := by
  have happlied := Slot.ready_applied hp hr
  unfold State.zoneSettle State.zoneScope
  simp only [hs, hp, hop, hact, hb, happlied, hr, hall, Bool.not_false, Bool.and_self, and_self, decide_true, Bool.not_true,
    Bool.false_eq_true, if_false, if_true, List.all_cons, List.all_nil, hrec]
  rw [List.filter_cons_of_pos (by simp [hconv, hres])]
  rfl

end

/-- Settles O32: the action runs on its one zone, and the part ends. -/
theorem zoneActionsExecute : Obligations.ZoneActionsExecute := by
  intro s asn sl p d z v ended hs hop hall ht hp hb hr hconv hz hrec
  refine ⟨fun act _ hact hres => ?_, fun hdone => ⟨fun hact hfin => ?_, fun c rest hact hreset hnew => ?_, fun hact hoff hdesc => ?_⟩⟩
  · obtain ⟨e, hset⟩ := State.journal_zone (v.settle act) asn hz (rest := []) (by simp)
    exact (State.zoneSettle_one hs hop hall hp hb hr hact hconv hres hrec).trans (State.partOk_ends hs ht hset.slots _)
  · obtain ⟨w, hset, h1, h2, h3, h4⟩ := State.zoneFinishExec_spec hz asn
    refine ⟨s.zoneFinishExec d z asn, congrArg Host.Outcome.next ?_, hset.slots, ?_⟩
    · exact (State.zoneExecute_one hs hop hall hp hb hr hact hz hdone hrec hfin).trans (State.partOk_ends hs ht hset.slots _)
    · rw [State.zone_of_find hset.zone]
      exact ⟨h1, h2, h3, h4, hset.media, hset.wc⟩
  · obtain ⟨w, t, hset, htd, h1, h2, h3, h4⟩ := State.zoneResetExec_spec hz asn hnew
    obtain ⟨-, hslots, hmedia, hwc⟩ := State.dropContents_spec hz v.desc.content.resetCount
    rw [← htd] at hslots hmedia hwc
    refine ⟨s.zoneResetExec d z asn, congrArg Host.Outcome.next ?_, hset.slots.trans hslots, ?_⟩
    · exact (State.zoneExecute_one hs hop hall hp hb hr hact hz hdone hrec hreset).trans
        (State.partOk_ends hs ht (hset.slots.trans hslots) _)
    · rw [State.zone_of_find hset.zone]
      refine ⟨h1, h2, h3, h4, hset.media.trans hmedia, fun b hzb w hw => ?_⟩
      rw [State.versions, hset.wc, hwc] at hw
      exact dropContents_versions z _ _ hzb hw
  · obtain ⟨hslots, h1, h2, h3⟩ := State.zoneOfflineExec_spec hz asn
    refine ⟨s.zoneOfflineExec d z asn, ?_, hslots, h1, h2, h3⟩
    have hexec : exec (.zoneOffline asn) s = execZoneOffline asn s := rfl
    unfold execZoneOffline at hexec
    simp only [hs, hop, hact, and_self, if_true, State.zoneTake_of_begun hs hp hb] at hexec
    rw [hexec]
    refine congrArg Host.Outcome.next ?_
    refine (State.zoneExecute_one hs hop hall hp hb hr hact hz hdone hrec ?_).trans (State.partOk_ends hs ht hslots _)
    exact decide_eq_true ⟨hoff, hdesc⟩

end Sys2Proof.Machine

/-! PROOFS. O33: reports, IDENTIFY and the pages of GET LOG. -/

namespace Sys2Proof.Machine

/-! ### Parts that have been changed -/

theorem find?_modPartList (d : DieId) {f : VPart → VPart} (hf : ∀ p, (f p).die = p.die) (ps : List VPart) :
    (modPartList d f ps).find? (fun p => p.die == d) = (ps.find? fun p => p.die == d).map f := by
  induction ps with
  | nil => rfl
  | cons p ps ih =>
    by_cases hp : p.die = d
    · simp [modPartList, hp, hf]
    · have hne : (p.die == d) = false := by simpa using hp
      have := ih
      simp only [modPartList] at this
      simp only [modPartList, List.map_cons, List.find?_cons, if_neg hp, hne]
      exact this

section
variable {s : State} {asn : Nat} {sl : Slot} {p : VPart} {d : DieId} (hs : s.slots.find? asn = some sl) (ht : sl.traced = false)
include hs ht

theorem State.partFail_ends (st : BitVec 16) : s.partFail asn d st = s.ends asn d fun p => { p with status := st, lba := none } :=
  State.partEnd_of_untraced hs ht d _

/-- What a part ends with successfully. -/
theorem State.partOk_gives (r : BitVec 64) (data : List Byte) :
    s.partOk asn d r data = s.ends asn d fun p => { p with status := St.success, result := r, data := data } :=
  State.partEnd_of_untraced hs ht d _

/-- A report is taken as the zones stand, and the part ends with it. -/
theorem zoneReport_ends (hop : sl.op = 7) (hp : sl.part? (lbaDie sl.lba) = some p) (hb : p.begun = false)
    (hr : sl.ready (lbaDie sl.lba) = true) :
    exec (.zoneReport asn) s = .next (s.ends asn (lbaDie sl.lba) fun p => { p with
      begun := true, status := St.success
      result := BitVec.ofNat 64 (s.zoneReport (lbaDie sl.lba) sl.zone (eVs sl.entry 0 1) (eVs sl.entry 4 4)).2
      data := (s.zoneReport (lbaDie sl.lba) sl.zone (eVs sl.entry 0 1) (eVs sl.entry 4 4)).1 }) := by
  have happlied := Slot.ready_applied hp hr
  have hexec : exec (.zoneReport asn) s = execZoneReport asn s := rfl
  unfold execZoneReport State.reportTake at hexec
  simp only [hs, hp, hb, happlied, hop, bne_self_eq_false, Bool.or_self, Bool.false_eq_true, if_false] at hexec
  generalize s.zoneReport (lbaDie sl.lba) sl.zone (eVs sl.entry 0 1) (eVs sl.entry 4 4) = r at hexec ⊢
  generalize hf : (fun p : VPart => { p with begun := true, data := r.1, result := BitVec.ofNat 64 r.2 }) = f at hexec
  have hdie : ∀ p, (f p).die = p.die := fun p => by rw [← hf]
  have hfind : (s.modPart asn (lbaDie sl.lba) f).slots.find? asn =
      some { sl with parts := modPartList (lbaDie sl.lba) f sl.parts } := s.modSlot_find? hs _
  have hpart : Slot.part? { sl with parts := modPartList (lbaDie sl.lba) f sl.parts } (lbaDie sl.lba) = some (f p) :=
    (find?_modPartList _ hdie sl.parts).trans (congrArg (Option.map f) hp)
  have hready : Slot.ready { sl with parts := modPartList (lbaDie sl.lba) f sl.parts } (lbaDie sl.lba) = true := by
    simp only [Slot.ready, hp] at hr
    have hpf : (f p).received = p.received ∧ (f p).applied = p.applied := by rw [← hf]; exact ⟨rfl, rfl⟩
    simp only [Slot.ready, hpart, hpf]
    exact hr
  simp only [hfind] at hexec
  rw [hpart] at hexec
  dsimp only at hexec
  rw [if_pos ⟨hop, by rw [← hf], hready⟩, State.partOk_gives hfind ht, State.ends_modPart hs _ hdie] at hexec
  rw [hexec, ← hf]

/-- A page's slice, or INVALID_FIELD past its end. -/
theorem State.getLog_page {id : Nat} {dieOf : Slot → DieId} {page : DieId → List Byte} (hop : sl.op = 0x41)
    (hid : eVs sl.entry 0 1 = id) (hr : sl.ready (dieOf sl) = true) : Host.Outcome.next (s.getLog asn id dieOf page) =
      if (page (dieOf sl)).length ≤ eVs sl.entry 4 4 then
        (Host.Outcome.next (s.ends asn (dieOf sl) fun p => { p with status := St.invalidField, lba := none }) : Res)
      else .next (s.ends asn (dieOf sl) fun p => { p with
        status := St.success, result := BitVec.ofNat 64 0
        data := sliceBytes (page (dieOf sl)) (eVs sl.entry 4 4) (eVs sl.entry 8 4) }) := by
  unfold State.getLog
  simp only [hs, hop, hid, hr, and_self, if_true, State.partFail_ends hs ht, State.partOk_gives hs ht]
  split <;> rfl

omit ht in
theorem State.adminVerb_of_ready {op : Nat} {f : Slot → State} (hop : sl.op = op) (hr : sl.ready 0 = true) :
    s.adminVerb asn op f = f sl := by
  unfold State.adminVerb
  simp only [hs]
  exact if_pos ⟨hop, hr⟩

end

/-! ### The length of IDENTIFY -/

theorem length_padTo {n : Nat} {bs : List Byte} (h : bs.length ≤ n) : (padTo n bs).length = n := by
  simp [padTo]
  omega

theorem length_spaced (n : Nat) (bs : List Byte) : (spaced n bs).length = n := by
  simp [spaced]
  omega

theorem length_sliceBytes (bs : List Byte) (off n : Nat) : (sliceBytes bs off n).length = n := by
  simp [sliceBytes]

theorem length_leBytes (n v : Nat) : (leBytes n v).length = n := by
  induction n generalizing v with
  | zero => rfl
  | succ n ih => rw [leBytes, List.length_cons, ih]

theorem State.length_identifyDevice (s : State) : s.identifyDevice.length = 4096 := by
  unfold State.identifyDevice
  refine length_padTo ?_
  simp only [List.length_append, length_spaced, length_sliceBytes, length_leBytes, List.length_cons, List.length_nil]
  omega

/-- Settles O33: each command by its condition. -/
theorem reportsAndPages : Obligations.ReportsAndPages := by
  intro s asn sl hs ht gives refused page
  refine ⟨fun p hop hp hb hr => zoneReport_ends hs ht hop hp hb hr, fun hop hr h0 => ⟨?_, s.length_identifyDevice⟩,
    fun hop hr h1 => ?_, fun hop hid hr => ?_, fun hop hid hr => ?_, fun hop hid hr => ?_⟩
  · have hexec : exec (.identifyDevice asn) s = execIdentifyDevice asn s := rfl
    rw [hexec, execIdentifyDevice, State.adminVerb_of_ready hs hop hr, if_pos h0, State.partOk_gives hs ht]
    rfl
  · have hexec : exec (.identifyDie asn) s = execIdentifyDie asn s := rfl
    rw [hexec, execIdentifyDie, State.adminVerb_of_ready hs hop hr]
    dsimp only
    rw [if_neg (by simp [h1]), State.partOk_gives hs ht, State.partFail_ends hs ht]
    split <;> rfl
  · exact State.getLog_page hs ht (dieOf := fun _ => 0) (page := fun _ => s.errPage) hop hid hr
  · exact State.getLog_page hs ht (dieOf := Slot.logDie) (page := s.eventPage) hop hid hr
  · exact State.getLog_page hs ht (dieOf := Slot.logDie) (page := s.tracePage) hop hid hr

end Sys2Proof.Machine

/-! PROOFS. O34: KEY LOAD, SANITIZE and the state of key domains. -/

namespace Sys2Proof.Machine

/-! ### Key domains -/

section
variable {s : State} {d : DieId} {k : Nat}

theorem State.keyDom_modKey_self (f : KeyDomain → KeyDomain) : (s.modKey d k f).keyDom d k = f (s.keyDom d k) := by
  rw [State.keyDom, State.modKey, State.modData_die_self]
  exact KMap.getD_insert_self _ _ _ _

theorem State.keyDom_modKey_ne (f : KeyDomain → KeyDomain) {j : Nat} (h : j ≠ k) :
    (s.modKey d k f).keyDom d j = s.keyDom d j := by
  rw [State.keyDom, State.modKey, State.modData_die_self]
  exact KMap.getD_insert_ne _ _ _ h

theorem State.keyDom_congr {t : State} (h : (t.die d).data.keys = (s.die d).data.keys) (j : Nat) : t.keyDom d j = s.keyDom d j := by
  rw [State.keyDom, h, State.keyDom]

/-- A change of a die's data that leaves its keys. -/
theorem State.keyDom_modData {f : DieData → DieData} (h : ∀ x, (f x).keys = x.keys) (j : Nat) :
    (s.modData d f).keyDom d j = s.keyDom d j := State.keyDom_congr (by rw [State.modData_die_self]; exact h _) j

/-- A fresh nonce changes nothing else of a domain. -/
theorem State.renonce_keyDom : (s.renonce d k).keyDom d k =
    { s.keyDom d k with nonce := nonceBytes (Config.random (s.fresh + 1) (d.val * 64 + k)) } :=
 by
  rw [State.renonce, State.keyDom, State.useFresh_die, ← State.keyDom, State.keyDom_modKey_self]

theorem State.renonce_keyDom_ne {j : Nat} (h : j ≠ k) : (s.renonce d k).keyDom d j = s.keyDom d j := by
  rw [State.renonce, State.keyDom, State.useFresh_die, ← State.keyDom, State.keyDom_modKey_ne _ h]

theorem State.renonce_zones : ((s.renonce d k).die d).data.zones = (s.die d).data.zones := by
  rw [State.renonce, State.useFresh_die, State.modKey, State.modData_die_self]

end

/-! ### KEY LOAD -/

section
variable {s : State} {asn : Nat} {sl : Slot} {p : VPart} {blob : List Byte} (hs : s.slots.find? asn = some sl)
  (ht : sl.traced = false) (hop : sl.op = 0x4B) (hparts : sl.parts = [p]) (hr : sl.ready p.die = true)

/-- The state behind a new nonce, if the blob names a domain. -/
def State.renonced (s : State) (d : DieId) (k : Nat) : State := if k < 64 then s.renonce d k else s

theorem State.renonced_spec (s : State) (d : DieId) (k : Nat) : (s.renonced d k).slots = s.slots ∧
    ((s.renonced d k).die d).data.zones = (s.die d).data.zones ∧
    ((s.renonced d k).keyDom d k).state = (s.keyDom d k).state ∧ ((s.renonced d k).keyDom d k).key = (s.keyDom d k).key ∧
    ((s.renonced d k).keyDom d k).keyId = (s.keyDom d k).keyId := by
  unfold State.renonced
  split
  · rw [State.renonce_keyDom]
    exact ⟨rfl, State.renonce_zones, rfl, rfl, rfl⟩
  · exact ⟨rfl, rfl, rfl, rfl, rfl⟩

/-- A blob that could not be unwrapped, or is not for this nonce. -/
def DieData.unwrapBad (bad : Bool) (x : DieData) : DieData := { x with unwrapFail := x.unwrapFail || bad }

include hs ht hop hparts hr

/-- A blob that fails a check ends the part with that check's status; of its domain only the nonce changes. -/
theorem keyLoad_fails {st : BitVec 16} (hc : (s.keyCheck p.die blob).1 = st) (hst : st ≠ St.success) :
    ∃ u : State, exec (.keyLoad asn blob) s =
        .next (u.ends asn p.die fun q => { q with status := st, lba := none }) ∧
      u.slots = s.slots ∧ (u.die p.die).data.zones = (s.die p.die).data.zones ∧
      (u.keyDom p.die (ofLeBytes (sliceBytes blob 2 1))).state = (s.keyDom p.die (ofLeBytes (sliceBytes blob 2 1))).state ∧
      (u.keyDom p.die (ofLeBytes (sliceBytes blob 2 1))).key = (s.keyDom p.die (ofLeBytes (sliceBytes blob 2 1))).key ∧
      (u.keyDom p.die (ofLeBytes (sliceBytes blob 2 1))).keyId = (s.keyDom p.die (ofLeBytes (sliceBytes blob 2 1))).keyId := by
  have hexec : exec (.keyLoad asn blob) s = execKeyLoad asn blob s := rfl
  unfold execKeyLoad at hexec
  simp only [hs, hparts, List.head?_cons, hop, hr, hc, hst, decide_true, Bool.and_self, Bool.not_true, Bool.false_eq_true,
    if_false] at hexec
  obtain ⟨hslots, hzones, hstate, hkey, hid⟩ := s.renonced_spec p.die (ofLeBytes (sliceBytes blob 2 1))
  change _ = Host.Outcome.next (((s.renonced p.die (ofLeBytes (sliceBytes blob 2 1))).modData p.die
    (DieData.unwrapBad (st == St.keyUnwrapFailed || st == St.keyNonceStale))).partFail asn p.die st) at hexec
  generalize s.renonced p.die (ofLeBytes (sliceBytes blob 2 1)) = u at *
  generalize (st == St.keyUnwrapFailed || st == St.keyNonceStale) = bad at hexec
  have hslots' : (u.modData p.die (DieData.unwrapBad bad)).slots = s.slots := hslots
  have hkeys : ∀ j, (u.modData p.die (DieData.unwrapBad bad)).keyDom p.die j = u.keyDom p.die j :=
    State.keyDom_modData fun _ => rfl
  refine ⟨u.modData p.die (DieData.unwrapBad bad), hexec.trans ?_, hslots', ?_, ?_⟩
  · rw [State.partFail_ends (hslots' ▸ hs) ht]
  · rw [State.modData_die_self]
    exact hzones
  · rw [hkeys]
    exact ⟨hstate, hkey, hid⟩

/-- A good blob keys its domain. -/
theorem keyLoad_keys {key : List Byte} (hc : s.keyCheck p.die blob = (St.success, key))
    (hk : ofLeBytes (sliceBytes blob 2 1) < 64) :
    ∃ u : State, exec (.keyLoad asn blob) s =
        .next (u.ends asn p.die fun q => { q with status := St.success, result := 0, data := [] }) ∧
      u.slots = s.slots ∧ u.keyDom p.die (ofLeBytes (sliceBytes blob 2 1)) =
        { s.keyDom p.die (ofLeBytes (sliceBytes blob 2 1)) with
          state := .keyed, key := key, keyId := BitVec.ofNat 32 (ofLeBytes (sliceBytes blob 4 4))
          nonce := nonceBytes (Config.random (s.fresh + 1) (p.die.val * 64 + ofLeBytes (sliceBytes blob 2 1))) } ∧
      (u.die p.die).data.keyLoaded = true ∧
      ∀ j, j ≠ ofLeBytes (sliceBytes blob 2 1) → u.keyDom p.die j = s.keyDom p.die j := by
  have hexec : exec (.keyLoad asn blob) s = execKeyLoad asn blob s := rfl
  unfold execKeyLoad at hexec
  simp only [hs, hparts, List.head?_cons, hop, hr, hc, hk, decide_true, Bool.and_self, Bool.not_true, Bool.false_eq_true,
    if_false, if_true] at hexec
  generalize ofLeBytes (sliceBytes blob 2 1) = k at *
  generalize hu : ((s.renonce p.die k).modKey p.die k fun v => { v with
    state := .keyed, keyId := BitVec.ofNat 32 (ofLeBytes (sliceBytes blob 4 4)), key := key }) = u at hexec
  have hslots : (u.modData p.die fun x => { x with keyLoaded := true }).slots = s.slots := by
    rw [← hu]
    rfl
  have hkeys : ∀ j, (u.modData p.die fun x => { x with keyLoaded := true }).keyDom p.die j = u.keyDom p.die j :=
    State.keyDom_modData (f := fun x => { x with keyLoaded := true }) fun _ => rfl
  refine ⟨_, hexec.trans ?_, hslots, ?_, ?_, fun j hj => ?_⟩
  · rw [State.partOk_ends hs ht hslots]
  · rw [hkeys, ← hu, State.keyDom_modKey_self, State.renonce_keyDom]
  · rw [State.modData_die_self]
  · rw [hkeys, ← hu, State.keyDom_modKey_ne _ hj, State.renonce_keyDom_ne hj]

end

/-! ### The checks of a blob -/

section
variable {s : State} {d : DieId} {blob : List Byte}

theorem State.keyCheck_bad (h : blobOk blob = false) : (s.keyCheck d blob).1 = St.invalidField := by
  simp [State.keyCheck, h]

variable (h : blobOk blob = true)
include h

theorem blobOk_domain : ofLeBytes (sliceBytes blob 2 1) < 64 := by
  simp only [blobOk, Bool.and_eq_true, decide_eq_true_eq] at h
  exact h.1.1.2

theorem State.keyCheck_stale (hn : sliceBytes blob 8 16 ≠ s.nonceOf d (ofLeBytes (sliceBytes blob 2 1))) :
    (s.keyCheck d blob).1 = St.keyNonceStale := by
  simp [State.keyCheck, h, hn]

variable (hn : sliceBytes blob 8 16 = s.nonceOf d (ofLeBytes (sliceBytes blob 2 1)))
include hn

theorem State.keyCheck_keyed (hst : (s.keyDom d (ofLeBytes (sliceBytes blob 2 1))).state = .keyed) :
    (s.keyCheck d blob).1 = St.keyAlreadyLoaded := by
  simp [State.keyCheck, h, hn, hst]

theorem State.keyCheck_erasePending (hst : (s.keyDom d (ofLeBytes (sliceBytes blob 2 1))).state = .erasePending) :
    (s.keyCheck d blob).1 = St.keyDomainInUse := by
  simp [State.keyCheck, h, hn, hst]

variable (hst : (s.keyDom d (ofLeBytes (sliceBytes blob 2 1))).state = .unkeyed ∨
  (s.keyDom d (ofLeBytes (sliceBytes blob 2 1))).state = .erased)
include hst

theorem State.keyCheck_inUse (hz : (s.domainZones d (ofLeBytes (sliceBytes blob 2 1))).any (s.zoneHolds d) = true) :
    (s.keyCheck d blob).1 = St.keyDomainInUse := by
  rcases hst with hst | hst <;> simp only [State.keyCheck, h, hn, hst, hz, Bool.not_true, Bool.false_eq_true, if_false, ne_eq,
    not_true_eq_false, if_true]

variable (hz : (s.domainZones d (ofLeBytes (sliceBytes blob 2 1))).any (s.zoneHolds d) = false)
include hz

theorem State.keyCheck_unwrapFailed (hu : unwrapBlob d (s.nonceOf d (ofLeBytes (sliceBytes blob 2 1))) blob = none) :
    (s.keyCheck d blob).1 = St.keyUnwrapFailed := by
  rcases hst with hst | hst <;> simp only [State.keyCheck, h, hn, hst, hz, hu, Bool.not_true, Bool.false_eq_true, if_false,
    ne_eq, not_true_eq_false]

theorem State.keyCheck_good {key : List Byte}
    (hu : unwrapBlob d (s.nonceOf d (ofLeBytes (sliceBytes blob 2 1))) blob = some key) :
    s.keyCheck d blob = (St.success, key) := by
  rcases hst with hst | hst <;> simp only [State.keyCheck, h, hn, hst, hz, hu, Bool.not_true, Bool.false_eq_true, if_false,
    ne_eq, not_true_eq_false]

end

/-! ### SANITIZE and the erase -/

/-- The key domains of a die and the domains under SANITIZE. -/
def Die.keyState (x : Die) : KMap KeyDomain × List (Nat × Nat) := (x.data.keys, x.data.erasing)

section
variable {s : State} {d : DieId}

theorem keyState_modData {f : DieData → DieData} (hk : ∀ x, (f x).keys = x.keys) (he : ∀ x, (f x).erasing = x.erasing) :
    KeptBy Die.keyState d s (s.modData d f) := KeptBy.modDie fun x => by simp only [Die.keyState, hk, he]

theorem keyState_modZone {z : Nat} {f : Zone → Zone} : KeptBy Die.keyState d s (s.modZone d z f) := by
  unfold State.modZone State.putZone
  exact keyState_modData (fun _ => rfl) fun _ => rfl

theorem keyState_applyItem {j : Nat} {i : JItem} : KeptBy Die.keyState d s (s.applyItem d j i) := by
  unfold State.applyItem
  split
  · exact keyState_modZone
  · exact keyState_modData (fun _ => rfl) fun _ => rfl
  · exact keyState_modData (fun _ => rfl) fun _ => rfl
  · exact keyState_modData (fun _ => rfl) fun _ => rfl

theorem keyState_journal {asn : Nat} {items : List JItem} : KeptBy Die.keyState d s (s.journal d asn items) := by
  have hflush : KeptBy Die.keyState d s (s.flushJournal d) := by
    unfold State.flushJournal
    refine KeptBy.trans (t := s.modMem d fun m => m.writeBackBefore ((s.die d).data.tail + 1)) ?_ ?_
    · exact KeptBy.modDie fun x => by simp only [Die.keyState]
    · exact keyState_modData (fun _ => rfl) fun _ => rfl
  refine KeptBy.ite KeptBy.refl ?_
  unfold State.journalFlags
  extract_lets j r u rev v
  have hu : KeptBy Die.keyState d s u := by
    unfold u
    exact KeptBy.ite hflush KeptBy.refl
  have hv : KeptBy Die.keyState d u v := keyState_modData (fun _ => rfl) fun _ => rfl
  exact (hu.trans hv).trans (KeptBy.foldl (fun _ _ => keyState_applyItem) _ _)

theorem keyState_poolCheck {a : Act} : KeptBy Die.keyState d s (s.poolCheck d a) := by
  have hset : ∀ v : Bool, KeptBy Die.keyState d s (s.modData d fun x => match a with
      | .A => { x with poolArmedA := v }
      | .B => { x with poolArmedB := v }) := fun v => by
    cases a
    · exact KeptBy.modDie fun _ => rfl
    · exact KeptBy.modDie fun _ => rfl
  exact KeptBy.ite (KeptBy.ite ((hset false).trans (KeptBy.raise (fun _ _ => rfl) (.inl (by decide)))) KeptBy.refl)
    (KeptBy.ite (hset true) KeptBy.refl)

theorem keyState_dropContents {z rc : Nat} : KeptBy Die.keyState d s (s.modData d (dropContents z rc)) :=
  KeptBy.modDie fun _ => rfl

theorem keyState_zoneResetExec {z asn : Nat} : KeptBy Die.keyState d s (s.zoneResetExec d z asn) := by
  unfold State.zoneResetExec
  dsimp only
  split
  · exact KeptBy.refl
  · exact (((keyState_dropContents.trans keyState_journal).trans keyState_modZone).trans keyState_poolCheck).trans keyState_poolCheck

theorem keyState_eraseZone {asn z : Nat} : KeptBy Die.keyState d s (s.eraseZone d asn z) := by
  unfold State.eraseZone
  dsimp only
  refine KeptBy.ite (keyState_dropContents.trans keyState_journal) (KeptBy.ite KeptBy.refl ?_)
  refine KeptBy.trans ?_ keyState_zoneResetExec
  exact keyState_modData (fun _ => rfl) fun _ => rfl

variable {k : Nat}

/-- The erase of a keyed domain destroys its key. -/
theorem State.eraseKeyed_spec (asn : Nat) :
    let u := s.eraseKeyed d k asn
    (u.keyDom d k).state = .erased ∧ (u.keyDom d k).key = [] ∧ (u.keyDom d k).keyId = 0 ∧
      (u.die d).data.erasing = (s.die d).data.erasing ∧ (u.die d).data.keyErased = true := by
  unfold State.eraseKeyed
  dsimp only
  generalize hv : s.modKey d k (fun v => { v with state := .erasePending, key := [], keyId := 0 }) = v
  have hvk : v.keyDom d k = { s.keyDom d k with state := .erasePending, key := [], keyId := 0 } := by
    rw [← hv, State.keyDom_modKey_self]
  have hve : (v.die d).data.erasing = (s.die d).data.erasing := by
    rw [← hv, State.modKey, State.modData_die_self]
  have hw := KeptBy.foldl (f := Die.keyState) (d := d) (g := fun s z => s.eraseZone d asn z) (fun _ _ => keyState_eraseZone)
    (s.domainZones d k) v
  generalize (s.domainZones d k).foldl (fun s z => s.eraseZone d asn z) v = w at hw
  have hwk : w.keyDom d k = v.keyDom d k := State.keyDom_congr (congrArg Prod.fst hw.self) k
  have hwe : (w.die d).data.erasing = (v.die d).data.erasing := congrArg Prod.snd hw.self
  have hraise := fun t : State => State.raise_reported [] t d Ev.keyErased [] (.inl (by decide))
  generalize hx : (w.modKey d k fun v => { v with state := .erased }).modData d (fun x => { x with keyErased := true }) = x
  have hxk : x.keyDom d k = { w.keyDom d k with state := .erased } := by
    rw [← hx, State.keyDom_modData (f := fun x => { x with keyErased := true }) (fun _ => rfl), State.keyDom_modKey_self]
  have hxd : (x.die d).data.erasing = (w.die d).data.erasing ∧ (x.die d).data.keyErased = true := by
    rw [← hx, State.modData_die_self, State.modKey, State.modData_die_self]
    exact ⟨rfl, rfl⟩
  have hdata : ((x.raise d Ev.keyErased).die d).data = (x.die d).data := by rw [(hraise x).die_eq]
  have hkey : (x.raise d Ev.keyErased).keyDom d k = x.keyDom d k := State.keyDom_congr (by rw [hdata]) k
  rw [hkey, hdata, hxk, hwk, hvk, hxd.1, hwe, hve]
  exact ⟨rfl, rfl, rfl, rfl, hxd.2⟩

theorem cryptoErase_pending (hd : s.fitted d = true) (n : Fin 64)
    (hf : (s.die d).data.erasing.find? (fun e => e.1 == n.val) = none) (hst : (s.keyDom d n.val).state = .erasePending) :
    exec (.cryptoErase d n) s = .next (s.eraseKeyed d n.val 0) := by
  have hexec : exec (.cryptoErase d n) s = _ := exec_onDie (execCryptoErase d n s) rfl rfl hd
  simp only [hf, hst, if_true] at hexec
  exact hexec

/-- The erase of a keyed domain under SANITIZE, once the verbs before it are through. -/
theorem cryptoErase_keyed (hd : s.fitted d = true) (n : Fin 64) {a : Nat}
    (hf : (s.die d).data.erasing.find? (fun e => e.1 == n.val) = some (n.val, a))
    (hz : ∀ z ∈ s.domainZones d n.val, s.earlierDone d z a = true ∧ s.earlierRecorded d z a = true)
    (hst : (s.keyDom d n.val).state = .keyed) : exec (.cryptoErase d n) s =
      .next ((((s.eraseKeyed d n.val a).modData d fun x => { x with
        erasing := x.erasing.filter fun e => !(e.1 == n.val && e.2 == a) }).modPart a d fun p =>
          { p with result := p.result + BitVec.ofNat 64 1 }).sanitizeEnd a d) := by
  have hexec : exec (.cryptoErase d n) s = _ := exec_onDie (execCryptoErase d n s) rfl rfl hd
  have hall : ((s.domainZones d n.val).all fun z => s.earlierDone d z a && s.earlierRecorded d z a) = true :=
    List.all_eq_true.2 fun z hmem => by simp [hz z hmem]
  simp only [hf, hall, if_true, State.eraseDomain, hst] at hexec
  exact hexec

/-- SANITIZE marks the domains of its scope and waits for their erase. -/
theorem sanitize_marks {asn : Nat} {sl : Slot} {p : VPart} (hs : s.slots.find? asn = some sl) (hop : sl.op = 0x4A)
    (hparts : sl.parts = [p]) (hb : p.begun = false) (ha : p.applied = false)
    (hks : (sl.domains.filter fun k => (s.keyDom p.die k).state != .erased) ≠ []) :
    exec (.sanitize asn) s = .next ((s.modData p.die fun x => { x with
      erasing := x.erasing ++ (sl.domains.filter fun k => (s.keyDom p.die k).state != .erased).map fun k => (k, asn) }).modPart
        asn p.die fun q => { q with begun := true }) := by
  have htake : s.sanitizeTake asn = (s.modData p.die fun x => { x with
      erasing := x.erasing ++ (sl.domains.filter fun k => (s.keyDom p.die k).state != .erased).map fun k => (k, asn) }).modPart
        asn p.die fun q => { q with begun := true } := by
    unfold State.sanitizeTake
    simp only [hs, hop, hparts, ne_eq, not_true_eq_false, if_false]
    rw [List.filter_cons_of_pos (by simp [hb, ha])]
    rfl
  generalize sl.domains.filter (fun k => (s.keyDom p.die k).state != .erased) = ks at *
  generalize hu : s.modData p.die (fun x => { x with erasing := x.erasing ++ ks.map fun k => (k, asn) }) = u at *
  have hus : u.slots.find? asn = some sl := by rw [← hu]; exact hs
  have hmod := State.modSlot_find? hus fun sl => { sl with parts := modPartList p.die (fun q => { q with begun := true }) sl.parts }
  obtain ⟨k, rest, hks'⟩ := List.exists_cons_of_ne_nil hks
  have herasing : ((u.modPart asn p.die fun q => { q with begun := true }).die p.die).data.erasing.any (fun e => e.2 == asn) =
      true := by
    rw [State.modPart, State.modSlot_eq hus]
    change (u.die p.die).data.erasing.any _ = true
    rw [← hu, State.modData_die_self, hks']
    simp
  have hexec : exec (.sanitize asn) s = execSanitize asn s := rfl
  unfold execSanitize at hexec
  rw [htake] at hexec
  change (u.modPart asn p.die fun q => { q with begun := true }).slots.find? asn = _ at hmod
  generalize u.modPart asn p.die (fun q => { q with begun := true }) = v at *
  simp only [hmod, modPartList, hparts, List.map_cons, List.map_nil, if_true, List.foldl_cons, List.foldl_nil] at hexec
  rw [hexec, State.sanitizeEnd]
  split
  · rfl
  · rw [if_neg (by simp [herasing])]

end

/-- Settles O34. -/
theorem keyDomains : Obligations.KeyDomains := by
  intro s asn sl p hs ht d x
  refine ⟨fun blob hop hparts hr => ?_, fun hop hparts hb ha => ?_, fun k a hd hf hz hst => ?_, fun k hd hf hst => ?_⟩
  · have hfails : ∀ {st : BitVec 16}, (s.keyCheck p.die blob).1 = st → st ≠ St.success → _ :=
      fun hc hst => keyLoad_fails hs ht hop hparts hr hc hst
    intro k v failed
    refine ⟨fun h => hfails (State.keyCheck_bad h) (by decide), fun h hn => hfails (State.keyCheck_stale h hn) (by decide),
      fun h hn hst => hfails (State.keyCheck_keyed h hn hst) (by decide),
      fun h hn hst => hfails (State.keyCheck_erasePending h hn hst) (by decide),
      fun h hn hst hz => hfails (State.keyCheck_inUse h hn hst hz) (by decide),
      fun h hn hst hz hu => hfails (State.keyCheck_unwrapFailed h hn hst hz hu) (by decide),
      fun key h hn hst hz hu => ?_⟩
    obtain ⟨u, hexec, hslots, hkey, hloaded, hothers⟩ :=
      keyLoad_keys hs ht hop hparts hr (State.keyCheck_good h hn hst hz hu) (blobOk_domain h)
    refine ⟨u, hexec, hslots, ?_⟩
    rw [hkey]
    exact ⟨rfl, rfl, rfl, hloaded, rfl, hothers⟩
  · intro ks hks
    exact sanitize_marks hs hop hparts hb ha hks
  · obtain ⟨hstate, hkey, hid, herasing, herased⟩ := State.eraseKeyed_spec (s := s) (d := d) (k := k.val) a
    refine ⟨_, cryptoErase_keyed hd k hf hz hst, ?_⟩
    generalize s.eraseKeyed d k.val a = u at *
    generalize hg : (fun x : DieData => { x with erasing := x.erasing.filter fun e => !(e.1 == k.val && e.2 == a) }) = g
    have hkeys := State.keyDom_modData (s := u) (d := d) (f := g) (fun x => by rw [← hg]) k.val
    obtain ⟨m, hm⟩ := (u.modData d g).modPart_shape a d fun p => { p with result := p.result + BitVec.ofNat 64 1 }
    rw [hm]
    refine ⟨(congrArg KeyDomain.state hkeys).trans hstate, (congrArg KeyDomain.key hkeys).trans hkey,
      (congrArg KeyDomain.keyId hkeys).trans hid, ?_⟩
    change ((u.modData d g).die d).data.erasing = _ ∧ ((u.modData d g).die d).data.keyErased = true
    rw [State.modData_die_self, ← hg]
    exact ⟨congrArg _ herasing, herased⟩
  · obtain ⟨hstate, hkey, -, -, herased⟩ := State.eraseKeyed_spec (s := s) (d := d) (k := k.val) 0
    exact ⟨_, cryptoErase_pending hd k hf hst, hstate, hkey, herased⟩

end Sys2Proof.Machine

/-! PROOFS. Events and counter snapshots (16 R500, 19 R563): the statement speaks of every `EventKind`, also of one whose
source number no die has. -/

namespace Sys2Proof.Machine

/-- An event kind of source 128, one past the last source of a die (00 R16). -/
def strayKind : EventKind := { src := 128, pos := 1, severity := 3 }

/-- What die 0 of the block after reset logs of the stray kind: the code is taken modulo the sources of a die. -/
theorem strayKind_log : ((State.reset.raise 0 strayKind).die 0).obs.log.map EvRec.code = [1] := by
  rw [State.raise_log State.reset 0 strayKind [] (by decide) (by decide) (by decide)]
  rfl

/-- Refutes O36: a record's code holds the source's number within its die (19 R563), so an event kind of source 128 is
logged with code 0 · 256 + 1, where the statement, which leaves the source of the kind free, asks for 128 · 256 + 1. -/
theorem not_eventsAndSnapshots : ¬ Obligations.EventsAndSnapshots := by
  unfold Obligations.EventsAndSnapshots
  intro h
  obtain ⟨hlogged, -⟩ := (h.1 State.reset).1 0 strayKind [] (by decide) (by decide) (by decide)
  obtain ⟨r, hlog, -, hcode, -⟩ := hlogged (by decide) (by decide)
  have hone : [r.code] = [1] := by
    rw [← strayKind_log, hlog]
    rfl
  rw [hcode] at hone
  exact absurd hone (by decide)

end Sys2Proof.Machine

/-! PROOFS. What the ends of verbs keep of every die: posting touches of a die only its counters, logs, its admission
mirror and its dispatch slots (11 R342, 12 R390). -/

namespace Sys2Proof.Machine

/-- What f shows of every die is as it was. -/
def Across {α : Type} (f : Die → α) (s t : State) : Prop := ∀ e, f (t.die e) = f (s.die e)

namespace Across
variable {α : Type} {f : Die → α} {d : DieId} {s t u : State}

theorem refl : Across f s s := fun _ => rfl

theorem trans (h : Across f s t) (k : Across f t u) : Across f s u := fun e => (k e).trans (h e)

theorem of_dies (h : t.dies = s.dies) : Across f s t := fun e => by simp only [State.die, h]

theorem of_kept (h : KeptBy f d s t) : Across f s t := fun e => by
  by_cases he : e = d
  · rw [he, h.self]
  · rw [h.others e he]

theorem modDie {g : Die → Die} (h : ∀ x, f (g x) = f x) : Across f s (s.modDie d g) := of_kept (.modDie h)

theorem ite {c : Prop} [Decidable c] (h : Across f s t) (k : Across f s u) : Across f s (if c then t else u) := by
  split
  · exact h
  · exact k

theorem foldl {β : Type} {g : State → β → State} (h : ∀ s x, Across f s (g s x)) (l : List β) (s : State) :
    Across f s (l.foldl g s) := by
  induction l generalizing s with
  | nil => exact refl
  | cons x l ih => exact (h s x).trans (ih _)

theorem bump {o : ObjDef} {i k : Nat} : Across f s (s.bump o i k) := of_dies (State.putSub_dies ..)

theorem put {o : ObjDef} {i : Nat} {v : Int} : Across f s (s.put o i v) := of_dies (State.putSub_dies ..)

end Across

/-! ### What posting a verb comes to -/

theorem State.fw_of_side {cs : List ObjDef} {s t : State} (h : t.side cs = s.side cs) : t.fw = s.fw :=
  congrArg State.fw (a₁ := t.side cs) (a₂ := s.side cs) h

theorem State.links_of_side {cs : List ObjDef} {s t : State} (h : t.side cs = s.side cs) : t.linksDown = s.linksDown :=
  congrArg State.linksDown (a₁ := t.side cs) (a₂ := s.side cs) h

theorem State.route_fw {s : State} {n : Nat} : (s.route n).fw = s.fw := State.fw_of_side (State.route_side [] s n)

theorem State.vector_fw {s : State} {v : Nat} : (s.vector v).fw = s.fw := State.fw_of_side (State.vector_side [] s v)

/-- A relation that posting keeps to: it holds of steps in a row, of changes beside dies, firmware and links, and of changes
of the anchor's counters and logs. -/
structure Posting (R : State → State → Prop) : Prop where
  trans : ∀ {s t u : State}, R s t → R t u → R s u
  beside : ∀ {s t : State}, t.dies = s.dies → t.fw = s.fw → t.linksDown = s.linksDown → R s t
  obs : ∀ {s : State} (g : ObsState → ObsState), R s (s.modObs 0 g)

namespace Posting
variable {R : State → State → Prop} {s t u : State} {asn : Nat} (h : Posting R)
include h

theorem refl : R s s := h.beside rfl rfl rfl

omit h in
theorem ite {c : Prop} [Decidable c] (ht : R s t) (hu : R s u) : R s (if c then t else u) := by
  split
  · exact ht
  · exact hu

theorem foldl {β : Type} {g : State → β → State} (hg : ∀ s x, R s (g s x)) (l : List β) (s : State) : R s (l.foldl g s) := by
  induction l generalizing s with
  | nil => exact h.refl
  | cons x l ih => exact h.trans (hg s x) (ih _)

theorem modSlot {g : Slot → Slot} : R s (s.modSlot asn g) := by
  obtain ⟨m, hm⟩ := s.modSlot_shape asn g
  exact h.beside (by rw [hm]) (by rw [hm]) (by rw [hm])

theorem bump {o : ObjDef} {i k : Nat} : R s (s.bump o i k) := h.beside (State.putSub_dies ..) (State.putSub_fw ..) (State.putSub_linksDown ..)

theorem put {o : ObjDef} {i : Nat} {v : Int} : R s (s.put o i v) := h.beside (State.putSub_dies ..) (State.putSub_fw ..) (State.putSub_linksDown ..)

/-! ### Events and counters of the anchor -/

theorem logEvent {n : Nat} {k : EventKind} {data : List (Nat × Int)} : R s (s.logEvent 0 n k data) := by
  unfold State.logEvent
  exact ite (h.trans (h.obs _) h.bump) (h.obs _)

theorem tally {e k : Nat} : R s (s.tally 0 e k).1 := by
  unfold State.tally
  dsimp only
  split
  · exact h.refl
  · dsimp only
    exact h.obs _

theorem raiseFuel {fuel n : Nat} {k : EventKind} {data : List (Nat × Int)} : R s (s.raiseFuel fuel 0 n k data) := by
  induction fuel generalizing s n k data with
  | zero => exact h.refl
  | succ fuel ih =>
    unfold State.raiseFuel
    extract_lets src by_ u v r
    have hby : by_ = 0 := ite_self _
    have hlog : R s (s.logEvent by_ src k data) := by
      rw [hby]
      exact h.logEvent
    have hout : R u (u.modObs by_ fun o => { o with evtOut := o.evtOut ++ [src] }) := by
      rw [hby]
      exact h.obs _
    have hr : R v r.1 := by
      simp only [r]
      rw [hby]
      exact h.tally
    have hfold : R r.1 (r.2.foldl (fun s i => s.raiseFuel fuel by_ 48 Ev.counterOverflow [(4, i)]) r.1) := by
      rw [hby]
      exact h.foldl (fun _ _ => ih) _ _
    have hu : R s u := ite h.refl hlog
    have hv : R u v := ite (h.beside (State.route_dies ..) (State.route_fw ..) (State.links_of_side (State.route_side [] ..))) hout
    exact ite h.refl (h.trans (h.trans (h.trans hu hv) hr) hfold)

theorem raise {k : EventKind} {data : List (Nat × Int)} : R s (s.raise 0 k data) := h.raiseFuel

theorem count {e k : Nat} : R s (s.count 0 e k) := h.trans h.tally (h.foldl (fun _ _ => h.raise) _ _)

/-! ### Entries and slots -/

theorem cqSignal {q : Nat} {c : Cq} {st : BitVec 16} : R s (s.cqSignal q c st) := by
  unfold State.cqSignal
  exact ite (h.beside rfl rfl rfl) (ite (h.beside (State.vector_dies ..) (State.vector_fw ..) ((State.links_of_side (State.vector_side [] ..)).trans rfl)) (h.beside rfl rfl rfl))

theorem putEntry {q sq head : Nat} {r : BitVec 64} {st cid : BitVec 16} : R s (s.putEntry q sq head r st cid) := by
  unfold State.putEntry
  split
  · exact h.refl
  · refine h.trans (h.trans ?_ h.cqSignal) h.count
    exact h.beside rfl rfl rfl

theorem traceRecord {sl : Slot} : R s (s.traceRecord sl) := by
  unfold State.traceRecord
  split
  · exact h.refl
  · extract_lets t0 n flags r room full u
    have hfull : R s { s with traceFullSeen := true } := h.beside rfl rfl rfl
    have hu : R s u := ite (h.trans hfull h.raise) h.refl
    have hring : R u { u with trace := (r :: u.trace).take room } := h.beside rfl rfl rfl
    exact ite (h.trans hu h.bump) (h.trans hu (h.trans hring h.bump))

theorem sqSweep {q : Nat} : R s (s.sqSweep q) := by
  obtain ⟨v, hv⟩ := s.sqSweep_shape q
  exact h.beside (by rw [hv]) (by rw [hv]) (by rw [hv])

theorem writeCqe : R s (s.writeCqe asn) := by
  unfold State.writeCqe
  split
  · exact h.refl
  · split
    · exact h.beside rfl rfl rfl
    · extract_lets u sl' v x next y z
      have hv : R s v := h.trans h.modSlot h.putEntry
      have hy : R x y := h.beside rfl rfl rfl
      have hz : R y z := ite (h.beside rfl rfl rfl) h.modSlot
      exact h.trans (h.trans (h.trans (h.trans hv h.traceRecord) hy) hz) h.sqSweep

theorem postOne : R s (s.postOne asn) := by
  unfold State.postOne
  split
  · exact h.refl
  · split
    · exact h.beside rfl rfl rfl
    · split
      · exact h.beside rfl rfl rfl
      · refine ite (h.trans ?_ h.bump) h.writeCqe
        exact h.beside rfl rfl rfl

theorem postAborts : R s (s.postAborts asn) := by
  unfold State.postAborts
  exact ite h.refl (h.foldl (fun _ _ => h.trans h.modSlot h.postOne) _ _)

theorem post : R s (s.post asn) := h.trans h.postOne h.postAborts

theorem drainHeld {n fuel : Nat} : R s (s.drainHeld n fuel) := by
  induction fuel generalizing s with
  | zero => exact h.refl
  | succ fuel ih =>
    unfold State.drainHeld
    split
    · exact h.refl
    · split
      · exact h.refl
      · refine ite h.refl (h.trans (h.trans (h.trans ?_ h.writeCqe) h.postAborts) ih)
        exact h.beside rfl rfl rfl

theorem logError {sl : Slot} {st : BitVec 16} {x : ErrInfo} : R s (s.logError sl st x) := by
  unfold State.logError
  exact ite h.refl (h.beside rfl rfl rfl)

theorem settleVerb {st : BitVec 16} {r : BitVec 64} {x : ErrInfo} : R s (s.settleVerb asn st r x) := by
  unfold State.settleVerb
  split
  · exact h.refl
  · rename_i sl _
    have hlog : R s (if sl.orphan then s else s.logError sl st x) := ite h.refl h.logError
    split
    · exact h.refl
    · exact ite (h.trans hlog h.modSlot) (h.trans (h.trans hlog h.modSlot) h.post)

theorem conclude : R s (s.conclude asn) := by
  unfold State.conclude
  split
  · exact h.refl
  · refine ite (h.beside rfl rfl rfl) (ite h.refl ?_)
    extract_lets bad status data u info
    have hemit : R s (s.emit (.hostData asn data)) := h.beside rfl rfl rfl
    have hsent : R s ((s.emit (.hostData asn data)).monitor 0 1 data.length) := by
      unfold State.monitor
      exact h.trans hemit (h.obs _)
    have hu : R s u := ite h.refl (h.trans hsent h.modSlot)
    exact h.trans hu h.settleVerb

/-! ### Parts -/

section
variable {d : DieId} (hp : ∀ (s : State) (sl : Slot), R s (s.partBack sl d))
  (hi : ∀ (s : State) (sl : Slot), R s (s.ingressBack sl))
include hp hi

theorem deliver : R s (s.deliver asn d) := by
  unfold State.deliver
  split
  · exact h.refl
  · refine ite h.refl ?_
    extract_lets u
    have hu : R s u := h.trans (hp _ _) h.modSlot
    exact ite (h.trans (h.trans hu (hi _ _)) h.conclude) hu

theorem partEnd {g : VPart → VPart} : R s (s.partEnd asn d g) := by
  unfold State.partEnd
  exact ite (h.trans (h.trans h.modSlot h.modSlot) (h.deliver hp hi)) (h.trans h.modSlot h.modSlot)

theorem failParts : R s (s.failParts d) := by
  unfold State.failParts
  refine h.foldl (fun u asn => ?_) _ _
  split
  · exact h.refl
  · exact ite h.refl (h.trans (ite h.refl h.modSlot) (h.deliver hp hi))

end

section
variable (hp : ∀ (s : State) (sl : Slot), R s (s.partBack sl 0)) (hi : ∀ (s : State) (sl : Slot), R s (s.ingressBack sl))
include hp hi

theorem snapAnswer {w : Option Nat} : R s (s.snapAnswer w) := by
  cases w with
  | none => exact h.put
  | some asn => exact h.partEnd hp hi

theorem snapSettle {fuel : Nat} : R s (s.snapSettle fuel) := by
  induction fuel generalizing s with
  | zero => exact h.refl
  | succ fuel ih =>
    unfold State.snapSettle
    split
    · exact h.refl
    · rename_i n action verb rest _
      have hwrite : R s (s.snapWrite n action) := h.beside (by unfold State.snapWrite; split <;> rfl) (by unfold State.snapWrite; split <;> rfl)
        (by unfold State.snapWrite; split <;> rfl)
      extract_lets u v
      have hv : R s v := h.trans hwrite (h.beside rfl rfl rfl)
      exact ite (h.trans (h.trans hv (h.snapAnswer hp hi)) ih) h.refl

theorem snapDone : R s s.snapDone := h.snapSettle hp hi

end

end Posting

/-! ### The anchor alone -/

/-- Posting touches no member die. -/
theorem KeptBy.posting {α : Type} {f : Die → α} (ho : ∀ x o, f { x with obs := o } = f x) : Posting (KeptBy f 0) :=
  ⟨KeptBy.trans, fun h _ _ => KeptBy.of_dies h, fun _ => KeptBy.modDie fun _ => ho _ _⟩

/-- Requests for snapshots that end touch no member die. -/
theorem State.snapDone_others (s : State) {e : DieId} (he : e ≠ 0) : s.snapDone.die e = s.die e := by
  have hkept : KeptBy (fun _ => ()) 0 s s.snapDone := (KeptBy.posting fun _ _ => rfl).snapDone
    (fun _ _ => KeptBy.modDie fun _ => rfl) (fun _ _ => KeptBy.ite (KeptBy.modDie fun _ => rfl) KeptBy.refl)
  exact hkept.others e he

/-! ### Every die -/

namespace Across
variable {α : Type} {f : Die → α} {d : DieId} {s t u : State}

section
variable (ho : ∀ x o, f { x with obs := o } = f x)
include ho

theorem posting : Posting (Across f) := ⟨trans, fun h _ _ => of_dies h, fun _ => modDie fun _ => ho _ _⟩

/-- Also an event of the anchor's own sources (16 R499). -/
theorem raiseFuel {fuel n : Nat} {k : EventKind} {data : List (Nat × Int)} : Across f s (s.raiseFuel fuel d n k data) := by
  have hobs : ∀ (u : State) (e : DieId) (g : ObsState → ObsState), Across f u (u.modObs e g) := fun u e g =>
    modDie fun _ => ho _ _
  induction fuel generalizing s d n k data with
  | zero => exact refl
  | succ fuel ih =>
    unfold State.raiseFuel
    extract_lets src by_ u v r
    have hlog : Across f s (s.logEvent by_ src k data) := by
      unfold State.logEvent
      exact ite ((hobs _ _ _).trans bump) (hobs _ _ _)
    have hu : Across f s u := ite refl hlog
    have hv : Across f u v := ite (of_dies (State.route_dies ..)) (hobs _ _ _)
    have hr : Across f v r.1 := by
      simp only [r, State.tally]
      split
      · exact refl
      · exact hobs _ _ _
    exact ite refl (((hu.trans hv).trans hr).trans (foldl (fun _ _ => ih) _ _))

theorem raise {k : EventKind} {data : List (Nat × Int)} : Across f s (s.raise d k data) := raiseFuel ho

variable (hb : ∀ x m ds, f { x with mirror := m, data := { x.data with dispatch := ds } } = f x)
include hb

omit ho in
theorem partBack {sl : Slot} : Across f s (s.partBack sl d) := modDie fun _ => hb _ _ _

omit ho in
theorem ingressBack {sl : Slot} : Across f s (s.ingressBack sl) := ite (modDie fun x => hb x _ x.data.dispatch) refl

theorem failParts : Across f s (s.failParts d) := (posting ho).failParts (fun _ _ => partBack hb) fun _ _ => ingressBack hb

theorem snapDone : Across f s s.snapDone := (posting ho).snapDone (fun _ _ => partBack hb) fun _ _ => ingressBack hb

end

end Across

end Sys2Proof.Machine

/-! PROOFS. What the drive of a die leaves alone, and what isolation leaves of a die (03 R99, 05 R158, 20 R583). -/

namespace Sys2Proof.Machine

/-- f shows nothing of what the commands of spindle and actuators touch: spindle, clock, heads, actuators, calibration
runs, counters and events. -/
structure Apart {α : Type} (f : Die → α) : Prop where
  spin : ∀ x v, f { x with spin := v } = f x
  clock : ∀ x v, f { x with clock := v } = f x
  heads : ∀ x v, f { x with heads := v } = f x
  acts : ∀ x v w, f { x with actA := v, actB := w } = f x
  runs : ∀ x rs failed hold v, f { x with
    calRuns := rs, calFailed := failed, holdupTest := hold, data := { x.data with vEnd := v } } = f x
  obs : ∀ x o, f { x with obs := o } = f x
  back : ∀ x m ds, f { x with mirror := m, data := { x.data with dispatch := ds } } = f x

section
variable {α : Type} {f : Die → α} {d : DieId} {s : State} (h : Apart f)
include h

theorem Apart.coasted (x : Die) (c : AngleClock) (hs : Vector Head 24) (rs : KMap CalRun) (o : ObsState) :
    f { x with clock := c, heads := hs, calRuns := rs, obs := o } = f x := by
  have hobs := h.obs { x with clock := c, heads := hs, calRuns := rs } o
  have hruns := h.runs { x with clock := c, heads := hs } rs x.calFailed x.holdupTest x.data.vEnd
  have hheads := h.heads { x with clock := c } hs
  exact ((hobs.trans hruns).trans hheads).trans (h.clock x c)

/-! ### The spindle -/

namespace StepFrame

omit h in
theorem spinResult {v : Int} : StepFrame f [] d s (s.spinResult d v) := of_objsOnly .putSub (by simp)

theorem floatDrive {st : SpinState} : StepFrame f [] d s (s.floatDrive d st) := by
  unfold State.floatDrive
  generalize hu : s.modSpin d _ = u
  obtain ⟨c, hs, rs, o, heq, -, -⟩ := State.coastEntry_shape u d
  have hsu : StepFrame f [] d s u := hu ▸ modDie fun _ => h.spin _ _
  rw [heq]
  exact hsu.trans (setDie (h.coasted _ c hs rs _))

theorem startPend : StepFrame f [] d s (s.startPend d) :=
  StepFrame.trans (modDie fun _ => h.spin _ _) spinResult

theorem startOver : StepFrame f [] d s (s.startOver d) := by
  have hask : ∀ u : State, StepFrame f [] d u (u.requestSlot d) := fun u =>
    ite refl ⟨KeptBy.of_dies rfl, rfl, rfl, by simp⟩
  exact (((floatDrive h).trans (modDie fun _ => h.spin _ _)).trans (hask _)).trans (startPend h)

theorem startBy {p : Spindle} : StepFrame f [] d s (s.startBy d p) := by
  unfold State.startBy
  cases p.state
  case stopped | fault | stopping => exact startOver h
  case braking => exact ite (startOver h) (startPend h)
  case atSpeed | retractBrake => exact spinResult
  case staggerWait | sensing | aligning | openLoop | ramping | reacquiring => exact startPend h

theorem spinStartCommand : StepFrame f [] d s (s.spinStartCommand d).1 := by
  cases ht : (s.die d).spin.tableMatch with
  | false =>
    rw [State.spinStartCommand_refused ht]
    dsimp only
    exact StepFrame.trans (raise (k := Ev.spinTableMismatch) h.obs (by simp) (.inl (by decide))) spinResult
  | true =>
    have heq : (s.spinStartCommand d).1 = (s.calAbortIf d fun _ r => r.kind == 7).startBy d (s.die d).spin := by
      unfold State.spinStartCommand State.startBy
      simp only [ht, Bool.not_true, Bool.false_eq_true, if_false]
      cases (s.die d).spin.state
      case braking =>
        dsimp only
        split
        · rfl
        · rfl
      all_goals rfl
    rw [heq]
    exact (calAbortIf h.runs (by simp)).trans (startBy h)

end StepFrame

/-! ### Actuators -/

namespace StepFrame

omit h in
theorem actResult_free {a : Act} {v : Int} : StepFrame f [] d s (s.actResult d a v) := of_objsOnly .putSub (by simp)

theorem sendVcm {a : Act} {typ : BitVec 2} {cmd : Int} : StepFrame f [] d s (s.sendVcm d a typ cmd) :=
  (modAct h.acts).trans emit

theorem retract {a : Act} {why : RetractFor} : StepFrame f [] d s (s.retract d a why) := (modAct h.acts).trans (sendVcm h)

theorem loadStart {a : Act} : StepFrame f [] d s (s.loadStart d a) :=
  ((foldl (fun _ _ => modHead h.heads) _ _).trans (modAct h.acts)).trans (sendVcm h)

theorem loadCommand {a : Act} : StepFrame f [] d s (s.loadCommand d a).1 := by
  have hcheck : StepFrame f [] d s (s.loadCheck d a).1 := by
    unfold State.loadCheck
    split
    · exact (modAct h.acts).trans actResult_free
    · exact ((modAct h.acts).trans actResult_free).trans (loadStart h)
  have hdone : StepFrame f [] d s (s.actResult d a 0) := actResult_free
  have hpend : ∀ t : State, StepFrame f [] d t (t.actResult d a 1) := fun t => actResult_free
  unfold State.loadCommand
  split
  · exact hcheck
  · exact hcheck
  · exact hdone
  · exact hdone
  · exact hdone
  · exact hdone
  · exact (modAct h.acts).trans (hpend _)
  · exact (modAct h.acts).trans (hpend _)
  · exact (modAct h.acts).trans (hpend _)

theorem unloadStart {a : Act} : StepFrame f [] d s (s.unloadStart d a) :=
  (foldl (fun _ _ => modHead h.heads) _ _).trans (modAct h.acts)

theorem unloadCommand {a : Act} : StepFrame f [] d s (s.unloadCommand d a) := by
  have hpend : ∀ t : State, StepFrame f [] d t ((t.modAct d a fun x => { x with
      unloadPending := true, loadPending := false, loadWaits := false }).actResult d a 1) :=
    fun t => (modAct h.acts).trans actResult_free
  have habort : ∀ p : Nat → CalRun → Bool, StepFrame f [] d s (s.calAbortIf d p) := fun p => calAbortIf h.runs (by simp)
  unfold State.unloadCommand
  split
  · exact actResult_free
  · exact actResult_free
  · exact ((habort _).trans (unloadStart h)).trans (hpend _)
  · exact ((habort _).trans (unloadStart h)).trans (hpend _)
  · exact ((habort _).trans (unloadStart h)).trans (hpend _)
  · exact ((habort _).trans (retract h)).trans (hpend _)
  · exact ((habort _).trans (retract h)).trans (hpend _)
  · exact hpend _
  · exact hpend _

end StepFrame

end

/-! ### The stop of the spindle, and the way to a power target -/

/-- What f shows of every die is as it was, and so are the slots and the links that are down. -/
structure Wide {α : Type} (f : Die → α) (s t : State) : Prop where
  across : Across f s t
  rest : (t.slots, t.linksDown) = (s.slots, s.linksDown)

namespace Wide
variable {α : Type} {f : Die → α} {d : DieId} {s t u : State}

theorem slots (h : Wide f s t) : t.slots = s.slots := congrArg Prod.fst h.rest

theorem links (h : Wide f s t) : t.linksDown = s.linksDown := congrArg Prod.snd h.rest

theorem refl : Wide f s s := ⟨.refl, rfl⟩

theorem trans (h : Wide f s t) (k : Wide f t u) : Wide f s u := ⟨h.across.trans k.across, k.rest.trans h.rest⟩

theorem of_step (h : StepFrame f [] d s t) : Wide f s t := ⟨.of_kept h.toKeptBy, h.rest⟩

theorem modDie {g : Die → Die} (h : ∀ x, f (g x) = f x) : Wide f s (s.modDie d g) := ⟨.modDie h, rfl⟩

theorem ite {c : Prop} [Decidable c] (h : Wide f s t) (k : Wide f s u) : Wide f s (if c then t else u) := by
  split
  · exact h
  · exact k

theorem foldl {β : Type} {g : State → β → State} (h : ∀ s x, Wide f s (g s x)) (l : List β) (s : State) :
    Wide f s (l.foldl g s) := by
  induction l generalizing s with
  | nil => exact refl
  | cons x l ih => exact (h s x).trans (ih _)

theorem spinResult {v : Int} : Wide f s (s.spinResult d v) := of_step .spinResult

variable (h : Apart f)
include h

theorem modSpin {g : Spindle → Spindle} : Wide f s (s.modSpin d g) := modDie fun _ => h.spin _ _

theorem phaseReferenceGone : Wide f s s.phaseReferenceGone := by
  have hlost : ∀ (u : State) (e : DieId), Wide f u ((u.modClock e fun c => { c.noPhase with phaseLost := true }).raise e
      Ev.phaseLost) := fun u e => trans (modDie fun _ => h.clock _ _) (of_step (.raise h.obs (by simp) (.inl (by decide))))
  unfold State.phaseReferenceGone
  exact ite (foldl hlost _ _) refl

theorem unloadBoth : Wide f s (s.unloadBoth d) := (of_step (.unloadCommand h)).trans (of_step (.unloadCommand h))

theorem stopPend : Wide f s (s.stopPend d) := trans (modSpin h) spinResult

theorem stopBy {p : Spindle} : Wide f s (s.stopBy d p) := by
  have hrelease : ∀ u : State, Wide f u (u.releaseSlot d) := fun u => ⟨.of_dies rfl, rfl⟩
  have hbrake : ∀ u : State, Wide f u (((u.brake d .stop).releaseSlot d).stopPend d) := fun u =>
    (trans (modSpin h) (hrelease _)).trans (stopPend h)
  unfold State.stopBy
  cases p.state
  case stopped => exact spinResult
  case staggerWait | sensing =>
    exact (((of_step (.floatDrive h)).trans (hrelease _)).trans (modSpin h)).trans spinResult
  case braking => exact ite (stopPend h) (hbrake s)
  case aligning | openLoop => exact hbrake s
  case fault => exact trans (modSpin h) (stopPend h)
  case stopping => exact stopPend h
  case ramping | atSpeed => exact (((unloadBoth h).trans (hrelease _)).trans (modSpin h)).trans (stopPend h)
  case reacquiring => exact (modSpin h).trans (stopPend h)
  case retractBrake => exact spinResult

theorem spinStopCommand : Wide f s (s.spinStopCommand d) := by
  have habort : ∀ c : Prop, [Decidable c] → Wide f s (if c then s else s.calAbortIf d calTurning) := fun c _ =>
    ite refl (of_step (.calAbortIf h.runs (by simp)))
  rw [show s.spinStopCommand d = _ by unfold State.spinStopCommand; exact (rfl : _ = State.stopBy _ d (s.die d).spin)]
  refine trans ?_ (stopBy h)
  exact (habort _).trans (ite (phaseReferenceGone h) refl)

theorem spinFor {load : Bool} : Wide f s (s.spinFor d load) := by
  unfold State.spinFor
  exact (ite refl (of_step (.spinStartCommand h))).trans (modSpin h)

theorem actPower {a : Act} : Wide f s (s.actPower d a) := by
  have hload : Wide f s (s.loadCommand d a).1 := of_step (.loadCommand h)
  have hhead : ∀ (u : State) (k : HeadId) (g : Head → Head), Wide f u (u.modHead d k g) := fun u k g => modDie fun _ => h.heads _ _
  have hheads : ∀ (g : HeadId → Bool) (l : List HeadId), Wide f s (l.foldl (fun s h =>
      let live := ((s.die d).head h).live
      if g h then if live then s else s.modHead d h Head.goLive
      else if live then s.modHead d h fun x => x.requeueUnstarted.gate
      else s) s) := fun g l => foldl (fun u k => ite (ite refl (hhead _ _ _)) (ite (hhead _ _ _) refl)) l s
  unfold State.actPower
  split
  · exact hload
  · exact hload
  · exact hload
  · exact hload
  · exact hheads _ _

variable (hp : ∀ x p, f { x with power := p } = f x)
include hp

omit h in
theorem powerSettle : Wide f s (s.powerSettle d) := modDie fun _ => hp _ _

/-- R576: a die that is not to return from Die-sleep. -/
theorem powerApply (hs : ¬((s.die d).power = .dieSleep ∧ (s.die d).target ≠ .dieSleep)) : Wide f s (s.powerApply d) := by
  have hpark : Wide f s ((s.unloadBoth d).spinStopCommand d) := (unloadBoth h).trans (spinStopCommand h)
  have hmove : ∀ u : State, Wide f u (((u.actPower d .A).actPower d .B).powerSettle d) := fun u =>
    ((actPower h).trans (actPower h)).trans (powerSettle hp)
  unfold State.powerApply
  rw [if_neg hs]
  split
  · exact (spinFor h).trans (ite (hmove _) refl)
  · exact (spinFor h).trans (ite (hmove _) refl)
  · exact ((unloadBoth h).trans (spinFor h)).trans (powerSettle hp)
  · exact (hpark.trans (modSpin h)).trans (powerSettle hp)
  · exact (hpark.trans (modSpin h)).trans (powerSettle hp)

end Wide

/-! ### Isolation -/

theorem Across.dropDraws {α : Type} {f : Die → α} {d : DieId} {s : State} : Across f s (s.dropDraws d) := of_dies rfl

theorem Die.life_apart : Apart Die.life :=
  ⟨fun _ _ => rfl, fun _ _ => rfl, fun _ _ => rfl, fun _ _ _ => rfl, fun _ _ _ _ _ => rfl, fun _ _ => rfl, fun _ _ _ => rfl⟩

theorem State.beginSave_life (s : State) (d : DieId) : Across Die.life s (s.beginSave d) := by
  have hdata : ∀ (u : State) (g : DieData → DieData), Across Die.life u (u.modData d g) := fun u g =>
    Across.modDie fun _ => rfl
  unfold State.beginSave
  extract_lets u x a v
  have hv : Across Die.life s v := ((hdata s _).trans (hdata u _)).trans .bump
  exact .ite hv (hv.trans ((hdata v fun x => { x with acornState := .saveFail, saving := none }).trans (.of_dies rfl)))

/-- R583: a die that is isolated is so in the end, whatever isolating it sets off. -/
theorem State.isolate_life (s : State) (d : DieId) (cause : Nat) : ((s.isolate d cause).die d).life = .isolated := by
  have ha := Die.life_apart
  unfold State.isolate
  split
  · next hi => simpa [State.isolated] using hi
  · extract_lets up a b c e g k m n o
    have hc : (c.die d).life = .isolated := by
      rw [show c = b.modDie d _ from rfl, State.modDie_die_self]
    have he : Across Die.life c e := (Across.failParts ha.obs ha.back).trans .dropDraws
    have hg : Across Die.life e g := .put
    have hk : Across Die.life g k := .ite (Wide.phaseReferenceGone ha).across .refl
    have hm : Across Die.life k m := (Across.raise ha.obs).trans (.snapDone ha.obs ha.back)
    have hn : Across Die.life m n := .ite (State.beginSave_life m d) .refl
    have ho : Across Die.life n o := .modDie fun _ => rfl
    have hend : Across Die.life o ((o.unloadBoth d).spinStopCommand d) :=
      ((Wide.unloadBoth ha).trans (.spinStopCommand ha)).across
    exact ((((((he.trans hg).trans hk).trans hm).trans hn).trans ho).trans hend d).trans hc

end Sys2Proof.Machine

/-! PROOFS. O38: the steps of a die's boot (20 R573 to R575, R581, R582). -/

namespace Sys2Proof.Machine

/-! ### What the map and its journal keep of a die -/

/-- A die but for its map, its memories, its counters and events, and GAP; and its medium. -/
def Die.unmapped (x : Die) : Die × KMap Sector × Bool :=
  ({ x with data := {}, mem := {}, obs := {}, gap := false }, x.data.media, x.data.formatted)

/-- Only the map and its journal, counters and events of the die have changed. -/
abbrev Mapped (d : DieId) (s t : State) : Prop := StepFrame Die.unmapped [] d s t

namespace Mapped
variable {d : DieId} {s t : State}

theorem modData {g : DieData → DieData} (hm : ∀ v, (g v).media = v.media := by intro _; rfl)
    (hf : ∀ v, (g v).formatted = v.formatted := by intro _; rfl) : Mapped d s (s.modData d g) :=
  StepFrame.modDie fun x => by simp only [Die.unmapped, hm, hf]

theorem raise {k : EventKind} {data : List (Nat × Int)} (hk : k.src ≠ 119 := by decide) : Mapped d s (s.raise d k data) :=
  StepFrame.raise (fun _ _ => rfl) (by simp) (.inl hk)

theorem modZone {z : Nat} {g : Zone → Zone} : Mapped d s (s.modZone d z g) := by
  unfold State.modZone State.putZone
  exact modData

theorem applyItem {j : Nat} {i : JItem} : Mapped d s (s.applyItem d j i) := by
  unfold State.applyItem
  cases i with
  | zone z v => exact modZone
  | seg n v => exact modData
  | frame k v => exact modData
  | bitmap w v => exact modData

theorem flushJournal : Mapped d s (s.flushJournal d) := by
  unfold State.flushJournal State.modMem
  generalize hu : s.modDie d _ = u
  have hsu : Mapped d s u := hu ▸ StepFrame.modDie fun _ => by simp only [Die.unmapped]
  exact hsu.trans modData

theorem journalFlags {asn : Nat} {flags : BitVec 8} {items : List JItem} : Mapped d s (s.journalFlags d asn flags items) := by
  unfold State.journalFlags
  extract_lets j r u rev v
  have hu : Mapped d s u := StepFrame.ite flushJournal .refl
  have hv : Mapped d u v := modData
  exact (hu.trans hv).trans (StepFrame.foldl (fun _ _ => applyItem) _ _)

theorem journal {asn : Nat} {items : List JItem} : Mapped d s (s.journal d asn items) := StepFrame.ite .refl journalFlags

theorem makeReadOnly {z : Nat} : Mapped d s (s.makeReadOnly d z) := (journal.trans modZone).trans raise

theorem poolCheck {a : Act} : Mapped d s (s.poolCheck d a) := by
  have hset : ∀ (u : State) (v : Bool), Mapped d u (u.modData d fun x => match a with
      | .A => { x with poolArmedA := v }
      | .B => { x with poolArmedB := v }) := fun u v => by
    cases a
    · exact modData
    · exact modData
  unfold State.poolCheck
  exact StepFrame.ite (StepFrame.ite ((hset s false).trans raise) .refl) (StepFrame.ite (hset s true) .refl)

theorem takeCheckpoint : Mapped d s (s.takeCheckpoint d) := by
  unfold State.takeCheckpoint
  extract_lets u base v w
  have hu : Mapped d s u := journalFlags
  have hv : Mapped d u v := modData
  have hw : Mapped d v w := journalFlags.trans flushJournal
  exact ((hu.trans hv).trans hw).trans modData

/-! ### The erase of a key domain (10 R328) -/

theorem dropContents {z rc : Nat} : Mapped d s (s.modData d (dropContents z rc)) := modData

theorem zoneResetExec {z asn : Nat} : Mapped d s (s.zoneResetExec d z asn) := by
  unfold State.zoneResetExec
  dsimp only
  split
  · exact .refl
  · exact (((dropContents.trans journal).trans modZone).trans poolCheck).trans poolCheck

theorem eraseZone {asn z : Nat} : Mapped d s (s.eraseZone d asn z) := by
  unfold State.eraseZone State.putZone
  dsimp only
  generalize hv : s.modData d (fun x => { x with zones := _ }) = v
  have hsv : Mapped d s v := hv ▸ modData
  exact StepFrame.ite (dropContents.trans journal) (StepFrame.ite .refl (hsv.trans zoneResetExec))

theorem eraseKeyed {k asn : Nat} : Mapped d s (s.eraseKeyed d k asn) := by
  unfold State.eraseKeyed State.modKey
  extract_lets zs u v w
  have hu : Mapped d s u := modData
  have hv : Mapped d u v := StepFrame.foldl (fun _ _ => eraseZone) _ _
  have hw : Mapped d v w := modData
  have hx : Mapped d w (w.modData d fun x => { x with keyErased := true }) := modData
  exact (((hu.trans hv).trans hw).trans hx).trans raise

theorem erasePending : Mapped d s (s.erasePending d) := StepFrame.foldl (fun _ _ => eraseKeyed) _ _

/-! ### Replay (11 R367) -/

theorem useImage {m : MapImage} : Mapped d s (s.useImage d m) := by
  have hsettle : ∀ (u : State) (z : Nat), Mapped d u (u.settleStream d z) := fun u z => by
    unfold State.settleStream
    exact modZone
  unfold State.useImage
  extract_lets nb zs used u v
  have hu : Mapped d s u := modData
  have hv : Mapped d u v := modData
  exact (hu.trans hv).trans (StepFrame.foldl hsettle _ _)

theorem putDom {o : ObjDef} {sub i : Nat} {v : List Byte} : Mapped d s (s.putDom o sub i v) :=
  ⟨KeptBy.of_dies rfl, rfl, rfl, by simp⟩

theorem consumeArea_media (x : DieData) : (consumeArea x).media = x.media := by
  unfold consumeArea setArea
  split
  · rfl
  · rfl

theorem consumeArea_formatted (x : DieData) : (consumeArea x).formatted = x.formatted := by
  unfold consumeArea setArea
  split
  · rfl
  · rfl

theorem saveLost : Mapped d s (s.saveLost d) := by
  unfold State.saveLost
  extract_lets x old rec_ u
  have hu : Mapped d s u := putDom
  have hraise : ∀ v : State, Mapped d v (v.raise d Ev.acornSaveFail) := fun v => raise
  exact StepFrame.ite ((hu.trans (modData (by exact consumeArea_media) (by exact consumeArea_formatted))).trans (hraise _)) .refl

theorem restoreBlock {b : AcornBlock} : Mapped d s (s.restoreBlock d b) := by
  unfold State.restoreBlock State.putVersions
  generalize hv : s.modData d (fun x => { x with unreadable := _ }) = v
  have hsv : Mapped d s v := hv ▸ modData
  exact StepFrame.ite modData (hsv.trans raise)

theorem rebuild : Mapped d s (s.rebuild d).1 := by
  unfold State.rebuild
  extract_lets u x r acorn
  have hu : Mapped d s u := saveLost
  cases acorn with
  | none =>
    generalize hv : u.modData d (fun x => { x with ring := [], head := _ }) = v
    have huv : Mapped d u v := hv ▸ modData
    exact (hu.trans huv).trans useImage
  | some a =>
    dsimp -zeta only
    extract_lets q v w lost old y
    have hv : Mapped d u v := StepFrame.trans modData (useImage (m := q.1))
    have hw : Mapped d v w := StepFrame.foldl (fun _ _ => restoreBlock) _ _
    have hy : Mapped d w y := StepFrame.ite .refl putDom
    split
    · exact hu.trans hv
    · refine (((hu.trans hv).trans hw).trans hy).trans (t := y) ?_
      dsimp only
      exact modData (by exact consumeArea_media) (by exact consumeArea_formatted)

end Mapped

/-! ### The steps -/

section
variable {s : State} {d : DieId}

theorem State.resetResult_die (code : Int) (e : DieId) : (s.resetResult d code).die e = s.die e := by
  unfold State.resetResult
  split
  · exact (KeptBy.put (f := id) (d := e)).self
  · rfl

theorem State.mirrorFill_die_self : ∃ m, (s.mirrorFill d).die d = { s.die d with mirror := m } :=
  ⟨s.dieFree d, State.modDie_die_self s d _⟩

/-- R582: a die that has reconciled is active, its medium as it was. -/
theorem State.reconcile_spec : ((s.reconcile d).die d).life = .active ∧ ((s.reconcile d).die d).reconciled = true ∧
    ((s.reconcile d).die d).cause = 0 ∧ ((s.reconcile d).die d).data.media = (s.die d).data.media ∧
    ((s.reconcile d).die d).target = (s.die d).target := by
  unfold State.reconcile
  extract_lets x reached ahead u open_ zs v w
  have hu : Mapped d s u := StepFrame.foldl (fun _ _ => Mapped.modZone) _ _
  have hv : Mapped d u v := StepFrame.foldl (fun _ _ => Mapped.makeReadOnly) _ _
  have hgap : Mapped d v (v.modDie d fun x => { x with gap := true }) := StepFrame.modDie fun _ => rfl
  have hw : Mapped d s w := StepFrame.ite (((hu.trans hv).trans hgap).trans Mapped.takeCheckpoint) hu
  obtain ⟨m, hm⟩ := State.mirrorFill_die_self (s := w.modDie d fun x => { x with
    reconciled := true, life := .active, cause := 0, rejoining := false }) (d := d)
  rw [hm, State.modDie_die_self]
  exact ⟨rfl, rfl, rfl, congrArg (fun p => p.2.1) hw.self, congrArg (fun p => p.1.target) hw.self⟩

/-- A die but for what the evaluation of its records touches. -/
def Die.unjudged (x : Die) : Die := { x with obs := {}, evalWait := [], calStale := false }

theorem Die.tablesBad_unjudged (x : Die) : x.unjudged.tablesBad = x.tablesBad := by
  simp only [Die.tablesBad, Die.tablesMatch, Die.act, Die.head, Die.unjudged]
  rfl

theorem State.evalRecords_kept : KeptBy Die.unjudged d s ((allRecords d).foldl (fun s e => s.evalRecord d e.1 e.2) s) := by
  refine KeptBy.foldl (fun u e => ?_) _ _
  unfold State.evalRecord
  split
  · exact KeptBy.modDie fun _ => rfl
  · refine KeptBy.trans KeptBy.putSub (KeptBy.ite ?_ KeptBy.refl)
    refine KeptBy.trans ?_ (KeptBy.raise (k := Ev.calStale) (fun _ _ => rfl) (.inl (by decide)))
    exact KeptBy.modDie fun _ => rfl

theorem State.enterUnformatted_spec (clear : Bool) : ((s.enterUnformatted d clear).die d).life = .unformatted ∧
    ((s.enterUnformatted d clear).die d).data.media = (s.die d).data.media ∧
    ((s.enterUnformatted d clear).die d).target = (s.die d).target := by
  unfold State.enterUnformatted
  extract_lets u
  have hu : (u.die d).data.media = (s.die d).data.media ∧ (u.die d).target = (s.die d).target := by
    cases clear
    · exact ⟨rfl, rfl⟩
    · rw [show u = s.modData d _ from if_pos rfl, State.modData_die_self]
      exact ⟨rfl, rfl⟩
  obtain ⟨m, hm⟩ := State.mirrorFill_die_self (s := (u.modDie d fun x => { x with
    life := .unformatted, cause := 0, rejoining := false }).resetResult d 15) (d := d)
  rw [hm, State.resetResult_die, State.modDie_die_self]
  exact ⟨rfl, hu⟩

/-- R573 step 7, R581, R582: what a die that has no other target than Active comes up as. -/
theorem State.bootEnd_spec (ht : (s.die d).target = .active) :
    ((s.bootEnd d).die d).bootDone = true ∧ ((s.bootEnd d).die d).data.media = (s.die d).data.media ∧
    ((s.bootEnd d).die d).life = (if (s.die d).data.formatted = false ∨ (s.die d).tablesBad = true then .unformatted
      else if (s.die d).rejoining = true then .reconciling else .active) := by
  unfold State.bootEnd
  extract_lets x u v
  have hu : (u.die d).target = .active ∧ (u.die d).data.media = (s.die d).data.media ∧
      (u.die d).life = (if (s.die d).data.formatted = false ∨ (s.die d).tablesBad = true then .unformatted
        else if (s.die d).rejoining = true then .reconciling else .active) := by
    obtain ⟨hlife, hmedia, htarget⟩ := State.enterUnformatted_spec (s := s) (d := d) true
    obtain ⟨hlife', hmedia', htarget'⟩ := State.enterUnformatted_spec (s := s) (d := d) false
    obtain ⟨hactive, -, -, hkept, haim⟩ := State.reconcile_spec (s := s) (d := d)
    simp only [u, x]
    cases hf : (s.die d).data.formatted with
    | false => simp [hlife, hmedia, htarget, ht]
    | true =>
      cases hb : (s.die d).tablesBad with
      | true => simp [hlife', hmedia', htarget', ht]
      | false =>
        cases hr : (s.die d).rejoining with
        | true => simp [State.modDie_die_self, ht]
        | false => simp [State.resetResult_die, hactive, hkept, haim, ht]
  have hv : v.die d = { u.die d with bootDone := true } := State.modDie_die_self u d _
  have hvt : (v.die d).target = .active := by rw [hv]; exact hu.1
  rw [if_pos hvt, hv]
  exact ⟨rfl, hu.2⟩

/-- The end of step 3 on a die whose images are loaded (20 R573, R574). -/
theorem State.bootStep3_spec (hf : (s.die d).mem.filling = []) (hi : (s.die d).imaged = true)
    (hr : (s.die d).recordsRead = false) (his : s.isolated d = false) :
    let t := s.bootStep3 d
    (t.die d).recordsRead = true ∧ (t.die d).mem.filling = [] ∧
      (d.val = 0 → s.host.enable = true → s.host.sizesOk = true → s.host.adminReady = false → s.host.fatal = false →
        t.host.adminReady = true ∧ t.sqs.find? 0 = some
          { size := s.host.asqSize.toNat, base := s.host.asqBase, cq := 0, frozenModel := false }) := by
  intro t
  generalize hu : s.modDie d (fun x => { x with recordsRead := true }) = u
  generalize hv : (u.spinStartCommand d).1 = v
  have ht : t = if d.val = 0 then v.adminRise else v := by
    simp [t, State.bootStep3, hf, hi, hr, his, hu, hv]
  have hdie : u.die d = { s.die d with recordsRead := true } := by rw [← hu, State.modDie_die_self]
  have hkept : StepFrame (fun x => (x.recordsRead, x.mem.filling)) [] d u v := hv ▸ StepFrame.spinStartCommand
    ⟨fun _ _ => rfl, fun _ _ => rfl, fun _ _ => rfl, fun _ _ _ => rfl, fun _ _ _ _ _ => rfl, fun _ _ => rfl, fun _ _ _ => rfl⟩
  have hself : ((v.die d).recordsRead, (v.die d).mem.filling) = (true, []) := by rw [hkept.self, hdie, hf]
  have hread : (v.die d).recordsRead = true := congrArg Prod.fst hself
  have hfill : (v.die d).mem.filling = [] := congrArg Prod.snd hself
  have hhost : v.host = s.host := hkept.host.trans (by rw [← hu]; rfl)
  have hrise : ∀ e, v.adminRise.die e = v.die e := fun e => by
    unfold State.adminRise
    dsimp only
    split
    · rfl
    · rfl
  refine ⟨?_, ?_, fun h0 he hs ha hx => ?_⟩
  · rw [ht]
    split
    · rw [hrise, hread]
    · exact hread
  · rw [ht]
    split
    · rw [hrise, hfill]
    · exact hfill
  · have hd0 : d = 0 := Fin.ext h0
    subst hd0
    have hv' : v.adminRise = { v with
        host := { v.host with adminReady := true }
        sqs := v.sqs.insert 0 { size := v.host.asqSize.toNat, base := v.host.asqBase, cq := 0, frozenModel := false }
        cqs := v.cqs.insert 0
          { size := v.host.acqSize.toNat, base := v.host.acqBase, vector := 0, ien := true, aggCount := 1, aggTime := 0 } } := by
      simp [State.adminRise, hhost, he, hs, ha, hx, hread]
    rw [ht, if_pos h0, hv', hhost]
    exact ⟨rfl, KMap.find?_insert_self _ _ _⟩

/-- READY rises with the later of ENABLE and boot step 8 (20 R574). -/
theorem State.readyRise_spec (hb : s.host.bootReady = true) : s.readyRise.host.bootReady = true ∧
    (s.host.enable = true → s.host.adminReady = true → s.readyRise.host.ready = true) := by
  unfold State.readyRise
  cases hc : (s.host.bootReady && s.host.enable && s.host.adminReady && !s.host.ready) with
  | false =>
    rw [if_neg (by simp)]
    exact ⟨hb, fun he ha => by simpa [hb, he, ha] using hc⟩
  | true =>
    rw [if_pos rfl]
    extract_lets h w
    have hend : ∀ c : Prop, [Decidable c] → ∀ (o : ObjDef) (i : Nat) (n : Int),
        (if c then w.put o i n else w).host = { s.host with ready := true } := by
      intro c _ o i n
      split
      · exact State.putSub_host ..
      · rfl
    rw [hend]
    exact ⟨hb, fun _ _ => rfl⟩

/-- Boot step 8 (20 R573, R574). -/
theorem State.bootReach_spec : s.bootReach.host.bootReady = true ∧
    (s.host.enable = true → s.host.adminReady = true → s.bootReach.host.ready = true) := by
  have hu : ∃ u : State, s.bootReach = u.readyRise ∧ u.host = { s.host with bootReady := true } := by
    refine ⟨_, rfl, ?_⟩
    dsimp only
    split
    · rfl
    · rfl
  obtain ⟨u, heq, hhost⟩ := hu
  obtain ⟨hboot, hready⟩ := u.readyRise_spec (by rw [hhost])
  rw [hhost] at hready
  rw [heq]
  exact ⟨hboot, hready⟩

end

/-! ### The commands -/

section
variable {s : State} {d : DieId} (hd : s.fitted d = true)
include hd

/-- The HDA of a die that heads may be loaded on (20 R573 step 6, R575). -/
theorem exec_bootHeadLoad (hread : (s.die d).recordsRead = true) (hload : (s.die d).bootLoaded = false)
    (hi : s.isolated d = false) : exec (.bootHeadLoad d) s = .next (
      if (s.die d).identFail then s.isolate d 1
      else if (s.die d).tablesBad then s.modDie d fun x => { x with bootLoaded := true }
      else if (s.die d).spin.state = .atSpeed then
        (((s.loadCommand d .A).1.loadCommand d .B).1).modDie d fun x => { x with bootLoaded := true }
      else s) := by
  have hexec : exec (.bootHeadLoad d) s = _ := exec_onDie (execBootHeadLoad d s) rfl rfl hd
  dsimp only at hexec
  rwa [if_neg (by simp [hload, hi, hread])] at hexec

theorem exec_bootMediaReplay (hst : (s.die d).life = .starting) (hload : (s.die d).bootLoaded = true)
    (hrep : (s.die d).replayDone = false) (htab : (s.die d).tablesBad = false) (hup : (s.die d).headsUp = true) (b : Bool) :
    exec (.bootMediaReplay d b) s = .next (
      if !b then s.isolate d 8
      else if (s.rebuild d).2 then ((s.rebuild d).1.erasePending d).modDie d fun x => { x with replayDone := true }
      else ((s.rebuild d).1.raise d Ev.journalCorrupt).isolate d 3) := by
  have hexec : exec (.bootMediaReplay d b) s = _ := exec_onDie (execBootMediaReplay d b s) rfl rfl hd
  dsimp only at hexec
  rwa [if_pos (by simp [hst, hload, hrep, htab, hup])] at hexec

theorem exec_bootStalenessCheck (hst : (s.die d).life = .starting) (hread : (s.die d).recordsRead = true)
    (hdone : (s.die d).bootDone = false) (hload : (s.die d).bootLoaded = true)
    (hrep : (s.die d).replayDone = true ∨ (s.die d).tablesBad = true) : exec (.bootStalenessCheck d) s =
      .next (((allRecords d).foldl (fun s e => s.evalRecord d e.1 e.2) s).bootEnd d) := by
  have hexec : exec (.bootStalenessCheck d) s = _ := exec_onDie (execBootStalenessCheck d s) rfl rfl hd
  dsimp only at hexec
  rwa [if_pos (by simp [hst, hread, hdone, hload, hrep])] at hexec

/-- R582: the ring that reaches the tail, else the checkpoint and the log, else isolation. -/
theorem reconciliation_runs (hrec : (s.die d).life = .reconciling) :
    (∀ m, Runs (.reconciliation d true m) s fun t => (t.die d).life = .active ∧ (t.die d).reconciled = true ∧
      (t.die d).cause = 0 ∧ (t.die d).data.media = (s.die d).data.media) ∧
    exec (.reconciliation d false false) s = .next (s.isolate d 8) ∧
    (Runs (.reconciliation d false true) s fun t =>
      (t.die d).life = .active ∧ (t.die d).data.media = (s.die d).data.media) := by
  have hexec : ∀ r m, exec (.reconciliation d r m) s = _ := fun r m =>
    exec_onDie (execReconciliation d r m s) rfl rfl hd
  dsimp only at hexec
  simp only [hrec, ne_eq, not_true_eq_false, if_false] at hexec
  obtain ⟨hlife, hdone, hcause, hmedia, -⟩ := State.reconcile_spec (s := s) (d := d)
  refine ⟨fun m => Runs.intro (hexec true m) ?_, hexec false false, Runs.intro (hexec false true) ?_⟩
  · rw [if_pos rfl, State.resetResult_die]
    exact ⟨hlife, hdone, hcause, hmedia⟩
  · simp only [Bool.false_eq_true, if_false, Bool.not_true]
    generalize hu : s.modData d (fun y => { y with ring := [], head := _ }) = u
    generalize hv : u.useImage d _ = v
    generalize hw : v.modData d (fun y => { y with wc := _ }) = w
    have hsw : Mapped d s w := ((hu ▸ Mapped.modData : Mapped d s u).trans (hv ▸ Mapped.useImage)).trans (hw ▸ Mapped.modData)
    obtain ⟨hlife, -, -, hmedia, -⟩ := State.reconcile_spec (s := w) (d := d)
    rw [State.resetResult_die]
    exact ⟨hlife, hmedia.trans (congrArg (fun p => p.2.1) hsw.self)⟩

end

/-- Settles O38: each step by what it does where its condition holds; a step that fails isolates the die, and isolation
leaves the die isolated whatever it sets off. -/
theorem bootSteps : Obligations.BootSteps := by
  unfold Obligations.BootSteps
  intro s d hd x booted
  have hiso : ∀ c n, exec c s = .next (s.isolate d n) → Runs c s fun t => (t.die d).life = .isolated := fun c n h =>
    Runs.intro h (s.isolate_life d n)
  refine ⟨fun r hr => ?_, fun r hr himg hread hi => ?_, fun hread hload hi => ?_, fun hst hload hrep htab hup => ?_,
    fun hst hread hdone hload htgt hrep => ?_, fun hrec => ?_, fun hread hfatal hboot => ?_, fun hst => ?_⟩
  · have hexec : exec (.memoryFillDone d r) s = _ := exec_onDie (execMemoryFillDone d r s) rfl rfl hd
    have hmem : ((s.modMem d fun m => { m with filling := m.filling.filter (· != r) }).die d).mem.filling ≠ [] := by
      rw [State.modMem, State.modDie_die_self]
      exact hr
    have hempty := (List.isEmpty_eq_false_iff).2 hmem
    rw [hexec]
    unfold State.bootStep3
    simp only [hempty, Bool.and_false, Bool.false_and, Bool.false_eq_true, if_false]
    rfl
  · have hexec : exec (.memoryFillDone d r) s = _ := exec_onDie (execMemoryFillDone d r s) rfl rfl hd
    generalize hu : (s.modMem d fun m => { m with filling := m.filling.filter (· != r) }) = u at hexec
    have hdie : u.die d = { x with mem := { x.mem with filling := x.mem.filling.filter (· != r) } } := by
      rw [← hu, State.modMem, State.modDie_die_self]
    have hhost : u.host = s.host := by
      rw [← hu]
      rfl
    have hspec := State.bootStep3_spec (s := u) (d := d) (by rw [hdie]; exact hr) (by rw [hdie]; exact himg)
      (by rw [hdie]; exact hread) (by rw [State.isolated, hdie]; exact hi)
    rw [hhost] at hspec
    exact Runs.intro hexec hspec
  · have hexec := exec_bootHeadLoad hd hread hload hi
    refine ⟨fun hid => hiso _ 1 (by rw [hexec, if_pos hid]), fun hid htab => ?_, fun hid htab hsp => ?_,
      fun hid htab hsp => ?_⟩
    · rw [hexec, if_neg (by simp only [x] at hid; simp [hid]), if_pos htab]
      rfl
    · rw [if_neg (by simp only [x] at hid; simp [hid]), if_neg (by simp only [x] at htab; simp [htab]), if_pos hsp] at hexec
      have hload : KeptBy Die.data d s ((s.loadCommand d .A).1.loadCommand d .B).1 :=
        (KeptBy.loadCommand (fun _ _ _ => rfl) fun _ _ => rfl).trans (KeptBy.loadCommand (fun _ _ _ => rfl) fun _ _ => rfl)
      refine Runs.intro hexec ⟨?_, ?_, fun e he => ?_⟩
      · rw [State.modDie_die_self]
      · rw [State.modDie_die_self]
        exact hload.self
      · rw [State.modDie_die_ne _ _ _ _ he]
        exact hload.others e he
    · rw [hexec, if_neg (by simp only [x] at hid; simp [hid]), if_neg (by simp only [x] at htab; simp [htab]), if_neg hsp]
  · have hexec := exec_bootMediaReplay hd hst hload hrep htab hup
    refine ⟨hiso _ 8 (hexec false), fun hok => ?_, fun hbad => ?_⟩
    · have htrue := hexec true
      simp only [hok, Bool.not_true, Bool.false_eq_true, if_false, if_true] at htrue
      have hmap : Mapped d s ((s.rebuild d).1.erasePending d) := Mapped.rebuild.trans Mapped.erasePending
      generalize (s.rebuild d).1.erasePending d = v at htrue hmap
      refine Runs.intro htrue ⟨?_, ?_, hmap.slots⟩
      · rw [State.modDie_die_self]
      · rw [State.modDie_die_self]
        exact (congrArg (fun p => p.1.life) hmap.self).trans hst
    · have hfalse := hexec true
      simp only [hbad, Bool.not_true, Bool.false_eq_true, if_false] at hfalse
      exact Runs.intro hfalse (State.isolate_life _ d 3)
  · have hexec := exec_bootStalenessCheck hd hst hread hdone hload hrep
    have hkept := State.evalRecords_kept (s := s) (d := d)
    generalize (allRecords d).foldl (fun s e => s.evalRecord d e.1 e.2) s = u at hexec hkept
    have hdata : (u.die d).data = x.data := congrArg Die.data (a₁ := (u.die d).unjudged) (a₂ := x.unjudged) hkept.self
    have hrej : (u.die d).rejoining = x.rejoining :=
      congrArg Die.rejoining (a₁ := (u.die d).unjudged) (a₂ := x.unjudged) hkept.self
    have htab : (u.die d).tablesBad = x.tablesBad :=
      ((u.die d).tablesBad_unjudged.symm.trans (congrArg Die.tablesBad hkept.self)).trans x.tablesBad_unjudged
    have htgt' : (u.die d).target = .active :=
      (congrArg Die.target (a₁ := (u.die d).unjudged) (a₂ := x.unjudged) hkept.self).trans htgt
    have hspec := State.bootEnd_spec htgt'
    rw [hdata, hrej, htab] at hspec
    exact Runs.intro hexec hspec
  · obtain ⟨hring, hiso8, hlog⟩ := reconciliation_runs hd hrec
    exact ⟨hring, hiso _ 8 hiso8, hlog⟩
  · have hlate : exec .readyTimeout s = .next (State.bootReach
        ((s.fittedDies.filter fun d => !(s.die d).bootDone).foldl State.identCheck s)) := by
      show Host.Outcome.next (when _ _ s) = _
      rw [hread, hfatal, hboot]
      rfl
    refine ⟨fun hall => ⟨s.bootReach, ?_, s.bootReach_spec⟩, Runs.intro hlate State.bootReach_spec.1⟩
    show Host.Outcome.next (when _ _ s) = _
    rw [hread, hall, hfatal, hboot]
    rfl
  · have hexec : exec (.dieStartLimit d) s = _ := exec_onDie (execDieStartLimit d s) rfl rfl hd
    have hlife : ((s.die d).life == .starting) = true := by rw [show (s.die d).life = .starting from hst]; rfl
    rw [hlife] at hexec
    exact hiso _ _ hexec

end Sys2Proof.Machine

/-! PROOFS. O39: what each reset leaves (20 R570 to R572, R580, R583), and the power target (20 R576, R577). -/

namespace Sys2Proof.Machine

/-! ### One die's reset -/

/-- What a die holds, whether it is in service, and its clock's time. -/
def Die.kept (x : Die) : DieData × DieLife × Nat := (x.data, x.life, x.clock.time4)

/-- Nothing that die d holds has changed, no other die has, and no ASN has been given. -/
structure Restored (d : DieId) (s t : State) : Prop extends KeptBy Die.kept d s t where
  asn : t.asn = s.asn

namespace Restored
variable {d : DieId} {s t u : State}

theorem refl : Restored d s s := ⟨KeptBy.refl, rfl⟩

theorem trans (h : Restored d s t) (k : Restored d t u) : Restored d s u := ⟨h.toKeptBy.trans k.toKeptBy, k.asn.trans h.asn⟩

theorem ite {c : Prop} [Decidable c] (h : Restored d s t) (k : Restored d s u) : Restored d s (if c then t else u) := by
  split
  · exact h
  · exact k

theorem foldl {β : Type} {g : State → β → State} (h : ∀ s x, Restored d s (g s x)) (l : List β) (s : State) :
    Restored d s (l.foldl g s) := by
  induction l generalizing s with
  | nil => exact refl
  | cons x l ih => exact (h s x).trans (ih _)

theorem of_dies (h : t.dies = s.dies) (ha : t.asn = s.asn) : Restored d s t := ⟨KeptBy.of_dies h, ha⟩

theorem modDie {g : Die → Die} (h : ∀ x, (g x).kept = x.kept := by intro _; rfl) : Restored d s (s.modDie d g) :=
  ⟨KeptBy.modDie h, rfl⟩

theorem raise {k : EventKind} {data : List (Nat × Int)} (hk : k.src ≠ 119 := by decide) : Restored d s (s.raise d k data) :=
  ⟨KeptBy.raise (fun _ _ => rfl) (.inl hk), (State.raise_reported [] s d k data (.inl hk)).asn⟩

theorem putSub {o : ObjDef} {sub i : Nat} {v : Int} : Restored d s (s.putSub o sub i v) :=
  of_dies (State.putSub_dies ..) (State.putSub_asn ..)

theorem put {o : ObjDef} {i : Nat} {v : Int} : Restored d s (s.put o i v) := putSub

theorem applyRwr {e : Option DieId} (he : e = some d ∨ e = none) : Restored d s (s.applyRwr e) := by
  unfold State.applyRwr
  extract_lets bad table mine u
  have hu : Restored d s u := of_dies rfl rfl
  rcases he with rfl | rfl
  · exact hu.trans (ite raise refl)
  · exact hu

theorem reloadObjs {e : Option DieId} {keep : List ObjDef} : Restored d s (s.reloadObjs e keep) := by
  unfold State.reloadObjs
  extract_lets u
  have hu : Restored d s u := of_dies rfl rfl
  refine hu.trans (foldl (fun v x => ?_) _ _)
  unfold State.loadSaved
  split
  · exact refl
  · split
    · exact of_dies rfl rfl
    · exact of_dies rfl rfl
    · exact putSub

theorem repairRecords : Restored d s (s.repairRecords d) := by
  unfold State.repairRecords
  refine foldl (fun u k => ?_) _ _
  extract_lets t good fix
  have hfix : ∀ v, Restored d u (fix v) := fun v => trans modDie raise
  split
  · exact hfix _
  · exact hfix _
  · exact refl

theorem loadRecords : Restored d s (s.loadRecords d) := by
  unfold State.loadRecords
  refine foldl (fun u e => ?_) _ _
  extract_lets p
  refine ite refl ?_
  unfold State.applyPayload
  split
  · exact put
  · exact of_dies rfl rfl
  · exact of_dies rfl rfl
  · exact put
  · exact put
  · exact put
  · exact trans put modDie
  · exact refl

theorem useServoFormat_kept (x : Die) (bs : List Byte) : (x.useServoFormat bs).kept = x.kept := by
  unfold Die.useServoFormat
  split
  · rfl
  · rfl

theorem useWedgeTable_time4 (c : AngleClock) (hda : BitVec 32) (bs : List Byte) : (c.useWedgeTable hda bs).time4 = c.time4 := by
  unfold AngleClock.useWedgeTable
  split
  · rfl
  · rfl

theorem useTables : Restored d s (s.useTables d) := by
  unfold State.useTables
  extract_lets i servo wedge comm u out v w x y
  have hu : Restored d s u := modDie fun z => by
    have hz := useServoFormat_kept z servo
    simp only [Die.kept, Prod.mk.injEq] at hz ⊢
    obtain ⟨hdata, hlife, htime⟩ := hz
    exact ⟨hdata, hlife, (useWedgeTable_time4 ..).trans htime⟩
  have hv : Restored d u v := foldl (fun _ _ => modDie) _ _
  have hw : Restored d v w := ite refl raise
  have hx : Restored d w x := ite refl raise
  have hy : Restored d x y := ite refl raise
  exact ((((hu.trans hv).trans hw).trans hx).trans hy).trans (ite raise refl)

end Restored

/-- R570: a die after a reset holds what its kind of reset keeps, and boots; nothing else of the dies has changed. -/
theorem State.resetDie_spec (s : State) (d : DieId) (kind : ResetKind) :
    (∃ recorded nonce, ((s.resetDie d kind).die d).data = (s.die d).data.reset kind recorded nonce) ∧
    ((s.resetDie d kind).die d).life = .starting ∧
    ((s.resetDie d kind).die d).clock.time4 = (if kind = .cold then 0 else (s.die d).clock.time4) ∧
    (∀ e, e ≠ d → (s.resetDie d kind).die e = s.die e) ∧ (s.resetDie d kind).asn = s.asn := by
  unfold State.resetDie
  extract_lets u v recorded w keep r f x y z
  have hu : Restored d s u := Restored.of_dies rfl rfl
  have hv : Restored d u v := Restored.applyRwr (.inl rfl)
  have hr : Restored d w r := Restored.reloadObjs
  clear_value r
  have hx : Restored d w x := hr.trans (Restored.of_dies rfl rfl)
  have hy : Restored d x y := by
    have hcoast : ∀ t : State, Restored d t (t.setCoastRate d) := fun t => by
      unfold State.setCoastRate
      exact Restored.modDie
    exact ((Restored.repairRecords.trans Restored.loadRecords).trans Restored.useTables).trans (hcoast _)
  have hz : Restored d y z := Restored.modDie
  have hend : ∀ t : State, Restored d t (if kind = .single then { t with
      slots := t.slots.mapVals fun _ sl => { sl with parts := sl.parts.map fun p => p.again sl.op d } } else t) := fun t =>
    Restored.ite (Restored.of_dies rfl rfl) Restored.refl
  have hafter := ((hx.trans hy).trans hz).trans (hend z)
  have hbefore := hu.trans hv
  have hw : w.die d = (v.die d).reset kind recorded v.fresh := State.modDie_die_self v d _
  have hself := hafter.self
  simp only [hw, Die.kept, Prod.mk.injEq] at hself
  obtain ⟨hdata, hlife, htime⟩ := hself
  have hold := hbefore.self
  simp only [Die.kept, Prod.mk.injEq] at hold
  obtain ⟨holddata, -, holdtime⟩ := hold
  refine ⟨⟨recorded, v.fresh, ?_⟩, hlife, ?_, fun e he => ?_, ?_⟩
  · rw [hdata, ← holddata]
    rfl
  · rw [htime, ← holdtime]
    rfl
  · rw [hafter.others e he, State.modDie_die_ne _ _ _ _ he, hbefore.others e he]
  · exact hafter.asn.trans hbefore.asn

/-! ### The package -/

/-- What outlasts every reset: the medium, the log, the checkpoint, the acorn. -/
def Die.lasting (x : Die) : KMap Sector × List JRec × MapImage × Option Acorn :=
  (x.data.media, x.data.log, x.data.checkpoint, x.data.acorn)

/-- A die after a cold or warm reset: its DRAM empty, its boot at the beginning, its clock at 0 after a cold one. -/
def Die.fresh (kind : ResetKind) (x : Die) : Prop :=
  x.data.wc = {} ∧ x.life = .starting ∧ (kind = .cold → x.clock.time4 = 0)

section
variable {kind : ResetKind} (hk : kind ≠ .single)
include hk

theorem DieData.reset_wc (x : DieData) (recorded : Nat → Bool) (nonce : Nat) : (x.reset kind recorded nonce).wc = {} := by
  simp only [DieData.reset, hk, if_false]

theorem State.resetDie_fresh (s : State) (d : DieId) : ((s.resetDie d kind).die d).fresh kind := by
  obtain ⟨⟨recorded, nonce, hdata⟩, hlife, htime, -, -⟩ := s.resetDie_spec d kind
  refine ⟨by rw [hdata, DieData.reset_wc hk], hlife, fun hc => ?_⟩
  rw [htime, if_pos hc]

omit hk in
theorem State.resetDie_lasting (s : State) (d e : DieId) : ((s.resetDie d kind).die e).lasting = (s.die e).lasting := by
  obtain ⟨⟨recorded, nonce, hdata⟩, -, -, hothers, -⟩ := s.resetDie_spec d kind
  by_cases he : e = d
  · subst he
    simp only [Die.lasting, hdata, DieData.reset]
    split
    · rfl
    · rfl
  · rw [hothers e he]

/-- Resets of dies, one after the other: what lasts is as it was, and whoever has been reset is fresh. -/
theorem State.resetDies_spec (l : List DieId) (s : State) :
    let t := l.foldl (fun s d => s.resetDie d kind) s
    (∀ d, (t.die d).lasting = (s.die d).lasting) ∧ (∀ d, d ∈ l ∨ (s.die d).fresh kind → (t.die d).fresh kind) ∧
      t.asn = s.asn := by
  induction l generalizing s with
  | nil => exact ⟨fun _ => rfl, fun _ h => h.resolve_left (by simp), rfl⟩
  | cons e l ih =>
    obtain ⟨hlast, hfresh, hasn⟩ := ih (s.resetDie e kind)
    obtain ⟨-, -, -, hothers, hasn'⟩ := s.resetDie_spec e kind
    refine ⟨fun d => (hlast d).trans (s.resetDie_lasting e d), fun d hd => hfresh d ?_, hasn.trans hasn'⟩
    by_cases hde : d = e
    · subst hde
      exact .inr (s.resetDie_fresh hk d)
    · rcases hd with hd | hd
      · exact .inl ((List.mem_cons.1 hd).resolve_left hde)
      · exact .inr (by rwa [hothers d hde])

end

theorem State.loadSaved_shape (s : State) (k : Nat) (v : List Byte) :
    ∃ o m, s.loadSaved k v = { s with objs := o, doms := m } := by
  unfold State.loadSaved
  split
  · exact ⟨_, _, rfl⟩
  · split
    · exact ⟨_, _, rfl⟩
    · exact ⟨_, _, rfl⟩
    · unfold State.putSub
      split
      · exact ⟨_, s.doms, rfl⟩
      · exact ⟨_, s.doms, rfl⟩

theorem State.reloadObjs_shape (s : State) (e : Option DieId) (keep : List ObjDef) :
    ∃ o m, s.reloadObjs e keep = { s with objs := o, doms := m } := by
  unfold State.reloadObjs
  extract_lets u
  have hu : ∃ o m, u = { s with objs := o, doms := m } := ⟨_, _, rfl⟩
  generalize (s.saved.entries.filter fun e_1 => keyOf e e_1.1) = l at *
  clear_value u
  induction l generalizing u with
  | nil => exact hu
  | cons x l ih =>
    obtain ⟨o, m, rfl⟩ := hu
    obtain ⟨o', m', h⟩ := State.loadSaved_shape { s with objs := o, doms := m } x.1 x.2
    exact ih _ ⟨o', m', h⟩

/-- R570 to R572: what a reset of the package makes of the host's side; the dies hold what they held. -/
theorem State.resetPackage_spec (s : State) (kind : ResetKind) :
    let u := s.resetPackage kind
    (u.slots = {} ∧ u.sqs = {} ∧ u.cqs = {} ∧ u.evtPending = {} ∧ u.errors = [] ∧
      u.host.ready = false ∧ u.host.adminReady = false ∧ u.host.bootReady = false) ∧
    u.warm = none ∧ u.asn = (if kind = .cold then 0 else s.asn) ∧ ∀ e, (u.die e).kept = (s.die e).kept := by
  intro u
  obtain ⟨o, m, hshape⟩ := (s.hostReset.applyRwr none).reloadObjs_shape none []
  have hu : u = s.resetPackage kind := rfl
  unfold State.resetPackage at hu
  dsimp only at hu
  rw [hshape] at hu
  have hdies : ∀ e, u.die e = s.hostReset.die e := fun e => by
    rw [hu]
    rfl
  rw [hu]
  refine ⟨⟨rfl, rfl, rfl, rfl, rfl, rfl, rfl, rfl⟩, rfl, ?_, fun e => ?_⟩
  · cases kind
    · rfl
    · rfl
    · rfl
  · rw [← hu, hdies, State.die, State.hostReset, Fin.getElem_fin, Vector.getElem_map]
    rfl

theorem State.mem_fittedDies (s : State) (d : DieId) : d ∈ s.fittedDies ↔ s.fitted d = true := by
  simp [State.fittedDies]

/-- The block in cold reset, before its boot (20 R570; 21 R599). -/
def State.coldStart (s : State) (h : HostRegs) : State :=
  { (s.fittedDies.foldl (fun s d => s.resetDie d .cold) s).resetPackage .cold with
    resetStart := 0, host := h, pba := {}, msix := {}, reply := {} }

/-- What a reset of the package leaves of a die that has been reset as well. -/
theorem State.packageAfter_spec {kind : ResetKind} (hk : kind ≠ .single) (s : State) (l : List DieId) {d : DieId} (hd : d ∈ l) :
    let u := (l.foldl (fun s d => s.resetDie d kind) s).resetPackage kind
    (u.die d).lasting = (s.die d).lasting ∧ (u.die d).fresh kind := by
  obtain ⟨hlast, hfresh, -⟩ := State.resetDies_spec hk l s
  obtain ⟨-, -, -, hkept⟩ := (l.foldl (fun s d => s.resetDie d kind) s).resetPackage_spec kind
  dsimp only at hlast hfresh ⊢
  generalize l.foldl (fun s d => s.resetDie d kind) s = v at *
  generalize v.resetPackage kind = u at *
  have hself := hkept d
  simp only [Die.kept, Prod.mk.injEq] at hself
  obtain ⟨hdata, hlife, htime⟩ := hself
  obtain ⟨hwc, hst, hclock⟩ := hfresh d (.inl hd)
  refine ⟨?_, by rw [hdata, hwc], by rw [hlife, hst], fun hc => by rw [htime, hclock hc]⟩
  rw [← hlast d]
  simp only [Die.lasting, hdata]

/-- The parts that a die whose memories are gone had not finished start anew (21 R601). -/
def State.partsAfresh (s : State) (d : DieId) : State :=
  { s with slots := s.slots.mapVals fun _ sl => { sl with parts := sl.parts.map (VPart.afresh · d) } }

theorem exec_porstNRise (s : State) (sa boot : BitVec 2) : let u := s.coldStart { strapSa := sa, strapBoot := boot }
    exec (.porstNRise sa boot) s = .next (if boot = 0 then u.bootRom else if boot = 1 then u
      else { u with host := { u.host with fatal := true } }) := by
  have hboot : boot = 0 ∨ boot = 1 ∨ boot = 2 ∨ boot = 3 := by
    revert boot
    decide
  show Host.Outcome.next (s.coldReset sa boot) = _
  unfold State.coldReset State.coldStart
  dsimp only
  generalize State.resetPackage _ _ = u
  rcases hboot with rfl | rfl | rfl | rfl
  · rfl
  · rfl
  · rfl
  · rfl

theorem exec_porstNAssert (s : State) : exec .porstNAssert s = .next (s.coldStart { inReset := true }) := rfl

/-! ### Members of the package -/

section
variable {s : State} {d : DieId} (hd : s.fitted d = true)
include hd

theorem exec_supplyMonitorReset : exec (.supplyMonitorReset d) s = .next (
    if d.val = 0 then s.coldReset s.host.strapSa s.host.strapBoot
    else ((s.resetDie d .cold).partsAfresh d).snapGone d) := by
  have hexec : exec (.supplyMonitorReset d) s = _ := exec_onDie (execSupplyMonitorReset d s) rfl rfl hd
  dsimp only at hexec
  unfold State.partsAfresh
  generalize s.resetDie d .cold = v at *
  exact hexec

/-- R601: a member die resets alone. -/
theorem supplyMonitorReset_runs (h0 : d.val ≠ 0) : Runs (.supplyMonitorReset d) s fun t =>
    (t.die d).lasting = (s.die d).lasting ∧ (t.die d).fresh .cold ∧ ∀ e, e ≠ 0 → e ≠ d → t.die e = s.die e := by
  have hexec := exec_supplyMonitorReset hd
  rw [if_neg h0] at hexec
  have hfresh := State.resetDie_fresh (kind := .cold) (by decide) s d
  have hlast := State.resetDie_lasting (kind := .cold) s d d
  obtain ⟨-, -, -, hothers, -⟩ := s.resetDie_spec d .cold
  generalize s.resetDie d .cold = v at *
  have hdie : ∀ e, e ≠ 0 → ((v.partsAfresh d).snapGone d).die e = v.die e := fun e he => by
    unfold State.snapGone
    exact State.snapDone_others _ he
  have hd0 : d ≠ 0 := fun h => h0 (congrArg Fin.val h)
  refine Runs.intro hexec ⟨?_, ?_, fun e he hne => ?_⟩
  · rw [hdie d hd0, hlast]
  · rw [hdie d hd0]
    exact hfresh
  · rw [hdie e he, hothers e hne]

end

/-! ### A die that rejoins -/

/-- What a rejoin fixes of a die. -/
def Die.back (x : Die) : KMap Sector × DieLife × Bool := (x.data.media, x.life, x.rejoining)

section
variable {s : State} {d : DieId}

theorem State.settleStream_back {z : Nat} : StepFrame Die.back [Obj.dieResetResult] d s (s.settleStream d z) := by
  unfold State.settleStream State.modZone State.putZone
  exact StepFrame.modDie fun _ => rfl

theorem State.ringApply_back : StepFrame Die.back [Obj.dieResetResult] d s (s.ringApply d) := by
  unfold State.ringApply
  extract_lets u zs v
  have hu : StepFrame Die.back [Obj.dieResetResult] d s u := StepFrame.modDie fun _ => rfl
  have hv : StepFrame Die.back [Obj.dieResetResult] d u v := StepFrame.foldl (fun _ _ => State.settleStream_back) _ _
  exact (hu.trans hv).trans (StepFrame.modDie fun _ => rfl)

theorem State.ringReplay_back : StepFrame Die.back [Obj.dieResetResult] d s (s.ringReplay d) := by
  unfold State.ringReplay
  generalize hv : (s.ringApply d).modData d (fun x => { x with replayed := true }) = v
  have hsv : StepFrame Die.back [Obj.dieResetResult] d (s.ringApply d) v := hv ▸ StepFrame.modDie fun _ => rfl
  exact (State.ringApply_back.trans hsv).trans (StepFrame.bump (by decide) (dieInst_lt d))

theorem State.loadUnits_back {slotFor : Nat → Bool} : StepFrame Die.back [Obj.dieResetResult] d s (s.loadUnits d slotFor) := by
  unfold State.loadUnits State.modEng
  exact StepFrame.modDie fun _ => rfl

theorem State.packageReset_beside (s : State) (but : Option Nat) :
    (s.packageReset but).dies = s.dies ∧ (s.packageReset but).objs = s.objs := by
  unfold State.packageReset
  split
  · exact ⟨rfl, rfl⟩
  · exact ⟨rfl, rfl⟩

theorem State.trialFault_beside (s : State) : s.trialFault.dies = s.dies ∧ s.trialFault.objs = s.objs := by
  unfold State.trialFault State.startFallback
  dsimp only
  split
  · split
    · exact ⟨rfl, rfl⟩
    · exact State.packageReset_beside _ none
  · exact ⟨rfl, rfl⟩

theorem DieData.reset_media (x : DieData) (kind : ResetKind) (recorded : Nat → Bool) (nonce : Nat) :
    (x.reset kind recorded nonce).media = x.media := by
  unfold DieData.reset
  dsimp only
  split
  · rfl
  · rfl

/-- R580: a die's single reset. -/
theorem State.dieRejoin_spec (s : State) (d : DieId) : ((s.dieRejoin d).die d).data.media = (s.die d).data.media ∧
    ((s.dieRejoin d).die d).life = .starting ∧ ((s.dieRejoin d).die d).rejoining = s.isolated d ∧
    (s.dieRejoin d).get Obj.dieResetResult (dieInst d) = 1 := by
  unfold State.dieRejoin
  obtain ⟨⟨recorded, nonce, hdata⟩, hlife, -⟩ := s.resetDie_spec d .single
  generalize s.resetDie d .single = r at *
  extract_lets up back acorn u v w
  have hput : ∀ (r : State) (o : ObjDef) (i : Nat) (n : Int), (r.put o i n).die d = r.die d := fun _ _ _ _ =>
    (KeptBy.put (f := id) (d := d)).self
  have hu : u.die d = r.die d := hput _ _ _ _
  have hv : v.die d = { u.die d with rejoining := back } := State.modDie_die_self u d _
  have hvback : (v.die d).back = ((s.die d).data.media, .starting, back) := by
    rw [hv, hu]
    simp only [Die.back, hdata, hlife, DieData.reset_media]
  have hvget : v.get Obj.dieResetResult (dieInst d) = 1 := State.getSub_putSub_self ..
  have hw : StepFrame Die.back [Obj.dieResetResult] d v w := by
    by_cases h0 : d.val = 0
    · have hd : d = 0 := Fin.ext h0
      subst hd
      have himaged : StepFrame Die.back [Obj.dieResetResult] 0 v (v.modDie 0 fun x => { x with imaged := true }) :=
        StepFrame.modDie fun _ => rfl
      rw [show w = _ from if_pos h0]
      exact himaged.trans State.loadUnits_back
    · rw [show w = v from if_neg h0]
      exact StepFrame.refl
  have hx : StepFrame Die.back [Obj.dieResetResult] d v (if up && !acorn then w.ringReplay d else w) :=
    hw.trans (StepFrame.ite State.ringReplay_back StepFrame.refl)
  generalize (if up && !acorn then w.ringReplay d else w) = x at hx
  obtain ⟨hdies, hobjs⟩ := x.trialFault_beside
  have hdie : x.trialFault.die d = x.die d := by simp only [State.die, hdies]
  have hself := hx.self.trans hvback
  simp only [Die.back, Prod.mk.injEq] at hself
  obtain ⟨hmedia, hst, hback⟩ := hself
  rw [hdie, State.get_of_objs_eq hobjs]
  exact ⟨hmedia, hst, hback, (hx.objs _ (by simp)).trans hvget⟩

/-! ### The power target -/

/-- What moving the HDA toward its target leaves: the medium and the target. -/
def Die.aim (x : Die) : KMap Sector × PowerState := (x.data.media, x.target)

theorem Die.aim_apart : Apart Die.aim :=
  ⟨fun _ _ => rfl, fun _ _ => rfl, fun _ _ => rfl, fun _ _ _ => rfl, fun _ _ _ _ _ => rfl, fun _ _ => rfl, fun _ _ _ => rfl⟩

/-- R576: the return from Die-sleep keeps the target. -/
theorem State.wakeSleep_aim : ((s.wakeSleep d).die d).aim = (s.die d).aim := by
  unfold State.wakeSleep
  obtain ⟨⟨recorded, nonce, hdata⟩, -⟩ := s.resetDie_spec d .single
  generalize s.resetDie d .single = r at *
  extract_lets aim u
  have hmedia : (u.die d).data.media = (s.die d).data.media :=
    (congrArg Prod.fst State.ringApply_back.self).trans (by rw [Die.back, hdata, DieData.reset_media])
  rw [State.modDie_die_self]
  simp only [Die.aim, hmedia, aim]

theorem State.powerApply_aim : ((s.powerApply d).die d).aim = (s.die d).aim := by
  by_cases hs : (s.die d).power = .dieSleep ∧ (s.die d).target ≠ .dieSleep
  · unfold State.powerApply
    rw [if_pos hs]
    exact State.wakeSleep_aim
  · exact (Wide.powerApply Die.aim_apart (fun _ _ => rfl) hs).across d

end

/-! ### The statement's words -/

theorem Die.lives {kind : ResetKind} {x y : Die} (hl : y.lasting = x.lasting) (hf : y.fresh kind) :
    y.data.media = x.data.media ∧ y.data.log = x.data.log ∧ y.data.checkpoint = x.data.checkpoint ∧
      y.data.acorn = x.data.acorn ∧ y.data.wc = {} ∧ y.life = .starting := by
  simp only [Die.lasting, Prod.mk.injEq] at hl
  obtain ⟨hmedia, hlog, hcp, hacorn⟩ := hl
  obtain ⟨hwc, hlife, -⟩ := hf
  exact ⟨hmedia, hlog, hcp, hacorn, hwc, hlife⟩

/-- The host's side after a reset of the package. -/
def State.Blank (u : State) : Prop := u.slots = {} ∧ u.sqs = {} ∧ u.cqs = {} ∧ u.evtPending = {} ∧ u.errors = [] ∧
  u.host.ready = false ∧ u.host.adminReady = false ∧ u.host.bootReady = false

theorem State.coldStart_spec (s : State) {h : HostRegs} (hh : h.ready = false ∧ h.adminReady = false ∧ h.bootReady = false) :
    (s.coldStart h).Blank ∧ (s.coldStart h).asn = 0 ∧ (s.coldStart h).host = h ∧ (s.coldStart h).msix = {} ∧
    ∀ d, s.fitted d = true → ((s.coldStart h).die d).lasting = (s.die d).lasting ∧ ((s.coldStart h).die d).fresh .cold := by
  obtain ⟨⟨hslots, hsqs, hcqs, hpending, herrors, -⟩, -, hasn, -⟩ :=
    (s.fittedDies.foldl (fun s d => s.resetDie d .cold) s).resetPackage_spec .cold
  have hafter := fun d hd => State.packageAfter_spec (kind := .cold) (by decide) s s.fittedDies (d := d) hd
  unfold State.coldStart
  dsimp only at hafter
  generalize (s.fittedDies.foldl (fun s d => s.resetDie d .cold) s).resetPackage .cold = v at *
  exact ⟨⟨hslots, hsqs, hcqs, hpending, herrors, hh⟩, hasn, rfl, rfl, fun d hd => hafter d ((s.mem_fittedDies d).2 hd)⟩

/-- The block after a warm reset, before its boot (20 R570). -/
def State.warmStart (s : State) : State :=
  let u := ((s.fittedDies.filter fun d => !(s.isolated d)).foldl (fun s d => s.resetDie d .warm) s).resetPackage .warm
  { u with resetStart := u.now }

theorem State.warmReset_eq (s : State) : s.warmReset = s.warmStart.bootRom := rfl

theorem State.warmStart_spec (s : State) : s.warmStart.Blank ∧ s.warmStart.warm = none ∧ s.warmStart.asn = s.asn ∧
    ∀ d, s.fitted d = true → s.isolated d = false →
      (s.warmStart.die d).lasting = (s.die d).lasting ∧ (s.warmStart.die d).fresh .warm := by
  have hafter := fun d hd => State.packageAfter_spec (kind := .warm) (by decide) s
    (s.fittedDies.filter fun d => !(s.isolated d)) (d := d) hd
  obtain ⟨-, -, hsame⟩ := State.resetDies_spec (kind := .warm) (by decide) (s.fittedDies.filter fun d => !(s.isolated d)) s
  unfold State.warmStart
  dsimp only at hafter hsame ⊢
  generalize (s.fittedDies.filter fun d => !(s.isolated d)).foldl (fun s d => s.resetDie d .warm) s = v at *
  obtain ⟨hblank, hwarm, hasn, -⟩ := v.resetPackage_spec .warm
  generalize v.resetPackage .warm = u at *
  exact ⟨hblank, hwarm, hasn.trans hsame, fun d hd hi => hafter d (by simp [State.fittedDies, hd, hi])⟩

theorem State.warmFlush_asn (l : List DieId) (s : State) : (l.foldl State.warmFlush s).asn = s.asn := by
  induction l generalizing s with
  | nil => rfl
  | cons d l ih =>
    refine (ih _).trans ?_
    unfold State.warmFlush
    split
    · rfl
    · rfl

theorem KMap.mem_mapVals {α β : Type} {m : KMap α} {g : Nat → α → β} {e : Nat × β} (h : e ∈ (m.mapVals g).entries) :
    ∃ v, (e.1, v) ∈ m.entries ∧ e.2 = g e.1 v := by
  obtain ⟨p, hp, rfl⟩ := List.mem_map.1 h
  exact ⟨p.2, hp, rfl⟩

/-- R571: from then on the device posts nothing more. -/
theorem State.packageReset_spec {s : State} (hw : s.warm = none) :
    (s.packageReset none).warm = some (s.fittedDies.filter fun d => !(s.isolated d)) ∧ (s.packageReset none).dies = s.dies ∧
    (∀ c ∈ (s.packageReset none).cqs.entries, c.2.held = []) ∧
    ∀ a ∈ (s.packageReset none).slots.entries, a.2.orphan = true ∧ a.2.decided = false := by
  unfold State.packageReset
  rw [if_neg (by simp [hw])]
  refine ⟨rfl, rfl, fun c hc => ?_, fun a ha => ?_⟩
  · obtain ⟨v, -, hv⟩ := KMap.mem_mapVals hc
    rw [hv]
  · obtain ⟨v, hin, hv⟩ := KMap.mem_mapVals ha
    have hopen : v.decided = false := by
      have := (List.mem_filter.1 hin).2
      simpa using this
    rw [hv]
    simp [hopen]

/-- Settles O39: a reset rebuilds a die from what its kind keeps, and nothing that follows in it touches that; the power
target moves the HDA and nothing on it. -/
theorem resetsAndPower : Obligations.ResetsAndPower := by
  unfold Obligations.ResetsAndPower
  intro s anew lives
  have hcold : ∀ h : HostRegs, h.ready = false ∧ h.adminReady = false ∧ h.bootReady = false →
      anew (s.coldStart h) ∧ (s.coldStart h).asn = 0 ∧ (s.coldStart h).host = h ∧ (s.coldStart h).msix = {} ∧
      ∀ d, s.fitted d = true → lives (s.coldStart h) d ∧ ((s.coldStart h).die d).clock.time4 = 0 := fun h hh => by
    obtain ⟨hblank, hasn, hhost, hmsix, hdies⟩ := s.coldStart_spec hh
    refine ⟨hblank, hasn, hhost, hmsix, fun d hd => ?_⟩
    obtain ⟨hlast, hfresh⟩ := hdies d hd
    exact ⟨Die.lives hlast hfresh, hfresh.2.2 rfl⟩
  refine ⟨fun sa boot => ?_, ?_, fun h0 => ?_, fun d hd h0 => ?_, fun d hd hsave hpf => ?_, fun d hd hbusy => ?_, fun d hd => ?_,
    fun hw => ?_, fun ds hw hall => ?_, fun d ds hd hw hin hdest hfrozen => ?_, fun hany hall => ?_, fun d v hd => ?_⟩
  · exact ⟨_, exec_porstNRise s sa boot, hcold _ ⟨rfl, rfl, rfl⟩⟩
  · obtain ⟨hanew, hasn, hhost, -, hdies⟩ := hcold { inReset := true } ⟨rfl, rfl, rfl⟩
    exact Runs.intro (exec_porstNAssert s) ⟨hanew, hasn, hhost, hdies⟩
  · rw [exec_supplyMonitorReset h0]
    rfl
  · obtain ⟨t, hexec, hlast, hfresh, hothers⟩ := supplyMonitorReset_runs hd h0
    exact ⟨t, hexec, Die.lives hlast hfresh, hothers⟩
  · have hexec : exec (.dieResetRejoin d) s = _ := exec_onDie (execDieResetRejoin d s) rfl rfl hd
    obtain ⟨hmedia, hlife, hback, hres⟩ := s.dieRejoin_spec d
    have hnow : s.dieReset1 d = s.dieRejoin d := if_neg (by simp [hsave, hpf])
    rw [hnow] at hexec
    exact Runs.intro hexec ⟨rfl, hmedia, hlife, hback, hres⟩
  · have hexec : exec (.dieResetRejoin d) s = _ := exec_onDie (execDieResetRejoin d s) rfl rfl hd
    have hwait : s.dieReset1 d = (s.put Obj.dieResetResult (dieInst d) 1).modDie d fun x => { x with rejoining := true } :=
      if_pos (by simpa using hbusy)
    have hput : (s.put Obj.dieResetResult (dieInst d) 1).die d = s.die d := (KeptBy.put (f := id) (d := d)).self
    rw [hexec, hwait, State.modDie, hput]
  · have hexec : exec (.dieResetIsolate d) s = _ := exec_onDie (execDieResetIsolate d s) rfl rfl hd
    exact Runs.intro hexec ⟨s.isolate_life d 7, rfl⟩
  · obtain ⟨hwarm, hdies, hheld, hslots⟩ := State.packageReset_spec hw
    exact ⟨_, rfl, hwarm, rfl, hdies, hheld, hslots⟩
  · have hexec : exec .packageWarmReset s = .next (ds.foldl State.warmFlush s).warmStart.bootRom := by
      show Host.Outcome.next (match s.warm with
        | none => s
        | some ds => if ds.all s.destaged then (ds.foldl State.warmFlush s).warmReset else s) = _
      rw [hw]
      exact congrArg Host.Outcome.next (if_pos (List.all_eq_true.2 hall))
    obtain ⟨hblank, hwarm, hasn, -⟩ := (ds.foldl State.warmFlush s).warmStart_spec
    exact ⟨_, hexec, hblank, hwarm, hasn.trans (State.warmFlush_asn ds s)⟩
  · have hexec : exec (.warmResetDestageLimit d) s = _ := exec_onDie (execWarmResetDestageLimit d s) rfl rfl hd
    rw [hexec]
    simp [hw, hin, hdest, hfrozen]
  · have hexec : exec .powerReturn s = .next s.warmStart.bootRom := by
      refine congrArg Host.Outcome.next (if_pos ?_)
      refine Bool.and_eq_true_iff.2 ⟨?_, List.all_eq_true.2 fun d hd => ?_⟩
      · obtain ⟨d, hd, hp⟩ := List.any_eq_true.1 hany
        have hmem : d ∈ s.fittedDies.filter fun d => (s.die d).data.pfail.isSome && !(s.isolated d) :=
          List.mem_filter.2 ⟨hd, hp⟩
        cases hl : s.fittedDies.filter fun d => (s.die d).data.pfail.isSome && !(s.isolated d) with
        | nil => simp [hl] at hmem
        | cons => rfl
      · obtain ⟨hfit, hp⟩ := List.mem_filter.1 hd
        obtain ⟨hpf, hi⟩ := Bool.and_eq_true_iff.1 hp
        obtain ⟨hfrozen, hsaving⟩ := hall d ((s.mem_fittedDies d).1 hfit) (by simpa using hi) hpf
        simp [hfrozen, hsaving]
    obtain ⟨hblank, -, hasn, hdies⟩ := s.warmStart_spec
    refine ⟨_, hexec, hblank, hasn, fun d hd hi => ?_⟩
    obtain ⟨hlast, hfresh⟩ := hdies d hd hi
    exact Die.lives hlast hfresh
  · have hexec : exec (.hdaPowerTargetWrite d v) s = statusCommand d s fun s => s.powerTarget d v.toNat := rfl
    refine ⟨fun hi => hexec.trans (statusCommand_isolated hd hi), fun hi hbad => ?_, fun hi hv h40 => ?_⟩
    · have hno : 4 < v.toNat ∨ (v.toNat = 4 ∧ d.val = 0) := hbad.imp_right fun h => ⟨by rw [h.1]; rfl, h.2⟩
      rw [hexec, statusCommand_answered hd hi, State.powerTarget, if_pos hno]
      rfl
    · have hok : ¬(4 < v.toNat ∨ (v.toNat = 4 ∧ d.val = 0)) := by
        rintro (h | ⟨h4, h0⟩)
        · omega
        · exact h40 ⟨BitVec.eq_of_toNat_eq h4, h0⟩
      rw [statusCommand_answered hd hi, State.powerTarget, if_neg hok] at hexec
      have haim := State.powerApply_aim (s := s.modDie d fun x => { x with target := powerOfCode v.toNat }) (d := d)
      rw [State.modDie_die_self] at haim
      exact Runs.intro hexec ⟨congrArg Prod.snd haim, rfl, congrArg Prod.fst haim⟩

end Sys2Proof.Machine

/-! PROOFS. O40: scrubbing, the leaky buckets and a halted channel (15 R462 to R468). -/

namespace Sys2Proof.Machine

/-! ### The leaky buckets (15 R466) -/

theorem State.getSub_putSub_ne (s : State) (o : ObjDef) {r q i : Nat} {v : Int} (hr : r ≠ q) :
    (s.putSub o r i v).getSub o q i = s.getSub o q i := by
  have hk : objKey o.index q i ≠ objKey o.index r i := by
    simp only [objKey]
    omega
  unfold State.getSub KMap.getD
  rw [State.putSub_find?_ne s o r i v hk]

/-- The leak of the first n buckets. -/
def State.leak (s : State) (i n : Nat) : State :=
  (List.range n).foldl (fun s r => s.putSub Obj.ceBucket r i (max 0 (s.getSub Obj.ceBucket r i - 1))) s

theorem State.leak_spec (s : State) (i n : Nat) : (s.leak i n).dies = s.dies ∧ (s.leak i n).out = s.out ∧
    ∀ r, (s.leak i n).getSub Obj.ceBucket r i =
      if r < n then max 0 (s.getSub Obj.ceBucket r i - 1) else s.getSub Obj.ceBucket r i := by
  induction n with
  | zero => exact ⟨rfl, rfl, fun _ => rfl⟩
  | succ n ih =>
    obtain ⟨hdies, hout, hval⟩ := ih
    have hstep : s.leak i (n + 1) =
        (s.leak i n).putSub Obj.ceBucket n i (max 0 ((s.leak i n).getSub Obj.ceBucket n i - 1)) := by
      rw [State.leak, List.range_succ, List.foldl_append]
      rfl
    rw [hstep]
    refine ⟨(State.putSub_dies ..).trans hdies, (State.putSub_out ..).trans hout, fun r => ?_⟩
    by_cases hr : r = n
    · subst hr
      rw [State.getSub_putSub_self, hval, if_neg (Nat.lt_irrefl r), if_pos (Nat.lt_succ_self r)]
    · rw [State.getSub_putSub_ne _ _ (Ne.symm hr), hval]
      have hiff : r < n + 1 ↔ r < n := by omega
      simp only [hiff]

/-! ### Words that a scrubber reads -/

/-- What reading words leaves of a die: its data and the scrubbers' places. -/
def Die.paced (x : Die) : DieData × Nat × Nat := (x.data, x.mem.onchipPos, x.mem.dramPos)

/-- The same, and UE_SCRUB. -/
def Die.scrubbed (x : Die) : (DieData × Nat × Nat) × Bool := (x.paced, x.mem.ueScrub)

/-- Reading words touches what `f` does not show, and not the scrubbers' quotas. -/
abbrev Scrubs {α : Type} (f : Die → α) (d : DieId) (s t : State) : Prop := StepFrame f [Obj.scrubOnchipWords, Obj.scrubDramWords] d s t

section
variable {α : Type} {f : Die → α} {d : DieId} {s : State} {r : Nat}

/-- A value of a counter of the memory regions is not a quota. -/
theorem Scrubs.putSub {o : ObjDef} {v : Int} (ho : Obj.scrubDramWords.index < o.index) (hr : r < 256) :
    Scrubs f d s (s.putSub o r (dieInst d) v) := by
  refine ⟨KeptBy.putSub, State.putSub_host .., State.putSub_rest .., fun p hp => ?_⟩
  refine State.putSub_get_ne s (objKey_ne ?_ (dieInst_lt d) (dieInst_lt d))
  have hindex : p.index = 0x4100 ∧ p.sub < 3 := by
    revert p
    decide
  have hdram : Obj.scrubDramWords.index = 0x4100 := rfl
  omega

variable (hobs : ∀ x o, f { x with obs := o } = f x)
include hobs

theorem Scrubs.corrected {addr : BitVec 64} (hr : r < 256) (hf : ∀ x, f { x with mem := { x.mem with ceThreshold := true } } = f x) :
    Scrubs f d s (s.corrected d r addr) := by
  unfold State.corrected
  have hcount : Scrubs f d s ((s.bumpSub Obj.ceCount r (dieInst d)).bumpSub Obj.ceBucket r (dieInst d)) :=
    (Scrubs.putSub (by decide) hr).trans (Scrubs.putSub (by decide) hr)
  have hraise : ∀ (u : State) (data : List (Nat × Int)), Scrubs f d u (u.raise d Ev.memCeThreshold data) := fun u data =>
    StepFrame.raise hobs (by decide) (.inl (by decide))
  have hmem : ∀ u : State, Scrubs f d u (u.modMem d fun m => { m with ceThreshold := true }) := fun u => StepFrame.modDie hf
  exact StepFrame.ite (((hcount.trans (Scrubs.putSub (by decide) hr)).trans (hmem _)).trans (hraise _ _)) hcount

theorem Scrubs.found {w : BadWord} {consumer : Nat} {k : EventKind} {data : List (Nat × Int)} (hk : k.src ≠ 119) :
    Scrubs f d s ((s.foundUe d consumer w).raise d k data) := by
  have hfound : Scrubs f d s (s.foundUe d consumer w) :=
    (Scrubs.putSub (by decide) (by omega)).trans ⟨KeptBy.of_dies rfl, rfl, rfl, fun _ _ => rfl⟩
  exact hfound.trans (StepFrame.raise hobs (by decide) (.inl hk))

end

section
variable {d : DieId} {s : State}

theorem Scrubs.paced_of_scrubbed {t : State} (h : Scrubs Die.scrubbed d s t) : Scrubs Die.paced d s t :=
  ⟨⟨congrArg Prod.fst h.self, h.others⟩, h.host, h.rest, h.objs⟩

/-- A word that is not uncorrectable leaves UE_SCRUB. -/
theorem State.scrubWord_scrubbed {w : ScrubWord} (hw : w.outcome ≠ .uncorrectable) :
    Scrubs Die.scrubbed d s (s.scrubWord d w) := by
  have hobs : ∀ (x : Die) (o : ObsState), ({ x with obs := o } : Die).scrubbed = x.scrubbed := fun _ _ => rfl
  unfold State.scrubWord
  extract_lets key clean
  have hclean : Scrubs Die.scrubbed d s (clean s) := StepFrame.modDie fun _ => rfl
  cases h : w.outcome with
  | correct => exact hclean
  | corrected => exact hclean.trans (Scrubs.corrected hobs (by omega) fun _ => rfl)
  | poisoned => exact StepFrame.bump (by decide) (dieInst_lt d)
  | uncorrectable => exact absurd h hw

/-- R464, R465: an uncorrectable word is reported and sets UE_SCRUB, and no word clears it. -/
theorem State.scrubWord_spec (w : ScrubWord) : Scrubs Die.paced d s (s.scrubWord d w) ∧
    ((s.die d).mem.ueScrub = true ∨ w.outcome = .uncorrectable → ((s.scrubWord d w).die d).mem.ueScrub = true) := by
  by_cases hw : w.outcome = .uncorrectable
  · unfold State.scrubWord
    simp only [hw]
    generalize hu : s.modMem d _ = u
    have hsu : Scrubs Die.paced d s u := hu ▸ StepFrame.modDie fun _ => rfl
    have hset : (u.die d).mem.ueScrub = true := by
      rw [← hu]
      exact congrArg (fun x => x.mem.ueScrub) (State.modDie_die_self s d _)
    have hfound : Scrubs Die.scrubbed d u ((u.foundUe d 0 ⟨w.region, w.addr, false, w.syndrome⟩).raise d Ev.memUeScrub
        [(1, (w.region.val : Int)), (8, (w.addr.toNat : Int))]) := Scrubs.found (fun _ _ => rfl) (by decide)
    exact ⟨hsu.trans hfound.paced_of_scrubbed, fun _ => (congrArg Prod.snd hfound.self).trans hset⟩
  · have hkept := State.scrubWord_scrubbed (s := s) (d := d) hw
    exact ⟨hkept.paced_of_scrubbed, fun h => (congrArg Prod.snd hkept.self).trans (h.resolve_right hw)⟩

theorem State.scrubWords_spec (l : List ScrubWord) (s : State) : Scrubs Die.paced d s (l.foldl (fun s w => s.scrubWord d w) s) ∧
    ((s.die d).mem.ueScrub = true ∨ (∃ w ∈ l, w.outcome = .uncorrectable) →
      ((l.foldl (fun s w => s.scrubWord d w) s).die d).mem.ueScrub = true) := by
  induction l generalizing s with
  | nil => exact ⟨StepFrame.refl, fun h => h.resolve_right (by simp)⟩
  | cons w l ih =>
    obtain ⟨hword, hset⟩ := State.scrubWord_spec (s := s) (d := d) w
    obtain ⟨hrest, hkeep⟩ := ih (s.scrubWord d w)
    refine ⟨hword.trans hrest, fun h => hkeep ?_⟩
    rcases h with h | ⟨v, hv, hbad⟩
    · exact .inl (hset (.inl h))
    · rcases List.mem_cons.1 hv with rfl | hv
      · exact .inl (hset (.inr hbad))
      · exact .inr ⟨v, hv, hbad⟩

/-- R462, R463: the on-chip scrubber's quota. -/
theorem State.scrubOnchip_spec (ws : List ScrubWord) (hn : 0 < s.getN Obj.scrubOnchipWords (dieInst d))
    (ht : 0 < rangeWords (scrubOnchip (s.die d).mem)) :
    let t := s.scrubSide d false ws
    let n := s.getN Obj.scrubOnchipWords (dieInst d)
    t.getN Obj.scrubDramWords (dieInst d) = s.getN Obj.scrubDramWords (dieInst d) ∧
    (t.die d).mem.onchipPos = ((s.die d).mem.onchipPos + n) % rangeWords (scrubOnchip (s.die d).mem) ∧
    (t.die d).mem.dramPos = (s.die d).mem.dramPos ∧
    ((∃ w ∈ ws.take n, w.outcome = .uncorrectable) → (t.die d).mem.ueScrub = true) ∧
    (t.die d).data = (s.die d).data ∧ ∀ e, e ≠ d → t.die e = s.die e := by
  unfold State.scrubSide
  simp only [Bool.false_eq_true, if_false]
  rw [if_neg (by omega)]
  generalize hu : s.modMem d _ = u
  have hsu : Scrubs Die.paced d s u := hu ▸ StepFrame.modDie fun _ => rfl
  obtain ⟨hwords, hset⟩ := State.scrubWords_spec (d := d) (ws.take (s.getN Obj.scrubOnchipWords (dieInst d))) u
  generalize List.foldl (fun s w => s.scrubWord d w) u _ = v at *
  generalize rangeWords (scrubOnchip (s.die d).mem) = total at *
  have hsv := hsu.trans hwords
  have hself := hsv.self
  simp only [Die.paced, Prod.mk.injEq] at hself
  obtain ⟨hdata, honchip, hdram⟩ := hself
  generalize hw : (if (v.die d).mem.onchipPos + s.getN Obj.scrubOnchipWords (dieInst d) < total then v else v.bump _ _ _) = w
  have hvw : Scrubs Die.scrubbed d v w := hw ▸ StepFrame.ite StepFrame.refl (StepFrame.bump (by decide) (dieInst_lt d))
  have hdie : w.die d = v.die d := by
    rw [← hw]
    split
    · rfl
    · exact (KeptBy.bump (f := id) (d := d)).self
  have hget : w.get Obj.scrubDramWords (dieInst d) = s.get Obj.scrubDramWords (dieInst d) :=
    (hsv.trans hvw.paced_of_scrubbed).objs _ (by simp)
  refine ⟨congrArg Int.toNat hget, ?_, ?_, fun hbad => ?_, ?_, fun e he => ?_⟩
  · rw [State.modMem, State.modDie_die_self, honchip]
  · rw [State.modMem, State.modDie_die_self, hdie, hdram]
  · rw [State.modMem, State.modDie_die_self, hdie]
    exact hset (.inr hbad)
  · rw [State.modMem, State.modDie_die_self, hdie, hdata]
  · rw [State.modMem, State.modDie_die_ne _ _ _ _ he, hvw.others e he, hsv.others e he]

theorem State.scrubSide_idle {dram : Bool} {ws : List ScrubWord}
    (h : s.getN (if dram then Obj.scrubDramWords else Obj.scrubOnchipWords) (dieInst d) = 0) : s.scrubSide d dram ws = s :=
  if_pos (.inl h)

end

/-! ### Words that demand reads corrected (15 R465, R466) -/

theorem State.demandCorrected_spec {s : State} {d : DieId} (w : ScrubWord) :
    let t := s.demandCorrected d w
    t.getN Obj.scrubOnchipWords (dieInst d) = s.getN Obj.scrubOnchipWords (dieInst d) ∧
    t.getN Obj.scrubDramWords (dieInst d) = s.getN Obj.scrubDramWords (dieInst d) ∧
    ((s.die d).mem.corrQ.length < 16 → (t.die d).mem.corrQ = (s.die d).mem.corrQ ++ [(w.region.val, w.addr)]) ∧
    (16 ≤ (s.die d).mem.corrQ.length → (t.die d).mem.corrQ = (s.die d).mem.corrQ) ∧ (t.die d).data = (s.die d).data := by
  have hcorr : Scrubs (fun x => (x.data, x.mem.corrQ)) d s (s.corrected d w.region.val w.addr) :=
    Scrubs.corrected (fun _ _ => rfl) (by omega) fun _ => rfl
  unfold State.demandCorrected
  dsimp only
  generalize s.corrected d w.region.val w.addr = u at *
  have hself := hcorr.self
  simp only [Prod.mk.injEq] at hself
  obtain ⟨hdata, hqueue⟩ := hself
  have hq : ∀ t : State, Scrubs (fun _ => ()) d u t →
      t.getN Obj.scrubOnchipWords (dieInst d) = s.getN Obj.scrubOnchipWords (dieInst d) ∧
      t.getN Obj.scrubDramWords (dieInst d) = s.getN Obj.scrubDramWords (dieInst d) := fun t ht =>
    ⟨congrArg Int.toNat ((ht.objs _ (by simp)).trans (hcorr.objs _ (by simp))),
      congrArg Int.toNat ((ht.objs _ (by simp)).trans (hcorr.objs _ (by simp)))⟩
  rw [hqueue]
  split
  · next hfull =>
    have hdie : (u.bump Obj.cqDropped (dieInst d)).die d = u.die d := (KeptBy.bump (f := id) (d := d)).self
    obtain ⟨hon, hdram⟩ := hq _ (StepFrame.bump (o := Obj.cqDropped) (by decide) (dieInst_lt d))
    exact ⟨hon, hdram, fun h => absurd h (by omega), fun _ => by rw [hdie, hqueue], by rw [hdie, hdata]⟩
  · next hroom =>
    obtain ⟨hon, hdram⟩ := hq _ (StepFrame.modDie (g := fun x => { x with mem := { x.mem with
      corrQ := x.mem.corrQ ++ [(w.region.val, w.addr)] } }) fun _ => rfl)
    refine ⟨hon, hdram, fun _ => ?_, fun h => absurd h hroom, ?_⟩
    · rw [State.modMem, State.modDie_die_self]
      exact congrArg (· ++ [(w.region.val, w.addr)]) hqueue
    · rw [State.modMem, State.modDie_die_self, hdata]

/-! ### A halted channel (15 R467, R468) -/

section
variable {s : State} {d : DieId} {b : Nat}

/-- The clean versions of a block are dropped from the caches. -/
def DieData.dropClean (b : Nat) (x : DieData) : DieData :=
  let vs := (x.wc.getD b []).filter fun v => v.dirty || v.staging
  { x with rc := x.rc.erase b, wc := if vs.isEmpty then x.wc.erase b else x.wc.insert b vs }

theorem State.dmaLost_cleanBlock (s : State) (d : DieId) (b : Nat) :
    s.dmaLost d (.cleanBlock b) = s.modData d (DieData.dropClean b) := rfl

theorem State.dropClean_wc (s : State) (d : DieId) (b : Nat) :
    (s.dmaLost d (.cleanBlock b)).versions d b = (s.versions d b).filter fun v => v.dirty || v.staging := by
  unfold State.versions
  rw [State.dmaLost_cleanBlock, State.modData_die_self, DieData.dropClean]
  dsimp only
  split
  · next hempty => rw [KMap.getD, KMap.find?_erase_self, List.isEmpty_iff.1 hempty]; rfl
  · exact KMap.getD_insert_self ..

theorem dmaUncorrectable_cleanBlock (hd : s.fitted d = true) (w : BadWord) : Runs (.dmaUncorrectable d w (.cleanBlock b)) s fun t =>
    (t.die d).data.rc.find? b = none ∧ (∀ c, c ≠ b → (t.die d).data.rc.find? c = (s.die d).data.rc.find? c) ∧
    t.versions d b = (s.versions d b).filter (fun v => v.dirty || v.staging) ∧
    (t.die d).data.media = (s.die d).data.media ∧
    (t.die d).mem.ueDma = true ∧ Logged d Ev.memUeDma.src Ev.memUeDma s t ∧ ∀ e, e ≠ d → t.die e = s.die e := by
  have hexec : exec (.dmaUncorrectable d w (.cleanBlock b)) s = _ :=
    exec_onDie (execDmaUncorrectable d w (.cleanBlock b) s) rfl rfl hd
  generalize hu : s.modMem d (fun m => { m with ueDma := true }) = u at hexec
  have hudie : u.die d = { s.die d with mem := { (s.die d).mem with ueDma := true } } := by
    rw [← hu, State.modMem, State.modDie_die_self]
  have huothers : ∀ e, e ≠ d → u.die e = s.die e := fun e he => by rw [← hu, State.modMem, State.modDie_die_ne _ _ _ _ he]
  have hfound : ∀ e, (u.foundUe d 2 w).die e = u.die e := fun e => (KeptBy.putSub (f := id) (d := e)).self
  generalize u.foundUe d 2 w = v at hexec hfound
  have hraise : KeptBy (fun x => (x.data, x.mem)) d v (v.raise d Ev.memUeDma) := KeptBy.raise (fun _ _ => rfl) (.inl (by decide))
  have hlog : ∀ t : State, (t.die d).obs = ((v.raise d Ev.memUeDma).die d).obs → Logged d Ev.memUeDma.src Ev.memUeDma s t :=
    fun t ht => State.raise_logs v Ev.memUeDma [] (.inl (by decide)) (by decide) (by rw [hfound, hudie]) (by rw [hfound, hudie]) ht
  generalize v.raise d Ev.memUeDma = x at hexec hraise hlog
  have hself := hraise.self
  simp only [hfound, hudie, Prod.mk.injEq] at hself
  obtain ⟨hdata, hmem⟩ := hself
  have hver : x.versions d b = s.versions d b := by rw [State.versions, hdata, State.versions]
  have hend : (x.dmaLost d (.cleanBlock b)).die d = { x.die d with data := (x.die d).data.dropClean b } := by
    rw [State.dmaLost_cleanBlock, State.modData_die_self]
  refine Runs.intro hexec ⟨?_, fun c hc => ?_, ?_, ?_, ?_, hlog _ ?_, fun e he => ?_⟩
  · rw [hend]
    exact KMap.find?_erase_self _ _
  · rw [hend, ← hdata]
    exact KMap.find?_erase_ne _ hc
  · rw [State.dropClean_wc, hver]
  · rw [hend, ← hdata]
    rfl
  · rw [hend]
    exact congrArg MemState.ueDma hmem
  · rw [hend]
  · rw [State.dmaLost, State.modData_die_ne _ _ _ _ he, hraise.others e he, hfound, huothers e he]

end

/-- Settles O40: the leak bucket by bucket; a scrubber's quota word by word; a halted channel by what it carried. -/
theorem scrubAndHaltedDma : Obligations.ScrubAndHaltedDma := by
  unfold Obligations.ScrubAndHaltedDma
  intro s d hd x i
  have hleak : exec (.ceLeakTick d) s = .next (s.leak i 10) := by
    have hexec : exec (.ceLeakTick d) s = _ := exec_onDie (execCeLeakTick d s) rfl rfl hd
    unfold State.leak
    exact hexec
  have hscrub : ∀ onchip dram demand, exec (.scrubTick d onchip dram demand) s = _ := fun onchip dram demand =>
    exec_onDie (execScrubTick d onchip dram demand s) rfl rfl hd
  dsimp only at hscrub
  refine ⟨?_, fun onchip hdram hn ht => ?_, fun onchip dram w hdram hon hw => ?_, fun w b => dmaUncorrectable_cleanBlock hd w⟩
  · obtain ⟨hdies, hout, hval⟩ := s.leak_spec i 10
    exact Runs.intro hleak ⟨hdies, hout, fun r hr => (hval r).trans (if_pos hr)⟩
  · obtain ⟨hquota, hspec⟩ := State.scrubOnchip_spec onchip hn ht
    have hidle : (s.scrubSide d false onchip).scrubSide d true [] = s.scrubSide d false onchip :=
      State.scrubSide_idle (hquota.trans hdram)
    have hnone := hscrub onchip [] []
    simp only [List.filter_nil, List.foldl_nil, hidle] at hnone
    exact Runs.intro hnone hspec
  · have hone := hscrub onchip dram [w]
    simp only [hw, beq_self_eq_true, List.filter_cons_of_pos, List.filter_nil, List.foldl_cons, List.foldl_nil] at hone
    obtain ⟨hon', hdram', hqueue, hfull, hdata⟩ := State.demandCorrected_spec (s := s) (d := d) w
    rw [State.scrubSide_idle (dram := false) (hon'.trans hon), State.scrubSide_idle (dram := true) (hdram'.trans hdram)] at hone
    exact Runs.intro hone ⟨hqueue, hfull, hdata⟩

end Sys2Proof.Machine

/-! PROOFS. O41: the requests of the map cache (15 R472 to R478, R480). -/

namespace Sys2Proof.Machine

/-! ### Lines and their ways -/

section
variable {m : MemState} {off w : Nat}

/-- A line that is held is in a way of its set that is valid and has its tag. -/
theorem MemState.look_spec (h : m.look off = some w) : ((m.set (lineSet off)).way w).valid = true ∧
    ((m.set (lineSet off)).way w).tag = lineTag off ∧ w < (m.set (lineSet off)).ways.length := by
  have hw := List.find?_some h
  obtain ⟨hvalid, htag⟩ := Bool.and_eq_true_iff.1 hw
  refine ⟨hvalid, by simpa using htag, ?_⟩
  by_contra hlen
  have hnone : (m.set (lineSet off)).way w = {} := List.getD_eq_default _ _ (Nat.le_of_not_lt hlen)
  rw [hnone] at hvalid
  exact absurd hvalid (by decide)

theorem MemState.set_putSet_self (i : Nat) (c : CacheSet) : (m.putSet i c).set i = c := KMap.getD_insert_self ..

theorem MemState.set_putSet_ne {i j : Nat} (c : CacheSet) (h : j ≠ i) : (m.putSet i c).set j = m.set j :=
  KMap.getD_insert_ne _ _ _ h

/-- A set with the same ways holds the same lines. -/
theorem MemState.look_putSet {c : CacheSet} (h : c.ways = (m.set (lineSet off)).ways) :
    (m.putSet (lineSet off) c).look off = m.look off := by
  unfold MemState.look
  rw [MemState.set_putSet_self]
  simp only [CacheSet.way, h]

/-- R473: a use of a line touches the order of its set, and nothing of its ways. -/
theorem MemState.touch_spec (h : m.look off = some w) : ∃ c : CacheSet, c.ways = (m.set (lineSet off)).ways ∧
    m.touch off = m.putSet (lineSet off) c := by
  unfold MemState.touch
  rw [h]
  exact ⟨{ m.set (lineSet off) with plru := plruTouch (m.set (lineSet off)).plru w }, rfl, rfl⟩

theorem MemState.look_touch (h : m.look off = some w) : (m.touch off).look off = some w := by
  obtain ⟨c, hc, ht⟩ := MemState.touch_spec h
  rw [ht, MemState.look_putSet hc, h]

theorem MemState.way_setWay {i : Nat} {x : Way} (h : w < (m.set i).ways.length) : ((m.setWay i w x).set i).way w = x := by
  rw [MemState.setWay, MemState.set_putSet_self, CacheSet.way]
  simp [h]

/-- R472: the entry is in its line, dirty since the record's JSEQ unless it was dirty before. -/
theorem MemState.writeEntry_spec (h : m.look off = some w) (jseq : BitVec 32) (v : BitVec 128) :
    let x := (m.set (lineSet off)).way w
    let t := m.writeEntry off jseq v
    let y := (t.set (lineSet off)).way w
    y.entries = x.entries.set (off / 16 % 4) v ∧ y.dirty = true ∧ y.valid = true ∧ y.tag = lineTag off ∧
      y.dirtyJseq = (if x.dirty then x.dirtyJseq else jseq) ∧ t.area = m.area := by
  obtain ⟨hvalid, htag, hlen⟩ := MemState.look_spec h
  unfold MemState.writeEntry
  simp only [h]
  rw [MemState.way_setWay hlen]
  exact ⟨rfl, rfl, hvalid, htag, rfl, rfl⟩

/-! ### Lines on their way to DRAM -/

theorem MemState.putArea_beside (n : Nat) (v : BitVec 128) :
    (m.putArea n v).evict = m.evict ∧ (m.putArea n v).invRanges = m.invRanges := ⟨rfl, rfl⟩

theorem MemState.toDram_beside (es : List (BitVec 128)) :
    (m.toDram off es).evict = m.evict ∧ (m.toDram off es).invRanges = m.invRanges := by
  unfold MemState.toDram
  generalize List.range 4 = l
  induction l generalizing m with
  | nil => exact ⟨rfl, rfl⟩
  | cons i l ih => exact ih

theorem MemState.goOn_of_none (h : m.invRanges = []) : m.goOn = m := by
  unfold MemState.goOn
  generalize m.sets.entries.length * 8 + m.side.length + m.invRanges.length = n
  cases n with
  | zero => rfl
  | succ n => simp only [MemState.invalidate, h]

/-- R474: the oldest eviction of its line reaches DRAM. -/
theorem MemState.evictDone_spec {k : Nat} {l : Line} (hk : m.evict.getD k none = some l) (hinv : m.invRanges = [])
    (hold : ∀ l', some l' ∈ m.evict → l'.off = l.off → l.seq ≤ l'.seq) : m.evictDone k =
      { m.toDram l.off l.entries with evict := m.evict.set k none, invWait := m.invWait.filter fun n => n != l.seq } := by
  unfold MemState.evictDone
  simp only [hk]
  obtain ⟨-, hbeside⟩ := MemState.toDram_beside (m := m) (off := l.off) l.entries
  generalize m.toDram l.off l.entries = t at *
  rw [if_neg]
  · exact MemState.goOn_of_none (hbeside.trans hinv)
  · intro hany
    obtain ⟨e, he, hless⟩ := List.any_eq_true.1 hany
    cases e with
    | none => exact absurd hless (by simp)
    | some l' =>
      simp only [Bool.and_eq_true, beq_iff_eq, decide_eq_true_eq] at hless
      have := hold l' he hless.1
      omega

/-- R477: no line of the tag stays locked. -/
theorem CacheSet.unlock_spec (c : CacheSet) (tag : BitVec 15) {v : Way}
    (hv : v ∈ c.ways.map fun w => if w.tag = tag then { w with lock := false } else w) (ht : v.tag = tag) : v.lock = false := by
  obtain ⟨w, -, rfl⟩ := List.mem_map.1 hv
  by_cases h : w.tag = tag
  · simp [h]
  · rw [if_neg h] at ht
    exact absurd ht h

end

/-! ### The commands -/

section
variable {s : State} {d : DieId} {off w : Nat}

theorem State.mapCount_gives {cs : List ObjDef} {x : Die} {t : State} (h : Gives cs d x s t) {k : Nat} {o : ObjDef}
    (hk : [Obj.mapHits, Obj.mapMisses, Obj.mapSideHits, Obj.mapEvictHits].getD k Obj.mapHits = o) (ho : o ∈ cs) :
    Gives cs d x s (t.mapCount d k) := by
  unfold State.mapCount
  rw [hk]
  exact (h.bump ho (dieInst_lt d)).count

theorem State.mapFetch_hit (h : (s.die d).mem.look off = some w) : ∃ t, s.mapFetch d off = some t ∧
    Gives [Obj.mapHits] d { s.die d with mem := (s.die d).mem.touch off } s t := by
  unfold State.mapFetch
  simp only [h]
  exact ⟨_, rfl, State.mapCount_gives (Gives.refl.setDie) rfl (by simp)⟩

theorem State.mapFetch_miss {m' : MemState} (hlook : (s.die d).mem.look off = none)
    (hev : (s.die d).mem.lookEvict off = none) (hside : (s.die d).mem.lookSide off = none) (hpool : inPool off = false)
    (hin : (s.die d).mem.install off ((s.die d).mem.fromDram off) = some m') : ∃ t, s.mapFetch d off = some t ∧
    Gives [Obj.mapMisses] d { s.die d with mem := m' } s t := by
  unfold State.mapFetch
  simp only [hlook, hev, hside, hin, hpool, Bool.false_and, Bool.false_eq_true, if_false, Option.map_some]
  exact ⟨_, rfl, State.mapCount_gives (Gives.refl.setDie) rfl (by simp)⟩

theorem State.mapFetch_waits (hlook : (s.die d).mem.look off = none)
    (hev : (s.die d).mem.lookEvict off = none) (hside : (s.die d).mem.lookSide off = none)
    (hin : (s.die d).mem.install off ((s.die d).mem.fromDram off) = none) : s.mapFetch d off = none := by
  unfold State.mapFetch
  simp only [hlook, hev, hside, hin, Option.map_none]

theorem State.mapBad_good : s.mapBad d off .good = s := by
  unfold State.mapBad
  rfl

variable (hd : s.fitted d = true)
include hd

theorem exec_mapCacheRequest_beside (hc : cacheable off = false) (v : BitVec 128) (chk : MapCheck) :
    exec (.mapCacheRequest d off (some v) chk) s = .next (s.modMem d fun m => m.putArea (off / 16) v) := by
  have hexec : exec (.mapCacheRequest d off (some v) chk) s = _ :=
    exec_onDie (execMapCacheRequest d off (some v) chk s) rfl rfl hd
  simpa [hc] using hexec

section
variable (hc : cacheable off = true)
include hc

theorem exec_mapCacheRequest_refused (v : BitVec 128) (chk : MapCheck)
    (hbad : entryCrc (v.setWidth 112) ≠ (v >>> 112).toNat) :
    exec (.mapCacheRequest d off (some v) chk) s = .next (s.corrected d 8 (BitVec.ofNat 64 off)) := by
  have hexec : exec (.mapCacheRequest d off (some v) chk) s = _ :=
    exec_onDie (execMapCacheRequest d off (some v) chk s) rfl rfl hd
  simp only [hc, hbad, ne_eq, not_false_eq_true, decide_true, Bool.not_true, Bool.false_eq_true, if_false, if_true] at hexec
  exact hexec

theorem exec_mapCacheRequest_good (wr : Option (BitVec 128))
    (hgood : ∀ v, wr = some v → entryCrc (v.setWidth 112) = (v >>> 112).toNat) :
    exec (.mapCacheRequest d off wr .good) s = .next (s.mapServe d off wr .good) := by
  have hexec : exec (.mapCacheRequest d off wr .good) s = _ := exec_onDie (execMapCacheRequest d off wr .good s) rfl rfl hd
  cases wr with
  | none =>
    simp only [hc, Bool.not_true, Bool.false_eq_true, if_false] at hexec
    exact hexec
  | some v =>
    have hcrc := hgood v rfl
    simp only [hc, hcrc, ne_eq, not_true_eq_false, decide_false, Bool.not_true, Bool.false_eq_true, if_false] at hexec
    exact hexec

/-- R473: a read of a line that is held. -/
theorem mapCacheRequest_hit (hlook : (s.die d).mem.look off = some w) : Runs (.mapCacheRequest d off none .good) s fun t =>
    Gives [Obj.mapHits] d { s.die d with mem := (s.die d).mem.touch off } s t ∧ (t.die d).mem.look off = some w := by
  have hexec := exec_mapCacheRequest_good hd hc none (by simp)
  obtain ⟨t, ht, hgives⟩ := State.mapFetch_hit hlook
  simp only [State.mapServe, ht, State.mapBad_good] at hexec
  have hmem : (t.die d).mem = (s.die d).mem.touch off := hgives.mem
  refine Runs.intro hexec ⟨hgives, ?_⟩
  rw [hmem, MemState.look_touch hlook]

/-- R472: a write of an entry with a good CRC to a line that is held. -/
theorem mapCacheRequest_write (hlook : (s.die d).mem.look off = some w) (v : BitVec 128)
    (hgood : entryCrc (v.setWidth 112) = (v >>> 112).toNat) : Runs (.mapCacheRequest d off (some v) .good) s fun t =>
      let x := ((s.die d).mem.set (lineSet off)).way w
      let y := ((t.die d).mem.set (lineSet off)).way w
      y.entries = x.entries.set (off / 16 % 4) v ∧ y.dirty = true ∧ y.valid = true ∧ y.tag = lineTag off ∧
      y.dirtyJseq = (if x.dirty then x.dirtyJseq else BitVec.ofNat 32 (s.die d).data.tail) ∧
      (t.die d).mem.area = (s.die d).mem.area ∧ (t.die d).data = (s.die d).data ∧ ∀ e, e ≠ d → t.die e = s.die e := by
  have hexec := exec_mapCacheRequest_good hd hc (some v) (by rintro _ ⟨⟩; exact hgood)
  obtain ⟨u, hu, hgives⟩ := State.mapFetch_hit hlook
  simp only [State.mapServe, hu] at hexec
  have hmem : (u.die d).mem = (s.die d).mem.touch off := hgives.mem
  have hdata : (u.die d).data = (s.die d).data := hgives.data
  have hothers : ∀ e, e ≠ d → u.die e = s.die e := fun e he => hgives.die_ne he
  rw [hdata] at hexec
  obtain ⟨c, hways, ht⟩ := MemState.touch_spec hlook
  have hspec := MemState.writeEntry_spec (MemState.look_touch hlook) (BitVec.ofNat 32 (s.die d).data.tail) v
  have hway : (((s.die d).mem.touch off).set (lineSet off)).way w = ((s.die d).mem.set (lineSet off)).way w := by
    rw [ht, MemState.set_putSet_self]
    simp only [CacheSet.way, hways]
  have harea : ((s.die d).mem.touch off).area = (s.die d).mem.area := by
    rw [ht]
    rfl
  simp only [hway, harea] at hspec
  obtain ⟨hentries, hdirty, hvalid, htag, hjseq, hsame⟩ := hspec
  refine Runs.intro hexec ?_
  dsimp only
  rw [State.modMem, State.modDie_die_self]
  simp only [hmem]
  refine ⟨hentries, hdirty, hvalid, htag, hjseq, hsame, hdata, fun e he => ?_⟩
  rw [State.modDie_die_ne _ _ _ _ he, hothers e he]

end

/-- R477: a line in the cache takes a lock; a third in its set is refused. -/
theorem exec_mapLineLock (hc : cacheable off = true) (hlook : (s.die d).mem.look off = some w)
    (hheld : (((s.die d).mem.set (lineSet off)).ways.any fun v => v.lock && v.tag == lineTag off) = false)
    (hlocked : ((s.die d).mem.set (lineSet off)).locked < 2) : exec (.mapLineLock d off) s =
      .next (s.modMem d fun m => m.setWay (lineSet off) w { (m.set (lineSet off)).way w with lock := true }) := by
  have hexec : exec (.mapLineLock d off) s = _ := exec_onDie (execMapLineLock d off s) rfl rfl hd
  have hfew : decide (2 ≤ ((s.die d).mem.set (lineSet off)).locked) = false := decide_eq_false (by omega)
  simp only [hc, hheld, hfew, hlook, Bool.not_true, Bool.or_false, Bool.false_eq_true, if_false, Option.isSome_some,
    if_true] at hexec
  exact hexec

theorem exec_mapLineLock_refused (hlocked : 2 ≤ ((s.die d).mem.set (lineSet off)).locked) :
    exec (.mapLineLock d off) s = .next s := by
  have hexec : exec (.mapLineLock d off) s = _ := exec_onDie (execMapLineLock d off s) rfl rfl hd
  simp only [hlocked, decide_true, Bool.or_true, if_true] at hexec
  exact hexec

/-- R477: the line's lock goes; the other sets stay. -/
theorem mapLineUnlock_runs : Runs (.mapLineUnlock d off) s fun t =>
    (∀ v ∈ ((t.die d).mem.set (lineSet off)).ways, v.tag = lineTag off → v.lock = false) ∧
    (t.die d).mem.area = (s.die d).mem.area ∧ ∀ j, j ≠ lineSet off → (t.die d).mem.set j = (s.die d).mem.set j := by
  have hexec : exec (.mapLineUnlock d off) s = _ := exec_onDie (execMapLineUnlock d off s) rfl rfl hd
  refine Runs.intro hexec ?_
  dsimp only
  rw [State.modMem, State.modDie_die_self]
  dsimp only
  by_cases hany : (((s.die d).mem.set (lineSet off)).ways.any fun w => w.lock && w.tag == lineTag off) = true
  · rw [if_pos hany]
    refine ⟨fun v hv ht => ?_, rfl, fun j hj => MemState.set_putSet_ne _ hj⟩
    rw [MemState.set_putSet_self] at hv
    exact CacheSet.unlock_spec _ _ hv ht
  · rw [if_neg hany]
    refine ⟨fun v hv ht => ?_, rfl, fun _ _ => rfl⟩
    cases hl : v.lock with
    | false => rfl
    | true => exact absurd (List.any_eq_true.2 ⟨v, hv, by simp [hl, ht]⟩) hany

end

/-- Settles O41: what a request makes of its set is said by the laws of lookup, touch and write of a line. -/
theorem mapCacheRequests : Obligations.MapCacheRequests := by
  unfold Obligations.MapCacheRequests
  intro s d off hd x m i mem
  refine ⟨fun v chk hc => exec_mapCacheRequest_beside hd hc v chk, fun v chk hc hbad =>
    exec_mapCacheRequest_refused hd hc v chk hbad, fun w hc hw => mapCacheRequest_hit hd hc hw, fun w v hc hw hgood =>
    mapCacheRequest_write hd hc hw v hgood, fun m' hc hlook hev hside hpool hin => ?_,
    fun hc hlook hev hside hin => ?_, fun hc hlook hev hside => ?_, fun k l hk hinv hold => ?_,
    fun w hc hw hheld hlocked => exec_mapLineLock hd hc hw hheld hlocked, fun hlocked => exec_mapLineLock_refused hd hlocked,
    mapLineUnlock_runs hd, fun start len h1 h2 h3 => ?_, fun start len h => ?_⟩
  · have hgo := exec_mapCacheRequest_good hd hc none (by simp)
    obtain ⟨t, ht, hgives⟩ := State.mapFetch_miss hlook hev hside hpool hin
    simp only [State.mapServe, ht, State.mapBad_good] at hgo
    exact Runs.intro hgo hgives
  · have hgo := exec_mapCacheRequest_good hd hc none (by simp)
    simp only [State.mapServe, State.mapFetch_waits hlook hev hside hin] at hgo
    exact hgo
  · have hexec : exec (.mapPrefetch d off) s = _ := exec_onDie (execMapPrefetch d off s) rfl rfl hd
    have hnew : (s.die d).mem.prefetch off = _ := if_neg (by
      simp only [m, x] at hlook hev hside
      simp [hlook, hev, hside])
    rw [hexec, if_pos hc, State.modMem, State.modDie, hnew]
    rfl
  · have hexec : exec (.mapEvictDone d k) s = _ := exec_onDie (execMapEvictDone d k s) rfl rfl hd
    have hdone := MemState.evictDone_spec hk hinv hold
    exact hexec.trans (congrArg (fun v => Host.Outcome.next (mem v)) hdone)
  · have hexec : exec (.mapRangeInvalidate d start len) s = _ := exec_onDie (execMapRangeInvalidate d start len s) rfl rfl hd
    rw [hexec, if_pos ⟨h1, h2, h3⟩]
    rfl
  · have hexec : exec (.mapRangeInvalidate d start len) s = _ := exec_onDie (execMapRangeInvalidate d start len s) rfl rfl hd
    rw [hexec, if_neg h]

end Sys2Proof.Machine

/-! PROOFS. O42: the housekeeping round (18 R531, R532, R535, R541; 11 R346). -/

namespace Sys2Proof.Machine

/-! ### What the steps of a round leave of a die -/

/-- The round as it was closed, the data it weighs, the conversions, and the power target. -/
def Die.round (x : Die) : (Nat × List (BitVec 12) × List (BitVec 12) × Nat × Nat) ×
    (KMap (List CacheVer) × KMap Sector × Option Nat × Option Nat × Nat × Bool) × PowerState :=
  ((x.hk.slot, x.hk.last, x.hk.codes, x.hk.rounds, x.hk.stamp),
    (x.data.wc, x.data.media, x.data.sns1, x.data.sns2, x.data.budget, x.data.overBudget), x.target)

/-- The same, and the power state. -/
def Die.roundHeld (x : Die) : ((Nat × List (BitVec 12) × List (BitVec 12) × Nat × Nat) ×
    (KMap (List CacheVer) × KMap Sector × Option Nat × Option Nat × Nat × Bool) × PowerState) × PowerState :=
  (x.round, x.power)

theorem Die.round_apart : Apart Die.round :=
  ⟨fun _ _ => rfl, fun _ _ => rfl, fun _ _ => rfl, fun _ _ _ => rfl, fun _ _ _ _ _ => rfl, fun _ _ => rfl, fun _ _ _ => rfl⟩

theorem Die.roundHeld_apart : Apart Die.roundHeld :=
  ⟨fun _ _ => rfl, fun _ _ => rfl, fun _ _ => rfl, fun _ _ _ => rfl, fun _ _ _ _ _ => rfl, fun _ _ => rfl, fun _ _ _ => rfl⟩

/-- The same, and the time a round is stamped with. -/
def Die.roundTimed (x : Die) : (((Nat × List (BitVec 12) × List (BitVec 12) × Nat × Nat) ×
    (KMap (List CacheVer) × KMap Sector × Option Nat × Option Nat × Nat × Bool) × PowerState) × PowerState) × Nat :=
  (x.roundHeld, x.clock.time4)

/-! ### The sensors of a round (18 R533, R536) -/

namespace Timed
variable {d : DieId} {s : State}

theorem modHk {g : HkState → HkState} (hg : ∀ x : Die, Die.roundTimed { x with hk := g x.hk } = x.roundTimed := by intro _; rfl) :
    StepFrame Die.roundTimed [] d s (s.modHk d g) := StepFrame.modDie hg

theorem raise {k : EventKind} {data : List (Nat × Int)} (hk : k.src ≠ 119 := by decide) :
    StepFrame Die.roundTimed [] d s (s.raise d k data) :=
  StepFrame.raise (fun _ _ => rfl) (by simp) (.inl hk)

theorem sensorOut {i : Nat} : StepFrame Die.roundTimed [] d s (s.sensorOut d i) := by
  unfold State.sensorOut
  exact StepFrame.trans modHk (raise (k := Ev.sensorSuspect))

theorem sensorsStep {codes : List (BitVec 12)} : StepFrame Die.roundTimed [] d s (s.sensorsStep d codes) := by
  have hstep : ∀ (u : State) (mask : BitVec 8) (i : Nat), StepFrame Die.roundTimed [] d u (u.sensorStep d codes mask i) := fun u mask i => by
    unfold State.sensorStep
    extract_lets k lim dev up down v
    have hv : StepFrame Die.roundTimed [] d u v := modHk
    have hback : StepFrame Die.roundTimed [] d v ((v.modHk d fun h => { h with suspect := h.suspect &&& ~~~(1#8 <<< i) }).raise d Ev.sensorRestored) :=
      StepFrame.trans modHk (raise (k := Ev.sensorRestored))
    exact hv.trans (StepFrame.ite (StepFrame.ite hback .refl) (StepFrame.ite sensorOut .refl))
  unfold State.sensorsStep
  exact (StepFrame.foldl (fun _ _ => StepFrame.ite sensorOut .refl) _ _).trans (StepFrame.foldl (fun _ _ => hstep _ _ _) _ _)

theorem remoteStep {was codes : List (BitVec 12)} : StepFrame Die.roundTimed [] d s (s.remoteStep d was codes) := by
  unfold State.remoteStep
  refine StepFrame.foldl (fun u i => StepFrame.ite ?_ .refl) _ _
  exact StepFrame.trans modHk (raise (k := Ev.sensorSuspect))

end Timed

/-- A step of a round that leaves what the round is weighed by. -/
abbrev Weighs (d : DieId) (s t : State) : Prop := StepFrame Die.roundHeld [] d s t

namespace Weighs
variable {d : DieId} {s t : State}

theorem modHk {g : HkState → HkState} (hg : ∀ x : Die, Die.roundHeld { x with hk := g x.hk } = x.roundHeld := by intro _; rfl) :
    Weighs d s (s.modHk d g) := StepFrame.modDie hg

theorem raise {k : EventKind} {data : List (Nat × Int)} (hk : k.src ≠ 119 := by decide) : Weighs d s (s.raise d k data) :=
  StepFrame.raise (fun _ _ => rfl) (by simp) (.inl hk)

theorem blindStep : Weighs d s (s.blindStep d) := by
  unfold State.blindStep
  extract_lets k b u
  have hu : Weighs d s u := modHk
  exact hu.trans (StepFrame.ite raise .refl)

theorem hdaStep {codes : List (BitVec 12)} : Weighs d s (s.hdaStep d codes) := by
  unfold State.hdaStep
  extract_lets apart was u
  have hu : Weighs d s u := modHk
  exact hu.trans (StepFrame.ite raise .refl)

theorem headStep : Weighs d s (s.headStep d) := by
  unfold State.headStep
  refine StepFrame.foldl (fun u h => ?_) _ _
  extract_lets x old was bit v
  have hv : Weighs d u v := modHk
  exact hv.trans (StepFrame.ite raise .refl)

theorem roundFlags : Weighs d s (s.roundFlags d) := by
  unfold State.roundFlags
  extract_lets k temps kept u a r
  have hu : Weighs d s u := modHk
  exact hu.trans modHk

theorem supplyStep {codes : List (BitVec 12)} : Weighs d s (s.supplyStep d codes) := by
  unfold State.supplyStep
  refine StepFrame.foldl (fun u e => ?_) _ _
  unfold State.railStep
  extract_lets i dwell v out e o b fire up w
  have hw : Weighs d u w := modHk
  exact hw.trans (StepFrame.ite raise .refl)

theorem evalWaiting : Weighs d s (s.evalWaiting d) := by
  have heval : ∀ (u : State) (k i : Nat), Weighs d u (u.evalRecord d k i) := fun u k i => by
    unfold State.evalRecord
    split
    · exact StepFrame.modDie fun _ => rfl
    · have hput : ∀ v : Int, Weighs d u (u.putSub Obj.recordState k i v) := fun v => StepFrame.of_objsOnly .putSub (by simp)
      have hstale : ∀ v : State, Weighs d v ((v.modDie d fun x => { x with calStale := true }).raise d Ev.calStale) := fun v => by
        generalize hu : v.modDie d (fun x => { x with calStale := true }) = u
        have hvu : Weighs d v u := hu ▸ StepFrame.modDie fun _ => rfl
        exact hvu.trans (raise (k := Ev.calStale))
      exact (hput _).trans (StepFrame.ite (hstale _) .refl)
  unfold State.evalWaiting
  extract_lets ks
  generalize hu : s.modDie d (fun x => { x with evalWait := [] }) = u
  have hsu : Weighs d s u := hu ▸ StepFrame.modDie fun _ => rfl
  exact hsu.trans (StepFrame.foldl (fun _ _ => heval _ _ _) _ _)

end Weighs

/-! ### The thermal state (18 R541 to R544) -/

section
variable {s : State} {d : DieId}

theorem State.thermalShutdown_wide : Wide Die.roundHeld s (s.thermalShutdown d) := by
  have ha := Die.roundHeld_apart
  unfold State.thermalShutdown
  extract_lets u x v
  have hu : Wide Die.roundHeld s u := Wide.modDie fun _ => ha.heads _ _
  have hv : Wide Die.roundHeld u v := Wide.ite .refl ((Wide.unloadBoth ha).trans (.spinStopCommand ha))
  exact (hu.trans hv).trans (.of_step (StepFrame.trans Weighs.modHk (Weighs.raise (k := Ev.thermalShutdown))))

theorem State.thermalRestart_wide : Wide Die.roundHeld s (s.thermalRestart d) := by
  have ha := Die.roundHeld_apart
  unfold State.thermalRestart
  extract_lets t
  exact .ite (.ite (.spinFor ha) (.ite (.spinFor ha) .refl)) .refl

/-- R541: only a die whose target is Active or Reduced moves to another power state. -/
theorem State.reducedSettle_spec : Wide Die.round s (s.reducedSettle d) ∧
    (((s.reducedSettle d).die d).power = (s.die d).power ∨ (s.die d).target = .active ∨ (s.die d).target = .reduced) := by
  have ha := Die.round_apart
  unfold State.reducedSettle
  extract_lets t
  split
  · next h => exact ⟨((Wide.actPower ha).trans (.actPower ha)).trans (.powerSettle fun _ _ => rfl), .inr h.2.1⟩
  · exact ⟨.refl, .inl rfl⟩

theorem Wide.round_of_held {t : State} (h : Wide Die.roundHeld s t) : Wide Die.round s t :=
  ⟨fun e => congrArg Prod.fst (h.across e), h.rest⟩

theorem State.thermalChange_spec : Wide Die.round s (s.thermalChange d) ∧
    (((s.thermalChange d).die d).power = (s.die d).power ∨ (s.die d).target = .active ∨ (s.die d).target = .reduced) := by
  have ha := Die.roundHeld_apart
  unfold State.thermalChange
  extract_lets k r old free cls u v w x y
  by_cases hr : r.1 = old
  · rw [if_pos hr]
    exact ⟨.refl, .inl rfl⟩
  · rw [if_neg hr]
    have hu : Wide Die.roundHeld s u := by
      have hfresh : Wide Die.roundHeld s s.useFresh := ⟨.of_dies rfl, rfl⟩
      exact hfresh.trans (.of_step Weighs.modHk)
    have hv : Wide Die.roundHeld u v := .of_step Weighs.raise
    have hw : Wide Die.roundHeld v w := .ite (.of_step (.calAbortIf ha.runs (by simp))) .refl
    have hx : Wide Die.roundHeld w x := .ite State.thermalShutdown_wide .refl
    have hy : Wide Die.roundHeld x y := .ite State.thermalRestart_wide .refl
    have hsy := (((hu.trans hv).trans hw).trans hx).trans hy
    have hpower : (y.die d).power = (s.die d).power := congrArg Prod.snd (hsy.across d)
    have htarget : (y.die d).target = (s.die d).target := congrArg (fun p => p.1.2.2) (hsy.across d)
    obtain ⟨hset, hmove⟩ := State.reducedSettle_spec (s := y) (d := d)
    rw [hpower, htarget] at hmove
    split
    · exact ⟨hsy.round_of_held.trans hset, hmove⟩
    · exact ⟨hsy.round_of_held, .inl hpower⟩

/-- R578: a wake-up changes nothing of a round, unless it ends a Die-sleep. -/
theorem State.wake_wide (h : (s.die d).power ≠ .dieSleep ∨ (s.die d).target = .active ∨ (s.die d).target = .reduced) :
    Wide (fun x => (x.round.1, x.round.2.1)) s (s.wake d) := by
  have ha : Apart fun x : Die => (x.round.1, x.round.2.1) :=
    ⟨fun _ _ => rfl, fun _ _ => rfl, fun _ _ => rfl, fun _ _ _ => rfl, fun _ _ _ _ _ => rfl, fun _ _ => rfl, fun _ _ _ => rfl⟩
  unfold State.wake
  extract_lets x low
  split
  · next hlow =>
    have hawake : (s.die d).power ≠ .dieSleep := by
      rcases h with h | h | h
      · exact h
      · simp [low, x, h] at hlow
      · simp [low, x, h] at hlow
    generalize hu : s.modDie d (fun x => { x with target := .active, woken := true }) = u
    have hsu : Wide (fun x => (x.round.1, x.round.2.1)) s u := hu ▸ Wide.modDie fun _ => rfl
    have hpower : (u.die d).power = (s.die d).power := by rw [← hu, State.modDie_die_self]
    exact hsu.trans (Wide.powerApply ha (fun _ _ => rfl) fun hs => hawake (hpower ▸ hs.1))
  · exact .refl

/-! ### The budget of a round (11 R346) -/

/-- The round as it was closed, and the data it has weighed. -/
def Die.weighed (x : Die) : (Nat × List (BitVec 12) × List (BitVec 12) × Nat × Nat) ×
    (KMap (List CacheVer) × KMap Sector × Option Nat × Option Nat × Nat × Bool) := (x.round.1, x.round.2.1)

/-- R346: the dirty data is weighed against the budget; nothing else of a round differs. -/
theorem State.budgetUpdate_spec :
    let t := s.budgetUpdate d
    Wide (fun x => (x.round.1, (x.data.wc, x.data.media, x.data.sns2), x.target, x.power)) s t ∧
    (t.die d).data.overBudget = decide ((t.die d).data.budget < dirtyBytes (t.die d).data) := by
  unfold State.budgetUpdate
  extract_lets v b was short u t
  have hu : Wide (fun x => (x.round.1, (x.data.wc, x.data.media, x.data.sns2), x.target, x.power)) s u := Wide.modDie fun _ => rfl
  have hover : (u.die d).data.overBudget = decide ((u.die d).data.budget < dirtyBytes (u.die d).data) := by
    simp only [u, State.modData_die_self]
    rfl
  clear_value u
  by_cases hshort : (short && !was) = true
  · rw [show t = _ from if_pos hshort]
    refine ⟨hu.trans (.of_step (StepFrame.raise (fun _ _ => rfl) (by simp) (.inl (by decide)))), ?_⟩
    have hdata : ((u.raise d Ev.dirtyOverBudget).die d).data = (u.die d).data :=
      (StepFrame.raise (os := []) (f := Die.data) (fun _ _ => rfl) (by simp) (.inl (by decide))).self
    rw [hdata, hover]
  · rw [show t = _ from if_neg hshort]
    exact ⟨hu, hover⟩

/-- R532: a die whose round is closed at a time, with the HOLDUP_SNS reading of the round. -/
def Die.closeRound (x : Die) (time mv : Nat) : Die :=
  { x.latchTemps with
    data := { x.data with sns2 := x.data.sns1, sns1 := some mv }
    hk := { x.hk with
      last := x.hk.codes, codes := List.replicate 64 0, slot := 0, rounds := min 67108863 (x.hk.rounds + 1), stamp := time } }

theorem State.roundClose_eq :
    s.roundClose d = s.modDie d fun x => x.closeRound (s.timeNs d) (s.roundSns d (s.die d).hk.codes) := by
  simp only [State.roundClose, State.modData_eq, State.modHk_eq, State.modDie, State.setDie_setDie, State.setDie_die_self]
  rfl

/-- R531, R532: the round is closed under the time it ends at. -/
theorem State.roundClose_spec :
    let t := s.roundClose d
    Across (fun x => (x.data.wc, x.data.media, x.target, x.power)) s t ∧ t.slots = s.slots ∧
    (t.die d).round.1 = (0, (s.die d).hk.codes, List.replicate 64 0, min 67108863 ((s.die d).hk.rounds + 1), s.timeNs d) ∧
    (t.die d).data.sns2 = (s.die d).data.sns1 := by
  rw [State.roundClose_eq]
  refine ⟨Across.modDie fun _ => rfl, rfl, ?_, ?_⟩ <;> rw [State.modDie_die_self] <;> rfl

/-- R531 to R533: the sensors of a round, and its closing. -/
theorem State.roundOpen_spec {was codes : List (BitVec 12)} :
    let t := ((s.sensorsStep d codes).remoteStep d was codes).roundClose d
    (t.die d).round.1 = (0, (s.die d).hk.codes, List.replicate 64 0, min 67108863 ((s.die d).hk.rounds + 1), s.timeNs d) ∧
    ((t.die d).data.wc, (t.die d).data.media, (t.die d).data.sns2) =
      ((s.die d).data.wc, (s.die d).data.media, (s.die d).data.sns1) ∧
    (t.die d).power = (s.die d).power ∧ t.slots = s.slots := by
  have hsense : StepFrame Die.roundTimed [] d s ((s.sensorsStep d codes).remoteStep d was codes) :=
    Timed.sensorsStep.trans Timed.remoteStep
  generalize (s.sensorsStep d codes).remoteStep d was codes = a at *
  obtain ⟨hclosed, hslots, hround, hsns⟩ := State.roundClose_spec (s := a) (d := d)
  have hclosed := hclosed d
  have hself := hsense.self
  simp only [Die.roundTimed, Die.roundHeld, Die.round, Prod.mk.injEq] at hself hclosed
  obtain ⟨⟨⟨⟨_, _, hcodes, hrounds, _⟩, ⟨hwc, hmedia, hsns1, _⟩, _⟩, hpower⟩, htime⟩ := hself
  obtain ⟨hwc', hmedia', _, hpower'⟩ := hclosed
  refine ⟨?_, ?_, hpower'.trans hpower, hslots.trans hsense.slots⟩
  · rw [hround, hcodes, hrounds, State.timeNs, State.timeNs, htime]
  · rw [hwc', hmedia', hsns, hwc, hmedia, hsns1]

/-- R533 to R544: what a closed round has in view. -/
theorem State.roundView_spec {codes : List (BitVec 12)} :
    let t := ((((((s.blindStep d).hdaStep d codes).headStep d).roundFlags d).supplyStep d codes).thermalChange d).evalWaiting d
    Wide Die.round s t ∧ ((t.die d).power = (s.die d).power ∨ (t.die d).target = .active ∨ (t.die d).target = .reduced) := by
  have hu : Weighs d s (((((s.blindStep d).hdaStep d codes).headStep d).roundFlags d).supplyStep d codes) :=
    (((Weighs.blindStep.trans Weighs.hdaStep).trans Weighs.headStep).trans Weighs.roundFlags).trans Weighs.supplyStep
  generalize ((((s.blindStep d).hdaStep d codes).headStep d).roundFlags d).supplyStep d codes = u at *
  obtain ⟨hthermal, hmove⟩ := State.thermalChange_spec (s := u) (d := d)
  have heval : Weighs d (u.thermalChange d) ((u.thermalChange d).evalWaiting d) := Weighs.evalWaiting
  generalize u.thermalChange d = v at *
  have hw : Wide Die.round s (v.evalWaiting d) :=
    ((Wide.of_step hu).round_of_held.trans hthermal).trans (Wide.of_step heval).round_of_held
  have htarget : ((v.evalWaiting d).die d).target = (u.die d).target :=
    congrArg (fun f => f.2.2) ((hthermal.trans (Wide.of_step heval).round_of_held).across d)
  have hpower : ((v.evalWaiting d).die d).power = (v.die d).power := congrArg Prod.snd heval.self
  refine ⟨hw, ?_⟩
  rw [hpower, htarget]
  exact hmove.imp_left fun h => h.trans (congrArg Prod.snd hu.self)

/-- R346, R578: the dirty data of a closed round is weighed against its budget, and a die that is over it wakes. -/
theorem State.roundWeigh_spec (h : (s.die d).power ≠ .dieSleep ∨ (s.die d).target = .active ∨ (s.die d).target = .reduced) :
    let e := s.budgetUpdate d
    let t := (if (e.die d).data.overBudget then e.wake d else e).calRecheck d
    Wide (fun x => (x.round.1, x.data.wc, x.data.media, x.data.sns2)) s t ∧
    (t.die d).data.overBudget = decide ((t.die d).data.budget < dirtyBytes (t.die d).data) := by
  obtain ⟨hbudget, hover⟩ := State.budgetUpdate_spec (s := s) (d := d)
  generalize s.budgetUpdate d = e at *
  intro e' t
  have haim : ((e.die d).target, (e.die d).power) = ((s.die d).target, (s.die d).power) :=
    congrArg (fun f => f.2.2) (hbudget.across d)
  obtain ⟨htarget, hpower⟩ := Prod.mk.inj haim
  have hwake : Wide Die.weighed e t :=
    (Wide.ite (State.wake_wide (by rwa [hpower, htarget])) .refl).trans (.of_step (StepFrame.calRecheck fun _ _ => rfl))
  clear_value t
  refine ⟨⟨fun g => ?_, Prod.ext (hwake.slots.trans hbudget.slots) (hwake.links.trans hbudget.links)⟩, ?_⟩
  · exact (congrArg (fun f => (f.1, f.2.1, f.2.2.1, f.2.2.2.2.1)) (hwake.across g)).trans
      (congrArg (fun f => (f.1, f.2.1)) (hbudget.across g))
  · have hdata := congrArg Prod.snd (hwake.across d)
    simp only [Die.weighed, Die.round, Prod.mk.injEq] at hdata
    obtain ⟨hwc, _, _, _, hbud, hover'⟩ := hdata
    have hdirty : dirtyBytes (t.die d).data = dirtyBytes (e.die d).data := by rw [dirtyBytes, dirtyBytes, hwc]
    rw [hover', hover, hbud, hdirty]

/-- R531 to R544: a whole round's end. -/
def State.roundEnd (s : State) (d : DieId) (was codes : List (BitVec 12)) : State :=
  let u := ((s.sensorsStep d codes).remoteStep d was codes).roundClose d
  let v := ((((((u.blindStep d).hdaStep d codes).headStep d).roundFlags d).supplyStep d codes).thermalChange d).evalWaiting d
  let e := v.budgetUpdate d
  (if (e.die d).data.overBudget then e.wake d else e).calRecheck d

theorem State.roundEnd_spec {was codes : List (BitVec 12)} (hpow : (s.die d).power ≠ .dieSleep) :
    let t := s.roundEnd d was codes
    (t.die d).round.1 =
      (0, (s.die d).hk.codes, List.replicate 64 0, min 67108863 ((s.die d).hk.rounds + 1), s.timeNs d) ∧
    (t.die d).data.sns2 = (s.die d).data.sns1 ∧
    (t.die d).data.overBudget = decide ((t.die d).data.budget < dirtyBytes (t.die d).data) ∧
    (t.die d).data.wc = (s.die d).data.wc ∧ (t.die d).data.media = (s.die d).data.media ∧ t.slots = s.slots := by
  obtain ⟨hround, hdata, hpower, hslots⟩ := State.roundOpen_spec (s := s) (d := d) (was := was) (codes := codes)
  rw [State.roundEnd]
  generalize ((s.sensorsStep d codes).remoteStep d was codes).roundClose d = u at *
  obtain ⟨hview, hmove⟩ := State.roundView_spec (s := u) (d := d) (codes := codes)
  dsimp only
  generalize ((((((u.blindStep d).hdaStep d codes).headStep d).roundFlags d).supplyStep d codes).thermalChange d).evalWaiting d
    = v at *
  obtain ⟨hweigh, hover⟩ := State.roundWeigh_spec (s := v) (d := d) (hmove.imp_left fun h => by rwa [h, hpower])
  generalize (if ((v.budgetUpdate d).die d).data.overBudget then (v.budgetUpdate d).wake d else v.budgetUpdate d).calRecheck d
    = t at *
  have hw := hweigh.across d
  have hv := hview.across d
  have hvround : (v.die d).round.1 = (u.die d).round.1 := congrArg (fun f => f.1) hv
  have htround : (t.die d).round.1 = (v.die d).round.1 := congrArg (fun f => f.1) hw
  simp only [Die.round, Prod.mk.injEq] at hw hv hdata
  obtain ⟨_, ⟨hwc1, hmedia1, _, hsns1, _⟩, _⟩ := hv
  obtain ⟨_, hwc2, hmedia2, hsns2⟩ := hw
  obtain ⟨hwc, hmedia, hsns⟩ := hdata
  exact ⟨htround.trans (hvround.trans hround), hsns2.trans (hsns1.trans hsns), hover, hwc2.trans (hwc1.trans hwc),
    hmedia2.trans (hmedia1.trans hmedia), hweigh.slots.trans (hview.slots.trans hslots)⟩

theorem execHkRoundEnd_eq (hd : s.fitted d = true) (hpow : (s.die d).power ≠ .dieSleep) (hslot : (s.die d).hk.slot = 63) :
    exec (.hkRoundEnd d) s = .next (s.roundEnd d (s.die d).hk.last (s.die d).hk.codes) := by
  have hexec : exec (.hkRoundEnd d) s = _ := exec_onDie (execHkRoundEnd d s) rfl rfl hd
  rw [if_neg (by simp [hslot, hpow])] at hexec
  exact hexec

/-- Settles O42: a slot's conversion, the latch of slot 63, and a round's end by its opening, its view and its weighing. -/
theorem housekeepingRounds : Obligations.HousekeepingRounds := by
  unfold Obligations.HousekeepingRounds
  intro s d hd hpow x
  have hslot (code : BitVec 12) : exec (.hkSlot d code) s = _ := exec_onDie (execHkSlot d code s) rfl rfl hd
  refine ⟨fun code hk => ?_, fun code hk => ?_, fun hk => ?_, fun hk => ?_⟩
  · have hexec := hslot code
    dsimp only at hexec
    rw [if_neg hpow, if_neg hk] at hexec
    exact hexec
  · have hexec := hslot code
    dsimp only at hexec
    rw [if_neg hpow, if_pos hk] at hexec
    refine Runs.intro hexec ⟨?_, fun h => ?_⟩
    · rw [State.modDie_die_self]
      rfl
    · rw [State.modDie_die_self]
      exact Vector.getElem_map ..
  · have hexec : exec (.hkRoundEnd d) s = _ := exec_onDie (execHkRoundEnd d s) rfl rfl hd
    rwa [if_pos (.inl hk)] at hexec
  · refine Runs.intro (execHkRoundEnd_eq hd hpow hk) ?_
    obtain ⟨hround, hrest⟩ := State.roundEnd_spec (was := x.hk.last) (codes := x.hk.codes) hpow
    generalize s.roundEnd d (s.die d).hk.last (s.die d).hk.codes = t at *
    simp only [Die.round, Prod.mk.injEq] at hround
    obtain ⟨h1, h2, h3, h4, h5⟩ := hround
    exact ⟨h1, h2, h3, h4, h5, hrest⟩

end

end Sys2Proof.Machine

/-! PROOFS. O43: the words of the small engines (16 R488 to R493). -/

namespace Sys2Proof.Machine

/-! ### Engines of a die -/

section
variable {s t u : State} {d : DieId} {e : Nat} {f g : Engine → Engine}

theorem State.modEngine_eq (f : Engine → Engine) : s.modEngine d e f = s.modDie d fun x =>
    { x with eng := { x.eng with engines := x.eng.engines.setIfInBounds e (f (x.eng.engines.getD e {})) } } := rfl

theorem State.engine_modEngine_self (he : e < 26) : (s.modEngine d e f).engine d e = f (s.engine d e) := by
  rw [State.engine, State.modEngine_eq, State.modDie_die_self]
  simp [State.engine, Vector.getD, he]

theorem State.engine_modEngine_ne {k : Nat} (hk : k ≠ e) : (s.modEngine d e f).engine d k = s.engine d k := by
  rw [State.engine, State.modEngine_eq, State.modDie_die_self]
  simp only [State.engine, Vector.getD]
  simp [Ne.symm hk]

theorem State.modEngine_modEngine (he : e < 26) : (s.modEngine d e f).modEngine d e g = s.modEngine d e fun x => g (f x) := by
  simp only [State.modEngine_eq, State.modDie, State.setDie_setDie, State.setDie_die_self]
  simp [Vector.getD, he]

end

/-! ### A word that may run, and what one leaves -/

/-- A word of a class that an engine executes: the engine may run its next word, no fault and no request waits. -/
def MayRun (s : State) (d : DieId) (w : BitVec 64) (e cls : Nat) : Prop :=
  (s.engine d e).mayRun = true ∧ (s.engine d e).count < 256 ∧ (s.engine d e).faulting = none ∧
    (s.engine d e).resetReq = false ∧ (s.engine d e).haltReq = false ∧ wordClass w = cls ∧ (e < 24 → w.getLsbD 11 = false)

/-- What a word leaves that has run: the engine at its next address, everything but its die as it was. -/
def Ran (s : State) (d : DieId) (w : BitVec 64) (e : Nat) (t : State) : Prop :=
  (t.engine d e).pc < storeWords e ∧
    (t.engine d e).count = (if wordEnd w then 0 else (s.engine d e).count + 1) ∧ (t.engine d e).run = true ∧
    (t.engine d e).faulting = none ∧ (t.engine d e).waiting = none ∧ (t.die d).data = (s.die d).data ∧ t.slots = s.slots ∧
    (∀ f, f ≠ e → t.engine d f = s.engine d f) ∧ ∀ f, f ≠ d → t.die f = s.die f

/-- An engine after a word that did not fault. -/
def Engine.afterWord (x : Engine) (w : BitVec 64) (e next : Nat) : Engine :=
  { x with pc := next % storeWords e, count := if wordEnd w then 0 else x.count + 1, waiting := none, faulting := none }

section
variable {s u : State} {d : DieId} {e cls : Nat} {w : BitVec 64} {sig : BitVec 8}

/-- R489, R493: with no request waiting a word that did not fault only goes to its next address. -/
theorem State.wordNext_of_quiet (he : e < 26) (hreset : (s.engine d e).resetReq = false) (hhalt : (s.engine d e).haltReq = false) :
    s.wordNext d e w sig none = s.modEngine d e fun x => x.afterWord w e (nextAddress w (s.engCond d e sig)) := by
  unfold State.wordNext
  extract_lets next v
  have hv : v.engine d e = _ := State.engine_modEngine_self he
  by_cases hend : wordEnd w = true
  · rw [if_pos hend]
    have hclause : v.clauseEnd d e = v.modEngine d e fun x => { x with count := 0 } := by
      unfold State.clauseEnd
      rw [hv]
      simp [hreset, hhalt]
    rw [hclause, State.modEngine_modEngine he]
    simp [Engine.afterWord, hend, next]
  · rw [if_neg hend]
    simp [v, Engine.afterWord, hend, next]

/-- R489, R490: a word that may run does its operation and goes to the next address; a WAIT whose condition is not met
holds the engine. -/
theorem State.smallWord_of_mayRun (h : MayRun s d w e cls) (op : State → State) (hcls : cls = 6 → wordEnd w = true) :
    s.smallWord d e cls w sig op = if cls = 6 ∧ s.engCond d e sig (wordOpb w) = false then
      s.modEngine d e fun x => { x with waiting := some w } else (op s).wordNext d e w sig none := by
  obtain ⟨hrun, hcount, hfault, hreset, hhalt, hclass, hbit⟩ := h
  have haddress : (decide (e < 24) && w.getLsbD 11) = false := by
    by_cases he : e < 24
    · rw [hbit he, Bool.and_false]
    · simp [he]
  have hillegal : (decide (cls = 6) && !(wordEnd w)) = false := by
    by_cases h6 : cls = 6
    · rw [hcls h6, Bool.not_true, Bool.and_false]
    · simp [h6]
  unfold State.smallWord
  simp only [hrun, hclass, hfault, haddress, hillegal, hreset, hhalt, Nat.not_le.mpr hcount, Bool.not_true, ne_eq,
    not_true_eq_false, decide_false, Bool.or_false, Bool.false_eq_true, if_false, Option.isSome_none]
  by_cases h6 : cls = 6 ∧ s.engCond d e sig (wordOpb w) = false
  · rw [if_pos h6, if_pos (by simpa using h6)]
  · rw [if_neg h6, if_neg (by simpa using h6)]

/-- An operation of a word on an engine of its die: of the engine only its condition bits may differ, of the die not the
data, and of the block nothing but the die. -/
structure WordOp (d : DieId) (e : Nat) (s u : State) : Prop where
  engine : ∃ a f, u.engine d e = { s.engine d e with alu := a, flags := f }
  engines : ∀ f, f ≠ e → u.engine d f = s.engine d f
  data : (u.die d).data = (s.die d).data
  slots : u.slots = s.slots
  others : ∀ f, f ≠ d → u.die f = s.die f

/-- R489, R490: what a word that may run leaves, by what its operation leaves. -/
theorem State.smallWord_ran (h : MayRun s d w e cls) (he : e < 26) (hcls : cls ≠ 6) {op : State → State}
    (hop : WordOp d e s (op s)) : ∃ g, s.smallWord d e cls w sig op = (op s).modEngine d e g ∧
      Ran s d w e ((op s).modEngine d e g) ∧ ∀ x, (g x).alu = x.alu := by
  obtain ⟨a, f, hengine⟩ := hop.engine
  have hword := State.smallWord_of_mayRun (sig := sig) h op fun h6 => absurd h6 hcls
  obtain ⟨hrun, _, hfault, hreset, hhalt, _, _⟩ := h
  rw [if_neg (by simp [hcls]), State.wordNext_of_quiet he (by simp [hengine, hreset]) (by simp [hengine, hhalt])] at hword
  refine ⟨_, hword, ?_, fun _ => rfl⟩
  have hself := State.engine_modEngine_self (s := op s) (d := d)
    (f := fun x => x.afterWord w e (nextAddress w ((op s).engCond d e sig))) he
  have hgoes : (s.engine d e).run = true := by
    simp only [Engine.mayRun, Bool.and_eq_true] at hrun
    exact hrun.1.1
  refine ⟨?_, ?_, ?_, ?_, ?_, ?_, hop.slots, fun f hf => ?_, fun f hf => ?_⟩
  · rw [hself]
    exact Nat.mod_lt _ (by unfold storeWords; split <;> omega)
  · rw [hself, Engine.afterWord, hengine]
  · rw [hself, Engine.afterWord, hengine]; exact hgoes
  · rw [hself, Engine.afterWord]
  · rw [hself, Engine.afterWord]
  · rw [State.modEngine_eq, State.modDie_die_self]; exact hop.data
  · rw [State.engine_modEngine_ne hf]; exact hop.engines f hf
  · rw [State.modEngine_eq, State.modDie_die_ne _ _ _ _ hf]; exact hop.others f hf

/-- What holds after a word that may run: `Ran`, and what its operation leaves, whatever the engine's next address. -/
theorem Runs.smallWord {c : Instr} {op : State → State} {P : State → Prop}
    (hexec : exec c s = .next (s.smallWord d e cls w sig op)) (h : MayRun s d w e cls) (he : e < 26) (hcls : cls ≠ 6)
    (hop : WordOp d e s (op s)) (hP : ∀ g, (∀ x, (g x).alu = x.alu) → P ((op s).modEngine d e g)) :
    Runs c s fun t => Ran s d w e t ∧ P t := by
  obtain ⟨g, hword, hran, halu⟩ := State.smallWord_ran (sig := sig) h he hcls hop
  rw [hword] at hexec
  exact Runs.intro hexec ⟨hran, hP g halu⟩

/-! ### The operations (16 R490) -/

/-- A change of the engines' part of a die that leaves every engine is an operation of a word. -/
theorem WordOp.of_kept (hu : KeptBy (fun x => (x.eng.engines, x.data)) d s u) (hslots : u.slots = s.slots) : WordOp d e s u := by
  obtain ⟨hengines, hdata⟩ := Prod.mk.inj hu.self
  have heng : ∀ f, u.engine d f = s.engine d f := fun f => by rw [State.engine, State.engine, hengines]
  exact ⟨⟨_, _, heng e⟩, fun f _ => heng f, hdata, hslots, hu.others⟩

theorem State.useFresh_engine : s.useFresh.engine d e = s.engine d e := rfl

theorem KeptBy.modEng {α : Type} {f : Die → α} {g : EngState → EngState} (hf : ∀ x : Die, f { x with eng := g x.eng } = f x) :
    KeptBy f d s (s.modEng d g) := KeptBy.modDie hf

theorem State.freeReg_op {n : Nat} : WordOp d e s (s.freeReg d e n w) := by
  unfold State.freeReg
  extract_lets v
  generalize hu : s.modEng d (fun x => { x with regs := x.regs.insert (e * 65536 + n) v }) = u
  have hsu : KeptBy (fun x => (x.eng.engines, x.data)) d s u := hu ▸ KeptBy.modEng fun _ => rfl
  have hslots : u.slots = s.slots := hu ▸ rfl
  exact .of_kept (hsu.trans (KeptBy.of_dies rfl)) hslots

theorem State.reportWord_op : WordOp d e s (s.reportWord d e w) := by
  unfold State.reportWord
  exact .of_kept (KeptBy.modEng fun _ => rfl) rfl

theorem State.aluWord_op (he : e < 26) : WordOp d e s (s.aluWord d e w) := by
  unfold State.aluWord
  extract_lets n f
  clear_value n f
  have hfree := State.freeReg_op (s := s) (d := d) (e := e) (w := w) (n := wordOpa w)
  generalize s.freeReg d e (wordOpa w) w = u at *
  obtain ⟨a, b, hengine⟩ := hfree.engine
  refine ⟨⟨Config.microFlags n w, f, ?_⟩, fun k hk => ?_, ?_, hfree.slots, fun k hk => ?_⟩
  · rw [State.useFresh_engine, State.engine_modEngine_self he, hengine]
  · rw [State.useFresh_engine, State.engine_modEngine_ne hk]; exact hfree.engines k hk
  · rw [State.useFresh_die, State.modEngine_eq, State.modDie_die_self]; exact hfree.data
  · rw [State.useFresh_die, State.modEngine_eq, State.modDie_die_ne _ _ _ _ hk]; exact hfree.others k hk

theorem State.armEvent_frame {cls : AngleClass} {owner : AngleOwner} {form : AngleForm} :
    StepFrame (fun x => (x.eng, x.data, x.heads)) [] d s (s.armEvent d cls owner form) := by
  have hclock : ∀ (u : State) (g : AngleClock → AngleClock), StepFrame (fun x => (x.eng, x.data, x.heads)) [] d u (u.modClock d g) :=
    fun u g => StepFrame.modDie fun _ => rfl
  unfold State.armEvent
  extract_lets c cur back stamp late v
  have hv : StepFrame (fun x => (x.eng, x.data, x.heads)) [] d s v :=
    StepFrame.ite ((hclock _ _).trans (StepFrame.bump (by simp) (dieInst_lt d))) .refl
  exact StepFrame.ite (hclock _ _) (hv.trans (hclock _ _))

/-- R490, R491: LINES moves the lines of its head to PARK, or to where the write of its sector may start, or leaves them. -/
theorem State.linesWord_moves (h : HeadId) : s.linesWord d h w = s.useFresh ∨
    ∃ l, s.linesWord d h w = s.useFresh.modHead d h (fun x => { x with lines := l }) ∧ (l = .park ∨ s.headMayStart d h = true) := by
  unfold State.linesWord
  extract_lets k u now up
  have hup : up = s.headMayStart d h := rfl
  have hrise : ∀ l, (if up = true then u.modHead d h (fun x => { x with lines := l }) else u) = u ∨
      ∃ l', (if up = true then u.modHead d h (fun x => { x with lines := l }) else u) = u.modHead d h (fun x => { x with lines := l' }) ∧
        (l' = .park ∨ s.headMayStart d h = true) := fun l => by
    split
    · next hu => exact .inr ⟨l, rfl, .inr (hup ▸ hu)⟩
    · exact .inl rfl
  change _ = u ∨ ∃ l, _ = u.modHead d h (fun x => { x with lines := l }) ∧ _
  clear_value k now up u
  split
  · exact .inr ⟨.park, rfl, .inl rfl⟩
  · exact hrise .heat
  · exact hrise .data
  · exact hrise .data
  · exact .inl rfl

theorem State.armWord_op {owner : AngleOwner} {form : AngleForm} :
    WordOp d e s (s.useFresh.armEvent d .media owner form) := by
  have harm := State.armEvent_frame (s := s.useFresh) (d := d) (cls := .media) (owner := owner) (form := form)
  have hself := harm.self
  simp only [State.useFresh_die, Prod.mk.injEq] at hself
  obtain ⟨heng, hdata, _⟩ := hself
  exact .of_kept ⟨by rw [heng, hdata], harm.others⟩ harm.slots

theorem State.linesWord_op {h : HeadId} : WordOp d e s (s.linesWord d h w) := by
  rcases State.linesWord_moves (s := s) (d := d) (w := w) h with heq | ⟨l, heq, _⟩
  · rw [heq]
    exact .of_kept (KeptBy.of_dies rfl) rfl
  · rw [heq]
    generalize hu : s.useFresh = u
    have hsu : KeptBy (fun x => (x.eng.engines, x.data)) d s u := hu ▸ KeptBy.of_dies rfl
    have hslots : u.slots = s.slots := hu ▸ rfl
    exact .of_kept (hsu.trans (KeptBy.modHead fun _ _ => rfl)) hslots

theorem State.linesWord_lines (h : HeadId) : let t := s.linesWord d h w
    (t.die d).eng.regs = (s.die d).eng.regs ∧ (∀ g, g ≠ h → (t.die d).head g = (s.die d).head g) ∧
    (((t.die d).head h).lines = ((s.die d).head h).lines ∨ ((t.die d).head h).lines = .park ∨ s.headMayStart d h = true) := by
  rcases State.linesWord_moves (s := s) (d := d) (w := w) h with heq | ⟨l, heq, hl⟩
  · rw [heq]
    exact ⟨rfl, fun _ _ => rfl, .inl rfl⟩
  · dsimp only
    rw [heq, State.modHead_die_self, State.useFresh_die]
    refine ⟨rfl, fun g hg => Die.modHead_head_ne _ _ _ _ hg, ?_⟩
    rw [Die.modHead_head_self]
    exact .inr hl

/-! ### The words -/

theorem State.modEngine_die_self (g : Engine → Engine) : ∃ v, (s.modEngine d e g).die d = { s.die d with eng := v } ∧
    v.regs = (s.die d).eng.regs ∧ v.reports = (s.die d).eng.reports := ⟨_, State.modDie_die_self .., rfl, rfl⟩

theorem State.freeReg_die_self {n : Nat} : ∃ v, (s.freeReg d e n w).die d = { s.die d with eng := v } ∧
    v.regs = (s.die d).eng.regs.insert (e * 65536 + n) (Config.microResult s.fresh w) := by
  unfold State.freeReg
  rw [State.useFresh_die, State.modEng_eq, State.modDie_die_self]
  exact ⟨_, rfl, rfl⟩

/-- NOP and PWM only go on. -/
theorem Instr.plain_word {c : Instr} (hexec : exec c s = .next (s.smallWord d e cls w sig id)) (he : e < 26) (hcls : cls ≠ 6)
    (h : MayRun s d w e cls) :
    exec c s = .next (s.modEngine d e fun x => x.afterWord w e (nextAddress w (s.engCond d e sig))) := by
  rw [hexec, State.smallWord_of_mayRun h id (absurd · hcls), if_neg (by simp [hcls]), id]
  obtain ⟨_, _, _, hreset, hhalt, _, _⟩ := h
  rw [State.wordNext_of_quiet he hreset hhalt]

/-- TABLE, SAMPLE and STAGE put a free value into a register. -/
theorem Instr.register_word {c : Instr} {n : Nat} (hexec : exec c s = .next (s.smallWord d e cls w sig fun u => u.freeReg d e n w))
    (he : e < 26) (hcls : cls ≠ 6) (h : MayRun s d w e cls) : Runs c s fun t => Ran s d w e t ∧ t.fresh = s.fresh + 1 ∧
      (t.die d).eng.regs = (s.die d).eng.regs.insert (e * 65536 + n) (Config.microResult s.fresh w) ∧
      (t.die d).heads = (s.die d).heads ∧ (t.die d).spin = (s.die d).spin ∧ (t.die d).clock = (s.die d).clock := by
  refine Runs.smallWord hexec h he hcls State.freeReg_op fun g _ => ⟨rfl, ?_⟩
  obtain ⟨v, hdie, hregs⟩ := State.freeReg_die_self (s := s) (d := d) (e := e) (w := w) (n := n)
  obtain ⟨v', hdie', hregs', _⟩ := State.modEngine_die_self (s := s.freeReg d e n w) (d := d) (e := e) g
  rw [hdie', hdie]
  exact ⟨by rw [hregs', hdie, hregs], rfl, rfl, rfl⟩

theorem State.aluWord_spec (he : e < 26) : ((s.aluWord d e w).engine d e).alu = Config.microFlags s.fresh w ∧
    ∃ v, (s.aluWord d e w).die d = { s.die d with eng := v } ∧
      v.regs = (s.die d).eng.regs.insert (e * 65536 + wordOpa w) (Config.microResult s.fresh w) := by
  unfold State.aluWord
  extract_lets n f
  have hn : n = s.fresh := rfl
  clear_value f n
  obtain ⟨v, hdie, hregs⟩ := State.freeReg_die_self (s := s) (d := d) (e := e) (w := w) (n := wordOpa w)
  generalize s.freeReg d e (wordOpa w) w = u at *
  rw [State.useFresh_engine, State.engine_modEngine_self he, State.useFresh_die]
  obtain ⟨v', hdie', hregs', _⟩ := State.modEngine_die_self (s := u) (d := d) (e := e)
    fun x => { x with alu := Config.microFlags n w, flags := f }
  rw [hdie', hdie]
  exact ⟨by rw [hn], v', rfl, by rw [hregs', hdie, hregs]⟩

/-- ALU puts free values into a register and the condition bits. -/
theorem Instr.alu_word {c : Instr} (hexec : exec c s = .next (s.smallWord d e 1 w sig fun u => u.aluWord d e w))
    (he : e < 26) (h : MayRun s d w e 1) : Runs c s fun t => Ran s d w e t ∧
      (t.die d).eng.regs = (s.die d).eng.regs.insert (e * 65536 + wordOpa w) (Config.microResult s.fresh w) ∧
      (t.engine d e).alu = Config.microFlags s.fresh w ∧ (t.die d).heads = (s.die d).heads ∧
      (t.die d).spin = (s.die d).spin ∧ (t.die d).clock = (s.die d).clock := by
  refine Runs.smallWord hexec h he (by decide) (State.aluWord_op he) fun g halu => ?_
  obtain ⟨hflags, v, hdie, hregs⟩ := State.aluWord_spec (s := s) (d := d) (w := w) he
  obtain ⟨v', hdie', hregs', _⟩ := State.modEngine_die_self (s := s.aluWord d e w) (d := d) (e := e) g
  rw [State.engine_modEngine_self he, halu, hdie', hdie]
  exact ⟨by rw [hregs', hdie, hregs], hflags, rfl, rfl, rfl⟩

/-- REPORT posts a register. -/
theorem Instr.report_word {c : Instr} (hexec : exec c s = .next (s.smallWord d e 5 w sig fun u => u.reportWord d e w))
    (he : e < 26) (h : MayRun s d w e 5) : Runs c s fun t => Ran s d w e t ∧ (t.die d).eng.regs = (s.die d).eng.regs ∧
      (t.die d).eng.reports = (e, (s.die d).eng.regs.getD (e * 65536 + wordOpa w) 0) :: (s.die d).eng.reports := by
  refine Runs.smallWord hexec h he (by decide) State.reportWord_op fun g _ => ?_
  obtain ⟨v, hdie, hregs, hreports⟩ := State.modEngine_die_self (s := s.reportWord d e w) (d := d) (e := e) g
  rw [hdie]
  rw [State.reportWord, State.modEng_eq, State.modDie_die_self] at hregs hreports
  exact ⟨hregs, hreports⟩

/-- WAIT holds the engine until its condition is met. -/
theorem Instr.wait_word {c : Instr} (hexec : exec c s = .next (s.smallWord d e 6 w sig id)) (he : e < 26)
    (h : MayRun s d w e 6) (hend : wordEnd w = true) :
    (s.engCond d e sig (wordOpb w) = false → exec c s = .next (s.modEngine d e fun x => { x with waiting := some w })) ∧
    (s.engCond d e sig (wordOpb w) = true →
      exec c s = .next (s.modEngine d e fun x =>
        { x with pc := nextAddress w (s.engCond d e sig) % storeWords e, count := 0, waiting := none, faulting := none })) := by
  rw [hexec, State.smallWord_of_mayRun h id fun _ => hend]
  refine ⟨fun hc => by rw [if_pos ⟨rfl, hc⟩], fun hc => ?_⟩
  obtain ⟨_, _, _, hreset, hhalt, _, _⟩ := h
  rw [if_neg (by simp [hc]), id, State.wordNext_of_quiet he hreset hhalt]
  simp only [Engine.afterWord, hend, if_true]

/-- ARM arms a media event of its sequencer. -/
theorem execSeqArm_runs {h : HeadId} (hd : s.fitted d = true) (hrun : MayRun s d w h.val 2) :
    Runs (.seqArm d h w sig) s fun t => Ran s d w h.val t ∧ t.fresh = s.fresh + 1 ∧
      (t.die d).eng.regs = (s.die d).eng.regs ∧ (t.die d).heads = (s.die d).heads := by
  refine Runs.smallWord (exec_onDie (execSeqArm d h w sig s) rfl rfl hd) hrun (by omega) (by decide) State.armWord_op
    fun g _ => ?_
  have harm := State.armEvent_frame (s := s.useFresh) (d := d) (cls := .media) (owner := .sequencer h)
    (form := .absolute ((Config.microResult s.fresh w).setWidth 48))
  have hfresh : (s.useFresh.armEvent d .media (.sequencer h) (.absolute ((Config.microResult s.fresh w).setWidth 48))).fresh =
      s.fresh + 1 := by
    unfold State.armEvent
    extract_lets c cur back stamp late v
    have hv : v.fresh = s.fresh + 1 := by 
      simp only [v]
      split
      · exact State.putSub_fresh ..
      · rfl
    split
    · rfl
    · exact hv
  have hself := harm.self
  generalize s.useFresh.armEvent d .media (.sequencer h) (.absolute ((Config.microResult s.fresh w).setWidth 48)) = u at *
  simp only [State.useFresh_die, Prod.mk.injEq] at hself
  obtain ⟨heng, _, hheads⟩ := hself
  obtain ⟨v, hdie, hregs, _⟩ := State.modEngine_die_self (s := u) (d := d) (e := h.val) g
  rw [hdie]
  exact ⟨hfresh, by rw [hregs, heng], hheads⟩

/-- LINES moves the lines of its own head. -/
theorem execSeqLines_runs {h : HeadId} (hd : s.fitted d = true) (hrun : MayRun s d w h.val 3) :
    Runs (.seqLines d h w sig) s fun t => Ran s d w h.val t ∧ (t.die d).eng.regs = (s.die d).eng.regs ∧
      (∀ g, g ≠ h → (t.die d).head g = (s.die d).head g) ∧
      (((t.die d).head h).lines = ((s.die d).head h).lines ∨ ((t.die d).head h).lines = .park ∨ s.headMayStart d h = true) := by
  refine Runs.smallWord (exec_onDie (execSeqLines d h w sig s) rfl rfl hd) hrun (by omega) (by decide) State.linesWord_op
    fun g _ => ?_
  obtain ⟨hregs, hheads, hlines⟩ := State.linesWord_lines (s := s) (d := d) (w := w) h
  obtain ⟨v, hdie, hregs', _⟩ := State.modEngine_die_self (s := s.linesWord d h w) (d := d) (e := h.val) g
  rw [hdie]
  exact ⟨hregs'.trans hregs, hheads, hlines⟩

/-- R493: a word whose address has bit 11 marks its fault and does nothing else. -/
theorem execSeqAlu_address {h : HeadId} (hd : s.fitted d = true) (hrun : (s.engine d h.val).mayRun = true)
    (hcount : (s.engine d h.val).count < 256) (hfault : (s.engine d h.val).faulting = none) (hclass : wordClass w = 1)
    (hbit : w.getLsbD 11 = true) (hend : wordEnd w = false) : Runs (.seqAlu d h w sig) s fun t =>
      (t.engine d h.val).faulting = some (false, (s.engine d h.val).pc) ∧ (t.die d).eng.regs = (s.die d).eng.regs := by
  have hexec : exec (.seqAlu d h w sig) s = _ := exec_onDie (execSeqAlu d h w sig s) rfl rfl hd
  have hword : ∀ op, s.smallWord d h.val 1 w sig op = s.modEngine d h.val fun x =>
      { x with pc := nextAddress w (s.engCond d h.val sig) % storeWords h.val, count := x.count + 1, waiting := none,
               faulting := some (false, (s.engine d h.val).pc) } := fun op => by
    have haddress : (decide (h.val < 24) && w.getLsbD 11) = true := by rw [hbit, Bool.and_true]; exact decide_eq_true h.isLt
    unfold State.smallWord
    simp only [hrun, hclass, hfault, haddress, Nat.not_le.mpr hcount, Bool.not_true, ne_eq, not_true_eq_false, decide_false,
      Bool.or_false, Bool.false_eq_true, if_false, Bool.false_and, Option.isSome_some, if_true, (by decide : ¬ (1 : Nat) = 6)]
    unfold State.wordNext
    rw [hend]
    rfl
  rw [hword] at hexec
  refine Runs.intro hexec ⟨?_, ?_⟩
  · rw [State.engine_modEngine_self (by omega)]
  · rw [State.modEngine_eq, State.modDie_die_self]

/-- R489: an engine that waits goes on once the condition that its WAIT names is true. -/
theorem execEngineWaitRelease_runs {e : Fin 26} {c : Fin 32} (hd : s.fitted d = true)
    (hwait : (s.engine d e.val).waiting = some w) (hopb : wordOpb w = c.val) (hrun : (s.engine d e.val).run = true)
    (hend : wordEnd w = true) (hreset : (s.engine d e.val).resetReq = false) (hhalt : (s.engine d e.val).haltReq = false)
    (hcond : ∀ g : BitVec 8, (8 ≤ c.val → c.val ≤ 15 → g.getLsbD (c.val - 8) = true) → s.engCond d e.val g c.val = true) :
    Runs (.engineWaitRelease d e c) s fun t =>
      (t.engine d e.val).waiting = none ∧ (t.engine d e.val).count = 0 ∧ (t.engine d e.val).run = true ∧
      (t.die d).eng.regs = (s.die d).eng.regs ∧ ∀ f, f ≠ d → t.die f = s.die f := by
  have hexec : exec (.engineWaitRelease d e c) s = _ := exec_onDie (execEngineWaitRelease d e c s) rfl rfl hd
  rw [hwait] at hexec
  dsimp only at hexec
  rw [if_neg (by simp [hopb, hrun])] at hexec
  generalize hsig : (Config.microResult s.fresh w).setWidth 8 |||
    (if 8 ≤ c.val ∧ c.val ≤ 15 then 1#8 <<< (c.val - 8) else 0) = sig at hexec
  have hbit : 8 ≤ c.val → c.val ≤ 15 → sig.getLsbD (c.val - 8) = true := fun h8 h15 => by
    rw [← hsig, if_pos ⟨h8, h15⟩]
    simp
    omega
  rw [if_pos (hcond sig hbit)] at hexec
  refine Runs.intro hexec ?_
  rw [State.wordNext_of_quiet (by omega) (by simpa [State.useFresh_engine] using hreset) (by simpa [State.useFresh_engine] using hhalt)]
  rw [State.engine_modEngine_self (by omega), Engine.afterWord, State.useFresh_engine, hend]
  refine ⟨rfl, rfl, hrun, by rw [State.modEngine_eq, State.modDie_die_self, State.useFresh_die], fun f hf => ?_⟩
  exact State.modDie_die_ne _ _ _ _ hf

end

/-- Settles O43: each word by what its operation leaves, and the next address that follows. -/
theorem engineWords : Obligations.EngineWords := by
  unfold Obligations.EngineWords
  intro s d h w sig hd
  have hh : h.val < 26 := by omega
  refine ⟨Instr.plain_word (exec_onDie (execSeqNop d h w sig s) rfl rfl hd) hh (by decide),
    Instr.plain_word (exec_onDie (execMotorNop d w sig s) rfl rfl hd) (by decide) (by decide),
    Instr.plain_word (exec_onDie (execMotorPwm d w sig s) rfl rfl hd) (by decide) (by decide),
    Instr.alu_word (exec_onDie (execSeqAlu d h w sig s) rfl rfl hd) hh,
    Instr.alu_word (exec_onDie (execMotorAlu d w sig s) rfl rfl hd) (by decide),
    Instr.register_word (exec_onDie (execSeqStage d h w sig s) rfl rfl hd) hh (by decide),
    Instr.register_word (exec_onDie (execMotorTable d w sig s) rfl rfl hd) (by decide) (by decide),
    Instr.register_word (exec_onDie (execMotorSample d w sig s) rfl rfl hd) (by decide) (by decide),
    Instr.report_word (exec_onDie (execSeqReport d h w sig s) rfl rfl hd) hh,
    Instr.report_word (exec_onDie (execMotorReport d w sig s) rfl rfl hd) (by decide),
    Instr.wait_word (exec_onDie (execSeqWait d h w sig s) rfl rfl hd) hh,
    Instr.wait_word (exec_onDie (execMotorWait d w sig s) rfl rfl hd) (by decide),
    execSeqArm_runs hd, execSeqLines_runs hd, ?_, ?_⟩
  · rintro cls - hrun hcount hfault hclass hbit hend rfl
    exact execSeqAlu_address hd hrun hcount hfault hclass hbit hend
  · intro e c hwait hopb hrun hend hreset hhalt hcond
    exact execEngineWaitRelease_runs hd hwait hopb hrun hend hreset hhalt hcond

end Sys2Proof.Machine

/-! PROOFS. O44: requests, banks and faults of the engines (16 R492 to R497): the statement speaks of every table of
calibration runs, also of one that holds a place twice. -/

namespace Sys2Proof.Machine

/-- A calibration run of a kind. -/
def runOfKind (k : BitVec 8) : CalRun :=
  { kind := k, startRev := 0, paused := false, heads := [], outcomes := [], before := {}, floats := [], fit := none }

/-- A die with actuator A loaded, whose table holds a hold-up test (kind 9) and a run of kind 1 at one place. -/
def twiceRunning : Die := { Die.cold with
  actA := { Die.cold.actA with state := .tracking }
  calRuns := ⟨[(0, runOfKind 9), (0, runOfKind 1)]⟩
  data := { Die.cold.data with vEnd := some 1 } }

/-- The block after reset with that die as die 0. -/
def twiceRunningState : State := State.reset.setDie 0 twiceRunning

/-- The reset of the control-law engine aborts the actuator's run of kind 1, and by its place ends the hold-up test. -/
theorem twiceRunning_reset : ((twiceRunningState.engineReset 0 25).die 0).data.vEnd = none := by
  rfl

/-- Refutes O44: a table of runs with two entries at one place (no canonical map, but a state of the statement) has the
abort of the actuator's run end the hold-up test, which takes the tested voltage out of the die's data. -/
theorem not_engineRequestsAndFaults : ¬ Obligations.EngineRequestsAndFaults := by
  unfold Obligations.EngineRequestsAndFaults
  intro h
  obtain ⟨_, hreset, _⟩ := h.1 twiceRunningState 0 25 rfl
  obtain ⟨t, hexec, _, _, hdata⟩ := hreset rfl
  have hrun : exec (.engineReset 0 25) twiceRunningState = _ :=
    exec_onDie (execEngineReset 0 25 twiceRunningState) rfl rfl rfl
  rw [if_pos (show (twiceRunningState.engine 0 (25 : Fin 26).val).samples = true from rfl)] at hrun
  obtain rfl : twiceRunningState.engineReset 0 25 = t := Host.Outcome.next.inj (hrun.symm.trans hexec)
  have hend := twiceRunning_reset
  rw [hdata] at hend
  exact absurd hend (by decide)

end Sys2Proof.Machine

/-! PROOFS. O45: firmware downloads by object and by verb (17 R509 to R514). -/

namespace Sys2Proof.Machine

section
variable {s : State} {src : Source} {b : Bool} {data : List Byte} {n : Nat} {last : Option Bool}

/-! ### The lock (17 R514) -/

/-- The block after a source's operation has taken or renewed the lock. -/
def State.locked (s : State) (src : Source) : State := { s with fw := { s.fw with lock := some (src, s.now) } }

theorem State.lockFor_of_free (h : ∀ x t, s.fw.lock = some (x, t) → x = src) : s.lockFor src = some (s.locked src) := by
  unfold State.lockFor
  split
  · rfl
  · next x t hlock => rw [if_pos (h x t hlock)]; rfl

theorem State.lockFor_of_other {x : Source} {t : Nat} (h : s.fw.lock = some (x, t)) (hne : x ≠ src) : s.lockFor src = none := by
  unfold State.lockFor
  rw [h]
  exact if_neg hne

theorem State.fwTransfer_of_other {x : Source} {t off : Nat} (h : s.fw.lock = some (x, t)) (hne : x ≠ src) :
    s.fwTransfer src off data last = (s, St.busyOtherSource) := by
  unfold State.fwTransfer
  rw [State.lockFor_of_other h hne]

theorem State.fwTransfer_in_trial {off : Nat} (h : ∀ x t, s.fw.lock = some (x, t) → x = src) (ht : s.fw.trial ≠ .none) :
    s.fwTransfer src off data last = (s.locked src, St.fwActivationInProgress) := by
  unfold State.fwTransfer
  rw [State.lockFor_of_free h]
  exact if_pos ht

/-! ### Blocks (17 R510) -/

theorem blocksOf_whole (h : data.length = 65536) : blocksOf data = [data] := by
  unfold blocksOf
  rw [h]
  simp [h]

/-- What a verb says of the last transfer, where it says it, is right. -/
def lastRight (last : Option Bool) (isLast : Bool) : Bool :=
  match last with
  | none => true
  | some l => l == isLast

theorem lastRight_of_eq {isLast : Bool} (h : ∀ l, last = some l → l = isLast) : lastRight last isLast = true := by
  cases last with
  | none => rfl
  | some l => simp [lastRight, h l rfl]

/-- R509: with the lock taken, a block of 64 KiB is checked against the slot and the manifest, and programmed. -/
theorem State.fwTransfer_of_block {off : Nat} (h : ∀ x t, s.fw.lock = some (x, t) → x = src) (ht : s.fw.trial = .none)
    (hb : s.fw.inactive = some b) (hlen : data.length = 65536) :
    s.fwTransfer src off data last =
      let u := s.locked src
      let total := if off = 0 then mfBytes data else mfBytes (s.fw.manifest b)
      let next := off == 0 || (s.fw.slot b == .downloading && off == s.fw.nextOffset)
      if !next || !(lastRight last (decide (off + 65536 = total))) || decide (total < off + 65536 ∨ 134217728 < off + 65536) then (u, St.invalidField)
      else
        let v := if off = 0 then u.modFw fun f => ((f.eraseBlocks b).setSlot b .downloading).record else u
        let r := v.fwBlock b (off / 65536) data
        match r.2 with
        | some st => (r.1, st)
        | none =>
          let w := r.1.modFw fun f => { f with nextOffset := off + 65536 }
          if off + 65536 = total then w.fwWhole b else (w, St.success) := by
  have hempty : data.isEmpty = false := by
    rw [List.isEmpty_eq_false_iff]
    exact List.ne_nil_of_length_pos (by omega)
  unfold State.fwTransfer
  rw [State.lockFor_of_free h]
  dsimp only
  rw [if_neg (show ¬ (s.locked src).fw.trial ≠ .none from not_not_intro ht), show (s.locked src).fw.inactive = some b from hb]
  dsimp only
  rw [hempty, hlen, blocksOf_whole hlen]
  simp only [Nat.mod_self, beq_self_eq_true, Bool.true_or, Bool.not_true, Bool.false_or, Bool.or_false, State.fwBlocks]
  refine ite_congr rfl (fun _ => rfl) fun _ => ?_
  generalize (if off = 0 then (s.locked src).modFw fun f => ((f.eraseBlocks b).setSlot b .downloading).record
    else s.locked src).fwBlock b (off / 65536) data = r
  obtain ⟨v, _ | st⟩ := r <;> rfl

/-! ### The manifest while blocks are programmed (17 R506) -/

theorem FwState.not_factory {f : FwState} (h : f.nor.contains (slotNo b * 2048) = true) : f.factory b = false := by
  obtain ⟨v, hv⟩ := Option.isSome_iff_exists.1 h
  have hmem : slotNo b * 2048 ∈ f.nor.keys := List.mem_map.2 ⟨_, KMap.mem_of_find? hv, rfl⟩
  simp only [FwState.factory, Bool.not_eq_false', List.any_eq_true]
  exact ⟨_, hmem, by simp⟩

theorem FwState.contains_insert {f : FwState} {k j : Nat} {v : List Byte} (h : f.nor.contains j = true) :
    (f.nor.insert k v).contains j = true := by
  unfold KMap.contains at h ⊢
  by_cases hj : j = k
  · rw [hj, KMap.find?_insert_self]; rfl
  · rw [KMap.find?_insert_ne _ _ hj]; exact h

/-- A block past the manifest leaves it. -/
theorem FwState.manifest_insert {f : FwState} {v : List Byte} (h : f.nor.contains (slotNo b * 2048) = true) (h2 : 2 ≤ n) :
    ({ f with nor := f.nor.insert (slotNo b * 2048 + n) v } : FwState).manifest b = f.manifest b := by
  have hblock : ∀ k, k < 2 → ({ f with nor := f.nor.insert (slotNo b * 2048 + n) v } : FwState).block b k = f.block b k := fun k hk => by
    unfold FwState.block KMap.getD
    rw [KMap.find?_insert_ne _ _ (by omega)]
  unfold FwState.manifest
  rw [FwState.not_factory h, FwState.not_factory (FwState.contains_insert h), hblock 0 (by omega), hblock 1 (by omega)]

/-! ### One transfer of 64 KiB -/

/-- Firmware state with a block programmed. -/
def FwState.stored (f : FwState) (b : Bool) (n : Nat) (data : List Byte) : FwState :=
  { f with nor := f.nor.insert (slotNo b * 2048 + n) data }

theorem State.fwBlock_zero : s.fwBlock b 0 data = ({ s with fw := s.fw.stored b 0 data }, none) := rfl

theorem State.fwBlock_later (h2 : 2 ≤ n) : s.fwBlock b n data =
    let u := { s with fw := s.fw.stored b n data }
    let m := (s.fw.stored b n data).manifest b
    if crc32c data = mfU m (4096 + 52 * n) 4 ∧ Config.sha384 data = sliceBytes m (4100 + 52 * n) 48 then (u, none)
    else (u.discardDownload b, some St.fwBlockInvalid) := by
  unfold State.fwBlock
  dsimp only
  rw [if_neg (by omega), if_neg (by omega), show 4096 + 52 * n + 4 = 4100 + 52 * n by omega]
  rfl

/-- A slot whose download has begun with block 0. -/
def FwState.begun (f : FwState) (b : Bool) (lock : Source × Nat) (data : List Byte) : FwState :=
  { ((f.eraseBlocks b).setSlot b .downloading).record with
    lock := some lock, nextOffset := 65536, nor := (f.eraseBlocks b).nor.insert (slotNo b * 2048) data }

/-- R510: a transfer at offset 0 starts a download. -/
theorem State.fwTransfer_begins (h : ∀ x t, s.fw.lock = some (x, t) → x = src) (ht : s.fw.trial = .none)
    (hb : s.fw.inactive = some b) (hlen : data.length = 65536) (hmore : 65536 < mfBytes data) (hmost : mfBytes data ≤ 134217728) :
    s.fwTransfer src 0 data none = ({ s with fw := s.fw.begun b (src, s.now) data }, St.success) := by
  rw [State.fwTransfer_of_block h ht hb hlen]
  dsimp only
  rw [if_neg (by simp [lastRight]; omega), if_pos rfl, if_pos rfl, if_neg (by omega), Nat.zero_div, State.fwBlock_zero]
  dsimp only [State.modFw, State.locked, FwState.stored, FwState.begun, FwState.record, Nat.add_zero]
  cases b <;> rfl

/-- R509: a later transfer that is not the next one is refused. -/
theorem State.fwTransfer_not_next {off : Nat} (h : ∀ x t, s.fw.lock = some (x, t) → x = src) (ht : s.fw.trial = .none)
    (hb : s.fw.inactive = some b) (hlen : data.length = 65536) (h0 : off ≠ 0)
    (hnext : s.fw.slot b ≠ .downloading ∨ off ≠ s.fw.nextOffset) :
    s.fwTransfer src off data last = (s.locked src, St.invalidField) := by
  rw [State.fwTransfer_of_block h ht hb hlen]
  dsimp only
  rw [if_pos]
  rcases hnext with hn | hn
  · simp [h0, hn]
  · simp [h0, hn]

/-- A block matches its entry of the manifest (17 R510). -/
def BlockGood (m : List Byte) (n : Nat) (data : List Byte) : Prop :=
  crc32c data = mfU m (4096 + 52 * n) 4 ∧ Config.sha384 data = sliceBytes m (4100 + 52 * n) 48

/-- What a block that fails leaves of the download: the slot is emptied. -/
def FwState.emptied (f : FwState) (b : Bool) : FwState :=
  { ((f.setSlot b .empty).eraseBlocks b).record with nextOffset := 0, discardedFlag := true }

theorem State.fwBlock_of_good (h2 : 2 ≤ n) (hc : s.fw.nor.contains (slotNo b * 2048) = true)
    (hgood : BlockGood (s.fw.manifest b) n data) :
    s.fwBlock b n data = ({ s with fw := s.fw.stored b n data }, none) := by
  have hm : (s.fw.stored b n data).manifest b = s.fw.manifest b := FwState.manifest_insert hc h2
  rw [State.fwBlock_later h2, hm]
  exact if_pos hgood

theorem State.fwBlock_of_not_good (h2 : 2 ≤ n) (hc : s.fw.nor.contains (slotNo b * 2048) = true)
    (hbad : ¬ BlockGood (s.fw.manifest b) n data) : s.fwBlock b n data =
      (({ s with fw := (s.fw.stored b n data).emptied b }).raise 0 Ev.fwDownloadDiscarded, some St.fwBlockInvalid) := by
  have hm : (s.fw.stored b n data).manifest b = s.fw.manifest b := FwState.manifest_insert hc h2
  rw [State.fwBlock_later h2, hm]
  exact if_neg hbad

/-- The next block of a download, whose manifest stands. -/
structure NextBlock (s : State) (src : Source) (b : Bool) (n : Nat) (data : List Byte) : Prop where
  free : ∀ x t, s.fw.lock = some (x, t) → x = src
  idle : s.fw.trial = .none
  inactive : s.fw.inactive = some b
  length : data.length = 65536
  past : 2 ≤ n
  within : n < 2048
  slot : s.fw.slot b = .downloading
  next : s.fw.nextOffset = 65536 * n
  stands : s.fw.nor.contains (slotNo b * 2048) = true
  fits : 65536 * n + 65536 ≤ mfBytes (s.fw.manifest b)

/-- The firmware state under a lock, with a block programmed. -/
def State.taken (s : State) (src : Source) (b : Bool) (n : Nat) (data : List Byte) : FwState :=
  ({ s.fw with lock := some (src, s.now) } : FwState).stored b n data

/-- R510: the next block is programmed and checked. -/
theorem State.fwTransfer_next (h : NextBlock s src b n data)
    (hlast : ∀ l, last = some l → l = decide (65536 * n + 65536 = mfBytes (s.fw.manifest b))) :
    s.fwTransfer src (65536 * n) data last =
      match ((s.locked src).fwBlock b n data) with
      | (v, some st) => (v, st)
      | (v, none) =>
        let w := v.modFw fun f => { f with nextOffset := 65536 * n + 65536 }
        if 65536 * n + 65536 = mfBytes (s.fw.manifest b) then w.fwWhole b else (w, St.success) := by
  obtain ⟨hfree, hidle, hb, hlen, h2, h2048, hslot, hnext, _, hfits⟩ := h
  rw [State.fwTransfer_of_block hfree hidle hb hlen]
  dsimp only
  have h0 : ¬ 65536 * n = 0 := by omega
  simp only [h0, if_false, lastRight_of_eq hlast]
  rw [if_neg, Nat.mul_div_cancel_left n (by omega)]
  · generalize (s.locked src).fwBlock b n data = r
    obtain ⟨v, _ | st⟩ := r <;> rfl
  · simp [hslot, hnext]
    omega

theorem State.fwTransfer_next_good (h : NextBlock s src b n data) (hgood : BlockGood (s.fw.manifest b) n data)
    (hlast : ∀ l, last = some l → l = decide (65536 * n + 65536 = mfBytes (s.fw.manifest b))) :
    s.fwTransfer src (65536 * n) data last =
      let w := { s with fw := { s.taken src b n data with nextOffset := 65536 * n + 65536 } }
      if 65536 * n + 65536 = mfBytes (s.fw.manifest b) then w.fwWhole b else (w, St.success) := by
  rw [State.fwTransfer_next h hlast, State.fwBlock_of_good (s := s.locked src) h.past h.stands hgood]
  rfl

theorem State.fwTransfer_next_more (h : NextBlock s src b n data) (hgood : BlockGood (s.fw.manifest b) n data)
    (hlast : ∀ l, last = some l → l = false) (hmore : 65536 * n + 65536 < mfBytes (s.fw.manifest b)) :
    s.fwTransfer src (65536 * n) data last =
      ({ s with fw := { s.taken src b n data with nextOffset := 65536 * n + 65536 } }, St.success) := by
  rw [State.fwTransfer_next_good h hgood fun l hl => (hlast l hl).trans (decide_eq_false (by omega)).symm]
  exact if_neg (by omega)

/-- R512: the last block, and the digests of the units. -/
theorem State.fwTransfer_next_whole (h : NextBlock s src b n data) (hgood : BlockGood (s.fw.manifest b) n data)
    (hend : 65536 * n + 65536 = mfBytes (s.fw.manifest b))
    (hdigests : (List.range' 1 7).all ((s.taken src b n data).digestOk b) = true) :
    s.fwTransfer src (65536 * n) data none =
      ({ s with fw := { ((s.taken src b n data).setSlot b .verified).record with nextOffset := 0 } }, St.success) := by
  rw [State.fwTransfer_next_good h hgood (by simp)]
  dsimp only
  rw [if_pos hend]
  refine (if_pos hdigests).trans ?_
  cases b <;> rfl

theorem State.fwTransfer_next_bad (h : NextBlock s src b n data) (hbad : ¬ BlockGood (s.fw.manifest b) n data) :
    s.fwTransfer src (65536 * n) data none =
      (({ s with fw := (s.taken src b n data).emptied b }).raise 0 Ev.fwDownloadDiscarded, St.fwBlockInvalid) := by
  rw [State.fwTransfer_next h (by simp), State.fwBlock_of_not_good (s := s.locked src) h.past h.stands hbad]
  rfl

/-- The next block, but not the last, when the verb says that it is the last. -/
theorem State.fwTransfer_not_last (h : NextBlock s src b n data) (hmore : 65536 * n + 65536 < mfBytes (s.fw.manifest b)) :
    s.fwTransfer src (65536 * n) data (some true) = (s.locked src, St.invalidField) := by
  obtain ⟨hfree, hidle, hb, hlen, h2, h2048, hslot, hnext, _, hfits⟩ := h
  rw [State.fwTransfer_of_block hfree hidle hb hlen]
  dsimp only
  rw [if_pos]
  rw [if_neg (show ¬ 65536 * n = 0 by omega), decide_eq_false (by omega)]
  simp [lastRight]

/-! ### The object FW_BLOCK (17 R513) -/

theorem execFwBlockWrite_of_transfer {r : State × BitVec 16} (hshut : s.shut = false)
    (h : s.fwTransfer src (s.getN Obj.fwBlockOffset 0) (data.take 65536) none = r) :
    exec (.fwBlockWrite src data) s = .next { r.1 with reply := { status := r.2 } } := by
  have hexec : exec (.fwBlockWrite src data) s = execFwBlockWrite src data s := rfl
  subst h
  rw [hexec, execFwBlockWrite, hostDoes, hshut]
  rfl

theorem execFwBlockWrite_of_block {off : Nat} {r : State × BitVec 16} (hshut : s.shut = false)
    (hoff : s.getN Obj.fwBlockOffset 0 = off) (hlen : data.length = 65536) (h : s.fwTransfer src off data none = r) :
    exec (.fwBlockWrite src data) s = .next { r.1 with reply := { status := r.2 } } := by
  refine execFwBlockWrite_of_transfer hshut ?_
  rw [hoff, List.take_of_length_le (le_of_eq hlen), h]

/-- An answer changes nothing that reporting leaves alone. -/
theorem Reported.answer {d : DieId} {t : State} {cs : List ObjDef} {r : Reply} (h : Reported cs d s t) :
    Reported cs d { s with reply := r } { t with reply := r } := by
  obtain ⟨hside, hdie, hothers⟩ := h
  exact ⟨congrArg (fun x : State => { x with reply := r }) hside, hdie, hothers⟩

theorem Reported.fw {d : DieId} {t : State} {cs : List ObjDef} (h : Reported cs d s t) : t.fw = s.fw := by
  obtain ⟨hside, -⟩ := h
  have hfw : (t.side cs).fw = (s.side cs).fw := by rw [hside]
  exact hfw

theorem FwState.emptied_slot {f : FwState} : (f.emptied b).slot b = .empty := by cases b <;> rfl

/-- A block that fails empties the slot. -/
theorem execFwBlockWrite_bad (hshut : s.shut = false) (h : NextBlock s src b n data) (ho : s.getN Obj.fwBlockOffset 0 = 65536 * n)
    (hbad : ¬ BlockGood (s.fw.manifest b) n data) : ∃ t, exec (.fwBlockWrite src data) s = .next t ∧
      t.fw = (s.taken src b n data).emptied b ∧ t.fw.slot b = .empty ∧
      Reported [] 0 { s with fw := t.fw, reply := { status := St.fwBlockInvalid } } t := by
  have hexec := execFwBlockWrite_of_block hshut ho h.length (State.fwTransfer_next_bad h hbad)
  have hrep : Reported [] 0 _ _ := (State.raise_reported [] { s with fw := (s.taken src b n data).emptied b } 0
    Ev.fwDownloadDiscarded [] (.inr rfl)).answer (r := ({ status := St.fwBlockInvalid } : Reply))
  have hfw := hrep.fw
  refine ⟨_, hexec, hfw, ?_, ?_⟩
  · exact (congrArg (·.slot b) hfw).trans FwState.emptied_slot
  · rw [hfw]
    exact hrep

/-! ### The verb FW DOWNLOAD (17 R509) -/

section
variable {asn : Nat} {sl : Slot} (hs : s.slots.find? asn = some sl) (hop : sl.op = 0x47) (hr : sl.ready 0 = true)
  (ht : sl.traced = false)
include hs hop hr ht

omit ht in
theorem execFwDownload_eq (hlen : data.length = 65536) (hfield : eVs sl.entry 4 4 = 65536) :
    exec (.fwDownload asn data) s = .next
      (let r := s.fwTransfer .host (eVs sl.entry 0 4) data (some (eVs sl.entry 8 1 % 2 == 1))
       if r.2 = St.success then r.1.partOk asn 0 else r.1.partFail asn 0 r.2) := by
  have hexec : exec (.fwDownload asn data) s = execFwDownload asn data s := rfl
  have hslice : sliceBytes data 0 65536 = data := by simp [sliceBytes, hlen]
  rw [hexec, execFwDownload, State.adminVerb_of_ready hs hop hr, hfield, hslice]

theorem execFwDownload_busy {x : Source} {t : Nat} (h : s.fw.lock = some (x, t)) (hne : x ≠ .host) :
    exec (.fwDownload asn data) s = .next (s.ends asn 0 fun p => { p with status := St.busyOtherSource, lba := none }) := by
  have hexec : exec (.fwDownload asn data) s = execFwDownload asn data s := rfl
  rw [hexec, execFwDownload, State.adminVerb_of_ready hs hop hr, State.fwTransfer_of_other h hne]
  dsimp only
  rw [if_neg (by decide), State.partFail_ends hs ht]

/-- R509: the next block of a verb whose LAST says wrongly that it is the last one. -/
theorem execFwDownload_not_last (h : NextBlock s .host b n data) (hoff : eVs sl.entry 0 4 = 65536 * n)
    (hfield : eVs sl.entry 4 4 = 65536) (hmore : 65536 * n + 65536 < mfBytes (s.fw.manifest b)) (hlast : eVs sl.entry 8 1 % 2 = 1) :
    exec (.fwDownload asn data) s =
      .next ((s.locked .host).ends asn 0 fun p => { p with status := St.invalidField, lba := none }) := by
  rw [execFwDownload_eq hs hop hr h.length hfield, hoff, hlast]
  dsimp only
  rw [show ((1 : Nat) == 1) = true from rfl, State.fwTransfer_not_last h hmore]
  dsimp only
  rw [if_neg (by decide), State.partFail_ends (s := s.locked .host) hs ht]

/-- R509, R510: the next block of a verb. -/
theorem execFwDownload_good (h : NextBlock s .host b n data) (hoff : eVs sl.entry 0 4 = 65536 * n)
    (hfield : eVs sl.entry 4 4 = 65536) (hmore : 65536 * n + 65536 < mfBytes (s.fw.manifest b)) (hlast : eVs sl.entry 8 1 % 2 = 0)
    (hgood : BlockGood (s.fw.manifest b) n data) :
    exec (.fwDownload asn data) s =
      .next (({ s with fw := { s.taken .host b n data with nextOffset := 65536 * n + 65536 } } : State).ends asn 0 fun p =>
        { p with status := St.success, result := 0, data := [] }) := by
  rw [execFwDownload_eq hs hop hr h.length hfield, hoff, hlast]
  dsimp only
  rw [show ((0 : Nat) == 1) = false from rfl, State.fwTransfer_next_more h hgood (by simp) hmore]
  dsimp only
  rw [if_pos rfl]
  exact congrArg Host.Outcome.next
    (State.partOk_gives (s := { s with fw := { s.taken .host b n data with nextOffset := 65536 * n + 65536 } }) hs ht 0 [])

end

/-- Settles O45: the lock, then a transfer of one block by its place in the download and its check. -/
theorem firmwareDownloads : Obligations.FirmwareDownloads := by
  unfold Obligations.FirmwareDownloads
  refine ⟨fun s src b data hshut => ⟨fun x t h hne => ?_, fun hfree => ⟨fun htrial => ?_, fun hidle hb hlen => ?_⟩⟩,
    fun s asn sl b data hs hop hr ht => ⟨fun x t h hne => execFwDownload_busy hs hop hr ht h hne,
      fun hfree hidle hb hlen n hoff h2 h2048 hfield hslot hnext hstands hmore => ?_⟩⟩
  · exact execFwBlockWrite_of_transfer hshut (State.fwTransfer_of_other h hne)
  · exact execFwBlockWrite_of_transfer hshut (State.fwTransfer_in_trial hfree htrial)
  · intro m begun
    refine ⟨fun h0 hmore hmost => ?_, fun h0 hnext => ?_, fun n hoff h2 h2048 hslot hnext hstands hfits => ?_⟩
    · exact execFwBlockWrite_of_block hshut h0 hlen (State.fwTransfer_begins hfree hidle hb hlen hmore hmost)
    · exact execFwBlockWrite_of_block hshut rfl hlen (State.fwTransfer_not_next hfree hidle hb hlen h0 hnext)
    · have hblock : NextBlock s src b n data :=
        ⟨hfree, hidle, hb, hlen, h2, h2048, hslot, hnext.trans hoff, hstands, hoff ▸ hfits⟩
      rw [hoff]
      refine ⟨fun hgood hmore => ?_, fun hgood hend hdigests => ?_, execFwBlockWrite_bad hshut hblock hoff⟩
      · exact execFwBlockWrite_of_block hshut hoff hlen (State.fwTransfer_next_more hblock hgood (by simp) hmore)
      · exact execFwBlockWrite_of_block hshut hoff hlen (State.fwTransfer_next_whole hblock hgood hend hdigests)
  · have hblock : NextBlock s .host b n data := ⟨hfree, hidle, hb, hlen, h2, h2048, hslot, hnext, hstands, by omega⟩
    exact ⟨execFwDownload_not_last hs hop hr ht hblock hoff hfield hmore,
      fun hlast hcrc hsha => execFwDownload_good hs hop hr ht hblock hoff hfield hmore hlast ⟨hcrc, hsha⟩⟩

end

end Sys2Proof.Machine

/-! PROOFS. O46: firmware activation and reversion (17 R517, R518, R522, R523). -/

namespace Sys2Proof.Machine

section
variable {s : State} {src : Source} {b : Bool} {asn : Nat} {sl : Slot}

/-! ### What an activation comes to -/

/-- Firmware state with a live activation started. -/
def State.liveStart (s : State) (b : Bool) (src : Source) : FwState :=
  { s.fw.record with
    lock := some (src, s.now), trial := .activating, liveBack := s.liveOk s.fw.running b, activating := some (b, true, false, 0)
    spun := s.fittedDies.filter fun (d : DieId) => (s.die d).spin.state == SpinState.atSpeed, checkFailed := false }

/-- Firmware state with an activation by reset started. -/
def State.resetStartFw (s : State) (b : Bool) (src : Source) : FwState :=
  { (s.fw.setSlot b .sprout).record with
    lock := some (src, s.now), trial := .sprout, trialBoot := true, liveBack := false, resetAt := some (s.now + 100000000)
    spun := [], windowStart := none, cleanSince := none, checkFailed := false }

/-- R518: live when the units take over each other's state, else by reset. -/
theorem State.activateChecked_of_sound (hsound : s.mfOk (s.fw.manifest b) = true ∧ s.fw.blocksOk b = true) :
    (s.locked src).activateChecked b = if s.liveOk b s.fw.running then ({ s with fw := s.liveStart b src }, .running)
      else ({ s with fw := s.resetStartFw b src }, .byReset) := by
  have hmf : (s.locked src).mfOk ((s.locked src).fw.manifest b) = true := hsound.1
  have hblocks : (s.locked src).fw.blocksOk b = true := hsound.2
  unfold State.activateChecked
  rw [hmf, hblocks, Bool.not_true, if_neg Bool.false_ne_true, if_neg Bool.false_ne_true]
  unfold State.activateSlot
  refine ite_congr rfl (fun _ => rfl) fun _ => ?_
  cases b <;> rfl

/-- An activation that every check passes: the inactive slot's, or PREVIOUS's. -/
structure MayActivate (s : State) (src : Source) (b : Bool) : Prop where
  free : ∀ x t, s.fw.lock = some (x, t) → x = src
  idle : s.fw.trial = .none
  quiet : s.fw.downloading = false
  sound : s.mfOk (s.fw.manifest b) = true ∧ s.fw.blocksOk b = true

theorem State.locked_quiet (hidle : s.fw.trial = .none) (hquiet : s.fw.downloading = false) :
    ¬ ((s.locked src).fw.trial ≠ .none ∨ (s.locked src).fw.downloading = true) := by
  rw [show (s.locked src).fw.trial = .none from hidle, show (s.locked src).fw.downloading = false from hquiet]
  simp

theorem State.fwActivate_of_new (h : MayActivate s src b)
    (hnew : s.fw.inactive = some b ∧ (s.fw.slot b = .verified ∨ s.fw.slot b = .interrupted)) :
    s.fwActivate src = (s.locked src).activateChecked b := by
  obtain ⟨hfree, hidle, hquiet, _⟩ := h
  unfold State.fwActivate
  rw [State.lockFor_of_free hfree]
  dsimp only
  rw [if_neg (State.locked_quiet hidle hquiet), show (s.locked src).fw.inactive = some b from hnew.1]
  exact if_pos hnew.2

theorem State.fwRevert_of_previous (h : MayActivate s src b)
    (hprev : s.fw.slotIn .previous = some b ∧ s.fw.minSecurity.toNat ≤ mfSecurity (s.fw.manifest b)) :
    s.fwRevert src = (s.locked src).activateChecked b := by
  obtain ⟨hfree, hidle, hquiet, _⟩ := h
  unfold State.fwRevert
  rw [State.lockFor_of_free hfree]
  dsimp only
  rw [if_neg (show ¬ ((s.locked src).fw.trial = .sprout ∧ (s.locked src).fw.resetAt.isNone = true) by
      rw [show (s.locked src).fw.trial = .none from hidle]; simp),
    if_neg (State.locked_quiet hidle hquiet), show (s.locked src).fw.slotIn .previous = some b from hprev.1]
  exact if_neg (Nat.not_lt.mpr hprev.2)

/-! ### Refusals and the fallback of a revert (17 R517, R522, R523) -/

theorem State.fwActivate_incomplete (hfree : ∀ x t, s.fw.lock = some (x, t) → x = src) (hidle : s.fw.trial = .none)
    (hquiet : s.fw.downloading = false) (hb : s.fw.inactive = some b) (hv : s.fw.slot b ≠ .verified)
    (hi : s.fw.slot b ≠ .interrupted) : s.fwActivate src = (s.locked src, .refused St.fwImageIncomplete) := by
  unfold State.fwActivate
  rw [State.lockFor_of_free hfree]
  dsimp only
  rw [if_neg (State.locked_quiet hidle hquiet), show (s.locked src).fw.inactive = some b from hb]
  exact if_neg (not_or.mpr ⟨hv, hi⟩)

theorem State.fwRevert_no_previous (hfree : ∀ x t, s.fw.lock = some (x, t) → x = src) (hidle : s.fw.trial = .none)
    (hquiet : s.fw.downloading = false) (hprev : s.fw.slotIn .previous = none) :
    s.fwRevert src = (s.locked src, .refused St.fwNoPrevious) := by
  unfold State.fwRevert
  rw [State.lockFor_of_free hfree]
  dsimp only
  rw [if_neg (show ¬ ((s.locked src).fw.trial = .sprout ∧ (s.locked src).fw.resetAt.isNone = true) by
      rw [show (s.locked src).fw.trial = .none from hidle]; simp),
    if_neg (State.locked_quiet hidle hquiet), show (s.locked src).fw.slotIn .previous = none from hprev]

/-- Firmware state of a sprout whose fallback to live units has started. -/
def State.backStart (s : State) (src : Source) : FwState :=
  let sprout := (s.fw.slotIn .sprout).getD s.fw.running
  { (s.fw.setSlot sprout .failed).record with
    lock := some (src, s.now), trial := .fallingBack, cause := 2, windowStart := none, cleanSince := none
    activating := some ((s.fw.slotIn .confirmed).getD (!sprout), true, true, 0) }

theorem State.fwRevert_of_sprout (hfree : ∀ x t, s.fw.lock = some (x, t) → x = src) (ht : s.fw.trial = .sprout)
    (hr : s.fw.resetAt = none) (hl : s.fw.liveBack = true) :
    s.fwRevert src = ({ s with fw := s.backStart src }, .running) := by
  unfold State.fwRevert
  rw [State.lockFor_of_free hfree]
  dsimp only
  rw [if_pos (show (s.locked src).fw.trial = .sprout ∧ (s.locked src).fw.resetAt.isNone = true from
    ⟨ht, by rw [show (s.locked src).fw.resetAt = none from hr]; rfl⟩)]
  unfold State.startFallback State.backStart
  extract_lets sprout back live u sprout'
  have hback : back = (s.fw.slotIn .confirmed).getD (!sprout') := rfl
  have hsprout : sprout = sprout' := rfl
  have hlive : live = true := hl
  simp only [u, hlive, if_true]
  clear_value sprout sprout' back
  subst hback hsprout
  cases sprout <;> rfl

/-! ### The verbs -/

section
variable (hs : s.slots.find? asn = some sl) (hr : sl.ready 0 = true) (ht : sl.traced = false) (hw : s.fw.waiter ≠ some asn)
include hs hr hw

theorem execFwActivate_eq (hop : sl.op = 0x48) : exec (.fwActivate asn) s = .next (fwVerb asn (s.fwActivate .host)) := by
  have hexec : exec (.fwActivate asn) s = execFwActivate asn s := rfl
  rw [hexec, execFwActivate, State.adminVerb_of_ready hs hop hr, if_neg hw]

theorem execFwRevert_eq (hop : sl.op = 0x49) : exec (.fwRevert asn) s = .next (fwVerb asn (s.fwRevert .host)) := by
  have hexec : exec (.fwRevert asn) s = execFwRevert asn s := rfl
  rw [hexec, execFwRevert, State.adminVerb_of_ready hs hop hr, if_neg hw]

omit hr hw in
include ht in
theorem fwVerb_refused {u : State} (hu : u.slots = s.slots) (st : BitVec 16) :
    fwVerb asn (u, .refused st) = u.ends asn 0 fun p => { p with status := st, lba := none } :=
  State.partFail_ends (hu ▸ hs) ht st

omit hr hw in
include ht in
theorem fwVerb_byReset {u : State} (hu : u.slots = s.slots) :
    fwVerb asn (u, .byReset) = u.ends asn 0 fun p => { p with status := St.success, result := 1, data := [] } :=
  State.partOk_gives (hu ▸ hs) ht 1 []

omit hr hw in
include ht in
/-- A verb that starts an activation. -/
theorem fwVerb_activates (hsound : s.mfOk (s.fw.manifest b) = true ∧ s.fw.blocksOk b = true) :
    (s.liveOk b s.fw.running = true → fwVerb asn ((s.locked .host).activateChecked b) =
      { s with fw := { s.liveStart b .host with waiter := some asn } }) ∧
    (s.liveOk b s.fw.running = false → fwVerb asn ((s.locked .host).activateChecked b) =
      ({ s with fw := s.resetStartFw b .host } : State).ends asn 0 fun p =>
        { p with status := St.success, result := 1, data := [] }) := by
  rw [State.activateChecked_of_sound hsound]
  refine ⟨fun hl => by rw [if_pos hl]; rfl, fun hl => ?_⟩
  rw [if_neg (by rw [hl]; exact Bool.false_ne_true)]
  exact fwVerb_byReset hs ht rfl

end

/-! ### The object FW_COMMAND -/

/-- A write that starts an activation. -/
theorem State.fwCommand_activates {v : Nat} (hsound : s.mfOk (s.fw.manifest b) = true ∧ s.fw.blocksOk b = true)
    (hstart : (if v = 1 then s.fwActivate src else s.fwRevert src) = (s.locked src).activateChecked b) :
    (s.liveOk b s.fw.running = true → s.fwCommand src v =
      (({ s with fw := { s.liveStart b src with waiterObj := true } } : State).put Obj.fwResult 0 1, St.success)) ∧
    (s.liveOk b s.fw.running = false → s.fwCommand src v =
      (({ s with fw := s.resetStartFw b src } : State).put Obj.fwResult 0 7, St.success)) := by
  unfold State.fwCommand
  rw [hstart, State.activateChecked_of_sound hsound]
  exact ⟨fun hl => by rw [if_pos hl]; rfl, fun hl => by rw [if_neg (by rw [hl]; exact Bool.false_ne_true)]⟩

theorem hostDoes_answers {f : State → State × BitVec 16} {r : State × BitVec 16} (hshut : s.shut = false) (h : f s = r) :
    hostDoes (fun s => let r := f s; { r.1 with reply := { status := r.2 } }) s =
      .next { r.1 with reply := { status := r.2 } } := by
  rw [← h, hostDoes, hshut]
  rfl

end

/-- Settles O46: the checks in their order, then the start by what the units' formats allow. -/
theorem firmwareActivates : Obligations.FirmwareActivates := by
  unfold Obligations.FirmwareActivates
  intro s src asn sl b
  refine ⟨?_, ?_, ?_, ?_, ?_, ?_, ?_⟩
  · rintro ⟨hs, hop, hr, ht, hw⟩ hfree ⟨hidle, hquiet⟩ hnew hsound
    have hexec := execFwActivate_eq hs hr hw hop
    rw [State.fwActivate_of_new ⟨hfree, hidle, hquiet, hsound⟩ hnew] at hexec
    obtain ⟨hlive, hreset⟩ := fwVerb_activates hs ht hsound
    exact ⟨fun hl => hexec.trans (congrArg _ (hlive hl)), fun hl => hexec.trans (congrArg _ (hreset hl))⟩
  · rintro ⟨hs, hop, hr, ht, hw⟩ hfree ⟨hidle, hquiet⟩ hprev hsound
    have hexec := execFwRevert_eq hs hr hw hop
    rw [State.fwRevert_of_previous ⟨hfree, hidle, hquiet, hsound⟩ hprev] at hexec
    obtain ⟨hlive, hreset⟩ := fwVerb_activates hs ht hsound
    exact ⟨fun hl => hexec.trans (congrArg _ (hlive hl)), fun hl => hexec.trans (congrArg _ (hreset hl))⟩
  · rintro hshut hfree ⟨hidle, hquiet⟩ hnew hsound
    obtain ⟨hlive, hreset⟩ := State.fwCommand_activates (v := 1) hsound
      (State.fwActivate_of_new ⟨hfree, hidle, hquiet, hsound⟩ hnew)
    exact ⟨fun hl => hostDoes_answers (f := fun s => s.fwCommand src 1) hshut (hlive hl),
      fun hl => hostDoes_answers (f := fun s => s.fwCommand src 1) hshut (hreset hl)⟩
  · rintro hshut hfree ⟨hidle, hquiet⟩ hprev hsound
    obtain ⟨hlive, hreset⟩ := State.fwCommand_activates (v := 2) hsound
      (State.fwRevert_of_previous ⟨hfree, hidle, hquiet, hsound⟩ hprev)
    exact ⟨fun hl => hostDoes_answers (f := fun s => s.fwCommand src 2) hshut (hlive hl),
      fun hl => hostDoes_answers (f := fun s => s.fwCommand src 2) hshut (hreset hl)⟩
  · rintro ⟨hs, hop, hr, ht, hw⟩ hfree ⟨hidle, hquiet⟩ hb hv hi
    have hexec := execFwActivate_eq hs hr hw hop
    rw [State.fwActivate_incomplete hfree hidle hquiet hb hv hi] at hexec
    exact hexec.trans (congrArg _ (fwVerb_refused (u := s.locked .host) hs ht rfl _))
  · rintro ⟨hs, hop, hr, ht, hw⟩ hfree ⟨hidle, hquiet⟩ hprev
    have hexec := execFwRevert_eq hs hr hw hop
    rw [State.fwRevert_no_previous hfree hidle hquiet hprev] at hexec
    exact hexec.trans (congrArg _ (fwVerb_refused (u := s.locked .host) hs ht rfl _))
  · rintro ⟨hs, hop, hr, ht, hw⟩ hfree hsprout hreset hlive
    have hexec := execFwRevert_eq hs hr hw hop
    rw [State.fwRevert_of_sprout hfree hsprout hreset hlive] at hexec
    exact hexec

end Sys2Proof.Machine

/-! PROOFS. O47: the changeover of units, the trial of a sprout and its end (17 R514, R519, R521, R522). -/

namespace Sys2Proof.Machine

section
variable {s : State} {b : Bool} {k : Nat}

/-! ### The changeover (17 R519) -/

theorem State.modFw_die {g : FwState → FwState} (d : DieId) : (s.modFw g).die d = s.die d := rfl

theorem Part.dies_pos (p : Part) : 0 < p.dies := by cases p <;> decide

/-- The die whose turn it is at a step of the changeover. -/
def State.turnOf (s : State) (k : Nat) : DieId := Fin.ofNat 8 (s.part.dies - 1 - k % s.part.dies)

/-- R519: one step of the changeover. -/
theorem execFwClassChangeover_eq (h : s.fw.activating = some (b, true, false, k)) :
    exec .fwClassChangeover s = .next
      (let u := if s.isolated (s.turnOf k) || !(s.die (s.turnOf k)).imaged then s
        else s.changeUnits (s.turnOf k) (classType (k / s.part.dies)) b
       let v := u.modFw fun f => { f with activating := some (b, true, false, k + 1) }
       if 5 * s.part.dies ≤ k + 1 then v.changeEnd b false else v) := by
  have hexec : exec .fwClassChangeover s = execFwClassChangeover s := rfl
  rw [hexec, execFwClassChangeover, h]
  rfl

/-- The block at the next step of a changeover. -/
def State.stepped (s : State) (b : Bool) (k : Nat) : State :=
  { s with fw := { s.fw with activating := some (b, true, false, k + 1) } }

theorem execFwClassChangeover_skips (h : s.fw.activating = some (b, true, false, k))
    (hskip : s.isolated (s.turnOf k) = true ∨ (s.die (s.turnOf k)).imaged = false) :
    exec .fwClassChangeover s = .next (if 5 * s.part.dies ≤ k + 1 then (s.stepped b k).changeEnd b false else s.stepped b k) := by
  have hcond : (s.isolated (s.turnOf k) || !(s.die (s.turnOf k)).imaged) = true := by
    rcases hskip with hi | hi
    · rw [hi, Bool.true_or]
    · rw [hi, Bool.not_false, Bool.or_true]
  rw [execFwClassChangeover_eq h, hcond]
  rfl

/-- R519: the second class is that of the spindle's units. -/
theorem execFwClassChangeover_second (h : s.fw.activating = some (b, true, false, k))
    (hi : s.isolated (s.turnOf k) = false) (himg : (s.die (s.turnOf k)).imaged = true) (hk : k / s.part.dies = 1) :
    Runs .fwClassChangeover s fun t =>
      (t.die (s.turnOf k)).eng.versions.getD 27 {} = (mfUnitOf (s.fw.manifest b) 3).entry 2 ∧
      t.fw = { s.fw with activating := some (b, true, false, k + 1) } ∧ Within [] (s.turnOf k) { s with fw := t.fw } t := by
  have hpos := s.part.dies_pos
  have hlt : k < 2 * s.part.dies := by
    have := Nat.div_add_mod k s.part.dies
    have := Nat.mod_lt k hpos
    rw [hk] at *
    omega
  have hexec : exec .fwClassChangeover s = .next
      ((s.setVersion (s.turnOf k) 27 ((mfUnitOf (s.fw.manifest b) 3).entry 2)).modFw fun f =>
        { f with activating := some (b, true, false, k + 1) }) := by
    rw [execFwClassChangeover_eq h, hi, himg, hk]
    dsimp only
    rw [if_neg (by omega)]
    rfl
  generalize (mfUnitOf (s.fw.manifest b) 3).entry 2 = v at *
  have hversion : s.setVersion (s.turnOf k) 27 v = s.modDie (s.turnOf k) fun x =>
    { x with eng := { x.eng with versions := x.eng.versions.setIfInBounds 27 v } } := rfl
  rw [hversion] at hexec
  refine Runs.intro hexec ⟨?_, rfl, rfl, fun e he => ?_⟩
  · rw [State.modFw_die, State.modDie_die_self]
    simp [Vector.getD]
  · rw [State.modFw_die, State.modDie_die_ne _ _ _ _ he]
    rfl

/-- The slot of a changeover's end becomes the SPROUT. -/
def State.sproutStart (s : State) (b : Bool) : FwState :=
  { (s.fw.setSlot b .sprout).record with
    trial := .sprout, activating := none, running := b, windowStart := some s.now, cleanSince := some s.now
    waiter := none, waiterObj := false }

/-- R519: at a changeover's end the slot becomes the SPROUT, and who waited for it is answered. -/
theorem State.changeEnd_stepped : ∃ u : State, u.slots = s.slots ∧ u.fw = s.sproutStart b ∧
    Logged 0 Ev.fwActivated.src Ev.fwActivated s u ∧
    (s.fw.waiter = none → (s.stepped b k).changeEnd b false = u) ∧
    ∀ asn, s.fw.waiter = some asn → (s.stepped b k).changeEnd b false = u.partOk asn 0 := by
  let v : State := { s with fw := { s.sproutStart b with waiter := s.fw.waiter, waiterObj := s.fw.waiterObj } }
  have hlog : Logged 0 Ev.fwActivated.src Ev.fwActivated v (v.raise 0 Ev.fwActivated) :=
    State.raise_logged v 0 Ev.fwActivated [] (.inr rfl) (by decide)
  have hrep : Reported [] 0 v (v.raise 0 Ev.fwActivated) := State.raise_reported [] v 0 Ev.fwActivated [] (.inr rfl)
  have hend : (s.stepped b k).changeEnd b false = (v.raise 0 Ev.fwActivated).fwAnswer (some 0) := by
    unfold State.changeEnd
    rw [if_neg Bool.false_ne_true]
    cases b <;> rfl
  have hfw : (v.raise 0 Ev.fwActivated).fw = v.fw := hrep.fw
  have hslots : (v.raise 0 Ev.fwActivated).slots = s.slots := hrep.slots
  rw [hend]
  generalize v.raise 0 Ev.fwActivated = w at *
  unfold State.fwAnswer
  extract_lets a x y
  have hput : x.slots = w.slots ∧ x.fw = w.fw ∧ x.dies = w.dies := by
    simp only [x]
    split
    · exact ⟨State.putSub_slots .., State.putSub_fw .., State.putSub_dies ..⟩
    · exact ⟨rfl, rfl, rfl⟩
  obtain ⟨hxslots, hxfw, hxdies⟩ := hput
  have ha : a = s.fw.waiter := (congrArg FwState.waiter hfw : w.fw.waiter = v.fw.waiter)
  clear_value a
  refine ⟨y, hxslots.trans hslots, ?_, ?_, fun h => ?_, fun asn h => ?_⟩
  · exact (congrArg (fun f : FwState => { f with waiter := none, waiterObj := false }) (hxfw.trans hfw)).trans rfl
  · have hdie : y.die 0 = w.die 0 := congrArg (fun ds => ds[(0 : DieId)]) hxdies
    unfold Logged at hlog ⊢
    rw [hdie]
    exact hlog
  · obtain rfl := ha.trans h
    rfl
  · obtain rfl := ha.trans h
    rfl

/-! ### Resets and fallbacks (17 R518, R522) -/

theorem State.packageReset_fw {but : Option Nat} : (s.packageReset but).fw = s.fw := by
  unfold State.packageReset
  split <;> rfl

/-- R518: the reset of an activation by reset. -/
theorem execFwResetActivationReset_runs (hr : s.fw.resetAt.isSome = true) (hw : s.warm = none) :
    Runs .fwResetActivationReset s fun t =>
      t.fw = { s.fw with resetAt := none } ∧ t.warm = some (s.fittedDies.filter fun d => !(s.isolated d)) ∧ t.dies = s.dies ∧
      ∀ asn sl, t.slots.find? asn = some sl → sl.orphan = true := by
  have hexec : exec .fwResetActivationReset s = .next (({ s with fw := { s.fw with resetAt := none } } : State).packageReset none) := by
    have h : exec .fwResetActivationReset s = execFwResetActivationReset s := rfl
    rw [h, execFwResetActivationReset, hr]
    rfl
  obtain ⟨hwarm, hdies, _, horphan⟩ := State.packageReset_spec (s := { s with fw := { s.fw with resetAt := none } }) hw
  exact Runs.intro hexec ⟨State.packageReset_fw, hwarm, hdies, fun asn sl h => (horphan _ (KMap.mem_of_find? h)).1⟩

/-- The slot of a sprout that falls back. -/
def FwState.failedSprout (f : FwState) : FwState :=
  { (f.setSlot ((f.slotIn .sprout).getD f.running) .failed).record with
    trial := .fallingBack, cause := 1, windowStart := none, cleanSince := none, activating := none }

/-- R522: the window ends. -/
theorem execFwConfirmWindowExpiry_eq (ht : s.fw.trial = .sprout) (hw : s.fw.windowStart.isSome = true) :
    exec .fwConfirmWindowExpiry s = .next (s.startFallback 1) := by
  have h : exec .fwConfirmWindowExpiry s = execFwConfirmWindowExpiry s := rfl
  rw [h, execFwConfirmWindowExpiry, ht, hw]
  rfl

theorem State.startFallback_live (hl : s.fw.liveBack = true) : s.startFallback 1 = { s with fw := { s.fw.failedSprout with
    activating := some ((s.fw.slotIn .confirmed).getD (!((s.fw.slotIn .sprout).getD s.fw.running)), true, true, 0) } } := by
  unfold State.startFallback
  rw [hl]
  rfl

theorem State.startFallback_reset (hl : s.fw.liveBack = false) :
    s.startFallback 1 = ({ s with fw := s.fw.failedSprout } : State).packageReset none := by
  unfold State.startFallback
  rw [hl]
  rfl

/-! ### Confirmation (17 R521) -/

theorem ofLeBytes_lt (bs : List Byte) : ofLeBytes bs < 256 ^ bs.length := by
  induction bs with
  | nil => simp [ofLeBytes]
  | cons x xs ih =>
    have hx : x.toNat < 256 := x.isLt
    simp only [ofLeBytes, List.length_cons, pow_succ]
    omega

theorem mfSecurity_lt (m : List Byte) : mfSecurity m < 2 ^ 32 := by
  have hle : ((m.drop 16).take 4).length ≤ 4 := by simp
  calc mfSecurity m
    _ < 256 ^ ((m.drop 16).take 4).length := ofLeBytes_lt _
    _ ≤ 256 ^ 4 := Nat.pow_le_pow_right (by decide) hle

/-- Firmware state with the running slot confirmed. -/
def FwState.confirmed (f : FwState) : FwState :=
  let new := f.running
  let low := min (mfSecurity (f.manifest new)) (mfSecurity (f.manifest (!new)))
  { ((f.setSlot new .confirmed).setSlot (!new) .previous).record with
    trial := .none, liveBack := false, windowStart := none, cleanSince := none, confirmedFlag := true, lock := none
    minSecurity := if f.minSecurity.toNat < low then BitVec.ofNat 32 low else f.minSecurity
    privPending := f.privDigests new != f.privDigests f.bootSlot }

theorem FwState.confirmed_spec (f : FwState) : let g := f.confirmed
    g.slot f.running = .confirmed ∧ g.slot (!f.running) = .previous ∧ g.trial = .none ∧ g.lock = none ∧
    g.minSecurity.toNat = max f.minSecurity.toNat
      (min (mfSecurity (f.manifest f.running)) (mfSecurity (f.manifest (!f.running)))) ∧
    g.nor = f.nor ∧ g.running = f.running ∧ g.seq = f.seq + 1 ∧ g.confirmedFlag = true := by
  unfold FwState.confirmed
  extract_lets new low g
  have hlow : low < 2 ^ 32 := lt_of_le_of_lt (min_le_left _ _) (mfSecurity_lt _)
  have hnew : f.running = new := rfl
  have hmin : (if f.minSecurity.toNat < low then BitVec.ofNat 32 low else f.minSecurity).toNat = max f.minSecurity.toNat low := by
    split
    · rw [BitVec.toNat_ofNat, Nat.mod_eq_of_lt hlow]; omega
    · omega
  have hslots : g.slot new = .confirmed ∧ g.slot (!new) = .previous ∧ g.nor = f.nor ∧ g.running = f.running ∧ g.seq = f.seq + 1 := by
    simp only [g]
    clear_value low new
    cases new <;> exact ⟨rfl, rfl, rfl, rfl, rfl⟩
  obtain ⟨hnewslot, holdslot, hnor, hrun, hseq⟩ := hslots
  exact ⟨hnewslot, holdslot, rfl, rfl, hmin, hnor, hrun, hseq, rfl⟩

theorem execFwConfirmed_eq (ht : s.fw.trial = .sprout) (hw : s.fw.windowStart.isSome = true) :
    exec .fwConfirmed s = .next (if s.sproutOk then ({ s with fw := s.fw.confirmed } : State).raise 0 Ev.fwConfirmed
      else { s with fw := { s.fw with cleanSince := some s.now } }) := by
  have h : exec .fwConfirmed s = execFwConfirmed s := rfl
  rw [h, execFwConfirmed, if_pos ⟨ht, hw⟩]
  rfl

/-! ### The lock lapses (17 R514) -/

theorem execFwLockLapsed_eq (hl : s.fw.lock.isSome = true) :
    exec .fwLockLapsed s = .next (match s.fw.slotIn .downloading with
      | none => { s with fw := { s.fw with lock := none } }
      | some b => (({ s with fw := { s.fw with lock := none } } : State).discardDownload b).raise 0 Ev.fwLockLapsed) := by
  obtain ⟨p, hp⟩ := Option.isSome_iff_exists.1 hl
  have h : exec .fwLockLapsed s = execFwLockLapsed s := rfl
  rw [h, execFwLockLapsed, hp]
  rfl

theorem FwState.emptied_spec (f : FwState) : let g := f.emptied b
    g.lock = f.lock ∧ g.slot b = .empty ∧ g.slot (!b) = f.slot (!b) ∧ g.nextOffset = 0 ∧ g.discardedFlag = true ∧
    g.factory b = true := by
  have hfactory : (f.emptied b).factory b = true := by
    have hnor : (f.emptied b).nor = f.nor.filter fun k _ => k / 2048 != slotNo b := by cases b <;> rfl
    simp only [FwState.factory, hnor, Bool.not_eq_true', List.any_eq_false]
    intro k hk
    obtain ⟨e, he, rfl⟩ := List.mem_map.1 hk
    simpa using (List.mem_filter.1 he).2
  cases b <;> exact ⟨rfl, rfl, rfl, rfl, rfl, hfactory⟩

/-- R514: with the lock, the download is given up. -/
theorem execFwLockLapsed_discards (hl : s.fw.lock.isSome = true) (hb : s.fw.slotIn .downloading = some b) :
    Runs .fwLockLapsed s fun t =>
      t.fw.lock = none ∧ t.fw.slot b = .empty ∧ t.fw.slot (!b) = s.fw.slot (!b) ∧ t.fw.nextOffset = 0 ∧
      t.fw.discardedFlag = true ∧ t.fw.factory b = true ∧ Reported [] 0 { s with fw := t.fw } t := by
  have hexec : exec .fwLockLapsed s = .next ((({ s with fw := ({ s.fw with lock := none } : FwState).emptied b } : State).raise 0
      Ev.fwDownloadDiscarded).raise 0 Ev.fwLockLapsed) := by
    rw [execFwLockLapsed_eq hl, hb]
    rfl
  have hrep : Reported [] 0 ({ s with fw := ({ s.fw with lock := none } : FwState).emptied b } : State) _ :=
    (State.raise_reported [] _ 0 Ev.fwDownloadDiscarded [] (.inr rfl)).trans (State.raise_reported [] _ 0 Ev.fwLockLapsed [] (.inr rfl))
  have hfw := hrep.fw
  generalize (({ s with fw := ({ s.fw with lock := none } : FwState).emptied b } : State).raise 0
    Ev.fwDownloadDiscarded).raise 0 Ev.fwLockLapsed = t at *
  refine Runs.intro hexec ?_
  obtain ⟨hlock, hslot, hother, hnext, hflag, hfactory⟩ := FwState.emptied_spec (b := b) { s.fw with lock := none }
  refine ⟨?_, ?_, ?_, ?_, ?_, ?_, ?_⟩
  · exact (congrArg FwState.lock hfw).trans hlock
  · exact (congrArg (FwState.slot · b) hfw).trans hslot
  · exact (congrArg (FwState.slot · (!b)) hfw).trans (hother.trans (by cases b <;> rfl))
  · exact (congrArg FwState.nextOffset hfw).trans hnext
  · exact (congrArg FwState.discardedFlag hfw).trans hflag
  · exact (congrArg (FwState.factory · b) hfw).trans hfactory
  · rw [hfw]
    exact hrep

end

/-- Settles O47: a step of the changeover, the confirmation and the fallback, and the lock. -/
theorem firmwareTrial : Obligations.FirmwareTrial := by
  unfold Obligations.FirmwareTrial
  intro s b
  refine ⟨fun k hact => ⟨fun hskip hk => ?_, fun hi himg hk => execFwClassChangeover_second hact hi himg hk, fun hskip hk => ?_⟩,
    fun hr hw => execFwResetActivationReset_runs hr hw, fun ht hw hok => ?_, fun ht hw hok => ?_, fun ht hw => ⟨fun hl => ?_, fun hl hwarm => ?_⟩,
    fun hl => ⟨fun hb => ?_, execFwLockLapsed_discards hl⟩⟩
  · rw [execFwClassChangeover_skips hact hskip, if_neg (by omega)]
    rfl
  · obtain ⟨u, hslots, hfw, hlog, hnone, hsome⟩ := State.changeEnd_stepped (s := s) (b := b) (k := k)
    have hexec := execFwClassChangeover_skips hact hskip
    rw [if_pos (by omega)] at hexec
    refine ⟨u, hslots, hfw, hlog, fun hwait => ?_, fun asn sl hwait hs ht => ?_⟩
    · rw [hexec, hnone hwait]
    · rw [hexec, hsome asn hwait]
      exact congrArg _ (State.partOk_gives (hslots ▸ hs) ht 0 [])
  · have hexec := execFwConfirmed_eq ht hw
    rw [if_pos hok] at hexec
    have hrep : Reported [] 0 ({ s with fw := s.fw.confirmed } : State) _ := State.raise_reported [] _ 0 Ev.fwConfirmed [] (.inr rfl)
    have hlog := State.raise_logged ({ s with fw := s.fw.confirmed } : State) 0 Ev.fwConfirmed [] (.inr rfl) (by decide)
    have hfw := hrep.fw
    generalize ({ s with fw := s.fw.confirmed } : State).raise 0 Ev.fwConfirmed = t at *
    refine Runs.intro hexec ?_
    rw [hfw]
    obtain ⟨h1, h2, h3, h4, h5, h6, h7, h8, h9⟩ := s.fw.confirmed_spec
    exact ⟨h1, h2, h3, h4, h5, h6, h7, h8, h9, hlog, hrep⟩
  · rw [execFwConfirmed_eq ht hw, if_neg (by rw [hok]; exact Bool.false_ne_true)]
  · rw [execFwConfirmWindowExpiry_eq ht hw, State.startFallback_live hl]
    rfl
  · have hexec := execFwConfirmWindowExpiry_eq ht hw
    rw [State.startFallback_reset hl] at hexec
    obtain ⟨hreset, hdies, _⟩ := State.packageReset_spec (s := { s with fw := s.fw.failedSprout }) hwarm
    exact Runs.intro hexec ⟨State.packageReset_fw, hreset, hdies⟩
  · rw [execFwLockLapsed_eq hl, hb]

end Sys2Proof.Machine

/-! PROOFS. O48: attestation reports and the restarts of the monitor (17 R516, R527, R528). -/

namespace Sys2Proof.Machine

/-! ### Isolation leaves the engines' part of a die (20 R583) -/

theorem Die.monRestarts_apart : Apart fun x : Die => x.eng.monRestarts :=
  ⟨fun _ _ => rfl, fun _ _ => rfl, fun _ _ => rfl, fun _ _ _ => rfl, fun _ _ _ _ _ => rfl, fun _ _ => rfl, fun _ _ _ => rfl⟩

section
variable {s : State} {d : DieId}

theorem State.beginSave_across {α : Type} {f : Die → α} (hf : ∀ x v, f { x with data := v } = f x) : Across f s (s.beginSave d) := by
  have hdata : ∀ (u : State) (g : DieData → DieData), Across f u (u.modData d g) := fun u g => Across.modDie fun _ => hf _ _
  unfold State.beginSave
  extract_lets u x a v
  have hv : Across f s v := ((hdata s _).trans (hdata u _)).trans .bump
  exact .ite hv (hv.trans ((hdata v fun x => { x with acornState := .saveFail, saving := none }).trans (.of_dies rfl)))

theorem State.isolate_monRestarts {cause : Nat} : Across (fun x => x.eng.monRestarts) s (s.isolate d cause) := by
  have ha := Die.monRestarts_apart
  unfold State.isolate
  split
  · exact .refl
  · extract_lets up a b c e g k m n o
    have hsa : Across (fun x => x.eng.monRestarts) s a := (Wide.of_step (.calAbortIf ha.runs (by simp))).across
    have hb : Across (fun x => x.eng.monRestarts) a b := .of_kept (KeptBy.foldl (fun _ _ => KeptBy.ite
      ((KeptBy.modHead ha.heads).trans (KeptBy.reported (fun _ _ => rfl) (State.count_reported [] _ d _ _))) .refl) _ _)
    have hc : Across (fun x => x.eng.monRestarts) b c := .modDie fun _ => rfl
    have he : Across (fun x => x.eng.monRestarts) c e := (Across.failParts ha.obs ha.back).trans .dropDraws
    have hg : Across (fun x => x.eng.monRestarts) e g := .put
    have hk : Across (fun x => x.eng.monRestarts) g k := .ite (Wide.phaseReferenceGone ha).across .refl
    have hm : Across (fun x => x.eng.monRestarts) k m := (Across.raise ha.obs).trans (.snapDone ha.obs ha.back)
    have hn : Across (fun x => x.eng.monRestarts) m n := .ite (State.beginSave_across fun _ _ => rfl) .refl
    have ho : Across (fun x => x.eng.monRestarts) n o := .modDie fun _ => rfl
    have hend : Across (fun x => x.eng.monRestarts) o ((o.unloadBoth d).spinStopCommand d) :=
      ((Wide.unloadBoth ha).trans (.spinStopCommand ha)).across
    exact ((((((((hsa.trans hb).trans hc).trans he).trans hg).trans hk).trans hm).trans hn).trans ho).trans hend

/-- R486, R528: a failed die is isolated, and the anchor's failure is fatal; the monitor's restarts stand. -/
theorem State.dieFailed_spec : Across (fun x => x.eng.monRestarts) s (s.dieFailed d) ∧
    (d.val ≠ 0 → (s.dieFailed d).isolated d = true) ∧ (d.val = 0 → (s.dieFailed d).host.fatal = true) := by
  have hraise : Across (fun x => x.eng.monRestarts) s (s.raise d Ev.dieFailed) := .raise Die.monRestarts_apart.obs
  unfold State.dieFailed
  extract_lets u
  by_cases h0 : d.val = 0
  · rw [if_pos h0]
    exact ⟨hraise.trans (.of_dies rfl), fun h => absurd h0 h, fun _ => rfl⟩
  · rw [if_neg h0]
    refine ⟨hraise.trans State.isolate_monRestarts, fun _ => ?_, fun h => absurd h h0⟩
    rw [State.isolated, State.isolate_life]
    rfl

end

/-! ### Restarts of the monitor (17 R528) -/

section
variable {s : State} {d : DieId}

/-- The block with the times of the monitor's restarts at a die. -/
def State.restartedMonitor (s : State) (d : DieId) : State :=
  s.modEng d fun x => { x with monRestarts := restartTimes (s.die d).clock.time4 (s.die d).eng.monRestarts }

/-- KEY LOADs in progress on a die. -/
def State.keyLoads (s : State) (d : DieId) : List Nat := (s.slots.entries.filter fun e => e.2.op == 0x4B && e.2.ready d).map (·.1)

/-- A KEY LOAD fails with the monitor. -/
def State.keyLoadFails (s : State) (d : DieId) (asn : Nat) : State :=
  (s.modData d fun x => { x with unwrapFail := true }).partFail asn d St.keyUnwrapFailed

/-- An attestation fails with the monitor. -/
def State.attestFails (s : State) : State :=
  if s.fw.nonce.isSome then (s.modFw fun f => { f with nonce := none }).put Obj.attestResult 0 2 else s

theorem execMonitorRestart_eq (hd : s.fitted d = true) : exec (.monitorRestart d) s = .next
    (let t := ((s.keyLoads d).foldl (fun s a => s.keyLoadFails d a) (s.restartedMonitor d)).attestFails
     if 3 ≤ (restartTimes (s.die d).clock.time4 (s.die d).eng.monRestarts).length then
       (t.modEng d fun x => { x with monRestarts := [] }).dieFailed d
     else t) := exec_onDie (execMonitorRestart d s) rfl rfl hd

/-- R528: three restarts within 10 s fail the die. -/
theorem execMonitorRestart_third (hd : s.fitted d = true)
    (h3 : 3 ≤ (restartTimes (s.die d).clock.time4 (s.die d).eng.monRestarts).length) :
    Runs (.monitorRestart d) s fun t => (t.die d).eng.monRestarts = [] ∧ (d.val ≠ 0 → t.isolated d = true) ∧
      (d.val = 0 → t.host.fatal = true) := by
  have hexec := execMonitorRestart_eq hd
  dsimp only at hexec
  rw [if_pos h3] at hexec
  generalize ((s.keyLoads d).foldl (fun s a => s.keyLoadFails d a) (s.restartedMonitor d)).attestFails = u at hexec
  refine Runs.intro hexec ?_
  obtain ⟨hacross, hiso, hfatal⟩ := State.dieFailed_spec (s := u.modEng d fun x => { x with monRestarts := [] }) (d := d)
  refine ⟨(hacross d).trans ?_, hiso, hfatal⟩
  rw [State.modEng_eq, State.modDie_die_self]

theorem execMonitorRestart_lives (hd : s.fitted d = true)
    (h3 : (restartTimes (s.die d).clock.time4 (s.die d).eng.monRestarts).length < 3) :
    exec (.monitorRestart d) s =
      .next ((s.keyLoads d).foldl (fun s a => s.keyLoadFails d a) (s.restartedMonitor d)).attestFails := by
  rw [execMonitorRestart_eq hd]
  dsimp only
  rw [if_neg (by omega)]

theorem State.attestFails_of_none (h : s.fw.nonce = none) : s.attestFails = s := if_neg (by simp [h])

theorem State.attestFails_of_some (h : s.fw.nonce.isSome = true) :
    s.attestFails = ({ s with fw := { s.fw with nonce := none } } : State).put Obj.attestResult 0 2 := if_pos h

/-- A KEY LOAD in progress fails. -/
theorem State.restarted_keyLoadFails {asn : Nat} {sl : Slot} (hs : s.slots.find? asn = some sl) (ht : sl.traced = false) :
    (s.restartedMonitor d).keyLoadFails d asn = (s.setDie d { s.die d with
      eng := { (s.die d).eng with monRestarts := restartTimes (s.die d).clock.time4 (s.die d).eng.monRestarts }
      data := { (s.die d).data with unwrapFail := true } }).ends asn d fun p =>
        { p with status := St.keyUnwrapFailed, lba := none } := by
  have hmod : (s.restartedMonitor d).modData d (fun x => { x with unwrapFail := true }) = s.setDie d { s.die d with
      eng := { (s.die d).eng with monRestarts := restartTimes (s.die d).clock.time4 (s.die d).eng.monRestarts }
      data := { (s.die d).data with unwrapFail := true } } := by
    simp only [State.restartedMonitor, State.modEng_eq, State.modData_eq, State.modDie, State.setDie_setDie, State.setDie_die_self]
  rw [State.keyLoadFails, hmod]
  exact State.partFail_ends (s := s.setDie d _) hs ht _

theorem State.fw_posting : Posting fun s t : State => t.fw = s.fw := ⟨fun h k => k.trans h, fun _ h _ => h, fun _ => rfl⟩

theorem State.keyLoadFails_fw {asn : Nat} : ((s.restartedMonitor d).keyLoadFails d asn).fw = s.fw := by
  have hpart : ∀ u : State, (u.partFail asn d St.keyUnwrapFailed).fw = u.fw := fun u =>
    State.fw_posting.partEnd (fun _ _ => rfl) fun s sl => by
      unfold State.ingressBack
      split <;> rfl
  exact hpart _

/-! ### Attestation (17 R527) -/

theorem execAttestNonceWrite_eq {src : Source} {nonce : List Byte} (hshut : s.shut = false) :
    exec (.attestNonceWrite src nonce) s = .next (if nonce.length = 32 then { s.attestStart nonce with reply := {} }
      else { s with reply := { status := St.tableInvalid } }) := by
  have hexec : exec (.attestNonceWrite src nonce) s = execAttestNonceWrite src nonce s := rfl
  rw [hexec, execAttestNonceWrite, hostDoes, hshut]
  cases src <;> rfl

/-- The messages that members of a list are sent. -/
theorem State.send_digests (l : List DieId) (u : State) (hl : ∀ d ∈ l, d.val ≠ 0) :
    let t := l.foldl (fun s d => (s.send d 0 0x25 (Config.microResult s.fresh 0).toNat).useFresh) u
    t.fw = u.fw ∧ t.objs = u.objs ∧ t.dies = u.dies ∧ t.slots = u.slots ∧ t.doms = u.doms ∧ u.out <:+ t.out ∧
      ∀ d ∈ l, ∃ v, Out.fabric d 0 0x25 v ∈ t.out := by
  induction l generalizing u with
  | nil => exact ⟨rfl, rfl, rfl, rfl, rfl, List.suffix_rfl, by simp⟩
  | cons d l ih =>
    have hsend : u.send d 0 0x25 (Config.microResult u.fresh 0).toNat =
        u.emit (.fabric d 0 0x25 (BitVec.ofNat 64 (Config.microResult u.fresh 0).toNat)) :=
      if_neg fun h => hl d (by simp) (by rw [h]; rfl)
    obtain ⟨hfw, hobjs, hdies, hslots, hdoms, hout, hmem⟩ :=
      ih ((u.send d 0 0x25 (Config.microResult u.fresh 0).toNat).useFresh) fun e he => hl e (by simp [he])
    rw [hsend] at hfw hobjs hdies hslots hdoms hout hmem
    rw [List.foldl_cons, hsend]
    refine ⟨hfw, hobjs, hdies, hslots, hdoms, (List.suffix_cons _ _).trans hout, fun e he => ?_⟩
    rcases List.mem_cons.1 he with rfl | he
    · exact ⟨_, hout.subset (by exact List.mem_cons_self ..)⟩
    · exact hmem e he

/-- R527: a report begins. -/
theorem State.attestStart_spec (nonce : List Byte) : let t := s.attestStart nonce
    t.fw = { s.fw with nonce := some nonce } ∧ t.get Obj.attestResult 0 = 1 ∧ t.dies = s.dies ∧ t.slots = s.slots ∧
    t.doms = s.doms.erase (objKey Obj.attestReport.index Obj.attestReport.sub 0) ∧
    ∀ d, s.fitted d = true → d.val ≠ 0 → s.isolated d = false → ∃ v, Out.fabric d 0 0x25 v ∈ t.out := by
  unfold State.attestStart
  extract_lets u v
  have hv : v.fw = { s.fw with nonce := some nonce } ∧ v.get Obj.attestResult 0 = 1 ∧ v.dies = s.dies ∧ v.slots = s.slots ∧
      v.doms = s.doms.erase (objKey Obj.attestReport.index Obj.attestReport.sub 0) ∧ v.part = s.part :=
    ⟨State.putSub_fw .., State.getSub_putSub_self .., State.putSub_dies .., State.putSub_slots .., State.putSub_doms ..,
      State.putSub_part ..⟩
  clear_value v u
  obtain ⟨hfw, hget, hdies, hslots, hdoms, hpart⟩ := hv
  obtain ⟨tfw, tobjs, tdies, tslots, tdoms, -, tout⟩ :=
    State.send_digests (v.fittedDies.filter fun d => d.val != 0 && !(v.isolated d)) v
      fun d hd => by
        have := (List.mem_filter.1 hd).2
        simp only [Bool.and_eq_true, bne_iff_ne] at this
        exact this.1
  refine ⟨tfw.trans hfw, (State.get_of_objs_eq tobjs _ _).trans hget, tdies.trans hdies, tslots.trans hslots, tdoms.trans hdoms,
    fun d hd h0 hi => tout d (List.mem_filter.2 ⟨?_, ?_⟩)⟩
  · rw [State.mem_fittedDies]
    simpa [State.fitted, hpart] using hd
  · have hiso : v.isolated d = false := by simpa [State.isolated, State.die, hdies] using hi
    simp [h0, hiso]

end

/-! ### The report (17 R527) -/

theorem ofLeBytes_leBytes (n v : Nat) : ofLeBytes (leBytes n v) = v % 256 ^ n := by
  induction n generalizing v with
  | zero => simp [leBytes, ofLeBytes, Nat.mod_one]
  | succ n ih =>
    rw [leBytes, ofLeBytes, ih, BitVec.toNat_ofNat, show (2 : Nat) ^ 8 = 256 from rfl, pow_succ', Nat.mod_mul]

/-- What stands in a list at a place. -/
theorem List.slice_at {α : Type} {p x q : List α} {i n : Nat} (hp : p.length = i) (hx : x.length = n) :
    ((p ++ (x ++ q)).drop i).take n = x := by
  rw [List.drop_left' hp, List.take_left' hx]

theorem length_attestEntry (die typ state : Nat) (u : FwUnit) (iso : Bool) : (attestEntry die typ state u iso).length = 64 := by
  cases iso <;> simp [attestEntry, length_leBytes, length_sliceBytes]

theorem State.attestEntries_size (s : State) : ∀ e ∈ s.attestEntries, e.length = 64 := by
  intro e he
  rcases List.mem_append.1 he with he | he
  · obtain ⟨d, -, he⟩ := List.mem_flatMap.1 he
    obtain ⟨t, -, rfl⟩ := List.mem_map.1 he
    exact length_attestEntry ..
  · split at he
    · obtain ⟨t, -, rfl⟩ := List.mem_map.1 he
      exact length_attestEntry ..
    · exact absurd he List.not_mem_nil

theorem State.attestEntries_length (s : State) : s.attestEntries.length ≤ 58 := by
  have hdies : s.fittedDies.length ≤ 8 := (List.length_filter_le _ _).trans (by simp)
  have hconf : ∀ (p : Bool) (f : Nat → List Byte), (if p then [1, 2].map f else []).length ≤ 2 := fun p f => by
    cases p <;> simp
  unfold State.attestEntries
  dsimp only
  rw [List.length_append]
  refine (Nat.add_le_add_left (hconf _ _) _).trans ?_
  simp [List.length_flatMap]
  omega

theorem length_flatten_of_size {l : List (List Byte)} {n : Nat} (h : ∀ e ∈ l, e.length = n) : l.flatten.length = n * l.length := by
  induction l with
  | nil => simp
  | cons x xs ih =>
    rw [List.flatten_cons, List.length_append, h x (by simp), ih fun e he => h e (by simp [he]), List.length_cons, Nat.mul_succ,
      Nat.add_comm]

/-- The header of a report after its counts, and the entries. -/
def State.attestRest (s : State) : List Byte :=
  leBytes 4 s.fw.minSecurity.toNat ++ [BitVec.ofNat 8 s.fw.slot0.code, BitVec.ofNat 8 s.fw.slot1.code,
    BitVec.ofNat 8 s.fw.trial.code] ++ leBytes 9 0 ++ s.attestEntries.flatten

/-- What is signed of a report. -/
def State.attestBody (s : State) (nonce : List Byte) : List Byte :=
  leBytes 4 0x5454414B ++ (leBytes 2 1 ++ (leBytes 2 s.attestEntries.length ++ (nonce ++ (leBytes 8 s.now ++ s.attestRest))))

theorem State.attestReport_eq (s : State) (nonce : List Byte) : s.attestReport nonce =
    s.attestBody nonce ++ sliceBytes (Config.ecdsaSign 0 (Config.sha384 (s.attestBody nonce))) 0 96 := by
  have hbody : leBytes 4 0x5454414B ++ leBytes 2 1 ++ leBytes 2 s.attestEntries.length ++ nonce ++ leBytes 8 s.now ++
      leBytes 4 s.fw.minSecurity.toNat ++ [BitVec.ofNat 8 s.fw.slot0.code, BitVec.ofNat 8 s.fw.slot1.code,
        BitVec.ofNat 8 s.fw.trial.code] ++ leBytes 9 0 ++ s.attestEntries.flatten = s.attestBody nonce := by
    simp only [State.attestBody, State.attestRest, List.append_assoc]
  unfold State.attestReport
  dsimp only
  rw [hbody]

theorem State.attestBody_length (s : State) {nonce : List Byte} (h : nonce.length = 32) :
    (s.attestBody nonce).length = 64 + 64 * s.attestEntries.length := by
  simp only [State.attestBody, State.attestRest, List.length_append, length_leBytes, h,
    length_flatten_of_size s.attestEntries_size, List.length_cons, List.length_nil]
  omega

/-- R527: the layout of a report. -/
theorem State.attestReport_layout (s : State) {n : List Byte} (h : n.length = 32) :
    let r := s.attestReport n
    let k := s.attestEntries.length
    r.length = 160 + 64 * k ∧ ofLeBytes (r.take 4) = 0x5454414B ∧ (r.drop 8).take 32 = n ∧
    ofLeBytes ((r.drop 6).take 2) = k ∧ ofLeBytes ((r.drop 40).take 8) = s.now ∧
    r.drop (64 + 64 * k) = sliceBytes (Config.ecdsaSign 0 (Config.sha384 (r.take (64 + 64 * k)))) 0 96 := by
  have hbody := s.attestBody_length h
  have hk := s.attestEntries_length
  have hnow : s.now < 2 ^ 64 := Nat.mod_lt _ (by decide)
  intro r k
  have hr : r = s.attestBody n ++ sliceBytes (Config.ecdsaSign 0 (Config.sha384 (s.attestBody n))) 0 96 := s.attestReport_eq n
  generalize hsig : sliceBytes (Config.ecdsaSign 0 (Config.sha384 (s.attestBody n))) 0 96 = sig at hr
  have hsiglen : sig.length = 96 := hsig ▸ length_sliceBytes ..
  refine ⟨?_, ?_, ?_, ?_, ?_, ?_⟩
  · rw [hr, List.length_append, hbody, hsiglen]
    omega
  · rw [hr, State.attestBody, List.append_assoc, List.take_left' (length_leBytes ..), ofLeBytes_leBytes]
    rfl
  · have hsplit : r = (leBytes 4 0x5454414B ++ leBytes 2 1 ++ leBytes 2 k) ++ (n ++ (leBytes 8 s.now ++ s.attestRest ++ sig)) := by
      simp only [hr, State.attestBody, List.append_assoc, k]
    rw [hsplit]
    exact List.slice_at (by simp [length_leBytes]) h
  · have hsplit : r = (leBytes 4 0x5454414B ++ leBytes 2 1) ++ (leBytes 2 k ++ (n ++ leBytes 8 s.now ++ s.attestRest ++ sig)) := by
      simp only [hr, State.attestBody, List.append_assoc, k]
    rw [hsplit, List.slice_at (by simp [length_leBytes]) (length_leBytes ..), ofLeBytes_leBytes]
    exact Nat.mod_eq_of_lt (by omega)
  · have hsplit : r = (leBytes 4 0x5454414B ++ leBytes 2 1 ++ leBytes 2 k ++ n) ++ (leBytes 8 s.now ++ (s.attestRest ++ sig)) := by
      simp only [hr, State.attestBody, List.append_assoc, k]
    rw [hsplit, List.slice_at (by simp [length_leBytes, h]) (length_leBytes ..), ofLeBytes_leBytes]
    exact Nat.mod_eq_of_lt hnow
  · rw [hr, List.drop_left' hbody, List.take_left' hbody, hsig]

/-! ### Images of member dies (17 R516) -/

section
variable {s : State} {d : DieId} {unit : Fin 7} {data : List Byte}

/-- Bytes of a unit that a die has taken. -/
def State.unitTaken (s : State) (d : DieId) (unit : Fin 7) : Nat := s.fw.loaded.getD (d.val * 8 + unit.val) 0

/-- The unit of a type that a die is meant to run. -/
def State.unitMeant (s : State) (d : DieId) (unit : Fin 7) : FwUnit :=
  mfUnitOf (s.fw.manifest (s.meantSlot d (unit.val + 1))) (unit.val + 1)

/-- Bytes of that unit from a place on. -/
def State.unitFrom (s : State) (d : DieId) (unit : Fin 7) (n : Nat) : List Byte :=
  sliceBytes ((s.fw.unitBytes (s.meantSlot d (unit.val + 1)) (s.unitMeant d unit)).drop (s.unitTaken d unit)) 0 n

theorem execBootImageBlock_eq (hd : s.fitted d = true) (h0 : d.val ≠ 0) (himg : (s.die d).imaged = false)
    (hfirst : (s.die 0).imaged = true) (hfac : s.fw.factory (s.meantSlot d (unit.val + 1)) = false) :
    exec (.bootImageBlock d unit data) s = .next
      (if (data == s.unitFrom d unit data.length && !data.isEmpty) = true then
        ({ s with fw := { s.fw with
          loaded := s.fw.loaded.insert (d.val * 8 + unit.val) (s.unitTaken d unit + data.length) } } : State).imagesDone d
       else s) := by
  have hexec : exec (.bootImageBlock d unit data) s = _ := exec_onDie (execBootImageBlock d unit data s) rfl rfl hd
  rw [himg, hfirst, if_neg (by simp [h0])] at hexec
  dsimp only at hexec
  rw [hfac] at hexec
  exact hexec

/-- R516: a block that does not end its unit. -/
theorem State.imagesDone_of_short (u : State) (h : u.unitTaken d unit < (u.unitMeant d unit).len) : u.imagesDone d = u := by
  refine if_neg ?_
  simp only [List.all_eq_true, List.mem_range, Bool.and_eq_true, decide_eq_true_eq, not_forall]
  exact ⟨unit.val, unit.isLt, fun hw => absurd hw.1 (Nat.not_le.mpr h)⟩

end

/-- Settles O48. -/
theorem attestationAndMonitor : Obligations.AttestationAndMonitor := by
  unfold Obligations.AttestationAndMonitor
  intro s
  refine ⟨fun src nonce hshut => ⟨fun hlen => ?_, fun hlen => ?_⟩, fun n hn hlen => ⟨?_, s.attestReport_layout hlen⟩,
    fun d hd => ⟨fun h3 hloads hnonce => ?_, fun h3 hloads hnonce => ?_, fun asn sl h3 hloads hnonce hs ht => ?_,
      execMonitorRestart_third hd, fun unit data h0 himg hfirst => ?_⟩⟩
  · have hexec := execAttestNonceWrite_eq (src := src) (nonce := nonce) hshut
    rw [if_pos hlen] at hexec
    refine Runs.intro hexec ?_
    obtain ⟨hfw, hget, hdies, hslots, hdoms, hout⟩ := s.attestStart_spec nonce
    exact ⟨hfw, hget, rfl, hdies, hslots, hdoms, hout⟩
  · rw [execAttestNonceWrite_eq hshut, if_neg hlen]
  · have hexec : exec .attestReportReady s = execAttestReportReady s := rfl
    rw [hexec, execAttestReportReady, hn]
    rfl
  · have hexec := execMonitorRestart_lives hd h3
    rw [show s.keyLoads d = [] from hloads] at hexec
    rw [hexec]
    exact congrArg _ (State.attestFails_of_none hnonce)
  · have hexec := execMonitorRestart_lives hd h3
    rw [show s.keyLoads d = [] from hloads] at hexec
    rw [hexec]
    exact congrArg _ (State.attestFails_of_some hnonce)
  · have hexec := execMonitorRestart_lives hd h3
    rw [show s.keyLoads d = [asn] from hloads] at hexec
    dsimp only [List.foldl] at hexec
    have hnone : ((s.restartedMonitor d).keyLoadFails d asn).fw.nonce = none := by rw [State.keyLoadFails_fw]; exact hnonce
    rw [State.attestFails_of_none hnone, State.restarted_keyLoadFails hs ht] at hexec
    exact hexec
  · intro b u k have_ hfac
    have hexec := execBootImageBlock_eq (data := data) hd h0 himg hfirst hfac
    refine ⟨fun hdata hne hlt => ?_, fun hdata => ?_⟩
    · rw [if_pos] at hexec
      · rw [hexec]
        refine congrArg _ (State.imagesDone_of_short (unit := unit) _ ?_)
        unfold State.unitTaken
        rw [KMap.getD, KMap.find?_insert_self]
        exact hlt
      · rw [Bool.and_eq_true, beq_iff_eq, Bool.not_eq_true', List.isEmpty_eq_false_iff]
        exact ⟨hdata, hne⟩
    · rw [if_neg] at hexec
      · exact hexec
      · rw [Bool.and_eq_true, beq_iff_eq]
        exact fun h => hdata h.1

end Sys2Proof.Machine

/-! PROOFS. O49: GET OBJECT and SET OBJECT (13 R419; 14 R431 to R444). -/

namespace Sys2Proof.Machine

/-! ### The result of an access (14 R434 to R442) -/

/-- The entries whose value does more than stand in a store, or which a chapter guards. -/
def specialObjs : List ObjDef :=
  [Obj.setRpm, Obj.coastRpm, Obj.phaseLockEnable, Obj.bwWindow, Obj.bwWindowUnit, Obj.traceSeed, Obj.traceK,
    Obj.writeFailed, Obj.hdaPowerTarget, Obj.counterEvent, Obj.counterValue, Obj.writeDelayAu, Obj.maGain,
    Obj.vcmGainTrim, Obj.elecOffset]

section
variable {s : State} {o : ObjDef} {sub i len : Nat} {v : Int} {data : List Byte} {src : Source} {asn : Option Nat}

theorem State.applied_of_plain (h : o ∉ specialObjs) (old new : Int) : s.applied o i old new = s := by
  simp only [specialObjs, List.mem_cons, List.not_mem_nil, or_false, not_or] at h
  obtain ⟨h1, h2, h3, h4, h5, h6, h7, _⟩ := h
  simp [State.applied, h1, h2, h3, h4, h5, h6, h7]

/-- R434 to R436: a scalar that is plain is stored by its class. -/
theorem State.setScalar_of_plain (h : o ∉ specialObjs) : s.setScalar o sub i v =
    if o.acc ≠ .rw ∧ s.storeFails (o.dieOf i) then refusedWith s Refuse.storeFail.toNat
    else if o.acc = .rwr then
      (s.pend (objKey o.index sub i) (intBytes o.typ.size v) (intBytes o.typ.size (s.getSub o sub i)), St.success, 0)
    else (((if o.acc = .rws then s.save o sub i (intBytes o.typ.size v) else s).putSub o sub i v), St.success, 0) := by
  have happlied : ∀ u : State, u.applied o i (s.getSub o sub i) v = u := fun u => State.applied_of_plain h _ _
  simp only [specialObjs, List.mem_cons, List.not_mem_nil, or_false, not_or] at h
  obtain ⟨h1, h2, h3, h4, h5, h6, h7, h8, h9, h10, h11, h12, h13, h14, h15⟩ := h
  have hrefusal : s.stateRefusal o i v = none := by simp [State.stateRefusal, h1, h3, h8]
  have hrecord : s.recordWith o i v = none := by simp [State.recordWith, h12, h13, h14, h15]
  unfold State.setScalar
  dsimp only
  rw [hrefusal, hrecord]
  dsimp only
  rw [if_neg h9, if_neg h8, if_neg h10, if_neg h11, happlied]

theorem State.pend_eq {k : Nat} {bs inForce : List Byte} : s.pend k bs inForce =
    { s with rwr := if bs = inForce then s.rwr.erase k else s.rwr.insert k bs } := by
  unfold State.pend
  split <;> rfl

theorem State.writeScalar_length (h : len ≠ o.typ.size) : s.writeScalar src asn o sub i len data = (s, St.invalidField, 0) :=
  if_pos h

theorem State.writeScalar_value (h : len = o.typ.size) (hv : s.valueOk o sub i (o.typ.decode (sliceBytes data 0 len)) = false) :
    s.writeScalar src asn o sub i len data = (s, St.valueInvalid, 0) := by
  unfold State.writeScalar
  rw [if_neg (not_not_intro h)]
  dsimp only
  rw [hv]
  rfl

theorem State.writeScalar_sets (h : len = o.typ.size) (hv : s.valueOk o sub i (o.typ.decode (sliceBytes data 0 len)) = true)
    (hcmd : o.acc ≠ .cmd) :
    s.writeScalar src asn o sub i len data = s.setScalar o sub i (o.typ.decode (sliceBytes data 0 len)) := by
  unfold State.writeScalar
  rw [if_neg (not_not_intro h)]
  dsimp only
  rw [hv, Bool.not_true, if_neg Bool.false_ne_true, if_neg hcmd]

end

/-! ### Sessions (14 R442) -/

section
variable {s : State} {o : ObjDef} {sub i off len : Nat} {last : Bool} {data : List Byte} {src : Source}

/-- A source's session of an entry. -/
def State.sessionOf (s : State) (src : Source) (k : Nat) : Option Session :=
  s.sessions.find? fun x => x.src == src && x.key == k

theorem State.writeDomain_held (h : ∃ x ∈ s.sessions, x.key = objKey o.index sub i ∧ x.src ≠ src) :
    s.writeDomain src o sub i off len last data = refusedWith s Refuse.domainSessionHeld.toNat := by
  obtain ⟨x, hx, hkey, hsrc⟩ := h
  refine if_pos (List.any_eq_true.2 ⟨x, hx, ?_⟩)
  simp [hkey, hsrc]

theorem State.none_holds_elsewhere (h : ∀ x ∈ s.sessions, x.key = objKey o.index sub i → x.src = src) :
    ¬ (s.sessions.any fun x => x.key == objKey o.index sub i && x.src != src) = true := by
  simp only [List.any_eq_true, Bool.and_eq_true, beq_iff_eq, bne_iff_ne, not_exists, not_and, ne_eq, not_not]
  exact fun x hx hkey => h x hx hkey

/-- A first segment of a domain that no other source holds. -/
theorem State.writeDomain_first (h : ∀ x ∈ s.sessions, x.key = objKey o.index sub i → x.src = src) :
    s.writeDomain src o sub i 0 len last data =
      if (s.sessionOf src (objKey o.index sub i)).isNone ∧ 4 ≤ (s.sessions.filter fun x => x.die == o.dieOf i).length then
        refusedWith s Refuse.sessionLimit.toNat
      else s.segment src o sub i [] (sliceBytes data 0 len) last :=
  if_neg (State.none_holds_elsewhere h)

theorem State.writeDomain_unopened (h : ∀ x ∈ s.sessions, x.key = objKey o.index sub i → x.src = src) (hoff : off ≠ 0)
    (hnone : s.sessionOf src (objKey o.index sub i) = none) :
    s.writeDomain src o sub i off len last data = refusedWith s Refuse.noSession.toNat := by
  refine (if_neg (State.none_holds_elsewhere h)).trans ((if_neg hoff).trans ?_)
  split
  · rfl
  · next hsome => exact absurd (hsome.symm.trans hnone) nofun

theorem State.writeDomain_misplaced {x : Session} (h : ∀ x ∈ s.sessions, x.key = objKey o.index sub i → x.src = src)
    (hoff : off ≠ 0) (hx : s.sessionOf src (objKey o.index sub i) = some x) (hlen : off ≠ x.data.length) :
    s.writeDomain src o sub i off len last data = refusedWith s Refuse.segmentOrder.toNat := by
  refine (if_neg (State.none_holds_elsewhere h)).trans ((if_neg hoff).trans ?_)
  split
  · next hnone => exact absurd (hnone.symm.trans hx) nofun
  · next hsome =>
    obtain rfl := Option.some.inj (hsome.symm.trans hx)
    exact if_pos hlen

/-- A first segment that is not the last opens a session. -/
theorem State.segment_opens (hmine : s.sessionOf src (objKey o.index sub i) = none) (hlen : data.length ≤ domainMax o sub) :
    s.segment src o sub i [] data false = ({ s with
      sessions := s.sessions ++ [⟨src, objKey o.index sub i, o.dieOf i, data, s.now⟩] }, St.success, 0) := by
  have hdrop : s.dropSession src (objKey o.index sub i) = s := by
    have hall : s.sessions.filter (fun x => !(x.src == src && x.key == objKey o.index sub i)) = s.sessions :=
      List.filter_eq_self.2 fun x hx => by
        have := List.find?_eq_none.1 hmine x hx
        simp only [Bool.not_eq_true', Bool.eq_false_iff]
        exact this
    rw [State.dropSession, hall]
  unfold State.segment
  dsimp only
  rw [hdrop, List.nil_append, if_neg (Nat.not_lt.mpr hlen)]
  rfl

end

/-! ### The verbs (13 R413, R419) -/

section
variable {s u : State} {asn : Nat} {sl : Slot} {a : ObjAccess} {r : ObjAns} {data : List Byte}
variable (hs : s.slots.find? asn = some sl) (ht : sl.traced = false)
  (hb : (sl.parts.any fun p => p.die.val == 0 && p.begun) = false)

/-- The block after a verb's access has been answered. -/
def State.objAnswered (u : State) (asn : Nat) (st : BitVec 16) (n : Nat) (out : List Byte) : State :=
  u.ends asn 0 fun p => { p with
    status := st, result := BitVec.ofNat 64 n, data := out
    detail := if st = St.objectStateConflict then BitVec.ofNat 32 n else 0 }

include hs ht in
theorem State.objVerbEnd_answered (hu : u.slots = s.slots) : u.objVerbEnd asn r = u.objAnswered asn r.status r.result r.data :=
  State.partEnd_of_untraced (hu ▸ hs) ht 0 _

theorem State.objVerb_earlier (he : s.objEarlier asn sl = true) : s.objVerb asn sl a = s := by
  unfold State.objVerb
  dsimp only
  rw [he, Bool.or_true, if_pos rfl]

include hb in
theorem State.objVerb_forwards (he : s.objEarlier asn sl = false) {d : DieId} (hd : s.objTarget true a = some d) :
    s.objVerb asn sl a = ((s.modPart asn 0 fun p => { p with begun := true }).modDie
      d fun x => { x with accesses := x.accesses ++ [a] }).emit (.fabric 0 d 0x25 (BitVec.ofNat 64
        (a.index.toNat + 2 ^ 16 * a.sub.toNat + 2 ^ 24 * a.inst.toNat + 2 ^ 32 * a.segOff))) := by
  have hne : d ≠ 0 := by
    unfold State.objTarget at hd
    split at hd
    · exact absurd hd (by simp)
    · split at hd
      · exact absurd hd (by simp)
      · next hout =>
        rintro rfl
        rw [Option.some.injEq] at hd
        exact hout (.inl (by rw [hd]; rfl))
  unfold State.objVerb
  dsimp only
  rw [hb, he, Bool.or_false, if_neg Bool.false_ne_true, hd]
  exact if_neg (Ne.symm hne)

include hs ht hb in
theorem State.objVerb_answers (he : s.objEarlier asn sl = false) (hd : s.objTarget true a = none)
    (hdo : s.objDo true (some asn) a = (u, r)) (hu : u.slots = s.slots) : s.objVerb asn sl a = u.objAnswered asn r.status r.result r.data := by
  unfold State.objVerb
  dsimp only
  rw [hb, he, Bool.or_false, if_neg Bool.false_ne_true, hd]
  dsimp only
  rw [hdo]
  exact State.objVerbEnd_answered hs ht hu

theorem State.objTarget_of_error {e : BitVec 16}
    (h : s.resolve true a.write a.index.toNat a.sub.toNat a.inst.toNat = .error e) : s.objTarget true a = none := by
  unfold State.objTarget
  rw [h]

include hs in
theorem execGetObject_eq (hop : sl.op = 0x42) (hr : sl.ready 0 = true) :
    exec (.getObject asn) s = .next (s.objVerb asn sl (sl.access asn false [])) := by
  have hexec : exec (.getObject asn) s = execGetObject asn s := rfl
  rw [hexec, execGetObject, State.adminVerb_of_ready hs hop hr]

include hs in
theorem execSetObject_eq (hop : sl.op = 0x43) (hr : sl.ready 0 = true) :
    exec (.setObject asn data) s = .next (s.objVerb asn sl (sl.access asn true data)) := by
  have hexec : exec (.setObject asn data) s = execSetObject asn data s := rfl
  rw [hexec, execSetObject, State.adminVerb_of_ready hs hop hr]

end

/-! ### Reads (14 R433, R439, R441) -/

section
variable {s : State} {o : ObjDef} {ix sub i off len : Nat}

theorem State.objGet_of_error {e : BitVec 16} (h : s.resolve true false ix sub i = .error e) :
    s.objGet true ix sub i off len = { status := e } := by
  unfold State.objGet
  rw [h]

theorem State.objGet_of_ok (h : s.resolve true false ix sub i = .ok o) :
    s.objGet true ix sub i off len = s.readEntry o sub i off len := by
  unfold State.objGet
  rw [h]

theorem State.readEntry_scalar (hd : o.typ ≠ .domain) (hs : o.typ ≠ .str) : s.readEntry o sub i off len =
    if len ≠ o.typ.size then { status := St.invalidField }
    else { result := len + 2 ^ 32 * len, data := intBytes len (s.value o sub i) } := by
  unfold State.readEntry
  split
  · next h => exact absurd h hd
  · next h => exact absurd h hs
  · rfl

theorem State.readEntry_domain (hd : o.typ = .domain) : s.readEntry o sub i off len =
    if s.reportPending o i then { status := St.pending } else segmentOf (s.block o sub i) off len := by
  unfold State.readEntry
  rw [hd]

theorem segmentOf_within {bs : List Byte} (h : off < bs.length) : segmentOf bs off len =
    { result := ((bs.drop off).take len).length + 2 ^ 32 * bs.length, data := (bs.drop off).take len } := by
  unfold segmentOf
  rw [if_neg (by omega)]

end

/-! ### Writes -/

section
variable {s : State} {o : ObjDef} {ix sub i off len : Nat} {src : Source} {asn : Option Nat} {last : Bool} {data : List Byte}

theorem State.objSet_of_error {e : BitVec 16} (h : s.resolve true true ix sub i = .error e) :
    s.objSet src true asn ix sub i off len last data = (s, e, 0) := by
  unfold State.objSet
  rw [h]

theorem State.objSet_scalar (h : s.resolve true true ix sub i = .ok o) (hd : o.typ ≠ .domain) (hs : o.typ ≠ .str) :
    s.objSet src true asn ix sub i off len last data = s.writeScalar src asn o sub i len data := by
  unfold State.objSet
  rw [h]
  dsimp only
  split
  · next hdom => exact absurd hdom hd
  · next hstr => exact absurd hstr hs
  · rfl

theorem State.objSet_domain (h : s.resolve true true ix sub i = .ok o) (hd : o.typ = .domain) :
    s.objSet src true asn ix sub i off len last data = s.writeDomain src o sub i off len last data := by
  unfold State.objSet
  rw [h]
  dsimp only
  rw [hd]

end

/-! ### The statement -/

section
variable {s : State} {asn : Nat} {sl : Slot} {data : List Byte} {o : ObjDef}
variable (hs : s.slots.find? asn = some sl) (hr : sl.ready 0 = true) (ht : sl.traced = false)
  (hb : (sl.parts.any fun p => p.die.val == 0 && p.begun) = false) (he : s.objEarlier asn sl = false)
include hs hr ht hb he

/-- A GET OBJECT that the anchor answers. -/
theorem execGetObject_answers (hop : sl.op = 0x42) {st : BitVec 16} {n : Nat} {out : List Byte} (hd : s.objTarget true (sl.access asn false []) = none)
    (hget : s.objGet true (sl.access asn false []).index.toNat (sl.access asn false []).sub.toNat
      (sl.access asn false []).inst.toNat (sl.access asn false []).segOff (sl.access asn false []).len = ⟨st, n, out⟩) :
    exec (.getObject asn) s = .next (s.objAnswered asn st n out) := by
  rw [execGetObject_eq hs hop hr]
  refine congrArg _ (State.objVerb_answers (r := ⟨st, n, out⟩) hs ht hb he hd ?_ rfl)
  rw [← hget]
  rfl

/-- A SET OBJECT that the anchor answers. -/
theorem execSetObject_answers (hop : sl.op = 0x43) {u : State} {st : BitVec 16} {n : Nat}
    (hd : s.objTarget true (sl.access asn true data) = none)
    (hset : s.objSet .host true (some asn) (sl.access asn true data).index.toNat (sl.access asn true data).sub.toNat
      (sl.access asn true data).inst.toNat (sl.access asn true data).segOff (sl.access asn true data).len
      (sl.access asn true data).last data = (u, st, n)) (hu : u.slots = s.slots) :
    exec (.setObject asn data) s = .next (u.objAnswered asn st n []) := by
  rw [execSetObject_eq hs hop hr]
  refine congrArg _ (State.objVerb_answers hs ht hb he hd (u := u) (r := ⟨st, n, []⟩) ?_ hu)
  exact congrArg (fun q : ObjRes => (q.1, ({ status := q.2.1, result := q.2.2 } : ObjAns))) hset

end

/-- Settles O49: the address first, then the read or the write by the entry's type and class. -/
theorem objectVerbs : Obligations.ObjectVerbs := by
  unfold Obligations.ObjectVerbs
  intro s asn sl data o hs hr ht hb
  refine ⟨fun hop he => ?_, fun hop he => ⟨fun e herr => ?_, fun d hd => ?_, fun hd hok => ?_⟩,
    fun hop he => ⟨fun e herr => ?_, fun d hd => ?_, fun hd hok hdom hstr => ?_, fun hd hok hdom => ?_⟩⟩
  · rw [execGetObject_eq hs hop hr, State.objVerb_earlier he]
  · exact execGetObject_answers hs hr ht hb he hop (State.objTarget_of_error herr) (State.objGet_of_error herr)
  · exact (execGetObject_eq hs hop hr).trans (congrArg _ (State.objVerb_forwards hb he hd))
  · have hget := fun (st : BitVec 16) (n : Nat) (out : List Byte) h => execGetObject_answers (st := st) (n := n) (out := out) hs hr ht hb he hop hd ((State.objGet_of_ok hok).trans h)
    refine ⟨fun hdom hstr hlen => hget _ _ _ ?_, fun hdom hstr hlen => hget _ _ _ ?_, fun hdom hpend => hget _ _ _ ?_,
      fun hdom hpend hoff => hget _ _ _ ?_⟩
    · rw [State.readEntry_scalar hdom hstr]
      exact if_neg (not_not_intro hlen)
    · rw [State.readEntry_scalar hdom hstr]
      exact if_pos hlen
    · rw [State.readEntry_domain hdom]
      exact if_pos hpend
    · rw [State.readEntry_domain hdom, if_neg (by rw [hpend]; exact Bool.false_ne_true)]
      exact segmentOf_within hoff
  · exact execSetObject_answers hs hr ht hb he hop (State.objTarget_of_error herr) (State.objSet_of_error herr) rfl
  · exact (execSetObject_eq hs hop hr).trans (congrArg _ (State.objVerb_forwards hb he hd))
  · have hset := fun (u : State) (st : BitVec 16) (n : Nat) h hu => execSetObject_answers (u := u) (st := st) (n := n) hs hr ht hb he
      hop hd ((State.objSet_scalar hok hdom hstr).trans h) hu
    intro v bs special
    refine ⟨fun hlen => ?_, fun hlen hv => ?_, fun hlen hv hplain => ?_⟩
    · exact hset _ _ _ (State.writeScalar_length hlen) rfl
    · exact hset _ _ _ (State.writeScalar_value hlen hv) rfl
    · have hwrite := fun hcmd => (State.writeScalar_sets (src := .host) (asn := some asn) hlen hv hcmd).trans
        (State.setScalar_of_plain hplain)
      refine ⟨fun hacc => ?_, fun hacc hstore => ?_, fun hacc hstore => ?_, fun hacc hstore => ?_⟩
      · refine hset _ _ _ ((hwrite (by rw [hacc]; decide)).trans ?_) (State.putSub_slots ..)
        rw [hacc, if_neg (by simp), if_neg (by decide), if_neg (by decide)]
      · refine hset _ _ _ ((hwrite (by rw [hacc]; decide)).trans ?_) (State.putSub_slots ..)
        rw [hacc, if_neg (by simp [hstore]), if_neg (by decide), if_pos rfl]
      · refine hset _ _ _ ((hwrite (by rw [hacc]; decide)).trans ?_) rfl
        rw [hacc, if_neg (by simp [hstore]), if_pos rfl, State.pend_eq]
      · have hcmd : o.acc ≠ .cmd ∧ o.acc ≠ .rw := by rcases hacc with h | h <;> rw [h] <;> decide
        exact hset _ _ _ ((hwrite hcmd.1).trans (if_pos ⟨hcmd.2, hstore⟩)) rfl
  · have hset := fun (u : State) (st : BitVec 16) (n : Nat) h hu => execSetObject_answers (u := u) (st := st) (n := n) hs hr ht hb he
      hop hd ((State.objSet_domain hok hdom).trans h) hu
    intro k mine free
    refine ⟨fun hheld => ?_, fun hfree hoff hmine => ?_, fun x hfree hoff hmine hlen => ?_, fun hfree hoff hmine hfour => ?_,
      fun hfree hoff hmine hfour hlast hmax => ?_⟩
    · exact hset _ _ _ (State.writeDomain_held hheld) rfl
    · exact hset _ _ _ (State.writeDomain_unopened hfree hoff hmine) rfl
    · exact hset _ _ _ (State.writeDomain_misplaced hfree hoff hmine hlen) rfl
    · refine hset _ _ _ ?_ rfl
      rw [hoff, State.writeDomain_first hfree, show s.sessionOf .host (objKey o.index _ _) = none from hmine]
      exact if_pos ⟨rfl, hfour⟩
    · refine hset _ _ _ ?_ rfl
      rw [hoff, State.writeDomain_first hfree, show s.sessionOf .host (objKey o.index _ _) = none from hmine, hlast,
        if_neg (by omega)]
      exact State.segment_opens hmine (by rw [length_sliceBytes]; exact hmax)

end Sys2Proof.Machine

/-! PROOFS. O50: the object window, forwarded accesses, sessions and defaults (14 R442 to R446). -/

namespace Sys2Proof.Machine

/-! ### An access on its way (14 R444) -/

section
variable {s t : State} {d e : DieId} {a : ObjAccess}

theorem State.forward_die_self : ((s.forward d a).die d).accesses = (s.die d).accesses ++ [a] := by
  rw [State.forward, State.send]
  split
  · exact congrArg Die.accesses (State.modDie_die_self s d _)
  · exact (congrArg Die.accesses (State.emit_die ..)).trans (congrArg Die.accesses (State.modDie_die_self s d _))

theorem State.forward_die_ne (h : e ≠ d) : (s.forward d a).die e = s.die e := by
  rw [State.forward, State.send]
  split
  · exact State.modDie_die_ne s d e _ h
  · exact (State.emit_die ..).trans (State.modDie_die_ne s d e _ h)

theorem State.forward_win : (s.forward d a).win = s.win := by
  rw [State.forward, State.send]
  split <;> rfl

theorem State.forward_slots : (s.forward d a).slots = s.slots := by
  rw [State.forward, State.send]
  split <;> rfl

theorem State.winAnswer_of_busy {r : ObjAns} (h : s.win.busy = true) :
    s.winAnswer r = { s with win := { s.win with answer := some (r.status, r.result, r.data) } } := if_pos h

/-! ### The object window (14 R446) -/

/-- The block once the window has taken an access. -/
def State.windowBusy (s : State) (data : List Byte) : State :=
  { s with win := { s.win with busy := true, answer := none, buffer := if s.win.write then data else s.win.buffer } }

theorem State.windowGo_idle {data : List Byte} (h : s.host.fatal = true ∨ s.win.busy = true) : s.windowGo data = s :=
  if_pos (by simpa using h)

theorem State.windowGo_starts {data : List Byte} (hf : s.host.fatal = false) (hb : s.win.busy = false) : s.windowGo data =
    if !((s.windowBusy data).die 0).recordsRead then (s.windowBusy data).winAnswer { status := St.notReady }
    else if (s.win.access data).len = 0 ∨ 65536 < (s.win.access data).len then
      (s.windowBusy data).winAnswer { status := St.invalidField }
    else
      match (s.windowBusy data).objTarget true (s.win.access data) with
      | some d => (s.windowBusy data).forward d (s.win.access data)
      | none => ((s.windowBusy data).objDo true none (s.win.access data)).1.winAnswer
          ((s.windowBusy data).objDo true none (s.win.access data)).2 := by
  refine if_neg ?_
  rw [hf, hb]
  decide

section
variable {data : List Byte} (hf : s.host.fatal = false) (hb : s.win.busy = false)
include hf hb

theorem State.windowGo_notReady (hr : (s.die 0).recordsRead = false) :
    s.windowGo data = (s.windowBusy data).winAnswer { status := St.notReady } :=
  (State.windowGo_starts hf hb).trans (if_pos (by rw [show (s.windowBusy data).die 0 = s.die 0 from rfl, hr]; rfl))

variable (hr : (s.die 0).recordsRead = true) (hlo : 0 < (s.win.access data).len) (hhi : (s.win.access data).len ≤ 65536)
include hr hlo hhi

theorem State.windowGo_forwards (hd : (s.windowBusy data).objTarget true (s.win.access data) = some d) :
    s.windowGo data = (s.windowBusy data).forward d (s.win.access data) := by
  refine (State.windowGo_starts hf hb).trans ((if_neg ?_).trans ((if_neg (by omega)).trans ?_))
  · rw [show (s.windowBusy data).die 0 = s.die 0 from rfl, hr]
    decide
  · split
    · next e he => rw [Option.some.inj (he.symm.trans hd)]
    · next he => exact absurd (he.symm.trans hd) nofun

theorem State.windowGo_applies (hd : (s.windowBusy data).objTarget true (s.win.access data) = none) :
    s.windowGo data = ((s.windowBusy data).objDo true none (s.win.access data)).1.winAnswer
      ((s.windowBusy data).objDo true none (s.win.access data)).2 := by
  refine (State.windowGo_starts hf hb).trans ((if_neg ?_).trans ((if_neg (by omega)).trans ?_))
  · rw [show (s.windowBusy data).die 0 = s.die 0 from rfl, hr]
    decide
  · split
    · next e he => exact absurd (he.symm.trans hd) nofun
    · rfl

end

theorem execObjectWindowGo_eq {data : List Byte} (h : s.shut = false) : exec (.objectWindowGo data) s = .next (s.windowGo data) := by
  have hexec : exec (.objectWindowGo data) s = hostDoes (·.windowGo data) s := rfl
  rw [hexec, hostDoes, h]
  rfl

theorem execObjectWindowDone_busy {r : BitVec 16 × Nat × List Byte} (h : s.win.answer = some r) (hb : s.win.busy = true) :
    exec .objectWindowDone s = .next { s with win := { s.win with
      busy := false, done := true, status := r.1, result := BitVec.ofNat 64 r.2.1, answer := none
      buffer := if s.win.write then s.win.buffer else r.2.2 } } := by
  have hexec : exec .objectWindowDone s = execObjectWindowDone s := rfl
  rw [hexec, execObjectWindowDone, h]
  exact congrArg _ (if_pos hb)

theorem execObjectWindowDone_idle {r : BitVec 16 × Nat × List Byte} (h : s.win.answer = some r) (hb : s.win.busy = false) :
    exec .objectWindowDone s = .next s := by
  have hexec : exec .objectWindowDone s = execObjectWindowDone s := rfl
  rw [hexec, execObjectWindowDone, h]
  exact congrArg _ (if_neg (by rw [hb]; exact Bool.false_ne_true))

/-! ### Forwarded accesses (14 R444) -/

/-- What an access's owner sees of its answer: the verb, the window, the management link. -/
def State.accessAnswered (t : State) (a : ObjAccess) (r : ObjAns) : State :=
  let u := match a.asn with
    | some n => t.adminVerb n (if a.write then 0x43 else 0x42) fun _ => t.objVerbEnd n r
    | none => t
  let v := if a.window then u.winAnswer r else u
  match a.req with
  | some n => v.linkAnswerObj n r
  | none => v

theorem execObjectAccessMessage_nil (hd : s.fitted d = true) (h : (s.die d).accesses = []) :
    exec (.objectAccessMessage d) s = .next s := by
  refine (exec_onDie (execObjectAccessMessage d s) rfl rfl hd).trans (congrArg _ ?_)
  dsimp only
  rw [h]

theorem execObjectAccessMessage_cons {rest : List ObjAccess} (hd : s.fitted d = true) (h : (s.die d).accesses = a :: rest) :
    exec (.objectAccessMessage d) s =
      .next ((((s.setDie d { s.die d with accesses := rest }).objDo true a.asn a).1).accessAnswered a
        ((s.setDie d { s.die d with accesses := rest }).objDo true a.asn a).2) := by
  refine (exec_onDie (execObjectAccessMessage d s) rfl rfl hd).trans (congrArg _ ?_)
  dsimp only
  rw [h]
  rfl

variable {r : ObjAns}

theorem State.accessAnswered_window (hn : a.asn = none) (hw : a.window = true) (hq : a.req = none) (hb : t.win.busy = true) :
    t.accessAnswered a r = { t with win := { t.win with answer := some (r.status, r.result, r.data) } } := by
  unfold State.accessAnswered
  rw [hn, hw, hq]
  exact State.winAnswer_of_busy hb

theorem State.accessAnswered_link {n : Nat} (hn : a.asn = none) (hw : a.window = false) (hq : a.req = some n) :
    t.accessAnswered a r = t.linkAnswerObj n r := by
  unfold State.accessAnswered
  rw [hn, hw, hq]
  rfl

theorem State.accessAnswered_verb {n : Nat} {sl : Slot} (hn : a.asn = some n) (hw : a.window = false) (hq : a.req = none)
    (hs : t.slots.find? n = some sl) (ht : sl.traced = false) (hop : sl.op = (if a.write then 0x43 else 0x42))
    (hr : sl.ready 0 = true) : t.accessAnswered a r = t.objAnswered n r.status r.result r.data := by
  have hu : t.adminVerb n (if a.write then 0x43 else 0x42) (fun _ => t.objVerbEnd n r) = t.objVerbEnd n r :=
    State.adminVerb_of_ready hs hop hr
  unfold State.accessAnswered
  rw [hn, hw, hq]
  exact hu.trans (State.objVerbEnd_answered hs ht rfl)

end

/-! ### Sessions and defaults (14 R442, R445) -/

section
variable {s : State} {d : DieId} {o : ObjDef} {sub i : Nat}

theorem execRestoreDefaults_eq {v : BitVec 8} (h : s.shut = false) : exec (.restoreDefaults v) s =
    .next (if v = 1 then s.restore.answer St.success else s.answer St.valueInvalid) := by
  have hexec : exec (.restoreDefaults v) s = execRestoreDefaults v s := rfl
  rw [hexec, execRestoreDefaults, hostDoes, h]
  rfl

theorem State.restoreOne_of_other (h : o.default sub ≠ s.value o sub i) : s.restoreOne o sub i =
    ((s.setScalar o sub i (o.default sub)).1, (s.setScalar o sub i (o.default sub)).2.1 != St.success) :=
  if_neg fun hsame => h hsame.1.symm

theorem State.restoreOne_of_plain (hacc : o.acc = .rw) (h : o.default sub ≠ s.value o sub i) (hplain : o ∉ specialObjs) :
    s.restoreOne o sub i = (s.putSub o sub i (o.default sub), false) := by
  rw [State.restoreOne_of_other h, State.setScalar_of_plain hplain, hacc, if_neg (by simp), if_neg (by decide),
    if_neg (by decide)]
  rfl

theorem instDie_dieInst : instDie (dieInst d) = d := by
  refine Fin.ext ?_
  have := d.isLt
  simp only [instDie, dieInst, Fin.ofNat_eq_cast, Fin.val_natCast]
  omega

/-- R94: the set-point of a die with a loaded actuator is refused. -/
theorem State.setScalar_setRpm_loaded {v : Int} (h : (s.die d).anyLoaded = true) :
    s.setScalar Obj.setRpm sub (dieInst d) v = refusedWith s 6 := by
  have hrefusal : s.stateRefusal Obj.setRpm (dieInst d) v = some 6 := by
    unfold State.stateRefusal
    dsimp only
    rw [instDie_dieInst, if_pos rfl]
    exact if_pos h
  unfold State.setScalar
  dsimp only
  rw [hrefusal]

end

/-- Settles O50: the window, forwarded accesses and their answers, the sessions' limit, and the defaults. -/
theorem objectAccesses : Obligations.ObjectAccesses := by
  unfold Obligations.ObjectAccesses
  intro s
  refine ⟨fun data hshut => ⟨fun hidle => ?_, fun hf hb => ⟨fun hr => ?_, fun hr hlo hhi => ⟨fun d hd => ?_, fun hd hw => ?_,
    fun hd hw => ?_⟩⟩⟩, fun st r bs hans => ⟨fun hb => execObjectWindowDone_busy hans hb, fun hb =>
    execObjectWindowDone_idle hans hb⟩, fun d hd => ⟨fun hnil => execObjectAccessMessage_nil hd hnil, fun a rest hcons => ?_,
    fun key => ?_⟩, fun v hshut => ⟨fun hv => ?_, fun hv => ?_⟩, fun o sub i hacc hother hplain => ?_, fun d hload hother => ?_⟩
  · rw [execObjectWindowGo_eq hshut, State.windowGo_idle hidle]
  · rw [execObjectWindowGo_eq hshut, State.windowGo_notReady hf hb hr]
    exact congrArg _ (State.winAnswer_of_busy rfl)
  · refine ⟨_, execObjectWindowGo_eq hshut, ?_⟩
    rw [State.windowGo_forwards hf hb hr hlo hhi hd]
    exact ⟨State.forward_win, State.forward_die_self, State.forward_slots, fun e he => State.forward_die_ne he⟩
  · rw [execObjectWindowGo_eq hshut, State.windowGo_applies hf hb hr hlo hhi hd]
    refine congrArg _ ?_
    rw [State.objDo, if_neg (by rw [hw]; exact Bool.false_ne_true)]
    exact State.winAnswer_of_busy rfl
  · intro q
    rw [execObjectWindowGo_eq hshut, State.windowGo_applies hf hb hr hlo hhi hd]
    exact fun hq => congrArg _ (State.winAnswer_of_busy hq)
  · intro q t r
    have hexec := execObjectAccessMessage_cons hd hcons
    exact ⟨fun hn hw hq hb => hexec.trans (congrArg _ (State.accessAnswered_window hn hw hq hb)),
      fun n hn hw hq => hexec.trans (congrArg _ (State.accessAnswered_link hn hw hq)),
      fun n sl hn hw hq hs ht hop hr => hexec.trans (congrArg _ (State.accessAnswered_verb hn hw hq hs ht hop hr))⟩
  · refine Runs.onDie (f := fun u => { u with sessions := u.sessions.filter fun x => !(x.die == d && x.key == key) })
      _ rfl rfl hd ⟨rfl, fun x => ?_⟩
    simp [List.mem_filter, imp_iff_not_or]
  · rw [execRestoreDefaults_eq hshut, if_neg hv]
    rfl
  · refine ⟨s.restoreAll.1, s.restoreAll.2, ?_, rfl⟩
    rw [execRestoreDefaults_eq hshut, if_pos hv]
    rfl
  · exact State.restoreOne_of_plain hacc hother hplain
  · rw [State.restoreOne_of_other (Ne.symm hother), State.setScalar_setRpm_loaded hload]
    rfl

end Sys2Proof.Machine

/-! PROOFS. O51: accesses of the diagnostic windows and writes of BAR0 (12 R377 to R379; 14 R446; 16 R501). -/

namespace Sys2Proof.Machine

/-- Runs of a host access that is not refused. -/
theorem hostDoes_open {f : State → State} {s : State} (h : s.shut = false) : hostDoes f s = .next (f s) := by
  rw [hostDoes, h]
  rfl

/-! ### The diagnostic windows (12 R377) -/

/-- The answer to a read of one word. -/
def readReply (bits : Nat) : Reply := { status := St.success, result := BitVec.ofNat 64 bits, data := leBytes 4 bits }

section
variable {s : State} {d : DieId} {off : Nat} {v : BitVec 32}

/-- A word does not depend on the accesses under way nor on what the block has put out. -/
theorem State.diagWord_beside (m : KMap (Nat × AccessSize × Option (BitVec 64))) (o : Out) :
    ({ s with diag := m }.emit o).diagWord d off = s.diagWord d off := rfl

theorem setWidth_setWidth_32 : (v.setWidth 64).setWidth 32 = v := by
  refine BitVec.eq_of_toNat_eq ?_
  have := v.isLt
  simp only [BitVec.toNat_setWidth]
  omega

theorem State.diagDo_reads (h1 : off ≠ 0x2008) (h2 : off ≠ 0x200C) :
    s.diagDo d off .w32 none = { s with reply := readReply (s.diagWord d off) } := by
  have hlatch : s.diagLatch d off = s := if_neg (by omega)
  unfold State.diagDo
  dsimp only
  rw [hlatch]
  rfl

theorem State.diagDo_reads_stamp : s.diagDo d 0x2008 .w32 none = { s.setDie d { s.die d with
    clock := { (s.die d).clock with ptime := BitVec.ofNat 64 (s.timeNs d) } } with reply := readReply (s.diagWord d 0x2008) } := by
  have hlatch : s.diagLatch d 0x2008 = s.setDie d { s.die d with
      clock := { (s.die d).clock with ptime := BitVec.ofNat 64 (s.timeNs d) } } := if_pos (.inl rfl)
  unfold State.diagDo
  dsimp only
  rw [hlatch]
  rfl

theorem State.diagDo_writes (h : off ≠ 0x2280) :
    s.diagDo d off .w32 (some (v.setWidth 64)) = { s.setDie d ((s.die d).diagWrite off v) with reply := {} } := by
  have hwrite : s.diagWriteWord d off v = s.setDie d ((s.die d).diagWrite off v) := if_neg h
  unfold State.diagDo
  dsimp only
  rw [setWidth_setWidth_32, hwrite]
  rfl

theorem State.diagIsolated_reads (h : off ≠ 0x2500) :
    s.diagIsolated d off .w32 none = { s with reply := readReply 4294967295 } := by
  unfold State.diagIsolated
  dsimp only
  rw [if_neg h]
  rfl

theorem State.diagIsolated_reads_status :
    s.diagIsolated d 0x2500 .w32 none = { s with reply := readReply (dieStatus (s.die d)) } := rfl

section
variable (ha : off % 4 = 0) (hlt : off < 4194304)
include ha hlt

theorem diagAligned_word : diagAligned off .w32 = true := by
  simp only [diagAligned, AccessSize.words, hlt, decide_true, Bool.true_and, Nat.mul_one, ha, beq_self_eq_true]

theorem State.diagAccess_unfitted (hf : s.fitted d = false) :
    s.diagAccess d off .w32 none = { s with reply := readReply 0 } := by
  unfold State.diagAccess
  rw [diagAligned_word ha hlt, hf]
  rfl

theorem State.diagAccess_isolated {wr : Option (BitVec 64)} (hf : s.fitted d = true) (hi : s.isolated d = true) :
    s.diagAccess d off .w32 wr = s.diagIsolated d off .w32 wr := by
  unfold State.diagAccess
  rw [diagAligned_word ha hlt, hf, hi]
  rfl

theorem State.diagAccess_anchor {wr : Option (BitVec 64)} (hf : s.fitted d = true) (hi : s.isolated d = false) (h0 : d.val = 0) :
    s.diagAccess d off .w32 wr = s.diagDo d off .w32 wr := by
  unfold State.diagAccess
  rw [diagAligned_word ha hlt, hf, hi, if_neg (by decide), if_neg (by decide), if_neg (by decide), if_pos h0]

theorem State.diagAccess_member {wr : Option (BitVec 64)} (hf : s.fitted d = true) (hi : s.isolated d = false) (h0 : d.val ≠ 0) :
    s.diagAccess d off .w32 wr = if s.diag.contains d.val then s else
      { s with diag := s.diag.insert d.val (off, .w32, wr) }.emit (.fabric 0 d 0x03 (BitVec.ofNat 64 off)) := by
  have hne : ¬ (0 : DieId) = d := fun h => h0 (by rw [← h]; rfl)
  unfold State.diagAccess
  rw [diagAligned_word ha hlt, hf, hi, if_neg (by decide), if_neg (by decide), if_neg (by decide), if_neg h0, State.send,
    if_neg hne]

end

theorem execDiagWindowAccess_open {size : AccessSize} {wr : Option (BitVec 64)} (h : s.shut = false) :
    exec (.diagWindowAccess d off size wr) s = .next (s.diagAccess d off size wr) := by
  have hexec : exec (.diagWindowAccess d off size wr) s = hostDoes (·.diagAccess d off size wr) s := rfl
  rw [hexec, hostDoes_open h]

theorem execDiagWindowResponse_idle (hd : s.fitted d = true) (h : s.diag.find? d.val = none) :
    exec (.diagWindowResponse d) s = .next s := by
  refine (exec_onDie (execDiagWindowResponse d s) rfl rfl hd).trans (congrArg _ ?_)
  dsimp only
  rw [h]

theorem execDiagWindowResponse_member {size : AccessSize} {wr : Option (BitVec 64)} (hd : s.fitted d = true)
    (hi : s.isolated d = false) (h0 : d.val ≠ 0) (h : s.diag.find? d.val = some (off, size, wr)) :
    exec (.diagWindowResponse d) s = .next
      (({ s with diag := s.diag.erase d.val }.emit (.fabric d 0 0x13 (BitVec.ofNat 64 off))).diagDo d off size wr) := by
  have hne : ¬ d = (0 : DieId) := fun h => h0 (by rw [h]; rfl)
  have hi' : ({ s with diag := s.diag.erase d.val } : State).isolated d = false := hi
  refine (exec_onDie (execDiagWindowResponse d s) rfl rfl hd).trans (congrArg _ ?_)
  dsimp only
  rw [h]
  dsimp only
  rw [hi', if_neg Bool.false_ne_true, State.send, if_neg hne]

end

/-! ### Writes of BAR0 (12 R377 to R379) -/

section
variable {s : State} {v : BitVec 32} {w : BitVec 64}

theorem State.adminRise_shutdown : s.adminRise.host.shutdown = s.host.shutdown := by
  unfold State.adminRise
  dsimp only
  split <;> rfl

theorem State.readyRise_shutdown : s.readyRise.host.shutdown = s.host.shutdown := by
  unfold State.readyRise
  split
  · dsimp only
    split
    · exact (congrArg HostRegs.shutdown (State.putSub_host ..)).trans rfl
    · rfl
  · rfl

theorem State.pkgEnable_shutdown : s.pkgEnable.host.shutdown = s.host.shutdown := by
  unfold State.pkgEnable
  split
  · rfl
  · dsimp only
    split
    · exact State.readyRise_shutdown.trans State.adminRise_shutdown
    · rfl

theorem State.writeControl_enables (he : s.host.enable = false) (hs : s.host.shutdown = 0) : s.writeControl 1 = s.pkgEnable := by
  unfold State.writeControl
  rw [he, show (1 : BitVec 32).getLsbD 0 = true from rfl, show (1 : BitVec 32).extractLsb' 1 2 = 0 from rfl]
  dsimp only
  rw [if_neg (by decide), if_pos rfl]
  exact if_pos (Or.inr (State.pkgEnable_shutdown.trans hs).symm)

theorem State.writeControl_disables (he : s.host.enable = true) : s.writeControl 0 = s.pkgDisable := by
  unfold State.writeControl
  rw [he]
  rfl

theorem State.pkgEnable_of_enabled (he : s.host.enable = true) : s.pkgEnable = s := if_pos he

theorem State.writeControl_shuts (he : s.host.enable = true) (hs : s.host.shutdown = 0) {kind : BitVec 2}
    (hv : v.getLsbD 0 = true) (hk : v.extractLsb' 1 2 = kind) (h0 : kind ≠ 0) (h3 : kind ≠ 3) : s.writeControl v = s.shutDown kind := by
  unfold State.writeControl
  rw [he, hv, hk]
  dsimp only
  rw [if_neg (by decide), if_pos rfl, State.pkgEnable_of_enabled he, hs, if_neg (fun h => h.elim h3 h0), if_neg h0]

/-- A write of one word outside the diagnostic windows. -/
theorem State.writeBar_word {a : Nat} (ha : a % 4 = 0) (hlt : a < 0x1000000) :
    s.writeBar a .w32 (v.setWidth 64) = s.writeWord a v := by
  unfold State.writeBar
  dsimp only [AccessSize.words]
  rw [if_neg (by omega), if_neg (by omega), if_neg (by omega), setWidth_setWidth_32]
  rfl

theorem execRegisterWrite_open {a : Nat} (h : s.shut = false) : exec (.registerWrite a .w32 w) s = .next (s.writeBar a .w32 w) := by
  have hexec : exec (.registerWrite a .w32 w) s = hostDoes (·.writeBar a .w32 w) s := rfl
  rw [hexec, hostDoes_open h]

theorem execRegisterWrite_word {a : Nat} (h : s.shut = false) (ha : a % 4 = 0) (hlt : a < 0x1000000) :
    exec (.registerWrite a .w32 (v.setWidth 64)) s = .next (s.writeWord a v) := by
  rw [execRegisterWrite_open h, State.writeBar_word ha hlt]

theorem State.writeBar_window {d : DieId} {off : Nat} (ha : off % 4 = 0) (hlt : off < 4194304) :
    s.writeBar (0x1000000 + 4194304 * d.val + off) .w32 w = s.diagAccess d off .w32 (some w) := by
  have := d.isLt
  have hdie : (Fin.ofNat 8 ((0x1000000 + 4194304 * d.val + off - 0x1000000) / 4194304) : DieId) = d := by
    refine Fin.ext ?_
    simp only [Fin.ofNat_eq_cast, Fin.val_natCast]
    omega
  unfold State.writeBar
  dsimp only [AccessSize.words]
  rw [if_neg (by omega), if_pos (by omega), if_pos (by omega), hdie]
  exact congrArg (s.diagAccess d · .w32 (some w)) (by omega)

theorem State.writeWord_queueSizes : s.writeWord 0x18 v = { s with host := s.host.writeQueue 0x18 v } := rfl

theorem State.writeWord_tail {q : Nat} (hq : q < 512) : s.writeWord (0x100000 + 16 * q) v = s.sqTail q v := by
  unfold State.writeWord
  rw [if_neg (by omega), if_neg (by omega), if_neg (by omega), if_neg (by omega), if_neg (by omega), if_neg (by omega),
    if_neg (by omega), if_neg (by omega), if_neg (by omega), if_pos (by omega), if_pos (by omega)]
  exact congrArg (s.sqTail · v) (by omega)

theorem State.writeWord_head {q : Nat} (hq : q < 512) : s.writeWord (0x100008 + 16 * q) v = s.cqHead q v := by
  unfold State.writeWord
  rw [if_neg (by omega), if_neg (by omega), if_neg (by omega), if_neg (by omega), if_neg (by omega), if_neg (by omega),
    if_neg (by omega), if_neg (by omega), if_neg (by omega), if_pos (by omega), if_neg (by omega), if_pos (by omega)]
  exact congrArg (s.cqHead · v) (by omega)

theorem State.writeWord_msix {n k : Nat} (hn : n < 2048) (hk : k < 4) :
    s.writeWord (0x1000 + 16 * n + 4 * k) v = s.writeMsix n k v := by
  unfold State.writeWord
  rw [if_neg (by omega), if_neg (by omega), if_neg (by omega), if_pos (by omega),
    show (0x1000 + 16 * n + 4 * k - 0x1000) / 16 = n by omega, show (0x1000 + 16 * n + 4 * k) / 4 % 4 = k by omega]

theorem State.writeWord_pending {i : Nat} (hi : i < 32) : s.writeWord (0xC000 + 4 * i) v = s.clearPending i v := by
  unfold State.writeWord
  rw [if_neg (by omega), if_neg (by omega), if_neg (by omega), if_neg (by omega), if_neg (by omega), if_neg (by omega),
    if_pos (by omega)]
  exact congrArg (s.clearPending · v) (by omega)

end

/-! ### Pending events (16 R501) -/

section
variable {s : State} {i : Nat} {v : BitVec 32}

/-- One bit of a write that clears pending events. -/
def State.clearBit (i : Nat) (v : BitVec 32) (s : State) (j : Nat) : State :=
  if v.getLsbD j && s.fitted (sourceDie (32 * i + j)) then { s with evtPending := s.evtPending.erase (32 * i + j) } else s

theorem State.clearBits_spec (l : List Nat) (hl : ∀ j ∈ l, j < 32) : ∀ s : State,
    l.foldl (State.clearBit i v) s = { s with evtPending := (l.foldl (State.clearBit i v) s).evtPending } ∧
    ∀ n, (l.foldl (State.clearBit i v) s).evtPending.getD n false =
      (if n / 32 = i ∧ n % 32 ∈ l ∧ v.getLsbD (n % 32) = true ∧ s.fitted (sourceDie n) = true then false
        else s.evtPending.getD n false) := by
  induction l with
  | nil => exact fun s => ⟨rfl, fun n => by simp⟩
  | cons j l ih =>
    intro s
    obtain ⟨hj, hl⟩ := List.forall_mem_cons.1 hl
    obtain ⟨hframe, hbits⟩ := ih hl (State.clearBit i v s j)
    have hstep : ∀ p, { State.clearBit i v s j with evtPending := p } = { s with evtPending := p } := fun p => by
      unfold State.clearBit
      split <;> rfl
    have hfit : ∀ e, (State.clearBit i v s j).fitted e = s.fitted e := fun e => by
      unfold State.clearBit
      split <;> rfl
    refine ⟨?_, fun n => ?_⟩
    · rw [List.foldl_cons]
      exact hframe.trans (hstep _)
    · rw [List.foldl_cons, hbits n, hfit]
      have hone : (State.clearBit i v s j).evtPending.getD n false =
          if n = 32 * i + j ∧ v.getLsbD j = true ∧ s.fitted (sourceDie n) = true then false else s.evtPending.getD n false := by
        unfold State.clearBit
        by_cases hn : n = 32 * i + j
        · subst hn
          by_cases hc : v.getLsbD j = true ∧ s.fitted (sourceDie (32 * i + j)) = true
          · rw [if_pos (by rw [hc.1, hc.2]; rfl), if_pos ⟨rfl, hc⟩]
            simp only [KMap.getD, KMap.find?_erase_self, Option.getD_none]
          · rw [if_neg (by simpa using hc), if_neg (fun h => hc h.2)]
        · rw [if_neg (show ¬ (n = 32 * i + j ∧ _) from fun h => hn h.1)]
          split
          · simp only [KMap.getD, KMap.find?_erase_ne _ hn]
          · rfl
      rw [hone]
      have hkey : n = 32 * i + j ↔ n / 32 = i ∧ n % 32 = j := by omega
      simp only [hkey, List.mem_cons]
      grind

/-- R501: the pending bits of one register that a write clears. -/
theorem State.clearPending_spec : s.clearPending i v = { s with evtPending := (s.clearPending i v).evtPending } ∧
    ∀ n, (s.clearPending i v).evtPending.getD n false =
      (if n / 32 = i ∧ v.getLsbD (n % 32) = true ∧ s.fitted (sourceDie n) = true then false
        else s.evtPending.getD n false) := by
  obtain ⟨hframe, hbits⟩ := State.clearBits_spec (i := i) (v := v) (List.range 32) (fun j => List.mem_range.1) s
  refine ⟨hframe, fun n => (hbits n).trans ?_⟩
  have hmem : n % 32 ∈ List.range 32 := List.mem_range.2 (Nat.mod_lt _ (by decide))
  simp only [hmem, true_and]

end

/-- Settles O51: the accesses of a window by the die they reach, and each register's write. -/
theorem registerAccesses : Obligations.RegisterAccesses := by
  unfold Obligations.RegisterAccesses
  intro s d off v x read
  refine ⟨fun hshut ha hlt => ⟨fun hf => ?_, fun hf hi h1 => ⟨?_, ?_⟩, fun hf hi => ?_, fun hf hi h0 => ⟨fun h1 h2 => ?_, ?_,
    fun h1 => ?_⟩, fun hf hi h0 size wr hsize => ?_⟩, fun hf => ⟨fun hnone => execDiagWindowResponse_idle hf hnone,
    fun hi h0 => ⟨fun h h1 h2 => ?_, fun h h1 => ?_⟩⟩, rfl, rfl, fun hshut => ?_⟩
  · rw [execDiagWindowAccess_open hshut, State.diagAccess_unfitted ha hlt hf]
    rfl
  · rw [execDiagWindowAccess_open hshut, State.diagAccess_isolated ha hlt hf hi, State.diagIsolated_reads h1]
    rfl
  · rw [execDiagWindowAccess_open hshut, State.diagAccess_isolated ha hlt hf hi]
    rfl
  · rw [execDiagWindowAccess_open hshut, State.diagAccess_isolated (by decide) (by decide) hf hi, State.diagIsolated_reads_status]
    rfl
  · rw [execDiagWindowAccess_open hshut, State.diagAccess_anchor ha hlt hf hi h0, State.diagDo_reads h1 h2]
    rfl
  · rw [execDiagWindowAccess_open hshut, State.diagAccess_anchor (by decide) (by decide) hf hi h0, State.diagDo_reads_stamp]
    rfl
  · rw [execDiagWindowAccess_open hshut, State.diagAccess_anchor ha hlt hf hi h0, State.diagDo_writes h1]
  · subst hsize
    rw [execDiagWindowAccess_open hshut, State.diagAccess_member ha hlt hf hi h0]
    exact ⟨fun h => congrArg _ (if_pos h), fun h => congrArg _ (if_neg (by rw [h]; exact Bool.false_ne_true))⟩
  · rw [execDiagWindowResponse_member hf hi h0 h, State.diagDo_reads h1 h2, State.diagWord_beside]
    rfl
  · rw [execDiagWindowResponse_member hf hi h0 h, State.diagDo_writes h1]
    rfl
  · intro write
    have hword : ∀ {a : Nat} {u : BitVec 32}, a % 4 = 0 → a < 0x1000000 → write a u = .next (s.writeWord a u) :=
      fun ha hlt => execRegisterWrite_word hshut ha hlt
    refine ⟨fun a ha => ?_, fun he h0 => ?_, fun he => ?_, fun he h0 => ⟨?_, ?_⟩, hword (by decide) (by decide), fun he => ?_,
      fun he => ?_, fun q hq => ⟨?_, ?_⟩, fun n hn => ⟨?_, fun hv => ?_, fun hv => ?_⟩, fun i hi => ?_,
      hword (by decide) (by decide), fun e w ha hlt => ?_⟩
    · refine (execRegisterWrite_open hshut).trans (congrArg _ (if_pos ?_))
      exact ha
    · rw [hword (by decide) (by decide), show exec .pkgEnable s = _ from hostDoes_open hshut]
      exact congrArg _ (State.writeControl_enables he h0)
    · rw [hword (by decide) (by decide), show exec .pkgDisable s = _ from hostDoes_open hshut]
      exact congrArg _ (State.writeControl_disables he)
    · rw [hword (by decide) (by decide), show exec .shutdownNormal s = _ from hostDoes_open hshut]
      exact congrArg _ (State.writeControl_shuts he h0 rfl rfl (by decide) (by decide))
    · rw [hword (by decide) (by decide), show exec .shutdownAbrupt s = _ from hostDoes_open hshut]
      exact congrArg _ (State.writeControl_shuts he h0 rfl rfl (by decide) (by decide))
    · rw [hword (by decide) (by decide), State.writeWord_queueSizes, HostRegs.writeQueue, if_pos he]
    · rw [hword (by decide) (by decide), State.writeWord_queueSizes, HostRegs.writeQueue,
        if_neg (by rw [he]; exact Bool.false_ne_true), if_pos rfl]
    · rw [hword (by omega) (by omega), State.writeWord_tail hq, show exec (.sqTailDoorbell q v) s = _ from hostDoes_open hshut]
    · rw [hword (by omega) (by omega), State.writeWord_head hq, show exec (.cqHeadDoorbell q v) s = _ from hostDoes_open hshut]
    · rw [show 0x1008 + 16 * n = 0x1000 + 16 * n + 4 * 2 by omega, hword (by omega) (by omega), State.writeWord_msix hn (by decide)]
      rfl
    · rw [show 0x100C + 16 * n = 0x1000 + 16 * n + 4 * 3 by omega, hword (by omega) (by omega), State.writeWord_msix hn (by decide)]
      exact congrArg _ (if_pos hv)
    · rw [show 0x100C + 16 * n = 0x1000 + 16 * n + 4 * 3 by omega, hword (by omega) (by omega), State.writeWord_msix hn (by decide),
        show exec (.msixVectorUnmask n) s = _ from hostDoes_open hshut, when, if_pos (decide_eq_true hn)]
      exact congrArg _ (if_neg (by rw [hv]; exact Bool.false_ne_true))
    · refine ⟨s.clearPending i v, ?_, State.clearPending_spec⟩
      rw [hword (by omega) (by omega), State.writeWord_pending hi]
    · rw [execRegisterWrite_open hshut, State.writeBar_window ha hlt, execDiagWindowAccess_open hshut]

end Sys2Proof.Machine

/-! PROOFS. O52: doorbells, the queue verbs and the interrupt vectors (12 R380, R382, R395; 13 R420). -/

namespace Sys2Proof.Machine

/-! ### Doorbells (12 R382) -/

section
variable {s : State} {q : Nat} {v : BitVec 32} {c : Instr}

/-- An invalid doorbell write is counted and reported, and sets its flag. -/
theorem State.badDoorbell_runs (h : exec c s = .next s.badDoorbell) :
    Runs c s fun t => t.host = { s.host with doorbellErr := true } ∧
      t.get Obj.doorbellInvalidCount 0 = min 4294967295 (s.get Obj.doorbellInvalidCount 0 + 1) ∧
      Logged 0 Ev.doorbellInvalid.src Ev.doorbellInvalid s t ∧
      Reported [Obj.doorbellInvalidCount] 0 { s with host := t.host } t := by
  refine ⟨_, h, ?_⟩
  unfold State.badDoorbell
  generalize hu : State.bump { s with host := { s.host with doorbellErr := true } } Obj.doorbellInvalidCount 0 = u
  have hbump : Reported [Obj.doorbellInvalidCount] 0 { s with host := { s.host with doorbellErr := true } } u :=
    hu ▸ State.bump_reported [Obj.doorbellInvalidCount] _ 0 _ 0 1 (by decide) (.inr (by decide))
  have hget : u.get Obj.doorbellInvalidCount 0 = min 4294967295 (s.get Obj.doorbellInvalidCount 0 + 1) :=
    hu ▸ State.bump_get_self _ _ 0 1
  have hdie : u.die 0 = s.die 0 := hu ▸ State.bump_die ..
  have hraise : Reported [] 0 u (u.raise 0 Ev.doorbellInvalid) := State.raise_reported [] u 0 _ [] (.inl (by decide))
  have hall := hbump.trans (State.raise_reported [Obj.doorbellInvalidCount] u 0 Ev.doorbellInvalid [] (.inl (by decide)))
  have hhost : (u.raise 0 Ev.doorbellInvalid).host = { s.host with doorbellErr := true } :=
    congrArg State.host (a₁ := State.side _ (u.raise 0 Ev.doorbellInvalid)) hall.1
  refine ⟨hhost, ?_, ?_, ?_⟩
  · exact (Gives.get hraise (by decide) (by decide)).trans hget
  · exact State.raise_logs u _ [] (.inl (by decide)) (by decide) (by rw [hdie]) (by rw [hdie]) rfl
  · rw [hhost]
    exact hall

theorem execSqTailDoorbell_open (h : s.shut = false) : exec (.sqTailDoorbell q v) s = .next (s.sqTail q v) :=
  hostDoes_open h

theorem execCqHeadDoorbell_open (h : s.shut = false) : exec (.cqHeadDoorbell q v) s = .next (s.cqHead q v) :=
  hostDoes_open h

theorem State.sqTail_none (h : s.sqs.find? q = none) : s.sqTail q v = s.badDoorbell := by
  unfold State.sqTail
  rw [h]

theorem State.sqTail_some {x : Sq} (h : s.sqs.find? q = some x) : s.sqTail q v =
    if x.deleting ∨ x.size ≤ v.toNat then s.badDoorbell else { s with sqs := s.sqs.insert q { x with tail := v.toNat } } := by
  unfold State.sqTail
  rw [h]

theorem State.cqHead_none (h : s.cqs.find? q = none) : s.cqHead q v = s.badDoorbell := by
  unfold State.cqHead
  rw [h]

theorem State.cqHead_some {x : Cq} (h : s.cqs.find? q = some x) : s.cqHead q v =
    if x.size ≤ v.toNat ∨ x.used < (v.toNat + x.size - x.head) % max 1 x.size then s.badDoorbell
    else ({ s with cqs := s.cqs.insert q { x with head := v.toNat } }).drainHeld q x.held.length := by
  unfold State.cqHead
  rw [h]

end

/-! ### The queue verbs (13 R420) -/

section
variable {s : State} {asn : Nat} {sl : Slot} (hs : s.slots.find? asn = some sl) (hr : sl.ready 0 = true)
include hs hr

theorem execCreateSq_ready (hop : sl.op = 0x44) (hk : eVs sl.entry 2 1 % 2 = 0) :
    exec (.createSq asn) s = .next (s.createSq asn sl) := by
  have hexec : exec (.createSq asn) s = execCreateSq asn s := rfl
  rw [hexec, execCreateSq, State.adminVerb_of_ready hs hop hr, if_pos hk]

theorem execCreateCq_ready (hop : sl.op = 0x44) (hk : eVs sl.entry 2 1 % 2 = 1) :
    exec (.createCq asn) s = .next (s.createCq asn sl) := by
  have hexec : exec (.createCq asn) s = execCreateCq asn s := rfl
  rw [hexec, execCreateCq, State.adminVerb_of_ready hs hop hr, if_pos hk]

theorem execDeleteCq_ready (hop : sl.op = 0x45) (hk : eVs sl.entry 2 1 % 2 = 1) (hq : eVs sl.entry 0 2 ≠ 0)
    (hin : s.cqs.contains (eVs sl.entry 0 2) = true) : exec (.deleteCq asn) s = .next
      (if s.sqs.entries.any fun e => e.2.cq == eVs sl.entry 0 2 then s.partFail asn 0 St.queueInUse
        else ({ s with cqs := s.cqs.erase (eVs sl.entry 0 2) }).partOk asn 0) := by
  have hexec : exec (.deleteCq asn) s = execDeleteCq asn s := rfl
  rw [hexec, execDeleteCq, State.adminVerb_of_ready hs hop hr]
  dsimp only
  rw [if_neg (by omega), if_neg (fun h => h.elim hq (by rw [hin]; decide))]

theorem execDeleteSq_refused (hop : sl.op = 0x45) (hk : eVs sl.entry 2 1 % 2 = 0)
    (h : eVs sl.entry 0 2 = 0 ∨ s.sqs.find? (eVs sl.entry 0 2) = none) :
    exec (.deleteSq asn) s = .next (s.partFail asn 0 St.invalidQueueId) := by
  have hexec : exec (.deleteSq asn) s = execDeleteSq asn s := rfl
  rw [hexec, execDeleteSq, State.adminVerb_of_ready hs hop hr]
  dsimp only
  rw [if_neg (by omega)]
  refine congrArg _ ?_
  split
  · rfl
  · next x hx => exact if_pos (.inl (h.resolve_right fun hnone => nomatch hx.symm.trans hnone))

theorem execDeleteSq_accepted {x : Sq} (hop : sl.op = 0x45) (hk : eVs sl.entry 2 1 % 2 = 0) (hq : eVs sl.entry 0 2 ≠ 0)
    (hx : s.sqs.find? (eVs sl.entry 0 2) = some x) (hdel : x.deleting = false) :
    exec (.deleteSq asn) s = .next (({ s with
      sqs := s.sqs.insert (eVs sl.entry 0 2) { x with deleting := true, drawWait := none }
      waiters := s.waiters.filter fun w => w.1 != eVs sl.entry 0 2 }.partOk asn 0).sqSweep (eVs sl.entry 0 2)) := by
  have hexec : exec (.deleteSq asn) s = execDeleteSq asn s := rfl
  rw [hexec, execDeleteSq, State.adminVerb_of_ready hs hop hr]
  dsimp only
  rw [if_neg (by omega)]
  refine congrArg _ ?_
  split
  · next hnone => exact nomatch hnone.symm.trans hx
  · next y hy =>
    obtain rfl := Option.some.inj (hy.symm.trans hx)
    exact if_neg fun h => h.elim hq (by rw [hdel]; exact Bool.false_ne_true)

end

/-! ### Interrupts (12 R395) -/

section
variable {s : State} {v q : Nat} {c : Cq}

theorem execMsixVectorUnmask_open (h : s.shut = false) (hv : v < 2048) : exec (.msixVectorUnmask v) s = .next (s.unmask v) := by
  refine (hostDoes_open h).trans (congrArg _ ?_)
  rw [when, if_pos (decide_eq_true hv)]

/-- The block with vector v unmasked. -/
def State.unmasked (s : State) (v : Nat) : State :=
  { s with msix := s.msix.insert v { s.msix.getD v {} with masked := false } }

theorem State.unmask_idle (h : s.pba.getD v false = false) : s.unmask v = s.unmasked v :=
  if_neg (by rw [show State.pba _ = s.pba from rfl, h]; exact Bool.false_ne_true)

theorem State.unmask_pending (h : s.pba.getD v false = true) : s.unmask v =
    { s.unmasked v with pba := s.pba.erase v }.emit (.msix v (s.msix.getD v {}).addr (s.msix.getD v {}).data) := by
  have hentry : (s.unmasked v).msix.getD v {} = { s.msix.getD v {} with masked := false } :=
    congrArg (Option.getD · _) (KMap.find?_insert_self ..)
  have hsend : State.vector { s.unmasked v with pba := s.pba.erase v } v =
      { s.unmasked v with pba := s.pba.erase v }.emit (.msix v (s.msix.getD v {}).addr (s.msix.getD v {}).data) := by
    unfold State.vector
    dsimp only
    rw [hentry]
    exact if_neg Bool.false_ne_true
  exact (if_pos h).trans hsend

theorem execCqCoalesceTimeout_some (h : s.cqs.find? q = some c) : exec (.cqCoalesceTimeout q) s =
    .next (if c.ien ∧ c.count ≠ 0 then { s with cqs := s.cqs.insert q { c with count := 0 } }.vector c.vector else s) := by
  have hexec : exec (.cqCoalesceTimeout q) s = execCqCoalesceTimeout q s := rfl
  rw [hexec, execCqCoalesceTimeout, h]

end

/-- Settles O52: each doorbell by its queue, the queue verbs' checks in their order, and the vectors. -/
theorem queuesAndVectors : Obligations.QueuesAndVectors := by
  unfold Obligations.QueuesAndVectors
  intro s asn sl
  refine ⟨fun hshut q v => ?_, fun hs hr ht => ?_, fun v hshut hv => ⟨fun h => ?_, fun h => ?_⟩, fun q c hc => ⟨fun hi hn => ?_, fun h => ?_⟩⟩
  · intro bad
    have htail := execSqTailDoorbell_open (q := q) (v := v) hshut
    have hhead := execCqHeadDoorbell_open (q := q) (v := v) hshut
    refine ⟨fun x hx hdel hv => ?_, fun x hx hv => State.badDoorbell_runs ?_, fun h => State.badDoorbell_runs ?_,
      fun c hc hheld hv hused => ?_, fun c hc hv => State.badDoorbell_runs ?_, fun h => State.badDoorbell_runs ?_⟩
    · rw [htail, State.sqTail_some hx, if_neg (by simpa [hdel] using hv)]
    · rw [htail, State.sqTail_some hx, if_pos (.inr hv)]
    · rw [htail, State.sqTail_none h]
    · rw [hhead, State.cqHead_some hc, if_neg (by omega), hheld]
      rfl
    · rw [hhead, State.cqHead_some hc, if_pos hv]
    · rw [hhead, State.cqHead_none h]
  · intro e q base done fails
    have hfail : ∀ st, s.partFail asn 0 st = s.ends asn 0 fun p => { p with status := st, lba := none } := State.partFail_ends hs ht
    have hok : ∀ u : State, u.slots = s.slots → u.partOk asn 0 =
        u.ends asn 0 fun p => { p with status := St.success, result := 0, data := [] } := fun u hu =>
      State.partOk_gives (by rw [hu]; exact hs) ht 0 []
    refine ⟨fun hop hk => ?_, fun hop hk => ?_, fun hop hk hq hin => ?_, fun hop hk => ⟨fun h => ?_, fun x hq hx hdel => ?_⟩⟩
    · rw [execCreateSq_ready hs hr hop hk]
      unfold State.createSq
      refine ⟨fun h => ?_, fun h hcq => ?_, fun h h0 hcq hb => ?_, fun h h0 hcq hb => ?_⟩
      · exact congrArg _ ((if_pos h).trans (hfail _))
      · refine congrArg _ ((if_neg (Bool.eq_false_iff.1 h)).trans ((if_pos ?_).trans (hfail _)))
        exact hcq.imp_right (by rw [Bool.not_eq_true']; exact id)
      · refine congrArg _ ((if_neg (Bool.eq_false_iff.1 h)).trans ((if_neg ?_).trans ((if_pos hb).trans (hfail _))))
        exact fun hc => hc.elim h0 (by rw [Bool.not_eq_true', hcq]; exact Bool.noConfusion)
      · refine congrArg _ ((if_neg (Bool.eq_false_iff.1 h)).trans ((if_neg ?_).trans ((if_neg (not_not_intro hb)).trans (hok _ rfl))))
        exact fun hc => hc.elim h0 (by rw [Bool.not_eq_true', hcq]; exact Bool.noConfusion)
    · rw [execCreateCq_ready hs hr hop hk]
      unfold State.createCq
      refine ⟨fun h => ?_, fun h hb => ?_⟩
      · exact congrArg _ ((if_pos h).trans (hfail _))
      · exact congrArg _ ((if_neg (Bool.eq_false_iff.1 h)).trans ((if_neg (not_not_intro hb)).trans (hok _ rfl)))
    · rw [execDeleteCq_ready hs hr hop hk hq hin]
      refine ⟨fun ⟨x, hx, hxq⟩ => ?_, fun hall => ?_⟩
      · exact congrArg _ ((if_pos (List.any_eq_true.2 ⟨x, hx, by simpa using hxq⟩)).trans (hfail _))
      · refine congrArg _ ((if_neg ?_).trans (hok _ rfl))
        rintro hany
        obtain ⟨x, hx, hxq⟩ := List.any_eq_true.1 hany
        exact hall x hx (beq_iff_eq.1 hxq)
    · rw [execDeleteSq_refused hs hr hop hk h, hfail]
    · rw [execDeleteSq_accepted hs hr hop hk hq hx hdel]
      exact congrArg (fun u : State => Host.Outcome.next (u.sqSweep q)) (hok _ rfl)
  · rw [execMsixVectorUnmask_open hshut hv, State.unmask_idle h]
    rfl
  · rw [execMsixVectorUnmask_open hshut hv, State.unmask_pending h]
    rfl
  · rw [execCqCoalesceTimeout_some hc, if_pos ⟨hi, hn⟩]
  · rw [execCqCoalesceTimeout_some hc, if_neg (fun hc => h.elim (by rw [hc.1]; exact Bool.noConfusion) hc.2)]

end Sys2Proof.Machine

/-! PROOFS. O53: resets of the function, ENABLE, D3hot and the shutdowns (12 R376, R378, R379). -/

namespace Sys2Proof.Machine

/-! ### A mapped table -/

theorem KMap.lookupList_map {α β : Type} (g : Nat → α → β) (k : Nat) (l : List (Nat × α)) :
    KMap.lookupList k (l.map fun e => (e.1, g e.1 e.2)) = (KMap.lookupList k l).map (g k) := by
  induction l with
  | nil => rfl
  | cons e l ih =>
    simp only [List.map_cons, KMap.lookupList]
    split
    · next h => rw [h, Option.map_some]
    · exact ih

/-- What a table holds once its values have been changed. -/
theorem KMap.find?_mapVals {α β : Type} (m : KMap α) (g : Nat → α → β) (k : Nat) :
    (m.mapVals g).find? k = (m.find? k).map (g k) := KMap.lookupList_map g k m.entries

/-! ### Resets of the function (12 R376) -/

section
variable {s : State}

theorem State.hostReset_slots {a : Nat} {sl : Slot} (h : s.hostReset.slots.find? a = some sl) : sl.orphan = true := by
  have hmem : (a, sl) ∈ s.slots.entries.filterMap fun e => e.2.afterHost.map fun v => (e.1, v) := KMap.lookupList_mem h
  obtain ⟨e, -, he⟩ := List.mem_filterMap.1 hmem
  obtain ⟨v, hv, hve⟩ := Option.map_eq_some_iff.1 he
  obtain rfl : v = sl := congrArg Prod.snd hve
  unfold Slot.afterHost at hv
  split at hv
  · exact absurd hv nofun
  · exact Option.some.inj hv ▸ rfl

theorem State.hostReset_msix {n : Nat} {e : Msix} (h : s.hostReset.msix.find? n = some e) : e.masked = true := by
  have hmap : s.hostReset.msix.find? n = (s.msix.find? n).map fun m => { m with masked := true } := KMap.find?_mapVals ..
  obtain ⟨v, -, hv⟩ := Option.map_eq_some_iff.1 (hmap.symm.trans h)
  exact hv ▸ rfl

theorem State.hostReset_sessions : ∀ x ∈ s.hostReset.sessions, x.src = .manager := by
  intro x hx
  have hne := (List.mem_filter.1 hx).2
  cases hsrc : x.src with
  | host => rw [hsrc] at hne; exact absurd hne (by decide)
  | manager => rfl

theorem State.hostReset_die (d : DieId) : s.hostReset.die d =
    { s.die d with accesses := (s.die d).accesses.map fun a => { a with window := false } } :=
  Vector.getElem_map ..

theorem State.functionReset_host (h : s.host.fatal = false) : s.functionReset = s.hostReset :=
  if_neg (by rw [h]; exact Bool.false_ne_true)

theorem State.functionReset_warm (h : s.host.fatal = true) : s.functionReset = s.warmStart.bootRom :=
  (if_pos h).trans s.warmReset_eq

/-! ### ENABLE (12 R379) -/

theorem State.pkgEnable_badSize (he : s.host.enable = false) (hz : s.host.sizesOk = false) :
    s.pkgEnable = { s with host := { s.host with enable := true, fatal := true } } := by
  refine (if_neg (by rw [he]; exact Bool.false_ne_true)).trans (if_neg ?_)
  exact fun h => Bool.false_ne_true (hz.symm.trans h)

/-- The block with ENABLE set. -/
def State.enabled (s : State) : State := { s with host := { s.host with enable := true } }

theorem State.pkgEnable_rises (he : s.host.enable = false) (hz : s.host.sizesOk = true) :
    s.pkgEnable = s.enabled.adminRise.readyRise :=
  (if_neg (by rw [he]; exact Bool.false_ne_true)).trans (if_pos hz)

theorem State.adminRise_frame : s.adminRise.host.enable = s.host.enable ∧ s.adminRise.dies = s.dies ∧
    s.adminRise.slots = s.slots := by
  unfold State.adminRise
  dsimp only
  split <;> exact ⟨rfl, rfl, rfl⟩

/-- What READY's rise leaves as it was. -/
theorem State.readyRise_frame : s.readyRise.host.enable = s.host.enable ∧ s.readyRise.host.adminReady = s.host.adminReady ∧
    s.readyRise.dies = s.dies ∧ s.readyRise.slots = s.slots ∧ s.readyRise.sqs = s.sqs ∧ s.readyRise.cqs = s.cqs := by
  unfold State.readyRise
  split
  · dsimp only
    split
    · simp [State.put]
    · exact ⟨rfl, rfl, rfl, rfl, rfl, rfl⟩
  · exact ⟨rfl, rfl, rfl, rfl, rfl, rfl⟩

theorem State.readyRise_ready (hb : s.host.bootReady = true) (he : s.host.enable = true) (ha : s.host.adminReady = true) :
    s.readyRise.host.ready = true := by
  unfold State.readyRise
  rw [hb, he, ha]
  split
  · dsimp only
    split
    · simp [State.put]
    · rfl
  · next h => simpa using h

theorem State.readyRise_of_adminUnready (ha : s.host.adminReady = false) : s.readyRise = s :=
  if_neg (by simp [ha])

theorem State.adminRise_of_unread (hr : (s.die 0).recordsRead = false) : s.adminRise = s := if_neg (by simp [hr])

theorem State.adminRise_rises (he : s.host.enable = true) (hz : s.host.sizesOk = true) (hr : (s.die 0).recordsRead = true)
    (ha : s.host.adminReady = false) (hf : s.host.fatal = false) : s.adminRise = { s with
      host := { s.host with adminReady := true }
      sqs := s.sqs.insert 0 { size := s.host.asqSize.toNat, base := s.host.asqBase, cq := 0, frozenModel := false }
      cqs := s.cqs.insert 0
        { size := s.host.acqSize.toNat, base := s.host.acqBase, vector := 0, ien := true, aggCount := 1, aggTime := 0 } } :=
  if_pos (by simp [he, hz, hr, ha, hf])

/-! ### Shutdowns (12 R378) -/

/-- A zone's entry once its partial husk is to be stored short. -/
def Zone.shortened (v : Zone) : Zone := if v.awp ≠ 0 ∧ v.top.huskKib ≠ 0 then { v with short := true } else v

theorem Zone.shortened_shortened (v : Zone) : v.shortened.shortened = v.shortened := by
  unfold Zone.shortened
  by_cases h : v.awp ≠ 0 ∧ v.top.huskKib ≠ 0
  · rw [if_pos h]
    exact if_pos h
  · rw [if_neg h, if_neg h]

/-- A die's data once its zones are to store short. -/
def DieData.shortened (x : DieData) : DieData := { x with zones := x.zones.mapVals fun _ v => v.shortened }

theorem DieData.shortened_shortened (x : DieData) : x.shortened.shortened = x.shortened := by
  have hzones : (x.zones.mapVals fun _ v => v.shortened).mapVals (fun _ v => v.shortened) =
      x.zones.mapVals fun _ v => v.shortened := by
    simp [KMap.mapVals, Zone.shortened_shortened]
  simp only [DieData.shortened, hzones]

theorem State.shortAll_all (l : List DieId) : ∀ s : State,
    (l.foldl (fun s d => s.shortAll d) s).host = s.host ∧ (l.foldl (fun s d => s.shortAll d) s).slots = s.slots ∧
    ∀ d, ((l.foldl (fun s d => s.shortAll d) s).die d).data = if d ∈ l then (s.die d).data.shortened else (s.die d).data := by
  induction l with
  | nil => exact fun s => ⟨rfl, rfl, fun d => by simp⟩
  | cons e l ih =>
    intro s
    obtain ⟨hhost, hslots, hdata⟩ := ih (s.shortAll e)
    have hself : ((s.shortAll e).die e).data = (s.die e).data.shortened := (congrArg Die.data (State.modData_die_self ..)).trans rfl
    refine ⟨hhost, hslots, fun d => (hdata d).trans ?_⟩
    by_cases he : d = e
    · subst he
      rw [hself, if_pos List.mem_cons_self, DieData.shortened_shortened, ite_self]
    · have hne : ((s.shortAll e).die d).data = (s.die d).data := congrArg Die.data (State.modDie_die_ne s e d _ he)
      simp only [hne, List.mem_cons, he, false_or]

theorem execShutdownComplete_eq : exec .shutdownComplete s = .next
    (if s.host.shutdownStatus == 1 && (s.host.shutdown != 1 || s.fittedDies.all s.shutDone) then
      { s with host := { s.host with shutdownStatus := 2 } } else s) := rfl

theorem execShutdownComplete_ends (hst : s.host.shutdownStatus = 1) (h : s.host.shutdown ≠ 1 ∨ s.fittedDies.all s.shutDone = true) :
    exec .shutdownComplete s = .next { s with host := { s.host with shutdownStatus := 2 } } := by
  rw [execShutdownComplete_eq, if_pos]
  simp only [Bool.and_eq_true, beq_iff_eq, Bool.or_eq_true, bne_iff_ne]
  exact ⟨hst, h⟩

theorem execShutdownComplete_waits
    (h : ¬ (s.host.shutdownStatus = 1 ∧ (s.host.shutdown ≠ 1 ∨ s.fittedDies.all s.shutDone = true))) :
    exec .shutdownComplete s = .next s := by
  rw [execShutdownComplete_eq, if_neg]
  simp only [Bool.and_eq_true, beq_iff_eq, Bool.or_eq_true, bne_iff_ne]
  exact h

theorem State.all_shutDone : s.fittedDies.all s.shutDone = true ↔ ∀ d, s.fitted d = true → s.shutDone d = true := by
  simp only [List.all_eq_true, State.mem_fittedDies]

end

/-- Settles O53: the function's resets, ENABLE by the sizes and the boot, and the two shutdowns to their end. -/
theorem hostEnablesAndShutsDown : Obligations.HostEnablesAndShutsDown := by
  unfold Obligations.HostEnablesAndShutsDown
  intro s hshut cleared h
  have hflr : exec .functionLevelReset s = .next s.functionReset := hostDoes_open hshut
  have hperst : exec .pciePerstAssert s = .next s.functionReset := hostDoes_open hshut
  have hon : exec .pkgEnable s = .next s.pkgEnable := hostDoes_open hshut
  have hoff : exec .pkgDisable s = .next s.pkgDisable := hostDoes_open hshut
  refine ⟨fun hf => ?_, fun hf => ?_, hostDoes_open hshut, fun he => ⟨?_, ?_⟩, fun he => ⟨?_, fun hz => ?_, fun hz => ?_⟩,
    hostDoes_open hshut, ?_, fun hst => ⟨fun hk => ?_, fun hall => ?_, fun hk d hd hnot => ?_⟩, fun hst => ?_⟩
  · have hcleared : cleared s.functionReset := by
      rw [State.functionReset_host hf]
      refine ⟨rfl, rfl, rfl, rfl, rfl, rfl, rfl, fun _ _ => State.hostReset_msix, State.hostReset_sessions,
        fun _ _ => State.hostReset_slots, rfl, rfl, rfl, rfl, fun d => ?_⟩
      rw [State.hostReset_die]
      exact ⟨rfl, rfl, rfl⟩
    exact ⟨⟨_, hflr, hcleared⟩, ⟨_, hperst, hcleared⟩⟩
  · obtain ⟨⟨hslots, hsqs, hcqs, -⟩, -, hasn, -⟩ := s.warmStart_spec
    rw [hflr, hperst, State.functionReset_warm hf]
    exact ⟨s.warmStart, rfl, rfl, hslots, hsqs, hcqs, hasn⟩
  · rw [hon, State.pkgEnable_of_enabled he]
  · rw [hoff, hflr]
    exact congrArg _ (if_pos he)
  · rw [hoff]
    exact congrArg _ (if_neg (by rw [he]; exact Bool.false_ne_true))
  · rw [hon, State.pkgEnable_badSize he hz]
  · refine ⟨_, hon, ?_⟩
    rw [State.pkgEnable_rises he hz]
    obtain ⟨hen, hadm, hdies, hslots, hsqs, hcqs⟩ := State.readyRise_frame (s := s.enabled.adminRise)
    obtain ⟨hen', hdies', hslots'⟩ := State.adminRise_frame (s := s.enabled)
    refine ⟨hen.trans hen', hdies.trans hdies', hslots.trans hslots', fun hr ha => ?_, fun hr ha hf => ?_⟩
    · rw [State.adminRise_of_unread (s := s.enabled) hr, State.readyRise_of_adminUnready (s := s.enabled) ha]
      rfl
    · have hup : s.enabled.adminRise = _ := State.adminRise_rises rfl hz hr ha hf
      refine ⟨hadm.trans (congrArg (·.host.adminReady) hup), fun hb => State.readyRise_ready ?_ ?_ ?_,
        hsqs.trans (congrArg State.sqs hup), hcqs.trans (congrArg State.cqs hup)⟩
      · exact (congrArg (·.host.bootReady) hup).trans hb
      · exact hen'
      · exact congrArg (·.host.adminReady) hup
  · refine ⟨_, hostDoes_open hshut, ?_⟩
    obtain ⟨hhost, hslots, hdata⟩ := State.shortAll_all s.fittedDies { s with host := { h with shutdown := 1, shutdownStatus := 1 } }
    refine ⟨hhost, hslots, fun d hd => ?_⟩
    have hshort := (hdata d).trans (if_pos ((s.mem_fittedDies d).2 hd))
    have hshut1 : s.shutDown 1 = s.fittedDies.foldl (fun s d => s.shortAll d)
      { s with host := { h with shutdown := 1, shutdownStatus := 1 } } :=
      rfl
    rw [hshut1, hshort]
    refine ⟨rfl, fun z v hz => ?_⟩
    exact (KMap.find?_mapVals ..).trans (congrArg (Option.map Zone.shortened) hz)
  · exact execShutdownComplete_ends hst (.inl hk)
  · exact execShutdownComplete_ends hst (.inr (State.all_shutDone.2 hall))
  · refine execShutdownComplete_waits fun hdone => ?_
    have hall := State.all_shutDone.1 (hdone.2.resolve_left (not_not_intro hk)) d hd
    exact Bool.false_ne_true (hnot.symm.trans hall)
  · exact execShutdownComplete_waits fun hdone => hst hdone.1

end Sys2Proof.Machine

/-! PROOFS. O55: VERB_TIMEOUT, ABORT and QUEUE RESUME (12 R394; 13 R422 to R424; 20 R587). -/

namespace Sys2Proof.Machine

/-! ### VERB_TIMEOUT (20 R587) -/

section
variable {s : State} {asn : Nat} {sl : Slot} (hs : s.slots.find? asn = some sl)
include hs

theorem execVerbTimeout_over (h : sl.decided = true ∨ sl.orphan = true) : exec (.verbTimeout asn) s = .next s := by
  have hexec : exec (.verbTimeout asn) s = execVerbTimeout asn s := rfl
  rw [hexec, execVerbTimeout, hs]
  exact congrArg _ (if_pos (by simpa using h))

theorem execVerbTimeout_settles (hd : sl.decided = false) (ho : sl.orphan = false) : exec (.verbTimeout asn) s =
    .next (((if lateCommit sl.op then (s.dropLadders sl).cancelParts asn else s).modSlot asn
      fun sl => { sl with waitsFor := none }).settleVerb asn St.verbTimeout 0 {}) := by
  have hexec : exec (.verbTimeout asn) s = execVerbTimeout asn s := rfl
  rw [hexec, execVerbTimeout, hs]
  exact congrArg _ (if_neg (by simp [hd, ho]))

omit hs in
theorem State.dropLadders_of_noRead (h1 : sl.op ≠ 1) (h5 : sl.op ≠ 5) : s.dropLadders sl = s :=
  if_neg fun h => h.elim h1 h5

/-! ### ABORT (13 R422) -/

section
variable (hop : sl.op = 0x46) (hr : sl.ready 0 = true) (ht : sl.traced = false)
include hop hr

theorem execAbort_some {t : Slot} (h : s.abortTarget (eVs sl.entry 0 2) (eVs sl.entry 2 2) = some t) : exec (.abort asn) s = .next (
    if t.decided then (s.modSlot asn fun sl => { sl with waitsFor := some t.asn }).partEnd asn 0 fun p =>
      { p with status := St.targetNotFound, result := 1 }
    else if lateCommit t.op then
      (((s.modSlot asn fun sl => { sl with waitsFor := some t.asn }).partOk asn 0).cancelParts t.asn).settleVerb t.asn St.aborted 0 {}
    else
      ((s.modSlot asn fun sl => { sl with waitsFor := some t.asn }).modSlot asn fun sl =>
        { sl with waitsFor := none }).partEnd asn 0 fun p => { p with status := St.targetNotFound, result := 1 }) := by
  have hexec : exec (.abort asn) s = execAbort asn s := rfl
  rw [hexec, execAbort]
  refine congrArg _ ((State.adminVerb_of_ready hs hop hr).trans ?_)
  split
  · next hnone => exact nomatch hnone.symm.trans h
  · next u hu =>
    obtain rfl := Option.some.inj (hu.symm.trans h)
    rfl

include ht

theorem execAbort_none (h : s.abortTarget (eVs sl.entry 0 2) (eVs sl.entry 2 2) = none) : exec (.abort asn) s =
    .next (s.ends asn 0 fun p => { p with status := St.targetNotFound, lba := none }) := by
  have hexec : exec (.abort asn) s = execAbort asn s := rfl
  rw [hexec, execAbort]
  refine congrArg _ ((State.adminVerb_of_ready hs hop hr).trans ?_)
  split
  · exact State.partFail_ends hs ht _
  · next u hu => exact nomatch hu.symm.trans h

variable {t : Slot} (h : s.abortTarget (eVs sl.entry 0 2) (eVs sl.entry 2 2) = some t)
include h

theorem execAbort_decided (hd : t.decided = true) : exec (.abort asn) s =
    .next ({ s with slots := s.slots.insert asn { sl with waitsFor := some t.asn } }.ends asn 0 fun p =>
      { p with status := St.targetNotFound, result := 1 }) := by
  rw [execAbort_some hs hop hr h, if_pos hd, State.modSlot_eq hs]
  refine congrArg _ (State.partEnd_of_untraced (sl := { sl with waitsFor := some t.asn }) ?_ ht 0 _)
  exact KMap.find?_insert_self ..

theorem execAbort_committed (hd : t.decided = false) (hl : lateCommit t.op = false) : exec (.abort asn) s =
    .next ({ s with slots := s.slots.insert asn { sl with waitsFor := none } }.ends asn 0 fun p =>
      { p with status := St.targetNotFound, result := 1 }) := by
  rw [execAbort_some hs hop hr h, if_neg (by simp [hd]), if_neg (by simp [hl]), State.modSlot_modSlot hs, State.modSlot_eq hs]
  refine congrArg _ (State.partEnd_of_untraced (sl := { sl with waitsFor := none }) ?_ ht 0 _)
  exact KMap.find?_insert_self ..

theorem execAbort_aborts (hd : t.decided = false) (hl : lateCommit t.op = true) : exec (.abort asn) s =
    .next ((({ s with slots := s.slots.insert asn { sl with waitsFor := some t.asn } }.ends asn 0 fun p =>
      { p with status := St.success, result := 0, data := [] }).cancelParts t.asn).settleVerb t.asn St.aborted 0 {}) := by
  rw [execAbort_some hs hop hr h, if_neg (by simp [hd]), if_pos hl, State.modSlot_eq hs]
  refine congrArg (fun u : State => Host.Outcome.next ((u.cancelParts t.asn).settleVerb t.asn St.aborted 0 {})) ?_
  refine State.partOk_gives (sl := { sl with waitsFor := some t.asn }) ?_ ht 0 []
  exact KMap.find?_insert_self ..

end

/-! ### QUEUE RESUME (12 R394; 13 R424) -/

omit hs in
theorem State.resumeCheck_running {x : Sq} (hq : eVs sl.entry 0 2 ≠ 0) (hx : s.sqs.find? (eVs sl.entry 0 2) = some x)
    (h : x.state ≠ .frozen) : s.resumeCheck sl = (St.queueNotFrozen, none) := by
  unfold State.resumeCheck
  dsimp only
  rw [hx]
  exact (if_neg hq).trans (if_pos h)

omit hs in
theorem State.resumeCheck_frozen {x : Sq} (hq : eVs sl.entry 0 2 ≠ 0) (hx : s.sqs.find? (eVs sl.entry 0 2) = some x)
    (h : x.state = .frozen) (hin : eVs sl.entry 2 1 = 0 → eVs sl.entry 4 2 < x.size ∧
      (eVs sl.entry 4 2 + max 1 x.size - x.head) % max 1 x.size ≤ (x.tail + max 1 x.size - x.head) % max 1 x.size) :
    s.resumeCheck sl = (St.success, some x) := by
  unfold State.resumeCheck
  dsimp only
  rw [hx]
  refine (if_neg hq).trans ((if_neg (not_not_intro h)).trans (if_neg ?_))
  rintro ⟨hzero, hout⟩
  obtain ⟨hlt, hle⟩ := hin hzero
  exact hout.elim (Nat.not_le.2 hlt) (Nat.not_lt.2 hle)

section
variable (hop : sl.op = 0x4D) (hr : sl.ready 0 = true)
include hop hr

theorem State.resumeStart_refused {action : Nat} {st : BitVec 16} (ht : sl.traced = false) (ha : eVs sl.entry 2 1 = action)
    (h : s.resumeCheck sl = (st, none)) :
    s.resumeStart asn action = s.ends asn 0 fun p => { p with status := st, lba := none } := by
  have hfail : s.partFail asn 0 st = _ := State.partFail_ends hs ht st
  rw [← hfail, State.resumeStart, State.adminVerb_of_ready hs hop hr, if_neg (not_not_intro ha)]
  split
  · next heq =>
    obtain rfl := congrArg Prod.fst (heq.symm.trans h)
    rfl
  · next heq => exact nomatch congrArg Prod.snd (heq.symm.trans h)

theorem State.resumeStart_accepted {action : Nat} {x : Sq} {st : BitVec 16} (ha : eVs sl.entry 2 1 = action)
    (h : s.resumeCheck sl = (st, some x)) : s.resumeStart asn action =
    { s with sqs := s.sqs.insert (eVs sl.entry 0 2) { x with
      state := .resuming, resume := some (asn, action == 1, if action = 0 then eVs sl.entry 4 2 else sl.savedAwp) } } := by
  rw [State.resumeStart, State.adminVerb_of_ready hs hop hr, if_neg (not_not_intro ha)]
  split
  · next heq => exact nomatch congrArg Prod.snd (heq.symm.trans h)
  · next heq =>
    obtain rfl := Option.some.inj (congrArg Prod.snd (heq.symm.trans h))
    rfl

end

/-- The block once queue q fetches again from an entry on. -/
def State.thawed (u : State) (q asn : Nat) (x : Sq) (to_ : Nat) : State :=
  { u with
    sqs := u.sqs.insert q { x with
      state := .running, resume := none, head := to_, headWaiting := false, attemptTime := 0, drawWait := none
      drawFailed := none }
    waiters := u.waiters.filter fun w => w.1 != q }.ends asn 0 fun p => { p with status := St.success, result := 0, data := [] }

omit hs in
theorem State.resumeEnd_thaws {u : State} {q to_ : Nat} {x : Sq} (hu : u.slots.find? asn = some sl) (ht : sl.traced = false) :
    u.resumeEnd q asn x to_ = u.thawed q asn x to_ :=
  State.partOk_gives (s := { u with
    sqs := u.sqs.insert q { x with
      state := .running, resume := none, head := to_, headWaiting := false, attemptTime := 0, drawWait := none
      drawFailed := none }
    waiters := u.waiters.filter fun w => w.1 != q }) hu ht 0 []

end

section
variable {s : State} {asn q to_ : Nat} {x : Sq} {flush : Bool} {entries : List (BitVec 512)}

/-- One entry is flushed while the completion queue has room. -/
theorem State.flushPost_one {c : Cq} {e : BitVec 512} (hc : s.cqs.find? x.cq = some c) (hfull : c.full = false) (hheld : c.held = []) :
    s.flushPost q x to_ [e] = (s.putEntry x.cq q to_ 0 St.queueFlushed (eCid e), 1) := by
  unfold State.flushPost
  split
  · next hnone => exact nomatch hnone.symm.trans hc
  · next d hd =>
    obtain rfl := Option.some.inj (hd.symm.trans hc)
    rw [hfull, hheld]
    rfl

theorem State.flushPost_full {c : Cq} {e : BitVec 512} (hc : s.cqs.find? x.cq = some c) (hfull : c.full = true) :
    s.flushPost q x to_ [e] = (s, 0) := by
  unfold State.flushPost
  split
  · rfl
  · next d hd =>
    obtain rfl := Option.some.inj (hd.symm.trans hc)
    exact if_pos (by rw [hfull]; rfl)

variable (hx : s.sqs.find? q = some x) (hres : x.resume = some (asn, flush, to_))
include hx hres

theorem execQueueResumeExecute_eq : exec (.queueResumeExecute q entries) s = .next (
    if s.slots.entries.any fun e => e.2.sq == q && !e.2.orphan then s
    else if !flush then s.resumeEnd q asn x to_
    else if (s.flushPost q x to_ (entries.take ((to_ + x.size - x.head) % max 1 x.size))).2 = (to_ + x.size - x.head) % max 1 x.size then
      (s.flushPost q x to_ (entries.take ((to_ + x.size - x.head) % max 1 x.size))).1.resumeEnd q asn x to_
    else
      { (s.flushPost q x to_ (entries.take ((to_ + x.size - x.head) % max 1 x.size))).1 with
        sqs := (s.flushPost q x to_ (entries.take ((to_ + x.size - x.head) % max 1 x.size))).1.sqs.insert q { x with
          head := (x.head + (s.flushPost q x to_ (entries.take ((to_ + x.size - x.head) % max 1 x.size))).2) % max 1 x.size } }) := by
  have hexec : exec (.queueResumeExecute q entries) s = execQueueResumeExecute q entries s := rfl
  rw [hexec, execQueueResumeExecute, hx]
  refine congrArg _ ?_
  dsimp only
  rw [hres]

theorem execQueueResumeExecute_waits (h : ∃ e ∈ s.slots.entries, e.2.sq = q ∧ e.2.orphan = false) :
    exec (.queueResumeExecute q entries) s = .next s := by
  rw [execQueueResumeExecute_eq hx hres, if_pos]
  obtain ⟨e, he, hq, ho⟩ := h
  exact List.any_eq_true.2 ⟨e, he, by simp [hq, ho]⟩

variable (hall : ∀ e ∈ s.slots.entries, e.2.sq = q → e.2.orphan = true)
include hall

omit hx hres in
theorem State.no_verb_left : ¬ (s.slots.entries.any fun e => e.2.sq == q && !e.2.orphan) = true := by
  intro h
  obtain ⟨e, he, hp⟩ := List.any_eq_true.1 h
  simp only [Bool.and_eq_true, beq_iff_eq, Bool.not_eq_true'] at hp
  exact Bool.false_ne_true (hp.2.symm.trans (hall e he hp.1))

theorem execQueueResumeExecute_drops (hf : flush = false) :
    exec (.queueResumeExecute q entries) s = .next (s.resumeEnd q asn x to_) := by
  rw [execQueueResumeExecute_eq hx hres, if_neg (State.no_verb_left hall), hf]
  rfl

/-- A flush that has come to its entry. -/
theorem execQueueResumeExecute_flushed (hf : flush = true) {u : State} {n : Nat} (hn : (to_ + x.size - x.head) % max 1 x.size = n)
    (hp : s.flushPost q x to_ (entries.take n) = (u, n)) :
    exec (.queueResumeExecute q entries) s = .next (u.resumeEnd q asn x to_) := by
  rw [execQueueResumeExecute_eq hx hres, if_neg (State.no_verb_left hall), hf, hn, hp]
  exact congrArg _ (if_pos rfl)

/-- A flush that the completion queue holds up. -/
theorem execQueueResumeExecute_held (hf : flush = true) {u : State} {n k : Nat} (hn : (to_ + x.size - x.head) % max 1 x.size = n)
    (hp : s.flushPost q x to_ (entries.take n) = (u, k)) (hk : k ≠ n) : exec (.queueResumeExecute q entries) s =
      .next { u with sqs := u.sqs.insert q { x with head := (x.head + k) % max 1 x.size } } := by
  rw [execQueueResumeExecute_eq hx hres, if_neg (State.no_verb_left hall), hf, hn, hp]
  exact congrArg _ (if_neg hk)

end

/-- Settles O55: the time-out and ABORT by the commit point of the verb, and the two ways of QUEUE RESUME. -/
theorem verbsEndEarly : Obligations.VerbsEndEarly := by
  unfold Obligations.VerbsEndEarly
  intro s asn sl hs
  refine ⟨execVerbTimeout_over hs, fun hd ho => ⟨fun hl => ?_, fun hl h1 h5 => ?_⟩, fun hr ht => ?_,
    fun q x flush to_ entries hx hres ht => ?_⟩
  · rw [execVerbTimeout_settles hs hd ho, if_neg (by simp [hl]), State.modSlot_eq hs]
  · rw [execVerbTimeout_settles hs hd ho, if_pos hl, State.dropLadders_of_noRead h1 h5]
  · intro ended fails q
    refine ⟨fun hop h => execAbort_none hs hop hr ht h, fun t hop h => ⟨execAbort_decided hs hop hr ht h,
      execAbort_committed hs hop hr ht h, execAbort_aborts hs hop hr ht h⟩, fun hop x hq hx => ⟨fun hrun ha => ?_,
      fun hfrozen ha hlt hle => ?_, fun hfrozen ha => ?_⟩⟩
    · exact congrArg _ (State.resumeStart_refused hs hop hr ht ha (State.resumeCheck_running hq hx hrun))
    · exact congrArg _ (State.resumeStart_accepted hs hop hr ha (State.resumeCheck_frozen hq hx hfrozen fun _ => ⟨hlt, hle⟩))
    · exact congrArg _ (State.resumeStart_accepted hs hop hr ha
        (State.resumeCheck_frozen hq hx hfrozen fun hzero => absurd (hzero.symm.trans ha) (by decide)))
  · have hthaw : ∀ u : State, u.slots = s.slots → u.resumeEnd q asn x to_ = u.thawed q asn x to_ := fun u hu =>
      State.resumeEnd_thaws (by rw [hu]; exact hs) ht
    refine ⟨execQueueResumeExecute_waits hx hres, fun hall => ⟨fun hf => ?_, fun hf hn => ?_, fun e c hf he hn hc hfull hheld => ?_,
      fun e c hf he hn hc hfull => ?_⟩⟩
    · exact (execQueueResumeExecute_drops hx hres hall hf).trans (congrArg _ (hthaw s rfl))
    · exact (execQueueResumeExecute_flushed hx hres hall hf hn (u := s) rfl).trans (congrArg _ (hthaw s rfl))
    · obtain ⟨c', -, hrep, -⟩ := State.putEntry_spec hc q to_ 0 St.queueFlushed (eCid e)
      have hpost : s.flushPost q x to_ (entries.take 1) =
          (s.putEntry x.cq q to_ 0 St.queueFlushed (eCid e), 1) := by
        rw [he]
        exact State.flushPost_one hc hfull hheld
      refine (execQueueResumeExecute_flushed hx hres hall hf hn hpost).trans (congrArg _ (hthaw _ ?_))
      have hslots := Reported.slots hrep
      exact hslots
    · have hpost : s.flushPost q x to_ (entries.take 1) = (s, 0) := by
        rw [he]
        exact State.flushPost_full hc hfull
      exact execQueueResumeExecute_held hx hres hall hf hn hpost (by decide)

end Sys2Proof.Machine

/-! PROOFS. O57: MCTP packets and control commands (14 R448, R450, R452). -/

namespace Sys2Proof.Machine

/-! ### Packets (14 R448) -/

section
variable {s : State} {m : MgmtState} {eid : BitVec 8} {som eom : Bool} {seq : BitVec 2} {tag : BitVec 3} {body : List Byte}

theorem execMctpPacketReceive_good (h : s.shut = false) : exec (.mctpPacketReceive eid true som eom seq tag body) s =
    .next { s with mgmt := assemble s.mgmt eid som eom seq tag body } := hostDoes_open h

theorem execMctpPacketReceive_bad (h : s.shut = false) : exec (.mctpPacketReceive eid false som eom seq tag body) s =
    .next (s.bump Obj.pecErrorCount 0) := hostDoes_open h

/-- The message in hand once a packet has been added to what there was. -/
def MgmtState.extended (m : MgmtState) (eid : BitVec 8) (eom : Bool) (seq : BitVec 2) (tag : BitVec 3) (bs : List Byte) : MgmtState :=
  if 4160 < bs.length then { m with assembling := none }
  else if eom then { m with assembling := none, message := some (eid, bs) }
  else { m with assembling := some (eid, tag, seq + 1, bs) }

theorem assemble_first : assemble m eid true eom seq tag body = m.extended eid eom seq tag body := rfl

theorem assemble_continues {bs : List Byte} (h : m.assembling = some (eid, tag, seq, bs)) :
    assemble m eid false eom seq tag body = m.extended eid eom seq tag (bs ++ body) := by
  unfold assemble
  rw [if_neg Bool.false_ne_true, h]
  dsimp only
  rw [if_pos ⟨rfl, rfl, rfl⟩]
  rfl

theorem assemble_discards {e : BitVec 8} {t : BitVec 3} {n : BitVec 2} {bs : List Byte} (h : m.assembling = some (e, t, n, bs))
    (hne : ¬ (e = eid ∧ t = tag ∧ n = seq)) : assemble m eid false eom seq tag body = { m with assembling := none } := by
  unfold assemble
  rw [if_neg Bool.false_ne_true, h]
  dsimp only
  rw [if_neg hne]

theorem MgmtState.extended_long {bs : List Byte} (h : 4160 < bs.length) :
    m.extended eid eom seq tag bs = { m with assembling := none } := if_pos h

theorem MgmtState.extended_last {bs : List Byte} (h : bs.length ≤ 4160) (he : eom = true) :
    m.extended eid eom seq tag bs = { m with assembling := none, message := some (eid, bs) } :=
  (if_neg (Nat.not_lt.2 h)).trans (if_pos he)

theorem MgmtState.extended_more {bs : List Byte} (h : bs.length ≤ 4160) (he : eom = false) :
    m.extended eid eom seq tag bs = { m with assembling := some (eid, tag, seq + 1, bs) } :=
  (if_neg (Nat.not_lt.2 h)).trans (if_neg (by rw [he]; exact Bool.false_ne_true))

end

/-! ### Requests (14 R450, R452) -/

section
variable {s : State} {src op tag : BitVec 8} {f : Nat → State → State}

theorem linkDoes_full (h : s.shut = false) (hfull : (s.countStranger src).linkFull src = true) :
    linkDoes src op tag f s = .next ((s.countStranger src).bump Obj.unknownDroppedCount 0) :=
  (hostDoes_open h).trans (congrArg _ (if_pos hfull))

theorem linkDoes_accepted (h : s.shut = false) (hfull : (s.countStranger src).linkFull src = false) :
    linkDoes src op tag f s =
      .next (f (s.countStranger src).mgmt.nextReq ((s.countStranger src).linkAccept src op tag)) :=
  (hostDoes_open h).trans (congrArg _ (if_neg (by rw [hfull]; exact Bool.false_ne_true)))

/-- A command of the link whose request is dropped. -/
theorem exec_dropped {c : Instr} (g : State → Res) (hc : exec c s = g s) (hg : g = linkDoes src op tag f) (h : s.shut = false)
    (hfull : (s.countStranger src).linkFull src = true) :
    exec c s = .next ((s.countStranger src).bump Obj.unknownDroppedCount 0) := by
  rw [hc, hg, linkDoes_full h hfull]

/-- A command of the link whose request is accepted. -/
theorem exec_accepted {c : Instr} (g : State → Res) (hc : exec c s = g s) (hg : g = linkDoes src op tag f) (h : s.shut = false)
    (hfull : (s.countStranger src).linkFull src = false) :
    exec c s = .next (f (s.countStranger src).mgmt.nextReq ((s.countStranger src).linkAccept src op tag)) := by
  rw [hc, hg, linkDoes_accepted h hfull]

theorem State.countStranger_manager (h : s.isManager src = true) : s.countStranger src = s := if_pos h

/-- Counting a stranger changes the counts of strangers only. -/
theorem State.countStranger_frame : ∃ k n, s.countStranger src = { s with mgmt := { s.mgmt with strangers := k, second := n } } := by
  unfold State.countStranger
  split
  · exact ⟨s.mgmt.strangers, s.mgmt.second, rfl⟩
  · exact ⟨_, _, rfl⟩

/-- The answer to the only request outstanding is held at once. -/
theorem State.linkAnswer_only {r : LinkReq} {n : Nat} {body : List Byte} (hr : s.mgmt.reqs = [r]) (hn : r.id = n) :
    s.linkAnswer n body = { s with mgmt := { s.mgmt with
      reqs := [], held := s.mgmt.held ++ [(r.eid, body, s.now)] } } := by
  have hfind : s.mgmt.reqs.find? (fun x => x.id == n) = some r := by
    rw [hr, List.find?_cons, hn, beq_self_eq_true]
  have hrelease : releaseReqs r.eid (s.mgmt.reqs.map fun x => if x.id = n then { x with answer := some body } else x) =
      ([], [body]) := by
    rw [hr, List.map_cons, if_pos hn]
    exact if_pos rfl
  unfold State.linkAnswer
  rw [hfind]
  dsimp only
  rw [hrelease]
  rfl

/-- The block once a control command's answer is held. -/
def State.controlAnswered (u : State) (src cmd st : BitVec 8) (data : List Byte) : State :=
  { u with mgmt := { u.mgmt with
    nextReq := u.mgmt.nextReq + 1, held := u.mgmt.held ++ [(src, [0, 0, cmd, st] ++ data, u.now)] } }

theorem State.control_accepted {cmd st : BitVec 8} {data : List Byte} (hr : s.mgmt.reqs = []) :
    (s.linkAccept src op tag).control s.mgmt.nextReq cmd st data = s.controlAnswered src cmd st data := by
  have hreqs : (s.linkAccept src op tag).mgmt.reqs = [{ id := s.mgmt.nextReq, eid := src, tag, op }] := by
    show s.mgmt.reqs ++ [_] = _
    rw [hr, List.nil_append]
  refine (State.linkAnswer_only hreqs rfl).trans ?_
  rw [State.controlAnswered, ← hr]
  rfl

/-- A control command that reads what no request changes. -/
theorem exec_control {c : Instr} {cmd st : BitVec 8} {data : State → List Byte} (g : State → Res) (hc : exec c s = g s)
    (hg : g = linkDoes src 0 0 fun n s => s.control n cmd st (data s)) (h : s.shut = false) (hfull : (s.countStranger src).linkFull src = false) (hr : s.mgmt.reqs = [])
    (hdata : data ((s.countStranger src).linkAccept src 0 0) = data s) :
    exec c s = .next ((s.countStranger src).controlAnswered src cmd st (data s)) := by
  have hreqs : (s.countStranger src).mgmt.reqs = [] := by
    obtain ⟨k, n, hseen⟩ := State.countStranger_frame (s := s) (src := src)
    rw [hseen]
    exact hr
  rw [exec_accepted g hc hg h hfull, hdata, State.control_accepted hreqs]

end

/-! ### Set Endpoint ID (14 R448, R452) -/

section
variable {s : State} {src eid : BitVec 8} (h : s.shut = false) (hfull : (s.countStranger src).linkFull src = false)
  (hr : s.mgmt.reqs = [])

/-- A Set Endpoint ID that is refused. -/
def State.eidRefuses (s : State) (src eid : BitVec 8) : Bool := eidRefused eid || (s.mgmt.eid != 0 && !(s.isManager src))

theorem State.linkAccept_eidRefuses {op tag : BitVec 8} :
    ((s.countStranger src).linkAccept src op tag).eidRefuses src eid = s.eidRefuses src eid := by
  obtain ⟨k, n, hseen⟩ := State.countStranger_frame (s := s) (src := src)
  rw [hseen]
  rfl

theorem State.eidRefuses_iff : s.eidRefuses src eid = true ↔
    eid.toNat < 8 ∨ eid = 0xFF ∨ (s.mgmt.eid ≠ 0 ∧ s.isManager src = false) := by
  simp only [State.eidRefuses, eidRefused, Bool.or_eq_true, decide_eq_true_eq, beq_iff_eq, Bool.and_eq_true, bne_iff_ne,
    Bool.not_eq_true', or_assoc]

include hr in
theorem State.countStranger_reqs : (s.countStranger src).mgmt.reqs = [] := by
  obtain ⟨k, n, hseen⟩ := State.countStranger_frame (s := s) (src := src)
  rw [hseen]
  exact hr

include h hfull hr

theorem execSetEndpointId_refused (href : s.eidRefuses src eid = true) :
    exec (.setEndpointId src eid) s = .next ((s.countStranger src).controlAnswered src 1 1 []) := by
  refine (exec_accepted (execSetEndpointId src eid) rfl rfl h hfull).trans (congrArg _ ((if_pos (State.linkAccept_eidRefuses.trans href)).trans ?_))
  exact State.control_accepted (State.countStranger_reqs hr)

theorem execSetEndpointId_accepted (href : s.eidRefuses src eid = false) : exec (.setEndpointId src eid) s =
    .next { s.countStranger src with mgmt := { (s.countStranger src).mgmt with
      eid := eid, nextReq := (s.countStranger src).mgmt.nextReq + 1
      held := (s.countStranger src).mgmt.held ++ [(src, [0, 0, 1, 0, 0, eid, 0], (s.countStranger src).now)] } } := by
  refine (exec_accepted (execSetEndpointId src eid) rfl rfl h hfull).trans (congrArg _ ((if_neg (Bool.eq_false_iff.1 (State.linkAccept_eidRefuses.trans href))).trans ?_))
  have hreqs := State.countStranger_reqs (src := src) hr
  exact State.control_accepted (s := (s.countStranger src).modMgmt fun m => { m with eid }) hreqs

end

/-- Settles O57: a packet by what is in hand, a request by the room for it, and each control command's answer. -/
theorem mctpPacketsAndControl : Obligations.MctpPacketsAndControl := by
  unfold Obligations.MctpPacketsAndControl
  intro s src hshut
  refine ⟨fun eid som eom seq tag body => ?_, fun hman => State.countStranger_manager hman, fun hfull => ?_,
    fun hfull hr code eid => ?_⟩
  · intro m run
    have hrun : run = _ := execMctpPacketReceive_good hshut
    have hgives : ∀ {k : MgmtState}, assemble s.mgmt eid som eom seq tag body = k → run = .next { s with mgmt := k } :=
      fun hk => by rw [hrun, hk]
    refine ⟨execMctpPacketReceive_bad hshut, fun hs he hlen => hgives ?_, fun hs he hlen => hgives ?_,
      fun e t n bs hs hm => ⟨fun h1 h2 h3 hlen => ⟨fun he => hgives ?_, fun he => hgives ?_⟩, fun hbad => hgives ?_⟩⟩
    · rw [hs]
      exact assemble_first.trans (MgmtState.extended_last hlen he)
    · rw [hs]
      exact assemble_first.trans (MgmtState.extended_more hlen he)
    · subst hs h1 h2 h3
      exact (assemble_continues hm).trans (MgmtState.extended_last hlen he)
    · subst hs h1 h2 h3
      exact (assemble_continues hm).trans (MgmtState.extended_more hlen he)
    · subst hs
      by_cases hsame : e = eid ∧ t = tag ∧ n = seq
      · obtain ⟨rfl, rfl, rfl⟩ := hsame
        have hlong : 4160 < (bs ++ body).length := by simpa using hbad
        exact (assemble_continues hm).trans (MgmtState.extended_long hlong)
      · exact assemble_discards hm hsame
  · simp only [List.forall_mem_cons, List.not_mem_nil, false_implies, implies_true, and_true]
    exact ⟨exec_dropped (execGetEndpointId src) rfl rfl hshut hfull, exec_dropped (execGetEndpointUuid src) rfl rfl hshut hfull,
      exec_dropped (execGetMctpVersionSupport src) rfl rfl hshut hfull,
      exec_dropped (execGetMessageTypeSupport src) rfl rfl hshut hfull,
      exec_dropped (execGetVendorDefinedMsgSupport src) rfl rfl hshut hfull,
      exec_dropped (execMctpUnsupportedCommand src 0x42) rfl rfl hshut hfull,
      exec_dropped (execSetEndpointId src 9) rfl rfl hshut hfull,
      (linkDoes_full (op := 1) (tag := 0) (f := fun n s => s.linkObject src [1, 1] n) hshut hfull),
      (linkDoes_full (op := 2) (tag := 0) (f := fun n s => s.linkObject src [1, 2] n) hshut hfull)⟩
  · have hfixed := fun (c : Instr) (cmd st : BitVec 8) (data : List Byte) g hc hg =>
      exec_control (c := c) (src := src) (cmd := cmd) (st := st) (data := fun _ => data) g hc hg hshut hfull hr rfl
    refine ⟨exec_control (data := fun s => [s.mgmt.eid, 0, 0]) (execGetEndpointId src) rfl rfl hshut hfull hr ?_,
      hfixed _ 3 0 _ (execGetEndpointUuid src) rfl rfl, hfixed _ 4 0 _ (execGetMctpVersionSupport src) rfl rfl,
      hfixed _ 5 0 _ (execGetMessageTypeSupport src) rfl rfl, hfixed _ 6 0 _ (execGetVendorDefinedMsgSupport src) rfl rfl,
      hfixed _ code 5 [] (execMctpUnsupportedCommand src code) rfl rfl, fun href => ?_, fun hlo hff hmay => ?_⟩
    · obtain ⟨k, n, hseen⟩ := State.countStranger_frame (s := s) (src := src)
      rw [hseen]
      rfl
    · exact execSetEndpointId_refused hshut hfull hr (State.eidRefuses_iff.2 href)
    · refine execSetEndpointId_accepted hshut hfull hr (Bool.eq_false_iff.2 fun href => ?_)
      obtain hlt | hff' | ⟨hset, hman⟩ := State.eidRefuses_iff.1 href
      · omega
      · exact hff hff'
      · exact hmay.elim hset fun h => Bool.false_ne_true (hman.symm.trans h)

end Sys2Proof.Machine

/-! PROOFS. O58: object requests over the management link (14 R449, R450, R452). -/

namespace Sys2Proof.Machine

section
variable {s : State} {src : BitVec 8} {body : List Byte} {n : Nat}

/-! ### Serving a request -/

theorem State.linkReply_trusted {r : ObjAns} (h : r.status ≠ St.untrustedSource) : s.linkReply n r = s.linkAnswerObj n r :=
  congrArg (State.linkAnswerObj · n r) (if_neg h)

theorem State.linkObject_version (h : body.getD 0 0 ≠ 1) :
    s.linkObject src body n = s.linkAnswerObj n { status := St.invalidField } :=
  (if_pos h).trans (State.linkReply_trusted (by decide))

section
variable {write : Bool} (hop : body.getD 1 0 = 1 ∨ body.getD 1 0 = 2) (hw : (body.getD 1 0 == 2) = write)
include hop hw

theorem State.linkObject_bad (h : body.getD 0 0 = 1) (hb : linkBad body write = true) :
    s.linkObject src body n = s.linkAnswerObj n { status := St.invalidField } := by
  subst hw
  refine (if_neg (not_not_intro h)).trans ((if_neg fun hne => hop.elim hne.1 hne.2).trans ((if_pos hb).trans ?_))
  exact State.linkReply_trusted (by decide)

theorem State.linkObject_good (hb : linkBad body write = false) : s.linkObject src body n =
    match s.objTarget (s.isManager src) (linkAccess n body write) with
    | some d => s.forward d (linkAccess n body write)
    | none => (s.objDo (s.isManager src) none (linkAccess n body write)).1.linkReply n
        (s.objDo (s.isManager src) none (linkAccess n body write)).2 := by
  subst hw
  have hversion : body.getD 0 0 = 1 := by
    have hb := hb
    simp only [linkBad, Bool.or_eq_false_iff, bne_eq_false_iff_eq] at hb
    exact hb.1.1.2
  exact (if_neg (not_not_intro hversion)).trans ((if_neg fun hne => hop.elim hne.1 hne.2).trans (if_neg (Bool.eq_false_iff.1 hb)))

theorem State.linkObject_forwards {d : DieId} (hb : linkBad body write = false)
    (hd : s.objTarget (s.isManager src) (linkAccess n body write) = some d) :
    s.linkObject src body n = s.forward d (linkAccess n body write) := by
  refine (State.linkObject_good hop hw hb).trans ?_
  split
  · next e he => rw [Option.some.inj (he.symm.trans hd)]
  · next he => exact nomatch he.symm.trans hd

theorem State.linkObject_applies (hb : linkBad body write = false)
    (hd : s.objTarget (s.isManager src) (linkAccess n body write) = none) : s.linkObject src body n =
    (s.objDo (s.isManager src) none (linkAccess n body write)).1.linkReply n
      (s.objDo (s.isManager src) none (linkAccess n body write)).2 := by
  refine (State.linkObject_good hop hw hb).trans ?_
  split
  · next e he => exact nomatch he.symm.trans hd
  · rfl

end

/-! ### The two commands -/

theorem execMctpGetObject_other (h : body.getD 1 0 = 2) : exec (.mctpGetObject src body) s = .next s := by
  have hexec : exec (.mctpGetObject src body) s = execMctpGetObject src body s := rfl
  exact hexec.trans (if_pos h)

theorem execMctpSetObject_other (h : body.getD 1 0 = 1) : exec (.mctpSetObject src body) s = .next s := by
  have hexec : exec (.mctpSetObject src body) s = execMctpSetObject src body s := rfl
  exact hexec.trans (if_pos h)

section
variable (hshut : s.shut = false) (hfull : (s.countStranger src).linkFull src = false)
include hshut hfull

theorem execMctpGetObject_serves (h : body.getD 1 0 = 1) : exec (.mctpGetObject src body) s =
    .next (((s.countStranger src).linkAccept src (body.getD 1 0) (body.getD 2 0)).linkObject src body
      (s.countStranger src).mgmt.nextReq) := by
  have hexec : exec (.mctpGetObject src body) s = execMctpGetObject src body s := rfl
  exact hexec.trans ((if_neg (by rw [h]; decide)).trans (linkDoes_accepted hshut hfull))

theorem execMctpSetObject_serves (h : body.getD 1 0 = 2) : exec (.mctpSetObject src body) s =
    .next (((s.countStranger src).linkAccept src (body.getD 1 0) (body.getD 2 0)).linkObject src body
      (s.countStranger src).mgmt.nextReq) := by
  have hexec : exec (.mctpSetObject src body) s = execMctpSetObject src body s := rfl
  exact hexec.trans ((if_neg (by rw [h]; decide)).trans (linkDoes_accepted hshut hfull))

end

/-! ### Answers and held messages (14 R450) -/

theorem State.linkAnswerObj_only {q : LinkReq} {r : ObjAns} (hr : s.mgmt.reqs = [q]) (hn : q.id = n) :
    s.linkAnswerObj n r = { s with mgmt := { s.mgmt with
      reqs := [], held := s.mgmt.held ++ [(q.eid, linkBody q.op q.tag r, s.now)] } } := by
  have hfind : s.mgmt.reqs.find? (fun x => x.id == n) = some q := by
    rw [hr, List.find?_cons, hn, beq_self_eq_true]
  unfold State.linkAnswerObj
  rw [hfind]
  exact State.linkAnswer_only hr hn

theorem State.dropHeld_cons {h : BitVec 8 × List Byte × Nat} {rest : List (BitVec 8 × List Byte × Nat)}
    (hh : s.mgmt.held = h :: rest) :
    s.dropHeld = { s with mgmt := { s.mgmt with held := rest, attempts := 0, waitUs := none, gaveUp := false } } := by
  rw [State.dropHeld, State.modMgmt, hh]
  rfl

theorem execMctpResponseRead_cons (hshut : s.shut = false) {h : BitVec 8 × List Byte × Nat}
    {rest : List (BitVec 8 × List Byte × Nat)} (hh : s.mgmt.held = h :: rest) :
    exec .mctpResponseRead s = .next (s.dropHeld.emit (.mctp h.1 h.2.1)) := by
  have hexec : exec .mctpResponseRead s = execMctpResponseRead s := rfl
  rw [hexec, execMctpResponseRead, hostDoes_open hshut, hh]

theorem execMctpResponseRead_nil (hshut : s.shut = false) (hh : s.mgmt.held = []) : exec .mctpResponseRead s = .next s := by
  have hexec : exec .mctpResponseRead s = execMctpResponseRead s := rfl
  rw [hexec, execMctpResponseRead, hostDoes_open hshut, hh]

end

/-- Settles O58: the other command's bodies, a request by its body and its entry's owner, and the answers held. -/
theorem mctpObjectRequests : Obligations.MctpObjectRequests := by
  unfold Obligations.MctpObjectRequests
  intro s src body hshut seen op tag n request taken run
  refine ⟨execMctpSetObject_other, execMctpGetObject_other, fun hfull => ?_, fun hr r => ?_,
    fun h rest hh => ⟨?_, ?_⟩, execMctpResponseRead_nil hshut⟩
  · intro serves
    have hserves : ∀ c write, run c = .next (taken.linkObject src body n) → (op = 1 ∨ op = 2) → (op == 2) = write →
        serves c write := fun c write hrun hop hw =>
      ⟨fun hv => hrun.trans (congrArg _ (State.linkObject_version hv)),
        fun hv hb => hrun.trans (congrArg _ (State.linkObject_bad hop hw hv hb)),
        fun hb => ⟨fun d hd => hrun.trans (congrArg _ (State.linkObject_forwards hop hw hb hd)),
          fun hd => hrun.trans (congrArg _ (State.linkObject_applies hop hw hb hd))⟩⟩
    exact ⟨fun hop => hserves _ _ (execMctpGetObject_serves hshut hfull hop) (.inl hop) (by rw [hop]; rfl),
      fun hop => hserves _ _ (execMctpSetObject_serves hshut hfull hop) (.inr hop) (by rw [hop]; rfl)⟩
  · exact State.linkAnswerObj_only hr rfl
  · exact (execMctpResponseRead_cons hshut hh).trans (congrArg _ (congrArg (State.emit · _) (State.dropHeld_cons hh)))
  · exact congrArg Host.Outcome.next (State.dropHeld_cons hh)

end Sys2Proof.Machine

/-! PROOFS. O59: in-band interrupts and the common command codes (14 R447, R451, R454). -/

namespace Sys2Proof.Machine

/-! ### In-band interrupts (14 R451) -/

section
variable {s : State}

theorem ibiWait_eq (n : Nat) : ibiWait n = 16 * min (2 ^ n) 256 := Nat.mul_comm ..

/-- No attempt is made: nothing is held, or a wait runs, or the attempts have ended. -/
def MgmtState.idle (m : MgmtState) : Prop := m.held = [] ∨ m.waitUs.isSome = true ∨ m.gaveUp = true

theorem MgmtState.idle_iff (m : MgmtState) : (m.held.isEmpty || m.waitUs.isSome || m.gaveUp) = true ↔ m.idle := by
  simp only [MgmtState.idle, Bool.or_eq_true, List.isEmpty_iff, or_assoc]

theorem State.ibiAttempt_silent (h : s.mgmt.idle ∨ s.mgmt.ibiEnabled = false ∨ s.mgmt.dynAddr = 0) : s.ibiAttempt = s := by
  refine if_pos ?_
  simp only [Bool.or_eq_true, Bool.not_eq_true', beq_iff_eq]
  obtain h | h | h := h
  · exact .inl (.inl (by simpa only [Bool.or_eq_true] using s.mgmt.idle_iff.2 h))
  · exact .inl (.inr h)
  · exact .inr h

theorem State.ibiAttempt_raises (hi : ¬ s.mgmt.idle) (he : s.mgmt.ibiEnabled = true) (ha : s.mgmt.dynAddr ≠ 0) :
    s.ibiAttempt = s.emit .ibi := by
  refine if_neg fun h => ?_
  simp only [Bool.or_eq_true, Bool.not_eq_true', beq_iff_eq] at h
  obtain (h | h) | h := h
  · exact hi (s.mgmt.idle_iff.1 (by simpa only [Bool.or_eq_true] using h))
  · exact Bool.false_ne_true (h.symm.trans he)
  · exact ha h

theorem State.ibiAttempt_frame : s.ibiAttempt.alerts = s.alerts ∧ s.ibiAttempt.mgmt = s.mgmt := by
  unfold State.ibiAttempt
  split <;> exact ⟨rfl, rfl⟩

/-- The message that sources of alerts become. -/
def alertMessage (alerts : List Nat) : List Byte :=
  [1, 0x90, 0, if (alerts.drop 16).isEmpty then 0 else 1, BitVec.ofNat 8 (alerts.take 16).length, 0, 0, 0] ++
    (alerts.take 16).flatMap (leBytes 2)

theorem State.gatherAlerts_none (h : s.alerts = []) : s.gatherAlerts = s := if_pos (by rw [h]; rfl)

theorem State.gatherAlerts_some (h : s.alerts ≠ []) (hm : s.getN Obj.managerEid 0 ≠ 0)
    (hroom : s.mgmt.held.length + s.mgmt.reqs.length < 8) : s.gatherAlerts = { s with
      alerts := s.alerts.drop 16
      mgmt := { s.mgmt with
        held := s.mgmt.held ++ [(BitVec.ofNat 8 (s.getN Obj.managerEid 0), alertMessage s.alerts, s.now)] } } := by
  refine if_neg ?_
  simp only [Bool.or_eq_true, List.isEmpty_iff, beq_iff_eq, decide_eq_true_eq]
  exact fun hor => hor.elim (fun h' => h'.elim h hm) (by omega)

theorem execIbiRaise_open (h : s.shut = false) : exec .ibiRaise s = .next s.gatherAlerts.ibiAttempt := by
  have hexec : exec .ibiRaise s = execIbiRaise s := rfl
  rw [hexec, execIbiRaise, hostDoes_open h]

theorem State.bump_mgmt_comm (o : ObjDef) (i : Nat) (m : MgmtState) :
    { s.bump o i with mgmt := m } = ({ s with mgmt := m } : State).bump o i := by
  unfold State.bump State.bumpSub State.putSub
  dsimp only
  split
  · next h => exact (if_pos h).symm
  · next h => exact (if_neg h).symm

/-- One failed attempt, by the limit of attempts. -/
def State.ibiLost (s : State) : State :=
  if s.getN Obj.ibiRetryLimit 0 ≤ s.mgmt.attempts + 1 then
    ((s.bump Obj.ibiLostCount 0).modMgmt fun m => { m with attempts := s.mgmt.attempts + 1, gaveUp := true }).bump
      Obj.ibiGiveupCount 0 |>.raise 0 Ev.mctpIbiGiveup
  else (s.bump Obj.ibiLostCount 0).modMgmt fun m =>
    { m with attempts := s.mgmt.attempts + 1, waitUs := some (ibiWait s.mgmt.attempts) }

theorem execIbiFailed_open (h : s.shut = false) : exec .ibiFailed s =
    .next (if s.mgmt.held.isEmpty || s.mgmt.waitUs.isSome || s.mgmt.gaveUp then s else s.ibiLost) := by
  have hexec : exec .ibiFailed s = execIbiFailed s := rfl
  have hlimit : (s.bump Obj.ibiLostCount 0).getN Obj.ibiRetryLimit 0 = s.getN Obj.ibiRetryLimit 0 :=
    congrArg Int.toNat (State.bump_get_ne s (by decide) (by decide) (by decide))
  rw [hexec, execIbiFailed, hostDoes_open h, State.ibiLost, ← hlimit]

theorem State.ibiLost_waits (h : s.mgmt.attempts + 1 < s.getN Obj.ibiRetryLimit 0) : s.ibiLost =
    { s.bump Obj.ibiLostCount 0 with mgmt := { s.mgmt with
      attempts := s.mgmt.attempts + 1, waitUs := some (ibiWait s.mgmt.attempts) } } := by
  have hmgmt : (s.bump Obj.ibiLostCount 0).mgmt = s.mgmt := State.putSub_mgmt ..
  rw [State.ibiLost, if_neg (Nat.not_le.2 h), State.modMgmt, hmgmt]

/-- R451: the last attempt's failure ends the attempts, is counted and reported. -/
theorem State.ibiLost_gives (h : s.getN Obj.ibiRetryLimit 0 ≤ s.mgmt.attempts + 1) :
    s.ibiLost.mgmt = { s.mgmt with attempts := s.mgmt.attempts + 1, gaveUp := true } ∧
    Logged 0 Ev.mctpIbiGiveup.src Ev.mctpIbiGiveup s s.ibiLost ∧
    Reported [Obj.ibiLostCount, Obj.ibiGiveupCount] 0 { s with mgmt := s.ibiLost.mgmt } s.ibiLost := by
  have hmgmt : (s.bump Obj.ibiLostCount 0).mgmt = s.mgmt := State.putSub_mgmt ..
  rw [State.ibiLost, if_pos h, State.modMgmt, hmgmt, State.bump_mgmt_comm]
  generalize hm : ({ s.mgmt with attempts := s.mgmt.attempts + 1, gaveUp := true } : MgmtState) = m
  generalize hu : (State.bump { s with mgmt := m } Obj.ibiLostCount 0).bump Obj.ibiGiveupCount 0 = u
  have hdie : u.die 0 = s.die 0 := hu ▸ (State.bump_die ..).trans (State.bump_die ..)
  have hbump : Reported [Obj.ibiLostCount, Obj.ibiGiveupCount] 0 { s with mgmt := m } u :=
    hu ▸ (State.bump_reported [Obj.ibiLostCount, Obj.ibiGiveupCount] _ 0 _ 0 1 (by decide) (.inr (by decide))).trans
      (State.bump_reported [Obj.ibiLostCount, Obj.ibiGiveupCount] _ 0 _ 0 1 (by decide) (.inr (by decide)))
  have hall := hbump.trans (State.raise_reported _ u 0 Ev.mctpIbiGiveup [] (.inl (by decide)))
  have hend : (u.raise 0 Ev.mctpIbiGiveup).mgmt = m :=
    congrArg State.mgmt (a₁ := State.side _ (u.raise 0 Ev.mctpIbiGiveup)) hall.1
  refine ⟨hend, ?_, ?_⟩
  · exact State.raise_logs u _ [] (.inl (by decide)) (by decide) (by rw [hdie]) (by rw [hdie]) rfl
  · rw [hend]
    exact hall

theorem execIbiRetryWaitEnd_open (h : s.shut = false) : exec .ibiRetryWaitEnd s =
    .next (if s.mgmt.waitUs.isSome then (s.modMgmt fun m => { m with waitUs := none }).ibiAttempt else s) := by
  have hexec : exec .ibiRetryWaitEnd s = execIbiRetryWaitEnd s := rfl
  rw [hexec, execIbiRetryWaitEnd, hostDoes_open h]

end

/-! ### Common command codes (14 R447) -/

theorem staticAddr_iff {h : HostRegs} {a : BitVec 7} : a = h.staticAddr ↔ a.toNat = 0x30 + h.strapSa.toNat := by
  have hlt := h.strapSa.isLt
  have haddr : h.staticAddr.toNat = 0x30 + h.strapSa.toNat := by
    simp only [HostRegs.staticAddr, BitVec.toNat_add, BitVec.toNat_setWidth, BitVec.ofNat_eq_ofNat, BitVec.toNat_ofNat]
    omega
  rw [← haddr]
  exact BitVec.toNat_inj.symm

theorem be16_eq (v : BitVec 16) : be16 v = [BitVec.ofNat 8 (v.toNat / 256), BitVec.ofNat 8 (v.toNat % 256)] := by
  have hhigh : (v >>> 8).setWidth 8 = BitVec.ofNat 8 (v.toNat / 256) := by
    refine BitVec.eq_of_toNat_eq ?_
    simp only [BitVec.toNat_setWidth, BitVec.toNat_ushiftRight, BitVec.toNat_ofNat, Nat.shiftRight_eq_div_pow]
  have hlow : v.setWidth 8 = BitVec.ofNat 8 (v.toNat % 256) := by
    refine BitVec.eq_of_toNat_eq ?_
    simp only [BitVec.toNat_setWidth, BitVec.toNat_ofNat]
    omega
  rw [be16, hhigh, hlow]

/-- Settles O59: the attempts with their waits and their end, and each command code. -/
theorem i3cInterruptsAndCodes : Obligations.I3cInterruptsAndCodes := by
  unfold Obligations.I3cInterruptsAndCodes
  intro s hshut m idle
  refine ⟨ibiWait_eq, fun hnone => ⟨fun hsilent => ?_, fun hi he ha => ?_⟩, fun a rest halerts hman hroom => ?_, fun hi => ?_,
    fun hi hlt => ?_, fun hi hle => ?_, fun hw => ?_, fun hw hheld hgave he ha => ?_, fun addr => ?_, fun static addr => ?_,
    hostDoes_open hshut, fun v => ⟨hostDoes_open hshut, hostDoes_open hshut, rfl⟩, ?_, ?_, ?_, hostDoes_open hshut, ?_, ?_,
    fun v => ⟨hostDoes_open hshut, hostDoes_open hshut⟩⟩
  · rw [execIbiRaise_open hshut, State.gatherAlerts_none hnone, State.ibiAttempt_silent hsilent]
  · rw [execIbiRaise_open hshut, State.gatherAlerts_none hnone, State.ibiAttempt_raises hi he ha]
  · refine ⟨_, execIbiRaise_open hshut, ?_⟩
    obtain ⟨hrest, hmgmt⟩ := State.ibiAttempt_frame (s := s.gatherAlerts)
    rw [hrest, hmgmt, State.gatherAlerts_some (by rw [halerts]; exact List.cons_ne_nil _ _) hman hroom]
    exact ⟨rfl, _, rfl, rfl⟩
  · rw [execIbiFailed_open hshut, if_pos (m.idle_iff.2 hi)]
  · rw [execIbiFailed_open hshut, if_neg fun h => hi (m.idle_iff.1 h), State.ibiLost_waits hlt]
  · refine ⟨s.ibiLost, ?_, State.ibiLost_gives hle⟩
    rw [execIbiFailed_open hshut, if_neg fun h => hi (m.idle_iff.1 h)]
  · rw [execIbiRetryWaitEnd_open hshut, if_neg (by simp [show s.mgmt.waitUs = none from hw])]
  · rw [execIbiRetryWaitEnd_open hshut, if_pos hw]
    refine congrArg _ (State.ibiAttempt_raises (s := s.modMgmt fun m => { m with waitUs := none }) ?_ he ha)
    rintro (h | h | h)
    · exact hheld h
    · exact Bool.false_ne_true h
    · exact Bool.false_ne_true (hgave.symm.trans h)
  · exact hostDoes_open hshut
  · refine (hostDoes_open hshut).trans (congrArg _ ?_)
    simp only [staticAddr_iff]
    rfl
  · refine ⟨_, hostDoes_open hshut, ?_, ?_⟩
    · rw [List.length_append, length_sliceBytes, List.length_reverse, length_leBytes]
    · exact List.drop_left' (length_sliceBytes ..)
  · exact ⟨_, hostDoes_open hshut, by simp, by simp⟩
  · exact ⟨_, hostDoes_open hshut⟩
  · rw [← be16_eq]
    exact hostDoes_open hshut
  · rw [← be16_eq]
    exact hostDoes_open hshut

end Sys2Proof.Machine

/-! PROOFS. O60: flits, credits and the loss of links (01 R33 to R41; 11 R343; 12 R374; 20 R583). -/

namespace Sys2Proof.Machine

/-! ### Isolation leaves the links and the other dies' lives (20 R583) -/

section
variable {s : State} {d e : DieId}

/-- Posting touches no link. -/
theorem State.links_posting : Posting fun s t : State => t.linksDown = s.linksDown :=
  ⟨fun h k => k.trans h, fun _ _ h => h, fun _ => rfl⟩

theorem State.failParts_links : (s.failParts d).linksDown = s.linksDown :=
  State.links_posting.failParts (fun _ _ => rfl) fun s sl => by
    unfold State.ingressBack
    split <;> rfl

theorem State.snapDone_links : s.snapDone.linksDown = s.linksDown :=
  State.links_posting.snapDone (fun _ _ => rfl) fun s sl => by
    unfold State.ingressBack
    split <;> rfl

/-- Also an event of the anchor's own sources (16 R499). -/
theorem State.raiseFuel_links {fuel n : Nat} {k : EventKind} {data : List (Nat × Int)} :
    (s.raiseFuel fuel d n k data).linksDown = s.linksDown := by
  induction fuel generalizing s d n k data with
  | zero => rfl
  | succ fuel ih =>
    unfold State.raiseFuel
    extract_lets src by_ u v r
    have hlog : (s.logEvent by_ src k data).linksDown = s.linksDown := by
      unfold State.logEvent
      dsimp only
      split
      · exact (State.putSub_linksDown ..).trans rfl
      · rfl
    have hu : u.linksDown = s.linksDown := by
      simp only [u]
      split
      · rfl
      · exact hlog
    clear_value u
    have hv : v.linksDown = u.linksDown := by
      simp only [v]
      split
      · exact State.links_of_side (State.route_side [] ..)
      · rfl
    clear_value v
    have hr : r.1.linksDown = v.linksDown := by
      simp only [r, State.tally]
      split <;> rfl
    have hfold : ∀ (l : List Int) (w : State),
        (l.foldl (fun s i => s.raiseFuel fuel by_ 48 Ev.counterOverflow [(4, i)]) w).linksDown = w.linksDown := by
      intro l
      induction l with
      | nil => exact fun _ => rfl
      | cons i l ihl => exact fun w => (ihl _).trans ih
    split
    · rfl
    · exact (hfold _ _).trans (hr.trans (hv.trans hu))

theorem State.dropDraws_links : (s.dropDraws d).linksDown = s.linksDown := rfl

theorem Die.unit_apart : Apart fun _ : Die => () :=
  ⟨fun _ _ => rfl, fun _ _ => rfl, fun _ _ => rfl, fun _ _ _ => rfl, fun _ _ _ _ _ => rfl, fun _ _ => rfl, fun _ _ _ => rfl⟩

theorem State.isolate_links : (s.isolate d 2).linksDown = s.linksDown := by
  have ha := Die.unit_apart
  unfold State.isolate
  split
  · rfl
  · extract_lets up a b c e g k m n o
    have hsa : a.linksDown = s.linksDown := (StepFrame.calAbortIf (f := fun _ => ()) (os := []) ha.runs (by simp)).links
    have hb : b.linksDown = a.linksDown := StepFrame.links (f := fun _ => ()) (os := []) (d := d)
      (StepFrame.foldl (fun _ _ => .ite ((StepFrame.modHead ha.heads).trans (.count ha.obs (by simp))) .refl) _ _)
    clear_value b
    have hc : c.linksDown = b.linksDown := rfl
    clear_value c
    have he : e.linksDown = c.linksDown := State.dropDraws_links.trans State.failParts_links
    have hg : g.linksDown = e.linksDown := State.putSub_linksDown ..
    have hk : k.linksDown = g.linksDown := Wide.links (f := fun _ => ()) (.ite (Wide.phaseReferenceGone ha) .refl)
    have hm : m.linksDown = k.linksDown :=
      State.snapDone_links.trans State.raiseFuel_links
    have hn : n = m := if_neg (by simp)
    have ho : o.linksDown = n.linksDown := rfl
    have hend : ((o.unloadBoth d).spinStopCommand d).linksDown = o.linksDown :=
      ((Wide.unloadBoth ha).trans (.spinStopCommand ha)).links
    rw [hend, ho, hn, hm, hk, hg, he, hc]
    exact hb.trans hsa

theorem State.isolate_life_ne {cause : Nat} (he : e ≠ d) : ((s.isolate d cause).die e).life = (s.die e).life := by
  have ha := Die.life_apart
  unfold State.isolate
  split
  · rfl
  · extract_lets up a b c u g k m n o
    have hsa : Across Die.life s a := (Wide.of_step (.calAbortIf ha.runs (by simp))).across
    have hb : Across Die.life a b := .of_kept (KeptBy.foldl (fun _ _ => KeptBy.ite
      ((KeptBy.modHead ha.heads).trans (KeptBy.reported (fun _ _ => rfl) (State.count_reported [] _ d _ _))) .refl) _ _)
    have hc : c.die e = b.die e := State.modDie_die_ne b d e _ he
    have hu : Across Die.life c u := (Across.failParts ha.obs ha.back).trans .dropDraws
    have hg : Across Die.life u g := .put
    have hk : Across Die.life g k := .ite (Wide.phaseReferenceGone ha).across .refl
    have hm : Across Die.life k m := (Across.raise ha.obs).trans (.snapDone ha.obs ha.back)
    have hn : Across Die.life m n := .ite (State.beginSave_life m d) .refl
    have ho : Across Die.life n o := .modDie fun _ => rfl
    have hend : Across Die.life o ((o.unloadBoth d).spinStopCommand d) :=
      ((Wide.unloadBoth ha).trans (.spinStopCommand ha)).across
    have hlast := ((((((hu.trans hg).trans hk).trans hm).trans hn).trans ho).trans hend) e
    exact hlast.trans ((congrArg Die.life hc).trans ((hsa.trans hb) e))

theorem State.isolate_isolates {cause : Nat} : (s.isolate d cause).isolated d = true := by
  rw [State.isolated, State.isolate_life]
  rfl

theorem State.isolate_isolated_ne {cause : Nat} (he : e ≠ d) : (s.isolate d cause).isolated e = s.isolated e := by
  simp only [State.isolated, State.isolate_life_ne he]

end
/-! ### Dies without a route (01 R40) -/

section
variable {s t : State} {d f : DieId}

theorem State.within_congr (hp : t.part = s.part) (hl : t.linksDown = s.linksDown) (dst : DieId) (k : Nat) :
    t.within dst k = s.within dst k := by
  induction k with
  | zero => rfl
  | succ k ih =>
    have hup : ∀ e m, t.linkUp e m = s.linkUp e m := fun e m => by simp only [State.linkUp, State.neighbor, hp, hl]
    have hnext : ∀ e m, t.neighbor e m = s.neighbor e m := fun e m => by simp only [State.neighbor, hp]
    have hfit : t.fitted = s.fitted := funext fun e => by simp only [State.fitted, hp]
    simp only [State.within, State.modulesTo, State.fittedDies, hfit, hup, hnext, ih]

theorem State.routed_congr (hp : t.part = s.part) (hl : t.linksDown = s.linksDown) (e : DieId) : t.routed e = s.routed e := by
  rw [State.routed, State.routed, State.within_congr hp hl]

/-- A die without a route is isolated. -/
def State.isolateIf (s : State) (d : DieId) : State := if s.routed d then s else s.isolate d 2

theorem State.isolateIf_frame : (s.isolateIf d).linksDown = s.linksDown ∧ (s.isolateIf d).part = s.part := by
  unfold State.isolateIf
  split
  · exact ⟨rfl, rfl⟩
  · exact ⟨State.isolate_links, congrArg Fixed.part (State.isolate_fixed s d 2)⟩

theorem State.isolateIf_isolated (h : s.isolated f = true) : (s.isolateIf d).isolated f = true := by
  unfold State.isolateIf
  split
  · exact h
  · by_cases hf : f = d
    · rw [hf]
      exact State.isolate_isolates
    · rw [State.isolate_isolated_ne hf, h]

theorem State.isolateIf_unrouted (h : s.routed d = false) : (s.isolateIf d).isolated d = true := by
  rw [State.isolateIf, if_neg (by rw [h]; exact Bool.false_ne_true)]
  exact State.isolate_isolates

/-- The dies of a list that no route reaches are isolated, and no link differs. -/
theorem State.isolateIf_all (l : List DieId) : ∀ s : State,
    (l.foldl State.isolateIf s).linksDown = s.linksDown ∧
    ∀ f, (f ∈ l ∧ s.routed f = false) ∨ s.isolated f = true → (l.foldl State.isolateIf s).isolated f = true := by
  induction l with
  | nil => exact fun s => ⟨rfl, fun f h => h.elim (fun h => absurd h.1 List.not_mem_nil) id⟩
  | cons d l ih =>
    intro s
    obtain ⟨hlinks, hpart⟩ := State.isolateIf_frame (s := s) (d := d)
    obtain ⟨hrest, hall⟩ := ih (s.isolateIf d)
    refine ⟨hrest.trans hlinks, fun f h => hall f ?_⟩
    obtain ⟨hmem, hroute⟩ | hiso := h
    · obtain rfl | hmem := List.mem_cons.1 hmem
      · exact .inr (State.isolateIf_unrouted hroute)
      · exact .inl ⟨hmem, (State.routed_congr hpart hlinks f).trans hroute⟩
    · exact .inr (State.isolateIf_isolated hiso)

theorem State.isolateIf_routed (l : List DieId) (h : ∀ f ∈ l, s.routed f = true) : l.foldl State.isolateIf s = s := by
  induction l with
  | nil => rfl
  | cons d l ih =>
    rw [List.foldl_cons, State.isolateIf, if_pos (h d List.mem_cons_self)]
    exact ih fun f hf => h f (List.mem_cons_of_mem _ hf)

theorem State.isolateUnrouted_eq : s.isolateUnrouted = s.fittedDies.foldl State.isolateIf s := rfl

end

/-! ### The loss of a link (01 R40) -/

section
variable {s : State} {d e : DieId} {m : Fin 4}

theorem execFabricLinkDown_down (hd : s.fitted d = true) (h : s.linkUp d m = false) : exec (.fabricLinkDown d m) s = .next s := by
  refine (exec_onDie (execFabricLinkDown d m s) rfl rfl hd).trans (congrArg _ (if_pos ?_))
  rw [h]
  rfl

/-- The block with a link down and its events raised, before its unrouted dies are isolated. -/
def State.lostLink (s : State) (d : DieId) (m : Fin 4) : State :=
  (((s.raiseModule d m Ev.fabricRetryLimit).takeDown d m).raiseModule d m Ev.fabricLinkDown).raiseModule d m Ev.fabricRouteReload

theorem execFabricLinkDown_up (hd : s.fitted d = true) (h : s.linkUp d m = true) :
    exec (.fabricLinkDown d m) s = .next (s.lostLink d m).isolateUnrouted := by
  refine (exec_onDie (execFabricLinkDown d m s) rfl rfl hd).trans (congrArg _ (if_neg ?_))
  rw [h]
  decide

theorem State.takeDown_eq (hn : s.neighbor d m = some e) (hp : s.part ≠ .kz6420) :
    s.takeDown d m = { s with linksDown := s.linksDown ++ [(d, m), (e, s.peerModule m)] } := by
  unfold State.takeDown
  rw [hn]
  dsimp only
  rw [if_neg hp]

/-- The block with both ends of a link down. -/
def State.linkLost (s : State) (d : DieId) (m : Fin 4) (e : DieId) : State :=
  { s with linksDown := s.linksDown ++ [(d, m), (e, s.peerModule m)] }

/-- R40: what the loss of a link leaves before dies are isolated for it. -/
theorem State.lostLink_spec (hn : s.neighbor d m = some e) (hp : s.part ≠ .kz6420) :
    (s.lostLink d m).linksDown = s.linksDown ++ [(d, m), (e, s.peerModule m)] ∧ (s.lostLink d m).part = s.part ∧
    (s.lostLink d m).slots = s.slots ∧ ((s.lostLink d m).die d).life = (s.die d).life ∧
    ∀ f, f ≠ d → (s.lostLink d m).die f = s.die f := by
  have hfirst := State.raiseModule_reported [] s d m Ev.fabricRetryLimit []
  unfold State.lostLink
  generalize s.raiseModule d m Ev.fabricRetryLimit = v at *
  have hside : v.part = s.part ∧ v.linksDown = s.linksDown ∧ v.slots = s.slots :=
    ⟨congrArg State.part (a₁ := v.side []) (a₂ := s.side []) hfirst.1, State.links_of_side hfirst.1,
      congrArg State.slots (a₁ := v.side []) (a₂ := s.side []) hfirst.1⟩
  obtain ⟨hpart, hlinks, hslots⟩ := hside
  have hdown : v.takeDown d m = { v with linksDown := s.linksDown ++ [(d, m), (e, s.peerModule m)] } := by
    rw [State.takeDown_eq (e := e) (by rw [← hn]; simp only [State.neighbor, hpart]) (hpart ▸ hp), hlinks]
    simp only [State.peerModule, hpart]
  rw [hdown]
  generalize hu : ({ v with linksDown := s.linksDown ++ [(d, m), (e, s.peerModule m)] } : State) = u
  have hlast : Reported [] d u ((u.raiseModule d m Ev.fabricLinkDown).raiseModule d m Ev.fabricRouteReload) :=
    (State.raiseModule_reported [] u d m _ []).trans (State.raiseModule_reported [] _ d m _ [])
  generalize (u.raiseModule d m Ev.fabricLinkDown).raiseModule d m Ev.fabricRouteReload = t at *
  refine ⟨(State.links_of_side hlast.1).trans (hu ▸ rfl), ?_, ?_, ?_, fun f hf => ?_⟩
  · exact (congrArg State.part (a₁ := t.side []) (a₂ := u.side []) hlast.1).trans ((hu ▸ rfl : u.part = v.part).trans hpart)
  · exact (congrArg State.slots (a₁ := t.side []) (a₂ := u.side []) hlast.1).trans ((hu ▸ rfl : u.slots = v.slots).trans hslots)
  · exact (Gives.life hlast).trans ((hu ▸ rfl : (u.die d).life = (v.die d).life).trans (Gives.life hfirst))
  · exact (hlast.2.2 f hf).trans ((hu ▸ rfl : u.die f = v.die f).trans (hfirst.2.2 f hf))

end

/-! ### Flits (01 R35 to R39; 11 R343) -/

section
variable {s : State} {d : DieId} {m o : Fin 4} {hdr : BitVec 128}

theorem execFabricInvalidMessage_eq (hd : s.fitted d = true) : exec (.fabricInvalidMessage d m hdr) s =
    .next (if hdrInvalid hdr then s.setDie d { s.die d with linkErrors := (s.die d).linkErrors.modify m.val (· + 1) } else s) :=
  exec_onDie (execFabricInvalidMessage d m hdr s) rfl rfl hd

/-- The die that a flit is for, and the one it comes from. -/
def hdrTo (h : BitVec 128) : DieId := Fin.ofNat 8 (h.toNat % 8)

def hdrFrom (h : BitVec 128) : DieId := Fin.ofNat 8 (h.toNat / 8 % 8)

theorem execFabricFlitForward_eq (hd : s.fitted d = true) : exec (.fabricFlitForward d m hdr) s = .next (
    if hdrInvalid hdr || hdrTo hdr == d || hdrFrom hdr == d || !(s.linkUp d m) || !(s.fitted (hdrTo hdr)) ||
        !(s.fitted (hdrFrom hdr)) then s
    else
      match s.forwardModule d (hdrFrom hdr) (hdrTo hdr) with
      | none => s
      | some o =>
        if (((s.die d).credits.getD o.val {}).vc1 (fabricClass (hdrClass hdr))) = 0 then s
        else
          (((s.changeCredits d o (fabricClass (hdrClass hdr)) true (· - 1)).count d (0x0D4 + m.val)).count d (0x0D0 + o.val)).emit
            (.flit d o (hdr ||| (1#128 <<< 8)))) :=
  exec_onDie (execFabricFlitForward d m hdr s) rfl rfl hd

theorem execFabricFlitForward_invalid (hd : s.fitted d = true) (h : hdrInvalid hdr = true) :
    exec (.fabricFlitForward d m hdr) s = .next s := by
  rw [execFabricFlitForward_eq hd, h]
  rfl

section
variable (hd : s.fitted d = true) (hv : hdrInvalid hdr = false) (hto : hdrTo hdr ≠ d) (hfrom : hdrFrom hdr ≠ d)
  (hup : s.linkUp d m = true) (hft : s.fitted (hdrTo hdr) = true) (hff : s.fitted (hdrFrom hdr) = true)
  (ho : s.forwardModule d (hdrFrom hdr) (hdrTo hdr) = some o)
include hd hv hto hfrom hup hft hff ho

theorem execFabricFlitForward_routed : exec (.fabricFlitForward d m hdr) s = .next (
    if (((s.die d).credits.getD o.val {}).vc1 (fabricClass (hdrClass hdr))) = 0 then s
    else
      (((s.changeCredits d o (fabricClass (hdrClass hdr)) true (· - 1)).count d (0x0D4 + m.val)).count d (0x0D0 + o.val)).emit
        (.flit d o (hdr ||| (1#128 <<< 8)))) := by
  rw [execFabricFlitForward_eq hd, if_neg (by simp [hv, hto, hfrom, hup, hft, hff])]
  refine congrArg _ ?_
  split
  · next h => exact nomatch h.symm.trans ho
  · next p h =>
    obtain rfl := Option.some.inj (h.symm.trans ho)
    rfl

/-- R37 to R39: a flit goes on against a credit. -/
theorem execFabricFlitForward_goes (hc : ((s.die d).credits.getD o.val {}).vc1 (fabricClass (hdrClass hdr)) ≠ 0) :
    Runs (.fabricFlitForward d m hdr) s fun t =>
      Out.flit d o (hdr ||| (1#128 <<< 8)) ∈ t.out ∧ t.slots = s.slots ∧
      (t.die d).credits = (s.die d).credits.modify o.val (fun k => k.change (fabricClass (hdrClass hdr)) true (· - 1)) ∧
      ∀ e, e ≠ d → t.die e = s.die e := by
  refine ⟨_, (execFabricFlitForward_routed hd hv hto hfrom hup hft hff ho).trans (congrArg _ (if_neg hc)), List.mem_cons_self, ?_⟩
  generalize hu : s.changeCredits d o (fabricClass (hdrClass hdr)) true (· - 1) = u
  have hself : (u.die d).credits = (s.die d).credits.modify o.val (fun k => k.change (fabricClass (hdrClass hdr)) true (· - 1)) :=
    hu ▸ congrArg Die.credits (State.modDie_die_self s d _)
  have hne : ∀ e, e ≠ d → u.die e = s.die e := fun e he => hu ▸ State.modDie_die_ne s d e _ he
  have hslots : u.slots = s.slots := hu ▸ rfl
  have hcount : Reported [] d u ((u.count d (0x0D4 + m.val)).count d (0x0D0 + o.val)) :=
    (State.count_reported [] u d _ _).trans (State.count_reported [] _ d _ _)
  generalize (u.count d (0x0D4 + m.val)).count d (0x0D0 + o.val) = t at *
  refine ⟨?_, ?_, fun e he => (hcount.2.2 e he).trans (hne e he)⟩
  · exact (congrArg State.slots (a₁ := t.side []) (a₂ := u.side []) hcount.1).trans hslots
  · exact (congrArg Die.credits (a₁ := (t.die d).unreported) (a₂ := (u.die d).unreported) hcount.2.1).trans hself

end

/-- R38: in a package of four the second hop is on module 0. -/
theorem State.forwardModule_second {from_ to_ : DieId} (hl : s.linksDown = []) (hp : s.part = .kz6440)
    (hf : from_.val < 4) (h : from_.val + 2 = to_.val + 4 ∨ from_.val + 2 = to_.val)
    (hd : d.val = (from_.val + 1) % 4) : s.forwardModule d from_ to_ = some 0 := by
  have hdies : s.part.dies = 4 := by rw [hp]; rfl
  have hk : (to_.val + s.part.dies - from_.val) % s.part.dies = 2 := by
    rw [hdies]
    omega
  have hhop : s.neighbor from_ 0 = some d := by
    unfold State.neighbor
    rw [hp]
    refine congrArg some (Fin.ext ?_)
    show (from_.val + 1) % 4 % 8 = d.val
    omega
  have hfirst : firstHop s.part 2 = some 0 := by rw [hp]; rfl
  have hsecond : secondHop s.part 2 = some 0 := by rw [hp]; rfl
  unfold State.forwardModule
  rw [hl]
  refine (if_pos (show ([] : List (DieId × Fin 4)).isEmpty = true from rfl)).trans ?_
  dsimp only
  rw [hk, hfirst]
  exact (if_pos hhop).trans hsecond

end

/-- Settles O60: flits by their header and the credit they need, and the loss of a link by the routes that are left. -/
theorem fabricFlitsAndLinks : Obligations.FabricFlitsAndLinks := by
  unfold Obligations.FabricFlitsAndLinks
  intro s d m hdr hd x to_ from_ cls
  refine ⟨fun hv => ⟨?_, execFabricFlitForward_invalid hd hv⟩, fun hv => ?_, fun c vc n => ⟨?_, fun k => ?_⟩,
    fun hv hto hfrom hup hft hff => ⟨fun o ho => ⟨fun hc => ?_, execFabricFlitForward_goes hd hv hto hfrom hup hft hff ho⟩,
      fun hl hp hpair hvia => ?_⟩, execFabricLinkDown_down hd, fun e hup hn hp => ⟨fun hall => ?_, fun f hf hroute => ?_⟩,
    fun gts width ppm => rfl⟩
  · rw [execFabricInvalidMessage_eq hd, if_pos hv]
  · rw [execFabricInvalidMessage_eq hd, if_neg (by simp [hv])]
  · exact exec_onDie (execFabricCreditReturn d m c vc n s) rfl rfl hd
  · refine ⟨?_, ?_, ?_⟩
    · rintro rfl rfl
      rfl
    · rintro rfl rfl
      rfl
    · rintro rfl rfl
      rfl
  · exact (execFabricFlitForward_routed hd hv hto hfrom hup hft hff ho).trans (congrArg _ (if_pos hc))
  · refine State.forwardModule_second hl hp ?_ hpair hvia
    have hfit : from_.val < s.part.dies := by simpa [State.fitted] using hff
    rw [hp] at hfit
    exact hfit
  · obtain ⟨hlinks, hpart, hslots, hlife, hothers⟩ := State.lostLink_spec hn hp
    have hstay : (s.lostLink d m).isolateUnrouted = s.lostLink d m :=
      State.isolateIf_routed _ fun f hf => by
        have hfit : s.fitted f = true := by
          have := (State.mem_fittedDies _ f).1 hf
          rwa [State.fitted, hpart] at this
        exact (State.routed_congr (s := s.linkLost d m e) hpart hlinks f).trans (hall f hfit)
    refine ⟨_, execFabricLinkDown_up hd hup, ?_⟩
    rw [hstay]
    refine ⟨hlinks, hslots, hlife, ?_, hothers⟩
    rw [State.linkUp, hlinks]
    simp
  · obtain ⟨hlinks, hpart, -⟩ := State.lostLink_spec hn hp
    obtain ⟨hkept, hiso⟩ := State.isolateIf_all (s.lostLink d m).fittedDies (s.lostLink d m)
    refine ⟨_, execFabricLinkDown_up hd hup, hkept.trans hlinks, hiso f (.inl ⟨?_, ?_⟩)⟩
    · refine (State.mem_fittedDies _ f).2 ?_
      rw [State.fitted, hpart]
      exact hf
    · exact (State.routed_congr (s := s.linkLost d m e) hpart hlinks f).trans hroute

end Sys2Proof.Machine
